-- ==== Sys2Proof/Word.lean ====
section
/-! DEFINITION. The word types of the device: bytes, 32-bit and 64-bit words (R12, R13). -/

namespace Sys2Proof

/-- One byte of a register, frame, record or payload (R12). -/
abbrev Byte := BitVec 8

/-- A byte sequence, lowest address first (R12). -/
abbrev Bytes := List Byte

/-- A 32-bit register or scratchpad word (R486). -/
abbrev Word32 := BitVec 32

end Sys2Proof
end

