-- ==== Sys2Proof/Syntax.lean ====
section
/-! DEFINITION. The commands of the block: one constructor per row of spec/opcode_table.json. A row is a host
request, a register or bus transaction, or a happening at the balls or inside the part; what an analogue part of
the device reads or measures at a happening is an operand of its row (assumption 3). -/

namespace Sys2Proof

/-- The header of a host request as the mailbox frame carries it (Table HST.9), with the port it is submitted on.
`env` lists the readings that the converters deliver while the command runs (assumption 3). -/
structure Req where
  port : Nat
  tenant : Nat
  seq : Nat
  asyncOk : Bool
  waitQuiet : Bool
  persist : Bool
  env : List Int
deriving DecidableEq, Repr

/-- What one rotation step measures, in raw codes (R299, R300, R303): the spare's 64 conversions at each of the five points of the
reference DAC, its skew in steps of 0.5 ps, and the 64 pairs of a shadow and an active conversion at position p and at the next one: first
those on live conversions, then those on the reference DAC. -/
structure Rotation where
  points : List (List Int)
  skew : Int
  live : List (Int × Int)
  dac : List (Int × Int)
  liveNext : List (Int × Int)
  dacNext : List (Int × Int)
deriving DecidableEq, Repr

/-- The commands: those with operands first (the compiler numbers at most 244 constructors that carry fields), then those without. -/
inductive Instr where
  -- Architecture and modes
  | configurationRecall (bist : List (Nat × List Nat)) (reqLevels : Nat) (ecc : List Int)
  | nvReady (ecc : List Int)
  | holdup (sysMv : Nat) (resv : List Nat)
  | sysValidRestored (sysMv : Nat)
  | sysUv (sysMv : Nat) (also : List (Nat × Nat × Int))
  | dieOt (celsius : Nat) (also : List (Nat × Nat × Int))
  | batReverse (also : List (Nat × Nat × Int))
  | aonPor (mv : Nat)
  | wakeInQualified (n before : Nat)
  | shipWake (src mv batMv : Nat)
  | shipEntryFinish (late : List Nat)
  | pwrbtnPress (high : Bool)
  | forcedPowerDown (began : Nat)
  | modeRequest (r : Req) (target : Nat)
  | shipArm (r : Req) (option : Nat)
  | status (r : Req)
  | identify (r : Req)
  | coreReset (r : Req)
  | timeSet (r : Req) (rtc : Nat)
  | events (r : Req) (max : Nat)
  | ready (badQueues : List Nat)
  -- Sessions and tenants
  | sessionOpen (r : Req) (options : Nat)
  | sessionClose (r : Req)
  | authChallenge (r : Req)
  | authProve (r : Req) (proof : Bytes)
  | tenantWrite (r : Req) (tenant : Nat) (key : Bytes)
  | creditsRead (r : Req)
  -- Parameters and transactions
  | paramGet (r : Req) (id i1 i2 : Nat)
  | paramSet (r : Req) (id i1 i2 : Nat) (value : Bytes)
  | paramInfo (r : Req) (id : Nat)
  | txnBegin (r : Req)
  | txnCommit (r : Req)
  | txnRollback (r : Req)
  | txnStatus (r : Req)
  | configFactory (r : Req) (options : Nat)
  | txnIdleTimeout (tenant : Nat)
  | commitWaitCheck (imageFails : Bool)
  -- Rails and tables
  | railState (r : Req)
  | railForce (r : Req) (rail action : Nat)
  | tableRun (r : Req) (table : Nat)
  | tableAbort (r : Req) (table : Nat)
  | tableRead (r : Req) (table first count : Nat)
  | tableWrite (r : Req) (table first flags : Nat) (steps : List Bytes)
  | seqStatus (r : Req)
  | railPark (r : Req) (rail action : Nat)
  | pgGood (rail : Nat) (ball : Bool) (mv : Int)
  | railBelowOff (rail : Nat) (mv : Int)
  | tonMax (rail : Nat) (also : List (Nat × Nat × Int))
  | toffMax (rail : Nat) (also : List (Nat × Nat × Int))
  | reqEdge (input : Nat) (rising : Bool)
  | joinRun (rail : Nat)
  | joinTimeout (rail : Nat)
  -- Margining
  | marginSet (r : Req) (rail mode : Nat)
  | marginStatus (r : Req) (rail : Nat)
  -- Supervision
  | ovFast (rail : Nat) (mv : Int) (also : List (Nat × Nat × Int))
  | uvFast (rail : Nat) (mv : Int) (also : List (Nat × Nat × Int))
  | faultVerifyResult (rail : Nat) (code : Int)
  | pgLoss (rail : Nat) (ball : Bool) (mv : Int) (also : List (Nat × Nat × Int))
  | enShort (rail : Nat) (high : Bool) (also : List (Nat × Nat × Int))
  | senseCheckPeriodic (readings : List (Nat × Int × Int))
  | vinOv (input mv : Nat) (also : List (Nat × Nat × Int))
  | vinReverse (input : Nat) (also : List (Nat × Nat × Int))
  | faultRetry (rail : Nat) (mv : Int)
  | retryCountReset (rail : Nat)
  | faultStatus (r : Req) (first : Nat)
  | faultClear (r : Req) (pairs : List (Nat × Nat))
  | faultInject (r : Req) (code rail : Nat)
  | senseCheck (r : Req) (mask : Nat)
  -- Caldera
  | pipeFrame (codes : List Nat) (cut : Bool) (lag : Nat) (rivals : List (Nat × Nat × Bool))
  | captureRecordCommit (parityBad : List (Nat × Nat))
  | captureStatus (r : Req)
  | captureRead (r : Req) (offset length : Nat)
  | captureClear (r : Req)
  | captureTest (r : Req)
  -- Converters
  | rotationStep (conv : Nat) (m : Rotation)
  | sliceSwap (conv : Nat)
  | calSystem (r : Req) (channel kind : Nat) (stated : Int)
  | calibrationEnd (codes : List Int) (imageFails : Bool)
  -- Measurement
  | seqTimer (q : Nat)
  | triggerLineFire (line : Nat) (kind index : Nat) (falling : Bool)
  | resultRecord (q : Nat) (codes pair : List Int) (also : List (Nat × Nat × Int))
  | ringRecordWrite (d : Nat) (parityBad : Bool) (rivals : List (Nat × Bool))
  | thermistorOpenTrip (t : Nat)
  | thermistorRelease (t : Nat)
  | convertNow (r : Req) (channel cfg oversampling : Nat)
  | seqStart (r : Req) (mask : Nat)
  | seqStop (r : Req) (mask : Nat)
  | ringAttach (r : Req) (dma action control pipe : Nat)
  | ringStatus (r : Req) (kind index : Nat)
  | triggerFire (r : Req) (mask : Nat)
  -- Tags
  | sweepComplete (records : List Bytes) (also : List (Nat × Nat × Int))
  | sweepAbort (records : List Bytes) (also : List (Nat × Nat × Int))
  | pollReply (payload : Bytes) (also : List (Nat × Nat × Int))
  | pollEmerged (hop : Nat) (also : List (Nat × Nat × Int))
  | pollTimeout (also : List (Nat × Nat × Int))
  | tagsStatus (r : Req)
  | tagsSweep (r : Req)
  | ringDiagnose (r : Req)
  -- Intake
  | inputDetect (input mv : Nat)
  | inputQualify (input : Nat)
  | sourceLoss (mv iin : Int)
  | handoverComplete (lowestSys : Nat)
  | typecAttach (rp : Nat) (debug : Bool)
  | rpChange (rp : Nat)
  | sourceCapabilities (objects : List (BitVec 32))
  | discoverIdentityAck (idHeader product : BitVec 32)
  | searchStep (backstop : Bool)
  | creepTry (backstop : Bool)
  | budgetPinsChange (gpio : Nat)
  | intakeStatus (r : Req)
  | intakePolicy (r : Req) (action input : Nat)
  | pdRequest (r : Req) (position apdoMv : Nat)
  | budgetWindow (r : Req) (action cls minutes : Nat)
  -- Charger and gauge
  | pulseEnd (clamped : Bool)
  | qiDelivery (q : Int)
  | chargeStatus (r : Req)
  | chargeControl (r : Req) (inhibit stop : Nat)
  | gaugeRead (r : Req)
  | gaugeRelearn (r : Req)
  -- Banks
  | bankStatus (r : Req) (kind index options : Nat)
  | bankHandover (r : Req) (bank action tenant : Nat)
  | bankRead (r : Req) (address length : Nat)
  | bankWrite (r : Req) (address : Nat) (data : Bytes)
  | bankAtomic (r : Req) (address op operand : Nat)
  | bankRetire (r : Req) (bank options : Nat)
  | handoverDrainEnd (bank : Nat)
  | bankZeroingDone (bank : Nat)
  | bankBistDone (bank : Nat) (failing : List Nat)
  | memoryWindowAccess (port : Nat) (write : Bool) (offset count : Nat) (data : Bytes) (parityBad : List Nat) (early : Bool) (rivals : List (Nat × Bool))
  | aliasBitSet (owner address data : Nat) (parityBad early : Bool) (rivals : List (Nat × Bool))
  | aliasBitClear (owner address data : Nat) (parityBad early : Bool) (rivals : List (Nat × Bool))
  | aliasAtomicAdd (owner address data : Nat) (parityBad early : Bool) (rivals : List (Nat × Bool))
  | atopAdd (port : Nat) (parityBad early : Bool) (rivals : List (Nat × Bool))
  | atopSwap (port : Nat) (parityBad early : Bool) (rivals : List (Nat × Bool))
  | atopOr (port : Nat) (parityBad early : Bool) (rivals : List (Nat × Bool))
  | atopAndNot (port : Nat) (parityBad early : Bool) (rivals : List (Nat × Bool))
  -- NV storage
  | nvStatus (r : Req)
  | nvRead (r : Req) (address length : Nat)
  | nvGather (r : Req) (address : Nat) (data : Bytes)
  | nvCommit (r : Req)
  | nvDiscard (r : Req)
  | nvProtect (r : Req) (bp lock : Nat)
  | logAppend (r : Req) (options supersede : Nat) (data : Bytes)
  | logRead (r : Req) (first type part : Nat)
  | eepromWrite (block address : Nat) (data : Bytes) (ecc : List Int)
  | eepromRead (block : Nat) (address : Option Nat) (count : Nat) (ecc : List Int)
  | resvDischargeTest (before after : Nat)
  | fwInfo (r : Req)
  | fwBegin (r : Req)
  | fwEraseDone (ok : Bool)
  | fwChunk (r : Req) (offset : Nat) (data : Bytes)
  | fwFinish (r : Req)
  | fwActivate (r : Req)
  -- Ports
  | submit (port : Nat) (env : List Int)
  | rspDone (port : Nat)
  | responsePosted (port : Nat)
  | portReset (port : Nat)
  | portResetEnd (port : Nat)
  | evtPop (port tenant : Nat) (pop : Bool)
  | irqStatusClear (port : Nat) (mask : BitVec 32)
  | winStatusRead (port : Nat)
  | registerWrite (port : Nat) (bus : Bytes) (reads : Nat) (env : List Int)
  | uartMailbox (line : Bytes) (env : List Int)
  | uartRegRead (line : Bytes)
  | uartRegWrite (line : Bytes) (env : List Int)
  | ibiRequest (acked : Bool)
  | entdaa (address : Nat)
  | setdasa (address : Nat)
  | setnewda (address : Nat)
  | enec (events : Nat)
  | disec (events : Nat)
  | setmwl (len : Nat)
  | setmrl (len : Nat)
  | nonceExpiry (tenant : Nat)
  | authLockoutEnd (tenant : Nat)
  -- Background
  | ledgerRead (r : Req) (ledger index : Nat)
  | background (r : Req) (action task : Nat)
  | telemetryRead (r : Req)
  | fumaroleStep (us : Nat) (corrected uncorrectable weak : List Nat) (parityBad : Bool) (rivals : List (Nat × Bool))
  | telemetry (rivals : List (Nat × Bool))
  | faScrub (corrected uncorrectable : List Nat)
  | saScrub (weak : List Nat)
  | bankScrub (parityBad : Bool) (rivals : List (Nat × Bool))
  -- Outputs and boundary scan
  | outputFoldback (out : Nat)
  | foldbackRetry (out : Nat)
  | blockedExit (input mv : Nat) (reversed : Bool)
  | unsupportedPdMessage (epr : Bool)
  | continuousFrameStart (q : Nat)
  | testEnChange (high : Bool)
  | captureDrScan (balls shiftIn : Nat)
  -- Architecture and modes: without operands
  | por
  | crystalQualified
  | crystalQualifyTimeout
  | crystalFailure
  | pllLossOfLock
  | pllRelock
  | clockBackstop
  | nresetAssert
  | nresetRelease
  | coreResetBegin
  | coreResetRelease
  | watchdog
  | shipEntryBegin
  -- Rails and tables: without operands
  | stepEnd
  | stepEnable
  | stepDisable
  | stepWaitPg
  | stepWaitBelow
  | stepDelay
  | stepWaitReq
  | stepSetOut
  | stepMargin
  | stepIfModule
  | stepDischarge
  | stepTrigger
  | stepEvent
  | waitMet
  | waitTimeout
  | delayElapsed
  -- Margining: without operands
  | marginLoopTick
  -- Supervision: without operands
  | resvLow
  | faultnPulseEnd
  | faultReport
  -- Caldera: without operands
  | captureMarkerCommit
  | captureFreeze
  -- Tags: without operands
  | sweep
  | stubPollRound
  | profileParkHeld
  -- Intake: without operands
  | typecDetach
  | accept
  | psRdy
  | contractSettled
  | hardReset
  | sinkWaitCapTimer
  | ppsRequestRepeat
  | budgetWindowEdge
  | budgetOverrideExpiry
  | intervalClose
  | panelPeriod
  | vocRemeasure
  -- Charger and gauge: without operands
  | stepDecision
  | gaugeUpdate
  | restAnchor
  | batteryEmpty
  | bootRest
  | phaseWholeSecond
  | restEnd
  | prechargeExit
  | doneTimer
  | recoveryFailed
  | chgTimeout
  -- NV storage: without operands
  | nvCommitComplete
  | eepromCommitDone
  | sectorEraseDone
  -- Ports: without operands
  | spiStatus
  | uartFrameSent
  | smbusAlertResponse
  | smbusClockLowTimeout
  | rstdaa
  | getpid
  | getbcr
  | getdcr
  | getstatus
  | getmwl
  | getmrl
  -- Background: without operands
  | backgroundWindow
  | checkpoint
  | compaction
  -- Outputs and boundary scan: without operands
  | tapReset
  | extest
  | idcode
  | samplePreload
  | clamp
  | highz
  | bypass
deriving DecidableEq, Repr

end Sys2Proof
end

