-- ==== Sys2Proof/Machine/Bits.lean ====
section
/-! DEFINITION. Byte-order, sign, bit-field and CRC helpers (R12, R13, R562, R600), and total accessors of
fixed-length vectors. -/

namespace Sys2Proof.Machine

/-- Entry `i` of a vector, `d` where the index is outside it. -/
def vget {α : Type} {n : Nat} (v : Vector α n) (i : Nat) (d : α) : α := v[i]?.getD d

/-- The vector with entry `i` replaced; unchanged where the index is outside it. -/
def vset {α : Type} {n : Nat} (v : Vector α n) (i : Nat) (a : α) : Vector α n := v.setIfInBounds i a

/-- The vector with `f` applied to entry `i`. -/
def vmod {α : Type} {n : Nat} (v : Vector α n) (i : Nat) (f : α → α) : Vector α n :=
  match v[i]? with
  | some a => v.setIfInBounds i (f a)
  | none => v

/-- The `k` little-endian bytes of `n` (R12). -/
def leBytes : Nat → Nat → Bytes
  | 0, _ => []
  | k + 1, n => BitVec.ofNat 8 (n % 256) :: leBytes k (n / 256)

/-- The number that little-endian bytes spell (R12). -/
def leNat : Bytes → Nat
  | [] => 0
  | b :: bs => b.toNat + 256 * leNat bs

/-- The `k` little-endian bytes of a two's-complement integer (Table PAR.2, CMD "S16", "S32", "S64"). -/
def leInt (k : Nat) (i : Int) : Bytes := leBytes k (i % (2 ^ (8 * k) : Nat)).toNat

/-- The signed value of a `w`-bit two's-complement number. -/
def toSigned (w n : Nat) : Int := if n % 2 ^ w < 2 ^ (w - 1) then ((n % 2 ^ w : Nat) : Int) else (n % 2 ^ w : Nat) - (2 ^ w : Nat)

/-- The signed number that little-endian two's-complement bytes spell. -/
def leSigned (bs : Bytes) : Int := toSigned (8 * bs.length) (leNat bs)

/-- `n` bytes from offset `off`, padded with zero bytes where the list ends. -/
def bytesAt (bs : Bytes) (off n : Nat) : Bytes :=
  let r := (bs.drop off).take n
  r ++ List.replicate (n - r.length) 0

/-- The unsigned little-endian field of `n` bytes at offset `off`. -/
def fieldAt (bs : Bytes) (off n : Nat) : Nat := leNat (bytesAt bs off n)

/-- The byte at offset `off` as a number. -/
def byteAt (bs : Bytes) (off : Nat) : Nat := (bs.getD off 0).toNat

/-- A byte from a number. -/
def byte (n : Nat) : Byte := BitVec.ofNat 8 n

/-- `n` zero bytes. -/
def zeros (n : Nat) : Bytes := List.replicate n 0

/-- The bytes padded with zero to `n`, or cut at `n`. -/
def padTo (n : Nat) (bs : Bytes) : Bytes := bytesAt bs 0 n

/-- Bit `i` of a number. -/
def bit (n i : Nat) : Bool := n.testBit i

/-- A number from a Bool. -/
def b2n (b : Bool) : Nat := if b then 1 else 0

/-- A number from bits, the first being bit 0. -/
def bitsOf : List Bool → Nat
  | [] => 0
  | b :: bs => b2n b + 2 * bitsOf bs

/-- `n` rounded up to a multiple of `k`. -/
def roundUp (n k : Nat) : Nat := (n + k - 1) / k * k

/-- The sum of the bytes as numbers. -/
def byteSum (bs : Bytes) : Nat := bs.foldl (fun a b => a + b.toNat) 0

/-- One bit of CRC-16/CCITT-FALSE: polynomial 0x1021, most significant bit first (R600). -/
def crc16Bit (c : Nat) : Nat := if c.testBit 15 then ((c <<< 1) ^^^ 0x1021) % 0x10000 else (c <<< 1) % 0x10000

/-- One byte of CRC-16/CCITT-FALSE (R600). -/
def crc16Byte (c : Nat) (b : Byte) : Nat :=
  crc16Bit (crc16Bit (crc16Bit (crc16Bit (crc16Bit (crc16Bit (crc16Bit (crc16Bit (c ^^^ (b.toNat <<< 8)))))))))

/-- CRC-16/CCITT-FALSE: initial value 0xFFFF, no reflection, no final XOR (R600). -/
def crc16 (bs : Bytes) : Nat := bs.foldl crc16Byte 0xFFFF

/-- One bit of the reflected CRC-32: polynomial 0x04C1_1DB7 reflected (R562). -/
def crc32Bit (c : Nat) : Nat := if c.testBit 0 then (c >>> 1) ^^^ 0xEDB88320 else c >>> 1

/-- One byte of the reflected CRC-32 (R562). -/
def crc32Byte (c : Nat) (b : Byte) : Nat :=
  crc32Bit (crc32Bit (crc32Bit (crc32Bit (crc32Bit (crc32Bit (crc32Bit (crc32Bit (c ^^^ b.toNat))))))))

/-- CRC-32: initial value 0xFFFF_FFFF, final XOR 0xFFFF_FFFF (R562). -/
def crc32 (bs : Bytes) : Nat := (bs.foldl crc32Byte 0xFFFFFFFF) ^^^ 0xFFFFFFFF

/-- The SMBus packet error code: CRC-8 with polynomial 0x07 (SMBus 3.1, named by R589; assumption 21). -/
def crc8Bit (c : Nat) : Nat := if c.testBit 7 then ((c <<< 1) ^^^ 0x07) % 256 else (c <<< 1) % 256

/-- The packet error code over a byte sequence. -/
def crc8 (bs : Bytes) : Nat :=
  bs.foldl (fun c b => crc8Bit (crc8Bit (crc8Bit (crc8Bit (crc8Bit (crc8Bit (crc8Bit (crc8Bit (c ^^^ b.toNat))))))))) 0

/-- The header check of Table HST.9 over header bytes 0 to 6. -/
def headerCheck (bs : Bytes) : Nat := (0x100 - byteSum (bs.take 7) % 256) % 256

/-- Integer division truncating toward zero (R19); a zero divisor gives the value of assumption 15. -/
def quot (a b : Int) (dz : Int → Int) : Int := if b = 0 then dz a else a.tdiv b

/-- The value held between two bounds. -/
def clampInt (lo hi v : Int) : Int := max lo (min hi v)

/-- A count that stops at `m`. -/
def satAdd (m a b : Nat) : Nat := min m (a + b)

end Sys2Proof.Machine
end

