-- ==== Sys2Proof/Machine/Sha.lean ====
section
/-! DEFINITION. SHA-256 and HMAC-SHA-256, which R553 and R615 name (assumption 25): the constants are computed from the roots of the
primes that define them, and a block is run over two sequences of words, of which each round makes the next element. -/

namespace Sys2Proof.Machine

/-- The largest number of `bits` bits, added to `acc`, whose `k`-th power does not pass `n`. -/
def rootBelow (k n : Nat) : Nat → Nat → Nat
  | 0, acc => acc
  | b + 1, acc => rootBelow k n b (if (acc + 2 ^ b) ^ k ≤ n then acc + 2 ^ b else acc)

/-- The first 32 bits of the fraction of a `k`-th root. -/
def rootFraction (k p : Nat) : BitVec 32 := BitVec.ofNat 32 (rootBelow k (p * 2 ^ (32 * k)) 37 0)

/-- The first 64 primes: 311 is the last. -/
def shaPrimes : List Nat := (List.range 312).filter (fun p => decide (2 ≤ p) && (List.range p).all (fun d => decide (d < 2) || p % d != 0))

/-- A word turned right by each of some counts, added modulo 2. -/
def turns (ns : List Nat) (x : BitVec 32) : BitVec 32 := ns.foldl (fun y n => y ^^^ x.rotateRight n) 0

/-- The word that follows 16 words of the message schedule, the oldest first. -/
def nextWord (w : List (BitVec 32)) : BitVec 32 :=
  let old := w.getD 1 0
  let late := w.getD 14 0
  (turns [17, 19] late ^^^ late >>> 10) + w.getD 9 0 + (turns [7, 18] old ^^^ old >>> 3) + w.getD 0 0

/-- The two sequences of a block, newest word first, and the 16 words of the schedule that come next. -/
structure ShaRun where
  upper : List (BitVec 32)
  lower : List (BitVec 32)
  sched : List (BitVec 32)
deriving DecidableEq, Repr

/-- A round with its constant: each sequence gains its next word, and the schedule moves on by one. -/
def ShaRun.next (r : ShaRun) (k : BitVec 32) : ShaRun :=
  let up := fun i => r.upper.getD i 0
  let lo := fun i => r.lower.getD i 0
  let mix := k + r.sched.headD 0 + lo 3 + turns [6, 11, 25] (lo 0) + (lo 2 ^^^ (lo 0 &&& (lo 1 ^^^ lo 2)))
  let vote := (up 0 &&& (up 1 ||| up 2)) ||| (up 1 &&& up 2)
  { upper := (mix + turns [2, 13, 22] (up 0) + vote) :: r.upper.take 3
    lower := (up 3 + mix) :: r.lower.take 3
    sched := r.sched.tail ++ [nextWord r.sched] }

/-- A number's `n` bytes, the highest first. -/
def beBytes (n : Nat) (x : Nat) : Bytes := (leBytes n x).reverse

/-- The hash value, as the two sequences, after one block more. -/
def shaBlock (h : ShaRun) (block : Bytes) : ShaRun :=
  let words := (List.range 16).map (fun i => BitVec.ofNat 32 (leNat (bytesAt block (4 * i) 4).reverse))
  let r := (shaPrimes.map (rootFraction 3)).foldl ShaRun.next { h with sched := words }
  { upper := List.zipWith (· + ·) h.upper r.upper, lower := List.zipWith (· + ·) h.lower r.lower, sched := [] }

/-- The hash value before the first block. -/
def shaFirst : ShaRun :=
  let h := (shaPrimes.take 8).map (rootFraction 2)
  { upper := h.take 4, lower := h.drop 4, sched := [] }

/-- SHA-256. -/
def sha256 (m : Bytes) : Bytes :=
  let size := roundUp (m.length + 9) 64
  let whole := padTo (size - 8) (m ++ [0x80]) ++ beBytes 8 (8 * m.length)
  let h := (List.range (size / 64)).foldl (fun r i => shaBlock r (bytesAt whole (64 * i) 64)) shaFirst
  (h.upper ++ h.lower).flatMap (fun x => beBytes 4 x.toNat)

/-- HMAC-SHA-256 with a key of at most 64 bytes. -/
def hmacSha256 (key m : Bytes) : Bytes :=
  let keyed := fun (pad : Byte) => (padTo 64 key).map (fun b => b ^^^ pad)
  sha256 (keyed 0x5C ++ sha256 (keyed 0x36 ++ m))

end Sys2Proof.Machine
end

