-- ==== Sys2Proof/Config.lean ====
section
/-! DEFINITION. What the spec leaves open: constants with no body, so that nothing can lean on a value of them. -/

namespace Sys2Proof.Config

/-- The verdict of the ECDSA P-256 check of Table NVS.8 over (digest, signature, fused key index); the fused keys are not in the spec
(assumption 12). -/
opaque ecdsaOk : Bytes → Bytes → Nat → Bool

/-- The n-th 16-byte nonce of the device's random source (R614; assumption 11). -/
opaque nonce : Nat → BitVec 128

/-- The factory coefficients of the internal channels 0x30 to 0x35 map an averaged code to the result
(R290 gives no coding; assumption 13): channel, averaged code times 16. -/
opaque internalResult : Nat → Int → Int

/-- The build number of the firmware that a slot holds, where the S-array of the model holds no image header for it
(assumption 14): the slot. -/
opaque fwBuild : Nat → Nat

/-- A quotient whose divisor is zero, where the spec's pseudocode divides by a value it does not bound away from
zero (assumption 15): the dividend. -/
opaque divByZero : Int → Int

/-- The n-th free value drawn where a command reads a quantity that the spec leaves open (assumption 16). -/
opaque freeInt : Nat → Int

/-- The factory values that cnv.offset and cnv.gain of the channels 0x30 to 0x35 read (R290 gives none; assumption 13): the parameter ID
and the channel. -/
opaque factoryCoef : Nat → Nat → Int

/-- The board wires a host to the UART balls GPIO30 and GPIO31, which is what R632 asks on route 2 (assumption 57). -/
opaque gpioUartHost : Bool

end Sys2Proof.Config
end

