-- ==== Sys2Proof/Machine/State.lean ====
section
/-! DEFINITION. The state of the device: plain data, one structure per block, and the state right after reset.
Each field's docstring names the rule of the spec that gives it. -/

namespace Sys2Proof.Machine

/-- Why the machine stops with a fault. -/
inductive Fault where
  /-- An access outside the fabric and NV address spaces (R487, R524). No meaning of this model raises it: every
  command checks its range first and answers as the spec says. Safe. -/
  | noSuchAddress (address : Nat)
deriving DecidableEq, Repr

/-- Why a command has no meaning. -/
inductive Refusal where
  /-- The command has no meaning in this model yet; raised by its arm in Dispatch. Safe. -/
  | notModelled (mnemonic : String)
deriving DecidableEq, Repr

/-! ### Modes, clocks and the core (chapters 01 and 03) -/

/-- The mode (Table MOD.1). -/
inductive Mode where
  | ship
  | standby
  | run
  | service
deriving DecidableEq, Repr

/-- What the housekeeping core does (R44, R53). -/
inductive CoreRun where
  | heldByPin
  | inReset
  | booting
  | running
  | halted
deriving DecidableEq, Repr

/-- What started the present start of the core (Table NVS.15 byte 4); the table has no code for the reset that a parity error in
banks 0 to 7 starts (R508). -/
inductive StartCause where
  | firstPower
  | shipWake
  | clockBackstop
  | nReset
  | watchdog
  | coreReset
  | fwActivate
  | bankFail
deriving DecidableEq, Repr

/-- The always-on domain (Table ARC.4, R112, R681, R102). Reset only by AON POR. -/
structure Aon where
  /-- RTC seconds, 32 bits (R681). -/
  rtc : Nat
  /-- Microseconds into the present RTC second; the model's fraction of the 32.768 kHz count. -/
  rtcSub : Nat
  /-- A TIME_SET has been received in this AON power cycle (R681). -/
  timeSet : Bool
  /-- The ship latch: the device entered SHIP (R116). -/
  shipLatch : Bool
  /-- SHIP is armed (R112). -/
  armed : Bool
  /-- PWRBTNn has not been seen high since its last press (R102). -/
  btnHeld : Bool
  /-- The source of the last wake from SHIP: 0 PWRBTNn, 1 VBUSC, 2 DCIN (Table MOD.5). -/
  wakeSource : Option Nat
  /-- RTC seconds at the wake (Table MOD.5 bytes 4 to 7). -/
  wakeRtc : Nat
  /-- The latched wake threshold of the inputs, sys.ship_wake_vin_mv at the last SHIP entry (Table MOD.8). -/
  wakeVinMv : Nat
deriving DecidableEq, Repr

/-- The crystal in this power cycle (R28 to R33, R54). -/
inductive Crystal where
  | unused
  | qualifying
  | inUse
  | abandoned
deriving DecidableEq, Repr

/-- The clock tree (R25, R28, R34, R36). -/
structure Clocks where
  /-- Microseconds since the PLL first locked after POR; TICK is its low 32 bits (R25). -/
  us : Nat
  /-- Where the crystal stands (R28 to R33). -/
  crystal : Crystal
  /-- The PLL is in lock (R34). -/
  pllLocked : Bool
  /-- CORE, CNV and FAB are gated off (R34). -/
  gated : Bool
  /-- The charger gate drivers are held low (R34). -/
  gatesLow : Bool
  /-- The QI modulator clock in kHz: 5000 from ROOT, 4800 from REF (R34, R35). -/
  qiKhz : Nat
  /-- TICK is REF / 24 instead of ROOT / 240 (R34). -/
  tickFromRef : Bool
  /-- sys.ref_select as POR found it (R28, R54). -/
  refSelect : Nat
deriving DecidableEq, Repr

/-- The steps of a service exit (R94, R48). -/
inductive ServiceExit where
  | none
  | tbl1
  | bringUp
deriving DecidableEq, Repr

/-- SHIP entry (Timeline MOD.2). -/
inductive ShipEntry where
  | none
  | requested
  | begun
deriving DecidableEq, Repr

/-- The core, the boot ROM and the mode logic (R44, R50, R53, R87, R94, R107, R114). -/
structure CoreBlk where
  run : CoreRun
  /-- nRESET is low (R44). -/
  nreset : Bool
  /-- A core reset is due 1 ms after the response to CORE_RESET or FW_ACTIVATE (R50). -/
  resetDue : Option StartCause
  /-- A bank of banks 0 to 7 has failed BIST since POR: the core stays halted (R512). -/
  bistHalt : Bool
  /-- Firmware has reached READY since the last POR or core reset (R107). -/
  ready : Bool
  /-- NV_READY has been posted since the last POR or core reset (Table HST.6). -/
  nvReady : Bool
  /-- The configuration has been recalled since POR (R107). -/
  recalled : Bool
  /-- FW_READY has been posted since POR; until then the charger does not charge (R109). -/
  fwReady : Bool
  /-- Microseconds value at firmware start, for HEARTBEAT (Table HST.3). -/
  fwStart : Nat
  /-- Microseconds that HEARTBEAT had counted when firmware last stopped (Table HST.3). -/
  beat : Nat
  /-- The watchdog (R51): sys.watchdog_ms as its last restart took it, and the microseconds value of that restart. -/
  wdMs : Nat
  wdFrom : Nat
  startCause : StartCause
  /-- The slot booted (Table NVS.15 byte 5). -/
  slot : Nat
  /-- The slot fallback of R53 was taken at this start. -/
  slotFallback : Bool
  /-- The running start booted TRIAL (R556). -/
  trialBoot : Bool
  /-- sys.boot_count (R107, R124). -/
  bootCount : Nat
  /-- The mode (R87). -/
  mode : Mode
  serviceExit : ServiceExit
  /-- The cause of the running service exit (Table MOD.7). -/
  exitCause : Nat
  /-- How the TBL1 of the service exit ended (Table MOD.6 byte 9). -/
  exitResult : Nat
  shipEntry : ShipEntry
  /-- The cause of the SHIP entry (Table MOD.5 byte 17). -/
  shipCause : Nat
  /-- The tenant whose SHIP_ARM asked for it, or 0xFF. -/
  shipTenant : Nat
  /-- The tenant of the running service exit, 0xFF for none (Table MOD.6). -/
  modeTenant : Nat
  /-- The values of sys.wake_sources that commits have replaced, newest first, each with the microseconds value of its end: a wake
  qualification that counted under one goes on (R125). -/
  wakePast : List (Nat × Nat)
  /-- VAUX is on (R122). -/
  vaux : Bool
  /-- The internal supply is on CRES (R40). -/
  holdup : Bool
  /-- SYS has been valid since then, µs (R40, Table SUP.1). -/
  sysValidAt : Nat
  /-- CLK_OUT drives the AON clock (R27). -/
  clkOut : Bool
  /-- The battery FET is on (R114, R397). -/
  batFet : Bool
deriving DecidableEq, Repr

/-! ### Events and records -/

/-- One event (Table HST.11). -/
structure Event where
  code : Nat
  flags : Nat
  src : Nat
  arg : Nat
  tick : Nat
deriving DecidableEq, Repr

/-- An event held until firmware posts it (R47): the event and, for an own event, its tenant. -/
structure Deferred where
  ev : Event
  own : Option Nat
deriving DecidableEq, Repr

/-- A Sinter record waiting to be appended (R572): type, flags, timestamp, payload, and the microseconds value of its event, which
orders the records that wait. RETAIN comes at the append (R566). -/
structure LogRec where
  type : Nat
  flags : Nat
  stamp : Nat
  payload : Bytes
  at_ : Nat
deriving DecidableEq, Repr

/-! ### Parameters and transactions (chapter 15) -/

/-- A parameter value (Table PAR.2). -/
inductive PVal where
  | num (n : Int)
  | blob (b : Bytes)
deriving DecidableEq, Repr

/-- A parameter instance (R637). -/
structure PInst where
  id : Nat
  i1 : Nat
  i2 : Nat
deriving DecidableEq, Repr

/-- A parameter instance that a commit or a recall has touched (R644, R655): an instance that is not listed holds
its default, committed and in force. -/
structure PCell where
  inst : PInst
  committed : PVal
  inForce : PVal
  /-- The block has taken the committed value up (R644). -/
  pending : Bool
  epoch : Nat
deriving DecidableEq, Repr

/-- A write of a commit (R640). -/
structure PWrite where
  inst : PInst
  value : PVal
deriving DecidableEq, Repr

/-- A tenant's open transaction (R652, R653, R659). -/
structure Txn where
  base : Nat
  writes : List PWrite
  waiting : Bool
  lastStatus : Nat
  lastFail : PInst
  /-- Microseconds value of the last PARAM_SET, TXN_STATUS or TXN_COMMIT, or of TXN_BEGIN (R654). -/
  usedAt : Nat
deriving DecidableEq, Repr

/-- A commit that waits for a quiet block (R655, R657). -/
structure WaitCommit where
  port : Nat
  tenant : Nat
  seq : Nat
  /-- A direct set: its answer carries kind 1 and stage bytes 0 (Table CMD.6). -/
  direct : Bool
  async : Bool
  writes : List PWrite
  persist : Bool
  waitQuiet : Bool
  /-- Microseconds value at which the wait ends. -/
  deadline : Nat
  /-- A device commit reached one of its instances since the claim (R656). -/
  overtaken : Bool
  /-- Its credit returns when it ends; false once its session closed (R608). -/
  credit : Bool
  /-- Microseconds value at its acceptance (R676). -/
  accepted : Nat
deriving DecidableEq, Repr

/-- The parameter store (R640 to R663). -/
structure ParamStore where
  cells : List PCell
  epoch : Nat
  waiting : List WaitCommit
  /-- Values that a module profile holds in force (R647). -/
  overlays : List PWrite
  /-- The image loaded at the last recall: 0 A, 1 B; none for DEFAULTS (R548, R549). -/
  loaded : Option Nat
  loadedGen : Nat
  /-- The body of the last image written since POR, or of the loaded image (R660). -/
  base : Bytes
  /-- A recall that skipped entries: the count and the first skipped instance (R664). -/
  skipped : Nat
  firstSkipped : PInst
deriving DecidableEq, Repr

/-! ### Host ports, tenants and mailboxes (chapter 14) -/

/-- A response frame in a port's queue: the frame, its tenant, sequence number and status (R605). -/
structure RspFrame where
  tenant : Nat
  seq : Nat
  status : Nat
  frame : Bytes
deriving DecidableEq, Repr

/-- A response that found its queue full: the frame, whether a credit returns with it, when its request was accepted, and the events that
its posting delivers (R606, R676, R682). -/
structure WaitRsp where
  rsp : RspFrame
  credit : Bool
  since : Option Nat
  events : Nat
  /-- The answer of SESSION_CLOSE, whose session closes after it (R684). -/
  closes : Bool
deriving DecidableEq, Repr

/-- The register window and mailbox of one port (Table HST.3). -/
structure Port where
  /-- PORT_STATUS.READY of this port (Table HST.6). -/
  ready : Bool
  /-- PORT_RESET is in progress (R630). -/
  inReset : Bool
  reqBuf : Bytes
  reqLen : Nat
  /-- PORT_STATUS.REQ_BUSY (R602). -/
  reqBusy : Bool
  /-- The response queue, head presented (R605). -/
  rspQ : List RspFrame
  rspWait : List WaitRsp
  /-- IRQ_STATUS and IRQ_MASK (Table HST.7). -/
  irqStatus : BitVec 32
  irqMask : BitVec 32
  /-- Enabled status bits that have become 1 since the last in-band interrupt that the controller took (R587). -/
  irqNew : BitVec 32
  winBank : Nat
  /-- WIN_STATUS bits 0 to 3 and 5, and COUNT (Table HST.8). -/
  winDenied : Bool
  winParity : Bool
  winRetired : Bool
  winUnbound : Bool
  atopErr : Bool
  winCount : Nat
  atopBusy : Bool
  atopAddr : BitVec 32
  atopOpnd : BitVec 32
  atopResult : BitVec 32
  scratch : BitVec 32
  evtData : Bytes
  /-- The last SMBus write was NACKed at its PEC byte (R589). -/
  nacked : Bool
  /-- TENANT_BOUND (R612): the bound tenant where VALID is set. -/
  bound : Option Nat
  /-- The bytes that the last read on this port returned; the model's own field (assumption 4). -/
  busOut : Bytes
deriving DecidableEq, Repr

/-- The I3C target's bus state (R583 to R587). -/
structure I3cBus where
  dynAddr : Option Nat
  /-- ENEC and DISEC event enables: bit 0 in-band interrupt. -/
  events : Nat
  mwl : Nat
  mrl : Nat
  /-- An in-band interrupt was NACKed or is outstanding (R587). -/
  ibiPending : Bool
  ibiByte : Nat
  /-- The offset that the next private read starts at (R586). -/
  readOff : Nat
deriving DecidableEq, Repr

/-- The service UART (R593 to R595). -/
structure UartBus where
  /-- Frames from the host discarded for a bad CRC, kind or length (R594). -/
  discarded : Nat
  /-- The last frame sent, as the line carries it (R594). -/
  lastSent : Bytes
deriving DecidableEq, Repr

/-- One tenant (R607 to R625). -/
structure Tenant where
  session : Option Nat
  authed : Bool
  outstanding : Nat
  nonce : Option Bytes
  /-- Microseconds value of the nonce's issue, and of the failed proof that began the lockout (R614, R616). -/
  nonceAt : Nat
  fails : Nat
  lockout : Bool
  lockAt : Nat
  /-- tenant.auth_required as taken at the last SESSION_OPEN (Table HST.12). -/
  authReq : Bool
  queue : List Event
  posted : Nat
  delivered : Nat
  overflowed : Nat
  txn : Option Txn
  /-- The part buffer of TABLE_WRITE: the table and the steps held (R692). -/
  part : Option (Nat × List Bytes)
deriving DecidableEq, Repr

/-- What an accepted operation that is not answered yet waits for. -/
inductive OpKind where
  | tagsSweep
  | nvCommit
  | calSystem
  | bankReturn (bank : Nat)
  /-- A bank command that waits for the drain of a bank (R506). -/
  | bankAccess (bank : Nat)
  | fwBegin
  /-- A LOG_APPEND behind the erase of a sector (R551). -/
  | logAppend (r : Req) (payload : Bytes)
  /-- An FW_CHUNK or FW_FINISH behind an erase (R551). -/
  | fwChunk (r : Req) (payload : Bytes)
  | fwFinish (r : Req)
deriving DecidableEq, Repr

/-- An accepted operation in flight (R607, R608, R675). -/
structure PendOp where
  kind : OpKind
  port : Nat
  tenant : Nat
  seq : Nat
  code : Nat
  async : Bool
  /-- Its credit returns when it ends; false once its session closed (R608). -/
  credit : Bool
  /-- Its synchronous answer was discarded with its session (R608). -/
  silent : Bool
  accepted : Nat
deriving DecidableEq, Repr

/-- A request owed an ABORTED_RESET answer after READY (R46). -/
structure OwedAbort where
  port : Nat
  tenant : Nat
  seq : Nat
  since : Option Nat
deriving DecidableEq, Repr

/-! ### Non-volatile storage (chapter 13) -/

/-- A gather (R527): its tenant, its base address and the gathered bytes by address. -/
structure Gather where
  tenant : Nat
  base : Nat
  bytes : List (Nat × Byte)
deriving DecidableEq, Repr

/-- A commit that the NV engine holds (R532, R777): the journal slot, none while it waits for one, and the gather it came from, which is kept
where it cannot start (R533). -/
structure NvCommit where
  slot : Option Nat
  owner : Nat
  dest : Nat
  data : Bytes
  gather : Option Gather
deriving DecidableEq, Repr

/-- The NV engine (R516 to R578). -/
structure Nv where
  gathers : List Gather
  commits : List NvCommit
  /-- The EEPROM window: word address pointer per block, and a page commit under way (R540, R542). -/
  eePointer : Nat
  eeBlock : Nat
  eeBusy : Bool
  eeDiscards : Nat
  eeOut : Bytes
  corrections : Nat
  uncorrectable : Nat
  /-- F-array words (address / 8) with an uncorrectable error (R522). -/
  badWords : List Nat
  replays : Nat
  journalReplayed : Bool
  /-- The log sector under erase (R551). -/
  erasing : Option Nat
  resvMv : Int
  boost : Bool
  resvTested : Bool
  resvTestFailed : Bool
  /-- S-array sectors whose granules read weak at the last margin read (R575). -/
  weak : List Nat
  rewriteNeeded : Bool
  /-- Slots whose image FW_BEGIN has erased: no shipped image stands in them (assumption 14). -/
  blank : List Nat
deriving DecidableEq, Repr

/-- The firmware update (R554, R714). -/
structure FwUpdate where
  open_ : Bool
  /-- The erase of FW_BEGIN is not over yet. -/
  erasing : Bool
  /-- Sectors of the slot that it has erased. -/
  erased : Nat
  chunkEnd : Nat
  finishedOk : Bool
deriving DecidableEq, Repr

/-- A running compaction pass (R568): what remains of it. -/
structure Compact where
  beginSeq : Nat
  sources : List Nat
  /-- Addresses of the records still to visit, oldest first. -/
  todo : List Nat
  reason : Nat
  /-- The pass refreshes a sector: every committed record is copied (R576). -/
  whole : Bool
  copied : Nat
  dropped : Nat
  firstCopy : Nat
  /-- COMPACT_END is committed and the sources are being erased. -/
  ended : Bool
  erases : List Nat
deriving DecidableEq, Repr

/-- A pass to restart: the sequence number of the withdrawn COMPACT_BEGIN, the sectors it listed, and whether it refreshed one (R570,
R576). -/
structure Restart where
  seq : Nat
  sources : List Nat
  whole : Bool
deriving DecidableEq, Repr

/-- The Sinter log's engine state (R557 to R573). -/
structure Sinter where
  head : Option Nat
  headOff : Nat
  nextSeq : Nat
  nextSerial : Nat
  appended : Nat
  live : Nat
  superseded : Nat
  reclaimed : Nat
  torn : Nat
  tornFound : Bool
  retainOverflow : Bool
  /-- A pass to restart (R570). -/
  restart : Option Restart
  compactRestarted : Bool
  pass : Option Compact
  /-- Weak sectors waiting for a refresh pass (R576). -/
  refresh : List Nat
  /-- Records waiting to be appended (R572). -/
  waiting : List LogRec
  /-- Sequence number of the BOOT record of this start (Table LED.6). -/
  bootSeq : Nat
deriving DecidableEq, Repr

/-! ### Background work and ledgers (chapter 17) -/

/-- One Fumarole task (R720 to R727). -/
structure Task where
  due : Bool
  running : Bool
  /-- Steps done in this pass (R720). -/
  progress : Nat
  runs : Nat
  overruns : Nat
  last : Nat
  longest : Nat
  /-- When the task falls due next, by the microseconds value, and the steps of a scrub pass that have fallen due (Table LED.1). -/
  dueAt : Nat
  fallen : Nat
  /-- The steps of the last second: microseconds value and core time (R726). -/
  recent : List (Nat × Nat)
  /-- Core time of the run in progress, µs. -/
  current : Nat
  corrections : Nat
  firstAddr : Nat
  /-- The scrub pass has met an uncorrectable word. -/
  bad : Bool
deriving DecidableEq, Repr

/-- The coulomb ledger (R732). -/
structure Coulomb where
  inUc : Nat
  outUc : Nat
  net : Int
  residual : Int
deriving DecidableEq, Repr

/-- The intake energy ledger of one input (R734, R735). -/
structure Energy where
  havePrev : Bool
  prevHold : Nat
  residual : Int
  total : Int
  opened : Int
  committed : Int
  unmeasuredUs : Nat
  closedCount : Nat
deriving DecidableEq, Repr

/-- The background scheduler and the ledgers (chapter 17). -/
structure Background where
  tasks : Vector Task 6
  /-- Core time that counted tasks used in the present 100 ms window, µs (R723). -/
  windowUsed : Nat
  /-- The number of that window on TICK. -/
  windowAt : Nat
  coulomb : Coulomb
  energy : Vector Energy 2
  gapCoulomb : Bool
  gapEnergy : Bool
  lastIntervalSeq : Nat
  telemetry : Bytes
  telemetrySeq : Nat
  /-- Snapshots written to the telemetry bank since delegation (R747), and the bank. -/
  telemetryBank : Option Nat
  telemetryWritten : Nat
  /-- Powered seconds into the F-array and S-array scrub passes (Table LED.3). -/
  faSeconds : Nat
  saSeconds : Nat
  /-- The ledgers have been restored since POR (R742). -/
  restored : Bool
  /-- The microseconds value up to which QI has delivered (R468). -/
  qiAt : Nat
deriving DecidableEq, Repr

/-! ### Rails, the sequencer engine and margining (chapter 04) -/

/-- Rail states (Table SEQ.1). -/
inductive RailSt where
  | off
  | enabling
  | on
  | disabling
  | parked
  | joinPending
  | faultOff
  | forcedOn
deriving DecidableEq, Repr

/-- The margin output and loop of a rail (R182 to R194). -/
structure MarginOut where
  /-- The mode (Table SEQ.10). -/
  mode : Nat
  /-- The output drives Pnn_MG; it is high impedance otherwise (R185, R188). -/
  driving : Bool
  code : Int
  /-- A mode held until the rail is ON (R186). -/
  held : Option Nat
  settled : Bool
  stale : Bool
  saturated : Bool
  staleTicks : Nat
  /-- The target of the last loop tick (R192). -/
  target : Option Int
  lastErr : Int
  lastCode : Int
  heldErr : Int
  runSame : Nat
  satTicks : Nat
  /-- A usable result newer than the previous tick (R189). -/
  fresh : Option Int
  /-- The mode and the margin.fault_policy that the windows follow since the last loop tick (R193, R244). -/
  winMode : Nat
  winPolicy : Nat
deriving DecidableEq, Repr

/-- One rail: its outputs, its judgements, its slow counts and its retries (R127 to R137, R203 to R213, R230 to R234). -/
structure Rail where
  st : RailSt
  /-- Pnn_EN asserted. -/
  en : Bool
  /-- Pnn_DS closed. -/
  ds : Bool
  /-- A fault response has deasserted the rail since its EN was last asserted: no boundary cell drives it (R83). -/
  scanOff : Bool
  /-- The PG source reads good (R129). -/
  pg : Bool
  /-- Pnn_PG, and the sense window against rail.pg_on_mv and rail.pg_off_mv, as they were last read (R128). -/
  ball : Bool
  win : Bool
  /-- The fast comparators read beyond their thresholds (R199). -/
  fastOv : Bool
  fastUv : Bool
  /-- The undervoltage comparator is still in its initial state, which raises nothing (R105, R106). -/
  fastInit : Bool
  /-- The off comparator reads below (R133), and no sense voltage since it was last judged over 4 TICKs lay above this one, mV: what
  WAIT_BELOW with a threshold of its own compares (R141). -/
  below : Bool
  offMv : Option Int
  /-- The TON_MAX check of the present assertion runs; it has raised TON_MAX (R132, R178). -/
  tonRun : Bool
  tonRaised : Bool
  /-- The TOFF_MAX check of the last deassertion runs (R132), and the state that deassertion put the rail into (R170, R172). -/
  toffRun : Bool
  toffBy : RailSt
  /-- PG has read good since the last PG_LOSS (R208). -/
  pgArmed : Bool
  cntOv : Nat
  cntUv : Nat
  cntOvw : Nat
  cntUvw : Nat
  cntRev : Nat
  /-- Consecutive results inside a warning level whose flag is set (R206). -/
  inOvw : Nat
  inUvw : Nat
  warnOv : Bool
  warnUv : Bool
  /-- SENSE_OPEN or SENSE_REVERSED since the last FAULT_CLEAR of it (R213). -/
  frozen : Bool
  /-- The last usable SWA result, mV. -/
  last : Option Int
  retryUsed : Nat
  /-- A retry is pending, for faults by their codes and the rails that have them (R231). -/
  retryDue : Bool
  retryFor : List (Nat × Nat)
  /-- The EN was asserted by a retry and the rail has not reached ON (R232). -/
  retrying : Bool
  /-- The last tag that covers the rail read over its temperature (R217, R231). -/
  otMod : Bool
  margin : MarginOut
deriving DecidableEq, Repr

/-- What the running table does (R146, R154). -/
inductive RunPhase where
  | ready
  | waiting
  | unwinding
deriving DecidableEq, Repr

/-- The running table (R147). -/
structure Run where
  table : Nat
  steps : List Bytes
  idx : Nat
  phase : RunPhase
  /-- Outputs that this run asserted (R154). -/
  outs : List Nat
  /-- Rails that this run enabled, in order (R154). -/
  enabled : List Nat
  timeouts : Nat
  /-- Rails that the waiting step covers (R197). -/
  cover : List Nat
  /-- The rails that an unwind has still to deassert, the awaited rail first (R154). -/
  unwind : List Nat
  /-- What started it (Table MOD.7) and for which tenant. -/
  cause : Nat
  tenant : Nat
  /-- The cause that TABLE_FAILED will carry after an unwind (R154). -/
  failCause : Nat
deriving DecidableEq, Repr

/-- A copy of a table that waits (R163), its PERSIST flag (R165), and whether the image write that it asks for will fail (R661). -/
structure PendTable where
  steps : List Bytes
  persist : Bool
  fails : Bool
deriving DecidableEq, Repr

/-- A pending REQ request (R161): its function and the table it asks for. -/
structure ReqPend where
  fn : Nat
  table : Nat
deriving DecidableEq, Repr

/-- A hot-join that runs (R177). -/
structure JoinRun where
  rail : Nat
  time : Nat
deriving DecidableEq, Repr

/-- The sequencer engine (chapter 04). -/
structure Engine where
  run : Option Run
  suspended : Bool
  active : Vector (List Bytes) 8
  pend : Vector (Option PendTable) 8
  /-- PWROK0 to PWROK3 and HRST0n to HRST3n asserted (Table SEQ.7). -/
  outs : Vector Bool 8
  /-- Configuration recall has come: outputs are driven by polarity (R156, R158). -/
  driven : Bool
  reqLevel : Vector Bool 8
  reqPend : List ReqPend
  /-- The hot-joins that run: the rail and the TIME of its WAIT_PG (R177). -/
  join : List JoinRun
  /-- The standby bring-up: the rail awaited and the rails still to enable (R136). -/
  bringWait : Option Nat
  bringUp : List Nat
  dsNoEffect : Nat
  ifRecalled : Nat
  contTimeouts : Nat
  lastStart : Nat
deriving DecidableEq, Repr

/-! ### Supervision (chapter 05) -/

/-- A fault latch (R222), the rails its response turned off (R235) and its worst response since it was set. -/
structure Latch where
  code : Nat
  /-- The rail byte of Table SUP.7: rail, 0xFF, or 0xF0 + input. -/
  src : Nat
  tick : Nat
  value : Option Int
  count : Nat
  response : Nat
  offRails : List Nat
deriving DecidableEq, Repr

/-- A latch setting whose FAULT event and record firmware has not made yet (R241). -/
structure Report where
  code : Nat
  src : Nat
  response : Nat
  flags : Nat
  tick : Nat
  /-- The microseconds value at the setting, for the 60 s of R241. -/
  us : Nat
  value : Option Int
  mode : Nat
  retryNo : Nat
  chan : Nat
  table : Nat
deriving DecidableEq, Repr

/-- The record limit of one rail and code (R241): microseconds values of the records written in the last 60 s, and the
settings not written since. -/
structure FaultWindow where
  code : Nat
  src : Nat
  times : List Nat
  missed : Nat
deriving DecidableEq, Repr

/-- A fault-verify conversion whose result has not come yet: the rail, the fast fault, the TICK of its trip, the CNV cycles of the trip
and of the conversion's end, and its slice (R201, R202, R341). -/
structure Verify where
  rail : Nat
  code : Nat
  tick : Nat
  from_ : Nat
  ends : Nat
  slice : Nat
deriving DecidableEq, Repr

/-- The fault fabric (chapter 05). -/
structure Sup where
  latches : List Latch
  /-- The first-fault register: code, rail byte, TICK (R223). -/
  first : Option (Nat × Nat × Nat)
  reports : List Report
  windows : List FaultWindow
  /-- The fault-verify conversions that wait, first in first out (R341). -/
  verify : List Verify
  /-- The response under execution: 0 none, 4 SEQ_OFF, 5 ALL_OFF_NOW, 6 SHIP (R228). -/
  executing : Nat
  /-- FAULTn low in PULSE mode (R237). -/
  pulse : Bool
  /-- Die temperature at or above sys.die_warn_c (R239). -/
  dieWarn : Bool
  ocCnt : Vector Nat 16
  /-- Consecutive pairs above the BAT_OV limit (Table SUP.1). -/
  batOvCnt : Nat
  /-- The die comparator reads hot, at 150 °C with 20 °C of hysteresis (Table SUP.1), and DIE_OT has latched for that (R235). -/
  dieHot : Bool
  dieSeen : Bool
  /-- When the last periodic sense check began, µs (R210). -/
  senseAt : Nat
deriving DecidableEq, Repr

/-! ### First-fault capture (chapter 06) -/

/-- Capture states (Table CAP.2). -/
inductive CapState where
  | disabled
  | armed
  | post
  | committing
  | held
  | recovering
deriving DecidableEq, Repr

/-- The rail fields of a record descriptor as they stood at the latch (Table CAP.6). -/
structure CapRail where
  present : Bool
  bankOut : Bool
  captured : Bool
  atten : Nat
  st : Nat
  lsb : Nat
  zero : Int
  vnom : Nat
  last : Int
deriving DecidableEq, Repr

/-- A capture under way (Table CAP.5). -/
structure Capture where
  code : Nat
  src : Nat
  response : Nat
  flags : Nat
  tick : Nat
  rtc : Nat
  boot : Nat
  serial : Nat
  pre : Nat
  post : Nat
  mask : Nat
  mode : Nat
  table : Nat
  others : Nat
  /-- The trigger frame: its ring index and trig_lag, once PIPE has taken it (R258). -/
  trigger : Option (Nat × Nat)
  /-- Frames written before T since the last PIPE start, and frames from T on. -/
  before : Nat
  after : Nat
  clockCut : Bool
  /-- The post window ended on a loss of lock (R264). -/
  cut : Bool
  markerDone : Bool
  /-- The record commit has started; RESV then, mV (R265, R266). -/
  started : Option Int
  /-- The record commit had its turn in the hold-up order without enough on the reservoir: the marker stays PENDING (R265). -/
  abandoned : Bool
  rails : List CapRail
deriving DecidableEq, Repr

/-- Caldera (chapter 06). -/
structure Caldera where
  state : CapState
  cap : Option Capture
  /-- The capture serial of the last trigger (R263). -/
  serial : Nat
  missed : Nat
  lastMissed : Nat × Nat × Nat
  /-- The missed count has changed since it was last written (R255). -/
  missedDirty : Bool
  /-- Frames written since the last PIPE start, saturating at 1024 (R250). -/
  frames : Nat
  /-- Frames written since REF last ran on the RC, saturating at 1024: whether a frame before the trigger did (REF_RC, Table CAP.5). -/
  sinceRc : Nat
  ringIdx : Nat
  pipeRuns : Bool
  /-- The serial of the last capture whose record commit started: what a torn record area shows of it (R276). -/
  partSerial : Option Nat
deriving DecidableEq, Repr

/-! ### Module tags (chapter 09) -/

/-- A module's identity (Table TAG.2). -/
structure TagId where
  cls : Nat
  variant : Nat
  serial : Nat
deriving DecidableEq, Repr

/-- One ring position (R370 to R383). -/
structure TagPos where
  cur : TagId
  word : Nat
  loadMask : Nat
  limit : Int
  /-- MISSING, PARTIAL, STUB, MISMATCH, UNREACHABLE (TAGS_STATUS). -/
  missing : Bool
  partial_ : Bool
  stub : Bool
  mismatch : Bool
  unreachable : Bool
  badRun : Nat
  badCount : Nat
  image : TagId
  /-- The image's MISSING bit (R383). -/
  imgMissing : Bool
  profile : Option Nat
  /-- The profile that the position last held (R380). -/
  lastProfile : Option Nat
  /-- The change kind that waits for its EXT read (R379). -/
  waiting : Option Nat
  /-- The parameters that the profile holds (R386, R647). -/
  holds : List PInst
deriving DecidableEq, Repr

/-- What the link master has in flight. -/
inductive TagFlight where
  | idle
  | sweep
  | locA (hop : Nat)
  | locB (hop : Nat)
  | stubA (hop : Nat)
  | stubB (hop : Nat)
  | bridge
  | ext (pos : Nat)
deriving DecidableEq, Repr

/-- A park or unpark of a profile that waits for the running table (R387). -/
structure HeldPark where
  rail : Nat
  park : Bool
deriving DecidableEq, Repr

/-- The Bamard master (chapter 09). -/
structure Tags where
  pos : Vector TagPos 8
  /-- Classes by position from the module image recalled with the configuration (R168, R383). -/
  recalled : Vector Nat 8
  /-- A complete sweep has come in this power cycle (R168). -/
  swept : Bool
  /-- The image has been written since NV_READY (R382). -/
  imaged : Bool
  flight : TagFlight
  /-- The microsecond at which the frame in flight began (R370, R373). -/
  sentAt : Nat
  /-- The microsecond from which the next sweep period may begin (R376, Table TAG.8). -/
  nextAt : Nat
  /-- The tags that the last poll to emerge counted (R373). -/
  emerged : Option Nat
  open_ : Bool
  reachA : Nat
  reachB : Nat
  /-- Positions that the last break location counted (n of R374). -/
  ringN : Nat
  /-- Replies from BMD_B of the location under way (R374). -/
  bHeld : List Bytes
  /-- Positions whose EXT read falls in this sweep period (R379). -/
  extQ : List Nat
  /-- Tag count of the last complete sweep (R369, R374). -/
  lastCount : Option Nat
  completed : Nat
  aborted : Nat
  lastK : Nat
  breakTick : Nat
  held : List HeldPark
deriving DecidableEq, Repr

/-! ### Converters and measurement (chapters 07 and 08) -/

/-- The coefficients of one slice (R291, R295): offset in q4, gain in 2^-15, skew in 0.5 ps steps. -/
structure Slice where
  off : Int
  gain : Int
  skew : Int
deriving DecidableEq, Repr

/-- State of a spare slice (RING_STATUS byte 7). -/
inductive SpareSt where
  | ready
  | held
  | permanent
  | calibrating
deriving DecidableEq, Repr

/-- A conversion that a converter has issued (R295, R334, R339): the sequence and its frame's number (sequence 8 for an urgent request),
the entry and the oversample, the slices that convert it (two for an SWB pair), and the CNV cycles, counted from the PLL's first lock, at
which it begins its acquisition, holds and ends. -/
structure Job where
  src : Nat
  frame : Nat
  entry : Nat
  k : Nat
  slices : List Nat
  began : Nat
  hold : Nat
  ends : Nat
  restarted : Bool
deriving DecidableEq, Repr

/-- One sweep converter (R295 to R304, R329 to R331, R334): SWA has 4 positions, SWB 2, which convert together. -/
structure Converter where
  /-- The slice at each position. -/
  pos : List Nat
  spare : Nat
  spareSt : SpareSt
  /-- Coefficients by slice. -/
  coef : List Slice
  /-- The target position p. -/
  p : Nat
  fails : Nat
  rotations : Nat
  qualFails : Nat
  /-- A qualified swap waits for the conversion boundary (R301). -/
  swapDue : Bool
  /-- The spare's coefficients before the step whose swap waits: a loss of lock brings them back. -/
  spareWas : Option Slice
  /-- A rotation step that fell due during CAL_SYSTEM, with what it will measure (R311). -/
  due : Option Rotation
  /-- The conversions issued at each position of SWA, in their order; those of SWB in one list, as its positions convert together. -/
  slots : List (List Job)
  /-- The position that the round robin looks at next (R295). -/
  rr : Nat
  /-- The CNV cycle at which each list last ended a conversion (R303). -/
  lastEnd : List Nat
  /-- Slices whose first result at their position is still to carry ROTATED (R301). -/
  fresh : List Nat
  triggers : Nat
  completed : Nat
  dropped : Nat
  abortRestart : Nat
deriving DecidableEq, Repr

/-- A frame in progress (R321, R334): its number in the order of the triggers' arrival, the CNV cycle of its trigger, the latched
descriptor, the entries whose records are produced, and the entry and the oversample that are issued next. -/
structure Frame where
  number : Nat
  at_ : Nat
  desc : Bytes
  next : Nat
  entry : Nat
  k : Nat
  /-- The first entry of a synchronised frame (R332). -/
  sync : Bool
  /-- Ring space reserved, bytes not yet written (R350). -/
  room : Nat
  /-- The ring that the frame's records go to, as it was attached when the frame started (R350, R353). -/
  ring : Option Nat
  /-- The channel corrections of the frame: cnv.offset and cnv.gain of its channels at its boundary (Table CNV.7). -/
  cor : List (Nat × Int × Int)
deriving DecidableEq, Repr

/-- One measurement sequence (R318 to R327). -/
structure Seq where
  running : Bool
  /-- The frames in progress, oldest first: a next one may start once the last conversion of the one before is issued (R330). -/
  frames : List Frame
  /-- SEQ_STOP or the end of SINGLE stops it when the frame ends (R324, R327). -/
  stopping : Bool
  /-- The trigger mode in force for the running sequence (R327). -/
  mode : Nat
  /-- The timer: the microseconds value at which the period in progress began, and its length (R327). -/
  since : Nat
  period : Nat
  /-- The commit epoch that its last frame start took channel corrections up from (Table CNV.7). -/
  corEpoch : Nat
deriving DecidableEq, Repr

/-- One DMA channel's ring (R344 to R354, R360). -/
structure Ring where
  attached : Bool
  /-- The rail of a PIPE stream (R360). -/
  pipe : Option Nat
  tenant : Nat
  cb : Nat
  bank : Nat
  size : Nat
  policy : Nat
  /-- Bytes produced and released since attach, and records overwritten, 64 bits (R351). -/
  produced : Nat
  released : Nat
  overwritten : Nat
  full : Bool
  dropping : Bool
  failed : Bool
  /-- RING_THRESHOLD has been posted since pending was below the threshold (R352). -/
  notified : Bool
  /-- Records produced that DMA has not written yet, with their frames' numbers, in the order of the ring (R348). -/
  queue : List (Nat × Bytes)
deriving DecidableEq, Repr

/-- A CAL_SYSTEM run (R307 to R315). -/
structure CalRun where
  channel : Nat
  gain : Bool
  stated : Int
  persist : Bool
  tenant : Nat
  epoch : Nat
  /-- The run has lost its ground: 0 a precondition, 4 SERVICE (R314). -/
  lost : Option Nat
  /-- The run has written its coefficient, persisted or not, and waits for the channel's safe point (R315). -/
  written : Option (Int × Bool)
  /-- A PIPE run: the CNV cycle from which it takes samples, and those it has taken, newest first (R311, R312). -/
  from_ : Nat
  samples : List Nat
deriving DecidableEq, Repr

/-- A Q7 pair of usable records: a voltage channel with the current of its path (R439, R457). -/
structure Q7Pair where
  ch : Nat
  /-- Its hold instant, µs. -/
  at_ : Nat
  /-- mV. -/
  v : Int
  /-- In units of 0.5 mA. -/
  i : Int
deriving DecidableEq, Repr

/-- Measurement (chapters 07 and 08). -/
structure Measure where
  swa : Converter
  swb : Converter
  seqs : Vector Seq 8
  rings : Vector Ring 4
  cal : Option CalRun
  /-- The rail whose input-short switch is closed (R282, R312). -/
  shorted : Option Nat
  /-- Frame numbers given so far (R334). -/
  arrivals : Nat
  /-- The trigger lines whose source has fired and that have not fired yet (R328). -/
  due : List Nat
  /-- The last usable result of each channel, 0x00 to 0x47. -/
  results : Vector (Option Int) 72
  /-- The first SWB reading of VBAT since POR, for the SHIP record (Table MOD.5). -/
  firstVbat : Option Int
  /-- The last result of each channel carried LIMIT_HI or LIMIT_LO (R328). -/
  crossed : Vector Bool 72
  /-- The open comparators of TS0 to TS7 are tripped (R357). -/
  tripped : Vector Bool 8
  /-- The trips of each open comparator, newest first: the CNV cycle of the trip and that of its release. They are kept while a conversion in
  the schedule may still ask for them (R358). -/
  trips : Vector (List (Nat × Option Nat)) 8
  /-- The Q7 pairs of the last 10 s, newest first. -/
  pairs : List Q7Pair
deriving DecidableEq, Repr

/-! ### Scratchpad banks (chapter 12) -/

/-- Bank states (Table BNK.2). -/
inductive BankSt where
  | free
  | owned
  | draining
  | zeroing
  | retired
  | testing
  | fixed
deriving DecidableEq, Repr

/-- An access that a bank has accepted and not granted yet: a transfer through a memory window, an alias write, an ATOP operation, or a
bank command. Port 4 stands for a bridge that was reset since: its result is lost ("When a port reset meets a window access"). -/
inductive Access where
  | window (port code : Nat) (write : Bool) (address count : Nat) (data : Bytes) (parityBad : List Nat)
  | aliasWrite (op owner address data : Nat) (parityBad : Bool)
  | atop (port code op address operand : Nat) (parityBad : Bool)
  | command (r : Req) (code : Nat) (payload : Bytes)
deriving DecidableEq, Repr

/-- An access that a draining bank holds for its new owner (R506), with the master that makes it and the microseconds value of its
acceptance; none while the master's two places in the bank's queue are taken (R499). -/
structure Held where
  access : Access
  master : Nat
  at_ : Option Nat
deriving DecidableEq, Repr

/-- One bank (R488 to R498, R502, R508 to R514). -/
structure Bank where
  st : BankSt
  owner : Nat
  delegates : List Nat
  /-- Cause of retirement as BANK_STATUS reports it. -/
  cause : Nat
  /-- The handover under way: the old owner with its delegates, and the action of BANK_HANDOVER. -/
  oldOwner : Nat
  oldDelegates : List Nat
  action : Nat
  /-- BANK_RETIRE drains the bank (R513). -/
  retiring : Bool
  /-- A ring bank withheld by BIST (R272, R512). -/
  withheld : Bool
  deny : Nat
  parity : Nat
  /-- The arbiter: the master of the run under way, the grants of its run, and the round-robin pointer (R499). -/
  holder : Option Nat
  run : Nat
  ptr : Nat
  /-- The accesses of the new owner that wait for the drain (R506). -/
  held : List Held
  /-- Columns that the factory fuses map to spare columns, and those that the last BIST has mapped: a column from 0 to 35 with its spare,
  36 or 37 (R510). -/
  fuses : List (Nat × Nat)
  mapped : List (Nat × Nat)
deriving DecidableEq, Repr

/-- The fabric (chapter 12). -/
structure Fabric where
  banks : Vector Bank 64
  /-- Fabric error count (R487). -/
  errors : Nat
  /-- Conflict and wait-cycle counts by master (R501). -/
  conflicts : Vector Nat 12
  waits : Vector Nat 12
  /-- The addresses of scratchpad bytes whose parity bit does not agree with them; every other byte's does (R507). -/
  flips : List Nat
deriving DecidableEq, Repr

/-! ### Intake (chapter 10) -/

/-- Input states (Table INT.2). -/
inductive InSt where
  | absent
  | debounce
  | negotiating
  | ready
  | search
  | settled
  | panel
  | blocked
  | disabled
deriving DecidableEq, Repr

/-- Power-path states (Table INT.1). -/
inductive PathSt where
  | noSource
  | source
  | supplement
  | handover
  | noBattery
  | off
deriving DecidableEq, Repr

/-- One input (R398 to R404). -/
structure Input where
  st : InSt
  /-- The detector reads present (R399). -/
  present : Bool
  /-- VIN_OV or VIN_REVERSE is present (R404). -/
  faulted : Bool
  /-- The voltage that stands on the input, mV, as last given (R399, R400). -/
  mv : Nat
  /-- While the count of its qualification runs: the microseconds value at which it is complete (R400). -/
  due : Option Nat
  /-- Disabled by INTAKE_POLICY (R704). -/
  disabled : Bool
  /-- VOC as measured at qualification (R401). -/
  voc : Nat
  /-- Its wake count, from the time at which it reached sys.ship_wake_vin_mv (Table MOD.3): the microseconds value at which the count is
  complete, whether bit 6 of sys.wake_sources has been set in it (R125), and whether it has ended. -/
  wakeAt : Option Nat
  wakeOn : Bool
  woken : Bool
deriving DecidableEq, Repr

/-- The intake search of the active input (R428 to R430). -/
structure Search where
  /-- The search limit, mA. -/
  lim : Nat
  step : Nat
  halved : Bool
  prev : Option (Int × Int)
  steps : Nat
  matched : Bool
  /-- The step was not loaded, and the search waits for demand (R429). -/
  waiting : Bool
  /-- During a creep try: the limit before it, and the means of VIN and IIN just before it (R430). -/
  trying : Option (Nat × Int × Int)
  /-- The microseconds value from which the dwell, the creep period or the panel period runs (R428, R430, R432). -/
  since : Nat
deriving DecidableEq, Repr

/-- A PD contract or request: kind 1 fixed, 2 PPS (INTAKE_STATUS byte 20). -/
structure Contract where
  kind : Nat
  mv : Nat
  ma : Nat
  pos : Nat
deriving DecidableEq, Repr

/-- A PD message that the PHY has queued for firmware ("When a core reset meets intake"). -/
inductive PdMsg where
  | sourceCaps (objects : List (BitVec 32))
  | accept
  | psRdy
  | identity (idHeader product : BitVec 32)
  | other (epr : Bool)
deriving DecidableEq, Repr

/-- A PD message of the device (R417 to R421). -/
inductive PdSent where
  | request
  | hardReset
  | discoverIdentity
  | notSupported
deriving DecidableEq, Repr

/-- Intake and the power path (chapter 10). -/
structure Intake where
  path : PathSt
  active : Option Nat
  inputs : Vector Input 2
  /-- The input that leaves active in a handover, and the reason of SOURCE_DETACHED (R410, R412). -/
  leaving : Option (Nat × Nat)
  /-- The input that takes over after a changeover (R408). -/
  incoming : Option Nat
  /-- The microseconds value at which a blocking pair last turned off, and the one from which the active pair is on (R391). -/
  pairOff : Nat
  pairFrom : Nat
  /-- The input whose pair the clock backstop left on, or that powers the device in a dead-battery wake, until the path is formed again
  (R37, R100). -/
  kept : Option Nat
  search : Search
  /-- Type-C state: 0 Unattached.SNK, 1 AttachWait.SNK, 2 Attached.SNK, 3 DebugAccessory.SNK (R414). -/
  tc : Nat
  rp : Nat
  /-- Hard Resets sent for want of Source_Capabilities (R418). -/
  hardResets : Nat
  /-- The source is treated as a Type-C source at its Rp level (R418). -/
  silent : Bool
  /-- A Hard Reset has removed VBUSC; CC stays attached. -/
  resetting : Bool
  caps : List (BitVec 32)
  /-- PD_REQUEST's choice: object position and APDO voltage (R423). -/
  choice : Option (Nat × Nat)
  request : Option Contract
  contract : Option Contract
  /-- From Accept until PS_RDY: the current in force before the transition (R422). -/
  oldMa : Option Nat
  /-- From Accept until VBUSC has settled: the voltage before the transition (R403). -/
  oldMv : Option Nat
  /-- PD messages that wait for firmware, at most 4, and the last message that the device sent. -/
  pdQueue : List PdMsg
  pdSent : Option PdSent
  /-- PS_RDY has come and VBUSC has not settled yet (R422). -/
  settling : Bool
  /-- The microseconds values of the last PS_RDY and of the last Request (R421, R422). -/
  psAt : Nat
  reqAt : Nat
  /-- The ID Header VDO and the Product VDO (R419). -/
  identity : Option (Nat × Nat)
  /-- VBAT at the last PPS request (R421). -/
  ppsVbat : Int
  /-- BUDGET_WINDOW's override: class and the microseconds value of its expiry (R434). -/
  override_ : Option (Nat × Nat)
  /-- The filtered levels of the GPIO balls, which the class pins read (R435). -/
  gpio : BitVec 32
  /-- The class in force and its source (R434, Table INT.7). -/
  cls : Option Nat
  clsSrc : Nat
  /-- The budget cap that the hardware limit honours (R438). -/
  capNow : Option Nat
  /-- Panel mode: the direction of the last move and the last power (R432). -/
  panelUp : Bool
  panelPower : Option Int
  /-- The microseconds value of the last VOC in panel mode (R433). -/
  vocAt : Nat
  /-- RTC seconds at the interval's start, and its flags (R440, Table INT.7). -/
  ivStart : Nat
  ivPartial : Bool
  ivWindow : Bool
  ivSource : Bool
  /-- The RTC second from which boundaries count, and what TIME_SET has added to the RTC since the interval's start (R440, R681). -/
  ivMark : Nat
  ivShift : Int
  /-- The hash of the signature of the last source that left active (R441). -/
  lastHash : Nat
  /-- Signature entries that wait to be written, and whether every older one is to be emptied first (R426). -/
  sigWait : List Bytes
  sigForget : Bool
  /-- GoodCRC messages that the PHY has sent (R418). -/
  goodCrcs : Nat
deriving DecidableEq, Repr

/-! ### Charger and gauge (chapter 11) -/

/-- Geyser phases (Table GEY.1). -/
inductive ChgPhase where
  | check
  | precharge
  | geyser
  | topoff
  | done
  | maintain
  | suspended
deriving DecidableEq, Repr

/-- A charging session (R452, Table GEY.9). -/
structure Session where
  rtc : Nat
  start : Nat
  inStart : Nat
  repStart : Nat
  first : Nat
  last : Nat
  tmin : Option Int
  tmax : Option Int
  input : Nat
deriving DecidableEq, Repr

/-- Geyser (R444 to R467). -/
structure Charger where
  phase : ChgPhase
  /-- The suspend cause (Table GEY.3). -/
  cause : Nat
  /-- The charge set-point that Geyser asks, mA. -/
  setpoint : Int
  iPrev : Int
  /-- The current that the next rising edge writes, once decided (R460). -/
  iNext : Option Int
  iTop : Int
  clamped : Bool
  iClamp : Int
  inRest : Bool
  /-- The boot rest runs (R479). -/
  bootRest : Bool
  /-- The microseconds values of the step edge that began the rest or pulse under way (R446, R455), and of the entry to the phase, with
  the whole seconds of the phase that have been taken (R456). -/
  restAt : Nat
  phaseAt : Nat
  secs : Nat
  /-- Voltage and current 50 ms after the rising edge of the last pulse (Table GEY.4). -/
  rise : Option (Int × Int)
  /-- v_1r and i_1r of the last rising edge (Table GEY.4). -/
  rise1 : Option (Int × Int)
  /-- A full rest before the next pulse, after a core reset. -/
  discardRest : Bool
  vEndPrev : Option Int
  inhibit : Bool
  stop : Nat
  timeout : Bool
  /-- The source was removed since the TIMEOUT (Table GEY.3). -/
  removed : Bool
  recoveryFailed : Bool
  /-- BAT_TS_OPEN's fixed action holds (Table SUP.1). -/
  tsHold : Bool
  /-- Battery temperature, 0.1 °C; none while it is hot for want of a result (R462). -/
  temp : Option Int
  /-- The band: 0 cold, 1 cool, 2 standard, 3 warm, 4 hot (Table GEY.6). -/
  band : Nat
  /-- band_num and band_dv in force (R465). -/
  bandNum : Int
  bandDv : Int
  /-- A temperature above the discharge limit has raised BAT_OT (R464). -/
  otHit : Bool
  /-- The safety timer: counted microseconds and the microseconds value from which it counts on (R466). -/
  timerAcc : Nat
  timerSince : Option Nat
  /-- The time that earlier PRECHARGE phases of the session took, µs (R467). -/
  preAcc : Nat
  dcir1 : Int
  dcir50 : Int
  ocvEst : Int
  slope : Int
  pulses : Nat
  invalid : Nat
  session : Option Session
deriving DecidableEq, Repr

/-- The gauge (Table GEY.11). -/
structure Gauge where
  /-- The state is established since POR (R479). -/
  have_ : Bool
  /-- The microseconds value of the last update (R471). -/
  updAt : Nat
  /-- The microseconds value since which IBAT has stayed within ±C/200, or of the REST anchor set since (R473). -/
  quiet : Option Nat
  /-- The microseconds value since which loaded VBAT has stayed below gauge.vcut_mv (R477). -/
  low : Option Nat
  rem : Int
  full : Int
  soc : Nat
  rep : Nat
  prov : Bool
  fullHold : Bool
  empty : Bool
  disagree : Bool
  anchorValid : Bool
  anchorKind : Nat
  anchorS : Nat
  anchorN : Int
  anchorSeq : Nat
  tempsOk : Bool
  /-- Last dcir50_f, 0 for none. -/
  dcir : Nat
  cycle : Nat
  disch : Nat
  tmin : Option Int
  tmax : Option Int
  credit : Nat
  /-- The coulomb ledger's net and out at the last update (R471, R482). -/
  lastNet : Int
  lastOut : Nat
  /-- A saved state was read at NV_READY (R470). -/
  saved : Bool
  /-- Findings of NV_READY for Table GEY.7: a long SHIP, a GAP. -/
  longShip : Bool
  gapSeen : Bool
  /-- The boot rest's figures, until NV_READY has come too (R479). -/
  boot : Option (Int × Int)
deriving DecidableEq, Repr

/-! ### Auxiliary outputs and boundary scan (chapters 02 and 18) -/

/-- The current limits of the two supply outputs (R754). -/
structure Supply where
  /-- VAUX is folded back. -/
  vauxFold : Bool
  /-- BMD_VDD is folded back. -/
  bmdFold : Bool
deriving DecidableEq, Repr

/-- The boundary-scan instructions (Table BAL.16). -/
inductive TapInstr where
  | extest
  | idcode
  | sample
  | clamp
  | highz
  | bypass
deriving DecidableEq, Repr

/-- The states of the IEEE 1149.1 controller, which R79 names. -/
inductive TapCtl where
  | testLogicReset
  | runTestIdle
  | selectDr
  | captureDr
  | shiftDr
  | exit1Dr
  | pauseDr
  | exit2Dr
  | updateDr
  | selectIr
  | captureIr
  | shiftIr
  | exit1Ir
  | pauseIr
  | exit2Ir
  | updateIr
deriving DecidableEq, Repr

/-- The test access port (R79 to R86). -/
structure Tap where
  /-- The controller state; the pull-down of TRSTn holds Test-Logic-Reset until a test host drives it (R79, Table BAL.14). -/
  ctl : TapCtl
  /-- The instruction register (R79). -/
  ir : BitVec 4
  /-- The update latches of the 259 boundary cells, cell 0 in bit 0 (R85). -/
  cells : BitVec 259
  /-- The bits that the last scan put out on TDO, the first in bit 0; the model's own field (assumption 4). -/
  tdo : BitVec 259
  /-- TEST_EN is high (R82). -/
  testEn : Bool
deriving DecidableEq, Repr


/-- The device. -/
structure State where
  /-- The commands that wait, first in first out; the model's own field. -/
  pending : List Instr
  /-- Free values drawn so far; the model's own field (assumption 16). -/
  free : Nat
  /-- The fabric and NV memories: cells whose byte differs from what an unlisted address reads as. -/
  mem : List Host.Cell
  aon : Aon
  clk : Clocks
  core : CoreBlk
  ports : Vector Port 4
  i3c : I3cBus
  uart : UartBus
  tenants : Vector Tenant 64
  ops : List PendOp
  owed : List OwedAbort
  deferred : List Deferred
  par : ParamStore
  nv : Nv
  fw : FwUpdate
  log : Sinter
  bg : Background
  rails : Vector Rail 24
  eng : Engine
  sup : Sup
  cap : Caldera
  tags : Tags
  msr : Measure
  fab : Fabric
  inp : Intake
  chg : Charger
  gau : Gauge
  supply : Supply
  tap : Tap
deriving DecidableEq, Repr

/-! ### Reset -/

/-- A port after POR (Tables HST.3, HST.6 to HST.8). -/
def Port.atReset : Port :=
  { ready := false, inReset := false, reqBuf := [], reqLen := 0, reqBusy := false, rspQ := [], rspWait := [], irqStatus := 0,
    irqMask := 0x1F, irqNew := 0, winBank := 0x3F, winDenied := false, winParity := false, winRetired := false, winUnbound := false,
    atopErr := false, winCount := 0, atopBusy := false, atopAddr := 0, atopOpnd := 0, atopResult := 0, scratch := 0,
    evtData := [], nacked := false, bound := none, busOut := [] }

/-- A tenant after POR: no session, an empty queue (Table ARC.5). -/
def Tenant.atReset : Tenant :=
  { session := none, authed := false, outstanding := 0, nonce := none, nonceAt := 0, fails := 0, lockout := false, lockAt := 0, authReq := false, queue := [],
    posted := 0, delivered := 0, overflowed := 0, txn := none, part := none }

/-- A Fumarole task after POR. -/
def Task.atReset : Task :=
  { due := false, running := false, progress := 0, dueAt := 0, fallen := 0, runs := 0, overruns := 0, last := 0, longest := 0, recent := [], current := 0,
    corrections := 0, firstAddr := 0xFFFFFFFF, bad := false }

/-- The energy ledger of an input after POR. -/
def Energy.atReset : Energy :=
  { havePrev := false, prevHold := 0, residual := 0, total := 0, opened := 0, committed := 0, unmeasuredUs := 0, closedCount := 0 }

/-- A rail after POR: OFF, with every comparator on the lower side of its band (R105, Table ARC.5). -/
def Rail.atReset : Rail :=
  { st := .off, en := false, ds := false, scanOff := false, pg := false, ball := false, win := false,
    fastOv := false, fastUv := true, fastInit := true, below := false, tonRun := false, tonRaised := false, toffRun := false, toffBy := .off,
    offMv := none, pgArmed := false, cntOv := 0, cntUv := 0, cntOvw := 0, cntUvw := 0, cntRev := 0, inOvw := 0, inUvw := 0, warnOv := false,
    warnUv := false, frozen := false, last := none, retryUsed := 0, retryDue := false, retryFor := [],
    retrying := false, otMod := false,
    margin := { mode := 0, driving := false, code := 0, held := none, settled := false, stale := false, saturated := false,
                staleTicks := 0, target := none, lastErr := 0, lastCode := 0, heldErr := 0, runSame := 0, satTicks := 0, fresh := none,
                winMode := 0, winPolicy := 0 } }

/-- A ring position after POR. -/
def TagPos.atReset : TagPos :=
  { cur := { cls := 0, variant := 0, serial := 0 }, word := 0x800, loadMask := 0, limit := 0x7F, missing := false, partial_ := false,
    stub := false, mismatch := false, unreachable := false, badRun := 0, badCount := 0,
    image := { cls := 0, variant := 0, serial := 0 }, imgMissing := false, profile := none, lastProfile := none,
    waiting := none, holds := [] }

/-- A sweep converter after POR, with `n` positions (R295; the slice coefficients of assumption 31). -/
def Converter.atReset (n : Nat) : Converter :=
  { pos := List.range n, spare := n, spareSt := .ready, coef := List.replicate (n + 1) { off := 0, gain := 32768, skew := 0 }, p := 0,
    fails := 0, rotations := 0, qualFails := 0, swapDue := false, spareWas := none, due := none,
    slots := List.replicate (if n = 2 then 1 else n) [], rr := 0, lastEnd := List.replicate (if n = 2 then 1 else n) 0, fresh := [], triggers := 0, completed := 0,
    dropped := 0, abortRestart := 0 }

/-- A DMA channel after POR. -/
def Ring.atReset : Ring :=
  { attached := false, pipe := none, tenant := 0xFF, cb := 0, bank := 0, size := 0, policy := 0, produced := 0, released := 0,
    overwritten := 0, full := false, dropping := false, failed := false, notified := false, queue := [] }

/-- A bank after POR: 0 to 7 and 52 to 63 fixed, the others FREE (R488, R498). -/
def Bank.atReset (k : Nat) : Bank :=
  { st := if k < 8 ∨ 51 < k then .fixed else .free, owner := if k < 8 then 0x80 else if 51 < k then 0x82 else 0xFF,
    delegates := if k = 7 then [0x81, 0x87] else [], cause := 0, oldOwner := 0xFF, oldDelegates := [], action := 0, retiring := false,
    withheld := false, deny := 0, parity := 0, holder := none, run := 0, ptr := 0, held := [], fuses := [], mapped := [] }

/-- An input after POR (R105). -/
def Input.atReset : Input := { st := .absent, present := false, faulted := false, mv := 0, due := none, disabled := false,
                               voc := 0, wakeAt := none, wakeOn := false, woken := false }

/-- The always-on domain after AON POR. -/
def Aon.atReset : Aon :=
  { rtc := 0, rtcSub := 0, timeSet := false, shipLatch := false, armed := false, btnHeld := false, wakeSource := none, wakeRtc := 0, wakeVinMv := 4300 }

/-- The device right after its first POR, with erased arrays (R43, Table ARC.5, Timeline MOD.1): the core has not booted, no
configuration is recalled, every rail is OFF and nothing is open. The values that the spec does not state are those of
assumptions 50 to 56. -/
def State.reset : State :=
  { pending := []
    free := 0
    mem := []
    aon := Aon.atReset
    clk := { us := 0, crystal := .qualifying, pllLocked := true, gated := false, gatesLow := false, qiKhz := 5000, tickFromRef := false,
             refSelect := 1 }
    core := { run := .booting, nreset := false, resetDue := none, bistHalt := false, ready := false, nvReady := false, recalled := false, fwReady := false,
              fwStart := 0, beat := 0, wdMs := 1000, wdFrom := 0, startCause := .firstPower, slot := 0, slotFallback := false, trialBoot := false, bootCount := 1,
              mode := .ship, serviceExit := .none, exitCause := 0, exitResult := 0, shipEntry := .none, shipCause := 0, shipTenant := 0xFF,
              modeTenant := 0xFF, wakePast := [], vaux := true, holdup := false, sysValidAt := 0, clkOut := false, batFet := true }
    ports := Vector.replicate 4 Port.atReset
    i3c := { dynAddr := none, events := 0, mwl := 256, mrl := 256, ibiPending := false, ibiByte := 0, readOff := 0 }
    uart := { discarded := 0, lastSent := [] }
    tenants := Vector.replicate 64 Tenant.atReset
    ops := []
    owed := []
    deferred := []
    par := { cells := [], epoch := 0, waiting := [], overlays := [], loaded := none, loadedGen := 0, base := [], skipped := 0,
             firstSkipped := { id := 0, i1 := 0, i2 := 0 } }
    nv := { gathers := [], commits := [], eePointer := 0, eeBlock := 0, eeBusy := false, eeDiscards := 0, eeOut := [], corrections := 0,
            uncorrectable := 0, badWords := [], replays := 0, journalReplayed := false, erasing := none, resvMv := 0, boost := false,
            resvTested := false, resvTestFailed := false, weak := [], rewriteNeeded := false, blank := [] }
    fw := { open_ := false, erasing := false, erased := 0, chunkEnd := 0, finishedOk := false }
    log := { head := none, headOff := 0, nextSeq := 0, nextSerial := 0, appended := 0, live := 0, superseded := 0, reclaimed := 0,
             torn := 0, tornFound := false, retainOverflow := false, restart := none, compactRestarted := false, pass := none,
             refresh := [], waiting := [], bootSeq := 0 }
    bg := { tasks := Vector.replicate 6 Task.atReset, windowUsed := 0, windowAt := 0, coulomb := { inUc := 0, outUc := 0, net := 0, residual := 0 },
            energy := Vector.replicate 2 Energy.atReset, gapCoulomb := false, gapEnergy := false, lastIntervalSeq := 0, telemetry := [],
            telemetrySeq := 0, telemetryBank := none, telemetryWritten := 0, faSeconds := 0, saSeconds := 0, restored := false, qiAt := 0 }
    rails := Vector.replicate 24 Rail.atReset
    eng := { run := none, suspended := false, active := Vector.replicate 8 [], pend := Vector.replicate 8 none,
             outs := Vector.replicate 8 false, driven := false, reqLevel := Vector.replicate 8 false, reqPend := [], join := [],
             bringWait := none, bringUp := [], dsNoEffect := 0, ifRecalled := 0, contTimeouts := 0, lastStart := 0 }
    sup := { latches := [], first := none, reports := [], windows := [], verify := [], executing := 0, pulse := false, dieWarn := false,
             ocCnt := Vector.replicate 16 0, batOvCnt := 0, dieHot := false, dieSeen := false, senseAt := 0 }
    cap := { state := .disabled, cap := none, serial := 0, missed := 0, lastMissed := (0, 0, 0), missedDirty := false, frames := 0, sinceRc := 1024,
             ringIdx := 0, pipeRuns := false, partSerial := none }
    tags := { pos := Vector.replicate 8 TagPos.atReset, recalled := Vector.replicate 8 0, swept := false, imaged := false, flight := .idle,
              sentAt := 0, nextAt := 0, emerged := none,
              open_ := false, reachA := 0, reachB := 0, ringN := 0, bHeld := [], extQ := [], lastCount := none, completed := 0,
              aborted := 0, lastK := 0, breakTick := 0, held := [] }
    msr := { swa := Converter.atReset 4, swb := Converter.atReset 2,
             seqs := Vector.replicate 8 { running := false, frames := [], stopping := false, mode := 0, since := 0, period := 0, corEpoch := 0 },
             rings := Vector.replicate 4 Ring.atReset, cal := none, shorted := none, arrivals := 0, due := [], results := Vector.replicate 72 none, firstVbat := none,
             crossed := Vector.replicate 72 false, tripped := Vector.replicate 8 false, trips := Vector.replicate 8 [], pairs := [] }
    fab := { banks := Vector.ofFn (fun k => Bank.atReset k.val), errors := 0, conflicts := Vector.replicate 12 0,
             waits := Vector.replicate 12 0, flips := [] }
    inp := { path := .noSource, active := none, inputs := Vector.replicate 2 Input.atReset, leaving := none, incoming := none,
             pairOff := 0, pairFrom := 0, kept := none,
             search := { lim := 0, step := 0, halved := false, prev := none, steps := 0, matched := false, waiting := false, trying := none, since := 0 },
             tc := 0, rp := 0, hardResets := 0, silent := false, resetting := false, caps := [], choice := none, request := none,
             contract := none, oldMa := none, oldMv := none, pdQueue := [], pdSent := none, settling := false, psAt := 0, reqAt := 0, identity := none,
             ppsVbat := 0, override_ := none, gpio := 0, cls := none, clsSrc := 0, capNow := none, panelUp := false,
             panelPower := none, vocAt := 0, ivStart := 0, ivPartial := true, ivWindow := false, ivSource := false,
             ivMark := 0, ivShift := 0, lastHash := 0, sigWait := [], sigForget := false, goodCrcs := 0 }
    chg := { phase := .suspended, cause := 0, setpoint := 0, iPrev := 0, iNext := none, iTop := 0, clamped := false, iClamp := 0,
             inRest := false, bootRest := false, restAt := 0, phaseAt := 0, secs := 0, rise := none, rise1 := none, discardRest := false, vEndPrev := none, inhibit := false, stop := 100,
             timeout := false, removed := false, recoveryFailed := false, tsHold := false, temp := none, band := 4, bandNum := 8,
             bandDv := 0, otHit := false, timerAcc := 0, timerSince := none, preAcc := 0, dcir1 := 0, dcir50 := 0, ocvEst := 0, slope := 0,
             pulses := 0, invalid := 0, session := none }
    gau := { have_ := false, updAt := 0, quiet := none, low := none, rem := 0, full := 0, soc := 0, rep := 0, prov := false, fullHold := false, empty := false, disagree := false,
             anchorValid := false, anchorKind := 0xFF, anchorS := 0, anchorN := 0, anchorSeq := 0, tempsOk := false, dcir := 0, cycle := 0,
             disch := 0, tmin := none, tmax := none, credit := 0, lastNet := 0, lastOut := 0, saved := false, longShip := false,
             gapSeen := false, boot := none }
    supply := { vauxFold := false, bmdFold := false }
    tap := { ctl := .testLogicReset, ir := 1, cells := 0, tdo := 0, testEn := false } }

end Sys2Proof.Machine
end

