-- ==== Sys2Proof/Machine/Params.lean ====
section
/-! DEFINITION. The parameters: identity, indices, types, ranges, defaults, units and safe points of Table PAR.7 and
the home tables, and the store that holds committed and in-force values (R636 to R645). -/

namespace Sys2Proof.Machine

/-- Parameter classes (Table SCO.5, codes of PARAM_INFO byte 2). -/
inductive PClass where
  | live
  | staged
  | locked
  | factory
  | counter
deriving DecidableEq, Repr

/-- Value types (Table PAR.2, codes of Table CMD.6). -/
inductive PType where
  | u8
  | u16
  | u32
  | u64
  | s16
  | text
  | blob
deriving DecidableEq, Repr

/-- Index letters (Table PAR.1). -/
inductive PIdx where
  | none
  | rail
  | railFault
  | globalFault
  | group
  | aux
  | tenant
  | table
  | trg
  | port
  | profile
  | chan
  | limitChan
  | seq
  | ring
  | ts
  | pos
  | input
  | budget
  | bank
  | master
deriving DecidableEq, Repr

/-- Safe points that are conditions (R642). -/
inductive Cond where
  | standbyNoTable
  | tenantIdle
  | portIdle
  | i3cNoAddr
  | railOff
  | noTable
  | noTableOutputsOff
  | marginOff
  | responsesQuiet
  | auxNotConverted
  | captureQuiet
  | seqStopped
  | detached
  | tsNotConverted
  | betweenSweeps
  | betweenSteps
  | inputIdle
  | chargerIdle
  | nvQuiet
  | nvQuietWindow
  | noSnapshot
deriving DecidableEq, Repr

/-- Safe points that are occasions (R642). -/
inductive Occ where
  | now
  | never
  | por
  | press
  | shipEntry
  | modeChange
  | dieReading
  | commitAccepted
  | sessionOpen
  | eventPosted
  | claim
  | bankAccess
  | enAssert
  | enDeassert
  | unpark
  | loopTick
  | marginMode
  | swaRail
  | swaAux
  | check
  | latch
  | rotationSwa
  | rotationSwb
  | channelFrame
  | frameStart
  | record
  | result
  | sweep
  | ilim
  | step
  | searchStart
  | creepTry
  | negotiation
  | selection
  | qualification
  | interval
  | chgSafe
  | gaugeUpdate
  | qiDelivery
  | fwReady
  | bankScrub
  | faScrub
  | saScrub
  | append
  | window
  | watchdog
  | dispatch
  | snapshot
  | checkpoint
deriving DecidableEq, Repr

/-- The two kinds of safe point (R642). -/
inductive Safe where
  | cond (c : Cond)
  | occ (o : Occ)
deriving DecidableEq, Repr

/-- One row of a home table. A number is in range when it is 0 and `zeroOk`, or equals `alt`, or lies from `lo` to
`hi` in steps of `step`; a text or blob when its length lies from `lo` to `hi`. -/
structure PInfo where
  id : Nat
  cls : PClass
  typ : PType
  idx : PIdx
  lo : Int
  hi : Int
  step : Int
  zeroOk : Bool
  alt : Option Int
  dflt : Int
  unit : String
  safe : Safe
deriving DecidableEq, Repr

/-- A row with a plain range. -/
def pRow (id : Nat) (c : PClass) (t : PType) (x : PIdx) (lo hi dflt : Int) (unit : String) (sp : Safe) : PInfo :=
  { id := id, cls := c, typ := t, idx := x, lo := lo, hi := hi, step := 1, zeroOk := false, alt := none, dflt := dflt,
    unit := unit, safe := sp }

/-- The row with a step. -/
def PInfo.by (p : PInfo) (k : Int) : PInfo := { p with step := k }

/-- The row with 0 as a further value. -/
def PInfo.zero (p : PInfo) : PInfo := { p with zeroOk := true }

/-- The row with one further value. -/
def PInfo.or (p : PInfo) (v : Int) : PInfo := { p with alt := some v }

/-- Area 0x01 (Tables ARC.7, MOD.8, SUP.8, PAR.8). -/
def pArea01 : List PInfo := [
  pRow 0x0101 .staged .u8 .none 0 0x0F 0 "bitmask" (.cond .standbyNoTable),
  pRow 0x0102 .staged .u8 .none 0 0x7F 0x7F "bitmask" (.occ .now),
  pRow 0x0103 .staged .u16 .none 50 5000 400 "ms" (.occ .press),
  (pRow 0x0104 .staged .u16 .none 3800 4500 4300 "mV" (.occ .shipEntry)).by 100,
  pRow 0x0105 .staged .u16 .none 100 4000 1000 "ms" (.occ .watchdog),
  pRow 0x0106 .locked .u8 .none 0 1 1 "code" (.occ .por),
  pRow 0x0107 .live .u8 .none 0 2 0 "code" (.occ .now),
  pRow 0x0108 .live .u8 .none 0 0x0F 0 "bitmask" (.occ .now),
  pRow 0x0109 .staged .u8 .none 0 7 7 "bitmask" (.occ .modeChange),
  pRow 0x010A .live .u8 .none 60 140 110 "°C" (.occ .dieReading),
  pRow 0x010B .staged .text .none 0 32 0 "text" (.occ .now),
  pRow 0x010C .counter .u64 .none 0 0x7FFFFFFFFFFFFFFF 0 "commits" (.occ .never),
  pRow 0x010D .counter .u32 .none 0 0xFFFFFFFF 0 "POR count" (.occ .never),
  pRow 0x010E .factory .u32 .none 0 0xFFFFFFFF 0 "code" (.occ .never),
  pRow 0x010F .staged .u16 .none 100 10000 2000 "ms" (.occ .commitAccepted) ]

/-- Area 0x02 (Table HST.12). -/
def pArea02 : List PInfo := [
  (pRow 0x0201 .staged .u8 .tenant 0 3 0xFF "port" (.cond .tenantIdle)).or 0xFF,
  pRow 0x0202 .staged .u16 .tenant 0 0x3FFF 1 "bitmask" (.cond .tenantIdle),
  pRow 0x0203 .staged .u8 .tenant 1 16 2 "credits" (.cond .tenantIdle),
  pRow 0x0204 .staged .u8 .tenant 0 1 0 "flag" (.occ .sessionOpen),
  pRow 0x0205 .live .u16 .tenant 0 0xFFFE 0xFFFE "bitmask" (.occ .eventPosted),
  pRow 0x0206 .staged .u8 .tenant 0 44 4 "banks" (.occ .claim),
  pRow 0x0207 .staged .text .tenant 0 16 0 "text" (.occ .now),
  (pRow 0x0208 .staged .u8 .none 0x08 0x77 0x31 "7-bit address" (.cond .i3cNoAddr)).zero,
  pRow 0x0209 .staged .u8 .none 0x08 0x77 0x2A "7-bit address" (.cond .portIdle),
  pRow 0x020A .staged .u8 .none 0 1 1 "code" (.cond .portIdle),
  pRow 0x020B .staged .u8 .none 0 1 1 "flag" (.cond .portIdle),
  pRow 0x020C .staged .u8 .none 0 3 2 "code" (.cond .portIdle),
  pRow 0x020D .staged .u8 .none 0 1 0 "code" (.cond .portIdle),
  pRow 0x020E .live .u8 .port 0 0x0F 0x0D "bitmask" (.occ .now) ]

/-- Area 0x04 (Table SEQ.12). -/
def pArea04 : List PInfo := [
  pRow 0x0401 .staged .u8 .rail 0 1 0 "code" (.cond .railOff),
  pRow 0x0402 .staged .text .rail 0 12 0 "text" (.occ .now),
  pRow 0x0403 .staged .u16 .rail 300 20400 1000 "mV" (.cond .railOff),
  pRow 0x0404 .staged .u8 .rail 0 3 0 "code" (.cond .railOff),
  pRow 0x0405 .staged .u8 .rail 0 1 0 "code" (.cond .railOff),
  pRow 0x0406 .staged .u8 .rail 0 2 0 "code" (.cond .railOff),
  (pRow 0x0407 .live .u16 .rail 100 24000 0 "mV" (.occ .now)).zero,
  (pRow 0x0408 .live .u16 .rail 50 24000 0 "mV" (.occ .now)).zero,
  pRow 0x0409 .live .u32 .rail 100 1000000 10000 "µs" (.occ .enAssert),
  pRow 0x040A .live .u32 .rail 100 10000000 50000 "µs" (.occ .enDeassert),
  pRow 0x040B .live .u16 .rail 20 3000 200 "mV" (.occ .now),
  pRow 0x040C .staged .u8 .rail 0 2 1 "code" (.cond .railOff),
  (pRow 0x040D .staged .u8 .rail 0 7 0xFF "group" (.cond .noTable)).or 0xFF,
  pRow 0x040E .staged .u8 .rail 0 1 0 "flag" (.cond .noTable),
  pRow 0x0410 .staged .text .table 0 16 0 "text" (.occ .now),
  pRow 0x0411 .staged .u8 .table 0 3 0 "code" (.cond .noTable),
  pRow 0x0412 .staged .u32 .none 0 0x66666666 0 "code fields" (.cond .noTable),
  pRow 0x0413 .staged .u8 .none 0 0xFF 0 "bitmask" (.cond .noTableOutputsOff),
  pRow 0x0414 .live .u32 .none 0 0x00FFFFFF 0x00FFFFFF "bitmask" (.occ .unpark) ]

/-- Area 0x05 (Table SUP.8). -/
def pArea05 : List PInfo := [
  (pRow 0x0501 .staged .u16 .rail 100 24000 0 "mV" (.cond .railOff)).zero,
  (pRow 0x0502 .staged .u16 .rail 50 24000 0 "mV" (.cond .railOff)).zero,
  pRow 0x0503 .staged .u8 .rail 0 50 2 "µs" (.cond .railOff),
  (pRow 0x0504 .live .u16 .rail 100 24000 0 "mV" (.occ .swaRail)).zero,
  (pRow 0x0505 .live .u16 .rail 50 24000 0 "mV" (.occ .swaRail)).zero,
  (pRow 0x0506 .live .u16 .rail 100 24000 0 "mV" (.occ .swaRail)).zero,
  (pRow 0x0507 .live .u16 .rail 50 24000 0 "mV" (.occ .swaRail)).zero,
  pRow 0x0508 .live .u8 .rail 1 64 3 "results" (.occ .swaRail),
  pRow 0x0509 .staged .u8 .railFault 0 6 0 "code" (.cond .responsesQuiet),
  pRow 0x050A .staged .u8 .rail 0 7 0 "retries" (.cond .responsesQuiet),
  pRow 0x050B .staged .u16 .rail 10 60000 1000 "ms" (.cond .responsesQuiet),
  pRow 0x050C .staged .u8 .group 0 0xFF 0 "bitmask" (.cond .responsesQuiet),
  (pRow 0x050D .live .u16 .none 100 60000 1000 "ms" (.occ .check)).zero,
  (pRow 0x050E .live .u16 .aux 10 20000 0 "mA" (.occ .swaAux)).zero,
  pRow 0x050F .staged .u16 .aux 1 65535 1000 "mA/V" (.cond .auxNotConverted),
  (pRow 0x0510 .staged .u8 .aux 0 23 0xFF "rail" (.cond .responsesQuiet)).or 0xFF,
  pRow 0x0511 .staged .u8 .globalFault 0 6 1 "code" (.cond .responsesQuiet) ]

/-- Areas 0x06 and 0x08 (Tables SEQ.13 and CAP). -/
def pArea06 : List PInfo := [
  pRow 0x0601 .staged .u8 .rail 0 1 0 "flag" (.cond .marginOff),
  pRow 0x0602 .staged .u8 .rail 0 1 0 "code" (.cond .marginOff),
  (pRow 0x0603 .live .u16 .rail 100 24000 0 "mV" (.occ .loopTick)).zero,
  (pRow 0x0604 .live .u16 .rail 100 24000 0 "mV" (.occ .loopTick)).zero,
  (pRow 0x0605 .live .u16 .rail 100 24000 0 "mV" (.occ .loopTick)).zero,
  pRow 0x0606 .staged .u8 .rail 0 2 0 "code" (.cond .marginOff),
  pRow 0x0607 .live .u16 .none 10 5000 1000 "Hz" (.occ .loopTick),
  pRow 0x0608 .staged .u8 .rail 1 255 255 "code" (.cond .marginOff),
  pRow 0x0609 .live .u8 .rail 0 2 0 "code" (.occ .marginMode),
  pRow 0x0801 .staged .u8 .none 0 1 1 "flag" (.cond .captureQuiet),
  (pRow 0x0802 .staged .u16 .none 64 960 768 "frames" (.cond .captureQuiet)).by 64,
  (pRow 0x0803 .staged .u16 .none 64 960 256 "frames" (.cond .captureQuiet)).by 64,
  pRow 0x0804 .staged .u32 .none 0 0x00FFFFFF 0x00FFFFFF "bitmask" (.cond .captureQuiet),
  pRow 0x0805 .live .u8 .none 0 1 0 "flag" (.occ .latch) ]

/-- Area 0x07 (Tables CNV and MSR.10). -/
def pArea07 : List PInfo := [
  pRow 0x0701 .staged .u16 .none 10 10000 250 "ms" (.occ .rotationSwa),
  pRow 0x0702 .staged .u16 .none 10 10000 250 "ms" (.occ .rotationSwb),
  pRow 0x0703 .live .s16 .chan (-4096) 4095 0 "1/16 raw code" (.occ .channelFrame),
  pRow 0x0704 .live .u32 .chan 0x00400000 0x04000000 0x01000000 "2^−24" (.occ .channelFrame),
  pRow 0x0705 .staged .u8 .none 0 1 1 "flag" (.cond .captureQuiet),
  pRow 0x0706 .live .blob .seq 8 72 0 "blob" (.occ .frameStart),
  pRow 0x0707 .live .u32 .seq 0 0xFFFFFF33 0 "code" (.occ .frameStart),
  pRow 0x0708 .staged .u8 .seq 0 1 0 "code" (.cond .seqStopped),
  pRow 0x0709 .staged .u32 .ring 256 65536 4096 "bytes" (.cond .detached),
  (pRow 0x070A .staged .u8 .ring 8 51 0xFF "bank" (.cond .detached)).or 0xFF,
  pRow 0x070B .staged .u8 .ring 0 1 1 "code" (.cond .detached),
  ((pRow 0x070C .live .u32 .ring 8 65536 0 "bytes" (.occ .record)).by 8).zero,
  pRow 0x070D .live .s16 .limitChan (-32768) 32767 32767 "result unit" (.occ .result),
  pRow 0x070E .live .s16 .limitChan (-32768) 32767 (-32768) "result unit" (.occ .result),
  pRow 0x070F .staged .u8 .ts 0 3 1 "code" (.cond .tsNotConverted),
  pRow 0x0710 .staged .u16 .ts 1000 10000 3435 "K" (.occ .now),
  pRow 0x0711 .staged .u32 .ts 1000 1000000 10000 "Ω" (.cond .tsNotConverted),
  pRow 0x0712 .staged .u16 .trg 0 0x3FFF 0 "code" (.occ .now) ]

/-- Area 0x09 (chapter 09's parameters). -/
def pArea09 : List PInfo := [
  pRow 0x0901 .staged .u8 .none 0 1 1 "flag" (.cond .betweenSweeps),
  pRow 0x0902 .live .u16 .none 5 1000 10 "ms" (.occ .sweep),
  pRow 0x0903 .staged .u8 .none 0 8 0 "tags" (.cond .betweenSweeps),
  pRow 0x0904 .staged .u8 .pos 0 254 0 "class" (.cond .betweenSweeps),
  pRow 0x0905 .staged .u8 .none 0 1 1 "code" (.cond .betweenSweeps),
  pRow 0x0906 .staged .blob .profile 16 16 0 "blob" (.cond .betweenSweeps),
  pRow 0x0907 .staged .u8 .none 0 1 0 "code" (.cond .betweenSweeps) ]

/-- Area 0x0A (chapter 10's parameters). -/
def pArea0A : List PInfo := [
  pRow 0x0A01 .staged .u8 .none 0 2 2 "code" (.cond .betweenSteps),
  (pRow 0x0A02 .live .u16 .input 100 5000 3000 "mA" (.occ .ilim)).by 50,
  (pRow 0x0A03 .live .u16 .input 4000 27000 0 "mV" (.occ .step)).zero,
  pRow 0x0A04 .live .u8 .input 0 1 1 "flag" (.occ .step),
  (pRow 0x0A05 .live .u16 .none 50 500 100 "mA" (.occ .searchStart)).by 50,
  pRow 0x0A06 .live .u8 .none 10 200 20 "ms" (.occ .step),
  (pRow 0x0A07 .live .u16 .none 10 3600 60 "s" (.occ .creepTry)).zero,
  pRow 0x0A08 .live .u8 .none 0 1 0 "flag" (.occ .step),
  pRow 0x0A09 .staged .u32 .none 0 0x3F 0x3F "bitmask" (.occ .negotiation),
  pRow 0x0A0A .live .u8 .none 0 1 0 "flag" (.occ .selection),
  (pRow 0x0A0B .staged .u16 .input 6000 30000 0 "mV" (.cond .inputIdle)).zero,
  pRow 0x0A0C .staged .u8 .none 100 200 100 "ms" (.occ .qualification),
  (pRow 0x0A0D .live .u16 .budget 100 5000 500 "mA" (.occ .ilim)).by 50,
  pRow 0x0A0E .staged .blob .none 4 36 0 "blob" (.cond .betweenSteps),
  pRow 0x0A0F .staged .u32 .none 0 0xFFF 0 "code" (.cond .betweenSteps),
  pRow 0x0A10 .staged .u8 .none 1 60 15 "min" (.occ .interval),
  (pRow 0x0A11 .staged .u16 .none 4000 18000 0 "mV" (.cond .betweenSteps)).zero ]

/-- Area 0x0B (chapter 11's parameters). -/
def pArea0B : List PInfo := [
  pRow 0x0B01 .staged .u8 .none 0 1 0 "code" (.cond .chargerIdle),
  pRow 0x0B02 .staged .u8 .none 2 4 3 "cells" (.cond .chargerIdle),
  (pRow 0x0B03 .live .u16 .none 3400 4400 4200 "mV" (.occ .chgSafe)).by 5,
  (pRow 0x0B04 .live .u16 .none 50 8000 2000 "mA" (.occ .chgSafe)).by 50,
  (pRow 0x0B05 .live .u16 .none 50 1000 200 "mA" (.occ .chgSafe)).by 50,
  (pRow 0x0B06 .live .u16 .none 25 1000 100 "mA" (.occ .chgSafe)).by 25,
  pRow 0x0B07 .live .u16 .none 50 300 100 "mV per cell" (.occ .chgSafe),
  pRow 0x0B08 .live .u8 .none 2 60 20 "s" (.occ .chgSafe),
  pRow 0x0B09 .live .u16 .none 100 2000 400 "ms" (.occ .chgSafe),
  pRow 0x0B0A .staged .blob .none 12 12 0 "blob" (.cond .chargerIdle),
  pRow 0x0B0B .staged .u16 .none 60 1440 600 "min" (.cond .chargerIdle),
  (pRow 0x0B0C .staged .u16 .none 600 1500 1000 "kHz" (.cond .chargerIdle)).by 50,
  pRow 0x0B0D .live .u8 .none 50 100 80 "%" (.occ .chgSafe),
  pRow 0x0B0E .staged .u8 .none 0 7 0 "TS index" (.cond .chargerIdle),
  pRow 0x0B0F .staged .u16 .none 500 20000 4000 "mAh" (.occ .gaugeUpdate),
  pRow 0x0B10 .locked .u16 .none 250 24000 4000 "mAh" (.occ .gaugeUpdate),
  (pRow 0x0B11 .live .u16 .none 5000 16000 0 "mV" (.occ .gaugeUpdate)).zero,
  pRow 0x0B12 .staged .blob .none 42 42 0 "blob" (.occ .gaugeUpdate),
  pRow 0x0B13 .live .u16 .none 300 7200 1800 "s" (.occ .gaugeUpdate),
  pRow 0x0B14 .locked .u16 .none 500 50000 5000 "0.001 mΩ" (.occ .qiDelivery),
  pRow 0x0B15 .live .u8 .none 1 200 20 "0.1 %/min" (.occ .gaugeUpdate),
  pRow 0x0B16 .counter .u16 .none 0 65535 0 "cycles" (.occ .never) ]

/-- Areas 0x0C, 0x0D and 0x0F (chapters 12, 13 and 17). -/
def pArea0C : List PInfo := [
  pRow 0x0C01 .live .u64 .bank 0 0xFFFFFFFFFFFFFFFF 0 "bitmask" (.occ .bankAccess),
  (pRow 0x0C02 .staged .u8 .bank 0 0x3E 0xFF "tenant" (.occ .fwReady)).or 0xFF,
  (pRow 0x0C03 .live .u32 .none 60 86400 3600 "s" (.occ .bankScrub)).zero,
  pRow 0x0C04 .staged .u8 .master 1 8 1 "grants" (.occ .now),
  pRow 0x0D01 .staged .u8 .none 0 3 0 "code" (.cond .nvQuiet),
  pRow 0x0D02 .locked .u8 .none 0 1 0 "flag" (.occ .now),
  pRow 0x0D03 .staged .u8 .none 0 3 3 "bitmask" (.cond .nvQuietWindow),
  (pRow 0x0D04 .staged .u8 .none 0x08 0x76 0x50 "7-bit address" (.cond .nvQuietWindow)).by 2,
  (pRow 0x0D05 .staged .u16 .none 14000 20000 16000 "mV" (.occ .now)).by 250,
  pRow 0x0D06 .locked .u16 .none 10000 19000 13000 "mV" (.occ .now),
  pRow 0x0D07 .staged .u16 .none 0 0xFFFF 0x4452 "bitmask" (.occ .append),
  pRow 0x0D08 .live .u8 .none 1 168 24 "h" (.occ .faScrub),
  pRow 0x0D09 .live .u8 .none 1 30 7 "days" (.occ .saScrub),
  pRow 0x0D0A .staged .u8 .none 4 32 8 "sectors" (.occ .append),
  pRow 0x0F01 .staged .u8 .none 1 50 10 "%" (.occ .window),
  pRow 0x0F02 .staged .u32 .none 0 0x3F 0x3F "bitmask" (.occ .dispatch),
  (pRow 0x0F03 .staged .u8 .none 8 51 0xFF "bank" (.cond .noSnapshot)).or 0xFF,
  pRow 0x0F04 .live .u32 .none 100 60000 1000 "ms" (.occ .snapshot),
  pRow 0x0F05 .staged .u16 .none 10 600 60 "s" (.occ .checkpoint) ]

/-- Every parameter (Table PAR.7). -/
def pTable : List PInfo :=
  pArea01 ++ pArea02 ++ pArea04 ++ pArea05 ++ pArea06 ++ pArea07 ++ pArea09 ++ pArea0A ++ pArea0B ++ pArea0C

/-- The row of a parameter ID (R636). -/
def pInfo (id : Nat) : Option PInfo := pTable.find? (fun p => p.id == id)

/-- The codes of Table SUP.2 with their default responses. -/
def railFaultDefaults : List (Nat × Nat) :=
  [(0x01, 5), (0x02, 4), (0x03, 4), (0x04, 1), (0x05, 4), (0x06, 0), (0x07, 0), (0x08, 4), (0x09, 1), (0x0A, 1),
   (0x0B, 2), (0x0C, 2)]

/-- The codes of Table SUP.1 with their default responses. -/
def globalFaultDefaults : List (Nat × Nat) :=
  [(0x0C, 1), (0x10, 0), (0x11, 0), (0x12, 1), (0x13, 1), (0x14, 1), (0x15, 4), (0x16, 1), (0x17, 4), (0x20, 5),
   (0x21, 1), (0x22, 0), (0x23, 1), (0x24, 1), (0x25, 1), (0x30, 1), (0x31, 0)]

/-- A channel ID of a result: SWA 0x00 to 0x35, SWB 0x40 to 0x47 (Table CNV.4). -/
def resultChannel (c : Nat) : Bool := decide (c ≤ 0x35) || (decide (0x40 ≤ c) && decide (c ≤ 0x47))

/-- A channel ID valid under R286. -/
def validChannel (c : Nat) : Bool := resultChannel c || (decide (0x80 ≤ c) && decide (c ≤ 0x97))

/-- A first index in the range of Table PAR.1. -/
def idxOk (x : PIdx) (i : Nat) : Bool :=
  match x with
  | .none => i == 0
  | .rail | .railFault => decide (i < 24)
  | .globalFault => globalFaultDefaults.any (fun p => p.1 == i)
  | .group => decide (i < 8)
  | .aux => decide (i < 16)
  | .tenant => decide (i < 64)
  | .table => decide (i < 8)
  | .trg => decide (i < 4)
  | .port => decide (i < 4)
  | .profile => decide (i < 16)
  | .chan => validChannel i
  | .limitChan => resultChannel i
  | .seq => decide (i < 8)
  | .ring => decide (i < 4)
  | .ts => decide (i < 8)
  | .pos => decide (i < 8)
  | .input => decide (i < 2)
  | .budget => decide (i < 4)
  | .bank => decide (8 ≤ i) && decide (i ≤ 51)
  | .master => decide (i < 12)

/-- A second index in range (R637): only sup.response takes one. -/
def idx2Ok (x : PIdx) (i : Nat) : Bool :=
  match x with
  | .railFault => railFaultDefaults.any (fun p => p.1 == i)
  | _ => i == 0

/-- The highest first index of Table PAR.1. -/
def idxMax (x : PIdx) : Nat :=
  match x with
  | .none => 0
  | .rail | .railFault => 23
  | .globalFault => 0x31
  | .group | .table | .seq | .ts | .pos => 7
  | .aux | .profile => 15
  | .tenant => 63
  | .trg | .port | .ring | .budget => 3
  | .chan => 0x97
  | .limitChan => 0x47
  | .input => 1
  | .bank => 51
  | .master => 11

/-- The bytes of a numeric type. -/
def PType.size : PType → Nat
  | .u8 => 1
  | .u16 => 2
  | .u32 => 4
  | .u64 => 8
  | .s16 => 2
  | .text => 0
  | .blob => 0

/-- The type code of Table CMD.6. -/
def PType.code : PType → Nat
  | .u8 => 0
  | .u16 => 1
  | .u32 => 2
  | .u64 => 3
  | .s16 => 4
  | .text => 5
  | .blob => 6

/-- The class code of PARAM_INFO byte 2. -/
def PClass.code : PClass → Nat
  | .live => 0
  | .staged => 1
  | .locked => 2
  | .factory => 3
  | .counter => 4

/-- A value's bytes (Table PAR.2). -/
def pBytes (t : PType) (v : PVal) : Bytes :=
  match v with
  | .num n => leInt t.size n
  | .blob b => b

/-- Whether bytes are valid UTF-8 (R638). -/
def utf8Ok : Nat → Bytes → Bool
  | 0, bs => bs.isEmpty
  | _ + 1, [] => true
  | f + 1, b :: bs =>
    let n := b.toNat
    let cont := fun (k : Nat) => ((bs.take k).length == k) && (bs.take k).all (fun c => decide (0x80 ≤ c.toNat) && decide (c.toNat < 0xC0))
    let c0 := (bs.getD 0 0).toNat
    if n < 0x80 then utf8Ok f bs
    else if 0xC2 ≤ n ∧ n < 0xE0 then cont 1 && utf8Ok f (bs.drop 1)
    else if 0xE0 ≤ n ∧ n < 0xF0 then
      cont 2 && !(n == 0xE0 && decide (c0 < 0xA0)) && !(n == 0xED && decide (0xA0 ≤ c0)) && utf8Ok f (bs.drop 2)
    else if 0xF0 ≤ n ∧ n < 0xF5 then
      cont 3 && !(n == 0xF0 && decide (c0 < 0x90)) && !(n == 0xF4 && decide (0x90 ≤ c0)) && utf8Ok f (bs.drop 3)
    else false

/-- The value that bytes spell in a type; none where the length does not match (R638). -/
def pParse (p : PInfo) (bs : Bytes) : Option PVal :=
  match p.typ with
  | .text => if (p.lo ≤ bs.length ∧ (bs.length : Int) ≤ p.hi) ∧ utf8Ok bs.length bs = true then some (.blob bs) else none
  | .blob => if p.lo ≤ bs.length ∧ (bs.length : Int) ≤ p.hi then some (.blob bs) else none
  | .s16 => if bs.length = 2 then some (.num (leSigned bs)) else none
  | t => if bs.length = t.size then some (.num (leNat bs)) else none

/-- The entries of a budget window blob are as R436 lays them out. -/
def windowsOk (b : Bytes) : Bool :=
  let n := byteAt b 0
  decide (n ≤ 8) && (b.length == 4 + 4 * n) && (fieldAt b 1 3 == 0) &&
    (List.range n).all (fun k =>
      decide (fieldAt b (4 + 4 * k) 2 ≤ 1439) && decide (1 ≤ byteAt b (6 + 4 * k)) && decide (byteAt b (6 + 4 * k) ≤ 144) &&
        (byteAt b (7 + 4 * k) &&& 0x7C == 0))

/-- A temperature band blob is as R463 requires; bytes 0, 8 and 9 are signed (Table GEY.5). -/
def bandsOk (b : Bytes) : Bool :=
  let t := fun k => if k = 0 ∨ 8 ≤ k then toSigned 8 (byteAt b k) else (byteAt b k : Int)
  decide (t 0 < t 1) && decide (t 1 < t 2) && decide (t 2 < t 3) && decide (t 3 < t 4) &&
    decide (1 ≤ byteAt b 5) && decide (byteAt b 5 ≤ 5) && decide (1 ≤ byteAt b 6) && decide (byteAt b 6 ≤ 8) &&
    decide (1 ≤ byteAt b 7) && decide (byteAt b 7 ≤ 8) && decide (-30 ≤ t 8) && decide (t 8 ≤ 0) &&
    decide (-30 ≤ t 9) && decide (t 9 ≤ 0) && (fieldAt b 10 2 == 0)

/-- A table of 21 cell voltages is strictly increasing (R472). -/
def ocvOk (b : Bytes) : Bool := (List.range 20).all (fun k => decide (fieldAt b (2 * k) 2 < fieldAt b (2 * k + 2) 2))

/-- A module profile's fields lie in the ranges of Table TAG.7. -/
def profileOk (b : Bytes) : Bool :=
  (byteAt b 1 &&& 0xFE == 0) && (decide (byteAt b 8 < 24) || byteAt b 8 == 0xFF) &&
    (decide (byteAt b 11 < 16) || byteAt b 11 == 0xFF) && (fieldAt b 14 2 == 0)

/-- The limits of single parameters that a range of numbers does not express: bit patterns, sets and layouts. -/
def pSpecial (id i1 : Nat) (v : PVal) : Bool :=
  match v with
  | .num n =>
    let k := n.toNat
    match id with
    | 0x0201 => i1 != 63 || n == 3
    | 0x0202 => i1 == 63 || !bit k 13
    | 0x0204 => i1 != 63 || n == 1
    | 0x0205 => !bit k 0
    | 0x0209 => k != 0x0C
    | 0x0411 => i1 != 1 || n == 0 || n == 2
    | 0x0412 => (List.range 8).all (fun j => decide ((k >>> (4 * j)) % 16 ≤ 6))
    | 0x0511 =>
      if i1 == 0x20 then n == 5 || n == 6 else n != 2 && n != 3
    | 0x0704 => i1 == 0x42 || i1 == 0x46 || (decide (0x00C00000 ≤ n) && decide (n ≤ 0x01400000))
    | 0x0707 =>
      decide (k % 16 ≤ 3) && ((k >>> 6) % 4 == 0) && (k % 16 != 1 || decide (2 ≤ k >>> 8)) &&
        (i1 != 6 || (k % 16 == 1 && decide (k >>> 8 ≤ 100000))) && (i1 != 7 || (k % 16 == 1 && decide (k >>> 8 ≤ 100)))
    | 0x0708 => (i1 != 6 || n == 0) && (i1 != 7 || n == 1)
    | 0x0709 => [256, 512, 1024, 2048, 4096, 8192, 16384, 32768, 65536].contains k
    | 0x0712 =>
      let idx := (k >>> 4) % 256
      match k % 16 with
      | 0 | 3 | 4 => true
      | 1 => decide (idx ≤ 31)
      | 2 => decide (idx ≤ 7)
      | 5 => resultChannel idx
      | _ => false
    | 0x0A0B => if i1 == 0 then decide (n ≤ 23000) else n != 0
    | 0x0A10 => [1, 2, 3, 4, 5, 6, 10, 12, 15, 20, 30, 60].contains k
    | _ => true
  | .blob b =>
    match id with
    | 0x0706 => decide (byteAt b 0 ≤ 16) && (b.length == 8 + 4 * byteAt b 0)
    | 0x0906 => profileOk b
    | 0x0A0E => windowsOk b
    | 0x0B0A => bandsOk b
    | 0x0B12 => ocvOk b
    | _ => true

/-- A value in the home range (R653, R663). -/
def pInRange (p : PInfo) (i1 : Nat) (v : PVal) : Bool :=
  (match v with
   | .num n => (p.zeroOk && n == 0) || p.alt == some n || (decide (p.lo ≤ n) && decide (n ≤ p.hi) && ((n - p.lo) % p.step == 0))
   | .blob b => decide (p.lo ≤ b.length) && decide ((b.length : Int) ≤ p.hi)) && pSpecial p.id i1 v

/-- The bytes of a list of 16-bit numbers. -/
def words16 (ns : List Nat) : Bytes := ns.flatMap (leBytes 2)

/-- The default open-circuit table of a chemistry (R472). -/
def ocvDefault (chemistry : Int) : Bytes :=
  if chemistry = 1 then
    words16 [2800, 3050, 3180, 3220, 3245, 3260, 3270, 3280, 3288, 3295, 3300, 3305, 3310, 3318, 3325, 3330, 3335, 3340,
      3350, 3360, 3450]
  else
    words16 [3300, 3530, 3620, 3670, 3700, 3725, 3745, 3765, 3785, 3805, 3830, 3860, 3895, 3935, 3975, 4015, 4055, 4095,
      4135, 4170, 4200]

/-- The default descriptor of a sequence (Table MSR.4; Q0 to Q5 have count 0). -/
def seqDefDefault (q : Nat) : Bytes :=
  let swa := fun (ch : Nat) (st : Nat) => [byte ch, byte (st <<< 4), byte 4, byte 0]
  let swb := fun (a b : Nat) => [byte a, byte b, byte 1, byte 0]
  if q = 6 then
    [byte 14, byte 0x80, byte 1] ++ zeros 5 ++ (List.range 8).flatMap (fun t => swa (0x28 + t) 4) ++
      (List.range 6).flatMap (fun t => swa (0x30 + t) 6)
  else if q = 7 then
    [byte 6, byte 0x80, byte 1] ++ zeros 5 ++ swb 0x40 0x42 ++ swb 0x41 0x42 ++ swb 0x43 0xFF ++ swb 0x44 0xFF ++
      swb 0x45 0x46 ++ swb 0x47 0xFF
  else zeros 8

/-- The default of an instance (the Default columns, with what they give per index). -/
def pDefault (p : PInfo) (i1 i2 : Nat) : PVal :=
  match p.id with
  | 0x0201 => .num (if i1 = 0 then 1 else if i1 = 63 then 3 else 0xFF)
  | 0x0202 => .num (if i1 = 0 then 0x1FFF else if i1 = 63 then 0x3FFF else 1)
  | 0x0204 => .num (if i1 = 63 then 1 else 0)
  | 0x0206 => .num (if i1 = 0 then 44 else 4)
  | 0x0411 => .num (if i1 = 0 then 1 else if i1 = 1 then 2 else if i1 = 2 then 2 else if i1 = 3 then 3 else 0)
  | 0x0509 => .num (((railFaultDefaults.find? (fun q => q.1 == i2)).map (fun q => q.2)).getD 0)
  | 0x0511 => .num (((globalFaultDefaults.find? (fun q => q.1 == i1)).map (fun q => q.2)).getD 0)
  | 0x0706 => .blob (seqDefDefault i1)
  | 0x0707 => .num (if i1 = 6 then 0x00271001 else if i1 = 7 then 0x00003201 else 0)
  | 0x0708 => .num (if i1 = 7 then 1 else 0)
  | 0x0906 => .blob (zeros 16)
  | 0x0A02 => .num (if i1 = 0 then 3000 else 5000)
  | 0x0A0B => .num (if i1 = 0 then 0 else 29000)
  | 0x0A0D => .num (if i1 = 0 then 500 else if i1 = 1 then 1000 else if i1 = 2 then 2000 else 3000)
  | 0x0A0E => .blob (zeros 4)
  | 0x0B0A => .blob [byte 0, byte 10, byte 45, byte 55, byte 65, byte 2, byte 4, byte 4, byte 0xF6, byte 0xF6, byte 0, byte 0]
  | 0x0B12 => .blob (ocvDefault 0)
  | _ =>
    match p.typ with
    | .text | .blob => .blob []
    | _ => .num p.dflt

/-- The default of an instance by ID; 0 for an ID that does not exist. -/
def pDefaultOf (i : PInst) : PVal := ((pInfo i.id).map (fun p => pDefault p i.i1 i.i2)).getD (.num 0)

/-- The listed cell of an instance. -/
def findCell (cs : List PCell) (i : PInst) : Option PCell := cs.find? (fun c => c.inst == i)

/-- An instance whose default is another parameter: gauge.full_mah takes gauge.design_mah (Table GEY.10). -/
def pSource (ps : ParamStore) (i : PInst) : PInst :=
  if i.id = 0x0B10 ∧ (findCell ps.cells i).isNone = true then { id := 0x0B0F, i1 := 0, i2 := 0 } else i

/-- The number in a value; 0 for a blob. -/
def PVal.int : PVal → Int
  | .num n => n
  | .blob _ => 0

/-- The default of an instance beside the listed cells: gauge.ocv_table follows chg.chemistry, whose value `f` reads from its cell (R472). -/
def pDefaultIn (ps : ParamStore) (f : PCell → PVal) (i : PInst) : PVal :=
  if i.id = 0x0B12 then
    .blob (ocvDefault (match findCell ps.cells { id := 0x0B01, i1 := 0, i2 := 0 } with
      | some c => (f c).int
      | none => 0))
  else pDefaultOf i

/-- The value of an instance by its cell, or that of the instance that its default follows. -/
def pListed (ps : ParamStore) (f : PCell → PVal) (i : PInst) : PVal :=
  match findCell ps.cells (pSource ps i) with
  | some c => f c
  | none => pDefaultIn ps f i

/-- The committed value of an instance (R644). -/
def pCommitted (ps : ParamStore) (i : PInst) : PVal := pListed ps (fun c => c.committed) i

/-- The overlay that holds an instance, if any (R647). -/
def overlayOf (ps : ParamStore) (i : PInst) : Option PVal := (ps.overlays.find? (fun w => w.inst == i)).map (fun w => w.value)

/-- The stored in-force value of an instance, the overlay first (R644, R647). -/
def pInForce (ps : ParamStore) (i : PInst) : PVal :=
  match overlayOf ps i with
  | some v => v
  | none => pListed ps (fun c => c.inForce) i

/-- The bytes in a value; none for a number. -/
def PVal.bytes : PVal → Bytes
  | .num _ => []
  | .blob b => b

/-- The in-force number of an instance. -/
def pv (s : State) (id : Nat) (i1 : Nat := 0) (i2 : Nat := 0) : Int := (pInForce s.par { id := id, i1 := i1, i2 := i2 }).int

/-- The in-force number of an instance as a natural number. -/
def pn (s : State) (id : Nat) (i1 : Nat := 0) (i2 : Nat := 0) : Nat := (pv s id i1 i2).toNat

/-- The in-force bytes of an instance. -/
def pb (s : State) (id : Nat) (i1 : Nat := 0) : Bytes := (pInForce s.par { id := id, i1 := i1, i2 := 0 }).bytes

/-- The safe point of an instance. -/
def pSafe (i : PInst) : Safe := ((pInfo i.id).map (fun p => p.safe)).getD (.occ .now)

/-- Whether a commit's value comes into force in the apply TICK: condition writes, "at once on commit", and a
decrease of a current limit (R643, R438). -/
def takesAtOnce (i : PInst) (old new : PVal) : Bool :=
  match pSafe i with
  | .cond _ => true
  | .occ .now => true
  | .occ .ilim => decide (new.int < old.int)
  | .occ _ => false

/-- The cells with one instance replaced or added. -/
def putCell : List PCell → PCell → List PCell
  | [], c => [c]
  | d :: ds, c => if d.inst = c.inst then c :: ds else d :: putCell ds c

/-- One write of a strobe (R645). -/
def applyWrite (epoch : Nat) (ps : ParamStore) (w : PWrite) : ParamStore :=
  let old := pListed ps (fun c => c.inForce) w.inst
  let at_ := takesAtOnce w.inst old w.value
  let c : PCell :=
    { inst := w.inst, committed := w.value, inForce := if at_ then w.value else old, pending := !at_, epoch := epoch }
  { ps with cells := putCell ps.cells c }

/-- The load strobe: sys.epoch increments and every write of the commit applies with the new epoch (R645, R658). -/
def strobe (ws : List PWrite) (s : State) : State :=
  let e := s.par.epoch + 1
  { s with par := ws.foldl (applyWrite e) { s.par with epoch := e } }

/-- Whether two write lists share an instance. -/
def touches (ws : List PWrite) (i : PInst) : Bool := ws.any (fun w => w.inst == i)

/-- Mark a waiting commit that a device commit has reached (R656). -/
def overtake (ws : List PWrite) (c : WaitCommit) : WaitCommit :=
  if ws.any (fun w => touches c.writes w.inst) then { c with overtaken := true } else c

/-- A device commit (Table PAR.3): it applies at once, and a waiting commit that claims one of its instances is
overtaken (R656). -/
def deviceCommit (ws : List PWrite) (s : State) : State :=
  let s1 := strobe ws s
  { s1 with par := { s1.par with waiting := s1.par.waiting.map (overtake ws) } }

/-- One cell at an occasion (R643). -/
def takeCell (p : PInst → Bool) (c : PCell) : PCell :=
  if c.pending && p c.inst then { c with inForce := c.committed, pending := false } else c

/-- The block takes up pending values at an occasion (R643): every pending instance that `p` names. -/
def takeUp (p : PInst → Bool) (s : State) : State :=
  { s with par := { s.par with cells := s.par.cells.map (takeCell p) } }

/-- Take up at an occasion, for every instance. -/
def takeOcc (o : Occ) (s : State) : State := takeUp (fun i => pSafe i == .occ o) s

/-- Take up at an occasion, for instances of one unit. -/
def takeOccAt (o : Occ) (unit : Nat) (s : State) : State := takeUp (fun i => pSafe i == .occ o && i.i1 == unit) s

/-- Set or replace an overlay (R647). -/
def setOverlay (w : PWrite) (s : State) : State :=
  { s with par := { s.par with overlays := w :: s.par.overlays.filter (fun x => x.inst != w.inst) } }

/-- Withdraw an overlay (R647). -/
def clearOverlay (i : PInst) (s : State) : State :=
  { s with par := { s.par with overlays := s.par.overlays.filter (fun x => x.inst != i) } }

end Sys2Proof.Machine
end

