-- ==== Sys2Proof/Machine/Ops.lean ====
section
/-! DEFINITION. The named operations over memory, time, events and interrupt status that every family shares. -/

namespace Sys2Proof.Machine

/-! ### Memory -/

/-- The scratchpad's first fabric address (R486). -/
def spBase : Nat := 0x20000000

/-- The S-array's first NV address (R524). -/
def saBase : Nat := 0x100000

/-- What an unlisted address reads as: 0 in the F-array and the scratchpad, 0xFF (erased) in the S-array
(R511, R550; assumption 5). None where no address exists (R487, R524). -/
def memDefault (a : Nat) : Option Byte :=
  if a < 0x40000 then some 0
  else if saBase ≤ a ∧ a < 0x200000 then some 0xFF
  else if spBase ≤ a ∧ a < spBase + 0x40000 then some 0
  else none

/-- The byte listed at an address. -/
def memFind : List Host.Cell → Nat → Option Byte
  | [], _ => none
  | (k, b) :: cs, a => if k = a then some b else memFind cs a

/-- Reads one byte; none where the spec gives no address. -/
def memRead (m : List Host.Cell) (a : Nat) : Option Byte :=
  match memDefault a with
  | none => none
  | some d => some ((memFind m a).getD d)

/-- The cells with one address set, in rising order. -/
def memInsert : List Host.Cell → Nat → Byte → List Host.Cell
  | [], a, b => [(a, b)]
  | (k, c) :: cs, a, b =>
    if a < k then (a, b) :: (k, c) :: cs
    else if a = k then (a, b) :: cs
    else (k, c) :: memInsert cs a b

/-- The cells without one address. -/
def memErase : List Host.Cell → Nat → List Host.Cell
  | [], _ => []
  | (k, c) :: cs, a => if k = a then cs else (k, c) :: memErase cs a

/-- Writes one byte; an address that does not exist is left alone. -/
def memWrite (m : List Host.Cell) (a : Nat) (b : Byte) : List Host.Cell :=
  match memDefault a with
  | none => m
  | some d => if b = d then memErase m a else memInsert m a b

/-- Writes bytes at consecutive addresses. -/
def memWrites : List Host.Cell → Nat → Bytes → List Host.Cell
  | m, _, [] => m
  | m, a, b :: bs => memWrites (memWrite m a b) (a + 1) bs

/-- Sets every byte of a range to what an unlisted address reads as: an erase, or the zeroing of a bank. -/
def memClear (m : List Host.Cell) (a n : Nat) : List Host.Cell := m.filter (fun c => !(decide (a ≤ c.1) && decide (c.1 < a + n)))

/-- Adjacent entries rise, and no entry equals what an unlisted address reads as. -/
def memSorted : List Host.Cell → Bool
  | [] => true
  | [_] => true
  | a :: b :: cs => decide (a.1 < b.1) && memSorted (b :: cs)

/-- An entry that memory may list: an address that exists, with a byte other than its default. -/
def cellOk (c : Host.Cell) : Bool :=
  match memDefault c.1 with
  | none => false
  | some d => c.2 != d

/-- The canonical form of memory. -/
def memWf (m : List Host.Cell) : Bool := memSorted m && m.all cellOk

/-- Reads `n` bytes from an address, 0 where no address exists. -/
def readBytes (s : State) (a : Nat) : Nat → Bytes
  | 0 => []
  | n + 1 => (memRead s.mem a).getD 0 :: readBytes s (a + 1) n

/-- Writes bytes at consecutive addresses. -/
def writeBytes (a : Nat) (bs : Bytes) (s : State) : State := { s with mem := memWrites s.mem a bs }

/-- Clears a range. -/
def clearBytes (a n : Nat) (s : State) : State := { s with mem := memClear s.mem a n }

/-- The little-endian number of `n` bytes at an address. -/
def readNat (s : State) (a n : Nat) : Nat := leNat (readBytes s a n)

/-- Programs bytes of the S-array: each programming may only clear bits (R550). -/
def programBytes (a : Nat) : Bytes → State → State
  | [], s => s
  | b :: bs, s => programBytes (a + 1) bs { s with mem := memWrite s.mem a (((memRead s.mem a).getD 0xFF) &&& b) }

/-! ### Time -/

/-- The TICK counter: 32 bits of microseconds (R25). -/
def tick (s : State) : Nat := s.clk.us % 0x100000000

/-- Draws the next free value: the counter advances (assumption 16). -/
def drawFree (s : State) : Int × State := (Config.freeInt s.free, { s with free := s.free + 1 })

/-! ### Windows of Q7 pairs (R401, R428, R457, R477) -/

/-- The Q7 pairs of a voltage channel whose hold instants lie in a window. -/
def pairsIn (s : State) (ch from_ to_ : Nat) : List Q7Pair :=
  s.msr.pairs.filter (fun p => p.ch == ch && decide (from_ ≤ p.at_) && decide (p.at_ ≤ to_))

/-- The Q7 pairs of a voltage channel in the last microseconds. -/
def lastPairs (s : State) (ch us : Nat) : List Q7Pair := pairsIn s ch (s.clk.us - us) s.clk.us

/-- The mean of a figure of pairs, in units of `per`, truncated (R19); none without a pair. -/
def meanOf (l : List Q7Pair) (f : Q7Pair → Int) (per : Int) : Option Int :=
  if l.isEmpty then none else some ((l.foldl (fun n p => n + f p) 0).tdiv (per * l.length))

/-- The mean voltage, mV. -/
def meanV (l : List Q7Pair) : Option Int := meanOf l (fun p => p.v) 1

/-- The mean current, mA. -/
def meanI (l : List Q7Pair) : Option Int := meanOf l (fun p => p.i) 2

/-- The current has stayed at or above `ma` in every pair, of which there is one. -/
def loadHeld (l : List Q7Pair) (ma : Int) : Bool := !l.isEmpty && l.all (fun p => decide (2 * ma ≤ p.i))

/-! ### The core and firmware -/

/-- Firmware runs: the core is out of reset, has reached READY (R47, R107) and CORE is not gated off (R34). -/
def fwRuns (s : State) : Bool := s.core.run == .running && s.core.ready && !s.clk.gated

/-- Firmware does its ordinary work: on reservoir hold-up it runs only the power-fail path, which is the ledger checkpoint and the
pending commits (R41). -/
def fwWorks (s : State) : Bool := fwRuns s && !s.core.holdup

/-- The battery FET is on: nothing holds it off, and the path takes it (Table INT.1). -/
def fetOn (s : State) : Bool := s.core.batFet && s.inp.path != .noBattery && s.inp.path != .off

/-- The mode code (Table MOD.1). -/
def Mode.code : Mode → Nat
  | .ship => 0
  | .standby => 1
  | .run => 2
  | .service => 3

/-! ### Interrupt status -/

/-- Bits of IRQ_STATUS (Table HST.7). -/
def irqRsp : Nat := 0
def irqEvt : Nat := 1
def irqReady : Nat := 2
def irqFault : Nat := 3
def irqNvReady : Nat := 4
def irqReject : Nat := 5
def irqWinErr : Nat := 6

/-- Change one port. -/
def onPort (p : Nat) (f : Port → Port) (s : State) : State := { s with ports := vmod s.ports p f }

/-- Change every port. -/
def onPorts (f : Port → Port) (s : State) : State := { s with ports := s.ports.map f }

/-- Set one bit of a port's IRQ_STATUS. -/
def Port.irq (k : Nat) (p : Port) : Port :=
  { p with irqStatus := p.irqStatus ||| BitVec.ofNat 32 (1 <<< k)
           irqNew := p.irqNew ||| (BitVec.ofNat 32 (1 <<< k) &&& p.irqMask &&& ~~~p.irqStatus) }

/-- Set one bit of IRQ_STATUS of one port. -/
def setIrq (p k : Nat) (s : State) : State := onPort p (Port.irq k) s

/-- Set one bit of IRQ_STATUS of every port. -/
def setIrqAll (k : Nat) (s : State) : State := onPorts (Port.irq k) s

/-- Change one tenant. -/
def onTenant (n : Nat) (f : Tenant → Tenant) (s : State) : State := { s with tenants := vmod s.tenants n f }

/-! ### Events (R620 to R625) -/

/-- The code of EVENTS_LOST (Table CMD.17). -/
def evLost : Nat := 0x0F02

/-- The places of the 32 that are taken: EVENTS_LOST has its own reserved place (R620). -/
def queuedCount (q : List Event) : Nat := (q.filter (fun e => e.code != evLost)).length

/-- EVENTS_LOST counts further events: its argument grows, or it is queued in the reserved place (R622). -/
def addLost (n t : Nat) (x : Tenant) : Tenant :=
  if x.queue.any (fun e => e.code == evLost) then
    { x with queue := x.queue.map (fun e => if e.code == evLost then { e with arg := e.arg + n } else e) }
  else { x with queue := x.queue ++ [{ code := evLost, flags := 0, src := 0, arg := n, tick := t }], posted := x.posted + 1 }

/-- Queue an event for a tenant: 32 places and one reserved for EVENTS_LOST (R620, R622). -/
def queueEvent (e : Event) (x : Tenant) : Tenant :=
  if queuedCount x.queue < 32 then { x with queue := x.queue ++ [e], posted := x.posted + 1 }
  else addLost 1 e.tick { x with posted := x.posted + 1, overflowed := x.overflowed + 1 }

/-- The port of a tenant's session (R609). -/
def sessionOf (s : State) (n : Nat) : Option Nat :=
  match s.tenants[n]? with
  | some t => t.session
  | none => none

/-- Queue an event for one tenant, with IRQ_STATUS.EVT on the port of its session where something was queued (Table HST.7). -/
def queueFor (e : Event) (n : Nat) (s : State) : State :=
  let s1 := onTenant n (queueEvent e) s
  let queued := match s.tenants[n]?, s1.tenants[n]? with
    | some t, some u => decide (t.queue.length < u.queue.length)
    | _, _ => false
  match sessionOf s n with
  | some p => if queued then setIrq p irqEvt s1 else s1
  | none => s1

/-- The tenants whose event mask lets an event through: bit of the code's high byte (R621). -/
def maskTenants (s : State) (code : Nat) : List Nat :=
  (List.range 64).filter (fun n => bit (pn s 0x0205 n) (code / 256))

/-- Queue an event for every tenant whose mask asks for it (R621); the mask is taken up first (Table HST.12). -/
def queueMasked (e : Event) (s : State) : State :=
  let s1 := takeOcc .eventPosted s
  (maskTenants s1 e.code).foldl (fun t n => queueFor e n t) s1

/-- Deliver an event to its queues: an own event to its tenant, any other by mask (R719). -/
def deliver (d : Deferred) (s : State) : State :=
  match d.own with
  | some n => queueFor d.ev n s
  | none => queueMasked d.ev s

/-- Firmware posts events (R47): while it does not run they are held, with their TICK, until READY. On the recovery
path no event is posted (R634). -/
def postDeferred (d : Deferred) (s : State) : State :=
  if fwRuns s then deliver d s else { s with deferred := s.deferred ++ [d] }

/-- Post a masked event stamped now (R718, R719). -/
def post (code flags src arg : Nat) (s : State) : State :=
  postDeferred { ev := { code := code, flags := flags, src := src, arg := arg, tick := tick s }, own := none } s

/-- Post an event for one tenant, stamped now (R621). -/
def postOwn (n code flags src arg : Nat) (s : State) : State :=
  postDeferred { ev := { code := code, flags := flags, src := src, arg := arg, tick := tick s }, own := some n } s

/-- The 12 bytes of an event record (Table HST.11). -/
def eventBytes (e : Event) : Bytes :=
  leBytes 2 e.code ++ leBytes 1 e.flags ++ leBytes 1 e.src ++ leBytes 4 e.arg ++ leBytes 4 e.tick

/-- A 16-bit two's-complement field as a number. -/
def s16 (i : Int) : Nat := (i % 0x10000).toNat

/-- A recorded value: 0x8000 for none (Table CMD.17). -/
def valueField (v : Option Int) : Nat :=
  match v with
  | some i => s16 i
  | none => 0x8000

end Sys2Proof.Machine
end

