-- ==== Sys2Proof/Machine/Log.lean ====
section
/-! DEFINITION. Writing the non-volatile arrays: the Sinter log's sectors and records (R557 to R573), and the
two-copy structures of the F-array's state area (R519, R776). -/

namespace Sys2Proof.Machine

/-! ### Sectors -/

/-- NV address of a log sector: sector s lies in plane 2 + (s >> 6) (chapter 13, "Sectors"). -/
def sectorAddr (k : Nat) : Nat := saBase + 0x80000 + k * 0x1000

/-- A log sector by its header (Table NVS.10, R570). -/
inductive SectorKind where
  | free
  | opened
  | unknown
deriving DecidableEq, Repr

/-- The kind of a sector (R570). -/
def sectorKind (s : State) (k : Nat) : SectorKind :=
  let st := readNat s (sectorAddr k) 4
  if st = 0xFFFFFFFF then .free
  else if st = 0x5AA5 ∧ readNat s (sectorAddr k + 12) 2 = 1 then .opened
  else .unknown

/-- The serial of an open sector. -/
def sectorSerial (s : State) (k : Nat) : Nat := readNat s (sectorAddr k + 4) 4

/-- The FREE sectors, in ascending order. -/
def freeSectors (s : State) : List Nat := (List.range 128).filter (fun k => sectorKind s k == .free)

/-- The OPEN sectors, in ascending order. -/
def openSectors (s : State) : List Nat := (List.range 128).filter (fun k => sectorKind s k == .opened)

/-- Insert by a key, smallest first. -/
def insertBy (key : Nat → Nat) (a : Nat) : List Nat → List Nat
  | [] => [a]
  | b :: bs => if key a ≤ key b then a :: b :: bs else b :: insertBy key a bs

/-- Sort by a key, smallest first. -/
def sortBy (key : Nat → Nat) (l : List Nat) : List Nat := l.foldr (insertBy key) []

/-- The OPEN sectors by serial, oldest first. -/
def sectorsBySerial (s : State) : List Nat := sortBy (sectorSerial s) (openSectors s)

/-- The first FREE sector after a sector, wrapping after 127. -/
def nextFree (s : State) (after : Nat) : Option Nat :=
  ((List.range 128).map (fun j => (after + 1 + j) % 128)).find? (fun k => sectorKind s k == .free)

/-- Erase a sector: every bit becomes 1 (R550). -/
def eraseSector (k : Nat) (s : State) : State := clearBytes (sectorAddr k) 0x1000 s

/-- Open a sector as head: blank-check and erase (R559), header, state word last (R558). -/
def openSector (k : Nat) (s : State) : State :=
  let s1 := eraseSector k s
  let s2 := programBytes (sectorAddr k + 4)
    (leBytes 4 s.log.nextSerial ++ leBytes 4 s.log.nextSeq ++ leBytes 2 1) s1
  let s3 := programBytes (sectorAddr k) (leBytes 4 0x5AA5) s2
  { s3 with log := { s3.log with head := some k, headOff := 0x10, nextSerial := s.log.nextSerial + 1 } }

/-- Open the next FREE sector; none where no sector is FREE. -/
def openNext (s : State) : Option State :=
  match nextFree s (s.log.head.getD 127) with
  | some k => some (openSector k s)
  | none => none

/-! ### The F-array's two-copy structures -/

/-- Where a two-copy structure lies: the first copy and the bytes of one copy (Table NVS.2). -/
structure TwoCopy where
  at_ : Nat
  size : Nat
deriving DecidableEq, Repr

def tcCheckpoint : TwoCopy := { at_ := 0x20000, size := 128 }
def tcGauge : TwoCopy := { at_ := 0x21000, size := 512 }
def tcSignatures : TwoCopy := { at_ := 0x21400, size := 512 }
def tcModules : TwoCopy := { at_ := 0x21800, size := 64 }
def tcShip : TwoCopy := { at_ := 0x21880, size := 64 }
def tcBoot : TwoCopy := { at_ := 0x21900, size := 64 }
def tcMissed : TwoCopy := { at_ := 0x21980, size := 64 }

/-- A word of the range has an uncorrectable error (R522). -/
def rangeBad (s : State) (a n : Nat) : Bool := s.nv.badWords.any (fun w => decide (a < w * 8 + 8) && decide (w * 8 < a + n))

/-- Write F-array bytes; a word written whole is good again (R516, R522; assumption 24). -/
def faWrite (a : Nat) (bs : Bytes) (s : State) : State :=
  let s1 := writeBytes a bs s
  { s1 with nv := { s1.nv with badWords := s1.nv.badWords.filter (fun w => !(decide (a ≤ w * 8) && decide (w * 8 + 8 ≤ a + bs.length))) } }

/-! ### The capture-pending marker (R262, R533) -/

/-- The RESV threshold of a commit by its size (R533). -/
def commitThreshold (s : State) (n : Nat) : Int := if 64 < n then pv s 0x0D06 else 6000

/-- RESV allows a commit of `n` bytes to start (R533). -/
def supplyOk (s : State) (n : Nat) : Bool := decide (commitThreshold s n ≤ s.nv.resvMv)

/-- F-array address of the capture-pending marker (R262). -/
def markerAt : Nat := 0x27FC0

/-- The flags of the record header (Table CAP.5 byte 11). -/
def recordFlagsOf (c : Capture) (paritySeen : Bool) : Nat :=
  c.flags ||| (b2n (decide (c.before < c.pre))) <<< 3 ||| (b2n c.clockCut) <<< 4 ||| (b2n paritySeen) <<< 7

/-- The marker of a capture, its flags as in header byte 11 as far as they are known (Table CAP.3). -/
def markerBytes (c : Capture) : Bytes :=
  leBytes 1 1 ++ leBytes 1 c.code ++ leBytes 1 c.src ++ leBytes 1 c.response ++ leBytes 4 c.tick ++ leBytes 4 c.rtc ++
    leBytes 2 c.boot ++ leBytes 2 c.serial ++ leBytes 1 (recordFlagsOf c false) ++ zeros 47

/-- Change the capture under way. -/
def onCapture (f : Capture → Capture) (s : State) : State := { s with cap := { s.cap with cap := s.cap.cap.map f } }

/-- CAPTURE_MARKER_COMMIT: bytes 8 to 63 first, bytes 0 to 7 last (R262). -/
def captureMarkerCommit (s : State) : State :=
  match s.cap.cap with
  | some c =>
    if c.markerDone then s
    else
      let b := markerBytes c
      onCapture (fun x => { x with markerDone := true }) (faWrite markerAt (b.take 8) (faWrite (markerAt + 8) (b.drop 8) s))
  | none => s

/-- The marker of a capture that has none yet goes ahead of every other F-array request, where RESV allows a small commit (R262, R533,
R536). -/
def markerTry (s : State) : State := if supplyOk s 64 then captureMarkerCommit s else s

/-! ### Two-copy structures (R519) -/

/-- A copy is valid when its CRC over the bytes before the generation matches and no word of it is uncorrectable
(R519, R522). -/
def copyValid (s : State) (t : TwoCopy) (c : Nat) : Bool :=
  let a := t.at_ + c * t.size
  (readNat s (a + t.size - 4) 4 == crc32 (readBytes s a (t.size - 8))) && !rangeBad s a t.size

/-- The generation of a copy. -/
def copyGen (s : State) (t : TwoCopy) (c : Nat) : Nat := readNat s (t.at_ + c * t.size + t.size - 8) 4

/-- The copy that a reader takes: the valid one, or the one of higher generation (R519). -/
def copyTaken (s : State) (t : TwoCopy) : Option Nat :=
  match copyValid s t 0, copyValid s t 1 with
  | true, true => if copyGen s t 1 > copyGen s t 0 then some 1 else some 0
  | true, false => some 0
  | false, true => some 1
  | false, false => none

/-- The bytes of the copy that a reader takes; none when the structure is absent (R519). -/
def readTwo (s : State) (t : TwoCopy) : Option Bytes :=
  match copyTaken s t with
  | some c => some (readBytes s (t.at_ + c * t.size) t.size)
  | none => none

/-- Write the copy that a reader would not take, with the next generation, generation and CRC last (R519, R776).
`content` is the bytes before the generation. -/
def writeTwo (t : TwoCopy) (content : Bytes) (s : State) : State :=
  let body := padTo (t.size - 8) content
  let target := match copyTaken s t with
    | some c => (1 - c, copyGen s t c + 1)
    | none => (0, 1)
  let a := t.at_ + target.1 * t.size
  let s1 := faWrite a body s
  faWrite (a + t.size - 8) (leBytes 4 target.2 ++ leBytes 4 (crc32 body)) s1

/-! ### Records -/

/-- Payload granules of a payload. -/
def granules (p : Bytes) : Nat := (p.length + 15) / 16

/-- Bytes that a record takes: header granule, payload granules, trailer granule (R560). -/
def recordSize (p : Bytes) : Nat := 16 * (granules p + 2)

/-- The flags of a record: RETAIN by nv.log_retain_types for its type (R566). -/
def retainFlag (s : State) (type : Nat) : Nat :=
  if type = 0x0C ∨ type = 0x0D ∨ type = 0 then 0 else b2n (bit (pn s 0x0D07) type)

/-- The timestamp and its BOOT_RELATIVE flag (R561). -/
def logStamp (s : State) : Nat × Nat :=
  if s.aon.timeSet then (s.aon.rtc, 0)
  else ((s.core.bootCount % 4096) <<< 20 ||| min (s.clk.us / 1000000) 0xFFFFF, 2)

/-- Program one record at the head and commit it (R563). -/
def putRecord (r : LogRec) (s : State) : Nat × State :=
  let a := sectorAddr (s.log.head.getD 0) + s.log.headOff
  let g := granules r.payload
  let seq := s.log.nextSeq
  let body := leBytes 1 r.type ++ leBytes 1 r.flags ++ leBytes 1 g ++ leBytes 1 0 ++ leBytes 4 seq ++ leBytes 4 r.stamp ++
    padTo (16 * g) r.payload
  let s1 := programBytes (a + 4) (body ++ leBytes 4 (crc32 body)) s
  let s2 := programBytes a (leBytes 4 0xA55A) s1
  (seq, { s2 with log := { s2.log with
      headOff := s2.log.headOff + recordSize r.payload, nextSeq := (seq + 1) % 0x100000000,
      appended := s2.log.appended + 1, live := s2.log.live + 1 } })

/-- A record fits in the rest of the head sector (R563). -/
def fitsHead (s : State) (p : Bytes) : Bool := s.log.head.isSome && decide (s.log.headOff + recordSize p ≤ 0x1000)

/-- An amount of an energy ledger is committed (R735). -/
def energyCommit (n : Nat) (e : Energy) : Energy := { e with committed := e.committed + n, opened := e.opened - n }

/-- An INTERVAL record is committed: its amounts move from the open terms to the committed ones, and its sequence number is kept for the
checkpoint (R735, Table LED.3). -/
def noteInterval (r : LogRec) (seq : Nat) (s : State) : State :=
  let e := s.bg.energy
  let e1 := vmod e 0 (energyCommit (fieldAt r.payload 8 4))
  let e2 := vmod e1 1 (energyCommit (fieldAt r.payload 12 4))
  { s with bg := { s.bg with lastIntervalSeq := seq, energy := e2 } }

/-- The ship-entry marker in force reads VALID (Table MOD.10). -/
def shipMarked (s : State) : Option Bytes :=
  match readTwo s tcShip with
  | some b => if byteAt b 0 = 1 then some b else none
  | none => none

/-- The SHIP record is appended: the marker is consumed, and the ship latch released (R116). -/
def noteShip (s : State) : State :=
  let s1 := match shipMarked s with
    | some b => writeTwo tcShip (zeros 1 ++ bytesAt b 1 55) s
    | none => s
  { s1 with aon := { s1.aon with shipLatch := false } }

/-- A compaction's copy (flags bit 2, Table NVS.11). -/
def LogRec.isCopy (r : LogRec) : Bool := bit r.flags 2

/-- What the commit of a record of the device brings, a compaction's copy aside. -/
def noteAppend (r : LogRec) (seq : Nat) (s : State) : State :=
  if r.isCopy then s
  else
    match r.type with
    | 0x02 => noteInterval r seq s
    | 0x0B => { s with log := { s.log with bootSeq := seq } }
    | 0x0F => noteShip s
    | _ => s

/-- RETAIN as the mask in force at the append gives it; a copy keeps its own (R566). -/
def LogRec.retained (s : State) (r : LogRec) : LogRec := if r.isCopy then r else { r with flags := r.flags ||| retainFlag s r.type }

/-- Append one record: in the head sector, or in the next sector opened (R563). None where no sector is FREE. -/
def appendRec (r0 : LogRec) (s : State) : Option (Nat × State) :=
  let s0 := takeOcc .append s
  let r := r0.retained s0
  if fitsHead s0 r.payload then
    let (q, t) := putRecord r s0
    some (q, noteAppend r q t)
  else
    match openNext s0 with
    | some s1 =>
      let (q, t) := putRecord r s1
      some (q, noteAppend r q t)
    | none => none

/-- A record as it arises, with its timestamp (R561; assumption 22). -/
def makeRec (type : Nat) (payload : Bytes) (s : State) : LogRec :=
  let (st, f) := logStamp s
  { type := type, flags := f, stamp := st, payload := payload, at_ := s.clk.us }

/-- Append waiting records, oldest first, until one finds no place. -/
def flushRecs : List LogRec → State → State
  | [], s => { s with log := { s.log with waiting := [] } }
  | r :: rs, s =>
    match appendRec r s with
    | some (_, t) => flushRecs rs t
    | none => { s with log := { s.log with waiting := r :: rs } }

/-- Records can be appended: firmware runs and the boot scan is over (R572). -/
def logOpen (s : State) : Bool := s.core.nvReady && fwRuns s

/-- The slot erase of FW_BEGIN is under way: it begins behind the erase of a log sector, and hold-up starts no further sector of it
(R41, R551). -/
def slotErasing (s : State) : Bool := s.fw.erasing && s.nv.erasing.isNone && !s.core.holdup

/-- An erase is under way in the S-array (R551). -/
def saBusy (s : State) : Bool := s.nv.erasing.isSome || slotErasing s

/-- Records are appended as they come: none waits for the end of an erase (R551), and hold-up, whose commits go in the order of
Table LED.4, is not on. -/
def logFree (s : State) : Bool := !saBusy s && !s.core.holdup

/-- Append what waits, if the log is open and no erase is under way. -/
def flushLog (s : State) : State := if logOpen s && logFree s then flushRecs s.log.waiting s else s

/-- A record takes its place among those that wait, in the order of their events (R572). -/
def insertRec (r : LogRec) : List LogRec → List LogRec
  | [] => [r]
  | q :: qs => if r.at_ < q.at_ then r :: q :: qs else q :: insertRec r qs

/-- A record of an event at a microseconds value: it is queued, and appended at once while the log is open (R572). -/
def logRecordAt (us type : Nat) (payload : Bytes) (s : State) : State :=
  flushLog { s with log := { s.log with waiting := insertRec { makeRec type payload s with at_ := us } s.log.waiting } }

/-- A record of the device whose event is now. -/
def logRecord (type : Nat) (payload : Bytes) (s : State) : State := logRecordAt s.clk.us type payload s

/-- The commit word of the record at an address. -/
def recWord (s : State) (a : Nat) : Nat := readNat s a 4

/-- A record is committed. -/
def recLive (s : State) (a : Nat) : Bool := recWord s a == 0xA55A

def recType (s : State) (a : Nat) : Nat := readNat s (a + 4) 1
def recFlags (s : State) (a : Nat) : Nat := readNat s (a + 5) 1
def recGranules (s : State) (a : Nat) : Nat := readNat s (a + 6) 1
def recSeq (s : State) (a : Nat) : Nat := readNat s (a + 8) 4
def recStamp (s : State) (a : Nat) : Nat := readNat s (a + 12) 4
def recPayload (s : State) (a : Nat) : Bytes := readBytes s (a + 16) (16 * recGranules s a)

/-- The whole record, header and CRC included (R574). -/
def recBytes (s : State) (a : Nat) : Bytes := readBytes s a (16 * (recGranules s a + 2))

/-- The CRC of a committed record matches (R562). -/
def recCrcOk (s : State) (a : Nat) : Bool :=
  readNat s (a + 16 + 16 * recGranules s a) 4 == crc32 (readBytes s (a + 4) (12 + 16 * recGranules s a))

/-- The records of a sector in offset order, from an offset; the flag says that a torn record ended the walk, and the
offset is where the walk ended (R570). -/
def walkFrom (s : State) (k : Nat) : Nat → Nat → List Nat × Bool × Nat
  | 0, off => ([], false, off)
  | fuel + 1, off =>
    if 0x1000 < off + 16 then ([], false, off)
    else
      let a := sectorAddr k + off
      let w := recWord s a
      if w = 0xFFFFFFFF then ([], false, off)
      else if (w ≠ 0xA55A ∧ w ≠ 0) ∨ 15 < recGranules s a ∨ 0x1000 < off + 16 * (recGranules s a + 2) ∨
          (w = 0xA55A ∧ recCrcOk s a = false) then ([], true, off)
      else
        let r := walkFrom s k fuel (off + 16 * (recGranules s a + 2))
        (a :: r.1, r.2.1, r.2.2)

/-- The walk of a whole sector. -/
def walk (s : State) (k : Nat) : List Nat × Bool × Nat := walkFrom s k 256 0x10

/-- Addresses of every record of the log, oldest first. -/
def allRecords (s : State) : List Nat := (sectorsBySerial s).flatMap (fun k => (walk s k).1)

/-- Supersede a committed record: its commit word becomes 0x0000_0000 (R563). -/
def supersede (a : Nat) (s : State) : State :=
  if recLive s a then
    let s1 := programBytes a (zeros 4) s
    { s1 with log := { s1.log with live := s1.log.live - 1, superseded := s1.log.superseded + 1 } }
  else s

/-! ### Boot control -/

/-- Boot control as stored (Table NVS.9): ACTIVE, TRIAL, consecutive resets, rollback floor. -/
structure BootCtl where
  active : Nat
  trial : Nat
  resets : Nat
  floor : Nat
deriving DecidableEq, Repr

/-- Boot control in force; slot 0 active, no trial and floor 0 where the structure is absent (assumption 23). -/
def bootCtl (s : State) : BootCtl :=
  match readTwo s tcBoot with
  | some b => { active := byteAt b 0, trial := byteAt b 1, resets := byteAt b 2, floor := fieldAt b 4 4 }
  | none => { active := 0, trial := 0xFF, resets := 0, floor := 0 }

/-- Write boot control, with sys.boot_count (Table NVS.9). -/
def writeBoot (c : BootCtl) (s : State) : State :=
  writeTwo tcBoot (leBytes 1 c.active ++ leBytes 1 c.trial ++ leBytes 1 c.resets ++ zeros 1 ++ leBytes 4 c.floor ++
    leBytes 4 s.core.bootCount) s

end Sys2Proof.Machine
end

