-- ==== Sys2Proof/Machine/Mailbox.lean ====
section
/-! DEFINITION. The mailbox layer: status codes, response frames and queues, credits, the acceptance checks of
Table HST.10, the checks of Table CMD.1, and the operations that are answered later (R599 to R608, R669 to R676). -/

namespace Sys2Proof.Machine

/-! ### Status codes (Table CMD.3) -/

def stOk : Nat := 0x0000
def stAccepted : Nat := 0x0001
def stBadHeader : Nat := 0x0010
def stBadCrc : Nat := 0x0011
def stBadLength : Nat := 0x0012
def stUnknownCommand : Nat := 0x0013
def stNoSession : Nat := 0x0014
def stNoCredit : Nat := 0x0015
def stDenied : Nat := 0x0020
def stNotAuth : Nat := 0x0021
def stModeForbids : Nat := 0x0022
def stBusy : Nat := 0x0030
def stConflict : Nat := 0x0031
def stNoTxn : Nat := 0x0032
def stTxnLimit : Nat := 0x0033
def stTimeout : Nat := 0x0034
def stRange : Nat := 0x0040
def stUnknownParam : Nat := 0x0041
def stReadOnly : Nat := 0x0042
def stNvNotReady : Nat := 0x0050
def stNvSupplyLow : Nat := 0x0051
def stNvProtected : Nat := 0x0052
def stNvPlaneBusy : Nat := 0x0053
def stNvFull : Nat := 0x0054
def stCalPrecondition : Nat := 0x0060
def stHardware : Nat := 0x0061
def stAbortedReset : Nat := 0x0070
def stAbortedFault : Nat := 0x0071
def stBankNotOwner : Nat := 0x0080
def stBankRetired : Nat := 0x0081
def stFwSignature : Nat := 0x0090
def stFwRollback : Nat := 0x0091

/-! ### Capability bits (Table CMD.2) -/

def capStatus : Nat := 0
def capRailCtl : Nat := 1
def capSeqEdit : Nat := 2
def capMargin : Nat := 3
def capPower : Nat := 4
def capNvUser : Nat := 5
def capNvConfig : Nat := 6
def capBanks : Nat := 7
def capCapture : Nat := 8
def capTags : Nat := 9
def capFwUpdate : Nat := 10
def capFaultClear : Nat := 11
def capTenantAdmin : Nat := 12
def capService : Nat := 13

/-- A tenant holds a capability (R613). -/
def hasCap (s : State) (n c : Nat) : Bool := bit (pn s 0x0202 n) c

/-! ### Frames and queues -/

/-- The default of a port entry, used only for an index outside the four ports. -/
def noPort : Port :=
  { ready := false, inReset := false, reqBuf := [], reqLen := 0, reqBusy := false, rspQ := [], rspWait := [], irqStatus := 0,
    irqMask := 0, irqNew := 0, winBank := 0, winDenied := false, winParity := false, winRetired := false, winUnbound := false,
    atopErr := false, winCount := 0, atopBusy := false, atopAddr := 0, atopOpnd := 0, atopResult := 0, scratch := 0,
    evtData := [], nacked := false, bound := none, busOut := [] }

/-- A port by index. -/
def port (s : State) (p : Nat) : Port := vget s.ports p noPort

/-- A tenant that does not exist: no session, nothing queued. -/
def noTenant : Tenant :=
  { session := none, authed := false, outstanding := 0, nonce := none, nonceAt := 0, fails := 0, lockout := false, lockAt := 0, authReq := false,
    queue := [], posted := 0, delivered := 0, overflowed := 0, txn := none, part := none }

/-- A tenant by number. -/
def tenant (s : State) (n : Nat) : Tenant := vget s.tenants n noTenant

/-- The 8-byte header of Table HST.9 with its check. -/
def frameHeader (tenant seq word len flags : Nat) : Bytes :=
  let h := leBytes 1 tenant ++ leBytes 1 seq ++ leBytes 2 word ++ leBytes 2 len ++ leBytes 1 flags
  h ++ leBytes 1 (headerCheck h)

/-- A frame: header, payload, CRC-16 (R599, R600). -/
def mkFrame (tenant seq word flags : Nat) (payload : Bytes) : Bytes :=
  let b := frameHeader tenant seq word payload.length flags ++ payload
  b ++ leBytes 2 (crc16 b)

/-- A credit of a tenant returns (R607). -/
def returnCredit (n : Nat) (s : State) : State := onTenant n (fun t => { t with outstanding := t.outstanding - 1 }) s

/-- Return a credit if one is held. -/
def returnIf (b : Bool) (n : Nat) (s : State) : State := if b then returnCredit n s else s

/-- A frame enters a port's queue; into an empty queue it is presented at once, which sets IRQ_STATUS.RSP (R605). -/
def enqueue (f : RspFrame) (p : Port) : Port :=
  if p.rspQ.isEmpty then Port.irq irqRsp { p with rspQ := [f] } else { p with rspQ := p.rspQ ++ [f] }

/-- A response posted now finds a place in its queue: the queue is not full, and no earlier response waits for a place (R606). -/
def hasPlace (s : State) (p : Nat) : Bool := decide ((port s p).rspQ.length < 32) && (port s p).rspWait.isEmpty

/-- Post a response: it enters the queue of 32 and its credit returns, or it waits with its credit (R606, R607). -/
def postResponse (p : Nat) (f : RspFrame) (since : Option Nat) (credit : Bool) (s : State) : State :=
  if hasPlace s p then returnIf credit f.tenant (onPort p (enqueue f) s)
  else onPort p (fun q => { q with rspWait := q.rspWait ++ [{ rsp := f, credit := credit, since := since, events := 0, closes := false }] }) s

/-- COMPLETED_LATER: more than 1 ms has passed since the request was accepted (R676). -/
def lateSince (s : State) (since : Option Nat) : Bool := since.any (fun a => decide (1000 < s.clk.us - a))

/-- Answer a request: the response carries its payload where R672 allows it. `since` is when the request was accepted, none where it was
not. -/
def respond (p n seq status : Nat) (payload : Bytes) (since : Option Nat) (credit : Bool) (s : State) : State :=
  postResponse p { tenant := n, seq := seq, status := status, frame := mkFrame n seq status (b2n (lateSince s since)) payload } since credit s

/-! ### Accepted requests -/

/-- What a command answers: at once, at once with an effect after the response is posted, accepted for later with
OP_COMPLETE, or owed synchronously. -/
inductive Reply where
  | done (status : Nat) (payload : Bytes) (s : State)
  | doneThen (status : Nat) (payload : Bytes) (s : State) (after : State → State)
  | accepted (s : State)
  | owed (s : State)

/-- A row of the command tables (R669, R670): code, capabilities, further rights, payload length, ranges, NV check,
modes, and the command's own rules and effect. -/
structure CmdDef where
  code : Nat
  caps : List Nat
  allow : Req → Bytes → Bool
  len : Bytes → Bool
  range : Bytes → Bool
  nv : Bool
  modes : Bytes → Mode → Bool
  body : Req → Bytes → State → Reply

/-- Modes column "Any" (Table CMD.1). -/
def anyMode : Bytes → Mode → Bool := fun _ m => m != .ship

/-- A payload of exactly `n` bytes (R671). -/
def lenIs (n : Nat) : Bytes → Bool := fun b => b.length == n

/-- No further right. -/
def allowAll : Req → Bytes → Bool := fun _ _ => true

/-- No range to check. -/
def anyRange : Bytes → Bool := fun _ => true

/-- The quota of a tenant: tenant.credits in force, or 1 on the recovery path (R607, R634). -/
def quota (s : State) (n : Nat) : Nat := if s.core.run = .halted then 1 else pn s 0x0203 n

/-- Codes that need no session and consume no credit (Table HST.10). -/
def sessionExempt (code : Nat) : Bool := code == 0x0100 || code == 0x0200

/-- Codes that need no authentication (Table HST.10). -/
def authExempt (code : Nat) : Bool := [0x0100, 0x0200, 0x0201, 0x0202, 0x0203].contains code

/-- The mailbox layer serves a port: READY is set, or the recovery path serves port 3 (R598, R633). -/
def serves (s : State) (p : Nat) : Bool := (port s p).ready || (s.core.run == .halted && p == 3)

/-- The commands of the recovery path (R634). -/
def recoveryCode (code : Nat) : Bool :=
  [0x0100, 0x0200, 0x0202, 0x0203, 0x0E00, 0x0E01, 0x0E02, 0x0E03, 0x0E04].contains code

/-- Checks 4 to 6 of Table HST.10: the status of the first that fails. -/
def acceptCheck (code : Nat) (r : Req) (s : State) : Option Nat :=
  let t := tenant s r.tenant
  if !sessionExempt code && t.session != some r.port then some stNoSession
  else if !authExempt code && t.authReq && !t.authed then some stNotAuth
  else if !sessionExempt code && decide (quota s r.tenant ≤ t.outstanding) then some stNoCredit
  else none

/-- Checks 1 to 6 of Table CMD.1, the recovery path's limits first (R634, R669, R670). -/
def commandCheck (d : CmdDef) (r : Req) (pl : Bytes) (s : State) : Option Nat :=
  if s.core.run == .halted && !recoveryCode d.code then some stUnknownCommand
  else if s.core.run == .halted && r.tenant != 63 then some stDenied
  else if !(d.caps.all (hasCap s r.tenant) && d.allow r pl) then some stDenied
  else if !d.len pl then some stBadLength
  else if !d.range pl then some stRange
  else if d.nv && !s.core.nvReady && s.core.run != .halted then some stNvNotReady
  else if !d.modes pl s.core.mode then some stModeForbids
  else none

/-- A request consumes one credit, IDENTIFY and SESSION_OPEN none (R607, Table HST.10). -/
def consume (code n : Nat) (s : State) : State :=
  if sessionExempt code then s else onTenant n (fun t => { t with outstanding := t.outstanding + 1 }) s

/-- The command's answer is posted (R672, R675). -/
def finish (code : Nat) (r : Req) (a : Reply) : State :=
  let c := !sessionExempt code
  match a with
  | .done st p s => respond r.port r.tenant r.seq st p (some s.clk.us) c s
  | .doneThen st p s k => k (respond r.port r.tenant r.seq st p (some s.clk.us) c s)
  | .accepted s => respond r.port r.tenant r.seq stAccepted [] (some s.clk.us) false s
  | .owed s => s

/-- Any answer to TABLE_WRITE other than OK discards the tenant's part buffer (R692). -/
def dropPart (code n : Nat) (s : State) : State := if code = 0x0405 then onTenant n (fun t => { t with part := none }) s else s

/-- Run an accepted request through Table CMD.1 and its own rules. -/
def runCommand (d : CmdDef) (r : Req) (pl : Bytes) (s : State) : State :=
  match commandCheck d r pl s with
  | some st => respond r.port r.tenant r.seq st [] (some s.clk.us) (!sessionExempt d.code) (dropPart d.code r.tenant s)
  | none => finish d.code r (d.body r pl s)

/-- The port bridges answer their buses: not in SHIP, before configuration recall, in a core reset, on hold-up or while FAB is
gated off (R34, R41, R44, R107, Table MOD.1). -/
def bridgeUp (s : State) : Bool :=
  s.core.recalled && !s.clk.gated && !s.core.holdup && s.core.mode != .ship && s.core.run != .inReset && s.core.run != .heldByPin

/-- The core domain is powered: every mode but SHIP (Table ARC.4). -/
def powered (s : State) : Bool := !(s.core.mode == .ship && s.core.run == .inReset)

/-- A happening in the core or analog domain: none while it has no power. -/
def onPower (f : State → State) (s : State) : State := if powered s then f s else s

/-- A happening in logic that configuration recall arms (R107). -/
def onLive (f : State → State) (s : State) : State := if powered s && s.core.recalled then f s else s

/-- A happening in logic that CNV or FAB clocks: none while they are gated off (R34). -/
def onClock (f : State → State) (s : State) : State := if powered s && s.core.recalled && !s.clk.gated then f s else s

/-- A happening in a block that reservoir hold-up stops (R41). -/
def onSys (f : State → State) (s : State) : State := if s.core.holdup then s else f s

/-- The port answers its bus: I3C with a dynamic or a static address, SPI while enabled, the UART with balls to use; no port during its
own reset (R585, R592, R631, R71). -/
def portOn (s : State) (p : Nat) : Bool :=
  !(port s p).inReset &&
    match p with
    | 0 => s.i3c.dynAddr.isSome || pn s 0x0208 != 0
    | 1 => true
    | 2 => pn s 0x020B == 1
    | 3 => pn s 0x020C == 0 || pn s 0x020C == 2 || (pn s 0x020C == 1 && s.inp.tc == 3)
    | _ => false

/-- A transaction on the bus of one port. -/
def onPortBus (p : Nat) (f : State → State) (s : State) : State := if bridgeUp s && portOn s p then f s else s

/-- The watchdog restarts: it counts anew, with sys.watchdog_ms taken up (R51, Table ARC.7). -/
def wdStart (s : State) : State :=
  let s1 := takeOcc .watchdog s
  { s1 with core := { s1.core with wdMs := pn s1 0x0105, wdFrom := s1.clk.us } }

/-- The foreground loop of firmware that runs restarts the watchdog (R51, "When Fumarole work meets the watchdog"): the model does so
where firmware takes a request, and in a step with no command waiting (assumption 62). -/
def wdKick (s : State) : State := if fwRuns s then wdStart s else s

/-- The checks of Table HST.10 and the command. -/
def serveChecked (d : CmdDef) (r : Req) (pl : Bytes) (s : State) : State :=
  match acceptCheck d.code r s with
  | some st => respond r.port r.tenant r.seq st [] none false (dropPart d.code r.tenant s)
  | none => runCommand d r pl (consume d.code r.tenant s)

/-- A request on a port whose bridge is up. -/
def serveUp (d : CmdDef) (r : Req) (pl : Bytes) (s : State) : State :=
  if serves s r.port then serveChecked d r pl (wdKick s) else setIrq r.port irqReject s

/-- A request of a known command, copied and checked (R603, R604, R607). A port that does not serve ignores the
SUBMIT and sets REQ_REJECT (R598); a bridge that is down takes nothing. -/
def serve (d : CmdDef) (r : Req) (pl : Bytes) (s : State) : State := onPortBus r.port (serveUp d r pl) s

/-! ### Operations answered later -/

/-- Record an accepted operation (R675). -/
def addOp (kind : OpKind) (code : Nat) (r : Req) (async : Bool) (s : State) : State :=
  { s with ops := s.ops ++ [{ kind := kind, port := r.port, tenant := r.tenant, seq := r.seq, code := code, async := async,
                              credit := true, silent := false, accepted := s.clk.us }] }

/-- The argument of OP_COMPLETE (Table CMD.17). -/
def opArg (n seq status : Nat) : Nat := n % 256 ||| (seq % 256) <<< 8 ||| (status % 65536) <<< 16

/-- An accepted operation ends: OP_COMPLETE with its credit, or the owed response (R607, R675, R676). -/
def endOp (o : PendOp) (status : Nat) (payload : Bytes) (s : State) : State :=
  if o.async then
    returnIf o.credit o.tenant
      (postOwn o.tenant 0x0F03 (o.code % 256) (o.code / 256) (opArg o.tenant o.seq status) s)
  else if o.silent then s
  else respond o.port o.tenant o.seq status payload (some o.accepted) o.credit s

/-- The first operation of a kind ends. -/
def completeOp (k : OpKind) (status : Nat) (payload : Bytes) (s : State) : State :=
  match s.ops.find? (fun o => o.kind == k) with
  | some o => endOp o status payload { s with ops := s.ops.erase o }
  | none => s

/-- An operation of a kind is in flight. -/
def opRuns (k : OpKind) (s : State) : Bool := s.ops.any (fun o => o.kind == k)

/-- Answer synchronously now, or owe the answer: ACCEPTED when ASYNC_OK allows (R675). -/
def deferOp (kind : OpKind) (code : Nat) (r : Req) (s : State) : Reply :=
  if r.asyncOk then .accepted (addOp kind code r true s) else .owed (addOp kind code r false s)

/-- A refusal that changes nothing (R674). -/
def refuse (status : Nat) (s : State) : Reply := .done status [] s

end Sys2Proof.Machine
end

