-- ==== Sys2Proof/Machine/Image.lean ====
section
/-! DEFINITION. The configuration images of the F-array: their entries, their validity, writing one, and what a recall
takes from one (R547 to R549, R660 to R664). -/

namespace Sys2Proof.Machine

/-! ### Configuration images (R547 to R549, R660 to R664) -/

/-- An image entry: its instance key and its value bytes (Table NVS.6). -/
structure ImageEntry where
  inst : PInst
  value : Bytes
deriving DecidableEq, Repr

/-- The order of entries: ID, first index, second index (R660). -/
def instKey (i : PInst) : Nat := i.id * 65536 + i.i1 * 256 + i.i2

/-- The entries of an image body in body order, and whether the body ended early (R663). -/
def parseEntries : Nat → Bytes → List ImageEntry × Bool
  | 0, _ => ([], false)
  | f + 1, b =>
    if b.isEmpty then ([], false)
    else if b.length < 6 ∨ b.length < roundUp (6 + fieldAt b 4 2) 4 then ([], true)
    else
      let n := fieldAt b 4 2
      let e : ImageEntry := { inst := { id := fieldAt b 0 2, i1 := byteAt b 2, i2 := byteAt b 3 }, value := bytesAt b 6 n }
      let rest := parseEntries f (b.drop (roundUp (6 + n) 4))
      (e :: rest.1, rest.2)

/-- The bytes of an entry, padded to 4 (Table NVS.6). -/
def entryBytes (e : ImageEntry) : Bytes :=
  let b := leBytes 2 e.inst.id ++ leBytes 1 e.inst.i1 ++ leBytes 1 e.inst.i2 ++ leBytes 2 e.value.length ++ e.value
  padTo (roundUp b.length 4) b

/-- Replace or add an entry in ascending order (R660). -/
def mergeEntry (e : ImageEntry) : List ImageEntry → List ImageEntry
  | [] => [e]
  | x :: xs =>
    if instKey e.inst < instKey x.inst then e :: x :: xs
    else if e.inst = x.inst then e :: xs
    else x :: mergeEntry e xs

/-- Parameters that no image carries (R660). -/
def notCarried (i : PInst) : Bool :=
  i.id == 0x0B10 ||
    (match pInfo i.id with
     | some p => p.cls == .counter || p.cls == .factory
     | none => false)

/-- The bytes of a write's value as PARAM_GET returns it. -/
def writeBytesOf (w : PWrite) : Bytes :=
  match pInfo w.inst.id with
  | some p => pBytes p.typ w.value
  | none => w.value.bytes

/-- The body after the writes of a commit (R660). -/
def mergedBody (base : Bytes) (ws : List PWrite) : Bytes :=
  let es := (parseEntries base.length base).1
  let es2 := (ws.filter (fun w => !notCarried w.inst)).foldl (fun l w => mergeEntry { inst := w.inst, value := writeBytesOf w } l) es
  es2.flatMap entryBytes

/-- The body fits an image (Table NVS.5). -/
def imageFits (s : State) (ws : List PWrite) : Bool := decide ((mergedBody s.par.base ws).length ≤ 32704)

/-- The first address of an image: 0 A, 1 B (Table NVS.1). -/
def imageAddr (k : Nat) : Nat := 0x10000 + k * 0x8000

/-- The CRC of an image: bytes 4 to 15, 20 to 63 and the body (Table NVS.5). -/
def imageCrc (s : State) (k n : Nat) : Nat :=
  let a := imageAddr k
  crc32 (readBytes s (a + 4) 12 ++ readBytes s (a + 20) 44 ++ readBytes s (a + 64) n)

/-- An image is valid (R547, R522). -/
def imageValid (s : State) (k : Nat) : Bool :=
  let a := imageAddr k
  let n := readNat s (a + 12) 4
  (readNat s a 4 == 0xA55A) && decide (n ≤ 32704) && (readNat s (a + 16) 4 == imageCrc s k n) &&
    decide (readNat s (a + 8) 1 ≤ 3) && !rangeBad s a (64 + n)

/-- The generation of an image. -/
def imageGen (s : State) (k : Nat) : Nat := readNat s (imageAddr k + 4) 4

/-- The generation of the next image write: one above the highest valid generation, or 1 (R548). -/
def nextImageGen (s : State) : Nat :=
  max (if imageValid s 0 then imageGen s 0 else 0) (if imageValid s 1 then imageGen s 1 else 0) + 1

/-- The image that a write targets: not the one loaded, or A after DEFAULTS (R548). -/
def imageTarget (s : State) : Nat :=
  match s.par.loaded with
  | some k => 1 - k
  | none => 0

/-- Write an image: commit word cleared, body and header, commit word last (R548). It becomes the next base (R660). -/
def writeImage (body : Bytes) (s : State) : State :=
  let k := imageTarget s
  let a := imageAddr k
  let hdr := leBytes 4 (nextImageGen s) ++ leBytes 1 3 ++ zeros 3 ++ leBytes 4 body.length
  let s1 := faWrite a (zeros 4) s
  let s2 := faWrite (a + 64) body s1
  let s3 := faWrite (a + 4) (hdr ++ leBytes 4 (crc32 (hdr ++ zeros 44 ++ body)) ++ zeros 44) s2
  let s4 := faWrite a (leBytes 4 0xA55A) s3
  { s4 with par := { s4.par with base := body } }

/-- The CONFIG record (Table PAR.6). -/
def configRecord (kind tenant image options gen epoch writes skipped : Nat) (first : PInst) (len : Nat) (s : State) : State :=
  logRecord 0x06 (leBytes 1 kind ++ leBytes 1 tenant ++ leBytes 1 image ++ leBytes 1 options ++ leBytes 4 gen ++ leBytes 8 epoch ++
    leBytes 2 writes ++ leBytes 2 skipped ++ leBytes 2 first.id ++ leBytes 1 first.i1 ++ leBytes 1 first.i2 ++ leBytes 4 len ++
    zeros 4) s

/-- No instance. -/
def noInst : PInst := { id := 0, i1 := 0, i2 := 0 }

/-- The first write's instance. -/
def firstInst (ws : List PWrite) : PInst :=
  match ws with
  | w :: _ => w.inst
  | [] => noInst

/-- Persist a commit: the image with its writes merged, and the CONFIG record (R660, R664). -/
def persist (kind tenant : Nat) (ws : List PWrite) (s : State) : State :=
  let body := mergedBody s.par.base ws
  let gen := nextImageGen s
  let img := imageTarget s
  configRecord kind tenant img 0 gen s.par.epoch ws.length 0 (firstInst ws) body.length (writeImage body s)

/-- The CONFIG record of an image write that failed after the strobe: kind 5 (R661). -/
def configFailed (tenant : Nat) (ws : List PWrite) (s : State) : State :=
  configRecord 5 tenant (imageTarget s) 0 (nextImageGen s) s.par.epoch ws.length 0 (firstInst ws) (mergedBody s.par.base ws).length s

/-- An image write that failed on its way: the target image is not valid, and the other image stays as it is (R548, R661). -/
def persistFailed (tenant : Nat) (ws : List PWrite) (s : State) : State :=
  configFailed tenant ws (faWrite (imageAddr (imageTarget s)) (zeros 4) s)

/-- The image write of a device commit (R660, R661), with its status: it fails where the entries do not fit, where RESV does not cover the
write, or where the write itself fails. -/
def persistWrites (kind : Nat) (ws : List PWrite) (fails : Bool) (s : State) : Nat × State :=
  if !imageFits s ws ∨ s.nv.resvMv < pv s 0x0D06 then (stHardware, configFailed 0xFF ws s)
  else if fails then (stHardware, persistFailed 0xFF ws s)
  else (stOk, persist kind 0xFF ws s)

/-- The image loaded at recall: the valid one of higher generation (R549). -/
def imageToLoad (s : State) : Option Nat :=
  match imageValid s 0, imageValid s 1 with
  | true, true => if imageGen s 1 > imageGen s 0 then some 1 else some 0
  | true, false => some 0
  | false, true => some 1
  | false, false => none

/-- An entry that recall accepts (R663). -/
def entryValue (e : ImageEntry) : Option PVal :=
  match pInfo e.inst.id with
  | some p =>
    if p.cls = .counter ∨ p.cls = .factory then none
    else if idxOk p.idx e.inst.i1 && idx2Ok p.idx e.inst.i2 then
      match pParse p e.value with
      | some v => if pInRange p e.inst.i1 v then some v else none
      | none => none
    else none
  | none => none

/-- One entry at recall: its value, or one more entry skipped (R663). Image-only tables are taken elsewhere (R662). -/
def recallEntry (ps : ParamStore) (e : ImageEntry) : ParamStore :=
  if e.inst.id = 0x04F0 then ps
  else
    match entryValue e with
    | some v => { ps with cells := putCell ps.cells { inst := e.inst, committed := v, inForce := v, pending := false, epoch := 0 } }
    | none => { ps with skipped := ps.skipped + 1, firstSkipped := if ps.skipped = 0 then e.inst else ps.firstSkipped }

/-- The body of an image. -/
def imageBody (s : State) (k : Nat) : Bytes := readBytes s (imageAddr k + 64) (readNat s (imageAddr k + 12) 4)

/-- The parameter store that recall leaves, before the cross-parameter rules (R549, R663). -/
def recallStore (s : State) : ParamStore :=
  let empty : ParamStore :=
    { cells := [], epoch := 0, waiting := [], overlays := [], loaded := none, loadedGen := 0, base := [], skipped := 0,
      firstSkipped := noInst }
  match imageToLoad s with
  | none => empty
  | some k =>
    let body := imageBody s k
    let es := parseEntries body.length body
    let ps := es.1.foldl recallEntry { empty with loaded := some k, loadedGen := imageGen s k, base := body }
    if es.2 then { ps with skipped := ps.skipped + 1 } else ps

/-- The tables that the loaded image carries (R662): table and value bytes. -/
def recallTables (s : State) : List (Nat × Bytes) :=
  match imageToLoad s with
  | none => []
  | some k =>
    let body := imageBody s k
    ((parseEntries body.length body).1.filter (fun e => e.inst.id == 0x04F0)).map (fun e => (e.inst.i1, e.value))

end Sys2Proof.Machine
end

