-- ==== Sys2Proof/Machine/Sched.lean ====
section
/-! DEFINITION. What the converters issue and when: descriptors, frames, the round robin over the slice positions, urgent requests and
synchronised first conversions, and the coding and correction of what they convert (R284, R289 to R295, R318, R319, R329 to R341). Instants are CNV cycles since the PLL's first lock, 80 to a
microsecond; what the microseconds that have passed allow is issued before anything else happens to a converter. -/

namespace Sys2Proof.Machine

/-! ### Descriptors (Tables MSR.1 to MSR.3) -/

/-- Entry count of a descriptor. -/
def descCount (d : Bytes) : Nat := byteAt d 0

/-- Entry `k` of a descriptor: its four bytes. -/
def descEntry (d : Bytes) (k : Nat) : Bytes := bytesAt d (8 + 4 * k) 4

/-- HOLD_WITH_PREV. -/
def holdsPrev (d : Bytes) (k : Nat) : Bool := bit (byteAt (descEntry d k) 3) 0

/-- The entries that follow entry `k` in its group, at most `n` of them (R319). -/
def groupRest (d : Bytes) (k : Nat) : Nat → Nat
  | 0 => 0
  | n + 1 => if decide (k + 1 < descCount d) && holdsPrev d (k + 1) then groupRest d (k + 1) n + 1 else 0

/-- The size of the SWA group that begins with an entry. -/
def groupSize (d : Bytes) (k : Nat) : Nat := groupRest d k 3 + 1

/-! ### Converters and sequences -/

/-- The converter by its number: 0 SWA, 1 SWB. -/
def converter (s : State) (k : Nat) : Converter := if k = 0 then s.msr.swa else s.msr.swb

/-- Change a converter. -/
def onConv (k : Nat) (f : Converter → Converter) (s : State) : State :=
  if k = 0 then { s with msr := { s.msr with swa := f s.msr.swa } } else { s with msr := { s.msr with swb := f s.msr.swb } }

/-- A sequence that does not exist. -/
def noSeq : Seq := { running := false, frames := [], stopping := false, mode := 0, since := 0, period := 0, corEpoch := 0 }

/-- A sequence by number. -/
def seqOf (s : State) (q : Nat) : Seq := vget s.msr.seqs q noSeq

/-- Change a sequence. -/
def onSeq (q : Nat) (f : Seq → Seq) (s : State) : State := { s with msr := { s.msr with seqs := vmod s.msr.seqs q f } }

/-- The converter of a sequence: 0 SWA, 1 SWB. -/
def seqConv (s : State) (q : Nat) : Nat := pn s 0x0708 q

/-- The converters run: the PLL is in lock and the supply is not on hold-up (R34, R41). -/
def convRuns (s : State) : Bool := s.clk.pllLocked && !s.core.holdup

/-- The present CNV cycle. -/
def cycle (s : State) : Nat := s.clk.us * 80

/-! ### Times (Tables CNV.1 and CNV.3) -/

/-- CNV cycles of an SWA sample-time code. -/
def sampleCycles (code : Nat) : Nat :=
  [20, 30, 40, 60, 80, 120, 160, 240, 320, 400, 480, 640, 800, 960, 1120, 1280].getD code 20

/-- Acquisition and conversion of an entry on a converter, in CNV cycles. -/
def entryCycles (conv : Nat) (e : Bytes) : Nat × Nat := if conv = 0 then (sampleCycles (byteAt e 1 / 16), 20) else (40, 40)

/-- When the last of some conversions has ended. -/
def freeAt (js : List Job) : Nat := js.foldl (fun m j => max m j.ends) 0

/-- The first of some instants at which `n` of them have come. -/
def nthFree (n : Nat) (ts : List Nat) : Nat :=
  ts.foldl (fun m t => if n ≤ (ts.filter (fun u => decide (u ≤ t))).length then min m t else m) (ts.foldl max 0)

/-- The positions in the order of the round robin (R295). -/
def fromPointer (c : Converter) : List Nat := (List.range c.slots.length).map (fun i => (c.rr + i) % c.slots.length)

/-- The positions that are free at an instant, in the order of the round robin. -/
def freeSlots (c : Converter) (t : Nat) : List Nat := (fromPointer c).filter (fun i => decide (freeAt (c.slots.getD i []) ≤ t))

/-- The slices that a position converts with: its own on SWA, both on SWB. -/
def slotSlices (conv : Nat) (c : Converter) (i : Nat) : List Nat := if conv = 0 then [c.pos.getD i 0] else c.pos

/-- Put a conversion at the end of a position's list. -/
def addJob (i : Nat) (j : Job) (c : Converter) : Converter := { c with slots := c.slots.set i (c.slots.getD i [] ++ [j]) }

/-! ### Issue (R295, R319, R334, R335) -/

/-- The conversions of one oversample of an entry's group, on positions at an instant. -/
def issueAt (conv q t : Nat) (f : Frame) (ps : List Nat) (c : Converter) : Converter :=
  let n := c.slots.length
  (List.range ps.length).foldl (fun c i =>
    let p := ps.getD i 0
    let e := entryCycles conv (descEntry f.desc (f.entry + i))
    let j : Job := { src := q, frame := f.number, entry := f.entry + i, k := f.k, slices := slotSlices conv c p, began := t,
                     hold := t + e.1, ends := t + e.1 + e.2, restarted := false }
    { addJob p j c with rr := (p + 1) % n }) c

/-- The frame after the issue of an oversample of its next entry's group. -/
def Frame.issued (g : Nat) (f : Frame) : Frame :=
  if f.k + 1 < byteAt (descEntry f.desc f.entry) 2 then { f with k := f.k + 1 } else { f with entry := f.entry + g, k := 0 }

/-- Every conversion of the frame is issued. -/
def Frame.allIssued (f : Frame) : Bool := decide (descCount f.desc ≤ f.entry)

/-- Positions that the next conversions of a frame need together. -/
def needed (conv : Nat) (f : Frame) : Nat := if conv = 0 then groupSize f.desc f.entry else 1

/-- The instant at which a frame's next conversions can be issued: its trigger, and the positions that it needs. -/
def issueTime (conv : Nat) (f : Frame) (c : Converter) : Nat := max f.at_ (nthFree (needed conv f) (c.slots.map freeAt))

/-- A frame goes before another on their converter: its trigger arrived earlier, or at the same instant on a sequence of a lower number
(R334). -/
def goesBefore (q : Nat) (f : Frame) (b : Nat × Frame) : Bool :=
  decide (f.at_ < b.2.at_) || (f.at_ == b.2.at_ && (decide (q < b.1) || (q == b.1 && decide (f.number < b.2.number))))

/-- The frame whose conversions go next on a converter: of those with conversions to issue, the one whose trigger arrived earliest
(R334). -/
def nextFrame (conv : Nat) (s : State) : Option (Nat × Frame) :=
  (List.range 8).foldl (fun best q =>
    if seqConv s q ≠ conv then best
    else
      match (seqOf s q).frames.find? (fun f => !f.allIssued), best with
      | some f, some b => if goesBefore q f b then some (q, f) else best
      | some f, none => some (q, f)
      | none, _ => best) none

/-- Change a frame. -/
def onFrame (q number : Nat) (g : Frame → Frame) (s : State) : State :=
  onSeq q (fun x => { x with frames := x.frames.map (fun f => if f.number = number then g f else f) }) s

/-- Issue what a converter can have issued before the present cycle, one oversample of an entry's group at a time: a trigger that comes in the
present cycle has its place in the order too (R334). -/
def runConv (conv : Nat) : Nat → State → State
  | 0, s => s
  | fuel + 1, s =>
    match nextFrame conv s with
    | none => s
    | some (q, f) =>
      let c := converter s conv
      let t := issueTime conv f c
      if cycle s ≤ t then s
      else
        let g := needed conv f
        runConv conv fuel (onFrame q f.number (Frame.issued g) (onConv conv (issueAt conv q t f ((freeSlots c t).take g)) s))

/-- The conversions that have ended by an instant leave their mark, and urgent ones go (R303). -/
def settleSlots (now : Nat) (c : Converter) : Converter :=
  { c with lastEnd := (List.range c.slots.length).map (fun i =>
             ((c.slots.getD i []).filter (fun j => decide (j.ends ≤ now))).foldl (fun m j => max m j.ends) (c.lastEnd.getD i 0)),
           slots := c.slots.map (fun js => js.filter (fun j => j.src != 8 || decide (now < j.ends))) }

/-- Both converters have issued what the time that has passed allows. The bound is the number of conversions that eight frames can
hold. -/
def catchUp (s : State) : State :=
  if convRuns s then
    let s1 := runConv 1 8192 (runConv 0 8192 s)
    onConv 1 (settleSlots (cycle s)) (onConv 0 (settleSlots (cycle s)) s1)
  else s

/-! ### Urgent requests (R338 to R341) -/

/-- The conversion in progress in a position's list. -/
def inProgress (now : Nat) (js : List Job) : Option Job := js.find? (fun j => decide (j.began ≤ now) && decide (now < j.ends))

/-- Conversions that wait in a position's list, moved so that each begins once the one before has ended. -/
def moveFrom : Nat → List Job → List Job
  | _, [] => []
  | t, j :: js =>
    let b := max t j.began
    let m := { j with began := b, hold := b + (j.hold - j.began), ends := b + (j.ends - j.began) }
    m :: moveFrom m.ends js

/-- The position whose sequence conversion began its acquisition most recently (R339). -/
def newest (now : Nat) (c : Converter) : Option (Nat × Job) :=
  (fromPointer c).foldl (fun best i =>
    match inProgress now (c.slots.getD i []), best with
    | some j, some b => if j.src = 8 then best else if b.2.began < j.began then some (i, j) else best
    | some j, none => if j.src = 8 then none else some (i, j)
    | none, _ => best) none

/-- An urgent conversion, or several in turn, of `len` cycles from an instant, the first held `acq` cycles after it. -/
def urgentJob (number t acq len : Nat) (slices : List Nat) : Job :=
  { src := 8, frame := number, entry := 0, k := 0, slices := slices, began := t, hold := t + acq, ends := t + len, restarted := false }

/-- Put an urgent conversion into a position's list: after the conversions that have ended and the urgent ones, and before those that wait. A
sequence conversion in progress is aborted and restarts on its slice (R339). -/
def insertUrgent (now number acq len : Nat) (slices : List Nat) (js : List Job) : List Job :=
  let before := js.filter (fun j => decide (j.ends ≤ now) || j.src == 8)
  let after := js.filter (fun j => !(decide (j.ends ≤ now) || j.src == 8))
  let u := urgentJob number (max now (freeAt before)) acq len slices
  before ++ u :: moveFrom u.ends (after.map (fun j => { j with restarted := j.restarted || decide (j.began ≤ now) }))

/-- The position that an urgent SWA request takes: a free one, else that of the newest sequence conversion, else the one whose urgent
conversions end first (R339). -/
def urgentSlot (now : Nat) (c : Converter) : Nat :=
  match freeSlots c now with
  | i :: _ => i
  | [] =>
    match newest now c with
    | some (i, _) => i
    | none =>
      let ends := fun (i : Nat) => freeAt ((c.slots.getD i []).filter (fun j => j.src == 8))
      (fromPointer c).foldl (fun b i => if ends i < ends b then i else b) c.rr

/-- An urgent request is placed on a converter: the converter, and the request's conversion. -/
def placeUrgent (conv now number acq len : Nat) (c : Converter) : Converter × Job :=
  let i := urgentSlot now c
  let js := c.slots.getD i []
  let slices := slotSlices conv c i
  let aborts := ((inProgress now js).map (fun j => j.src != 8)).getD false
  let js1 := insertUrgent now number acq len slices js
  ({ c with slots := c.slots.set i js1, abortRestart := c.abortRestart + b2n aborts },
    (js1.find? (fun j => j.src == 8 && j.frame == number)).getD (urgentJob number now acq len slices))

/-- Number the next frame or urgent request. -/
def nextNumber (s : State) : Nat × State := (s.msr.arrivals, { s with msr := { s.msr with arrivals := s.msr.arrivals + 1 } })

/-- One trigger of a converter (R329). -/
def countTrigger (conv : Nat) (s : State) : State := onConv conv (fun c => { c with triggers := c.triggers + 1 }) s

/-- One trigger that ends as dropped. -/
def countDrop (n conv : Nat) (s : State) : State := onConv conv (fun c => { c with dropped := c.dropped + n }) s

/-- One trigger that ends as completed. -/
def countDone (conv : Nat) (s : State) : State := onConv conv (fun c => { c with completed := c.completed + 1 }) s

/-- A pair is in progress on SWB (R340). -/
def pairRuns (s : State) : Bool := s.msr.swb.slots.any (fun js => (inProgress (cycle s) js).isSome)

/-- Whether an urgent request is taken: the converters run, and on SWB no pair is in progress (R330, R340). -/
def urgentTaken (conv : Nat) (s : State) : Bool := convRuns s && (conv == 0 || !pairRuns s)

/-- An urgent request of `len` cycles with a first acquisition of `acq`, which counts as one trigger, and as dropped where it is not taken
(R329, R330): its conversion, with its slices and its instants. -/
def urgent (conv acq len : Nat) (s : State) : Option Job × State :=
  let s1 := countTrigger conv (catchUp s)
  if urgentTaken conv s1 then
    let (n, s2) := nextNumber s1
    let (c, j) := placeUrgent conv (cycle s2) n acq len (converter s2 conv)
    (some j, onConv conv (fun _ => c) s2)
  else (none, countDrop 1 conv s1)

/-- A fault-verify conversion: the rail's channel at sample-time code 0, one conversion (R338). -/
def verifyCycles : Nat := 40

/-- A fast fault issues a fault-verify conversion (R201). -/
def requestVerify (code r : Nat) (s : State) : State :=
  match urgent 0 (sampleCycles 0) verifyCycles s with
  | (some j, s1) =>
    let v : Verify := { rail := r, code := code, tick := tick s, from_ := cycle s, ends := j.ends, slice := j.slices.headD 0 }
    { s1 with sup := { s1.sup with verify := s1.sup.verify ++ [v] } }
  | (none, s1) => s1

/-! ### Synchronised frames (R332) -/

/-- The first conversions of a frame on each converter hold in one CNV cycle: the first at which SWB is between pairs and the SWA positions
are free, and both have acquired (DEDUCED, assumption 77). -/
def syncFrames (qa qb : Nat) (fa fb : Frame) (s : State) : State :=
  let a := converter s 0
  let b := converter s 1
  let g := needed 0 fa
  let t := max (cycle s) (max (nthFree g (a.slots.map freeAt)) (nthFree 1 (b.slots.map freeAt)))
  let ta := (entryCycles 0 (descEntry fa.desc 0)).1
  let h := t + max ta 40
  let s1 := onConv 0 (issueAt 0 qa (h - ta) fa ((freeSlots a t).take g)) s
  let s2 := onConv 1 (issueAt 1 qb (h - 40) fb ((freeSlots b t).take 1)) s1
  onFrame qb fb.number (fun f => { f.issued 1 with sync := true }) (onFrame qa fa.number (fun f => { f.issued g with sync := true }) s2)

/-! ### Coding and correction (R289 to R293) -/

/-- A channel converts on SWB. -/
def isSwb (ch : Nat) : Bool := decide (0x40 ≤ ch)

/-- The lowest and highest raw code of a channel (Table CNV.5). -/
def codeEnds (ch : Nat) : Int × Int :=
  if ch = 0x42 ∨ ch = 0x46 then (-32768, 32767) else if 0x40 ≤ ch then (0, 65535) else (0, 16383)

/-- zero_q4_nom (Table CNV.5). -/
def zeroNom (ch : Nat) : Int := if ch < 0x18 then 29127 else if 0x80 ≤ ch then 1820 else 0

/-- lsb_q20_nom at a PGA code (Table CNV.5, Table CNV.2). -/
def lsbNom (s : State) (ch pga : Nat) : Int :=
  if ch < 0x18 then 216000 * 2 ^ pn s 0x0404 ch / 2 ^ pga
  else if ch < 0x28 then 192000 / 2 ^ pga
  else if ch < 0x30 then 2097152
  else if ch = 0x42 ∨ ch = 0x46 then 1048576
  else 524288

/-- The SWA or SWB converter of a channel. -/
def convOf (s : State) (ch : Nat) : Converter := if isSwb ch then s.msr.swb else s.msr.swa

/-- The coefficients that a slice holds before its first calibration (assumption 31). -/
def sliceIdle : Slice := { off := 0, gain := 32768, skew := 0 }

/-- x_q4 of one conversion: the slice correction (R291). -/
def sliceCorrect (c : Slice) (code : Int) : Int := ((code * 16 - c.off) * c.gain + 16384) >>> 15

/-- The average of the oversamples (R291). -/
def average (xs : List Int) : Int :=
  let acc := xs.sum
  let n : Int := xs.length
  if n = 0 then 0 else if 0 ≤ acc then (acc + n / 2) / n else -((-acc + n / 2) / n)

/-- num of R291: the corrected value in result units times 2^24, under an offset and a gain of the channel. -/
def channelNum (s : State) (cor : Int × Int) (ch pga : Nat) (avg : Int) : Int :=
  (avg - zeroNom ch - cor.1) * ((lsbNom s ch pga * cor.2) / 0x1000000)

/-- The channel correction in force (Table CNV.7). -/
def corNow (s : State) (ch : Nat) : Int × Int := (pv s 0x0703 ch, pv s 0x0704 ch)

/-- A corrected value before clamping; the factory coefficients map the internal channels (R290, R291). -/
def channelValue (s : State) (cor : Int × Int) (ch pga : Nat) (avg : Int) : Int :=
  if 0x30 ≤ ch ∧ ch ≤ 0x35 then Config.internalResult ch avg
  else (channelNum s cor ch pga avg + 0x800000) / 0x1000000

/-- A result: its value, and whether it counts as beyond the upper or the lower limits by OVER_RANGE (R204, R292). -/
structure Reading where
  value : Int
  high : Bool
  low : Bool
deriving DecidableEq, Repr

/-- One result of raw codes, each with the slice that converted it, under a channel correction (R291, R292). -/
def readingWith (s : State) (cor : Int × Int) (ch pga : Nat) (codes : List Int) (slices : List Nat) : Reading :=
  let c := convOf s ch
  let xs := (codes.zip slices).map (fun p => sliceCorrect (c.coef.getD p.2 sliceIdle) p.1)
  let v := channelValue s cor ch pga (average xs)
  let e := codeEnds ch
  { value := clampInt (-32767) 32767 v, high := codes.any (fun k => decide (e.2 ≤ k)) || decide (32767 < v),
    low := codes.any (fun k => decide (k ≤ e.1)) || decide (v < -32767) }

/-- One result under the channel correction in force. -/
def reading (s : State) (ch pga : Nat) (codes : List Int) (slices : List Nat) : Reading := readingWith s (corNow s ch) ch pga codes slices

/-! ### Trigger lines (Table MSR.6) -/

/-- A source of a kind, and of an index where the kind has one, has fired inside the device: the lines that it feeds are due (R328). -/
def noteSource (kind index : Nat) (s : State) : State :=
  let hit := (List.range 4).filter (fun n =>
    let src := pn s 0x0712 n
    src % 16 == kind && (kind == 3 || kind == 4 || (src >>> 4) % 256 == index) && !s.msr.due.contains n)
  { s with msr := { s.msr with due := s.msr.due ++ hit } }

/-! ### Rings and their banks (R344, R345) -/

/-- A ring that is not attached. -/
def noRing : Ring :=
  { attached := false, pipe := none, tenant := 0xFF, cb := 0, bank := 0, size := 0, policy := 0, produced := 0, released := 0,
    overwritten := 0, full := false, dropping := false, failed := false, notified := false, queue := [] }

/-- A DMA channel's ring. -/
def ringOf (s : State) (d : Nat) : Ring := vget s.msr.rings d noRing

/-- Change a ring. -/
def onRing (d : Nat) (f : Ring → Ring) (s : State) : State := { s with msr := { s.msr with rings := vmod s.msr.rings d f } }

/-- The banks that a ring spans (R344). -/
def spanOf (bk size : Nat) : List Nat := (List.range ((size + 4095) / 4096)).map (fun j => bk + j)

/-- The bank of a fabric address (the scratchpad begins at a multiple of its size). -/
def bankAt (a : Nat) : Nat := a % 0x40000 / 0x1000

/-- The banks of an attached ring's span (R344). -/
def ringSpan (r : Ring) : List Nat := if r.attached then spanOf r.bank r.size else []

/-- The banks that an attached ring uses, its control block's among them (R345, R354). -/
def ringBanks (r : Ring) : List Nat := if r.attached then spanOf r.bank r.size ++ [bankAt r.cb] else []

/-- A bank that an attached ring uses (R354). -/
def ringUses (s : State) (k : Nat) : Bool := s.msr.rings.toList.any (fun r => (ringBanks r).contains k)

/-- A bank by index. -/
def bankOf (s : State) (k : Nat) : Bank := vget s.fab.banks k (Bank.atReset k)

/-- Change a bank. -/
def onBank (k : Nat) (f : Bank → Bank) (s : State) : State := { s with fab := { s.fab with banks := vmod s.fab.banks k f } }

/-! ### Arbitration (R499 to R501) -/

/-- The master that a bank grants in a cycle in which it is free, by the pseudocode of R499. -/
def arbPick (w : Nat → Nat) (k : Nat) (req : Nat → Bool) (b : Bank) : Option Nat × Bank :=
  if 52 ≤ k ∧ req 2 = true then (some 2, b)
  else
    match b.holder.filter (fun h => req h && decide (b.run < w h)) with
    | some h => (some h, { b with run := b.run + 1 })
    | none =>
      match ((List.range 12).map (fun i => (b.ptr + i + 1) % 12)).find? (fun m => m != 2 && req m) with
      | some m => (some m, { b with holder := some m, run := 1, ptr := m })
      | none => (none, { b with holder := none })

/-- bank.arb_weight of a master. -/
def arbWeight (s : State) (m : Nat) : Nat := pn s 0x0C04 m

/-- The counts of a grant: the cycles from acceptance to grant, and a conflict where another was granted first (R501; assumption 87). -/
def countGrant (m wait : Nat) (lost : Bool) (s : State) : State :=
  { s with fab := { s.fab with
      waits := vmod s.fab.waits m (fun n => (n + wait) % 0x10000000000000000)
      conflicts := if lost then vmod s.fab.conflicts m (fun n => satAdd 0xFFFFFFFF n 1) else s.fab.conflicts } }

/-- The grants of a bank from FAB cycle `c` on, until its queue is empty; an atomic takes two cycles (R499). -/
def arbRun (k : Nat) : Nat → Nat → List (Nat × Bool) → State → State
  | 0, _, _, s => s
  | f + 1, c, q, s =>
    let p := arbPick (arbWeight s) k (fun m => q.any (fun r => r.1 == m)) (bankOf s k)
    let s1 := onBank k (fun _ => p.2) s
    match p.1.bind (fun m => q.find? (fun r => r.1 == m)) with
    | some r => arbRun k f (c + if r.2 then 2 else 1) (q.erase r) (countGrant r.1 c (decide (0 < c)) s1)
    | none => s1

/-- A request enters a bank's queue, where its master has fewer than two there (R499). -/
def acceptReq (q : List (Nat × Bool)) (r : Nat × Bool) : List (Nat × Bool) :=
  if (q.filter (fun x => x.1 == r.1)).length < 2 then q ++ [r] else q

/-- An access reaches a bank: bank.share_read of the bank comes into force (Table BNK.6). -/
def touchBank (k : Nat) (s : State) : State := takeOccAt .bankAccess k s

/-- A master's access is arbitrated with those that other masters make in the same cycle: masters with whether the access is an atomic
(R499). -/
def arbitrate (k m : Nat) (atomic : Bool) (rivals : List (Nat × Bool)) (s : State) : State :=
  let q := ((m, atomic) :: rivals).foldl acceptReq []
  arbRun k (q.length + 1) 0 q (touchBank k s)

/-! ### Parity bits (R507) -/

/-- Bytes are written with their parity bits. -/
def bankBytes (a : Nat) (bs : Bytes) (s : State) : State :=
  let t := writeBytes a bs s
  { t with fab := { t.fab with flips := t.fab.flips.filter (fun x => decide (x < a) || decide (a + bs.length ≤ x)) } }

/-- A byte that is read disagrees with its parity bit. -/
def flipped (s : State) (a n : Nat) : Bool := s.fab.flips.any (fun x => decide (a ≤ x) && decide (x < a + n))

/-- An upset has turned a bit of a word, whose first byte stands for it. -/
def upset (bad : Bool) (a : Nat) (s : State) : State :=
  if bad && !s.fab.flips.contains a then { s with fab := { s.fab with flips := a :: s.fab.flips } } else s

/-- End a ring's delegations and detach it: the records of frames in progress go to no ring any more (R345, R353). -/
def detachRing (d : Nat) (s : State) : State :=
  let r := ringOf s d
  let s1 := (ringBanks r).foldl (fun t k => onBank k (fun b => { b with delegates := b.delegates.erase (0x83 + d) }) t) s
  let unbind := fun (f : Frame) => { f with ring := if f.ring = some d then none else f.ring }
  let s2 := { s1 with msr := { s1.msr with seqs := s1.msr.seqs.map (fun x => { x with frames := x.frames.map unbind }) } }
  onRing d (fun x => { x with attached := false, pipe := none, queue := [] }) s2

/-- A sequence stops with its frames cut, which count as dropped (R325, R330). -/
def stopCut (s : State) (q : Nat) : State :=
  onSeq q (fun x => { x with running := false, stopping := false, frames := [] }) (countDrop (seqOf s q).frames.length (seqConv s q) s)

/-- A conversion of a sequence leaves the schedule. -/
def noSeqJobs (c : Converter) : Converter := { c with slots := c.slots.map (fun js => js.filter (fun j => j.src == 8)) }

/-- A frame of the Bamard ring in flight is discarded at a core reset, at SHIP entry and on hold-up; positions keep their values (R384). -/
def tagsDrop (s : State) : State := { s with tags := { s.tags with flight := .idle, bHeld := [], extQ := [] } }

/-- SHIP entry stops every sequence, and the sweeps of the Bamard ring (R325, R384). -/
def shipStop (s : State) : State :=
  completeOp .tagsSweep stHardware [] (tagsDrop (onConv 1 noSeqJobs (onConv 0 noSeqJobs ((List.range 8).foldl stopCut (catchUp s)))))

/-- A CAL_SYSTEM run loses its ground for a reason: 0 a precondition, 4 SERVICE (R314). -/
def calLose (p : CalRun → Bool) (reason : Nat) (s : State) : State :=
  { s with msr := { s.msr with cal := s.msr.cal.map (fun c => if p c && c.lost.isNone then { c with lost := some reason } else c) } }

/-- SERVICE ends: a CAL_SYSTEM run loses its ground (R314), and a PIPE stream is detached (R360). -/
def leaveService (s : State) : State :=
  let s1 := calLose (fun _ => true) 4 s
  if (ringOf s1 3).pipe.isSome then detachRing 3 s1 else s1

end Sys2Proof.Machine
end

