-- ==== Sys2Proof/Machine/Rails.lean ====
section
/-! DEFINITION. Rails: thresholds, switching with discharge and time checks, margin output release, the standby
bring-up, and the change of mode with its event, record and VAUX (R87 to R91, R121 to R137, R185 to R188). -/

namespace Sys2Proof.Machine

/-! ### Rails -/

/-- The code of a rail state (Table SEQ.1). -/
def RailSt.code : RailSt → Nat
  | .off => 0
  | .enabling => 1
  | .on => 2
  | .disabling => 3
  | .parked => 4
  | .joinPending => 5
  | .faultOff => 6
  | .forcedOn => 7

/-- A rail after POR (Table ARC.5, R105). -/
def railIdle : Rail := Rail.atReset

/-- A rail by number. -/
def rail (s : State) (r : Nat) : Rail := vget s.rails r railIdle

/-- Change one rail. -/
def onRail (r : Nat) (f : Rail → Rail) (s : State) : State := { s with rails := vmod s.rails r f }

/-- rail.present (R775). -/
def present (s : State) (r : Nat) : Bool := decide (r < 24) && pv s 0x0401 r == 1

/-- The state that RAIL_STATE reports: an absent rail reads OFF (R127, R775). -/
def railSt (s : State) (r : Nat) : RailSt := if present s r then (rail s r).st else .off

/-- The rails, in ascending order. -/
def allRails : List Nat := List.range 24

/-- A percentage of a voltage, rounded to the nearest mV (R195, R221). -/
def percent (p v : Int) : Int := (p * v + 50) / 100

/-- The full scale of an attenuator code in mV: 3 V, 6 V, 12 V, 24 V (Table SEQ.12). -/
def fsOf (atten : Int) : Int := 3000 * 2 ^ atten.toNat

/-- A threshold of a rail whose parameters `g` gives: the parameter, or its derived default where it is 0 (Tables SEQ.12, SEQ.13
and SUP.3). -/
def thresholdOf (g : Nat → Int) (id : Nat) : Int :=
  let n := g 0x0403
  if g id ≠ 0 then g id
  else match id with
    | 0x0407 => percent 92 n
    | 0x0408 => percent 88 n
    | 0x0501 => min (percent 120 n) (fsOf (g 0x0404))
    | 0x0502 => percent 75 n
    | 0x0504 => percent 110 n
    | 0x0505 => percent 90 n
    | 0x0506 => percent 106 n
    | 0x0507 => percent 94 n
    | 0x0603 => percent 105 n
    | 0x0604 => percent 95 n
    | 0x0605 => n
    | _ => 0

/-- The attenuator full scale of a rail in mV. -/
def fullScale (s : State) (r : Nat) : Int := fsOf (pv s 0x0404 r)

/-- A threshold of a rail in force. -/
def threshold (s : State) (id r : Nat) : Int := thresholdOf (fun k => pv s k r) id

/-- A voltage in steps of `full scale / n`, rounded to the nearest (R130, R199). -/
def quantSteps (n fs v : Int) : Int := (2 * v * n + fs) / (2 * fs)

/-- A sense voltage against a threshold of `k` steps of `full scale / n`: the difference, in units of 1 / n mV (R130, R199). -/
def overSteps (n fs k mv : Int) : Int := mv * n - k * fs

/-! ### Judgements on the sense pair (R128, R133) -/

/-- The sense window after a reading: good at or above rail.pg_on_mv, lost at or below rail.pg_off_mv, and as it was between them
(R128); a sense fault freezes it (R213). -/
def windowAfter (s : State) (r : Nat) (mv : Int) : Bool :=
  let x := rail s r
  let fs := fullScale s r
  let rel := fun (id : Nat) => overSteps 1024 fs (quantSteps 1024 fs (threshold s id r)) mv
  if x.frozen then x.win
  else if 0 ≤ rel 0x0407 then true
  else if rel 0x0408 ≤ 0 then false
  else x.win

/-- The PG source of a rail: the ball, the window, or both (R128). -/
def pgSource (s : State) (r : Nat) (ball win : Bool) : Bool :=
  match pn s 0x0406 r with
  | 0 => ball
  | 1 => win
  | _ => ball && win

/-- A reading of the sense pair: a voltage that is not below rail.off_mv ends the judgement that the rail is below it, and one above the last
off judgement takes its place (R133). -/
def seeSense (r : Nat) (mv : Int) (s : State) : State :=
  onRail r (fun x => { x with below := x.below && decide (mv < pv s 0x040B r), offMv := x.offMv.map (max mv) }) s

/-- A reading of both PG sources. -/
def seePg (r : Nat) (ball : Bool) (mv : Int) (s : State) : State :=
  let win := windowAfter s r mv
  onRail r (fun x => { x with ball := ball, win := win }) (seeSense r mv s)

/-- EN is asserted by the state. -/
def RailSt.isOn : RailSt → Bool
  | .on => true
  | .forcedOn => true
  | _ => false

/-- What a change of state does to the slow counts and warning flags: a level that stops being evaluated restarts its
count and drops its flag (R207, R212). `here` is rail.present. -/
def settleCounts (here : Bool) (x : Rail) : Rail :=
  let x1 := if here && x.st.isOn then x else { x with cntUv := 0, cntUvw := 0, inUvw := 0, warnUv := false }
  let x2 := if here && x1.st != .parked then x1 else { x1 with cntOv := 0, cntOvw := 0, inOvw := 0, warnOv := false }
  if x2.en then x2 else { x2 with cntRev := 0 }

/-- Every slow count of a rail restarts (R213, R244). -/
def restartCounts (x : Rail) : Rail := { x with cntOv := 0, cntUv := 0, cntOvw := 0, cntUvw := 0, inOvw := 0, inUvw := 0 }

/-- The rails at rest, whose discharge switch HOLD_OFF holds closed (Table SEQ.2). -/
def RailSt.atRest : RailSt → Bool
  | .off => true
  | .parked => true
  | .joinPending => true
  | .faultOff => true
  | _ => false

/-- A CAL_SYSTEM run on a rail's channel loses its ground where the rail leaves the states that Table CNV.6 asks for (R314). -/
def calWatch (r : Nat) (st : RailSt) (s : State) : State :=
  calLose (fun c => (c.channel == r || c.channel == 0x80 + r) && !(if c.gain then st.isOn else st == .off || st == .parked)) 0 s

/-- Put a rail into a state, with the discharge switch that HOLD_OFF asks for there (Table SEQ.2). -/
def setSt (r : Nat) (st : RailSt) (s : State) : State :=
  let here := present s r
  let hold := here && st.atRest && pv s 0x040C r == 2
  calWatch r st (onRail r (fun x => settleCounts here { x with st := st, ds := x.ds || (hold && !x.en) }) s)

/-- A margin output that drives nothing: high impedance, code 0, no mode held and the loop at its start (R185). STALE ends with the next
usable result only (R190). -/
def MarginOut.released (m : MarginOut) : MarginOut :=
  { Rail.atReset.margin with stale := m.stale, staleTicks := m.staleTicks, fresh := m.fresh, winMode := m.winMode, winPolicy := m.winPolicy }

/-- The margin output goes to OFF at once (R187). -/
def marginRelease (x : Rail) : Rail := { x with margin := x.margin.released }

/-- The target of a margin mode, mV (R185). -/
def marginTarget (s : State) (r mode : Nat) : Int :=
  match mode with
  | 2 => threshold s 0x0605 r
  | 3 => threshold s 0x0603 r
  | 4 => threshold s 0x0604 r
  | _ => 0

/-- The shift of the slow windows, none where they are masked (R193, Table SEQ.11). -/
def windowShift (s : State) (r : Nat) : Option Int :=
  let m := (rail s r).margin
  if m.winMode = 3 ∨ m.winMode = 4 then
    match m.winPolicy with
    | 0 => some (marginTarget s r m.winMode - pv s 0x0403 r)
    | 1 => some 0
    | _ => none
  else some 0

/-- The slow windows follow the rail's margin mode, from the loop tick at which a change of it takes effect or from its release at once
(R187): the counts restart where the limits move, and a masked level drops its warning flag (R193, R207, R244). `old` is the shift before. -/
def windowsFollow (old : Option Int) (r : Nat) (s : State) : State :=
  let policy := pn s 0x0609 r
  let s1 := onRail r (fun x => { x with margin := { x.margin with winMode := x.margin.mode, winPolicy := policy } }) s
  let new := windowShift s1 r
  if new = old then s1
  else onRail r (fun x => let y := restartCounts x; if new.isNone then { y with warnOv := false, warnUv := false } else y) s1

/-- A rail's margin output goes to OFF at once, and the slow windows with it (R187, R193); from another mode that is a mode change, which takes
margin.fault_policy up (R196). -/
def releaseMargin (r : Nat) (s : State) : State :=
  windowsFollow (windowShift s r) r (onRail r marginRelease (if (rail s r).margin.mode = 0 then s else takeOccAt .marginMode r s))

/-- A margin output asked for a mode: from TRIM, HIGH or LOW to OFF the code steps to zero by the loop (R188), and any other change is at
once. A new mode is a new target, which clears settled, the last error and the run count (R192); a change to OFF clears SATURATED too
(DESIGN CHOICE, assumption 67). -/
def MarginOut.toMode (mode : Nat) (m : MarginOut) : MarginOut :=
  if mode = m.mode then { m with held := none }
  else if mode = 0 then
    if 2 ≤ m.mode ∧ m.code ≠ 0 then { m with mode := 0, driving := true, settled := false, saturated := false, satTicks := 0, held := none }
    else m.released
  else { m with mode := mode, driving := true, held := none, settled := false, lastErr := 0, runSame := 0, target := none }

/-- Ask for a margin mode on a rail that may take it (R186, R188). A mode change takes margin.fault_policy up (R196). -/
def setMargin (r mode : Nat) (s : State) : State :=
  onRail r (fun x => { x with margin := x.margin.toMode mode }) (if (rail s r).margin.mode = mode then s else takeOccAt .marginMode r s)

/-- A hot-join of the rail runs (R177). -/
def joins (s : State) (r : Nat) : Bool := s.eng.join.any (fun j => j.rail == r)

/-- The hot-join of the rail is over. -/
def dropJoin (r : Nat) (s : State) : State := { s with eng := { s.eng with join := s.eng.join.filter (fun j => j.rail != r) } }

/-- The rail reaches ON: its checks end, the margin output takes its idle or its held mode (R186), a running join ends
with RAIL_JOINED (R177) and a retry has succeeded (R232). -/
def reachOn (r : Nat) (s : State) : State :=
  let idle := if pv s 0x0601 r = 1 then (rail s r).margin.held.getD (pn s 0x0606 r) else 0
  let s1 := setSt r .on (setMargin r idle s)
  let s2 := onRail r (fun x => { x with tonRun := false, retrying := false }) s1
  if joins s2 r then post 0x0403 0 r 0 (dropJoin r s2) else s2

/-- The OC_AUX counts of the AUX inputs that a rail names restart. -/
def restartOc (r : Nat) (s : State) : State :=
  { s with sup := { s.sup with ocCnt := Vector.ofFn (fun a : Fin 16 => if pn s 0x0510 a.val = r then 0 else s.sup.ocCnt[a]) } }

/-- Assert Pnn_EN in the two TICKs of R134: DS opens first. The TON_MAX check starts (R132). A rail whose PG source
already reads good is ON at once. -/
def assertEn (r : Nat) (st : RailSt) (s : State) : State :=
  if (rail s r).en then s
  else
    let s1 := takeOccAt .enAssert r s
    let s2 := onRail r (fun x => { x with en := true, ds := false, scanOff := false, tonRun := !x.pg, tonRaised := false, toffRun := false,
                                          pgArmed := x.pg }) s1
    let s3 := setSt r st s2
    if (rail s3 r).pg && st == .enabling then reachOn r s3 else s3

/-- The rail has fallen below rail.off_mv: the check ends, ON_DISABLE opens DS, DISABLING becomes OFF (R132, R134). -/
def fellBelow (r : Nat) (s : State) : State :=
  let open_ := pv s 0x040C r == 1
  let s1 := onRail r (fun x => { x with toffRun := false, ds := x.ds && !(open_ && !x.en) }) s
  if (rail s1 r).st = .disabling then setSt r .off s1 else s1

/-- Deassert Pnn_EN and put the rail into a state: DS closes by rail.discharge, the margin output goes OFF, the TOFF_MAX check starts and the
OC_AUX counts that the asserted EN armed restart (R132, R134, R187, R207, R216). A rail that was not enabled only takes the state. -/
def deassertEn (r : Nat) (st : RailSt) (s : State) : State :=
  if (rail s r).en then
    let s1 := releaseMargin r (takeOccAt .enDeassert r s)
    let close := pv s1 0x040C r == 1 || pv s1 0x040C r == 2
    let s2 := onRail r (fun x => { x with en := false, ds := close, tonRun := false, toffRun := true, toffBy := st,
                                          retrying := false }) s1
    let s3 := setSt r st (restartOc r s2)
    if (rail s3 r).below then fellBelow r s3 else s3
  else setSt r st (onRail r (fun x => { x with margin := { x.margin with held := none } }) s)

/-- The DISABLE of a table, of an unwind or of RAIL_FORCE: an enabled rail goes DISABLING (Table SEQ.5). A join that runs on the rail is
left open: it ends when its wait does (DESIGN CHOICE, assumption 72). -/
def disableRail (r : Nat) (s : State) : State := if (rail s r).en then deassertEn r .disabling s else s

/-- Deassert in a list of rails. -/
def disableAll (rs : List Nat) (s : State) : State := rs.foldl (fun t r => disableRail r t) s

/-- A running or pending join of a rail ends; a running one posts RAIL_JOINED with FAILED (R773). -/
def endJoin (r : Nat) (s : State) : State :=
  if joins s r then post 0x0403 1 r 0 (dropJoin r s) else s

/-- The forced state of a rail ends (R94, R181): the rail is ON where its PG source reads good, and ENABLING with its margin output OFF
otherwise (DESIGN CHOICE, assumption 66). -/
def endForce (s : State) (r : Nat) : State :=
  let x := rail s r
  if x.st = .forcedOn then (if x.pg then reachOn r s else setSt r .enabling (releaseMargin r s)) else s

/-- Every forced state ends. -/
def endForced (s : State) : State := allRails.foldl endForce s

/-- Every enabled rail that is not rail.standby_on. -/
def nonStandby (s : State) : List Nat := allRails.filter (fun r => (rail s r).en && pv s 0x040E r != 1)

/-! ### Modes -/

/-- sys.vaux_modes switches VAUX in the mode (R122). -/
def setVaux (s : State) : State :=
  let on := match s.core.mode with
    | .ship => false
    | .standby => bit (pn s 0x0109) 0
    | .run => bit (pn s 0x0109) 1
    | .service => bit (pn s 0x0109) 2
  { s with core := { s.core with vaux := on } }

/-- The argument of MODE_CHANGED (Table CMD.17). -/
def modeArg (prev new cause tenant : Nat) : Nat := prev ||| new <<< 8 ||| cause <<< 16 ||| tenant <<< 24

/-- A completed mode change: MODE_CHANGED, the MODE record and VAUX (R89, R121, R123). -/
def changeMode (new : Mode) (cause tenant table result : Nat) (s : State) : State :=
  let prev := s.core.mode.code
  let s0 := if s.core.mode = .service ∧ new ≠ .service then leaveService s else s
  let s1 := post 0x0101 0 new.code (modeArg prev new.code cause tenant) { s0 with core := { s0.core with mode := new } }
  let s2 := logRecord 0x05 (leBytes 1 prev ++ leBytes 1 new.code ++ leBytes 1 cause ++ zeros 1 ++ leBytes 4 (tick s) ++
    leBytes 1 table ++ leBytes 1 result ++ leBytes 1 tenant ++ zeros 5) s1
  setVaux (takeOcc .modeChange s2)

/-! ### The standby bring-up (R136) -/

/-- The rail.standby_on rails in state OFF. -/
def bringList (s : State) : List Nat := allRails.filter (fun r => present s r && pv s 0x040E r == 1 && railSt s r == .off)

/-- The awaited rail holds the bring-up: it is ENABLING, or forced on with its PG not good yet (R181), and has not raised TON_MAX. -/
def bringHolds (s : State) : Bool :=
  match s.eng.bringWait with
  | some r => ((rail s r).st == .enabling || ((rail s r).st == .forcedOn && !(rail s r).pg)) && !(rail s r).tonRaised
  | none => false

/-- Enable the next rails of the list until one must be awaited. -/
def bringNext : List Nat → State → State
  | [], s => { s with eng := { s.eng with bringWait := none, bringUp := [] } }
  | r :: rs, s =>
    if present s r = true ∧ railSt s r = .off ∧ s.core.shipEntry ≠ .begun then
      let s1 := assertEn r .enabling { s with eng := { s.eng with bringWait := some r, bringUp := rs } }
      if bringHolds s1 then s1 else bringNext rs s1
    else bringNext rs s

/-- The bring-up is over: a service exit lands in STANDBY, with what RAIL_FORCE did during the exit undone (R94, R181). The cause of its MODE
record is the exit's own, also where its TBL1 failed (DESIGN CHOICE, assumption 150). -/
def bringLand (s : State) : State :=
  if s.eng.bringWait.isNone && s.core.serviceExit == .bringUp then
    let s1 := endForced s
    let s2 := disableAll (nonStandby s1) s1
    changeMode .standby s2.core.exitCause s2.core.modeTenant 1 s2.core.exitResult { s2 with core := { s2.core with serviceExit := .none } }
  else s

/-- The bring-up goes on where the rail it waits for allows it. -/
def bringPoll (s : State) : State :=
  if s.eng.bringWait.isSome && !bringHolds s then bringLand (bringNext s.eng.bringUp s) else s

/-- Start the bring-up, or add to the one that still waits for a rail: each rail enabled waits for the one before it (R136). -/
def startBringUp (s : State) : State :=
  if bringHolds s then
    { s with eng := { s.eng with bringUp := allRails.filter (fun r => s.eng.bringUp.contains r || (bringList s).contains r) } }
  else bringLand (bringNext (bringList s) s)

end Sys2Proof.Machine
end

