-- ==== Sys2Proof/Machine/Engine.lean ====
section
/-! DEFINITION. The sequencer engine: the step format and its validation, starting, stopping and ending a table,
timeouts and the unwind, REQ requests, hot-join plans and the service exit (R90 to R94, R138 to R179). -/

namespace Sys2Proof.Machine

/-! ### Steps (Tables SEQ.3 to SEQ.5) -/

/-- OPCODE. -/
def stepOp (b : Bytes) : Nat := byteAt b 0
/-- TARGET. -/
def stepTarget (b : Bytes) : Nat := byteAt b 1
/-- ARG. -/
def stepArg (b : Bytes) : Nat := fieldAt b 2 2
/-- TIME. -/
def stepTime (b : Bytes) : Nat := fieldAt b 4 4

/-- A rail or group target (Table SEQ.4). -/
def railTarget (t : Nat) : Bool := decide (t ≤ 0x17) || (decide (0x20 ≤ t) && decide (t ≤ 0x27))

/-- One step is valid: its opcode, target, argument and time (R141, R144); `i` its index, `e` that of the first END. -/
def stepOk (s : State) (i e : Nat) (b : Bytes) : Bool :=
  let t := stepTarget b
  let a := stepArg b
  let m := stepTime b
  let railOk := fun (_ : Unit) => decide (0x17 < t) || present s t
  match stepOp b with
  | 0 => t == 0 && a == 0 && m == 0
  | 1 => railTarget t && railOk () && a == 0 && m == 0
  | 2 => railTarget t && railOk () && a == 0 && m == 0
  | 3 => railTarget t && railOk () && a == 0
  | 4 => railTarget t && railOk ()
  | 5 => t == 0 && a == 0 && decide (1 ≤ m) && decide (m ≤ 65535000)
  | 6 => decide (t ≤ 7) && decide (a ≤ 1)
  | 7 => decide (t ≤ 7) && decide (a ≤ 1) && m == 0
  | 8 => decide (t ≤ 0x17) && railOk () && decide (a % 8 ≤ 4) && decide (a ≤ 15) && (m != 0 || !bit a 3)
  | 9 => decide (t ≤ 7) && decide (1 ≤ a / 256) && decide (a / 256 ≤ 63) && decide (i + a / 256 < e)
  | 10 => railTarget t && railOk () && decide (a ≤ 1) && m == 0
  | 11 => decide (t ≤ 3) && a == 0 && m == 0
  | 12 => t == 0 && m == 0
  | _ => false

/-- A table is valid: every step to its first END, within 64 steps (R144). The answer is those steps. -/
def validTable (s : State) (steps : List Bytes) : Option (List Bytes) :=
  let st := steps.take 64
  match st.findIdx? (fun b => stepOp b == 0) with
  | none => none
  | some e => if (List.range (e + 1)).all (fun i => stepOk s i e (st.getD i [])) then some (st.take (e + 1)) else none

/-- The steps in a byte string. -/
def toSteps : Nat → Bytes → List Bytes
  | 0, _ => []
  | n + 1, b => if b.isEmpty then [] else b.take 8 :: toSteps n (b.drop 8)

/-- A target covers a rail, directly or through its group (Table SEQ.4). -/
def covers (s : State) (t r : Nat) : Bool :=
  if t ≤ 0x17 then t == r else pn s 0x040D r == t - 0x20

/-- The rails that a step acts on: present and not parked (Table SEQ.4, R140, R171, R775). -/
def members (s : State) (t : Nat) : List Nat :=
  allRails.filter (fun r => covers s t r && present s r && railSt s r != .parked)

/-- The rails that an ENABLE, DISABLE or closing DISCHARGE of a table acts on: TBL0 and TBL1 leave rail.standby_on rails
alone (R137). -/
def switchMembers (s : State) (table t : Nat) : List Nat :=
  (members s t).filter (fun r => !(decide (table ≤ 1) && pv s 0x040E r == 1))

/-! ### Module classes (R166 to R168) -/

/-- A position that has not been read. -/
def noPos : TagPos := TagPos.atReset

/-- The class that IF_MODULE reads at a position (R167, R168). A position that a later sweep with tag.expected_count 0 no longer reaches
keeps its last class (DESIGN CHOICE, assumption 69). -/
def moduleClass (s : State) (p : Nat) : Nat :=
  if pv s 0x0901 ≠ 1 then 0
  else if s.tags.swept then
    let x := vget s.tags.pos p noPos
    if x.missing then 0 else x.cur.cls
  else vget s.tags.recalled p 0

/-- The decision is made from the recalled image (R168). With tag.enable 0 no sweep will come and every class is 0: an IF_MODULE decides at
once, and the decision is not counted (DESIGN CHOICE, assumption 68). -/
def fromRecalled (s : State) : Bool := pv s 0x0901 == 1 && !s.tags.swept

/-! ### Running tables -/

/-- Change the running table. -/
def onRun (f : Run → Run) (s : State) : State := { s with eng := { s.eng with run := s.eng.run.map f } }

/-- The current step of a table. -/
def Run.step (r : Run) : Bytes := r.steps.getD r.idx (zeros 8)

/-- The current step, where the engine is ready to run it and it has this opcode. -/
def readyStep (op : Nat) (s : State) : Option Run :=
  match s.eng.run with
  | some r => if r.phase = .ready ∧ stepOp r.step = op then some r else none
  | none => none

/-- The running table's waiting step, if it waits. -/
def waitingRun (s : State) : Option Run :=
  match s.eng.run with
  | some r => if r.phase = .waiting then some r else none
  | none => none

/-- Go on `k` steps. -/
def advance (k : Nat) (s : State) : State := onRun (fun r => { r with idx := r.idx + k, phase := .ready, cover := [] }) s

/-- Wait in the current step. -/
def waitStep (cover : List Nat) (s : State) : State := onRun (fun r => { r with phase := .waiting, cover := cover }) s

/-- Deassert every output (R157). -/
def outsOff (s : State) : State := { s with eng := { s.eng with outs := s.eng.outs.map (fun _ => false) } }

/-- Drive one output (R156). -/
def setOut (o : Nat) (on : Bool) (s : State) : State := { s with eng := { s.eng with outs := vset s.eng.outs o on } }

/-- Pending joins end and their rails are OFF; running joins end with their rails deasserted (R179, R773). -/
def cancelJoin (s : State) (r : Nat) : State :=
  if (rail s r).st = .joinPending then setSt r .off s
  else if joins s r then endJoin r (deassertEn r .off s)
  else s

/-- Every pending retry is cancelled (R231). -/
def cancelRetries (s : State) : State := { s with rails := s.rails.map (fun x => { x with retryDue := false }) }

/-- Start a table: its active copy is latched (R147). A start of TBL1 clears SUSPENDED and ends joins and retries
(R150, R179, R231). -/
def engineStart (n cause tenant : Nat) (s : State) : State :=
  let run : Run :=
    { table := n, steps := vget s.eng.active n [], idx := 0, phase := .ready, outs := [], enabled := [], timeouts := 0, cover := [],
      unwind := [], cause := cause, tenant := tenant, failCause := 0 }
  let s1 := { s with eng := { s.eng with run := some run, lastStart := tick s } }
  if n = 1 then
    cancelRetries (allRails.foldl cancelJoin { s1 with eng := { s1.eng with suspended := false } })
  else s1

/-- Table SEQ.6: the mode and SUSPENDED state in which a table may start (R148, R149). Nothing starts once SHIP entry
has begun (R126). -/
def startAllowed (s : State) (n : Nat) : Bool :=
  s.core.shipEntry != .begun &&
  match n with
  | 0 => s.core.mode == .standby
  | 1 => s.core.mode == .run
  | 2 => s.core.mode == .run && !s.eng.suspended
  | 3 => s.core.mode == .run && s.eng.suspended
  | _ => s.core.mode == .standby || s.core.mode == .run

/-- How a table ends: at END, failed in one of its own steps, or stopped from outside; TABLE_FAILED carries the cause 0 TIMEOUT,
1 ABORTED, 2 STOPPED, 3 FAULT (R152). -/
inductive RunEnd where
  | done
  | failed (cause : Nat)
  | stopped (cause : Nat)
deriving DecidableEq, Repr

/-- The result byte of Table MOD.6. -/
def RunEnd.result : RunEnd → Nat
  | .done => 0
  | .failed _ => 1
  | .stopped _ => 2

/-- The cause of the mode change that the end of TBL1 brings (Table MOD.7): a failure in one of its steps is a table failure. -/
def RunEnd.modeCause (started : Nat) : RunEnd → Nat
  | .done => started
  | .failed _ => 8
  | .stopped 3 => 3
  | .stopped _ => started

/-- The image entry of a table (Table PAR.5). -/
def tableEntry (n : Nat) (steps : List Bytes) : PWrite :=
  { inst := { id := 0x04F0, i1 := n, i2 := 0 }, value := .blob steps.flatten }

/-- The image write of a persisted table (R165, R660, R661). -/
def persistTable (n : Nat) (p : PendTable) (s : State) : Nat × State := persistWrites 1 [tableEntry n p.steps] p.fails s

/-- A copy becomes the active copy (R163): a device commit (Table PAR.3, R658), with its status. -/
def activate (n : Nat) (p : PendTable) (s : State) : Nat × State :=
  let s1 := { s with eng := { s.eng with active := vset s.eng.active n p.steps, pend := vset s.eng.pend n none },
                     par := { s.par with epoch := s.par.epoch + 1 } }
  if p.persist then persistTable n p s1 else (stOk, s1)

/-- Every pending copy becomes active when the running table ends (R163). -/
def activatePending (s : State) : State :=
  (List.range 8).foldl (fun t n =>
    match vget t.eng.pend n none with
    | some p => (activate n p t).2
    | none => t) s

/-- The mode consequences of a table's end (R89 to R91, R94). -/
def modeAfter (run : Run) (e : RunEnd) (s : State) : State :=
  if run.table = 0 then
    if e = .done ∧ s.core.mode = .standby ∧ s.core.shipEntry ≠ .begun then changeMode .run run.cause run.tenant 0 0 s else s
  else if run.table = 1 then
    let s1 := if e = .done then s else disableAll (nonStandby s) s
    let s2 := { s1 with sup := { s1.sup with executing := 0 } }
    if s2.core.serviceExit = .tbl1 then
      startBringUp (disableAll (nonStandby s2) { s2 with core := { s2.core with serviceExit := .bringUp, exitResult := e.result } })
    else if s2.core.mode = .run ∧ s2.core.shipEntry ≠ .begun then
      startBringUp (changeMode .standby (e.modeCause run.cause) run.tenant 1 e.result s2)
    else s2
  else s

/-- The running table ends (R152): its event, SUSPENDED (R150), the outputs after TBL1 (R157), the mode, and the pending
copies (R163). -/
def endRun (e : RunEnd) (s : State) : State :=
  match s.eng.run with
  | none => s
  | some run =>
    let s1 := { s with eng := { s.eng with run := none } }
    let s2 := match e with
      | .done => post 0x0401 (if run.timeouts = 0 then 0 else 2) run.table run.idx s1
      | .failed c | .stopped c => post 0x0402 0 run.table (run.idx ||| c <<< 8) s1
    let s3 := if run.table = 1 then outsOff s2 else s2
    let s4 := if e = .done ∧ (run.table = 2 ∨ run.table = 3) then
        { s3 with eng := { s3.eng with suspended := run.table == 2 } } else s3
    activatePending (modeAfter run e s4)

/-- Stop the running table, other than TBL1, with a cause, and start TBL1 (R93, R197). TBL1 that runs continues. -/
def startTbl1 (cause tenant stopCause : Nat) (s : State) : State :=
  match s.eng.run with
  | none => engineStart 1 cause tenant s
  | some run => if run.table = 1 then s else engineStart 1 cause tenant (endRun (.stopped stopCause) s)

/-! ### REQ requests (R159 to R162) -/

/-- The outcome of a request is already held (R162). -/
def reqHeld (s : State) (table : Nat) : Bool :=
  match table with
  | 0 => s.core.mode == .run
  | 1 => s.core.mode == .standby
  | 2 => s.core.mode == .run && s.eng.suspended
  | 3 => s.core.mode == .run && !s.eng.suspended
  | _ => false

/-- Act on a request: started where Table SEQ.6 allows it, dropped otherwise (R161). -/
def actReq (table : Nat) (s : State) : State :=
  if !reqHeld s table && startAllowed s table then engineStart table 1 0xFF s else s

/-- Take the pending requests in arrival order until one starts its table (R161). -/
def takeReqList : List ReqPend → State → State
  | [], s => { s with eng := { s.eng with reqPend := [] } }
  | q :: qs, s =>
    let s1 := actReq q.table s
    if s1.eng.run.isSome then { s1 with eng := { s1.eng with reqPend := qs } } else takeReqList qs s1

/-- Take pending requests where no table runs. -/
def takeReqs (s : State) : State := if s.eng.run.isNone then takeReqList s.eng.reqPend s else s

/-- The running table ends and the pending requests are taken. -/
def finishRun (e : RunEnd) (s : State) : State := takeReqs (endRun e s)

/-! ### Timeouts (R153, R154) -/

/-- Deassert the rails of an unwind one after another, until one must be awaited; then TABLE_FAILED (R154). -/
def unwindGo : List Nat → State → State
  | [], s =>
    match s.eng.run with
    | some run => finishRun (.failed run.failCause) s
    | none => s
  | r :: rs, s =>
    if (rail s r).en then
      let s1 := disableRail r (onRun (fun x => { x with unwind := r :: rs }) s)
      if (rail s1 r).toffRun then s1 else unwindGo rs s1
    else unwindGo rs s

/-- The unwind goes on when the rail it awaits is off or past TOFF_MAX (R154). -/
def unwindPoll (s : State) : State :=
  match s.eng.run with
  | some run =>
    if run.phase = .unwinding then
      match run.unwind with
      | r :: rs => if (rail s r).toffRun then s else unwindGo rs s
      | [] => s
    else s
  | none => s

/-- seq.timeout_action of the running table, for a step that timed out with a cause (R153, R197). -/
def timeoutAction (cause : Nat) (s : State) : State :=
  match s.eng.run with
  | none => s
  | some run =>
    match pn s 0x0411 run.table with
    | 1 =>
      let s1 := run.outs.foldl (fun t o => setOut o false t) s
      unwindGo run.enabled.reverse (onRun (fun x => { x with phase := .unwinding, cover := [], failCause := cause, unwind := [] }) s1)
    | 2 =>
      advance 1 (onRun (fun x => { x with timeouts := x.timeouts + 1 })
        { s with eng := { s.eng with contTimeouts := satAdd 0xFFFF s.eng.contTimeouts 1 } })
    | 3 =>
      let s1 := endRun (.failed cause) s
      if s1.eng.run.isNone then engineStart 1 run.cause run.tenant s1 else s1
    | _ => finishRun (.failed cause) s

/-- A RAIL_OFF or GROUP_OFF response that turned off a rail which the waiting step covers (R197). -/
def coverFault (rs : List Nat) (s : State) : State :=
  match waitingRun s with
  | some run => if run.cover.any (fun r => rs.contains r) then timeoutAction 3 s else s
  | none => s

/-! ### IF_MODULE -/

/-- Decide an IF_MODULE step (R166, R168). -/
def decideModule (run : Run) (s : State) : State :=
  let s1 := if fromRecalled s then { s with eng := { s.eng with ifRecalled := satAdd 0xFFFF s.eng.ifRecalled 1 } } else s
  let a := stepArg run.step
  if moduleClass s (stepTarget run.step) = a % 256 then advance 1 s1 else advance (1 + a / 256) s1

/-! ### Hot-join (R175 to R178) -/

/-- The indices that a table would run under the current module classes (R175). -/
def walkTable (s : State) (steps : List Bytes) : Nat → Nat → List Nat
  | 0, _ => []
  | f + 1, i =>
    match steps[i]? with
    | none => []
    | some b =>
      if stepOp b = 0 then []
      else if stepOp b = 9 ∧ moduleClass s (stepTarget b) ≠ stepArg b % 256 then i :: walkTable s steps f (i + 1 + stepArg b / 256)
      else i :: walkTable s steps f (i + 1)

/-- The join steps of a rail: the rails that TBL0 enables before it, and the TIME of its WAIT_PG, 0 where there is none
(R175 to R177). None where no join ENABLE is found. -/
def joinPlan (s : State) (r : Nat) : Option (List Nat × Nat) :=
  let steps := vget s.eng.active 0 []
  let ran := walkTable s steps 65 0
  match steps.findIdx? (fun b => stepOp b == 1 && covers s (stepTarget b) r) with
  | none => none
  | some j =>
    if ran.contains j then
      let prior := allRails.filter (fun p => p != r && pv s 0x040E p != 1 &&
        ran.any (fun i => decide (i < j) && stepOp (steps.getD i []) == 1 && (members s (stepTarget (steps.getD i []))).contains p))
      let wait := ran.find? (fun i => decide (j < i) && stepOp (steps.getD i []) == 3 && covers s (stepTarget (steps.getD i [])) r)
      some (prior, (wait.map (fun i => stepTime (steps.getD i []))).getD 0)
    else none

/-! ### Autostart and service exit -/

/-- A fault whose response was SEQ_OFF or more severe is latched (R104, R231). -/
def severeLatched (s : State) : Bool := s.sup.latches.any (fun l => decide (4 ≤ l.response))

/-- Autostart starts TBL0 where its bit of sys.autostart is set (R103, R104). -/
def autostart (b : Nat) (s : State) : State :=
  if bit (pn s 0x0101) b && s.core.mode == .standby && s.eng.run.isNone && !severeLatched s && s.core.shipEntry != .begun then
    engineStart 0 2 0xFF s
  else s

/-- A service exit starts, for a cause and a tenant (R94): every forced state ends and TBL1 runs. -/
def serviceExitBy (cause tenant : Nat) (s : State) : State :=
  if s.core.mode = .service ∧ s.core.serviceExit = .none ∧ s.core.shipEntry ≠ .begun then
    let s1 := endForced { s with core := { s.core with serviceExit := .tbl1, exitCause := cause, modeTenant := tenant } }
    startTbl1 cause tenant 2 s1
  else s

/-- A service exit that no tenant asked for. -/
def beginServiceExit (cause : Nat) (s : State) : State := serviceExitBy cause 0xFF s

end Sys2Proof.Machine
end

