-- ==== Sys2Proof/Machine/Capture.lean ====
section
/-! DEFINITION. The Caldera trigger: which latch settings qualify, what a capture takes down at the latch, and the missed
count (R246, R251 to R263, R271, R293). -/

namespace Sys2Proof.Machine

/-- A latch setting of one REF cycle: its code, its rail byte, its rail where it is a rail fault, its response (R774), its
value, its source channel, and whether it was injected. -/
structure Setting where
  code : Nat
  src : Nat
  rail : Option Nat
  response : Nat
  value : Option Int
  chan : Nat
  injected : Bool
deriving DecidableEq, Repr

/-- `a` comes before `b` in the first-fault register and in a capture: more severe, then lower code, then lower rail
(R224, R257). -/
def Setting.before (a b : Setting) : Bool :=
  decide (b.response < a.response) ||
    (a.response == b.response && (decide (a.code < b.code) || (a.code == b.code && decide (a.src ≤ b.src))))

/-- The setting that R224 names among those of a cycle. -/
def firstOf : List Setting → Option Setting
  | [] => none
  | a :: as =>
    match firstOf as with
    | none => some a
    | some b => if a.before b then some a else some b

/-- A bank that no longer serves as ring (R272). -/
def noBank : Bank :=
  { st := .fixed, owner := 0xFF, delegates := [], cause := 0, oldOwner := 0xFF, oldDelegates := [], action := 0, retiring := false,
    withheld := false, deny := 0, parity := 0, holder := none, run := 0, ptr := 0, held := [], fuses := [], mapped := [] }

/-- A bank by index. -/
def bank (s : State) (k : Nat) : Bank := vget s.fab.banks k noBank

/-- The ring bank of a rail is withheld (R272, R512). -/
def bankOut (s : State) (r : Nat) : Bool := (bank s (52 + r / 2)).withheld

/-- The rails of the effective mask (R246). -/
def capRails (s : State) : List Nat := allRails.filter (fun r => bit (pn s 0x0804) r && present s r && !bankOut s r)

/-- The effective mask as bits. -/
def effectiveMask (s : State) : Nat := bitsOf (allRails.map (fun r => (capRails s).contains r))

/-- The PIPE correction of a rail's channel (R293, Table CAP.7). -/
def pipeLsb (s : State) (r : Nat) : Nat := (216000 * 2 ^ pn s 0x0404 r * pn s 0x0704 (0x80 + r)) / 0x1000000

/-- zero_q4 of a rail's PIPE channel (R293). -/
def pipeZero (s : State) (r : Nat) : Int := 1820 + pv s 0x0703 (0x80 + r)

/-- A rail's descriptor fields at the latch (Table CAP.6). The result of a rail that has had no usable one is a free value (assumption
36). -/
def capRail (s : State) (r : Nat) : CapRail :=
  { present := present s r, bankOut := bankOut s r, captured := (capRails s).contains r, atten := pn s 0x0404 r,
    st := (railSt s r).code, lsb := pipeLsb s r, zero := pipeZero s r, vnom := pn s 0x0403 r, last := (rail s r).last.getD (Config.freeInt (s.free + r)) }

/-- REF runs on the RC (R28, R33). -/
def refRc (s : State) : Bool := s.clk.crystal != .inUse

/-- REF runs on the RC, or ran on it in one of the last `n` frames: REF_RC covers the frames before the latch too (Table CAP.5). -/
def onRc (s : State) (n : Nat) : Bool := refRc s || decide (s.cap.sinceRc < n)

/-- The running table, or 0xFF. -/
def runningTable (s : State) : Nat :=
  match s.eng.run with
  | some r => r.table
  | none => 0xFF

/-- A capture starts (R258 to R263): POST, with what the header records of the latch. `others` are the further settings
of its cycle. -/
def trigger (code src response flags others : Nat) (s : State) : State :=
  let serial := (s.cap.serial + 1) % 0x10000
  let before := min (pn s 0x0802) s.cap.frames
  let c : Capture :=
    { code := code, src := src, response := response, flags := flags ||| (b2n (onRc s before)) <<< 5, tick := tick s, rtc := s.aon.rtc,
      boot := s.core.bootCount % 0x10000, serial := serial, pre := pn s 0x0802, post := pn s 0x0803, mask := effectiveMask s,
      mode := s.core.mode.code, table := runningTable s, others := others, trigger := none,
      before := before, after := 0,
      clockCut := !s.clk.pllLocked, cut := !s.cap.pipeRuns, markerDone := false, started := none, abandoned := false, rails := allRails.map (capRail s) }
  { s with cap := { s.cap with state := .post, cap := some c, serial := serial }, free := s.free + 24 }

/-- The header flags of a setting (Table CAP.5 byte 11): INJECTED and LOG_ONLY. -/
def capFlags (a : Setting) : Nat := (b2n a.injected) <<< 1 ||| (b2n (a.response == 0)) <<< 2

/-- The settings that qualify (R256). -/
def qualifying (s : State) (as : List Setting) : List Setting :=
  as.filter (fun a => decide (1 ≤ a.response) || pv s 0x0805 == 1)

/-- The missed count is rewritten once NV_READY is set and firmware runs, as a small commit; one that RESV does not allow waits for it
(R255, R533). -/
def flushMissed (s : State) : State :=
  if s.cap.missedDirty && logOpen s && decide (6000 ≤ s.nv.resvMv) then
    let m := s.cap.lastMissed
    let s1 := writeTwo tcMissed (leBytes 2 s.cap.missed ++ leBytes 1 m.1 ++ leBytes 1 m.2.1 ++ leBytes 4 m.2.2) s
    { s1 with cap := { s1.cap with missedDirty := false } }
  else s

/-- The missed count takes further faults (R254). Of several in one REF cycle the last missed fault is the one that R224 names (DESIGN CHOICE,
assumption 155). -/
def countMissed (n : Nat) (a : Setting) (s : State) : State :=
  flushMissed { s with cap := { s.cap with missed := satAdd 0xFFFF s.cap.missed n, lastMissed := (a.code, a.src, tick s), missedDirty := true } }

/-- What the settings of one REF cycle do to Caldera (Table CAP.2). -/
def captureSettings (as : List Setting) (s : State) : State :=
  let s1 := takeOcc .latch s
  match s1.cap.state with
  | .disabled => s1
  | .post =>
    { s1 with cap := { s1.cap with cap := s1.cap.cap.map (fun c => { c with others := satAdd 0xFFFF c.others as.length }) } }
  | .armed =>
    match firstOf (qualifying s1 as) with
    | some a => trigger a.code a.src a.response (capFlags a) (as.length - 1) s1
    | none => s1
  | _ =>
    match firstOf (qualifying s1 as) with
    | some a => countMissed (qualifying s1 as).length a s1
    | none => s1

end Sys2Proof.Machine
end

