-- ==== Sys2Proof/Machine/Faults.lean ====
section
/-! DEFINITION. The fault fabric: arming, latches, the first-fault register, responses with their merging and escalation,
retries, and SHIP entry by a fault (R197, R220 to R241, R118). -/

namespace Sys2Proof.Machine

/-! ### Codes -/

/-- A code of Table SUP.2. -/
def isRailFault (c : Nat) : Bool := railFaultDefaults.any (fun p => p.1 == c)

/-- A code of Table SUP.1. -/
def isGlobalFault (c : Nat) : Bool := globalFaultDefaults.any (fun p => p.1 == c)

/-- A rail byte of a global fault with its code (Table SUP.7, R694). -/
def globalByte (code src : Nat) : Bool := src == 0xFF || ((code == 0x10 || code == 0x11) && (src == 0xF0 || src == 0xF1))

/-- A retry is allowed for the code (Table SUP.2). -/
def retryAllowed (c : Nat) : Bool := [0x01, 0x02, 0x03, 0x04, 0x05, 0x06, 0x0B, 0x0C].contains c

/-- A rail fault is armed in the rail's present state (Table SUP.2, R172). -/
def armed (s : State) (code r : Nat) : Bool :=
  let x := rail s r
  present s r &&
  (match code with
   | 0x01 => true
   | 0x08 => true
   | 0x02 => x.st.isOn
   | 0x04 => x.st.isOn
   | 0x09 => x.st.isOn
   | 0x05 => x.st == .on
   | 0x06 => x.st == .enabling
   | 0x07 => x.st == .disabling || (x.st == .parked && x.toffRun && x.toffBy == .parked)
   | 0x0A => x.en && x.st != .parked
   | 0x0C => x.en && x.st != .parked
   | _ => x.st != .parked)

/-- A detector's output before its response is looked up. -/
structure Raise where
  code : Nat
  src : Nat
  value : Option Int
  chan : Nat
  injected : Bool
deriving DecidableEq, Repr

/-- The setting of a detector's output: a rail fault where its rail byte is a rail, a global fault otherwise; its response
is the one configured for it (R774). -/
def settingOf (s : State) (a : Raise) : Setting :=
  if a.src < 24 then
    { code := a.code, src := a.src, rail := some a.src, response := pn s 0x0509 a.src a.code, value := a.value, chan := a.chan,
      injected := a.injected }
  else
    { code := a.code, src := a.src, rail := none, response := pn s 0x0511 a.code, value := a.value, chan := a.chan,
      injected := a.injected }

/-! ### Latches -/

/-- The latch of a setting: one per rail and code, one per global code (R222). -/
def sameLatch (l : Latch) (code src : Nat) : Bool := l.code == code && (l.src == src || (decide (24 ≤ l.src) && decide (24 ≤ src)))

/-- Set a latch (R222). -/
def setLatch (a : Setting) (t : Nat) : List Latch → List Latch
  | [] => [{ code := a.code, src := a.src, tick := t, value := a.value, count := 1, response := a.response, offRails := [] }]
  | l :: ls =>
    if sameLatch l a.code a.src then
      { l with src := a.src, count := satAdd 0xFFFF l.count 1, response := max l.response a.response } :: ls
    else l :: setLatch a t ls

/-- The response of a setting acted on top of every one under execution (R228, R774). -/
def escalated (s : State) (top : Nat) (a : Setting) : Bool :=
  decide (4 ≤ s.sup.executing) && decide (s.sup.executing < a.response) && a.response == top

/-- The flags of a FAULT record (Table SUP.7 byte 3). -/
def reportFlags (first injected retry esc valid : Bool) : Nat := bitsOf [first, injected, retry, esc, valid]

/-- The pending report of a setting (R241). -/
def reportOf (s : State) (top : Nat) (first : Option Setting) (a : Setting) : Report :=
  let x := match a.rail with
    | some r => rail s r
    | none => railIdle
  { code := a.code, src := a.src, response := a.response,
    flags := reportFlags (s.sup.first.isNone && first == some a) a.injected x.retrying (escalated s top a) a.value.isSome,
    tick := tick s, us := s.clk.us, value := a.value, mode := s.core.mode.code, retryNo := if x.retrying then x.retryUsed else 0, chan := a.chan,
    table := runningTable s }

/-- A setting sets a latch that was not set (R237). -/
def newLatch (s : State) (a : Setting) : Bool := !s.sup.latches.any (fun l => sameLatch l a.code a.src)

/-- Latch the settings of one REF cycle: latches, the first-fault register, reports, IRQ_STATUS.FAULT, the FAULTn pulse of a new latch,
and the trigger lines that latches feed (R222 to R224, R237, R328, Table HST.7). -/
def latchAll (as : List Setting) (top : Nat) (s : State) : State :=
  let f := firstOf as
  let reps := as.map (reportOf s top f)
  let pulse := s.sup.pulse || (as.any (fun a => decide (2 ≤ a.response) && newLatch s a) && pv s 0x0107 == 2)
  let first := match s.sup.first with
    | some x => some x
    | none => f.map (fun a => (a.code, a.src, tick s))
  let s1 := { s with sup := { s.sup with
    latches := as.foldl (fun ls a => setLatch a (tick s) ls) s.sup.latches, first := first,
    reports := s.sup.reports ++ reps, pulse := pulse } }
  setIrqAll irqFault (noteSource 4 0 s1)

/-! ### Responses -/

/-- The rails of a GROUP_OFF response: the unparked rails of the rail's group and of each group linked from it, one level
only; an ungrouped rail alone (Table SUP.4, R226). -/
def groupRails (s : State) (r : Nat) : List Nat :=
  let g := pn s 0x040D r
  if g = 0xFF then [r]
  else
    let links := pn s 0x050C g
    let hit := fun x => let h := pn s 0x040D x; decide (h < 8) && (h == g || bit links h)
    let rs := allRails.filter (fun x => present s x && railSt s x != .parked && hit x)
    if rs.contains r then rs else r :: rs

/-- The rails that a setting's response turns off (Table SUP.4). SEQ_OFF includes the actions of GROUP_OFF (R225) but in SERVICE, where it
acts as RAIL_OFF (R197). -/
def offRailsOf (s : State) (a : Setting) : List Nat :=
  if 5 ≤ a.response then allRails.filter (fun x => present s x && railSt s x != .parked)
  else
    match a.rail with
    | some r =>
      if a.response = 3 ∨ (a.response = 4 ∧ s.core.mode ≠ .service) then groupRails s r else if 2 ≤ a.response then [r] else []
    | none => []

/-- A fault response has deasserted a rail's EN: no boundary cell drives it until EN is asserted again, or
FAULT_CLEAR returns the rail to OFF (R83; DESIGN CHOICE, assumption 149). -/
def noScan (r : Nat) (s : State) : State := onRail r (fun x => { x with scanOff := true }) s

/-- Every present rail's EN is deasserted by a response, PARKED ones included (Table SUP.4, R83). -/
def noScanAll (s : State) : State := (allRails.filter (present s)).foldl (fun t r => noScan r t) s

/-- A response turns a rail off: EN deasserted with discharge, margin OFF, FAULT_OFF, and a running join ends
(Table SUP.4, R773). -/
def faultOff (r : Nat) (s : State) : State :=
  if present s r then endJoin r (deassertEn r .faultOff (noScan r s)) else s

/-- A RAIL_OFF or GROUP_OFF from a fault with retry allowed makes a retry pending on a rail that it turned off, while the rail's count allows
(R230, R233). A further such fault on a rail that is off with a retry pending is one more condition that this retry waits for (R231). -/
def planRetry (a : Setting) (r : Nat) (wasOn : Bool) (s : State) : State :=
  let x := rail s r
  if (a.response == 2 || a.response == 3) && retryAllowed a.code then
    if wasOn && decide (x.retryUsed < pn s 0x050A r) then onRail r (fun y => { y with retryDue := true, retryFor := [(a.code, a.src)] }) s
    else if x.retryDue then onRail r (fun y => { y with retryFor := y.retryFor ++ [(a.code, a.src)] }) s
    else s
  else s

/-- The latch of a setting remembers the rails that its response turned off (R235). -/
def noteOff (a : Setting) (rs : List Nat) (s : State) : State :=
  { s with sup := { s.sup with latches := s.sup.latches.map (fun l =>
      if sameLatch l a.code a.src then { l with offRails := l.offRails ++ rs.filter (fun r => !l.offRails.contains r) } else l) } }

/-- Turn off one rail for a setting. -/
def offOne (a : Setting) (s : State) (r : Nat) : State :=
  let was := (rail s r).en
  planRetry a r was (faultOff r s)

/-- The rail actions of one setting (Table SUP.4); outputs too for ALL_OFF_NOW and SHIP (R157). -/
def railActions (s : State) (a : Setting) : State :=
  let rs := offRailsOf s a
  let s1 := rs.foldl (offOne a) (noteOff a rs s)
  if 5 ≤ a.response then outsOff (noScanAll s1) else s1

/-- SHIP entry latches the wake threshold of the inputs in AON (Table MOD.8). -/
def latchWakeVin (s : State) : State :=
  let t := takeOcc .shipEntry s
  { t with aon := { t.aon with wakeVinMv := pn t 0x0104 } }

/-- SHIP entry by a fault response (R118): MODE_CHANGED with target 0, outputs deasserted, sequences stopped (R325); the service exit is not
run. -/
def faultShip (s : State) : State :=
  let prev := s.core.mode.code
  let s1 := post 0x0101 0 0 (modeArg prev 0 3 0xFF) s
  let s2 := latchWakeVin s1
  shipStop (outsOff { s2 with core := { s2.core with shipEntry := .begun, shipCause := 2, serviceExit := .none } })

/-- The table and mode actions of the most severe response of a cycle (Table SUP.4, R197). -/
def tableAction (level : Nat) (s : State) : State :=
  if level = 6 then
    let s1 := faultShip (cancelRetries s)
    endRun (.stopped 3) { s1 with sup := { s1.sup with executing := 6 } }
  else if level = 5 then
    let was1 := runningTable s = 1
    let s0 := cancelRetries s
    let s1 := { s0 with sup := { s0.sup with executing := 5 } }
    let s2 := endRun (.stopped 3) s1
    if s2.core.mode = .run ∧ ¬ was1 then engineStart 1 3 0xFF s2
    else
      let s3 := takeReqs s2
      { s3 with sup := { s3.sup with executing := if runningTable s2 = 1 then 5 else 0 } }
  else if level = 4 then
    if s.core.mode = .run ∨ (s.core.mode = .standby ∧ runningTable s = 0) then
      startTbl1 3 0xFF 3 { s with sup := { s.sup with executing := 4 } }
    else if s.core.mode = .standby ∧ runningTable s ≠ 1 then finishRun (.stopped 3) s
    else s
  else s

/-- The rails that RAIL_OFF and GROUP_OFF settings turned off end the wait of a step that covers them (R197); what SEQ_OFF does to the
running table stands in its own row. -/
def waitsEnd (as : List Setting) (s0 s : State) : State :=
  coverFault (((as.filter (fun a => a.response == 2 || a.response == 3)).flatMap (offRailsOf s0)).filter (fun r => (rail s0 r).en)) s

/-- What a setting does beside its response: a sense fault freezes the rail's windows, limits, warnings and sense-window PG until
FAULT_CLEAR (R213), and a fast fault issues a fault-verify conversion (R201). -/
def sideOf (s : State) (a : Setting) : State :=
  match a.rail, a.code with
  | some r, 0x09 | some r, 0x0A => onRail r (fun x => { restartCounts x with frozen := true, warnOv := false, warnUv := false, cntRev := 0 }) s
  | some r, 0x01 | some r, 0x02 => requestVerify a.code r s
  | _, _ => s

/-- The most severe response of some settings. -/
def topOf (as : List Setting) : Nat := as.foldl (fun m a => max m a.response) 0

/-- The settings of one REF cycle are latched (R222 to R224): Caldera judges them, and each has what it does beside its response. -/
def latchNow (as : List Setting) (s : State) : State :=
  if as.isEmpty then s else as.foldl sideOf (latchAll as (topOf as) (captureSettings as s))

/-- The responses of latched settings (R225 to R229): the rail actions are merged in the cycle, and the most severe response decides the
table and mode actions. A fixed action comes between the latch and this (R218). A response no more severe than the one under execution takes
no table or mode action: a second ALL_OFF_NOW leaves the TBL1 of the first running (DESIGN CHOICE, assumption 152). -/
def respondTo (as : List Setting) (s1 : State) : State :=
  if as.isEmpty then s1
  else
    let top := topOf as
    let s2 := as.foldl railActions s1
    let s3 := if s1.sup.executing < top ∧ 4 ≤ top then tableAction top s2 else s2
    bringPoll (unwindPoll (waitsEnd as s1 s3))

/-- The settings of one REF cycle are latched and answered (R222 to R229). -/
def answer (as : List Setting) (s : State) : State := respondTo as (latchNow as s)

/-- The setting of a global fault. -/
def globalOf (s : State) (code src : Nat) (value : Option Int) (chan : Nat) : List Setting :=
  [settingOf s { code := code, src := src, value := value, chan := chan, injected := false }]

/-- Detectors whose outputs come in one REF cycle: those that are armed latch. -/
def raiseFaults (rs : List Raise) (s : State) : State :=
  answer ((rs.filter (fun a => decide (24 ≤ a.src) || armed s a.code a.src)).map (settingOf s)) s

/-- The faults of one REF cycle with their fixed actions: those whose detectors are armed latch, then come the fixed actions, what `act` does
beside them, and the responses (R218, R222 to R229). The engine's own checks need no arming (R132). -/
def raiseFixed (fixed : Setting → State → State) (act : State → State) (rs : List Raise) (s : State) : State :=
  let as := (rs.filter (fun a => decide (24 ≤ a.src) || a.code == 0x06 || a.code == 0x07 || armed s a.code a.src)).map (settingOf s)
  respondTo as (act (as.foldl (fun t a => fixed a t) (latchNow as s)))

/-- One rail fault. -/
def raiseRail (code r : Nat) (value : Option Int) (chan : Nat) (s : State) : State :=
  raiseFaults [{ code := code, src := r, value := value, chan := chan, injected := false }] s

/-- A rail fault of the engine's own checks, which need no arming (R132, R170, R178). -/
def raiseCheck (code r : Nat) (s : State) : State :=
  answer [settingOf s { code := code, src := r, value := none, chan := 0xFF, injected := false }] s

/-- A global fault (Table SUP.1). -/
def raiseGlobalChan (code src : Nat) (value : Option Int) (chan : Nat) (s : State) : State :=
  raiseFaults [{ code := code, src := src, value := value, chan := chan, injected := false }] s

/-- A global fault without a source channel. -/
def raiseGlobal (code src : Nat) (value : Option Int) (s : State) : State := raiseGlobalChan code src value 0xFF s

end Sys2Proof.Machine
end

