-- ==== Sys2Proof/Machine/Nv.lean ====
section
/-! DEFINITION. The NV engine and its commands: rights, gathers, the commit journal, block protect, the
EEPROM-compatible window, the reservoir and the configuration images (R516 to R549, R709, R710). -/

namespace Sys2Proof.Machine

/-! ### Journal (R532 to R536, R777) -/

/-- The F-array address of a journal slot (Table NVS.2). -/
def slotAddr (k : Nat) : Nat := 0x23000 + k * 288

/-- The bytes 4 to 271 of a slot (Table NVS.3). -/
def slotBody (owner dest : Nat) (data : Bytes) : Bytes :=
  leBytes 4 dest ++ leBytes 2 data.length ++ leBytes 1 owner ++ zeros 5 ++ padTo 256 data

/-- Steps 1 to 3 of a commit: the slot is written and becomes durable (R532). -/
def slotWrite (k owner dest : Nat) (data : Bytes) (s : State) : State :=
  let b := slotBody owner dest data
  faWrite (slotAddr k) (leBytes 4 0xA55A)
    (faWrite (slotAddr k + 4) (b ++ leBytes 4 (crc32 b) ++ zeros 12) (faWrite (slotAddr k) (zeros 4) s))

/-- Program a sector of the S-array afresh with some bytes replaced (Table NVS.7: the commit erases and programs whole
sectors). -/
def rewriteSector (sector : Nat) (a : Nat) (data : Bytes) (s : State) : State :=
  let base := saBase + sector * 0x1000
  let old := readBytes s base 0x1000
  let merged := (List.range 0x1000).map (fun j =>
    if a ≤ base + j ∧ base + j < a + data.length then data.getD (base + j - a) 0 else old.getD j 0)
  programBytes base merged (clearBytes base 0x1000 s)

/-- A slot whose sectors are written anew holds no shipped image any more (assumption 14). -/
def slotWritten (dest : Nat) (s : State) : State :=
  let k := dest % 0x100000 / 0x40000
  { s with nv := { s.nv with blank := k :: s.nv.blank.erase k } }

/-- Step 4 of a commit: the data reach their destination (R532). -/
def commitCopy (dest : Nat) (data : Bytes) (s : State) : State :=
  if dest < 0x40000 then faWrite dest data s
  else
    let first := dest % 0x100000 / 0x1000
    let last := (dest + data.length - 1) % 0x100000 / 0x1000
    let s1 := rewriteSector first dest data (slotWritten dest s)
    if last = first then s1 else rewriteSector last dest data s1

/-- Step 5: the slot is freed (R532). -/
def slotFree (k : Nat) (s : State) : State := faWrite (slotAddr k) (zeros 4) s

/-- A slot is durable with a good CRC; a word that cannot be read leaves no good CRC (R522, R534). -/
def slotDurable (s : State) (k : Nat) : Bool :=
  (readNat s (slotAddr k) 4 == 0xA55A) && !rangeBad s (slotAddr k) 276 && (readNat s (slotAddr k + 272) 4 == crc32 (readBytes s (slotAddr k + 4) 268))

/-- Replay of one slot: steps 4 and 5; a durable word with a bad CRC is freed without replay (R534). -/
def replaySlot (s : State) (k : Nat) : State :=
  if slotDurable s k then
    let a := slotAddr k
    let s1 := slotFree k (commitCopy (readNat s (a + 4) 4) (readBytes s (a + 16) (readNat s (a + 8) 2)) s)
    { s1 with nv := { s1.nv with replays := s1.nv.replays + 1, journalReplayed := true } }
  else if readNat s (slotAddr k) 4 = 0xA55A then slotFree k s
  else s

/-- Replay of the whole journal (R534). -/
def journalReplay (s : State) : State := (List.range 9).foldl replaySlot s

/-- The F-array as a read after the acceptance of the commits sees it (R536). -/
def viewByte (s : State) (a : Nat) : Byte :=
  s.nv.commits.foldl
    (fun b c => if c.dest ≤ a ∧ a < c.dest + c.data.length then c.data.getD (a - c.dest) 0 else b) ((memRead s.mem a).getD 0)

/-- Bytes of a range as R536 says they read. -/
def viewBytes (s : State) (a : Nat) : Nat → Bytes
  | 0 => []
  | n + 1 => viewByte s a :: viewBytes s (a + 1) n

/-- The tenant slots in use. -/
def slotsInUse (s : State) : List Nat := s.nv.commits.filterMap (fun c => c.slot)

/-- A free tenant slot (Table NVS.3: slots 0 to 7). -/
def freeSlot (s : State) : Option Nat := (List.range 8).find? (fun k => !(slotsInUse s).contains k)

/-- Take a slot for a commit, behind a marker that is due (R262). -/
def startCommit (k : Nat) (c : NvCommit) (s : State) : State :=
  let s1 := slotWrite k c.owner c.dest c.data (markerTry s)
  { s1 with nv := { s1.nv with commits := s1.nv.commits ++ [{ c with slot := some k }] } }

/-! ### Block protect (R537) -/

/-- The first protected address of a setting (Table NVS.4). -/
def protectFrom (bp : Nat) : Nat := if bp = 1 then 0x3A000 else if bp = 2 then 0x34000 else if bp = 3 then 0x28000 else 0x40000

/-- A range holds a protected byte (R537). -/
def protects (s : State) (a n : Nat) : Bool := decide (protectFrom (pn s 0x0D01) < a + n) && decide (a < 0x40000) && decide (0 < n)

/-- The check that block protect and RESV put before the start of a commit: the status that refuses it, none where it may start (R531, R533,
R537). -/
def commitRefused (s : State) (a n : Nat) : Option Nat :=
  if protects s a n then some stNvProtected else if !supplyOk s n then some stNvSupplyLow else none

/-! ### Rights and NV_READ (R524, R526) -/

/-- The right to read one address (Tables NVS.1, NVS.19). -/
def mayRead (s : State) (n a : Nat) : Bool :=
  if a < 0x10000 then hasCap s n capCapture
  else if a < 0x28000 then hasCap s n capNvConfig
  else if a < 0x40000 then hasCap s n capNvUser
  else if saBase ≤ a ∧ a < saBase + 0x80000 then hasCap s n capFwUpdate
  else if saBase + 0x80000 ≤ a ∧ a < 0x200000 then (n == 0 || n == 63) && hasCap s n capNvConfig
  else false

/-- Both ends of a range and the borders between them may be read. -/
def mayReadRange (s : State) (n a k : Nat) : Bool := (List.range k).all (fun j => mayRead s n (a + j))

/-- A range touches a plane. -/
def touchesPlane (p a k : Nat) : Bool := decide (saBase + p * 0x40000 < a + k) && decide (a < saBase + (p + 1) * 0x40000)

/-- The slot that firmware updates go to: not the running one, or not ACTIVE on the recovery path (R552, R634). -/
def inactiveSlot (s : State) : Nat := if s.core.run = .halted then 1 - (bootCtl s).active else 1 - s.core.slot

/-- A range touches the plane under erase or program (R526, R551). -/
def planeBusy (s : State) (a k : Nat) : Bool :=
  (match s.nv.erasing with
   | some sec => touchesPlane (2 + sec / 64) a k
   | none => false) || (slotErasing s && touchesPlane (inactiveSlot s) a k)

/-- Key slots read as zero (R520). -/
def maskKey (a : Nat) (b : Byte) : Byte := if 0x22000 ≤ a ∧ a < 0x22800 then 0 else b

/-- The bytes that NV_READ returns. -/
def nvReadBytes (s : State) (a n : Nat) : Bytes := (List.range n).map (fun j => maskKey (a + j) (viewByte s (a + j)))

/-- An uncorrectable word latches NV_ECC_UNCORR with its page (R522). -/
def uncorrectable (s : State) (w : Nat) : State :=
  let s1 := { s with nv := { s.nv with uncorrectable := s.nv.uncorrectable + 1,
                                       badWords := if s.nv.badWords.contains w then s.nv.badWords else s.nv.badWords ++ [w] } }
  raiseGlobal 0x24 0xFF (some (w / 8 : Nat)) s1

/-- What the engine finds in the F-array words that are read: a word index in `env` is an uncorrectable word, and -1 - w a single-bit error
in word w, which is corrected and counted (R521, R522; assumption 3). -/
def eccFound (env : List Int) (read : Nat → Bool) (s : State) : List Nat × State :=
  let here := fun (w : Nat) => read w && decide (w < 0x8000)
  let bad := ((env.filter (fun x => decide (0 ≤ x))).map Int.toNat).foldl (fun l w => if l.contains w then l else l ++ [w]) s.nv.badWords
  let fixed := ((env.filter (fun x => decide (x < 0))).map (fun x => (-1 - x).toNat)).filter (fun w => here w && !bad.contains w)
  (bad.filter here, { s with nv := { s.nv with corrections := s.nv.corrections + fixed.length } })

/-- A request's read fails at its first uncorrectable word (R522). -/
def eccWords (env : List Int) (read : Nat → Bool) (s : State) : Bool × State :=
  match eccFound env read s with
  | ([], s1) => (false, s1)
  | (w :: ws, s1) => (true, uncorrectable s1 (ws.foldl min w))

/-- The same for the words of a range. -/
def eccRead (env : List Int) (a n : Nat) (s : State) : Bool × State :=
  eccWords env (fun w => decide (a < w * 8 + 8) && decide (w * 8 < a + n)) s

/-- NV_READ (R524, R526, R522, Table CMD.14), behind a marker that is due (R262, R536). -/
def nvReadBody (r : Req) (pl : Bytes) (s0 : State) : Reply :=
  let s := markerTry s0
  let a := fieldAt pl 0 4
  let n := byteAt pl 4
  if !mayReadRange s r.tenant a n then refuse stDenied s
  else if planeBusy s a n then refuse stNvPlaneBusy s
  else
    match eccRead r.env a n s with
    | (true, s1) => .done stHardware [] s1
    | (false, s1) => .done stOk (leBytes 4 a ++ leBytes 1 n ++ zeros 1 ++ nvReadBytes s1 a n) s1

def cmdNvRead : CmdDef :=
  { code := 0x0D01, caps := [], allow := allowAll, len := lenIs 5, range := fun b => decide (1 ≤ byteAt b 4) && decide (byteAt b 4 ≤ 240),
    nv := true, modes := anyMode, body := nvReadBody }

/-! ### Gathers (R527 to R530, R710) -/

/-- A tenant's open gather. -/
def gatherOf (s : State) (n : Nat) : Option Gather := s.nv.gathers.find? (fun g => g.tenant == n)

/-- The plane of an S-array address. -/
def planeOf (a : Nat) : Nat := a % 0x100000 / 0x40000

/-- Put bytes into a gather; later bytes replace earlier ones (R527). -/
def gatherPut (g : Gather) (a : Nat) : Bytes → Gather
  | [] => g
  | b :: bs => gatherPut { g with bytes := (a, b) :: g.bytes.filter (fun c => c.1 != a) } (a + 1) bs

/-- Lowest and highest gathered address and the span (R531). -/
def gatherSpan (g : Gather) : Nat × Nat :=
  match g.bytes with
  | [] => (g.base, 0)
  | c :: cs =>
    let lo := cs.foldl (fun m x => min m x.1) c.1
    let hi := cs.foldl (fun m x => max m x.1) c.1
    (lo, hi + 1 - lo)

/-- Replace or add a tenant's gather. -/
def setGather (g : Gather) (s : State) : State :=
  { s with nv := { s.nv with gathers := g :: s.nv.gathers.filter (fun x => x.tenant != g.tenant) } }

/-- Drop a tenant's gather (R530). -/
def dropGather (n : Nat) (s : State) : State := { s with nv := { s.nv with gathers := s.nv.gathers.filter (fun x => x.tenant != n) } }

/-- A range that a tenant may not write (R710 check 1). -/
def gatherDenied (n a k : Nat) : Bool :=
  if a + k ≤ 0x40000 then decide (a < 0x28000)
  else if saBase ≤ a ∧ a + k ≤ saBase + 0x80000 then n != 63
  else true

/-- NV_GATHER (R710, Table CMD.14). -/
def nvGatherBody (r : Req) (pl : Bytes) (s : State) : Reply :=
  let a := fieldAt pl 0 4
  let n := byteAt pl 4
  let image := decide (saBase ≤ a)
  if gatherDenied r.tenant a n then refuse stDenied s
  else if image && (planeOf a == s.core.slot || planeOf (a + n - 1) == s.core.slot) then refuse stNvPlaneBusy s
  else if image && s.core.mode != .service then refuse stModeForbids s
  else
    let g := gatherOf s r.tenant
    if g.isNone && decide (8 ≤ s.nv.gathers.length) then refuse stNvFull s
    else
      let g0 : Gather := g.getD { tenant := r.tenant, base := a, bytes := [] }
      if a < g0.base ∨ g0.base + 256 < a + n then refuse stRange s
      else if protects s a n then refuse stNvProtected s
      else
        let g1 := gatherPut g0 a (bytesAt pl 6 n)
        .done stOk (leBytes 4 g1.base ++ leBytes 2 (gatherSpan g1).2) (setGather g1 s)

def cmdNvGather : CmdDef :=
  { code := 0x0D02, caps := [capNvUser], allow := allowAll, len := fun b => b.length == 6 + byteAt b 4,
    range := fun b => decide (1 ≤ byteAt b 4) && decide (byteAt b 4 ≤ 240) && (byteAt b 5 == 0),
    nv := true, modes := anyMode, body := nvGatherBody }

/-! ### Commits (R531 to R536) -/

/-- The data of a gather's span: bytes never gathered keep their present contents (R531). -/
def gatherData (s : State) (g : Gather) : Bytes :=
  let (lo, n) := gatherSpan g
  (List.range n).map (fun j =>
    match g.bytes.find? (fun c => c.1 == lo + j) with
    | some c => c.2
    | none => viewByte s (lo + j))

/-- The engine reads the words of a gather's span that hold a byte never gathered (R521, R522, R531). -/
def fillRead (env : List Int) (g : Gather) (s : State) : Bool × State :=
  let (lo, n) := gatherSpan g
  eccWords env (fun w => (List.range n).any (fun j => (lo + j) / 8 == w && !g.bytes.any (fun c => c.1 == lo + j))) s

/-- NV_COMMIT (R531 to R535, R552, R710): a gather for the inactive slot commits in SERVICE only. -/
def nvCommitBody (r : Req) (_pl : Bytes) (s : State) : Reply :=
  match gatherOf s r.tenant with
  | none => refuse stRange s
  | some g =>
    let (lo, n) := gatherSpan g
    if decide (saBase ≤ lo) && s.core.mode != .service then refuse stModeForbids s
    else
      match commitRefused s lo n with
      | some st => refuse st s
      | none =>
        match fillRead r.env g s with
        | (true, s1) => .done stHardware [] s1
        | (false, s1) =>
          let c : NvCommit := { slot := none, owner := r.tenant, dest := lo, data := gatherData s1 g, gather := some g }
          let s2 := dropGather r.tenant s1
          match freeSlot s2 with
          | some k => .done stOk [] (startCommit k c s2)
          | none => deferOp .nvCommit 0x0D03 r { s2 with nv := { s2.nv with commits := s2.nv.commits ++ [c] } }

def cmdNvCommit : CmdDef :=
  { code := 0x0D03, caps := [capNvUser], allow := allowAll, len := lenIs 0, range := anyRange, nv := true, modes := anyMode,
    body := nvCommitBody }

/-- A commit that may not start changes nothing: its request is answered, and its gather is open again, unless its tenant has opened another
one while it waited (R531, R533; DESIGN CHOICE, assumption 157). -/
def turnAway (c : NvCommit) (st : Nat) (s : State) : State :=
  let s1 := { s with nv := { s.nv with commits := s.nv.commits.erase c } }
  let s2 := match c.gather, gatherOf s1 c.owner with
    | some g, none => setGather g s1
    | _, _ => s1
  completeOp .nvCommit st [] s2

/-- The commits that wait for a slot, in the order of acceptance: the first that may start takes the slot freed, in its place, and its request
is answered (R777, R535); block protect and RESV are judged as it starts (R531, R533). -/
def admitFrom (k : Nat) : List NvCommit → State → State
  | [], s => s
  | c :: cs, s =>
    match commitRefused s c.dest c.data.length with
    | some st => admitFrom k cs (turnAway c st s)
    | none =>
      let s1 := slotWrite k c.owner c.dest c.data (markerTry s)
      completeOp .nvCommit stOk [] { s1 with nv := { s1.nv with commits := s1.nv.commits.replace c { c with slot := some k } } }

/-- A slot is free for a commit that waits; on hold-up none starts but those of Table LED.4 (R738). -/
def admitWaiting (k : Nat) (s : State) : State :=
  if s.core.holdup then s else admitFrom k (s.nv.commits.filter (fun c => c.slot.isNone)) s

/-- The commits that wait are admitted to the slots that are free. -/
def admitSlots (s : State) : State :=
  (List.range 8).foldl (fun t k => if t.nv.commits.any (fun c => c.slot == some k) then t else admitWaiting k t) s

/-- Steps 4 and 5 of the commit that was accepted first (R532, R536): a tenant's posts NV_COMMITTED (R535), and after the window's the
window answers again (R542). -/
def commitRun (s : State) : State :=
  match s.nv.commits with
  | [] => s
  | c :: cs =>
    match c.slot with
    | none => s
    | some k =>
      let s1 := slotFree k (commitCopy c.dest c.data { s with nv := { s.nv with commits := cs } })
      if k = 8 then { s1 with nv := { s1.nv with eeBusy := false } } else admitWaiting k (postOwn c.owner 0x0D01 0 k c.dest s1)

/-- The commit that was accepted first writes whole sectors, and an erase is under way (R551). -/
def commitHeld (s : State) : Bool :=
  match s.nv.commits with
  | [] => false
  | c :: _ => decide (0x40000 ≤ c.dest) && saBusy s

/-- The commit that was accepted first is done, once no erase is in its way (R551). -/
def commitDone (s : State) : State := if commitHeld s then s else commitRun s

/-- The commits up to the first of a kind are done, in the order of their acceptance (R536). -/
def commitsUpTo (p : NvCommit → Bool) (s : State) : State :=
  if s.nv.commits.any p then (List.range (s.nv.commits.findIdx p + 1)).foldl (fun t _ => commitDone t) s else s

/-- NV_COMMIT_COMPLETE: steps 4 and 5 of the oldest durable tenant commit, behind a marker that is due (R262, R532). -/
def nvCommitComplete (s : State) : State := commitsUpTo (fun c => c.slot.isSome && c.slot != some 8) (markerTry s)

/-- NV_DISCARD (R530). -/
def nvDiscardBody (r : Req) (_pl : Bytes) (s : State) : Reply := .done stOk [] (dropGather r.tenant s)

def cmdNvDiscard : CmdDef :=
  { code := 0x0D04, caps := [capNvUser], allow := allowAll, len := lenIs 0, range := anyRange, nv := true, modes := anyMode,
    body := nvDiscardBody }

/-- The payload of NV_STATUS (Table CMD.14). -/
def nvStatusPayload (n : Nat) (s : State) : Bytes :=
  let g := gatherOf s n
  leBytes 1 (bitsOf [s.core.nvReady, s.log.retainOverflow, g.isSome]) ++ leBytes 1 (freeSectors s).length ++
    leBytes 1 s.nv.gathers.length ++ leBytes 1 (pn s 0x0D01 % 4 ||| (pn s 0x0D02 % 2) <<< 7) ++ leInt 2 s.nv.resvMv ++ zeros 2 ++
    leBytes 4 s.nv.corrections ++ leBytes 4 s.nv.uncorrectable ++ leBytes 4 s.nv.eeDiscards ++ leBytes 4 s.log.torn ++
    leBytes 4 s.nv.replays ++ leBytes 8 s.log.appended ++ leBytes 8 s.log.live ++ leBytes 8 s.log.superseded ++
    leBytes 8 s.log.reclaimed ++ leBytes 4 ((g.map (fun x => x.base)).getD 0) ++ leBytes 2 ((g.map (fun x => (gatherSpan x).2)).getD 0)

/-- NV_STATUS. -/
def nvStatusBody (r : Req) (_pl : Bytes) (s : State) : Reply := .done stOk (nvStatusPayload r.tenant s) s

def cmdNvStatus : CmdDef :=
  { code := 0x0D00, caps := [capStatus], allow := allowAll, len := lenIs 0, range := anyRange, nv := false, modes := anyMode,
    body := nvStatusBody }

/-! ### The EEPROM-compatible window (R539 to R544) -/

/-- The window answers its addresses (R539, R542, R544). -/
def eeAnswers (s : State) : Bool := s.core.nvReady && bit (pn s 0x0D03) 0 && !s.nv.eeBusy

/-- The NV address of a word address of a block (R539). -/
def eeMap (block w : Nat) : Nat := if block = 0 then 0x28000 + w % 0x10000 else 0x38000 + w % 0x8000

/-- The page with data bytes wrapped into it (R541). -/
def eeFill (page : Bytes) (pos : Nat) : Bytes → Bytes
  | [] => page
  | b :: bs => eeFill (page.set (pos % 64) b) (pos + 1) bs

/-- The engine reads the words of a page that the data do not replace whole; a word that cannot be read makes the write fail (R521, R522). -/
def eeFillRead (ecc : List Int) (base pos : Nat) (data : Bytes) (s : State) : Bool × State :=
  let new := fun (j : Nat) => decide (64 ≤ data.length) || (List.range data.length).any (fun i => (pos + i) % 64 == j)
  eccWords ecc (fun w => decide (base ≤ w * 8) && decide (w * 8 < base + 64) && (List.range 8).any (fun j => !new ((w * 8 + j) % 64))) s

/-- A page write of the window is discarded and counted (R543). -/
def eeDiscard (s : State) : State := { s with nv := { s.nv with eeDiscards := s.nv.eeDiscards + 1 } }

/-- A write to the window up to its STOP (R541 to R543). One whose page holds a word that cannot be read is discarded as the others are
(DESIGN CHOICE, assumption 158). -/
def eepromWrite (block w : Nat) (data : Bytes) (ecc : List Int) (s : State) : State :=
  if !eeAnswers s || decide (1 < block) then s
  else if data.isEmpty then { s with nv := { s.nv with eePointer := w, eeBlock := block } }
  else
    let a := eeMap block w
    let base := a / 64 * 64
    if !bit (pn s 0x0D03) 1 || protects s base 64 || !supplyOk s 64 then eeDiscard s
    else
      match eeFillRead ecc base (a % 64) data s with
      | (true, s1) => eeDiscard s1
      | (false, s1) =>
        let page := eeFill (viewBytes s1 base 64) (a % 64) data
        let s2 := startCommit 8 { slot := none, owner := 0xFE, dest := base, data := page, gather := none } s1
        { s2 with nv := { s2.nv with eeBusy := true } }

/-- The window's page commit completes, after what was accepted before it and behind a marker that is due (R262, R536, R542). -/
def eepromCommitDone (s : State) : State := commitsUpTo (fun c => c.slot == some 8) (markerTry s)

/-- Sequential reads of a block, rolling over at its end (R540). -/
def eeReadBytes (s : State) (block w : Nat) : Nat → Bytes
  | 0 => []
  | n + 1 => viewByte s (eeMap block w) :: eeReadBytes s block (w + 1) n

/-- A read of the window, from a word address or from the pointer (R540). A read that meets a word it cannot read fails: it gives no bytes and
leaves the pointer (R522; DESIGN CHOICE, assumption 158). -/
def eepromRead (block : Nat) (w : Option Nat) (n : Nat) (ecc : List Int) (s : State) : State :=
  if !eeAnswers s || decide (1 < block) then s
  else
    let from_ := match w with
      | some a => a
      | none => s.nv.eePointer
    let size := if block = 0 then 0x10000 else 0x8000
    match eccWords ecc (fun x => (List.range n).any (fun j => eeMap block (from_ + j) / 8 == x)) (markerTry s) with
    | (true, s1) => { s1 with nv := { s1.nv with eeOut := [] } }
    | (false, s1) => { s1 with nv := { s1.nv with eeOut := eeReadBytes s1 block from_ n, eePointer := (from_ + n) % size, eeBlock := block } }

/-! ### The reservoir (R545, R546) -/

/-- The boot discharge test (R546): the boost stops, RESV is read before and after, and the boost runs again. -/
def resvDischargeTest (before after : Nat) (s : State) : State :=
  if s.nv.resvTested || !s.nv.boost || !decide (pv s 0x0D05 ≤ before) then s
  else
    let s1 := { s with nv := { s.nv with resvTested := true, resvMv := after } }
    if before ≤ after + 455 then s1
    else raiseGlobal 0x23 0xFF (some (after : Int)) { s1 with nv := { s1.nv with resvTestFailed := true } }

/-- NV_PROTECT (R538): a device commit of nv.user_bp and, where asked, of the lock, always persisted (Table PAR.3). `env` tells of an image
write that failed (R661; assumption 3). -/
def nvProtectBody (r : Req) (pl : Bytes) (s : State) : Reply :=
  let bp := byteAt pl 0
  let lock := byteAt pl 1
  if pn s 0x0D02 = 1 ∧ bp ≠ pn s 0x0D01 then refuse stNvProtected s
  else if s.nv.resvMv < pv s 0x0D06 then refuse stNvSupplyLow s
  else
    let w1 : PWrite := { inst := { id := 0x0D01, i1 := 0, i2 := 0 }, value := .num bp }
    let w2 : PWrite := { inst := { id := 0x0D02, i1 := 0, i2 := 0 }, value := .num 1 }
    let ws := if lock = 1 then [w1, w2] else [w1]
    if r.env.headD 0 != 0 then .done stHardware [] (persistFailed 0xFF ws (deviceCommit ws s))
    else .done stOk [] (persist 0 0xFF ws (deviceCommit ws s))

def cmdNvProtect : CmdDef :=
  { code := 0x0D05, caps := [capNvConfig], allow := fun r _ => r.tenant == 0, len := lenIs 2,
    range := fun b => decide (byteAt b 0 ≤ 3) && decide (byteAt b 1 ≤ 1), nv := true, modes := anyMode, body := nvProtectBody }

end Sys2Proof.Machine
end

