-- ==== Sys2Proof/Machine/Sinter.lean ====
section
/-! DEFINITION. The Sinter log's commands, its compaction and its boot scan (R565 to R576, R711, R712). -/

namespace Sys2Proof.Machine

/-! ### LOG_APPEND (R565, R711) -/

/-- A live HOST record of a tenant with a sequence number. -/
def hostRecord (s : State) (n seq : Nat) : Option Nat :=
  (allRecords s).find? (fun a => recLive s a && recType s a == 8 && recSeq s a == seq && readNat s (a + 16) 1 == n)

/-- The HOST payload (Table NVS.13). -/
def hostPayload (n : Nat) (data : Bytes) : Bytes := leBytes 1 n ++ leBytes 1 data.length ++ data

/-- The append of LOG_APPEND: status, answer, state. -/
def logAppendRun (r : Req) (pl : Bytes) (s : State) : Nat × Bytes × State :=
  let opt := byteAt pl 0
  let data := bytesAt pl 6 (byteAt pl 1)
  let old := hostRecord s r.tenant (fieldAt pl 2 4)
  if bit opt 1 && old.isNone then (stRange, [], s)
  else if (freeSectors s).length < 2 then (stNvFull, [], s)
  else
    let s1 := if bit opt 1 then (match old with
      | some a => supersede a s
      | none => s) else s
    let rec_ := makeRec 8 (hostPayload r.tenant data) s1
    match appendRec { rec_ with flags := rec_.flags ||| b2n (bit opt 0) } s1 with
    | some (q, s2) => (stOk, leBytes 4 q, s2)
    | none => (stNvFull, [], s)

/-- LOG_APPEND: behind the erase of a log sector it waits (R551). -/
def logAppendBody (r : Req) (pl : Bytes) (s : State) : Reply :=
  if logFree s then
    let x := logAppendRun r pl s
    .done x.1 x.2.1 x.2.2
  else .owed (addOp (.logAppend r pl) 0x0D06 r false s)

def cmdLogAppend : CmdDef :=
  { code := 0x0D06, caps := [capNvUser], allow := allowAll, len := fun b => b.length == 6 + byteAt b 1,
    range := fun b => decide (byteAt b 0 ≤ 3) && decide (1 ≤ byteAt b 1) && decide (byteAt b 1 ≤ 238),
    nv := true, modes := anyMode, body := logAppendBody }

/-! ### LOG_READ (R574, R712) -/

/-- A tenant may see a record: a HOST record only its own tenant and tenant 0 (R574). -/
def recVisible (s : State) (n a : Nat) : Bool := recType s a != 8 || n == 0 || readNat s (a + 16) 1 == n

/-- Committed records from a sequence number that match a filter and that the tenant may see. -/
def logMatches (s : State) (n first type : Nat) : List Nat :=
  (allRecords s).filter (fun a => recLive s a && decide (first ≤ recSeq s a) && (type == 0 || recType s a == type) && recVisible s n a)

/-- Whole records for as long as the next one fits (R712). -/
def takeFit (s : State) : Nat → List Nat → List Nat
  | _, [] => []
  | room, a :: as =>
    let n := 16 * (recGranules s a + 2)
    if n ≤ room then a :: takeFit s (room - n) as else []

/-- A committed record later than a sequence number exists. -/
def logLater (s : State) (from_ : Nat) : Bool := (allRecords s).any (fun a => recLive s a && decide (from_ ≤ recSeq s a))

/-- The response payload of LOG_READ. -/
def logReply (r flags part next : Nat) (data : Bytes) : Bytes :=
  leBytes 1 r ++ leBytes 1 flags ++ leBytes 1 part ++ zeros 1 ++ leBytes 4 next ++ data

/-- LOG_READ (R712). Where nothing matches, the next sequence number is the first again; END looks at every later committed record, whatever its
type (DESIGN CHOICE, assumption 164). -/
def logReadBody (r : Req) (pl : Bytes) (s : State) : Reply :=
  let first := fieldAt pl 0 4
  let type := byteAt pl 4
  let part := byteAt pl 5
  match logMatches s r.tenant first type with
  | [] => if part = 0 then .done stOk (logReply 0 (if logLater s first then 0 else 2) 0 first []) s else refuse stRange s
  | a :: as =>
    let total := recGranules s a + 2
    if 16 * total ≤ 238 then
      if part ≠ 0 then refuse stRange s
      else
        let got := takeFit s 238 (a :: as)
        let next := (recSeq s (got.getLast?.getD a) + 1) % 0x100000000
        .done stOk (logReply got.length (if logLater s next then 0 else 2) 0 next (got.flatMap (recBytes s))) s
    else if total ≤ part then refuse stRange s
    else
      let n := min 14 (total - part)
      let more := decide (part + n < total)
      let next := if more then first else (recSeq s a + 1) % 0x100000000
      let fin := !more && !logLater s next
      .done stOk (logReply 0 (bitsOf [more, fin]) (if more then part + n else 0) next (readBytes s (a + 16 * part) (16 * n))) s

def cmdLogRead : CmdDef :=
  { code := 0x0D07, caps := [capStatus], allow := allowAll, len := lenIs 6, range := fun b => decide (byteAt b 4 ≤ 15),
    nv := true, modes := anyMode, body := logReadBody }

/-! ### Compaction (R566 to R569, R576) -/

/-- The sectors that a pass takes: up to 4 oldest that are not FREE, the head excluded (R567). -/
def compactSources (s : State) : List Nat := ((sectorsBySerial s).filter (fun k => some k != s.log.head)).take 4

/-- A pass copies a record: committed and RETAIN, or any committed record of a refresh (R568, R576). -/
def passCopies (s : State) (whole : Bool) (a : Nat) : Bool := recLive s a && (bit (recFlags s a) 0 || whole)

/-- Sectors outside the sources that hold a committed RETAIN record, or that the next copy will go to (R569). -/
def retainedSectors (s : State) (sources : List Nat) (payload : Bytes) : Nat :=
  let target := if fitsHead s payload then s.log.head else nextFree s (s.log.head.getD 127)
  ((List.range 128).filter (fun k =>
    !sources.contains k && (some k == target || (walk s k).1.any (fun a => recLive s a && bit (recFlags s a) 0)))).length

/-- The COMPACT_BEGIN payload (Table NVS.16). -/
def beginPayload (s : State) (sources : List Nat) (reason copies restart : Nat) : Bytes :=
  let pad := List.replicate (4 - sources.length) 0xFF
  leBytes 1 sources.length ++ leBytes 1 reason ++ leBytes 2 copies ++ (sources ++ pad).flatMap (leBytes 1) ++
    sources.flatMap (fun k => leBytes 4 (sectorSerial s k)) ++ zeros (4 * (4 - sources.length)) ++ leBytes 4 restart ++ zeros 4

/-- Why a pass is called for: 2 restart, 1 refresh, 0 free space low (R567, R570, R576). -/
def passReason (s : State) : Option Nat :=
  if s.log.restart.isSome then some 2
  else if !s.log.refresh.isEmpty then some 1
  else if decide ((freeSectors s).length < pn s 0x0D0A) && !(compactSources s).isEmpty then some 0
  else none

/-- A refresh of the head sector goes on in the next FREE sector (R576, R563). -/
def leaveHead (reason : Nat) (s : State) : State :=
  if reason = 1 ∧ s.log.refresh.head? = s.log.head then (openNext s).getD s else s

/-- The sectors of a pass, and whether it copies every record: a refresh takes its sector alone, and a restart what the withdrawn pass had
(R567, R570, R576). -/
def passPlan (reason : Nat) (s : State) : List Nat × Bool :=
  if reason = 1 then (s.log.refresh.take 1, true)
  else
    match s.log.restart with
    | some x => (x.sources, x.whole)
    | none => (compactSources s, false)

/-- A pass starts: COMPACT_BEGIN is appended (R568). -/
def startPass (reason : Nat) (s0 : State) : State :=
  let s := leaveHead reason s0
  let (sources, whole) := passPlan reason s
  let todo := sources.flatMap (fun k => (walk s k).1)
  let copies := (todo.filter (passCopies s whole)).length
  let r := makeRec 0x0C (beginPayload s sources reason copies ((s.log.restart.map (fun x => x.seq)).getD 0xFFFFFFFF)) s
  match appendRec r s with
  | some (q, t) =>
    { t with log := { t.log with
        pass := some { beginSeq := q, sources := sources, todo := todo, reason := reason, whole := whole, copied := 0, dropped := 0,
                       firstCopy := 0xFFFFFFFF, ended := false, erases := sources }
        restart := none, refresh := if reason = 1 then t.log.refresh.drop 1 else t.log.refresh } }
  | none => s

/-- Copy one record, or drop a retained one when the retained records would take more than 64 sectors (R568, R569, R564). -/
def copyOne (c : Compact) (a : Nat) (rest : List Nat) (s : State) : State :=
  let p := recPayload s a
  if bit (recFlags s a) 0 = true ∧ 64 < retainedSectors s c.sources p then
    { s with log := { s.log with retainOverflow := true, pass := some { c with todo := rest, dropped := c.dropped + 1 } } }
  else
    match appendRec { type := recType s a, flags := recFlags s a ||| 4, stamp := recStamp s a, payload := p, at_ := s.clk.us } s with
    | some (q, t) =>
      { t with log := { t.log with pass := some { c with
          todo := rest, copied := c.copied + 1, firstCopy := if c.copied = 0 then q else c.firstCopy } } }
    | none => s

/-- The address of a record by sequence number. -/
def recordBySeq (s : State) (seq : Nat) : Option Nat := (allRecords s).find? (fun a => recSeq s a == seq)

/-- COMPACT_END is appended and its COMPACT_BEGIN superseded (R568). -/
def endPass (c : Compact) (s : State) : State :=
  let payload := leBytes 4 c.beginSeq ++ leBytes 2 c.copied ++ leBytes 2 c.dropped ++ leBytes 4 c.firstCopy ++ zeros 4
  match appendRec (makeRec 0x0D payload s) s with
  | some (_, t) =>
    let u := match recordBySeq t c.beginSeq with
      | some a => supersede a t
      | none => t
    { u with log := { u.log with pass := some { c with todo := [], ended := true } } }
  | none => s

/-- One step of compaction: an append, a copy, or an erase issued (R568, Table LED.1). -/
def compactionStep (s : State) : State :=
  match s.log.pass with
  | none =>
    match passReason s with
    | some r => startPass r s
    | none => s
  | some c =>
    if c.ended then
      match c.erases with
      | k :: _ => if saBusy s then s else { s with nv := { s.nv with erasing := some k } }
      | [] => s
    else
      match c.todo.dropWhile (fun a => !passCopies s c.whole a) with
      | a :: rest => copyOne c a rest s
      | [] => endPass c s

/-- Counts of a sector's committed and superseded records. -/
def sectorCounts (s : State) (k : Nat) : Nat × Nat :=
  let rs := (walk s k).1
  ((rs.filter (recLive s)).length, (rs.filter (fun a => !recLive s a)).length)

/-- A log sector's records are reclaimed and the sector erased (R573, R550). -/
def reclaimSector (k : Nat) (s : State) : State :=
  let (l, d) := sectorCounts s k
  let s1 := eraseSector k s
  { s1 with log := { s1.log with live := s1.log.live - l, superseded := s1.log.superseded - d, reclaimed := s1.log.reclaimed + l + d } }

/-- The pass after one of its sources was erased; it ends with the last. -/
def passErased (k : Nat) (s : State) : State :=
  match s.log.pass with
  | some c =>
    let left := c.erases.filter (fun x => x != k)
    { s with log := { s.log with pass := if left.isEmpty then none else some { c with erases := left } } }
  | none => s

/-- The erase of a log sector ends: the sector's records are reclaimed, and the plane is readable again (R551). -/
def logErased (s : State) : State :=
  match s.nv.erasing with
  | some k => passErased k (reclaimSector k { s with nv := { s.nv with erasing := none } })
  | none => s

/-! ### The boot scan (R570, R571) -/

/-- The highest of a list, 0 for none. -/
def maxOf (l : List Nat) : Nat := l.foldl max 0

/-- The sources listed in a COMPACT_BEGIN: sector and serial. -/
def listedSources (s : State) (a : Nat) : List (Nat × Nat) :=
  (List.range (min 4 (readNat s (a + 16) 1))).map (fun j => (readNat s (a + 20 + j) 1, readNat s (a + 24 + 4 * j) 4))

/-- A committed COMPACT_BEGIN that no COMPACT_END names. -/
def openBegin (s : State) : Option Nat :=
  let rs := (allRecords s).filter (recLive s)
  rs.find? (fun a => recType s a == 0x0C && !(rs.any (fun e => recType s e == 0x0D && readNat s (e + 16) 4 == recSeq s a)))

/-- The pass of a COMPACT_BEGIN refreshes a sector: its reason is 1, or it restarts such a pass (R576). -/
def refreshes (s : State) : Nat → Nat → Bool
  | 0, _ => false
  | f + 1, a =>
    readNat s (a + 17) 1 == 1 ||
      match (allRecords s).find? (fun x => recType s x == 0x0C && recSeq s x == readNat s (a + 40) 4) with
      | some b => readNat s (a + 17) 1 == 2 && refreshes s f b
      | none => false

/-- Withdraw the copies after an open COMPACT_BEGIN, and the begin itself; the pass is restarted (R570). -/
def withdrawPass (a : Nat) (s : State) : State :=
  let q := recSeq s a
  let copies := ((allRecords s).dropWhile (fun x => x != a)).filter (fun x => bit (recFlags s x) 2)
  let s1 := supersede a (copies.foldl (fun t x => supersede x t) s)
  let listed := (listedSources s a).filter (fun x => sectorKind s x.1 != .free && sectorSerial s x.1 == x.2)
  { s1 with log := { s1.log with
      restart := if listed.isEmpty then none else some { seq := q, sources := listed.map Prod.fst, whole := refreshes s (allRecords s).length a }
      refresh := s1.log.refresh.filter (fun k => !listed.any (fun x => x.1 == k)), compactRestarted := true } }

/-- Finish the erases of a pass whose COMPACT_END is committed. -/
def finishErases (s : State) (e : Nat) : State :=
  match recordBySeq s (readNat s (e + 16) 4) with
  | some b => (listedSources s b).foldl (fun t x =>
      if x.1 < 128 ∧ sectorKind t x.1 ≠ .free ∧ sectorSerial t x.1 = x.2 then eraseSector x.1 t else t) s
  | none => s

/-- The head, the next offset, sequence number and serial, and the torn records, as the scan finds them. -/
def scanHead (s : State) : Sinter :=
  let secs := sectorsBySerial s
  let head := secs.getLast?
  let torn := (secs.filter (fun k => (walk s k).2.1)).length
  let seqs := (allRecords s).map (recSeq s)
  let next := if seqs.isEmpty then (head.map (fun k => readNat s (sectorAddr k + 8) 4)).getD 0 else (maxOf seqs + 1) % 0x100000000
  { s.log with head := head, headOff := (head.map (fun k => (walk s k).2.2)).getD 0x1000, nextSeq := next,
               nextSerial := maxOf (secs.map (sectorSerial s)) + 1, torn := torn, tornFound := decide (0 < torn),
               pass := none, restart := none, compactRestarted := false }

/-- The head has abandoned granules: the next FREE sector becomes the head. -/
def skipTornHead (s : State) : State :=
  match s.log.head with
  | some k => if (walk s k).2.1 then (openNext s).getD s else s
  | none => s

/-- Count live and superseded records (R573, R744). -/
def countLog (s : State) : State :=
  let rs := allRecords s
  let l := (rs.filter (recLive s)).length
  { s with log := { s.log with live := l, superseded := rs.length - l } }

/-- The boot scan. -/
def bootScan (s : State) : State :=
  let s1 := { s with log := scanHead s }
  let s2 := match openBegin s1 with
    | some a => withdrawPass a s1
    | none => s1
  let ends := (allRecords s2).filter (fun a => recLive s2 a && recType s2 a == 0x0D)
  let s3 := ends.foldl finishErases s2
  let s4 := ((List.range 128).filter (fun k => sectorKind s3 k == .unknown)).foldl (fun t k => eraseSector k t) s3
  countLog (skipTornHead s4)

end Sys2Proof.Machine
end

