-- ==== Sys2Proof/Machine/Firmware.lean ====
section
/-! DEFINITION. Firmware image slots and updates, and the end of an S-array erase (R551, R553 to R557, R713, R714). -/

namespace Sys2Proof.Machine

/-- The first NV address of a slot (R553, Table NVS.7). -/
def fwSlotAddr (k : Nat) : Nat := saBase + k * 0x40000

/-- The header of a slot (Table NVS.8). -/
def slotHeader (s : State) (k : Nat) : Bytes := readBytes s (fwSlotAddr k) 256

/-- The SHA-256 of header bytes 0 to 19 followed by the body (Table NVS.8). -/
def slotDigest (s : State) (k : Nat) : Bytes :=
  let h := slotHeader s k
  sha256 (bytesAt h 0 20 ++ readBytes s (fwSlotAddr k + 256) (fieldAt h 16 4))

/-- The digest and the signature of a slot's image hold (R554). -/
def slotSigned (s : State) (k : Nat) : Bool :=
  let h := slotHeader s k
  (fieldAt h 0 4 == 0x0960A55A) && (fieldAt h 4 2 == 1) && decide (fieldAt h 16 4 ≤ 261888) && (fieldAt h 16 4 % 16 == 0) &&
    decide (byteAt h 116 ≤ 3) && (bytesAt h 20 32 == slotDigest s k) && Config.ecdsaOk (bytesAt h 20 32) (bytesAt h 52 64) (byteAt h 116)

/-- The boot ROM verifies a slot (R554): its header's image, or the shipped image that the model's S-array does not list
(assumption 14). -/
def slotBoots (s : State) (k : Nat) : Bool :=
  if readNat s (fwSlotAddr k) 4 = 0x0960A55A then slotSigned s k else !s.nv.blank.contains k

/-- The build number of a slot: its header's, where it holds one (assumption 14). -/
def slotBuild (s : State) (k : Nat) : Nat :=
  if readNat s (fwSlotAddr k) 4 = 0x0960A55A then readNat s (fwSlotAddr k + 8) 4 else Config.fwBuild k % 0x1000000

/-- The security version of a slot: its header's, or 0. -/
def slotSecurity (s : State) (k : Nat) : Nat :=
  if readNat s (fwSlotAddr k) 4 = 0x0960A55A then readNat s (fwSlotAddr k + 12) 4 else 0

/-- One slot of FW_INFO (Table CMD.15). -/
def slotInfo (s : State) (k : Nat) : Bytes :=
  let h := slotHeader s k
  leBytes 1 (b2n (slotSigned s k)) ++ bytesAt h 6 1 ++ zeros 2 ++ bytesAt h 8 4 ++ bytesAt h 12 4 ++ bytesAt h 16 4

/-- FW_INFO. -/
def fwInfoBody (_r : Req) (_pl : Bytes) (s : State) : Reply :=
  let c := bootCtl s
  .done stOk (leBytes 1 c.active ++ leBytes 1 c.trial ++ leBytes 1 (bitsOf [s.nv.rewriteNeeded, s.fw.open_, s.fw.finishedOk]) ++
    zeros 1 ++ leBytes 4 c.floor ++ slotInfo s 0 ++ slotInfo s 1) s

def cmdFwInfo : CmdDef :=
  { code := 0x0E00, caps := [capStatus], allow := allowAll, len := lenIs 0, range := anyRange, nv := false, modes := anyMode,
    body := fwInfoBody }

/-- FW_BEGIN: every sector of the inactive slot is erased; refused while TRIAL is set or an erase runs (R554, R557). -/
def fwBeginBody (r : Req) (_pl : Bytes) (s : State) : Reply :=
  if (bootCtl s).trial ≠ 0xFF ∨ s.fw.erasing then refuse stBusy s
  else .accepted (addOp .fwBegin 0x0E01 r true { s with fw := { open_ := true, erasing := true, erased := 0, chunkEnd := 0, finishedOk := false } })

def cmdFwBegin : CmdDef :=
  { code := 0x0E01, caps := [capFwUpdate], allow := allowAll, len := lenIs 0, range := anyRange, nv := true, modes := anyMode,
    body := fwBeginBody }

/-- FW_CHUNK: its outcome once no erase is under way (R554, R714). -/
def fwChunkRun (pl : Bytes) (s : State) : Nat × State :=
  let off := fieldAt pl 0 4
  let n := byteAt pl 4
  if !s.fw.open_ || decide (off < s.fw.chunkEnd) || decide (262144 < off + n) then (stRange, s)
  else
    let s1 := programBytes (fwSlotAddr (inactiveSlot s) + off) (bytesAt pl 6 n) s
    (stOk, { s1 with fw := { s1.fw with chunkEnd := off + n } })

/-- FW_FINISH: its outcome once the slot can be read (R554). -/
def fwFinishRun (s : State) : Nat × State :=
  let k := inactiveSlot s
  if !slotSigned s k then (stFwSignature, { s with fw := { s.fw with finishedOk := false } })
  else if slotSecurity s k < (bootCtl s).floor then (stFwRollback, { s with fw := { s.fw with finishedOk := false } })
  else (stOk, { s with fw := { s.fw with finishedOk := s.fw.open_ } })

/-- An operation that waited behind an erase is carried out and answered; those of the update go on waiting for the erase of the whole slot
(DESIGN CHOICE, assumption 88). -/
def heldOp (s : State) (o : PendOp) : State :=
  match o.kind with
  | .logAppend r pl =>
    let x := logAppendRun r pl s
    completeOp o.kind x.1 x.2.1 x.2.2
  | .fwChunk _ pl =>
    if s.fw.erasing then s
    else
      let x := fwChunkRun pl s
      completeOp o.kind x.1 [] x.2
  | .fwFinish _ =>
    if s.fw.erasing then s
    else
      let x := fwFinishRun s
      completeOp o.kind x.1 [] x.2
  | _ => s

/-- What waited behind an erase goes: the device's records first, then the operations in the order of acceptance (DESIGN CHOICE,
assumption 88). -/
def heldGo (s : State) : State :=
  let s1 := if logOpen s && !s.core.holdup then flushRecs s.log.waiting s else s
  s1.ops.foldl heldOp s1

/-- One sector of the slot that FW_BEGIN erases is erased (R551, R554). -/
def slotSectorErased (s : State) : State :=
  if s.fw.erasing ∧ s.fw.erased < 64 then
    let s1 := clearBytes (fwSlotAddr (inactiveSlot s) + 0x1000 * s.fw.erased) 0x1000 s
    { s1 with fw := { s1.fw with erased := s1.fw.erased + 1 } }
  else s

/-- The erase of the sector under way ends. -/
def eraseEnds (s : State) : State := if s.nv.erasing.isSome then logErased s else slotSectorErased s

/-- SECTOR_ERASE_DONE (R551): what waited behind the erase goes before the next sector of a slot is erased. -/
def sectorEraseDone (s : State) : State := if saBusy s then heldGo (eraseEnds s) else s

/-- The erase of the inactive slot ends, all its sectors being erased (R554, R714). -/
def fwEraseDone (ok : Bool) (s : State) : State :=
  if slotErasing s then
    let s1 := if ok then clearBytes (fwSlotAddr (inactiveSlot s)) 0x40000 s else s
    heldGo (completeOp .fwBegin (if ok then stOk else stHardware) []
      { s1 with fw := { s1.fw with erasing := false, open_ := ok && s1.fw.open_ }
                nv := { s1.nv with rewriteNeeded := s1.nv.rewriteNeeded && !ok
                                   blank := if ok then inactiveSlot s :: s1.nv.blank.erase (inactiveSlot s) else s1.nv.blank } })
  else s

/-- FW_CHUNK: behind an erase it waits (R551, R554, R714). -/
def fwChunkBody (r : Req) (pl : Bytes) (s : State) : Reply :=
  if s.fw.open_ && (saBusy s || s.fw.erasing) then .owed (addOp (.fwChunk r pl) 0x0E02 r false s)
  else
    let x := fwChunkRun pl s
    .done x.1 [] x.2

def cmdFwChunk : CmdDef :=
  { code := 0x0E02, caps := [capFwUpdate], allow := allowAll, len := fun b => b.length == 6 + byteAt b 4,
    range := fun b => decide (16 ≤ byteAt b 4) && decide (byteAt b 4 ≤ 240) && (byteAt b 4 % 16 == 0) && (byteAt b 5 == 0),
    nv := true, modes := anyMode, body := fwChunkBody }

/-- FW_FINISH: behind the erase of the slot it waits (R551, R554). -/
def fwFinishBody (r : Req) (_pl : Bytes) (s : State) : Reply :=
  if s.fw.erasing then .owed (addOp (.fwFinish r) 0x0E03 r false s)
  else
    let x := fwFinishRun s
    .done x.1 [] x.2

def cmdFwFinish : CmdDef :=
  { code := 0x0E03, caps := [capFwUpdate], allow := allowAll, len := lenIs 0, range := anyRange, nv := true, modes := anyMode,
    body := fwFinishBody }

/-- FW_ACTIVATE: TRIAL names the inactive slot, and a core reset follows the response (R556, R714, R50). -/
def fwActivateBody (_r : Req) (_pl : Bytes) (s : State) : Reply :=
  if !s.fw.finishedOk then refuse stDenied s
  else
    let s1 := writeBoot { bootCtl s with trial := inactiveSlot s } s
    .done stOk [] { s1 with core := { s1.core with resetDue := some .fwActivate } }

def cmdFwActivate : CmdDef :=
  { code := 0x0E04, caps := [capFwUpdate], allow := allowAll, len := lenIs 0, range := anyRange, nv := true, modes := anyMode,
    body := fwActivateBody }

end Sys2Proof.Machine
end

