-- ==== Sys2Proof/Machine/Sessions.lean ====
section
/-! DEFINITION. Sessions, authentication, tenant keys, credits and event queues (R608 to R624, R682 to R686). -/

namespace Sys2Proof.Machine

/-- The F-array address of a tenant's key slot (Table NVS.2). -/
def keyAddr (n : Nat) : Nat := 0x22000 + 32 * n

/-- How a session ends, for what survives it (R608, R654, R530). -/
structure Closing where
  keepTxn : Bool
  keepGather : Bool
deriving DecidableEq, Repr

/-- The tenant after its session closed: outstanding credits return, the nonce and the part buffer are lost (R608,
R614, R692). -/
def closeTenant (c : Closing) (t : Tenant) : Tenant :=
  { t with session := none, authed := false, outstanding := 0, nonce := none, part := none,
           txn := if c.keepTxn then t.txn else none }

/-- An operation of a tenant whose session closed: a synchronous answer is discarded, an asynchronous one ends
without a credit (R608). -/
def closeOp (n : Nat) (o : PendOp) : PendOp :=
  if o.tenant = n then { o with credit := false, silent := o.silent || !o.async } else o

/-- A waiting commit of a tenant whose session closed. -/
def closeCommit (n : Nat) (c : WaitCommit) : Option WaitCommit :=
  if c.tenant = n then (if c.async then some { c with credit := false } else none) else some c

/-- A transaction whose commit ended with its session waits no more; an asynchronous commit goes on (R608, R654). -/
def settleWaiting (n : Nat) (s : State) : State :=
  let on := s.par.waiting.any (fun c => c.tenant == n && !c.direct)
  onTenant n (fun t => { t with txn := t.txn.map (fun x => { x with waiting := x.waiting && on }) }) s

/-- A session closes, and the responses that wait for it are discarded (R608, R611, R612, R530); SERVICE ends with the session of tenant 63. -/
def closeSession (n : Nat) (c : Closing) (s : State) : State :=
  match sessionOf s n with
  | none => s
  | some p =>
    let s1 := onTenant n (closeTenant c) s
    let s2 := onPort p (fun q => { q with bound := if q.bound = some n then none else q.bound,
                                          rspWait := q.rspWait.filter (fun w => w.rsp.tenant != n) }) s1
    let s3 := { s2 with ops := s2.ops.map (closeOp n), par := { s2.par with waiting := s2.par.waiting.filterMap (closeCommit n) } }
    let s4 := settleWaiting n (if c.keepGather then s3 else dropGather n s3)
    if n = 63 ∧ s4.core.mode = .service then beginServiceExit 6 s4 else s4

/-- The session of the SESSION_CLOSE command (R654). -/
def byCommand : Closing := { keepTxn := false, keepGather := false }

/-- A new SESSION_OPEN, or a change of UART route (R610, R632, R654). -/
def byReopen : Closing := { keepTxn := true, keepGather := false }

/-- A port reset (Table ARC.5, R654). -/
def byPortReset : Closing := { keepTxn := true, keepGather := true }

/-- The tenant's configuration demands authentication (R614, R619). -/
def needsAuth (s : State) (n : Nat) : Bool := n == 63 || pn s 0x0204 n == 1

/-- Open a session on a port (R609). -/
def openSession (n p : Nat) (bind : Bool) (s : State) : State :=
  let s1 := takeOccAt .sessionOpen n s
  let s2 := onTenant n (fun t => { t with session := some p, authed := false, authReq := needsAuth s1 n }) s1
  if bind then onPort p (fun q => { q with bound := some n }) s2 else s2

/-- SESSION_OPEN (R609, R610, R612, Table CMD.5). -/
def sessionOpenBody (r : Req) (pl : Bytes) (s : State) : Reply :=
  let n := r.tenant
  let bind := bit (byteAt pl 0) 0
  if pn s 0x0201 n ≠ r.port then refuse stDenied s
  else if bind && !(hasCap s n capBanks && (r.port == 0 || r.port == 2)) then refuse stDenied s
  else if bind && (port s r.port).bound.isSome && (port s r.port).bound != some n then refuse stConflict s
  else
    let s1 := closeSession n byReopen s
    let s2 := openSession n r.port bind s1
    .done stOk (leBytes 1 (b2n (needsAuth s2 n)) ++ leBytes 1 (quota s2 n) ++ leBytes 2 (pn s2 0x0202 n) ++ leBytes 1 r.port ++ zeros 1) s2

def cmdSessionOpen : CmdDef :=
  { code := 0x0200, caps := [], allow := allowAll, len := lenIs 1, range := fun b => decide (byteAt b 0 ≤ 1), nv := false,
    modes := anyMode, body := sessionOpenBody }

/-- The response that was given last waits for a place, and something waits with it. -/
def holdLast (p : Nat) (f : WaitRsp → WaitRsp) (s : State) : State :=
  onPort p (fun q => { q with rspWait := match q.rspWait.getLast? with
    | some w => q.rspWait.dropLast ++ [f w]
    | none => [] }) s

/-- SESSION_CLOSE: its response is posted, with its credit, before the session closes (R684). -/
def sessionCloseBody (r : Req) (_pl : Bytes) (s : State) : Reply :=
  .doneThen stOk [] s
    (fun t => if hasPlace s r.port then closeSession r.tenant byCommand t else holdLast r.port (fun w => { w with closes := true }) t)

def cmdSessionClose : CmdDef :=
  { code := 0x0201, caps := [], allow := allowAll, len := lenIs 0, range := anyRange, nv := false, modes := anyMode,
    body := sessionCloseBody }

/-- The 16 bytes of the nonce of a draw (R614). -/
def nonceBytes (k : Nat) : Bytes := leBytes 16 (Config.nonce k).toNat

/-- AUTH_CHALLENGE is refused for 60 s after the third failed proof in a row (R616). -/
def lockedOut (s : State) (n : Nat) : Bool := (tenant s n).lockout && decide (s.clk.us < (tenant s n).lockAt + 60000000)

/-- The nonce of a tenant within 10 s of its issue (R614). -/
def nonceOf (s : State) (n : Nat) : Option Bytes := if s.clk.us < (tenant s n).nonceAt + 10000000 then (tenant s n).nonce else none

/-- AUTH_CHALLENGE (R614, R616). -/
def authChallengeBody (r : Req) (_pl : Bytes) (s : State) : Reply :=
  if lockedOut s r.tenant then refuse stDenied s
  else
    let b := nonceBytes s.free
    .done stOk b (onTenant r.tenant (fun t => { t with nonce := some b, nonceAt := s.clk.us }) { s with free := s.free + 1 })

def cmdAuthChallenge : CmdDef :=
  { code := 0x0202, caps := [], allow := allowAll, len := lenIs 0, range := anyRange, nv := false, modes := anyMode,
    body := authChallengeBody }

/-- The proof of R615: the first 16 bytes of HMAC-SHA-256(key, nonce, tenant, port). -/
def authProof (key nonce : Bytes) (n p : Nat) : Bytes := (hmacSha256 key (nonce ++ [byte n, byte p])).take 16

/-- A proof matches: the key slot is not all zero (R617) and the 16 bytes agree (R615). -/
def proofOk (s : State) (n p : Nat) (nonce proof : Bytes) : Bool :=
  let key := readBytes s (keyAddr n) 32
  key != zeros 32 && proof == authProof key nonce n p

/-- A failed proof at a time: after three in a row the lockout runs from it, and only a successful proof resets the count, so that each
further failure in the row starts it again (R616; DEDUCED, assumption 91). -/
def proofFailed (us : Nat) (t : Tenant) : Tenant :=
  if 3 ≤ t.fails + 1 then { t with nonce := none, fails := t.fails + 1, lockout := true, lockAt := us }
  else { t with nonce := none, fails := t.fails + 1 }

/-- What a proof that was checked does: it authenticates the session, or counts as a failure; without a nonce there is nothing to
check (R615, R616, R685). -/
def proofAnswer (checked : Option Bool) (n : Nat) (s : State) : Reply :=
  match checked with
  | none => refuse stNotAuth s
  | some true => .done stOk [] (onTenant n (fun t => { t with nonce := none, fails := 0, authed := true }) s)
  | some false => .done stNotAuth [] (onTenant n (proofFailed s.clk.us) s)

/-- AUTH_PROVE: the proof is checked against the nonce in force (R615). -/
def authProveBody (r : Req) (pl : Bytes) (s : State) : Reply :=
  proofAnswer ((nonceOf s r.tenant).map (fun nonce => proofOk s r.tenant r.port nonce pl)) r.tenant s

def cmdAuthProve : CmdDef :=
  { code := 0x0203, caps := [], allow := allowAll, len := lenIs 16, range := anyRange, nv := false, modes := anyMode,
    body := authProveBody }

/-- A nonce expires 10 s after its issue (R614). -/
def nonceExpiry (n : Nat) (s : State) : State := onTenant n (fun t => { t with nonce := nonceOf s n }) s

/-- The lockout ends after 60 s (R616). -/
def authLockoutEnd (n : Nat) (s : State) : State := onTenant n (fun t => { t with lockout := lockedOut s n }) s

/-- TENANT_WRITE: a key slot as a small commit, behind a marker that is due (R262, R618, R686). -/
def tenantWriteBody (r : Req) (pl : Bytes) (s : State) : Reply :=
  let n := byteAt pl 0
  if n = 63 ∧ ¬(r.tenant = 63 ∧ s.core.mode = .service) then refuse stDenied s
  else if !supplyOk s 32 then refuse stNvSupplyLow s
  else .done stOk [] (faWrite (keyAddr n) (bytesAt pl 4 32) (markerTry s))

def cmdTenantWrite : CmdDef :=
  { code := 0x0204, caps := [capTenantAdmin], allow := allowAll, len := lenIs 36,
    range := fun b => decide (byteAt b 0 ≤ 63) && (fieldAt b 1 3 == 0), nv := true, modes := anyMode, body := tenantWriteBody }

/-- Asynchronous operations of a tenant in flight. -/
def asyncCount (s : State) (n : Nat) : Nat :=
  (s.ops.filter (fun o => o.tenant == n && o.async)).length + (s.par.waiting.filter (fun c => c.tenant == n && c.async)).length

/-- CREDITS_READ. -/
def creditsReadBody (r : Req) (_pl : Bytes) (s : State) : Reply :=
  let q := quota s r.tenant
  let o := (tenant s r.tenant).outstanding
  .done stOk (leBytes 1 q ++ leBytes 1 (q - o) ++ leBytes 1 o ++ leBytes 1 (asyncCount s r.tenant)) s

def cmdCreditsRead : CmdDef :=
  { code := 0x0205, caps := [], allow := allowAll, len := lenIs 0, range := anyRange, nv := false, modes := anyMode,
    body := creditsReadBody }

/-! ### Event delivery (R622 to R624) -/

/-- The tenant after its oldest `k` events are delivered. -/
def deliverEvents (k : Nat) (t : Tenant) : Tenant :=
  { t with queue := t.queue.drop k, delivered := t.delivered + min k t.queue.length }

/-- EVENTS (R682, Table CMD.4): its records are delivered when the response is posted. -/
def eventsBody (r : Req) (pl : Bytes) (s : State) : Reply :=
  let q := (tenant s r.tenant).queue
  let k := min (byteAt pl 0) q.length
  .doneThen stOk (leBytes 1 k ++ leBytes 1 (q.length - k) ++ zeros 2 ++ (q.take k).flatMap eventBytes) s
    (fun t => if hasPlace s r.port then onTenant r.tenant (deliverEvents k) t else holdLast r.port (fun w => { w with events := k }) t)

def cmdEvents : CmdDef :=
  { code := 0x0106, caps := [capStatus], allow := allowAll, len := lenIs 1,
    range := fun b => decide (1 ≤ byteAt b 0) && decide (byteAt b 0 ≤ 20), nv := false, modes := anyMode, body := eventsBody }

/-- EVT_POP (R624): the oldest event of a tenant with a session on this port, or 12 zero bytes. -/
def evtPop (p n : Nat) (pop : Bool) (s : State) : State :=
  if !pop || !(port s p).ready then s
  else if sessionOf s n = some p then
    match (tenant s n).queue with
    | e :: _ => onPort p (fun q => { q with evtData := eventBytes e }) (onTenant n (deliverEvents 1) s)
    | [] => onPort p (fun q => { q with evtData := zeros 12 }) s
  else onPort p (fun q => { q with evtData := zeros 12 }) s

/-- The presented response is released and the next one presented (R605). -/
def releaseRsp (q : Port) : Port :=
  match q.rspQ with
  | [] => q
  | [_] => { q with rspQ := [] }
  | _ :: b :: rest => Port.irq irqRsp { q with rspQ := b :: rest }

/-- RSP_DONE (R605). -/
def rspDone (p : Nat) (s : State) : State := onPort p releaseRsp s

/-- A waiting response as it is posted, with COMPLETED_LATER (R676). -/
def stampLate (s : State) (w : WaitRsp) : RspFrame :=
  if lateSince s w.since then
    { w.rsp with frame := mkFrame w.rsp.tenant w.rsp.seq w.rsp.status 1 ((w.rsp.frame.drop 8).take (w.rsp.frame.length - 10)) }
  else w.rsp

/-- A waiting response enters its port's queue as a place frees, and its credit returns (R606). -/
def responsePosted (p : Nat) (s : State) : State :=
  match (port s p).rspWait with
  | w :: ws =>
    if (port s p).rspQ.length < 32 then
      let s1 := onTenant w.rsp.tenant (deliverEvents w.events)
        (returnIf w.credit w.rsp.tenant (onPort p (fun q => enqueue (stampLate s w) { q with rspWait := ws }) s))
      if w.closes then closeSession w.rsp.tenant byCommand s1 else s1
    else s
  | [] => s

/-- The lowest tenant with a session on a port and a queue that is not empty. -/
def eventTenant (s : State) (p : Nat) : Option Nat :=
  (List.range 64).find? (fun n => sessionOf s n == some p && !(tenant s n).queue.isEmpty)

/-- The bytes of a UART frame with 0x7E and 0x7D sent as 0x7D and the byte XOR 0x20 (R594). -/
def stuff (bs : Bytes) : Bytes := bs.flatMap (fun b => if b = 0x7E ∨ b = 0x7D then [0x7D, b ^^^ 0x20] else [b])

/-- A frame as the line carries it: flags, stuffing and the CRC-16 (R594). -/
def uartLine (f : Bytes) : Bytes := [0x7E] ++ stuff (f ++ leBytes 2 (crc16 f)) ++ [0x7E]

/-- The device sends a UART frame (R594). -/
def uartSend (f : Bytes) (s : State) : State := { s with uart := { s.uart with lastSent := uartLine f } }

/-- The device's UART frame completes: a response is released, or an event delivered (R595). -/
def uartFrameSent (s : State) : State :=
  match (port s 3).rspQ with
  | f :: _ => uartSend (byte 1 :: f.frame) (rspDone 3 s)
  | [] =>
    match eventTenant s 3 with
    | some n =>
      match (tenant s n).queue with
      | e :: _ => uartSend (byte 2 :: byte n :: eventBytes e) (onTenant n (deliverEvents 1) s)
      | [] => s
    | none => s

end Sys2Proof.Machine
end

