-- ==== Sys2Proof/Machine/Seq.lean ====
section
/-! DEFINITION. Rails, tables and margining: the table steps, the engine's happenings and the commands of Tables CMD.7 and
the margining half of CMD.9 (chapter 04, R690 to R692, R697). -/

namespace Sys2Proof.Machine

/-! ### Margin outputs (R182 to R194) -/

/-- Hold a mode until the rail is ON (R186). -/
def holdMargin (r mode : Nat) (s : State) : State := onRail r (fun x => { x with margin := { x.margin with held := some mode } }) s

/-- The sign of a number: -1, 0 or 1. -/
def sgn (i : Int) : Int := if 0 < i then 1 else if i < 0 then -1 else 0

/-- The loop of R191 on a fresh reading `v`. -/
def marginStep (target v : Int) (polarity maxCode : Int) (m : MarginOut) : MarginOut :=
  let err := target - v
  let m0 := { m with staleTicks := 0, stale := false }
  if !m0.settled then
    if err.natAbs ≤ 3 then { m0 with settled := true }
    else if m0.lastErr ≠ 0 ∧ sgn err ≠ sgn m0.lastErr then
      { m0 with code := if m0.lastErr.natAbs < err.natAbs then m0.lastCode else m0.code, settled := true }
    else
      let dir0 : Int := if 0 < err then 1 else -1
      let dir := if polarity = 0 then -dir0 else dir0
      let code := clampInt (-maxCode) maxCode (m0.code + dir)
      let m1 := { m0 with lastErr := err, lastCode := m0.code, code := code }
      if code = m0.code then { m1 with satTicks := m0.satTicks + 1, saturated := m0.saturated || decide (64 ≤ m0.satTicks + 1) }
      else { m1 with satTicks := 0 }
  else if 3 < err.natAbs then
    let run := if sgn err = sgn m0.heldErr then m0.runSame + 1 else 1
    let m1 := { m0 with runSame := run, heldErr := if sgn err = sgn m0.heldErr then m0.heldErr else err }
    if 16 ≤ run then { m1 with settled := false, lastErr := 0, runSame := 0 } else m1
  else m0

/-- The output of a rail that steps to zero: one code, and high impedance at code zero (R188). -/
def MarginOut.stepDown (m : MarginOut) : MarginOut :=
  let c := m.code - sgn m.code
  if c = 0 then m.released else { m with code := c }

/-- The loop of one rail toward a target, on the readings since its last tick (R189 to R192). -/
def MarginOut.track (t : Int) (polarity maxCode : Int) (m : MarginOut) : MarginOut :=
  let m1 := if m.target = some t then m else { m with target := some t, settled := false, lastErr := 0, runSame := 0 }
  match m.fresh with
  | none => { m1 with staleTicks := m1.staleTicks + 1, stale := m1.stale || decide (10 ≤ m1.staleTicks + 1) }
  | some v => marginStep t v polarity maxCode m1

/-- The loop of one rail at a tick (R188 to R192). A usable result ends STALE in every mode, and no result outlasts the tick. -/
def marginLoop (s : State) (r : Nat) : MarginOut :=
  let m := (rail s r).margin
  let m1 :=
    if m.mode = 0 then (if m.driving then m.stepDown else m)
    else if m.mode = 1 then m
    else m.track (marginTarget s r m.mode) (pv s 0x0602 r) (pv s 0x0608 r)
  let m2 := if m.fresh.isSome then { m1 with stale := false, staleTicks := 0 } else m1
  { m2 with fresh := none }

/-- One loop tick of one rail (R188 to R193). WARNING comes as the loop reaches 64 ticks at its bound, once per entry (R192; assumption
67). -/
def marginTickRail (before : State) (s : State) (r : Nat) : State :=
  let m := (rail s r).margin
  let s1 := windowsFollow (windowShift before r) r s
  let m2 := marginLoop s1 r
  let s2 := onRail r (fun x => { x with margin := m2 }) s1
  if m2.satTicks = 64 ∧ m.satTicks = 63 then post 0x0502 0 r (3 ||| s16 (m.fresh.getD 0) <<< 16) s2 else s2

/-- A tick of the margin loops: firmware moves each code by at most one (R189, R191). The loop pauses while firmware does
not run (chapter 04, "When a core reset meets margining"). -/
def marginLoopTick (s : State) : State :=
  if fwWorks s then allRails.foldl (marginTickRail s) (takeOcc .loopTick s) else s

/-- MARGIN_SET (R186, R697). On a DISABLING rail, which the rule does not name, it is refused as on one that is OFF (DESIGN CHOICE,
assumption 73). -/
def marginSetBody (_r : Req) (pl : Bytes) (s : State) : Reply :=
  let r := byteAt pl 0
  let mode := byteAt pl 1
  if !present s r then refuse stRange s
  else if pv s 0x0601 r = 0 then refuse stDenied s
  else
    match (rail s r).st with
    | .on => .done stOk [byte 0] (setMargin r mode s)
    | .forcedOn => .done stOk [byte 0] (setMargin r mode s)
    | .enabling => .done stOk [byte 1] (holdMargin r mode s)
    | _ => refuse stModeForbids s

/-- MARGIN_SET. -/
def cmdMarginSet : CmdDef :=
  { code := 0x0600, caps := [capMargin], allow := allowAll, len := lenIs 2,
    range := fun b => decide (byteAt b 0 < 24) && decide (byteAt b 1 ≤ 4), nv := false, modes := anyMode, body := marginSetBody }

/-- MARGIN_STATUS (Table CMD.9). -/
def marginStatusBody (_r : Req) (pl : Bytes) (s : State) : Reply :=
  let r := byteAt pl 0
  let m := (rail s r).margin
  .done stOk (leBytes 1 r ++ leBytes 1 m.mode ++ leInt 2 m.code ++ leBytes 1 (bitsOf [m.settled, m.stale, m.saturated, m.held.isSome]) ++
    zeros 1 ++ leInt 2 (if 2 ≤ m.mode then marginTarget s r m.mode else 0) ++ leBytes 2 (valueField (rail s r).last)) s

/-- MARGIN_STATUS. -/
def cmdMarginStatus : CmdDef :=
  { code := 0x0601, caps := [capStatus], allow := allowAll, len := lenIs 1, range := fun b => decide (byteAt b 0 < 24),
    nv := false, modes := anyMode, body := marginStatusBody }

/-! ### Table steps (Table SEQ.5) -/

/-- END: the table ends (R89, R152). -/
def stepEnd (s : State) : State :=
  match readyStep 0 s with
  | some _ => finishRun .done s
  | none => s

/-- One rail of an ENABLE step: a rail that is FAULT_OFF or already enabled is left as it is (R227). An explicit enable
supersedes a pending join. -/
def enableOne (s : State) (r : Nat) : State :=
  let x := rail s r
  if x.en || x.st == .faultOff || x.st == .parked then s
  else onRun (fun q => { q with enabled := q.enabled ++ [r] }) (assertEn r .enabling s)

/-- ENABLE (R134, R137, R140). -/
def stepEnable (s : State) : State :=
  match readyStep 1 s with
  | some q => advance 1 ((switchMembers s q.table (stepTarget q.step)).foldl enableOne s)
  | none => s

/-- DISABLE (R134, R137, R140). -/
def stepDisable (s : State) : State :=
  match readyStep 2 s with
  | some q => bringPoll (advance 1 (disableAll (switchMembers s q.table (stepTarget q.step)) s))
  | none => s

/-- WAIT_PG begins: with nothing to wait for it completes; with a FAULT_OFF rail it ends at once with cause FAULT
(R140, R171, R197). -/
def stepWaitPg (s : State) : State :=
  match readyStep 3 s with
  | some q =>
    let ms := members s (stepTarget q.step)
    if ms.isEmpty then advance 1 s
    else if ms.any (fun r => (rail s r).st == .faultOff) then timeoutAction 3 s
    else waitStep ms s
  | none => s

/-- WAIT_BELOW begins (R140, R171). -/
def stepWaitBelow (s : State) : State :=
  match readyStep 4 s with
  | some q =>
    let ms := members s (stepTarget q.step)
    if ms.isEmpty then advance 1 s else waitStep ms s
  | none => s

/-- DELAY begins. -/
def stepDelay (s : State) : State :=
  match readyStep 5 s with
  | some _ => waitStep [] s
  | none => s

/-- WAIT_REQ begins. -/
def stepWaitReq (s : State) : State :=
  match readyStep 6 s with
  | some _ => waitStep [] s
  | none => s

/-- SET_OUT drives an output (R156). -/
def stepSetOut (s : State) : State :=
  match readyStep 7 s with
  | some q =>
    let o := stepTarget q.step
    let on := bit (stepArg q.step) 0
    advance 1 (onRun (fun x => if on && !x.outs.contains o then { x with outs := x.outs ++ [o] } else x) (setOut o on s))
  | none => s

/-- MARGIN sets a mode; with WAIT it waits for SETTLED (R185, R186, R192). A rail that cannot take the mode keeps it. -/
def stepMargin (s : State) : State :=
  match readyStep 8 s with
  | some q =>
    let r := stepTarget q.step
    let mode := stepArg q.step % 8
    let x := rail s r
    if !present s r || x.st == .parked then advance 1 s
    else
      let s1 := if pv s 0x0601 r = 1 then
          (if x.st.isOn then setMargin r mode s else if x.st == .enabling then holdMargin r mode s else s) else s
      if bit (stepArg q.step) 3 then waitStep [r] s1 else advance 1 s1
  | none => s

/-- IF_MODULE decides, or waits for the first sweep (R166 to R168). -/
def stepIfModule (s : State) : State :=
  match readyStep 9 s with
  | some q => if fromRecalled s && stepTime q.step != 0 then waitStep [] s else decideModule q s
  | none => s

/-- HOLD_OFF holds the rail's discharge switch closed (Table SEQ.2): until the TICK before EN is asserted, nothing opens it. -/
def holdsClosed (s : State) (r : Nat) : Bool := pv s 0x040C r == 2 && !(rail s r).en

/-- One rail of a DISCHARGE step: never closed on an enabled rail (R135), and never opened on one that HOLD_OFF holds closed. -/
def dischargeOne (close : Bool) (s : State) (r : Nat) : State :=
  if (close && (rail s r).en) || (!close && holdsClosed s r) then s else onRail r (fun x => { x with ds := close }) s

/-- A DISCHARGE step is counted where it would close the switch of an enabled rail: one for the step, whatever its group holds (R135, Table
CMD.7). -/
def countNoEffect (rs : List Nat) (s : State) : State :=
  if rs.any (fun r => (rail s r).en) then { s with eng := { s.eng with dsNoEffect := satAdd 0xFFFF s.eng.dsNoEffect 1 } } else s

/-- DISCHARGE (R135, R137). -/
def stepDischarge (s : State) : State :=
  match readyStep 10 s with
  | some q =>
    let t := stepTarget q.step
    if bit (stepArg q.step) 0 then
      let rs := switchMembers s q.table t
      advance 1 (rs.foldl (dischargeOne true) (countNoEffect rs s))
    else advance 1 ((members s t).foldl (dischargeOne false) s)
  | none => s

/-- EVENT posts TABLE_DONE with MARK (R143). -/
def stepEvent (s : State) : State :=
  match readyStep 12 s with
  | some q => advance 1 (post 0x0401 1 q.table (q.idx ||| stepArg q.step <<< 8) s)
  | none => s

/-- A covered rail has met the condition of its WAIT_PG, or of its WAIT_BELOW: below rail.off_mv, or below the step's own threshold in the
last off judgement (R133, Table SEQ.5). -/
def memberMet (s : State) (step : Bytes) (r : Nat) : Bool :=
  let x := rail s r
  x.st == .parked ||
    (if stepOp step = 3 then x.pg
     else if stepArg step = 0 then x.below
     else (x.offMv.map (fun v => decide (v < (stepArg step : Int)))).getD false)

/-- The condition of the waiting step holds (Table SEQ.5): every covered rail good or below, the REQ input at its level, the module decided,
the loop settled. -/
def waitHolds (s : State) (q : Run) : Bool :=
  match stepOp q.step with
  | 3 => q.cover.all (memberMet s q.step)
  | 4 => q.cover.all (memberMet s q.step)
  | 6 => vget s.eng.reqLevel (stepTarget q.step) false == bit (stepArg q.step) 0
  | 8 => (rail s (stepTarget q.step)).margin.settled
  | 9 => !fromRecalled s
  | _ => false

/-- The condition of a waiting step is met; the step completes (R145). -/
def waitMet (s : State) : State :=
  match waitingRun s with
  | some q => if waitHolds s q then (if stepOp q.step = 9 then decideModule q s else advance 1 s) else s
  | none => s

/-- A waiting step times out (R142, R153); an IF_MODULE decides from the recalled image instead (R168). -/
def waitTimeout (s : State) : State :=
  match waitingRun s with
  | some q =>
    match stepOp q.step with
    | 9 => decideModule q s
    | 5 => s
    | 6 => if stepTime q.step = 0 then s else timeoutAction 0 s
    | _ => timeoutAction 0 s
  | none => s

/-- The time of a DELAY step has elapsed (R145). -/
def delayElapsed (s : State) : State :=
  match waitingRun s with
  | some q => if stepOp q.step = 5 then advance 1 s else s
  | none => s

/-! ### Judgements of the engine -/

/-- Pnn_PG and the sense voltage have stood at `ball` and `mv` for 4 TICKs. Where the rail's PG source reads good there, PG is good, and an
enabled rail becomes ON (R128, R129). -/
def pgGood (r : Nat) (ball : Bool) (mv : Int) (s : State) : State :=
  if present s r && pgSource s r ball (windowAfter s r mv) then
    let s1 := onRail r (fun x => { x with pg := true, pgArmed := true, tonRun := false }) (seePg r ball mv s)
    bringPoll (if (rail s1 r).st = .enabling then reachOn r s1 else s1)
  else s

/-- The off comparator of a rail has read `mv` for 4 TICKs (R133). Below rail.off_mv the rail is below, a DISABLING rail is OFF, also past
its TOFF_MAX (R127), and an unwind goes on (R154); at or above it the rail is not below. -/
def railBelowOff (r : Nat) (mv : Int) (s : State) : State :=
  let low := decide (mv < pv s 0x040B r)
  let s1 := onRail r (fun x => { x with below := low, offMv := some mv }) s
  if low && (rail s1 r).toffRun then unwindPoll (fellBelow r s1)
  else if low && (rail s1 r).st == .disabling then setSt r .off s1
  else s1

/-- The wait of the running table ends at the bound of a covered rail that has not met its condition, where its TIME is 0 (R142). -/
def boundEnds (op r : Nat) (s : State) : State :=
  match waitingRun s with
  | some q =>
    if stepOp q.step = op ∧ stepTime q.step = 0 ∧ q.cover.contains r = true ∧ memberMet s q.step r = false then timeoutAction 0 s else s
  | none => s

/-- The table that an edge on a REQ input asks for, with its function (Table SEQ.8). -/
def reqTable (s : State) (input : Nat) (rising : Bool) : Option (Nat × Nat) :=
  let f := (pn s 0x0412 >>> (4 * input)) % 16
  match f with
  | 1 => some (1, if rising then 0 else 1)
  | 2 => some (2, if rising then 2 else 3)
  | 3 | 4 | 5 | 6 => if rising then some (f, f + 1) else none
  | _ => none

/-- An edge of a REQ input that has held for 20 µs (R159 to R162). -/
def reqEdge (input : Nat) (rising : Bool) (s : State) : State :=
  if s.eng.driven && decide (input < 8) && vget s.eng.reqLevel input rising != rising then
    let s1 := { s with eng := { s.eng with reqLevel := vset s.eng.reqLevel input rising } }
    match reqTable s1 input rising with
    | none => s1
    | some (f, t) =>
      if s1.eng.run.isSome then
        { s1 with eng := { s1.eng with reqPend := s1.eng.reqPend.filter (fun q => q.fn != f) ++ [{ fn := f, table := t }] } }
      else actReq t s1
  else s

/-- The conditions of a pending join hold (R176): its rail's EN is asserted (R177). Where TBL0 gives no join any more the
rail is OFF. -/
def joinRun (r : Nat) (s : State) : State :=
  if present s r && (rail s r).st == .joinPending && s.eng.run.isNone && !s.eng.suspended then
    match joinPlan s r with
    | none => setSt r .off s
    | some (prior, time) =>
      if prior.all (fun p => (rail s p).st == .on) then
        assertEn r .enabling { s with eng := { s.eng with join := s.eng.join ++ [{ rail := r, time := time }] } }
      else s
  else s

/-! ### Commands (Table CMD.7) -/

/-- A sequence that runs covers a rail's channel: the rail is watched (chapter 05, "Slow limits and warnings"). -/
def watched (s : State) (r : Nat) : Bool :=
  (List.range 8).any (fun q =>
    let d := pb s 0x0706 q
    ((s.msr.seqs[q]?).map (fun x => x.running)).getD false && pv s 0x0708 q == 0 &&
      (List.range (byteAt d 0)).any (fun k => byteAt d (8 + 4 * k) == r))

/-- The rails reported UNWATCHED. -/
def unwatched (s : State) : List Bool := allRails.map (fun r => present s r && !watched s r)

/-- RAIL_STATE (Table CMD.7). -/
def railStateBody (_r : Req) (_pl : Bytes) (s : State) : Reply :=
  .done stOk (allRails.flatMap (fun r =>
    let x := rail s r
    leBytes 1 (railSt s r).code ++ leBytes 1 (bitsOf [x.en, x.pg, x.ds, x.margin.driving, present s r && !watched s r]) ++
      leBytes 2 (valueField x.last))) s

/-- RAIL_STATE. -/
def cmdRailState : CmdDef :=
  { code := 0x0400, caps := [capStatus], allow := allowAll, len := lenIs 0, range := anyRange, nv := false, modes := anyMode,
    body := railStateBody }

/-- RAIL_FORCE (R180, R181), also on a rail that the bring-up of a service exit waits for (R94). -/
def railForceBody (_r : Req) (pl : Bytes) (s : State) : Reply :=
  let r := byteAt pl 0
  let x := rail s r
  if !present s r then refuse stRange s
  else if x.st = .parked then refuse stModeForbids s
  else if byteAt pl 1 = 1 then
    if x.st = .faultOff then refuse stModeForbids s
    else .done stOk [] (bringPoll (if x.en then setSt r .forcedOn s else assertEn r .forcedOn s))
  else if x.st = .faultOff then .done stOk [] s
  else .done stOk [] (bringPoll (disableRail r s))

/-- RAIL_FORCE. -/
def cmdRailForce : CmdDef :=
  { code := 0x0401, caps := [capService], allow := allowAll, len := lenIs 2,
    range := fun b => decide (byteAt b 0 < 24) && decide (byteAt b 1 ≤ 1), nv := false, modes := fun _ m => m == .service,
    body := railForceBody }

/-- STANDBY or RUN (Table CMD.1). -/
def stbRun : Bytes → Mode → Bool := fun _ m => m == .standby || m == .run

/-- TABLE_RUN (R148, R149, R691). -/
def tableRunBody (r : Req) (pl : Bytes) (s : State) : Reply :=
  let n := byteAt pl 0
  if n ≤ 1 then refuse stDenied s
  else if !startAllowed s n then refuse stModeForbids s
  else if s.eng.run.isSome then refuse stBusy s
  else .done stOk [] (engineStart n 0 r.tenant s)

/-- TABLE_RUN. -/
def cmdTableRun : CmdDef :=
  { code := 0x0402, caps := [capRailCtl], allow := allowAll, len := lenIs 1, range := fun b => decide (byteAt b 0 ≤ 7),
    nv := false, modes := stbRun, body := tableRunBody }

/-- TABLE_ABORT (R151, R691). Of a table that unwinds, it ends the unwind at once, with the rails not yet deasserted left enabled (DESIGN
CHOICE, assumption 74). -/
def tableAbortBody (_r : Req) (pl : Bytes) (s : State) : Reply :=
  let n := byteAt pl 0
  if n = 1 then refuse stDenied s
  else if runningTable s ≠ n then refuse stRange s
  else .done stOk [] (finishRun (.stopped 1) s)

/-- TABLE_ABORT. -/
def cmdTableAbort : CmdDef :=
  { code := 0x0403, caps := [capRailCtl], allow := allowAll, len := lenIs 1, range := fun b => decide (byteAt b 0 ≤ 7),
    nv := false, modes := stbRun, body := tableAbortBody }

/-- TABLE_READ (R164). -/
def tableReadBody (_r : Req) (pl : Bytes) (s : State) : Reply :=
  let n := byteAt pl 0
  let first := byteAt pl 1
  let count := byteAt pl 2
  let steps := vget s.eng.active n []
  .done stOk (pl ++ leBytes 1 (b2n (vget s.eng.pend n none).isSome) ++
    (List.range count).flatMap (fun k => steps.getD (first + k) (zeros 8))) s

/-- TABLE_READ. -/
def cmdTableRead : CmdDef :=
  { code := 0x0404, caps := [capStatus], allow := allowAll, len := lenIs 3,
    range := fun b => decide (byteAt b 0 ≤ 7) && decide (byteAt b 1 ≤ 63) && decide (1 ≤ byteAt b 2) && decide (byteAt b 2 ≤ 30) &&
      decide (byteAt b 1 + byteAt b 2 ≤ 64),
    nv := false, modes := anyMode, body := tableReadBody }

/-- The part buffer after a part, none where the part is out of order or overfills it (R692). -/
def joinPart (held : Option (Nat × List Bytes)) (n first : Nat) (steps : List Bytes) : Option (List Bytes) :=
  let before := if first = 0 then some [] else
    match held with
    | some (t, ss) => if t = n ∧ ss.length = first then some ss else none
    | none => none
  match before with
  | none => none
  | some ss => if 64 < ss.length + steps.length then none else some (ss ++ steps)

/-- Set a tenant's part buffer. -/
def setPart (n : Nat) (p : Option (Nat × List Bytes)) (s : State) : State := onTenant n (fun t => { t with part := p }) s

/-- TABLE_WRITE (R144, R163 to R165, R692). -/
def tableWriteBody (r : Req) (pl : Bytes) (s : State) : Reply :=
  let n := byteAt pl 0
  let steps := toSteps 30 (pl.drop 4)
  match joinPart (tenant s r.tenant).part n (byteAt pl 1) steps with
  | none => .done stRange [] (setPart r.tenant none s)
  | some ss =>
    if !bit (byteAt pl 3) 0 then .done stOk (leBytes 1 ss.length ++ [byte 0]) (setPart r.tenant (some (n, ss)) s)
    else
      match validTable s ss with
      | none => .done stRange [] (setPart r.tenant none s)
      | some tbl =>
        let s1 := setPart r.tenant none s
        let p : PendTable := { steps := tbl, persist := r.persist, fails := r.env.headD 0 != 0 }
        if s.eng.run.isNone then
          let q := activate n p s1
          .done q.1 (if q.1 = stOk then leBytes 1 ss.length ++ [byte 2] else []) q.2
        else .done stOk (leBytes 1 ss.length ++ [byte 1]) { s1 with eng := { s1.eng with pend := vset s1.eng.pend n (some p) } }

/-- TABLE_WRITE. A part of any length, count and first step that its ranges allow is taken to the part buffer. -/
def cmdTableWrite : CmdDef :=
  { code := 0x0405, caps := [capSeqEdit], allow := allowAll, len := fun b => decide (4 ≤ b.length) && (b.length == 4 + 8 * byteAt b 2),
    range := fun b => decide (byteAt b 0 ≤ 7) && decide (byteAt b 1 ≤ 63) && decide (1 ≤ byteAt b 2) && decide (byteAt b 2 ≤ 30) &&
      decide (byteAt b 3 ≤ 1),
    nv := false, modes := anyMode, body := tableWriteBody }

/-- SEQ_STATUS (Table CMD.7). -/
def seqStatusBody (_r : Req) (_pl : Bytes) (s : State) : Reply :=
  let e := s.eng
  .done stOk (leBytes 1 (runningTable s) ++ leBytes 1 ((e.run.map (fun q => q.idx)).getD 0) ++
    leBytes 1 (bitsOf [e.suspended, allRails.any (fun r => railSt s r == .joinPending)]) ++
    leBytes 1 (bitsOf ((List.range 8).map (fun n => (vget e.pend n none).isSome))) ++
    leBytes 1 (bitsOf ((List.range 6).map (fun f => e.reqPend.any (fun q => q.fn == f + 1)))) ++ zeros 1 ++
    leBytes 2 e.dsNoEffect ++ leBytes 2 e.ifRecalled ++ leBytes 2 e.contTimeouts ++ leBytes 4 e.lastStart) s

/-- SEQ_STATUS. -/
def cmdSeqStatus : CmdDef :=
  { code := 0x0406, caps := [capStatus], allow := allowAll, len := lenIs 0, range := anyRange, nv := false, modes := anyMode,
    body := seqStatusBody }

/-- Park a rail (R170, R179, R773). -/
def parkRail (r : Nat) (s : State) : State :=
  if (rail s r).st = .parked then s else bringPoll (endJoin r (deassertEn r .parked s))

/-- Unpark a rail (R173 to R175); none where RUN forbids it (R174). A rail that is not PARKED stays as it is (DESIGN CHOICE, assumption
70). -/
def unparkRail (r : Nat) (s : State) : Option State :=
  if (rail s r).st ≠ .parked then some s
  else
    let s1 := takeOcc .unpark s
    if s.core.mode ≠ .run then some (setSt r .off s1)
    else if !bit (pn s1 0x0414) r then none
    else if (joinPlan s1 r).isNone then some (setSt r .off s1)
    else some (setSt r .joinPending s1)

/-- RAIL_PARK (R169 to R175, R775). -/
def railParkBody (_r : Req) (pl : Bytes) (s : State) : Reply :=
  let r := byteAt pl 0
  if !present s r then refuse stRange s
  else if s.eng.run.isSome then refuse stBusy s
  else if byteAt pl 1 = 1 then
    let s1 := parkRail r s
    .done stOk (leBytes 1 (rail s1 r).st.code) s1
  else
    match unparkRail r s with
    | none => refuse stModeForbids s
    | some s1 => .done stOk (leBytes 1 (rail s1 r).st.code) s1

/-- RAIL_PARK. -/
def cmdRailPark : CmdDef :=
  { code := 0x0407, caps := [capRailCtl], allow := allowAll, len := lenIs 2,
    range := fun b => decide (byteAt b 0 < 24) && decide (byteAt b 1 ≤ 1), nv := false, modes := anyMode, body := railParkBody }

end Sys2Proof.Machine
end

