-- ==== Sys2Proof/Machine/Supervise.lean ====
section
/-! DEFINITION. Supervision: the fast comparators, sense checks, retries, fault reports, FAULTn, nALARM,
FAULT_SUMMARY, and FAULT_STATUS, FAULT_CLEAR and SENSE_CHECK (chapter 05, R693 to R695). -/

namespace Sys2Proof.Machine

/-! ### Detectors -/

/-- How far a sense voltage is past a fast threshold, in units of 1/512 mV (R199). -/
def fastPast (s : State) (r : Nat) (mv : Int) (id : Nat) : Int :=
  overSteps 512 (fullScale s r) (quantSteps 512 (fullScale s r) (threshold s id r)) mv

/-- The fast comparators of a rail after a reading, beyond the OV and beyond the UV threshold, each with 4 steps of hysteresis (R199); a
sense fault makes them read inside (R213). -/
def fastAfter (s : State) (r : Nat) (mv : Int) : Bool × Bool :=
  let x := rail s r
  let fs := fullScale s r
  let past := fastPast s r mv
  let ov := if 0 < past 0x0501 then true else if past 0x0501 ≤ -4 * fs then false else x.fastOv
  let uv := if past 0x0502 < 0 then true else if 4 * fs ≤ past 0x0502 then false else x.fastUv
  (ov && !x.frozen, uv && !x.frozen)

/-- The undervoltage comparator is still in its initial state after a reading, which lies inside the band (R105, R106). -/
def fastInitAfter (s : State) (r : Nat) (mv : Int) : Bool :=
  (rail s r).fastInit && (fastAfter s r mv).2 && decide (0 ≤ fastPast s r mv 0x0502)

/-- A reading of the fast comparators. -/
def seeFast (r : Nat) (mv : Int) (s : State) : State :=
  let p := fastAfter s r mv
  let init := fastInitAfter s r mv
  onRail r (fun x => { x with fastOv := p.1, fastUv := p.2, fastInit := init }) (seeSense r mv s)

/-- The fault-verify value reaches the setting that asked for it: its report, and its latch where that setting was its first (R201, R222). -/
def recordVerify (v : Verify) (value : Int) (s : State) : State :=
  { s with sup := { s.sup with
    reports := s.sup.reports.map (fun q =>
      if q.code = v.code ∧ q.src = v.rail ∧ q.tick = v.tick ∧ q.value.isNone = true then { q with value := some value, flags := q.flags ||| 0x10 } else q),
    latches := s.sup.latches.map (fun l =>
      if l.code = v.code ∧ l.src = v.rail ∧ l.tick = v.tick ∧ l.value.isNone = true then { l with value := some value } else l) } }

/-- The oldest fault-verify conversion has ended with a raw code (R341): its value is recorded where it came within 20 µs of the trip
(R201, R202). -/
def faultVerifyResult (r : Nat) (code : Int) (s : State) : State :=
  match s.sup.verify with
  | [] => s
  | v :: vs =>
    if v.rail ≠ r ∨ cycle s < v.ends then s
    else
      let s1 := countDone 0 { s with sup := { s.sup with verify := vs } }
      if v.ends ≤ v.from_ + 1600 then recordVerify v (reading s1 r 0 [code] [v.slice]).value s1 else s1

/-- One of the two conversions of a sense check, which is an urgent request (R210, R338): its value, none where it is dropped. -/
def senseConvert (r : Nat) (code : Int) (s : State) : Option Int × State :=
  match urgent 0 (sampleCycles 0) verifyCycles s with
  | (some j, s1) => (some (reading s1 r 0 [code] j.slices).value, countDone 0 s1)
  | (none, s1) => (none, s1)

/-- The two conversions of a sense check differ from the last usable result by 1/16 of full scale; the first that does is the value that
SENSE_OPEN records, and a rail without a usable result yet raises nothing (R211; DESIGN CHOICE, assumptions 75, 76). -/
def senseOpen (s : State) (r : Nat) (v1 v2 : Option Int) : Option Int :=
  match (rail s r).last with
  | none => none
  | some l => [v1, v2].findSome? (fun v => v.filter (fun x => decide (fullScale s r ≤ 16 * (x - l).natAbs)))

/-- The check of one rail with its two raw codes (R210, R211): what it finds open. -/
def senseCheckRail (r : Nat) (c1 c2 : Int) (s : State) : Bool × State :=
  let (v1, s1) := senseConvert r c1 s
  let (v2, s2) := senseConvert r c2 s1
  match senseOpen s2 r v1 v2 with
  | some v => (true, raiseRail 0x09 r (some v) r s2)
  | none => (false, s2)

/-- The rail may be checked (R210). -/
def sensable (s : State) (r : Nat) : Bool := present s r && (rail s r).st.isOn

/-- The next raw code of a request; one that is missing is a free value (assumption 3). -/
def takeCode : List Int → State → Int × List Int × State
  | c :: cs, s => (c, cs, s)
  | [], s => let p := drawFree s; (p.1, [], p.2)

/-- The periodic check of one rail after another, each with its two raw codes; those that the happening does not name are free values
(R210, assumption 3). -/
def senseRound (readings : List (Nat × Int × Int)) (s : State) (r : Nat) : State :=
  if sensable s r then
    let given := ((readings.find? (fun q => q.1 == r)).map (fun q => [q.2.1, q.2.2])).getD []
    let (c1, e1, s1) := takeCode given s
    let (c2, _, s2) := takeCode e1 s1
    (senseCheckRail r c1 c2 s2).2
  else s

/-- The periodic sense check of every rail that is ON or FORCED_ON, sup.sense_check_ms after the one before (R210). -/
def senseCheckPeriodic (readings : List (Nat × Int × Int)) (s : State) : State :=
  if s.clk.us < s.sup.senseAt + 1000 * pn s 0x050D then s
  else
    let s0 := takeOcc .check { s with sup := { s.sup with senseAt := s.clk.us } }
    if pv s0 0x050D = 0 then s0 else allRails.foldl (senseRound readings) s0

/-! ### Retries (R230 to R234) -/

/-- The conditions of the faults that a retry is for read absent, each on the rail that has it (R231): the detectors of OV_FAST, OV and
OT_MODULE as they read, those that are armed only on an enabled rail as not armed. -/
def conditionAbsent (s : State) (r : Nat) : Bool :=
  (rail s r).retryFor.all (fun p =>
    let x := rail s p.2
    match p.1 with
    | 0x01 => !x.fastOv
    | 0x03 => decide (x.cntOv < pn s 0x0508 p.2)
    | 0x0B => !x.otMod
    | _ => true)

/-- A retry runs: its delay has passed, the sense voltage reads `mv`, and its fault's condition reads absent (R231, R232). -/
def faultRetry (r : Nat) (mv : Int) (s0 : State) : State :=
  let s := seeFast r mv s0
  let x := rail s r
  if conditionAbsent s r && x.st == .faultOff && x.retryDue && s.eng.run.isNone && !severeLatched s && s.core.shipEntry != .begun then
    assertEn r .enabling (onRail r (fun y => { y with retryDue := false, retryFor := [], retryUsed := y.retryUsed + 1, retrying := true }) s)
  else s

/-- A rail has held ON for 1 s (R233). -/
def retryCountReset (r : Nat) (s : State) : State :=
  if (rail s r).st = .on then onRail r (fun x => { x with retryUsed := 0 }) s else s

/-- The 100 µs of FAULTn in PULSE mode end (R237). -/
def faultnPulseEnd (s : State) : State := { s with sup := { s.sup with pulse := false } }

/-! ### Reports (R241) -/

/-- The record window of a rail and code. -/
def findWindow (ws : List FaultWindow) (code src : Nat) : FaultWindow :=
  (ws.find? (fun w => w.code == code && w.src == src)).getD { code := code, src := src, times := [], missed := 0 }

/-- Replace a record window. -/
def putWindow (w : FaultWindow) (ws : List FaultWindow) : List FaultWindow :=
  w :: ws.filter (fun x => !(x.code == w.code && x.src == w.src))

/-- The payload of a FAULT record (Table SUP.7). -/
def faultPayload (q : Report) (missed : Nat) : Bytes :=
  leBytes 1 q.code ++ leBytes 1 q.src ++ leBytes 1 q.response ++ leBytes 1 q.flags ++ leBytes 4 q.tick ++
    leBytes 2 (s16 (q.value.getD 0)) ++ leBytes 1 q.mode ++ leBytes 1 q.retryNo ++ leBytes 1 q.chan ++ leBytes 1 q.table ++
    leBytes 2 missed

/-- The FAULT event of a report (Table CMD.17). -/
def faultEvent (q : Report) : Event :=
  { code := 0x0501, flags := q.flags, src := q.src, arg := q.code ||| q.response <<< 8 ||| valueField q.value <<< 16, tick := q.tick }

/-- Firmware reports a latch setting: the event, and the record unless 16 were written in the 60 s before (R241). -/
def reportOne (s : State) (q : Report) : State :=
  let s1 := postDeferred { ev := faultEvent q, own := none } s
  let w := findWindow s1.sup.windows q.code q.src
  let ts := w.times.filter (fun t => decide (q.us < t + 60000000))
  if 16 ≤ ts.length then
    { s1 with sup := { s1.sup with windows := putWindow { w with times := ts, missed := satAdd 0xFFFF w.missed 1 } s1.sup.windows } }
  else
    logRecordAt q.us 0x01 (faultPayload q w.missed)
      { s1 with sup := { s1.sup with windows := putWindow { w with times := ts ++ [q.us], missed := 0 } s1.sup.windows } }

/-- A setting still waits for its fault-verify value, for at most 20 µs (R202). -/
def awaitsValue (s : State) (q : Report) : Bool :=
  s.sup.verify.any (fun v => v.code == q.code && v.rail == q.src && v.tick == q.tick && decide (cycle s ≤ v.from_ + 1600))

/-- Firmware reports the oldest latch setting not reported yet, once its value is decided (R202). -/
def faultReport (s : State) : State :=
  match s.sup.reports with
  | [] => s
  | q :: qs => if fwWorks s && !awaitsValue s q then reportOne { s with sup := { s.sup with reports := qs } } q else s

/-- All that is left to report, in latch order (R47). -/
def reportAll (s : State) : State := s.sup.reports.foldl reportOne { s with sup := { s.sup with reports := [] } }

/-! ### Output pins and FAULT_SUMMARY (R237 to R240) -/

/-- FAULTn is driven low (R237); released until configuration recall (Table BAL.12). -/
def faultPin (s : State) : Bool :=
  powered s && s.core.recalled &&
    match pn s 0x0107 with
    | 0 => s.sup.latches.any (fun l => decide (2 ≤ l.response))
    | 1 => !s.sup.latches.isEmpty
    | _ => s.sup.pulse

/-- nALARM is driven low (R239, Table SUP.5); released until configuration recall (Table BAL.12). -/
def alarmPin (s : State) : Bool :=
  let m := pn s 0x0108
  powered s && s.core.recalled &&
    ((!bit m 0 && allRails.any (fun r => (rail s r).warnOv || (rail s r).warnUv)) ||
      (!bit m 1 && s.sup.latches.any (fun l => decide (1 ≤ l.response))) ||
      (!bit m 2 && s.sup.dieWarn) ||
      (!bit m 3 && allRails.any (fun r => (rail s r).margin.saturated)))

/-- FAULT_SUMMARY (Table SUP.6). -/
def faultSummary (s : State) : Nat :=
  let f := match s.sup.first with
    | some (c, r, _) => c ||| (if r < 24 then r else 0x1F) <<< 8
    | none => 0x1F <<< 8
  f ||| b2n (faultPin s) <<< 13 ||| b2n (alarmPin s) <<< 14 ||| b2n (!s.sup.latches.isEmpty) <<< 15 |||
    (min 255 s.sup.latches.length) <<< 16 ||| b2n ((unwatched s).any id) <<< 24

/-! ### Commands (Table CMD.8) -/

/-- The latches in the order of FAULT_STATUS (R694). -/
def sortedLatches (s : State) : List Latch :=
  s.sup.latches.foldr (fun l ls =>
    ls.takeWhile (fun x => decide (x.src * 256 + x.code < l.src * 256 + l.code)) ++ l ::
      ls.dropWhile (fun x => decide (x.src * 256 + x.code < l.src * 256 + l.code))) []

/-- One entry of FAULT_STATUS. -/
def latchEntry (l : Latch) : Bytes :=
  leBytes 1 l.code ++ leBytes 1 l.src ++ leBytes 2 l.count ++ leBytes 4 l.tick ++ leBytes 2 (valueField l.value)

/-- FAULT_STATUS (Table CMD.8). -/
def faultStatusBody (_r : Req) (pl : Bytes) (s : State) : Reply :=
  let es := ((sortedLatches s).drop (byteAt pl 0)).take 22
  let f := s.sup.first.getD (0, 0xFF, 0)
  .done stOk (leBytes 1 f.1 ++ leBytes 1 f.2.1 ++ leBytes 4 f.2.2 ++ leBytes 1 (min 255 s.sup.latches.length) ++ leBytes 1 es.length ++
    leBytes 3 (bitsOf (unwatched s)) ++ zeros 1 ++ es.flatMap latchEntry) s

/-- FAULT_STATUS. -/
def cmdFaultStatus : CmdDef :=
  { code := 0x0500, caps := [capStatus], allow := allowAll, len := lenIs 1, range := anyRange, nv := false, modes := anyMode,
    body := faultStatusBody }

/-- A pair names a fault of Tables SUP.1 and SUP.2 (R694). -/
def pairOk (p : Nat × Nat) : Bool :=
  if p.2 < 24 then isRailFault p.1 else globalByte p.1 p.2 && isGlobalFault p.1

/-- The pairs of a FAULT_CLEAR payload. -/
def clearPairs (pl : Bytes) : List (Nat × Nat) :=
  (List.range (byteAt pl 0)).map (fun k => (byteAt pl (1 + 2 * k), byteAt pl (2 + 2 * k)))

/-- A rail that FAULT_CLEAR may return to OFF: FAULT_OFF with no set latch whose response turned it off (R235). -/
def releasable (s : State) (r : Nat) : Bool :=
  (rail s r).st == .faultOff && !s.sup.latches.any (fun l => l.offRails.contains r)

/-- A rail returns to OFF with its detectors at their initial states and its retries reset (R233, R235, R105). -/
def releaseRail (s : State) (r : Nat) : State :=
  setSt r .off (restartOc r (onRail r (fun x =>
    let y := restartCounts x
    { y with scanOff := false, pg := false, ball := false, win := false, fastOv := false, fastUv := true, fastInit := true, pgArmed := false,
             below := false, offMv := none, retryUsed := 0, retryDue := false, retrying := false,
             cntRev := 0, warnOv := false, warnUv := false }) s))

/-- The detector of a cleared latch starts again from its count, so that a condition that still holds latches again after its filter
(R235); the retries of the rails that its response turned off reset (R233). -/
def restartDetector (s : State) (l : Latch) : State :=
  let s1 := l.offRails.foldl (fun t r => onRail r (fun x => { x with retryUsed := 0 }) t) s
  if l.src < 24 then
    let s2 := onRail l.src (fun x => { x with
      retryUsed := 0
      cntOv := if l.code = 0x03 then 0 else x.cntOv
      cntUv := if l.code = 0x04 then 0 else x.cntUv
      cntRev := if l.code = 0x0A then 0 else x.cntRev }) s1
    if l.code = 0x0C then restartOc l.src s2 else s2
  else
    match l.code with
    | 0x0C => restartOc 0xFF s1
    | 0x13 => { s1 with sup := { s1.sup with batOvCnt := 0 } }
    | 0x15 => { s1 with chg := { s1.chg with otHit := false } }
    | 0x20 => { s1 with sup := { s1.sup with dieSeen := false } }
    | _ => s1

/-- What a sense fault froze is released where no sense latch of the rail is left (R213). -/
def thawRail (s : State) (r : Nat) : State :=
  if (rail s r).frozen && !s.sup.latches.any (fun l => l.src == r && (l.code == 0x09 || l.code == 0x0A)) then
    onRail r (fun x => { x with frozen := false }) s
  else s

/-- Clear the latches that `hit` names (R223, R233, R235). -/
def clearLatches (hit : Latch → Bool) (s : State) : State :=
  let gone := s.sup.latches.filter hit
  let left := s.sup.latches.filter (fun l => !hit l)
  let s1 := { s with sup := { s.sup with latches := left, first := if left.isEmpty then none else s.sup.first } }
  let s2 := gone.foldl restartDetector s1
  let s3 := allRails.foldl thawRail s2
  let out := allRails.filter (releasable s3)
  let s4 := out.foldl releaseRail s3
  let s5 := if s4.sup.executing < 6 ∧ runningTable s4 ≠ 1 then { s4 with sup := { s4.sup with executing := 0 } } else s4
  if s5.core.mode = .standby ∧ out.any (fun r => pv s5 0x040E r == 1) = true then startBringUp s5 else s5

/-- FAULT_CLEAR (R235, R694). -/
def faultClearBody (_r : Req) (pl : Bytes) (s : State) : Reply :=
  let ps := clearPairs pl
  let hit := fun (l : Latch) => ps.isEmpty || ps.any (fun p => sameLatch l p.1 p.2)
  .done stOk (leBytes 1 (s.sup.latches.filter hit).length) (clearLatches hit s)

/-- FAULT_CLEAR. -/
def cmdFaultClear : CmdDef :=
  { code := 0x0501, caps := [capFaultClear], allow := allowAll, len := fun b => decide (1 ≤ b.length) && (b.length == 1 + 2 * byteAt b 0),
    range := fun b => decide (byteAt b 0 ≤ 64) && (clearPairs b).all pairOk, nv := false, modes := anyMode, body := faultClearBody }

/-- What SENSE_CHECK has found so far. -/
structure SenseScan where
  checked : List Nat
  opened : List Nat
  skipped : List Nat
  aborted : Bool
  env : List Int
deriving DecidableEq, Repr

/-- The rails of a mask that a response has turned off. -/
def lostOf (mask : Nat) (s0 s : State) : Bool :=
  allRails.any (fun r => bit mask r && (rail s0 r).st.isOn && (rail s r).st == .faultOff)

/-- SENSE_CHECK of one rail after another (R210, R214, R695). -/
def senseScan (mask : Nat) : List Nat → SenseScan → State → SenseScan × State
  | [], a, s => (a, s)
  | r :: rs, a, s =>
    if !bit mask r then senseScan mask rs a s
    else if !sensable s r then senseScan mask rs { a with skipped := a.skipped ++ [r] } s
    else
      let (c1, e1, s1) := takeCode a.env s
      let (c2, e2, s2) := takeCode e1 s1
      let p := senseCheckRail r c1 c2 s2
      let a1 := { a with checked := a.checked ++ [r], opened := if p.1 then a.opened ++ [r] else a.opened, env := e2 }
      if lostOf mask s p.2 then ({ a1 with aborted := true }, p.2) else senseScan mask rs a1 p.2

/-- A mask of three bytes from a list of rails. -/
def maskBytes (rs : List Nat) : Bytes := leBytes 3 (bitsOf (allRails.map (fun r => rs.contains r)))

/-- SENSE_CHECK (R214, R695). -/
def senseCheckBody (r : Req) (pl : Bytes) (s : State) : Reply :=
  let q := senseScan (fieldAt pl 0 3) allRails { checked := [], opened := [], skipped := [], aborted := false, env := r.env } s
  if q.1.aborted then .done stAbortedFault [] q.2
  else .done stOk (maskBytes q.1.checked ++ maskBytes q.1.opened ++ maskBytes q.1.skipped) q.2

/-- SENSE_CHECK. -/
def cmdSenseCheck : CmdDef :=
  { code := 0x0503, caps := [capRailCtl], allow := allowAll, len := lenIs 3, range := anyRange, nv := false, modes := anyMode,
    body := senseCheckBody }

end Sys2Proof.Machine
end

