-- ==== Sys2Proof/Machine/Measure.lean ====
section
/-! DEFINITION. Converters and measurement: coding and correction, slice rotation, sequences and frames, triggers, result
records with their flags, rings, and thermistor temperatures (chapters 07 and 08, R696 to R699). -/

namespace Sys2Proof.Machine

/-! ### Result records (R342, R355) -/

/-- Flags of a result record (Table MSR.8). -/
def recordFlags (overR suspect opened restarted hi lo sync rotated : Bool) : Nat :=
  bitsOf [overR, suspect, opened, restarted, hi, lo, sync, rotated]

/-- The 8 bytes of a result record (Table MSR.7). -/
def recordBytes (v : Int) (ch flags hold : Nat) : Bytes := leInt 2 v ++ leBytes 1 ch ++ leBytes 1 flags ++ leBytes 4 hold

/-- OPEN of a channel apart from what the converter knows: a rail whose SENSE_OPEN latch is set (Table MSR.8). -/
def latchOpen (s : State) (ch : Nat) : Bool := decide (ch < 24) && s.sup.latches.any (fun l => l.code == 0x09 && l.src == ch)

/-- A result with its flags decided. -/
structure Result where
  ch : Nat
  value : Int
  high : Bool
  low : Bool
  usable : Bool
  flags : Nat
  hold : Nat
deriving DecidableEq, Repr

/-- What the schedule knows of the conversions behind a result: the slices in the order of the oversamples, the channel correction, the TICK
of the first hold, and SUSPECT, OPEN, RESTARTED and SYNC. -/
structure Origin where
  slices : List Nat
  cor : Int × Int
  hold : Nat
  suspect : Bool
  opened : Bool
  restarted : Bool
  sync : Bool
deriving DecidableEq, Repr

/-- The result of raw codes of a channel at a PGA code (R342, R355). -/
def resultOf (s : State) (ch pga : Nat) (codes : List Int) (o : Origin) : Result :=
  let d := readingWith s o.cor ch pga codes o.slices
  let opened := o.opened || latchOpen s ch
  let fresh := (convOf s ch).fresh
  let f := recordFlags (d.high || d.low) o.suspect opened o.restarted (decide (pv s 0x070D ch < d.value)) (decide (d.value < pv s 0x070E ch))
    o.sync (o.slices.any (fun k => fresh.contains k))
  { ch := ch, value := d.value, high := d.high, low := d.low, usable := !o.suspect && !opened, flags := f, hold := o.hold }

/-- The slices have carried their first result since they took a position (R301). -/
def spentFresh (conv : Nat) (slices : List Nat) (s : State) : State :=
  onConv conv (fun k => { k with fresh := k.fresh.filter (fun x => !slices.contains x) }) s

/-! ### Spare-slice rotation (R298 to R304) -/

/-- The converter that a CAL_SYSTEM run uses: 0 SWA, 1 SWB, none for PIPE (R311). -/
def calConv (s : State) : Option Nat :=
  match s.msr.cal with
  | some c => if 0x80 ≤ c.channel ∨ c.written.isSome = true then none else some (b2n (isSwb c.channel))
  | none => none

/-- The reference DAC's points on a converter, in q4 of the raw code: 1/16, 1/4, 1/2, 3/4 and 15/16 of the slice's span (R299). -/
def dacPoints (conv : Nat) : List Int :=
  let span : Int := if conv = 0 then 16384 else 65536
  [span, 4 * span, 8 * span, 12 * span, 15 * span]

/-- The nearest integer to a quotient; a free value where the divisor is 0 (assumption 15). -/
def nearest (a b : Int) : Int :=
  if b = 0 then Config.divByZero a else if b < 0 then (2 * -a + -b) / (2 * -b) else (2 * a + b) / (2 * b)

/-- Gain and offset of the least-squares line through the five means (R299): the line gives the mean raw code in q4 over the point, the
offset is its value at 0 and the gain, in 2^-15, the inverse of its slope. Both are rounded to nearest (DESIGN CHOICE, assumption 78). -/
def fitSlice (conv : Nat) (points : List (List Int)) : Int × Int :=
  let xs := dacPoints conv
  let ys := points.map (fun cs => 16 * cs.sum)
  let sx := xs.sum
  let sy := ys.sum
  let sxy := ((xs.zip ys).map (fun p => p.1 * p.2)).sum
  let sxx := (xs.map (fun x => x * x)).sum
  let d := 5 * sxx - sx * sx
  let n := 5 * sxy - sx * sy
  (nearest (sy * sxx - sx * sxy) (64 * d), nearest (32768 * 64 * d) n)

/-- The coefficients that the calibration of the spare gives; the skew keeps to its range of steps (R295, R299). -/
def calibrated (conv : Nat) (m : Rotation) : Slice :=
  let p := fitSlice conv m.points
  { off := p.1, gain := p.2, skew := clampInt (-128) 127 m.skew }

/-- The sum over 64 pairs of the differences between shadow and active conversions, slice-corrected in q4 (R300). -/
def shadowSum (spare active : Slice) (ps : List (Int × Int)) : Int :=
  (ps.map (fun p => sliceCorrect spare p.1 - sliceCorrect active p.2)).sum

/-- A mean within 2 LSB over 64 shadow conversions (R300). -/
def qualifies (sum : Int) : Bool := decide (sum.natAbs ≤ 2 * 16 * 64)

/-- A position has completed no conversion for 1 ms (R303). -/
def quietMs (s : State) (conv i : Nat) : Bool :=
  decide ((converter s conv).lastEnd.getD (if conv = 0 then i else 0) 0 + 80000 ≤ cycle s)

/-- What a step measures is what R299, R300 and R303 have it measure: 64 conversions at each point and 64 pairs, of which those on the
reference DAC only where the position has been without conversions for 1 ms. -/
def rotationOk (s : State) (conv : Nat) (m : Rotation) : Bool :=
  let c := converter s conv
  let next := (c.p + 1) % c.pos.length
  m.points.length == 5 && m.points.all (fun cs => cs.length == 64) &&
    (m.live.length + m.dac.length == 64) && (m.dac.isEmpty || quietMs s conv c.p) &&
    (m.liveNext.length + m.dacNext.length == 64) && (m.dacNext.isEmpty || quietMs s conv next)

/-- A rotation step runs (R298 to R300, R304): the spare takes its new coefficients and is qualified against position p, then against the
next; a qualified spare swaps at the conversion boundary, one that is not is held. -/
def rotate (conv : Nat) (m : Rotation) (s : State) : State :=
  let c := converter s conv
  let new := calibrated conv m
  let at_ := fun (i : Nat) => c.coef.getD (c.pos.getD i 0) sliceIdle
  let s1 := onConv conv (fun x => { x with coef := x.coef.set x.spare new, due := none }) s
  if qualifies (shadowSum new (at_ c.p) (m.live ++ m.dac)) ||
      qualifies (shadowSum new (at_ ((c.p + 1) % c.pos.length)) (m.liveNext ++ m.dacNext)) then
    onConv conv (fun x => { x with swapDue := true, spareWas := some (c.coef.getD c.spare sliceIdle), spareSt := .ready }) s1
  else
    let f := c.fails + 1
    let perm := decide (3 ≤ f)
    post 0x0704 (b2n perm) conv (c.spare ||| f <<< 8)
      (onConv conv (fun x => { x with spareSt := if perm then .permanent else .held, fails := f, qualFails := x.qualFails + 1 }) s1)

/-- ROTATION_STEP (R298): the rotation period expires. During CAL_SYSTEM the step waits for the end of the run (R311). -/
def rotationStep (conv : Nat) (m : Rotation) (s : State) : State :=
  let s0 := catchUp (takeOcc (if conv = 0 then .rotationSwa else .rotationSwb) s)
  let c := converter s0 conv
  if !convRuns s0 || c.spareSt == .permanent || c.swapDue || !rotationOk s0 conv m then s0
  else if calConv s0 = some conv then onConv conv (fun x => { x with due := some m }) s0
  else rotate conv m s0

/-- SLICE_SWAP (R301, R302): the spare takes position p. A conversion that the outgoing slice holds keeps it, and the next one issued there
goes to the incoming slice; an SWB pair is issued with both its slices. -/
def sliceSwap (conv : Nat) (s : State) : State :=
  if calConv s = some conv then s
  else
    onConv conv (fun c =>
      if c.swapDue then
        { c with pos := c.pos.set c.p c.spare, spare := c.pos.getD c.p 0, p := (c.p + 1) % c.pos.length, fails := 0,
                 rotations := c.rotations + 1, swapDue := false, spareWas := none, spareSt := .ready, fresh := c.fresh ++ [c.spare] }
      else c) (catchUp s)

/-! ### Descriptor checks (R319 to R322) -/

/-- The size of the SWA group that ends at entry `k`. -/
def groupUpTo (d : Bytes) : Nat → Nat
  | 0 => 1
  | k + 1 => if holdsPrev d (k + 1) then groupUpTo d k + 1 else 1

/-- An SWA entry is valid (R320). -/
def swaEntryOk (d : Bytes) (k : Nat) : Bool :=
  let e := descEntry d k
  let p := descEntry d (k - 1)
  decide (byteAt e 0 ≤ 0x35) && (byteAt e 1 &&& 0x0C == 0) && (byteAt e 1 % 4 == 0 || decide (byteAt e 0 ≤ 0x27)) &&
    decide (1 ≤ byteAt e 2) && decide (byteAt e 2 ≤ 64) && decide (byteAt e 3 ≤ 1) &&
    (!holdsPrev d k || (k != 0 && decide (groupUpTo d k ≤ 4) && byteAt e 1 / 16 == byteAt p 1 / 16 && byteAt e 2 == byteAt p 2))

/-- An SWB entry is valid (R320). -/
def swbEntryOk (d : Bytes) (k : Nat) : Bool :=
  let e := descEntry d k
  [0x40, 0x41, 0x43, 0x44, 0x45, 0x47].contains (byteAt e 0) && [0x42, 0x46, 0xFF].contains (byteAt e 1) &&
    decide (1 ≤ byteAt e 2) && decide (byteAt e 2 ≤ 64) && byteAt e 3 == 0

/-- A descriptor converts a channel at a position. -/
def descHas (d : Bytes) (a : Nat) : Bool := (List.range (descCount d)).any (fun k => byteAt (descEntry d k) 0 == a)

/-- A descriptor converts a pair. -/
def descHasPair (d : Bytes) (a b : Nat) : Bool :=
  (List.range (descCount d)).any (fun k => byteAt (descEntry d k) 0 == a && byteAt (descEntry d k) 1 == b)

/-- A system sequence keeps what Table MSR.4 requires (R322); `ts` is chg.ts_channel. -/
def systemOk (q ts : Nat) (d : Bytes) : Bool :=
  if q = 6 then descHas d 0x30 && descHas d 0x34 && descHas d (0x28 + ts)
  else if q = 7 then descHasPair d 0x40 0x42 && descHasPair d 0x41 0x42 && descHasPair d 0x45 0x46 && descHas d 0x44
  else true

/-- A descriptor of sequence `q` on a converter is valid (R320); `running` as the sequence stands. -/
def descOk (q conv ts : Nat) (running : Bool) (d : Bytes) : Bool :=
  (byteAt d 1 &&& 0x7C == 0) && decide (byteAt d 2 ≤ 1) && fieldAt d 3 5 == 0 &&
    (List.range (descCount d)).all (fun k => if conv = 0 then swaEntryOk d k else swbEntryOk d k) &&
    systemOk q ts d && !(running && descCount d == 0)

/-! ### Sequences and frames -/

/-- The trigger mode of a sequence (Table MSR.5). -/
def trigMode (s : State) (q : Nat) : Nat := pn s 0x0707 q % 16

/-- The DMA channel that a descriptor's records go to, none for NONE, for a ring not attached and for a PIPE stream
(Table MSR.1, R353, R360). -/
def descRing (s : State) (d : Bytes) : Option Nat :=
  let k := byteAt d 1 % 4
  if bit (byteAt d 1) 7 || !(ringOf s k).attached || (ringOf s k).pipe.isSome then none else some k

/-- Records that a frame produces: one per SWA entry and one per SWB channel (R342). -/
def frameRecords (conv : Nat) (d : Bytes) : Nat :=
  if conv = 0 then descCount d
  else ((List.range (descCount d)).map (fun k => if byteAt (descEntry d k) 1 = 0xFF then 1 else 2)).sum

/-- Read the consumer's RD and bring the 64-bit count up to it; FULL holds while WR − RD equals the size (R347, R349, R351). -/
def ringSync (d : Nat) (s : State) : State :=
  let rd := readNat s ((ringOf s d).cb + 4) 4
  onRing d (fun r =>
    let rel := r.released + (rd + 0x100000000 - r.released % 0x100000000) % 0x100000000
    { r with released := rel, full := r.full && decide (r.size ≤ r.produced - rel) }) s

/-- Pending bytes of a ring. -/
def Ring.pending (r : Ring) : Nat := r.produced - r.released

/-- Ring space that frames already started have reserved (R350). -/
def reservedRoom (s : State) (d : Nat) : Nat :=
  ((List.range 8).flatMap (fun q => (seqOf s q).frames.map (fun f =>
    if f.ring = some d then f.room else 0))).sum

/-- The bytes that records waiting for DMA will take. -/
def queuedRoom (r : Ring) : Nat := (r.queue.map (fun b => b.2.length)).sum

/-- A STOP ring lacks room for a frame (R330, R350). -/
def lacksRoom (s : State) (d : Bytes) (conv : Nat) : Option Nat :=
  match descRing s d with
  | none => none
  | some k =>
    let r := ringOf (ringSync k s) k
    if r.policy = 0 ∧ r.size < r.pending + queuedRoom r + reservedRoom s k + 8 * frameRecords conv d then some k else none

/-- STAT of a ring (Table MSR.9). -/
def Ring.stat (r : Ring) : Nat := bitsOf [r.full, r.dropping, r.failed]

/-- Write the control block's WR, OVW and STAT (Table MSR.9). -/
def putControl (d : Nat) (s : State) : State :=
  let r := ringOf s d
  bankBytes (r.cb + 8) (leBytes 4 r.overwritten ++ leBytes 4 r.stat)
    (bankBytes r.cb (leBytes 4 r.produced) (arbitrate (bankAt r.cb) (3 + d) false [] s))

/-- STOP_DROPPING of a ring, in its STAT too (R350). -/
def setDropping (d : Nat) (b : Bool) (s : State) : State :=
  if (ringOf s d).dropping = b then s else putControl d (onRing d (fun x => { x with dropping := b }) s)

/-- The parameter that a CAL_SYSTEM run writes. -/
def calInst (c : CalRun) : PInst := { id := if c.gain then 0x0704 else 0x0703, i1 := c.channel, i2 := 0 }

/-- A run that has written its coefficient ends once the channel's safe point has brought it into force: CAL_DONE, then OP_COMPLETE, which
carries HARDWARE_FAULT where the image write of a run with PERSIST has failed (R315, R661). -/
def calSettle (s : State) : State :=
  match s.msr.cal with
  | none => s
  | some c =>
    match c.written with
    | none => s
    | some (v, saved) =>
      if s.par.cells.any (fun x => x.inst == calInst c && x.pending) then s
      else
        completeOp .calSystem (if c.persist && !saved then stHardware else stOk) [] (postOwn c.tenant 0x0702 (bitsOf [c.gain, saved]) c.channel (leNat (leInt 4 v))
          { s with msr := { s.msr with cal := none } })

/-- The channels that a sequence's descriptor converts. -/
def descChannels (s : State) (q : Nat) (d : Bytes) : List Nat :=
  (List.range (descCount d)).flatMap (fun k =>
    byteAt (descEntry d k) 0 :: (if seqConv s q = 1 ∧ byteAt (descEntry d k) 1 ≠ 0xFF then [byteAt (descEntry d k) 1] else []))

/-- The sequences whose frames convert a channel. -/
def converts (s : State) (ch q : Nat) : Bool := (seqOf s q).running && (descChannels s q (pb s 0x0706 q)).contains ch

/-- A channel correction is in force on every sequence that converts its channel: each has had a frame boundary since the commit, and one that
nothing converts has it at once (Table CNV.7; assumption 45). -/
def channelDue (s : State) (c : PCell) : Bool :=
  if 0x80 ≤ c.inst.i1 then !s.cap.pipeRuns
  else (List.range 8).all (fun q => !converts s c.inst.i1 q || decide (c.epoch ≤ (seqOf s q).corEpoch))

/-- The channel corrections that are due are taken up. A run that waited for one ends (R315). -/
def settleChannels (s : State) : State :=
  let due := (s.par.cells.filter (fun c => c.pending && pSafe c.inst == .occ .channelFrame && channelDue s c)).map (fun c => c.inst)
  calSettle (takeUp (fun i => due.contains i) s)

/-- The mode that a sequence is committed to (Table MSR.5). -/
def modeCommitted (s : State) (q : Nat) : Nat := (pCommitted s.par { id := 0x0707, i1 := q, i2 := 0 }).int.toNat % 16

/-- A change of MODE waits for the frames in progress (R327). -/
def modeWaits (s : State) (q : Nat) : Bool := !(seqOf s q).frames.isEmpty && modeCommitted s q != (seqOf s q).mode

/-- The parameters that a frame start takes up (R321, Table MSR.10), and the channel corrections, for which it is the boundary of its sequence
(Table CNV.7). -/
def frameTake (q : Nat) (s : State) : State :=
  let wait := modeWaits s q
  let s1 := takeUp (fun i => pSafe i == .occ .frameStart && i.i1 == q && !(wait && i.id == 0x0707)) s
  settleChannels (onSeq q (fun x => { x with corEpoch := s.par.epoch }) s1)

/-- The channel corrections of a frame: the committed ones of its channels (Table CNV.7). -/
def frameCor (s : State) (q : Nat) (d : Bytes) : List (Nat × Int × Int) :=
  (descChannels s q d).map (fun ch =>
    (ch, (pCommitted s.par { id := 0x0703, i1 := ch, i2 := 0 }).int, (pCommitted s.par { id := 0x0704, i1 := ch, i2 := 0 }).int))

/-- The correction of a frame's channel. -/
def corOf (s : State) (f : Frame) (ch : Nat) : Int × Int := ((f.cor.find? (fun p => p.1 == ch)).map (fun p => p.2)).getD (corNow s ch)

/-- No frame of the sequence has a conversion to issue: a next frame may start (R330). -/
def lastIssued (x : Seq) : Bool := x.frames.all Frame.allIssued

/-- The sequence stops (R324, R327); no boundary of it is waited for any more (R315). -/
def halt (q : Nat) (s : State) : State := settleChannels (onSeq q (fun y => { y with running := false, stopping := false }) s)

/-- A pending change of MODE applies where no frame of the sequence is in progress (R327): a change to SINGLE stops the sequence, as does
the end of a SINGLE frame, and a change to TIMER counts its periods from here. A change of TRG or PERIOD alone waits for the next frame
start. -/
def modeApply (q : Nat) (s : State) : State :=
  let x := seqOf s q
  if x.running && x.frames.isEmpty && modeCommitted s q != x.mode then
    let s1 := takeUp (fun i => i.id == 0x0707 && i.i1 == q) s
    let m := trigMode s1 q
    let s2 := onSeq q (fun y => { y with mode := m, since := s.clk.us, period := pn s1 0x0707 q / 256 }) s1
    if m = 0 then halt q s2 else s2
  else s

/-- A frame of the sequence has completed, or been dropped: the end of a SINGLE frame and SEQ_STOP stop the sequence where no frame is left in
progress, and a pending change of MODE applies (R324, R327). -/
def afterFrame (q : Nat) (s : State) : State :=
  let x := seqOf s q
  if !x.frames.isEmpty then s else if x.mode = 0 ∨ x.stopping = true then halt q s else modeApply q s

/-- A trigger of a sequence is dropped (R329, R330). -/
def frameDrop (q : Nat) (s : State) : State := afterFrame q (countDrop 1 (seqConv s q) s)

/-- One trigger of a sequence, with what the time has issued (R327, R329, R330): a frame starts, or the trigger is dropped. -/
def frameBegin (q : Nat) (s0 : State) : State :=
  let k := seqConv s0 q
  let s := countTrigger k s0
  if !lastIssued (seqOf s q) || !convRuns s then frameDrop q s
  else
    let s1 := frameTake q s
    let d := pb s1 0x0706 q
    match lacksRoom s1 d k with
    | some r => frameDrop q (setDropping r true s)
    | none =>
      let s2 := match descRing s1 d with
        | some r => setDropping r false s1
        | none => s1
      let (n, s3) := nextNumber s2
      let f : Frame := { number := n, at_ := cycle s3, desc := d, next := 0, entry := 0, k := 0, sync := false, room := 8 * frameRecords k d,
                         ring := descRing s3 d, cor := frameCor s3 q d }
      onSeq q (fun x => { x with mode := if x.frames.isEmpty then trigMode s3 q else x.mode, frames := x.frames ++ [f] }) s3

/-- One trigger of a sequence. -/
def frameStart (q : Nat) (s : State) : State := frameBegin q (catchUp s)

/-- The oldest frame of a sequence completes with its last record (R330). -/
def frameEnd (q : Nat) (s : State) : State :=
  afterFrame q (onSeq q (fun y => { y with frames := y.frames.drop 1 }) (countDone (seqConv s q) s))

/-- The frames of a sequence are cut: they count as dropped (R330). -/
def frameCut (q : Nat) (s : State) : State :=
  let x := seqOf s q
  if x.frames.isEmpty then s
  else afterFrame q (onSeq q (fun y => { y with frames := [] }) (countDrop x.frames.length (seqConv s q) s))

/-- Start a sequence (R323, R327): SINGLE, TIMER and CONTINUOUS start their first frame at once. -/
def startSeq (s : State) (q : Nat) : State :=
  if (seqOf s q).running then s
  else
    let s1 := takeUp (fun i => i.id == 0x0707 && i.i1 == q) s
    let m := trigMode s1 q
    let s2 := onSeq q (fun x => { x with running := true, stopping := false, mode := m, since := s1.clk.us, period := pn s1 0x0707 q / 256 }) s1
    if m = 2 then s2 else frameStart q s2

/-- A sequence takes triggers of a mode. -/
def takesTrigger (x : Seq) (mode : Nat) : Bool := x.running && x.mode == mode && !x.stopping

/-- A timer period of a sequence ends: PERIOD µs after the one before (R327). A change of PERIOD applies from here. -/
def seqTimer (q : Nat) (s : State) : State :=
  let x := seqOf s q
  if takesTrigger x 1 && decide (x.since + x.period ≤ s.clk.us) then
    let p := (pCommitted s.par { id := 0x0707, i1 := q, i2 := 0 }).int.toNat / 256
    frameStart q (onSeq q (fun y => { y with since := y.since + y.period, period := p }) s)
  else s

/-- The next frame of a CONTINUOUS sequence starts once the last conversion of the one before is issued (R327). -/
def continuousFrameStart (q : Nat) (s0 : State) : State :=
  let s := catchUp s0
  if takesTrigger (seqOf s q) 3 && lastIssued (seqOf s q) then frameStart q s else s

/-- The running sequences that a line triggers (R327, R328). -/
def lineSeqs (s : State) (line : Nat) : List Nat :=
  (List.range 8).filter (fun q => takesTrigger (seqOf s q) 2 && (pn s 0x0707 q >>> 4) % 4 == line)

/-- The frame that a firing has started on a sequence: the newest, where it is not one from before (R332). -/
def startedBy (before s : State) (q : Nat) : Option (Nat × Frame) :=
  match (seqOf s q).frames.getLast? with
  | some f => if before.msr.arrivals ≤ f.number then some (q, f) else none
  | none => none

/-- A trigger line fires (R328): every sequence on it has a trigger, and where frames start on both converters the lowest of each are
synchronised, before either has issued a conversion (R332). -/
def fireNow (s : State) (line : Nat) : State :=
  let qs := lineSeqs s line
  let s1 := qs.foldl (fun t q => frameBegin q t) s
  match (qs.filter (fun q => seqConv s q == 0)).findSome? (startedBy s s1), (qs.filter (fun q => seqConv s q == 1)).findSome? (startedBy s s1) with
  | some (qa, fa), some (qb, fb) => syncFrames qa qb fa fb s1
  | _, _ => s1

/-- A trigger line fires, with what the time before it has issued. -/
def fireLine (s : State) (line : Nat) : State := fireNow (catchUp s) line

/-- A source of a trigger line fires it (Table MSR.6). A GPIO or a REQ edge comes from outside, and must be of the index and the edge that the
line names; a charger current step, a latch and a limit crossing have fired inside the device, and the line is due (R328). -/
def triggerLineFire (line kind index : Nat) (falling : Bool) (s : State) : State :=
  let src := pn s 0x0712 line
  if 4 ≤ line ∨ src % 16 ≠ kind then s
  else if kind = 1 ∨ kind = 2 then
    if (bit src 13 || bit src 12 == falling) && (src >>> 4) % 256 == index then fireLine s line else s
  else if s.msr.due.contains line then fireLine { s with msr := { s.msr with due := s.msr.due.erase line } } line
  else s

/-- TRIGGER step (R328, Table SEQ.5). -/
def stepTrigger (s : State) : State :=
  match readyStep 11 s with
  | some q => advance 1 (fireLine s (stepTarget q.step))
  | none => s

/-! ### Rings (R346 to R353) -/

/-- A record finds the ring full under OVERWRITE: the oldest record's place is taken (R349). -/
def overwriteOld (d n : Nat) (s : State) : State :=
  let r := ringOf s d
  if r.policy = 1 ∧ r.size < r.pending + n then
    bankBytes (r.cb + 4) (leBytes 4 (r.released + n))
      (onRing d (fun x => { x with released := x.released + n, overwritten := x.overwritten + 1 }) s)
  else s

/-- Post RING_THRESHOLD when pending rises to the threshold (R352). -/
def thresholdCheck (d : Nat) (s : State) : State :=
  let s1 := takeOccAt .record d s
  let r := ringOf s1 d
  let th := pn s1 0x070C d
  if th ≠ 0 ∧ th ≤ r.pending then
    if r.notified then s1
    else postOwn r.tenant 0x0701 0 d r.pending (onRing d (fun x => { x with notified := true }) s1)
  else onRing d (fun x => { x with notified := false }) s1

/-- Put one record of `n` bytes into a ring and advance WR (R346, R349); `rivals` are the accesses that other masters make in the same cycle. -/
def ringPut (d : Nat) (b : Bytes) (rivals : List (Nat × Bool)) (s : State) : State :=
  let s0 := ringSync d s
  let before := (ringOf s0 d).pending
  let s00 := if before < pn s0 0x070C d then onRing d (fun x => { x with notified := false }) s0 else s0
  let s1 := overwriteOld d b.length s00
  let r := ringOf s1 d
  let a := spBase + r.bank * 0x1000 + r.produced % r.size
  let s2 := bankBytes a b (arbitrate (bankAt a) (3 + d) false rivals s1)
  let s3 := onRing d (fun x => { x with produced := x.produced + b.length, full := decide (x.size ≤ x.produced + b.length - x.released) }) s2
  thresholdCheck d (putControl d s3)

/-- An earlier frame, whose records go to the same ring, is still in progress (R348). -/
def waitsFrame (s : State) (d number : Nat) : Bool :=
  (List.range 8).any (fun q => (seqOf s q).frames.any (fun f => decide (f.number < number) && f.ring == some d))

/-- The queue of a ring with a record of a frame: after the records of its own and of earlier frames (R348). -/
def queueRecord (number : Nat) (b : Bytes) (q : List (Nat × Bytes)) : List (Nat × Bytes) :=
  q.filter (fun x => decide (x.1 ≤ number)) ++ (number, b) :: q.filter (fun x => decide (number < x.1))

/-- A record of a frame goes to the ring that the frame was started for (R342, R348, R350). -/
def toRing (f : Frame) (b : Bytes) (s : State) : State :=
  match f.ring with
  | some d => onRing d (fun x => { x with queue := queueRecord f.number b x.queue }) s
  | none => s

/-- A ring fails: FAILED, and it is detached (R353). -/
def ringFailed (d : Nat) (s : State) : State := detachRing d (putControl d (onRing d (fun x => { x with failed := true }) s))

/-- A bank of an attached ring's span failed (R353). -/
def failRing (k d : Nat) (s : State) : State := if (ringSpan (ringOf s d)).contains k then ringFailed d s else s

/-- A bank failed: every ring on it fails (R353). -/
def failRings (k : Nat) (s : State) : State := (List.range 4).foldl (fun t d => failRing k d t) s

/-- DMA writes the oldest record that waits, once no earlier frame of the ring is in progress (R346, R348). -/
def writeQueued (d : Nat) (rivals : List (Nat × Bool)) (s : State) : State :=
  let r := ringOf s d
  match r.queue with
  | [] => s
  | (n, b) :: qs => if r.attached && !waitsFrame s d n then ringPut d b rivals (onRing d (fun x => { x with queue := qs }) s) else s

/-- A PIPE stream takes a sample word; under STOP a word that finds no room is dropped (R350, R360). -/
def streamWord (codes : Nat → Nat) (rivals : List (Nat × Nat × Bool)) (s : State) : State :=
  let r := ringOf s 3
  match r.pipe with
  | some ch =>
    if r.policy = 0 ∧ r.size < (ringOf (ringSync 3 s) 3).pending + 2 then setDropping 3 true s
    else
      let k := bankAt (spBase + r.bank * 0x1000 + r.produced % r.size)
      ringPut 3 (leBytes 2 (codes ch)) ((rivals.filter (fun x => x.1 == k)).map (fun x => x.2)) (setDropping 3 false s)
  | none => s

/-! ### Results: limits and slow supervision (R203 to R207, R212, R215) -/

/-- A usable result is kept for its consumers; a result that carries a limit flag after one that carried none is a limit crossing, which
may fire a trigger line (R328). -/
def keepResult (x : Result) (s : State) : State :=
  let lim := x.flags &&& 0x30 != 0
  let s0 := if lim && !vget s.msr.crossed x.ch false then noteSource 5 x.ch s else s
  let s1 := { s0 with msr := { s0.msr with crossed := vset s0.msr.crossed x.ch lim } }
  if x.usable then
    { s1 with msr := { s1.msr with
        results := vset s1.msr.results x.ch (some x.value)
        firstVbat := if x.ch = 0x45 then s1.msr.firstVbat.orElse (fun _ => some x.value) else s1.msr.firstVbat } }
  else s1

/-- A count of consecutive results: one more beyond, zero inside (R204). -/
def countBeyond (beyond : Bool) (n : Nat) : Nat := if beyond then n + 1 else 0

/-- A warning level's counts and flag (R206): beyond counts, inside counts, flag, and whether it has just been set. -/
def warnStep (beyond : Bool) (fc cnt ins : Nat) (flag : Bool) : Nat × Nat × Bool × Bool :=
  let c := countBeyond beyond cnt
  let i := if beyond then 0 else ins + 1
  let set := decide (fc ≤ c) && !flag
  (c, i, (flag || decide (fc ≤ c)) && !(flag && decide (fc ≤ i)), set)

/-- The counts that a change of one parameter restarts (R243): those of its level, and all of them for sup.filter_count. -/
def restartFor (id : Nat) (x : Rail) : Rail :=
  match id with
  | 0x0504 => { x with cntOv := 0 }
  | 0x0505 => { x with cntUv := 0 }
  | 0x0506 => { x with cntOvw := 0, inOvw := 0 }
  | 0x0507 => { x with cntUvw := 0, inUvw := 0 }
  | _ => { restartCounts x with cntRev := 0 }

/-- Pending changes of slow limits and of sup.filter_count come into force: their counts restart, and with sup.filter_count those of the
AUX inputs that the rail answers for (R243). The result that takes them up is one of the rail's own channel, so that an AUX input which the
rail answers for counts to the sup.filter_count in force until then (DESIGN CHOICE, assumption 153). -/
def slowTake (r : Nat) (s : State) : State :=
  let pend := (s.par.cells.filter (fun c => c.pending && pSafe c.inst == .occ .swaRail && c.inst.i1 == r)).map (fun c => c.inst.id)
  let s1 := onRail r (fun x => pend.foldl (fun y id => restartFor id y) x) (takeOccAt .swaRail r s)
  if pend.contains 0x0508 then restartOc r s1 else s1

/-- A raise of a rail fault, with its source channel (Table SUP.7). -/
def railRaise (code r : Nat) (value : Option Int) : Raise :=
  { code := code, src := r, value := value, chan := if 0x05 ≤ code ∧ code ≤ 0x08 then 0xFF else r, injected := false }

/-- The slow limits and warnings of a rail on one result (R203 to R207): the counts, and what completes. -/
def slowLimits (x : Result) (fc : Nat) (sh : Int) (s : State) : List Raise × State :=
  let r := x.ch
  let y := rail s r
  let above := fun (id : Nat) => x.high || (!x.low && decide (threshold s id r + sh < x.value))
  let below := fun (id : Nat) => x.low || decide (x.value < threshold s id r + sh)
  let evalOv := y.st != .parked
  let evalUv := y.st.isOn
  let nov := if evalOv then countBeyond (above 0x0504) y.cntOv else 0
  let nuv := if evalUv then countBeyond (below 0x0505) y.cntUv else 0
  let wo := if evalOv then warnStep (above 0x0506) fc y.cntOvw y.inOvw y.warnOv else (0, 0, false, false)
  let wu := if evalUv then warnStep (below 0x0507) fc y.cntUvw y.inUvw y.warnUv else (0, 0, false, false)
  let s1 := onRail r (fun q => { q with cntOv := nov, cntUv := nuv, cntOvw := wo.1, inOvw := wo.2.1, warnOv := wo.2.2.1,
                                        cntUvw := wu.1, inUvw := wu.2.1, warnUv := wu.2.2.1 }) s
  let s2 := if wo.2.2.2 then post 0x0502 0 r (0 ||| s16 x.value <<< 16) s1 else s1
  let s3 := if wu.2.2.2 then post 0x0502 0 r (1 ||| s16 x.value <<< 16) s2 else s2
  ((if evalOv && nov == fc then [railRaise 0x03 r (some x.value)] else []) ++
    (if evalUv && nuv == fc then [railRaise 0x04 r (some x.value)] else []), s3)

/-- SENSE_REVERSED on one result: the rail's EN asserted, the reading at or below −rail.vnom_mv / 2, and a PG ball that is a source reading
good (R212): its count. -/
def revCount (x : Result) (s : State) : Nat :=
  let y := rail s x.ch
  countBeyond (y.en && decide (2 * x.value ≤ -(pv s 0x0403 x.ch)) && (pv s 0x0406 x.ch == 1 || y.ball)) y.cntRev

/-- What the fault fabric finds on a result of a rail (R203 to R207, R212, R213): the detectors that complete, together. -/
def slowRail (x : Result) (s : State) : List Raise × State :=
  let r := x.ch
  let s0 := slowTake r s
  if !x.usable || !present s0 r then ([], s0)
  else
    let s1 := onRail r (fun q => { q with last := some x.value, margin := { q.margin with fresh := some x.value } }) s0
    if (rail s1 r).frozen then ([], s1)
    else
      let fc := pn s1 0x0508 r
      let n := revCount x s1
      let s2 := onRail r (fun q => { q with cntRev := n }) s1
      let rev := if n = fc then [railRaise 0x0A r (some x.value)] else []
      match windowShift s2 r with
      | none => (rev, s2)
      | some sh =>
        let p := slowLimits x fc sh s2
        (rev ++ p.1, p.2)

/-- Set the count of an AUX monitor. -/
def setOc (a n : Nat) (s : State) : State := { s with sup := { s.sup with ocCnt := vset s.sup.ocCnt a n } }

/-- The AUX current monitor on one result (R215, R216, R243). -/
def slowAux (x : Result) (s : State) : List Raise × State :=
  let a := x.ch - 0x18
  let pend := s.par.cells.any (fun c => c.pending && pSafe c.inst == .occ .swaAux && c.inst.i1 == a)
  let s0 := takeOccAt .swaAux a s
  let s1 := if pend then setOc a 0 s0 else s0
  let lim := pv s1 0x050E a
  let r := pn s1 0x0510 a
  if !x.usable then ([], s1)
  else if lim = 0 ∨ (r < 24 ∧ armed s1 0x0C r = false) then ([], setOc a 0 s1)
  else
    let ma := (x.value * pv s1 0x050F a).tdiv 1000
    let fc := if r < 24 then pn s1 0x0508 r else 1
    let n := countBeyond (x.high || (!x.low && decide (lim < ma))) (vget s1.sup.ocCnt a 0)
    let hit : Raise := { code := 0x0C, src := if r < 24 then r else 0xFF, value := some (clampInt (-32767) 32767 ma), chan := x.ch, injected := false }
    (if n = fc then [hit] else [], setOc a n s1)

/-- The die temperature against sys.die_warn_c with 5 °C of hysteresis (R239): the warning ends below sys.die_warn_c less 5 °C, and not at
it (DESIGN CHOICE, assumption 154). -/
def slowDie (x : Result) (s : State) : State :=
  let s1 := takeOcc .dieReading s
  let w := pv s1 0x010A
  if !x.usable then s1
  else if 10 * w ≤ x.value then
    if s1.sup.dieWarn then s1
    else post 0x0502 0 0xFF (2 ||| s16 x.value <<< 16) { s1 with sup := { s1.sup with dieWarn := true } }
  else if x.value < 10 * (w - 5) then { s1 with sup := { s1.sup with dieWarn := false } }
  else s1

/-- What the fault fabric and the limits find on a result. -/
def slowFound (x : Result) (s : State) : List Raise × State :=
  if x.ch < 0x18 then slowRail x s
  else if x.ch < 0x28 then slowAux x s
  else if x.ch = 0x30 then ([], slowDie x s)
  else ([], s)

/-! ### Thermistor temperatures (R356) -/

/-- The scale of the fixed-point logarithm. -/
def lnOne : Nat := 2 ^ 60

/-- The series of artanh: y + y^3/3 + y^5/5 ..., `p` the present power and `k` its odd number, in units of 2^-60. -/
def artanhSeries (y2 : Nat) : Nat → Nat → Nat → Nat
  | 0, _, _ => 0
  | f + 1, p, k => p / k + artanhSeries y2 f (p * y2 / lnOne) (k + 2)

/-- ln of a / b for b ≤ a < 2 b, in units of 2^-60. -/
def lnSmall (a b : Nat) : Nat :=
  let y := (a - b) * lnOne / (a + b)
  2 * artanhSeries (y * y / lnOne) 40 y 1

/-- ln of a / b for 1 ≤ b ≤ a, in units of 2^-60. -/
def lnUp : Nat → Nat → Nat → Nat
  | 0, a, b => lnSmall a b
  | f + 1, a, b => if a < 2 * b then lnSmall a b else lnSmall 2 1 + lnUp f a (2 * b)

/-- ln of a / b for positive a and b, in units of 2^-60. -/
def lnRatio (a b : Nat) : Int := if b ≤ a then lnUp 64 a b else -(lnUp 64 b a)

/-- The bias resistance of a TS channel, Ω; none without bias (R356). -/
def tsBias (s : State) (t : Nat) : Option Nat :=
  match pn s 0x070F t with
  | 1 => some 10000
  | 2 => some 100000
  | 3 => some (pn s 0x0711 t)
  | _ => none

/-- The temperature of a TS result in 0.1 °C, rounded to nearest (R356). None for a channel without bias and where the
formula has no value: a ratio of 0 or less, or a temperature that is not positive. -/
def thermTemp (s : State) (t : Nat) (x : Int) : Option Int :=
  match tsBias s t with
  | none => none
  | some rb =>
    if x ≤ 0 ∨ 32768 ≤ x then none
    else
      let l := lnRatio (rb * x.toNat) ((32768 - x).toNat * pn s 0x0711 t)
      let inv : Int := (lnOne : Int) * 20 / 5963 + l / (pv s 0x0710 t)
      if inv ≤ 0 then none else some ((10 * (lnOne : Int) / inv) - 2731)

/-! ### Commands (Table CMD.9) -/

/-- SEQ_START (R323, R697). Q6 and Q7 need NV_CONFIG as well. -/
def seqStartBody (r : Req) (pl : Bytes) (s : State) : Reply :=
  let m := byteAt pl 0
  if 0x40 ≤ m ∧ hasCap s r.tenant capNvConfig = false then refuse stDenied s
  else if (List.range 8).any (fun q => bit m q && byteAt (pCommitted s.par { id := 0x0706, i1 := q, i2 := 0 }).bytes 0 == 0) then refuse stRange s
  else .done stOk [] (((List.range 8).filter (fun q => bit m q)).foldl startSeq s)

/-- SEQ_START. -/
def cmdSeqStart : CmdDef :=
  { code := 0x0701, caps := [capBanks], allow := allowAll, len := lenIs 1, range := anyRange, nv := false, modes := anyMode, body := seqStartBody }

/-- Stop a sequence: the frame in progress completes (R324). -/
def stopSeq (s : State) (q : Nat) : State :=
  if (seqOf s q).frames.isEmpty then halt q s else onSeq q (fun x => { x with stopping := true }) s

/-- SEQ_STOP (R322, R324). -/
def seqStopBody (_r : Req) (pl : Bytes) (s : State) : Reply :=
  let m := byteAt pl 0
  if 0x40 ≤ m then refuse stDenied s
  else .done stOk [] (((List.range 6).filter (fun q => bit m q)).foldl stopSeq s)

/-- SEQ_STOP. -/
def cmdSeqStop : CmdDef :=
  { code := 0x0702, caps := [capBanks], allow := allowAll, len := lenIs 1, range := anyRange, nv := false, modes := anyMode, body := seqStopBody }

/-- TRIGGER_FIRE (R328). -/
def triggerFireBody (_r : Req) (pl : Bytes) (s : State) : Reply :=
  .done stOk [] (((List.range 4).filter (fun k => bit (byteAt pl 0) k)).foldl fireNow (catchUp s))

/-- TRIGGER_FIRE. -/
def cmdTriggerFire : CmdDef :=
  { code := 0x0706, caps := [capBanks], allow := allowAll, len := lenIs 1, range := fun b => decide (byteAt b 0 ≤ 0x0F), nv := false,
    modes := anyMode, body := triggerFireBody }

/-- The raw codes of a request's conversions; those that are missing are free values (assumption 3). -/
def takeCodes : Nat → List Int → State → List Int × State
  | 0, _, s => ([], s)
  | n + 1, cs, s =>
    let (c, rest, s1) := takeCode cs s
    let p := takeCodes n rest s1
    (c :: p.1, p.2)

/-- The trips of a channel's open comparator; none of a channel that is not a thermistor's. -/
def tripsOf (s : State) (ch : Nat) : List (Nat × Option Nat) := if 0x28 ≤ ch ∧ ch < 0x30 then vget s.msr.trips (ch - 0x28) [] else []

/-- The comparator tripped during a conversion's acquisition or conversion, or within 5 µs of its hold (R358). -/
def suspectBy (ts : List (Nat × Option Nat)) (j : Job) : Bool :=
  ts.any (fun t => decide (j.began < t.1) && decide (t.1 ≤ max j.ends (j.hold + 400)))

/-- A conversion began its acquisition while the comparator was tripped (R358). -/
def openBy (ts : List (Nat × Option Nat)) (j : Job) : Bool :=
  ts.any (fun t => decide (t.1 ≤ j.began) && t.2.all (fun e => decide (j.began < e)))

/-- The TICK of the first hold of some conversions (R294, R336). -/
def holdTick (js : List Job) : Nat := ((js.head?).map (fun j => j.hold / 80 % 0x100000000)).getD 0

/-- CNV cycles of one conversion with a CONVERT_NOW configuration. -/
def configCycles (conv cfg : Nat) : Nat := if conv = 0 then sampleCycles (cfg / 16) + 20 else 80

/-- The slice of an SWB pair that converts a channel: position 1 converts the currents (R288). -/
def urgentSlice (ch : Nat) (slices : List Nat) : Nat := if ch = 0x42 ∨ ch = 0x46 then slices.getD 1 0 else slices.headD 0

/-- Acquisition of one conversion with a CONVERT_NOW configuration. -/
def configAcq (conv cfg : Nat) : Nat := if conv = 0 then sampleCycles (cfg / 16) else 40

/-- The conversions of a CONVERT_NOW, one after another at the position that took the request (assumption 79). -/
def oversamples (conv cfg n : Nat) (j : Job) : List Job :=
  (List.range n).map (fun i =>
    let t := j.began + i * configCycles conv cfg
    { j with k := i, began := t, hold := t + configAcq conv cfg, ends := t + configCycles conv cfg })

/-- CONVERT_NOW (R336, R338 to R341, R355, R698). The codes come with the request, and after them, where it is not 0, the cycles from the
request to a trip of the thermistor channel's open comparator (R358). Its oversamples convert in turn at one position, and the answer, which
the device gives once they have ended and their flags are decided, is the request's own (DESIGN CHOICE, assumption 79). -/
def convertNowBody (r : Req) (pl : Bytes) (s : State) : Reply :=
  let ch := byteAt pl 0
  let cfg := byteAt pl 1
  let n := byteAt pl 2
  let k := b2n (isSwb ch)
  match urgent k (configAcq k cfg) (n * configCycles k cfg) s with
  | (none, s1) => .done (if convRuns s then stBusy else stAbortedFault) [] s1
  | (some j, s1) =>
    let (codes, s2) := takeCodes n r.env (takeOccAt .result ch s1)
    let js := oversamples k cfg n j
    let trip := (r.env.getD n 0).toNat
    let ts := tripsOf s ch ++ (if trip = 0 then [] else [(cycle s + trip, none)])
    let slices := List.replicate n (urgentSlice ch j.slices)
    let x := resultOf s2 ch (cfg % 4) codes
      { slices := slices, cor := corNow s2 ch, hold := holdTick js, suspect := js.any (suspectBy ts), opened := js.any (openBy ts),
        restarted := false, sync := false }
    .done stOk (recordBytes x.value ch x.flags x.hold) (countDone k (spentFresh k slices s2))

/-- CONVERT_NOW. -/
def cmdConvertNow : CmdDef :=
  { code := 0x0700, caps := [capStatus], allow := allowAll, len := lenIs 3,
    range := fun b => resultChannel (byteAt b 0) && decide (1 ≤ byteAt b 2) && decide (byteAt b 2 ≤ 64) &&
      (if isSwb (byteAt b 0) then byteAt b 1 == 0 else (byteAt b 1 &&& 0x0C == 0) && (byteAt b 1 % 4 == 0 || decide (byteAt b 0 ≤ 0x27))),
    nv := false, modes := anyMode, body := convertNowBody }

/-- The banks of a span and a control block belong to a tenant (R345). -/
def ownsAll (s : State) (n : Nat) (ks : List Nat) : Bool := ks.all (fun k => (bank s k).st == .owned && (bank s k).owner == n)

/-- Add a delegate where it is not one yet (R493). -/
def delegate (code : Nat) (s : State) (k : Nat) : State :=
  onBank k (fun b => if b.delegates.contains code then b else { b with delegates := b.delegates ++ [code] }) s

/-- A bank has no place for a further delegate (R493). -/
def delegatesFull (s : State) (code k : Nat) : Bool := !(bank s k).delegates.contains code && decide (2 ≤ (bank s k).delegates.length)

/-- RING_ATTACH (R344, R345, R360, R699). -/
def ringAttachBody (r : Req) (pl : Bytes) (s : State) : Reply :=
  let d := byteAt pl 0
  let cb := fieldAt pl 2 4
  let pipe := byteAt pl 6
  let x := ringOf s d
  if byteAt pl 1 = 1 then
    if !x.attached then .done stOk [] s
    else if x.tenant ≠ r.tenant then refuse stBankNotOwner s
    else .done stOk [] (detachRing d (writeQueued d [] s))
  else if pipe ≠ 0xFF ∧ (r.tenant ≠ 63) then refuse stDenied s
  else if pipe ≠ 0xFF ∧ d ≠ 3 then refuse stRange s
  else if pipe ≠ 0xFF ∧ s.core.mode ≠ .service then refuse stModeForbids s
  else if x.attached then refuse stBusy s
  else
    let bk := pn s 0x070A d
    let size := pn s 0x0709 d
    let span := spanOf bk size
    if bk = 0xFF ∨ cb % 16 ≠ 0 ∨ cb < spBase ∨ spBase + 0x40000 ≤ cb ∨ span.any (fun k => decide (k < 8) || decide (51 < k)) = true ∨
        (spBase + bk * 0x1000 ≤ cb ∧ cb < spBase + bk * 0x1000 + size) then refuse stRange s
    else
      let ks := span ++ [bankAt cb]
      if !ownsAll s r.tenant ks then refuse stBankNotOwner s
      else if ks.any (delegatesFull s (0x83 + d)) then refuse stDenied s
      else
        let s1 := ks.foldl (delegate (0x83 + d)) s
        let s2 := onRing d (fun _ => { noRing with attached := true, pipe := if pipe = 0xFF then none else some (pipe - 0x80), tenant := r.tenant,
                                                   cb := cb, bank := bk, size := size, policy := pn s 0x070B d }) s1
        .done stOk [] (bankBytes cb (zeros 16) s2)

/-- RING_ATTACH. -/
def cmdRingAttach : CmdDef :=
  { code := 0x0703, caps := [capBanks], allow := allowAll, len := lenIs 8,
    range := fun b => decide (byteAt b 0 ≤ 3) && decide (byteAt b 1 ≤ 1) && byteAt b 7 == 0 &&
      (byteAt b 6 == 0xFF || (decide (0x80 ≤ byteAt b 6) && decide (byteAt b 6 ≤ 0x97))),
    nv := false, modes := anyMode, body := ringAttachBody }

/-- Ring counts of RING_STATUS (R351). -/
def ringStatus (d : Nat) (s : State) : Bytes :=
  let r := ringOf (ringSync d s) d
  let unit := if r.pipe.isSome then 2 else 8
  let att := r.attached
  [byte 0] ++ leBytes 1 d ++ leBytes 1 (b2n att) ++ leBytes 1 r.stat ++ leBytes 1 (if att then r.tenant else 0xFF) ++ zeros 3 ++
    leBytes 8 (r.produced / unit) ++ leBytes 8 (r.released / unit - r.overwritten) ++ leBytes 8 (r.pending / unit) ++ leBytes 8 r.overwritten

/-- The spare's state code (RING_STATUS byte 7). -/
def SpareSt.code : SpareSt → Nat
  | .ready => 0
  | .held => 1
  | .permanent => 2
  | .calibrating => 3

/-- Converter counts of RING_STATUS. -/
def convStatus (k : Nat) (s : State) : Bytes :=
  let c := converter s k
  let sp := if calConv s = some k then 3 else c.spareSt.code
  [byte 1] ++ leBytes 1 k ++ (List.range 4).flatMap (fun j => leBytes 1 (c.pos.getD j 0xFF)) ++ leBytes 1 c.spare ++ leBytes 1 sp ++
    leBytes 4 c.rotations ++ leBytes 4 c.qualFails ++ leBytes 8 c.triggers ++ leBytes 8 c.completed ++ leBytes 8 c.dropped ++ leBytes 4 c.abortRestart

/-- RING_STATUS (Table CMD.9). -/
def ringStatusBody (_r : Req) (pl : Bytes) (s : State) : Reply :=
  if byteAt pl 0 = 0 then .done stOk (ringStatus (byteAt pl 1) s) s else .done stOk (convStatus (byteAt pl 1) s) s

/-- RING_STATUS. -/
def cmdRingStatus : CmdDef :=
  { code := 0x0704, caps := [capStatus], allow := allowAll, len := lenIs 2,
    range := fun b => (byteAt b 0 == 0 && decide (byteAt b 1 ≤ 3)) || (byteAt b 0 == 1 && decide (byteAt b 1 ≤ 1)), nv := false, modes := anyMode,
    body := ringStatusBody }

end Sys2Proof.Machine
end

