-- ==== Sys2Proof/Machine/Caldera.lean ====
section
/-! DEFINITION. Caldera: the PIPE ring, the freeze, the marker and the record, recovery at boot, and the CAPTURE commands
(R245 to R277, R360, R700, R701). -/

namespace Sys2Proof.Machine

/-! ### The ring -/

/-- Fabric address of a ring entry (R247). -/
def ringEntry (r k : Nat) : Nat := 0x20034000 + r / 2 * 0x1000 + r % 2 * 0x800 + 2 * k

/-- A sample word (Table CAP.1). -/
def sampleWord (code : Nat) (cut : Bool) : Nat := code % 1024 ||| (b2n (code % 1024 == 0 || code % 1024 == 1023)) <<< 10 ||| (b2n cut) <<< 12

/-- The two writes of a frame in each ring bank are arbitrated with the accesses that other masters make there: banks with masters and whether
the access is an atomic (R499 to R501). Without any, the writer, which goes first, changes no state of the arbiter. -/
def frameArb (rivals : List (Nat × Nat × Bool)) (s : State) : State :=
  ((List.range 12).map (fun j => j + 52)).foldl (fun t k =>
    let q := (rivals.filter (fun x => x.1 == k)).map (fun x => x.2)
    if q.isEmpty then t else arbitrate k 2 false ((2, false) :: q) t) s

/-- The writer stores one frame at the ring index (R246). -/
def writeFrame (codes : List Nat) (cut : Bool) (rivals : List (Nat × Nat × Bool)) (s : State) : State :=
  (capRails s).foldl (fun t r => bankBytes (ringEntry r s.cap.ringIdx) (leBytes 2 (sampleWord (codes.getD r 0) cut)) t) (frameArb rivals s)

/-- A frame of the post window: the first one after the latch is the trigger frame (R258, R259). -/
def postFrame (lag : Nat) (s : State) : State :=
  match s.cap.cap with
  | some c =>
    let c1 := match c.trigger with
      | some _ => { c with after := c.after + 1 }
      | none => { c with trigger := some (s.cap.ringIdx, min lag 28), before := min c.pre s.cap.frames, after := 1 }
    { s with cap := { s.cap with cap := some { c1 with flags := c1.flags ||| (b2n (onRc s (c1.before + c1.after - 1))) <<< 5 } } }
  | none => s

/-- The post window is complete: its frames are all written, or a loss of lock cut it (R260, R264). -/
def postDone (s : State) : Bool :=
  match s.cap.cap with
  | some c => c.cut || decide (c.post ≤ c.after)
  | none => false

/-- The ring is written: PIPE runs, and the ring is not frozen (Table CAP.2). -/
def ringWritten (s : State) : Bool := s.cap.state != .committing && !(s.cap.state == .post && postDone s)

/-- A CAL_SYSTEM run on a PIPE channel takes its rail's sample, once its switch has settled, until it has 256 (R311, R312). -/
def calSample (codes : List Nat) (s : State) : State :=
  { s with msr := { s.msr with cal := s.msr.cal.map (fun c =>
      if 0x80 ≤ c.channel ∧ c.from_ ≤ cycle s ∧ c.samples.length < 256 then { c with samples := codes.getD (c.channel - 0x80) 0 % 1024 :: c.samples } else c) } }

/-- PIPE_FRAME (R245, R246, R250, R360). `codes` are the codes of the 24 slots, `cut` says that the frame lies within 50 µs
of a reference switch, `lag` is the CNV cycles from a latch that this frame is the first to follow, and `rivals` are the accesses that other
masters make at the banks. -/
def pipeFrame (codes : List Nat) (cut : Bool) (lag : Nat) (rivals : List (Nat × Nat × Bool)) (s : State) : State :=
  if s.cap.pipeRuns then
    let s0 := calSample codes (calSettle (takeUp (fun i => pSafe i == .occ .channelFrame && decide (0x80 ≤ i.i1)) s))
    let s1 := if s0.msr.rings.toList.any (fun r => r.attached && r.pipe.isSome) then
        streamWord (fun ch => sampleWord (codes.getD ch 0) cut) rivals s0 else s0
    if ringWritten s1 then
      let s2 := writeFrame codes cut rivals (if s1.cap.state = .post then postFrame lag s1 else s1)
      { s2 with cap := { s2.cap with ringIdx := (s2.cap.ringIdx + 1) % 1024, frames := min 1024 (s2.cap.frames + 1),
                                     sinceRc := if refRc s2 then 0 else min 1024 (s2.cap.sinceRc + 1) } }
    else s1
  else s

/-- PIPE starts: the count of frames written begins anew (R250). -/
def pipeStart (s : State) : State := { s with cap := { s.cap with pipeRuns := true, frames := 0 } }

/-- PIPE stops; a loss of lock in POST ends the window at the last complete frame (R250, R264), and a calibration of PIPE begins its consecutive
samples anew (R311). -/
def pipeStop (s : State) : State :=
  let cutIt := fun (c : Capture) =>
    match c.trigger with
    | some _ => { c with cut := true, clockCut := true }
    | none => { c with cut := true, clockCut := true, before := min c.pre s.cap.frames }
  { s with cap := { s.cap with pipeRuns := false, cap := if s.cap.state = .post then s.cap.cap.map cutIt else s.cap.cap }
           msr := { s.msr with cal := s.msr.cal.map (fun c => { c with samples := [] }) } }

/-! ### Marker, freeze and commit -/

/-- SYS is valid: the internal supply is not on CRES (R40, R265). -/
def sysValid (s : State) : Bool := !s.core.holdup

/-- The record commit starts: RESV is noted and the commit word reads 0 (R266). -/
def recordStart (holdup : Bool) (s : State) : State :=
  let s1 := onCapture (fun c => { c with started := some s.nv.resvMv, flags := if holdup then c.flags ||| 0x40 else c.flags }) s
  faWrite 0 (zeros 4) { s1 with cap := { s1.cap with partSerial := s1.cap.cap.map (fun c => c.serial) } }

/-- The Caldera record commit is due (R265). -/
def recordDue (s : State) : Bool :=
  match s.cap.cap with
  | some c => s.cap.state == .committing && c.started.isNone && !c.abandoned
  | none => false

/-- The record commit starts if it may: SYS valid and RESV at the commit threshold (R265). -/
def recordTry (s : State) : State :=
  if recordDue s && sysValid s && decide (pv s 0x0D06 ≤ s.nv.resvMv) then recordStart false s else s

/-- The turn of the record commit in the hold-up order: it starts with RESV at the threshold, and is abandoned otherwise (R265). Abandoned, it
does not come back with SYS: Caldera stays in COMMITTING until POR (DEDUCED, assumption 81). -/
def recordTurn (s : State) : State :=
  if pv s 0x0D06 ≤ s.nv.resvMv then recordStart true s else onCapture (fun c => { c with abandoned := true }) s

/-- A capture freezes: the commit starts or waits, and on hold-up has its turn at once, since what goes before it has had its own
(R265). -/
def recordFrozen (s : State) : State := if sysValid s then recordTry s else recordTurn s

/-- CAPTURE_FREEZE: the post window has ended; after a cut the freeze waits for relock (R260, R264). A cut with no trigger
frame leaves trig_lag open (assumption 33). -/
def captureFreeze (s : State) : State :=
  match s.cap.cap with
  | some c =>
    if s.cap.state = .post ∧ (c.post ≤ c.after ∨ (c.cut = true ∧ s.clk.pllLocked = true)) then
      let d := drawFree s
      let s1 := if c.trigger.isSome then s else d.2
      let t := c.trigger.getD (s.cap.ringIdx, (d.1 % 29).toNat)
      recordFrozen (onCapture (fun x => { x with trigger := some t, flags := x.flags ||| (b2n (onRc s (x.before + x.after))) <<< 5 })
        { s1 with cap := { s1.cap with state := .committing } })
    else s
  | none => s

/-- valid_pre + valid_post: the words of a rail's block (R269). -/
def validWords (c : Capture) : Nat := c.before + min c.after c.post

/-- The ring entry of a word of a rail's block (R269). -/
def recordEntry (c : Capture) (r i : Nat) : Nat := ringEntry r (((c.trigger.getD (0, 0)).1 + 1024 - c.before + i) % 1024)

/-- The words of the record that fail parity: those that an upset has reached by now, and those that one had reached before (R272, R507). -/
def badRecordWords (c : Capture) (bad : List (Nat × Nat)) (s : State) : List (Nat × Nat) :=
  if s.fab.flips.isEmpty then bad
  else bad ++ allRails.flatMap (fun r =>
    ((List.range (validWords c)).filter (fun i => flipped s (recordEntry c r i) 2 && !bad.contains (r, i))).map (fun i => (r, i)))

/-- A parity error in each of the record's words is counted by its bank, which stays in service (R508, Table BNK.5). -/
def countRecordErrors (c : Capture) (bad : List (Nat × Nat)) (s : State) : State :=
  (bad.filter (fun p => bit c.mask p.1 && decide (p.2 < validWords c))).foldl (fun t p =>
    onBank (bankAt (recordEntry c p.1 p.2)) (fun b => { b with parity := satAdd 0xFFFF b.parity 1 }) t) s

/-- One word as the commit reads it: a parity failure gives CODE 0 with PARITY (R269, R272). -/
def recordWord (s : State) (c : Capture) (bad : List (Nat × Nat)) (r i : Nat) : Nat :=
  let w := readNat s (recordEntry c r i) 2
  if bad.contains (r, i) then (w &&& 0xFC00) ||| 0x800 else w

/-- The words of one rail's block, without the zero words behind them. -/
def railWords (s : State) (c : Capture) (bad : List (Nat × Nat)) (r : Nat) : List Nat :=
  if bit c.mask r then (List.range (validWords c)).map (recordWord s c bad r) else []

/-- The 1024 words of a rail's block (R269). -/
def railBlock (ws : List Nat) : Bytes := padTo 0x800 (ws.flatMap (leBytes 2))

/-- A rail descriptor (Table CAP.6). -/
def descriptor (r : Nat) (d : CapRail) (clipped : Bool) : Bytes :=
  leBytes 1 r ++ leBytes 1 (bitsOf [d.captured, d.present, clipped, d.bankOut]) ++ leBytes 1 d.atten ++ leBytes 1 d.st ++
    leBytes 4 d.lsb ++ leInt 2 d.zero ++ leBytes 2 d.vnom ++ leInt 2 d.last ++ zeros 2

/-- Header bytes 4 to 251 (Table CAP.5). -/
def headerBody (c : Capture) (flags : Nat) : Bytes :=
  leBytes 2 1 ++ leBytes 2 256 ++ leBytes 1 c.code ++ leBytes 1 c.src ++ leBytes 1 c.response ++ leBytes 1 flags ++
    leBytes 4 c.tick ++ leBytes 4 c.rtc ++ leBytes 2 c.boot ++ leBytes 2 c.serial ++ leBytes 2 c.pre ++ leBytes 2 c.post ++
    leBytes 2 c.before ++ leBytes 2 (min c.after c.post) ++ leBytes 4 c.mask ++ leBytes 1 c.mode ++ leBytes 1 c.table ++
    leBytes 1 (c.trigger.getD (0, 0)).2 ++ leBytes 1 24 ++ leBytes 2 c.others ++ leBytes 2 (c.started.getD 0).toNat ++ zeros 208

/-- The record (Tables CAP.4 to CAP.6): descriptors and samples, header with CRC, commit word last (R266, R270). -/
def writeRecord (c : Capture) (bad : List (Nat × Nat)) (s : State) : State :=
  let words := allRails.map (railWords s c bad)
  let descs := (allRails.map (fun r =>
    descriptor r (c.rails.getD r (capRail s r)) ((words.getD r []).any (fun w => bit w 10)))).flatten
  let samples := words.flatMap railBlock
  let seen := bad.any (fun p => bit c.mask p.1 && decide (p.2 < validWords c))
  let h := headerBody c (recordFlagsOf c seen)
  let s1 := faWrite 0x1000 samples (faWrite 0x100 descs s)
  let s2 := faWrite 4 (h ++ leBytes 4 (crc32 (h ++ descs ++ samples))) s1
  faWrite 0 (leBytes 4 0xA55A) s2

/-- The marker is cleared: bytes 0 to 7 with STATE 0x00 (R266). -/
def clearMarker (s : State) : State := faWrite markerAt (zeros 1 ++ readBytes s (markerAt + 1) 7) s

/-- Post CAPTURE_COMMITTED (Table CMD.17). -/
def postCommitted (flags src code serial : Nat) (s : State) : State :=
  post 0x0801 (bitsOf [bit flags 0, bit flags 6]) src (code % 256 ||| (serial % 65536) <<< 16) s

/-- The record commit completes: the marker is cleared, Caldera goes to HELD, and CAPTURE_COMMITTED is posted
(R266, R267). -/
def recordComplete (bad : List (Nat × Nat)) (s : State) : State :=
  match s.cap.cap with
  | some c =>
    if s.cap.state = .committing ∧ c.started.isSome = true then
      let bw := badRecordWords c bad s
      let s1 := countRecordErrors c bw (clearMarker (writeRecord c bw (captureMarkerCommit s)))
      let s2 := { s1 with cap := { s1.cap with state := .held, cap := none, partSerial := none } }
      postCommitted c.flags c.src c.code c.serial s2
    else s
  | none => s

/-- CAPTURE_RECORD_COMMIT. `parityBad` lists the words (rail, word index) whose ring entry fails parity (R272). -/
def captureRecordCommit (parityBad : List (Nat × Nat)) (s : State) : State := recordComplete parityBad s

/-! ### The record area and recovery (R252, R253, R268, R275, R276) -/

/-- The commit word reads valid. -/
def recordHeld (s : State) : Bool := readNat s 0 4 == 0xA55A

/-- The commit word and the CRC match (R268, R270). -/
def recordValid (s : State) : Bool :=
  recordHeld s && !rangeBad s 0 0xD000 &&
    (readNat s 252 4 == crc32 (readBytes s 4 248 ++ readBytes s 0x100 0x180 ++ readBytes s 0x1000 0xC000))

/-- The state at configuration recall, and at a commit of cap.enable 1 (R252, R279). -/
def capEnterState (s : State) : CapState :=
  if pv s 0x0801 = 0 ∨ pv s 0x0705 = 0 then .disabled
  else if readNat s markerAt 1 = 1 then .recovering
  else if recordHeld s then .held
  else .armed

/-- Configuration recall: the state, the serial of the marker, and the missed count of the F-array (R252, R254, R263). -/
def capRecall (s : State) : State :=
  let m := (readTwo s tcMissed).getD (zeros 64)
  { s with cap := { s.cap with state := capEnterState s, cap := none, serial := readNat s (markerAt + 14) 2, missed := fieldAt m 0 2,
                               lastMissed := (byteAt m 2, byteAt m 3, fieldAt m 4 4), missedDirty := false } }

/-- The reason of CAPTURE_LOST (R276): start cause 2, the clock backstop, stands in place of reasons 0 and 1. -/
def lostReason (s : State) (serial : Nat) : Nat :=
  if recordHeld s && readNat s 22 2 == serial then 3
  else if s.core.startCause = .clockBackstop then 2
  else if s.cap.partSerial = some serial then 1
  else 0

/-- NV_READY with a PENDING marker of an earlier power cycle (R275, Table CAP.8). -/
def resolveMarker (s : State) : State :=
  if readNat s markerAt 1 = 1 ∧ (s.cap.state = .recovering ∨ s.cap.state = .disabled) then
    let m := readBytes s markerAt 64
    let serial := fieldAt m 14 2
    let next := fun (st : CapState) (t : State) => if s.cap.state = .recovering then { t with cap := { t.cap with state := st } } else t
    if recordValid s && readNat s 22 2 == serial then
      clearMarker (next .held (postCommitted (readNat s 11 1) (byteAt m 2) (byteAt m 1) serial s))
    else
      let reason := lostReason s serial
      let payload := bytesAt m 1 3 ++ leBytes 1 reason ++ bytesAt m 4 12
      let s1 := logRecord 0x0E payload s
      let s2 := post 0x0802 0 (byteAt m 2) (byteAt m 1 ||| reason <<< 8 ||| serial <<< 16) s1
      clearMarker (next .armed { s2 with cap := { s2.cap with partSerial := none } })
  else s

/-- A commit of cap.enable or cnv.pipe_enable has been applied (R250, R279). -/
def capParams (s : State) : State :=
  let off := pv s 0x0801 = 0 ∨ pv s 0x0705 = 0
  let s1 := if pv s 0x0705 = 0 then (if s.cap.pipeRuns then pipeStop s else s)
    else if !s.cap.pipeRuns && s.clk.pllLocked && s.core.recalled then pipeStart s else s
  if off then (if s1.cap.state = .armed ∨ s1.cap.state = .held then { s1 with cap := { s1.cap with state := .disabled } } else s1)
  else if s1.cap.state = .disabled then { s1 with cap := { s1.cap with state := capEnterState s1 } }
  else s1

/-! ### Commands (Table CMD.10) -/

/-- State codes (Table CAP.2). -/
def CapState.code : CapState → Nat
  | .disabled => 0
  | .armed => 1
  | .post => 2
  | .committing => 3
  | .held => 4
  | .recovering => 5

/-- CAPTURE_STATUS (R251, R700): the state, the record's validity, the serial, the missed count and the record's first 44 bytes. -/
def captureStatusBody (_r : Req) (_pl : Bytes) (s : State) : Reply :=
  let v := recordValid s
  .done stOk (leBytes 1 s.cap.state.code ++ leBytes 1 (b2n v) ++ leBytes 2 s.cap.serial ++ leBytes 2 s.cap.missed ++ zeros 2 ++
    (if v then readBytes s 0 44 else zeros 44)) s

/-- CAPTURE_STATUS (R251, R700). -/
def cmdCaptureStatus : CmdDef :=
  { code := 0x0800, caps := [capStatus], allow := allowAll, len := lenIs 0, range := anyRange, nv := false, modes := anyMode,
    body := captureStatusBody }

/-- CAPTURE_READ (R273, R701): bytes of the record area, behind a marker that is due (R536). -/
def captureReadBody (r : Req) (pl : Bytes) (s : State) : Reply :=
  match eccRead r.env (fieldAt pl 0 4) (byteAt pl 4) (markerTry s) with
  | (true, s1) => .done stHardware [] s1
  | (false, s1) => .done stOk (bytesAt pl 0 5 ++ zeros 1 ++ readBytes s1 (fieldAt pl 0 4) (byteAt pl 4)) s1

/-- CAPTURE_READ (R273, R701). -/
def cmdCaptureRead : CmdDef :=
  { code := 0x0801, caps := [capCapture], allow := allowAll, len := lenIs 5,
    range := fun b => decide (1 ≤ byteAt b 4) && decide (byteAt b 4 ≤ 240) && decide (fieldAt b 0 4 + byteAt b 4 ≤ 0x10000),
    nv := false, modes := anyMode, body := captureReadBody }

/-- CAPTURE_CLEAR (R274): a small commit, which starts only where RESV allows it (R533); what answers it there is read from R533, as Table
CMD.10 lists no status for it (DEDUCED, assumption 156). -/
def captureClearBody (_r : Req) (_pl : Bytes) (s : State) : Reply :=
  match s.cap.state with
  | .post => refuse stBusy s
  | .committing => refuse stBusy s
  | .recovering => refuse stBusy s
  | st =>
    if !supplyOk s 64 then refuse stNvSupplyLow s
    else
      let s1 := faWrite 0 (zeros 4) s
      let s2 := { s1 with cap := { s1.cap with missed := 0, lastMissed := (0, 0, 0), missedDirty := true,
                                               state := if st = .disabled then .disabled else .armed } }
      .done stOk [] (flushMissed s2)

/-- CAPTURE_CLEAR (R254, R255, R274). -/
def cmdCaptureClear : CmdDef :=
  { code := 0x0802, caps := [capCapture], allow := allowAll, len := lenIs 0, range := anyRange, nv := true, modes := anyMode,
    body := captureClearBody }

/-- CAPTURE_TEST (R261): a capture of a test trigger. -/
def captureTestBody (_r : Req) (_pl : Bytes) (s : State) : Reply :=
  if s.cap.state = .armed then
    let s1 := trigger 0 0xFF 0 1 0 (takeOcc .latch s)
    .done stOk (leBytes 2 s1.cap.serial) s1
  else refuse stBusy s

/-- CAPTURE_TEST (R261). -/
def cmdCaptureTest : CmdDef :=
  { code := 0x0803, caps := [capCapture], allow := allowAll, len := lenIs 0, range := anyRange, nv := false, modes := anyMode,
    body := captureTestBody }

end Sys2Proof.Machine
end

