-- ==== Sys2Proof/Machine/Gauge.lean ====
section
/-! DEFINITION. The QI integrator, the coulomb ledger and the battery gauge: conversion, update, short rests, anchors and
learning, the empty decision, start-up and the saved state (R468 to R483, R732, R733). -/

namespace Sys2Proof.Machine

/-- Change the gauge. -/
def onGau (f : Gauge → Gauge) (s : State) : State := { s with gau := f s.gau }

/-- One mAh in µC. -/
def mahUc : Int := 3600000

/-- gauge.design_mah in µC (R480). -/
def designUc (s : State) : Int := pv s 0x0B0F * mahUc

/-- A charge in mAh, rounded to nearest (R480). -/
def toMah (uc : Int) : Int := (uc + 1800000) / mahUc

/-- The effective gauge.vcut_mv (Table GEY.10). -/
def vcut (s : State) : Int :=
  if pv s 0x0B11 ≠ 0 then pv s 0x0B11 else pv s 0x0B02 * (if pv s 0x0B01 = 1 then 2900 else 3000)

/-- Loaded VBAT exists while the path is NO_SOURCE or SUPPLEMENT (R477). -/
def loadedPath (s : State) : Bool := s.inp.path == .noSource || s.inp.path == .supplement

/-- Loaded VBAT: the 10 ms mean of Q7 VBAT while the path is NO_SOURCE or SUPPLEMENT (R477). -/
def loadedVbat (s : State) : Option Int := if loadedPath s then meanV (lastPairs s 0x45 10000) else none

/-- A pair of VBAT and IBAT moves the gauge's watches: IBAT within ±C/200 (R473), and loaded VBAT below gauge.vcut_mv (R477); above it by more
than 200 mV, BATTERY_EMPTY is re-armed (R478). -/
def gaugeWatch (p : Q7Pair) (s : State) : State :=
  let q := if 100 * (p.i.natAbs : Int) ≤ pv s 0x0B0F then some (s.gau.quiet.getD p.at_) else none
  let l := match loadedVbat s with
    | some v => if v < vcut s then some (s.gau.low.getD s.clk.us) else none
    | none => none
  let rearm := (loadedVbat s).any (fun v => decide (vcut s + 200 < v))
  onGau (fun g => { g with quiet := q, low := l, empty := g.empty && !rearm }) s

/-- The microseconds value that a watch began at lies `us` back. -/
def heldFor (s : State) (w : Option Nat) (us : Nat) : Bool := w.any (fun t => decide (t + us ≤ s.clk.us))

/-! ### QI (R468, R469, R732) -/

/-- One delivery enters the coulomb ledger (R469, R732). The divisor is positive, so `/` floors. -/
def coulombTake (S q : Int) (c : Coulomb) : Coulomb :=
  let acc := q * 1000 + c.residual
  let uc := acc / S
  { inUc := if 0 ≤ uc then c.inUc + uc.toNat else c.inUc, outUc := if 0 ≤ uc then c.outUc else c.outUc + (-uc).toNat,
    net := c.net + uc, residual := acc - uc * S }

/-- QI delivers the charge of 1 ms: no time falls between two deliveries, and none is counted twice (R468). QI is off in SHIP. -/
def qiDelivery (q : Int) (s : State) : State :=
  if s.core.mode = .ship ∨ s.clk.us < s.bg.qiAt + 1000 then s
  else
    let s1 := takeOcc .qiDelivery s
    { s1 with bg := { s1.bg with coulomb := coulombTake (pv s1 0x0B14) q s1.bg.coulomb, qiAt := s1.bg.qiAt + 1000 } }

/-! ### The OCV table (R472) -/

/-- One segment: the state of charge at a battery voltage between two points of the table, 0.01 %, truncated. -/
def ocvSegment (cells : Int) (k : Nat) (p q v : Int) : Int := 500 * k + quot ((v - cells * p) * 500) ((q - p) * cells) Config.divByZero

/-- The first segment whose upper point is above the voltage, from segment `k` on. -/
def ocvSearch (cells v : Int) (b : Bytes) : Nat → Nat → Int
  | 0, _ => 10000
  | f + 1, k =>
    let p : Int := fieldAt b (2 * k) 2
    let q : Int := fieldAt b (2 * k + 2) 2
    if v < cells * q then ocvSegment cells k p q v else ocvSearch cells v b f (k + 1)

/-- ocv_to_soc (R472): linear between neighbouring points, clamped to 0 and 10 000. -/
def ocvToSoc (s : State) (v : Int) : Int :=
  let b := pb s 0x0B12
  let cells := pv s 0x0B02
  if v ≤ cells * (fieldAt b 0 2 : Int) then 0 else clampInt 0 10000 (ocvSearch cells v b 20 0)

/-- Set soc, and rem_uc with it (R473, R474). -/
def setSoc (soc : Int) (s : State) : State := onGau (fun g => { g with soc := soc.toNat, rem := g.full * soc / 10000 }) s

/-- The short-rest estimate (R474): soc moves toward the open-circuit estimate by w / 256. -/
def shortRest (ocvEst restMs : Int) (s : State) : State :=
  if s.gau.have_ && s.chg.band == 2 then
    let soc : Int := s.gau.soc
    setSoc (clampInt 0 10000 (soc + ((ocvToSoc s ocvEst - soc) * (restMs * 256 / 8000)).tdiv 256)) s
  else s

/-! ### The saved state (R470, Table GEY.11) -/

/-- The bytes of a gauge state copy before its generation (Table GEY.11). -/
def gaugeBody (s : State) : Bytes :=
  let g := s.gau
  leInt 8 g.rem ++ leInt 8 g.full ++ leBytes 2 g.soc ++ leBytes 2 g.rep ++
    leBytes 1 (bitsOf [g.prov, g.fullHold, g.empty, g.disagree, g.anchorValid, g.tempsOk]) ++ leBytes 1 g.anchorKind ++
    leBytes 2 g.anchorS ++ leInt 8 g.anchorN ++ leBytes 4 g.anchorSeq ++ leBytes 2 g.dcir ++ leBytes 2 g.cycle ++ leBytes 8 g.disch ++
    leInt 1 (g.tmin.getD 127) ++ leInt 1 (g.tmax.getD (-128)) ++ leBytes 2 g.credit ++ leBytes 4 s.aon.rtc ++ zeros 448

/-- Save the gauge state. -/
def saveGauge (s : State) : State := if s.gau.have_ then writeTwo tcGauge (gaugeBody s) s else s

/-- gauge.full_mah is kept through the gauge state: a small commit, where the array can take one (Table PAR.3, R533, R660). -/
def keepGauge (s : State) : State := if s.core.nvReady && fwRuns s && decide (6000 ≤ s.nv.resvMv) then saveGauge s else s

/-! ### Anchors and learning (R480 to R483) -/

/-- A GAP record lies above the sequence number kept at the last anchor (R470). -/
def gapBetween (s : State) : Bool :=
  (allRecords s).any (fun a => recLive s a && recType s a == 0x0A && decide (s.gau.anchorSeq < recSeq s a))

/-- A figure that there is none of: a free value (assumption 36). -/
def orFree (v : Option Int) (s : State) : Int × State :=
  match v with
  | some i => (i, s)
  | none => drawFree s

/-- A GAUGE_LEARN record (Table GEY.8): old full_mah, estimate, kinds, span, flags. -/
def learnRecord (old est : Int) (prev new span flags : Nat) (s : State) : State :=
  let (lo, s1) := orFree s.gau.tmin s
  let (hi, s2) := orFree s.gau.tmax s1
  logRecord 0x04 (leInt 2 old ++ leInt 2 (toMah s2.gau.full) ++ leInt 2 (toMah est) ++ leBytes 1 prev ++ leBytes 1 new ++
    leBytes 2 span ++ leInt 1 lo ++ leInt 1 hi ++ leBytes 1 flags ++ zeros 1 ++ leBytes 2 (s2.gau.cycle % 65536)) s2

/-- gauge.full_mah takes full_uc, as a device commit that is in force at once (Table PAR.3, R480). -/
def commitFull (s : State) : State :=
  let i : PInst := { id := 0x0B10, i1 := 0, i2 := 0 }
  takeUp (fun x => x == i) (deviceCommit [{ inst := i, value := .num (toMah s.gau.full) }] s)

/-- The learned capacity from an estimate (R480), before it is held within a tenth. -/
def learnedFull (full est : Int) : Int := (3 * full + est) / 4

/-- Learn from the last anchor at a new one (R480). -/
def learn (kind : Nat) (soc n : Int) (s : State) : State :=
  let g := s.gau
  let span := (soc - g.anchorS).natAbs
  if g.anchorValid && !gapBetween s && g.tempsOk && decide (4000 ≤ span) then
    let est : Int := (n - g.anchorN).natAbs * 10000 / (span : Int)
    let old := toMah g.full
    if est < designUc s / 2 ∨ designUc s * 6 / 5 < est then learnRecord old est g.anchorKind kind span 4 s
    else
      let nf := learnedFull g.full est
      let held := clampInt (g.full * 9 / 10) (g.full * 11 / 10) nf
      commitFull (learnRecord old est g.anchorKind kind span (if held = nf then 1 else 3) (onGau (fun x => { x with full := held }) s))
  else s

/-- A new anchor: learning from the last one, then the anchor itself (R480). Kinds 0 REST, 1 DONE, 2 EMPTY. -/
def setAnchor (kind : Nat) (soc : Int) (s : State) : State :=
  let n := s.bg.coulomb.net
  let s1 := learn kind soc n s
  let s2 := onGau (fun g => { g with anchorValid := true, anchorKind := kind, anchorS := soc.toNat, anchorN := n,
                                     anchorSeq := s1.log.nextSeq, tempsOk := true, tmin := none, tmax := none }) s1
  if s1.par.epoch = s.par.epoch then s2 else keepGauge s2

/-- The last anchor is discarded. -/
def dropAnchor (s : State) : State := onGau (fun g => { g with anchorValid := false, anchorKind := 0xFF }) s

/-- A REST anchor at a rested voltage (R473). -/
def restAt (vbat : Int) (s : State) : State :=
  let soc := ocvToSoc s vbat
  setAnchor 0 soc (onGau (fun g => { g with prov := false, quiet := some s.clk.us }) (setSoc soc s))

/-- REST_ANCHOR: the battery has rested for gauge.rest_full_s, and for that again (R473). -/
def restAnchor (s : State) : State :=
  if fwWorks s && s.gau.have_ && heldFor s s.gau.quiet (1000000 * pn s 0x0B13) then
    match meanV (lastPairs s 0x45 10000000) with
    | some v => restAt v s
    | none => s
  else s

/-- A DONE reached from TOPOFF: soc 10 000, rep held at 10 000, and a DONE anchor (R475, R480). -/
def doneAnchor (s : State) : State :=
  if s.gau.have_ then setAnchor 1 10000 (onGau (fun g => { g with rep := 10000, fullHold := true }) (setSoc 10000 s)) else s

/-! ### The empty decision (R477, R478) -/

/-- The argument of BATTERY_EMPTY and GAUGE_DISAGREE (Table CMD.17). -/
def batteryArg (vbat : Int) (soc : Nat) : Nat := s16 vbat ||| (soc % 65536) <<< 16

/-- TBL1 starts in RUN, and where TBL0 runs (R477, R93). -/
def emptyTable (s : State) : State :=
  if s.core.shipEntry != .begun && (s.core.mode == .run || (s.core.mode == .standby && runningTable s == 0)) then startTbl1 4 0xFF 2 s
  else s

/-- The empty decision (R477): the event, rep 0, an EMPTY anchor at soc 0, GAUGE_DISAGREE where soc was above 500, and the table. -/
def emptyAt (vbat : Int) (s : State) : State :=
  let soc := s.gau.soc
  let s1 := post 0x0B02 0 0 (batteryArg vbat soc) s
  let s2 := setAnchor 2 0 (onGau (fun g => { g with empty := true, rep := 0 }) (setSoc 0 s1))
  let s3 := if 500 < soc then post 0x0B03 0 1 (batteryArg vbat soc) s2 else s2
  emptyTable s3

/-- BATTERY_EMPTY: loaded VBAT has stayed below gauge.vcut_mv for 2 s (R477). -/
def batteryEmpty (s : State) : State :=
  if fwWorks s && s.gau.have_ && !s.gau.empty && heldFor s s.gau.low 2000000 then
    match loadedVbat s with
    | some v => emptyAt v s
    | none => s
  else s

/-- A source becomes active: BATTERY_EMPTY and GAUGE_DISAGREE are re-armed (R476, R478). -/
def gaugeSource (s : State) : State := onGau (fun g => { g with empty := false, disagree := false, low := none }) s

/-! ### The one-second update (R471, R475, R476, R482) -/

/-- Pending gauge parameters are taken up; a write of gauge.full_mah replaces full_uc and discards the last anchor (R481). A gauge.full_mah that
nothing has written or learned follows gauge.design_mah, and full_uc with it (Table GEY.10). -/
def gaugeParams (s : State) : State :=
  let mine := s.par.cells.filter (fun c => c.inst.id == 0x0B10)
  let s1 := takeOcc .gaugeUpdate s
  if mine.any (fun c => c.pending) then dropAnchor (onGau (fun g => { g with full := pv s1 0x0B10 * mahUc }) s1)
  else if mine.isEmpty then onGau (fun g => { g with full := pv s1 0x0B10 * mahUc }) s1
  else s1

/-- The charge of the second: rem_uc, soc, and the cycle count (R471, R482). -/
def gaugeCharge (s : State) : State :=
  let c := s.bg.coulomb
  onGau (fun g =>
    let rem := clampInt 0 g.full (g.rem + (c.net - g.lastNet))
    let dis : Int := g.disch + (c.outUc - g.lastOut)
    { g with rem := rem, soc := (quot (rem * 10000) g.full Config.divByZero).toNat, lastNet := c.net, lastOut := c.outUc,
             disch := if g.full ≤ 0 then dis.toNat else (dis % g.full).toNat,
             cycle := if g.full ≤ 0 then g.cycle else satAdd 65535 g.cycle (dis / g.full).toNat }) s

/-- Minimum with what has been seen. -/
def minOpt (a : Option Int) (v : Int) : Option Int := some (match a with | some x => min x v | none => v)

/-- Maximum with what has been seen. -/
def maxOpt (a : Option Int) (v : Int) : Option Int := some (match a with | some x => max x v | none => v)

/-- The temperature that the update sees (R480): whole °C, truncated. -/
def gaugeTemp (s : State) : State :=
  match s.chg.temp with
  | none => onGau (fun g => { g with tempsOk := false }) s
  | some t =>
    onGau (fun g => { g with tempsOk := g.tempsOk && decide (100 ≤ t) && decide (t ≤ 450), tmin := minOpt g.tmin (t.tdiv 10),
                             tmax := maxOpt g.tmax (t.tdiv 10) }) s

/-- GAUGE_DISAGREE with COUNTER_EMPTY, once per discharge (R476). -/
def counterEmpty (loaded : Option Int) (s : State) : State :=
  match loaded with
  | some v =>
    if s.gau.soc = 0 ∧ vcut s + 100 < v ∧ s.gau.disagree = false then
      post 0x0B03 0 0 (batteryArg v 0) (onGau (fun g => { g with disagree := true }) s)
    else s
  | none => s

/-- The reported state of charge follows soc (R475). -/
def followSoc (credit slew rep soc : Nat) : Nat × Nat :=
  let c := credit + slew * 10
  let step := c / 60
  (min 600 (c - step * 60), if rep < soc then min soc (rep + step) else max soc (rep - step))

/-- Loaded VBAT is above gauge.vcut_mv by more than a margin. -/
def loadedAbove (s : State) (loaded : Option Int) (m : Int) : Bool :=
  match loaded with
  | some v => decide (vcut s + m < v)
  | none => false

/-- The reported value of the second: the slew, the hold at 1 %, and the hold at 100 % after a full DONE (R475). -/
def gaugeRep (loaded : Option Int) (s : State) : State :=
  let hold := loadedAbove s loaded 100
  let full := s.gau.fullHold && (s.chg.phase == .done || s.chg.phase == .maintain)
  onGau (fun g =>
    let f := followSoc g.credit (pn s 0x0B15) g.rep g.soc
    { g with credit := f.1, rep := if full then 10000 else if hold && decide (f.2 < 100) then 100 else f.2 }) s

/-- The gauge's one-second update, with the loaded VBAT where the path gives one. -/
def gaugeSecond (s : State) : State :=
  let l := loadedVbat s
  let s1 := gaugeTemp (gaugeCharge (gaugeParams (onGau (fun g => { g with updAt := s.clk.us }) s)))
  let s2 := gaugeRep l (counterEmpty l s1)
  if loadedAbove s2 l 200 then onGau (fun g => { g with empty := false }) s2 else s2

/-- The gauge that a saved copy spells. A minimum above its maximum stands for no temperature yet (assumption 36). -/
def gaugeOf (b : Bytes) (g : Gauge) : Gauge :=
  let f := byteAt b 20
  let lo := toSigned 8 (byteAt b 48)
  let hi := toSigned 8 (byteAt b 49)
  { g with
    rem := leSigned (bytesAt b 0 8), full := leSigned (bytesAt b 8 8), soc := fieldAt b 16 2, rep := fieldAt b 18 2, prov := bit f 0,
    fullHold := bit f 1, empty := bit f 2, disagree := bit f 3, anchorValid := bit f 4, tempsOk := bit f 5, anchorKind := byteAt b 21,
    anchorS := fieldAt b 22 2, anchorN := leSigned (bytesAt b 24 8), anchorSeq := fieldAt b 32 4, dcir := fieldAt b 36 2,
    cycle := fieldAt b 38 2, disch := fieldAt b 40 8, tmin := if lo ≤ hi then some lo else none,
    tmax := if lo ≤ hi then some hi else none, credit := fieldAt b 50 2, saved := true }

/-- gauge.full_mah reads the capacity of the state in force (R480): recalled, not committed. -/
def recallFull (s : State) : State :=
  let v := PVal.num (toMah s.gau.full)
  let c : PCell := { inst := { id := 0x0B10, i1 := 0, i2 := 0 }, committed := v, inForce := v, pending := false, epoch := 0 }
  { s with par := { s.par with cells := putCell s.par.cells c } }

/-! ### Start-up (R479, Table GEY.7) -/

/-- soc from the boot rest; with no saved state the reported value starts there too (assumption 37). -/
def bootSoc (v : Int) (s : State) : State := setSoc (ocvToSoc s v) s

/-- No saved state: full_uc is gauge.full_mah, and nothing has been counted yet. -/
def bootFresh (v : Int) (s : State) : State :=
  let s1 := bootSoc v (dropAnchor (onGau (fun g => { g with full := pv s 0x0B10 * mahUc, prov := true }) s))
  onGau (fun g => { g with rep := g.soc, lastNet := s.bg.coulomb.net, lastOut := s.bg.coulomb.outUc }) s1

/-- soc is taken afresh: the ledger counts on from here. -/
def bootCount (s : State) : State := onGau (fun g => { g with lastNet := s.bg.coulomb.net, lastOut := s.bg.coulomb.outUc }) s

/-- The row of Table GEY.7; a GAP goes before a SHIP record (assumption 37). -/
def bootRow (v : Int) (s : State) : State :=
  if !s.gau.saved then onGau (fun g => { g with have_ := true }) (bootFresh v s)
  else
    let s1 := onGau (fun g => { g with have_ := true }) s
    if s1.gau.gapSeen then dropAnchor (onGau (fun g => { g with prov := true }) (bootCount (bootSoc v s1)))
    else if s1.gau.longShip then
      let s2 := onGau (fun g => { g with prov := false }) (bootCount (bootSoc v s1))
      setAnchor 0 s2.gau.soc s2
    else shortRest v 150 s1

/-- A session that began before the gauge state was known starts from the reported value that comes with it (Table GEY.9). -/
def sessionRep (s : State) : State :=
  { s with chg := { s.chg with session := s.chg.session.map (fun x => { x with repStart := s.gau.rep }) } }

/-- The gauge start-up, once the boot rest and NV_READY have both come (R479). -/
def bootDecide (s : State) : State :=
  match s.gau.boot with
  | some (v, i) =>
    if s.core.nvReady then
      let s0 := bootRow v (onGau (fun g => { g with boot := none }) s)
      let s1 := if s.gau.have_ then s0 else sessionRep s0
      if pv s1 0x0B0F < 20 * (i.natAbs : Int) then onGau (fun g => { g with prov := true }) s1 else s1
    else s
  | none => s

/-- NV_READY: the saved state is read where none is held in the banks, with what the start found for Table GEY.7. The
ledger values beside a saved state are those of the checkpoint. -/
def gaugeRestore (cp : Option Bytes) (longShip gap : Bool) (s : State) : State :=
  let s1 := onGau (fun g => { g with longShip := longShip, gapSeen := gap }) s
  let s2 := if s1.gau.have_ then onGau (fun g => { g with saved := true }) s1
    else
      match readTwo s1 tcGauge with
      | some b =>
        let n := match cp with
          | some c => (leSigned (bytesAt c 16 8), fieldAt c 8 8)
          | none => (s1.bg.coulomb.net, s1.bg.coulomb.outUc)
        recallFull (onGau (fun g => { gaugeOf b g with lastNet := n.1, lastOut := n.2 }) s1)
      | none => s1
  bootDecide s2

/-! ### Commands (Table CMD.12) -/

/-- A channel's last usable result, a free value where there has been none (assumption 36). -/
def lastResult (ch : Nat) (s : State) : Int × State := orFree (vget s.msr.results ch none) s

/-- GAUGE_READ (Table CMD.12). IBAT results are in units of 0.5 mA (Table MSR.9). -/
def gaugeReadBody (_r : Req) (_pl : Bytes) (s : State) : Reply :=
  let g := s.gau
  let (v, s1) := lastResult 0x45 s
  let (i, s2) := lastResult 0x46 s1
  let (t, s3) := orFree s2.chg.temp s2
  let charging := s.chg.phase == .precharge || s.chg.phase == .geyser || s.chg.phase == .topoff
  .done stOk (leBytes 2 g.rep ++ leBytes 2 g.soc ++ leInt 2 (g.rem / mahUc) ++ leInt 2 (toMah g.full) ++ leBytes 2 (pn s 0x0B0F) ++
    leBytes 1 (bitsOf [g.prov, charging, g.empty]) ++ leBytes 1 g.anchorKind ++ leBytes 2 g.cycle ++ leInt 2 v ++ leInt 2 (i.tdiv 2) ++
    leInt 2 t ++ leInt 8 s.bg.coulomb.net) s3

/-- GAUGE_READ. -/
def cmdGaugeRead : CmdDef :=
  { code := 0x0B02, caps := [capStatus], allow := allowAll, len := lenIs 0, range := anyRange, nv := false, modes := anyMode,
    body := gaugeReadBody }

/-- GAUGE_RELEARN (R481): the span and the estimate of its record have no meaning, and are free values (assumption 36). -/
def gaugeRelearnBody (_r : Req) (_pl : Bytes) (s : State) : Reply :=
  let old := toMah s.gau.full
  let prev := s.gau.anchorKind
  let (est, s1) := drawFree s
  let (span, s2) := drawFree s1
  let s3 := dropAnchor (onGau (fun g => { g with full := designUc s2, prov := true }) s2)
  .done stOk [] (keepGauge (commitFull (learnRecord old est prev 0xFF span.natAbs 8 s3)))

/-- GAUGE_RELEARN. -/
def cmdGaugeRelearn : CmdDef :=
  { code := 0x0B03, caps := [capPower], allow := allowAll, len := lenIs 0, range := anyRange, nv := true, modes := anyMode,
    body := gaugeRelearnBody }

end Sys2Proof.Machine
end

