-- ==== Sys2Proof/Machine/Geyser.lean ====
section
/-! DEFINITION. Geyser: suspend causes, phases, sessions, pulses and rests, the step decision, temperature bands, the safety
timer, and the CHARGE commands (R444 to R467, R705). -/

namespace Sys2Proof.Machine

/-- Change the charger. -/
def onChg (f : Charger → Charger) (s : State) : State := { s with chg := f s.chg }

/-- The code of a phase (Table GEY.1). -/
def ChgPhase.code : ChgPhase → Nat
  | .check => 0
  | .precharge => 1
  | .geyser => 2
  | .topoff => 3
  | .done => 4
  | .maintain => 5
  | .suspended => 6

/-! ### Figures in force -/

/-- The cells of the pack. -/
def cells (s : State) : Int := pv s 0x0B02

/-- A latch of a global code is set. -/
def latched (s : State) (code : Nat) : Bool := s.sup.latches.any (fun l => l.code == code)

/-- icc_eff (R460). -/
def iccEff (s : State) : Int := (pv s 0x0B04 * s.chg.bandNum).tdiv 8

/-- ipre_eff (R461). -/
def ipreEff (s : State) : Int := (pv s 0x0B05 * s.chg.bandNum).tdiv 8

/-- vcell_eff (R451). -/
def vcellEff (s : State) : Int := pv s 0x0B03 + s.chg.bandDv

/-- v_lim (R451). -/
def vLim (s : State) : Int := cells s * vcellEff s

/-- pre_thr (Table GEY.2). -/
def preThr (s : State) : Int := if pv s 0x0B01 = 1 then 2600 else 3000

/-- A current rounded down to 50 mA. -/
def floor50 (i : Int) : Int := i.tdiv 50 * 50

/-! ### Suspend causes (Table GEY.3) -/

/-- A source is active (R393). -/
def sourceActive (s : State) : Bool := s.inp.path == .source || s.inp.path == .supplement || s.inp.path == .noBattery

/-- The thermistor of the battery is open (R357, Table SUP.1). -/
def tsOpen (s : State) : Bool := s.chg.tsHold || vget s.msr.tripped (pn s 0x0B0E) false

/-- A cause of Table GEY.3 holds. -/
def causeHolds (s : State) (c : Nat) : Bool :=
  match c with
  | 0 => !sourceActive s
  | 1 => !s.core.fwReady
  | 2 => s.chg.band == 0
  | 3 => s.chg.band == 4 && !tsOpen s
  | 4 => tsOpen s
  | 5 => latched s 0x13
  | 6 => s.chg.timeout
  | 7 => s.chg.inhibit
  | 8 => latched s 0x15
  | 9 => s.chg.recoveryFailed
  | _ => false

/-- The cause that is reported: the lowest code that holds (assumption 38). -/
def chargeCause (s : State) : Option Nat := (List.range 10).find? (causeHolds s)

/-! ### Set-point and timer -/

/-- Hardware holds the charge current at zero: DIE_OT, BAT_OV, BAT_REVERSE, and an open thermistor (Table SUP.1). -/
def chargerOff (s : State) : Bool := latched s 0x20 || latched s 0x13 || latched s 0x12 || tsOpen s

/-- Write the set-point (R445). A change to zero or from zero is a step edge, which may fire a trigger line (R328, R446).
The recovery current of CHECK turns the battery FET on where there is no battery, and a calibration of IBAT loses its ground (R314, R453). -/
def setPoint (i : Int) (s : State) : State :=
  let j := if chargerOff s then 0 else i
  let s1 := onChg (fun c => { c with setpoint := j }) (if (s.chg.setpoint == 0) == (j == 0) then s else noteSource 3 0 s)
  if j ≠ 0 ∧ s.chg.phase = .check ∧ s.inp.path = .noBattery ∧ s.core.batFet = true then calLose (fun c => !c.gain && c.channel == 0x46) 0 s1
  else s1

/-- Phases in which the safety timer counts (R466). -/
def ChgPhase.timed : ChgPhase → Bool
  | .precharge => true
  | .geyser => true
  | .topoff => true
  | _ => false

/-- The safety timer, µs (R466). -/
def safetyTimer (s : State) : Nat :=
  s.chg.timerAcc + (match s.chg.timerSince with | some t => s.clk.us - t | none => 0)

/-- The timer follows the phase (R466). -/
def timerPhase (p : ChgPhase) (s : State) : State :=
  onChg (fun c => { c with timerAcc := if p = .done then 0 else safetyTimer s, timerSince := if p.timed then some s.clk.us else none }) s

/-- The timer restarts (R466). -/
def timerReset (s : State) : State :=
  onChg (fun c => { c with timerAcc := 0, timerSince := if c.phase.timed then some s.clk.us else none }) s

/-! ### Bands (R463 to R465) -/

/-- A boundary of chg.temp_bands in 0.1 °C; the cold stop alone is signed (Table GEY.5). -/
def bandEdge (s : State) (k : Nat) : Int :=
  let b := byteAt (pb s 0x0B0A) k
  10 * (if k = 0 then toSigned 8 b else (b : Int))

/-- The hysteresis in 0.1 °C. -/
def bandHyst (s : State) : Int := 10 * (byteAt (pb s 0x0B0A) 5 : Int)

/-- The band of a temperature without hysteresis (Table GEY.6). -/
def plainBand (s : State) (t : Int) : Nat :=
  if t < bandEdge s 0 then 0 else if t < bandEdge s 1 then 1 else if t ≤ bandEdge s 2 then 2 else if t ≤ bandEdge s 3 then 3 else 4

/-- The boundary between a band and its neighbour toward the standard band has been passed by the hysteresis (R464). -/
def passed (s : State) (b : Nat) (t : Int) : Bool :=
  match b with
  | 0 => decide (bandEdge s 0 + bandHyst s ≤ t)
  | 1 => decide (bandEdge s 1 + bandHyst s ≤ t)
  | 3 => decide (t ≤ bandEdge s 2 - bandHyst s)
  | 4 => decide (t ≤ bandEdge s 3 - bandHyst s)
  | _ => true

/-- One band nearer the standard band. -/
def inward (b : Nat) : Nat := if b < 2 then b + 1 else if 2 < b then b - 1 else b

/-- Move from a band toward the target, as far as the hysteresis allows. -/
def bandSteps (s : State) (t : Int) (target : Nat) : Nat → Nat → Nat
  | 0, b => b
  | f + 1, b =>
    if (b < target ∧ b < 2 ∨ target < b ∧ 2 < b) ∧ passed s b t = true then bandSteps s t target f (inward b) else b

/-- The new band (R464): away from the standard band at once, toward it past the hysteresis. -/
def bandOf (s : State) (t : Int) : Nat :=
  let target := plainBand s t
  let b := s.chg.band
  let c := bandSteps s t target 4 b
  if c = 2 ∨ (c < 2 ∧ target < c) ∨ (2 < c ∧ c < target) then target else c

/-- band_num of a band (Table GEY.6). -/
def bandNumOf (s : State) (b : Nat) : Int :=
  if b = 1 then byteAt (pb s 0x0B0A) 6 else if b = 3 then byteAt (pb s 0x0B0A) 7 else 8

/-- band_dv of a band, mV (Table GEY.6). -/
def bandDvOf (s : State) (b : Nat) : Int :=
  if b = 1 then 10 * toSigned 8 (byteAt (pb s 0x0B0A) 8) else if b = 3 then 10 * toSigned 8 (byteAt (pb s 0x0B0A) 9) else 0

/-- A safe point of the charger (R456, R465): pending parameters and band raises come into force. -/
def chgSafe (s : State) : State :=
  let s1 := takeOcc .chgSafe s
  onChg (fun c => { c with bandNum := bandNumOf s1 c.band, bandDv := bandDvOf s1 c.band }) s1

/-- The set-point of CHECK: the recovery current where the battery is not valid and not reversed (R453), else zero. -/
def checkPoint (s : State) : Int := if s.inp.path = .noBattery ∧ latched s 0x12 = false then min (pv s 0x0B05) 100 else 0

/-- The set-point that the phase asks for (Table GEY.1): that of CHECK, ipre_eff, the current of the pulse under way, or i_top, each no more
than the band allows (R461, R465); zero in a rest and in the boot rest (R479). -/
def phasePoint (s : State) : Int :=
  if s.chg.bootRest then 0
  else
    match s.chg.phase with
    | .check => checkPoint s
    | .precharge => ipreEff s
    | .geyser => if s.chg.inRest then 0 else min s.chg.iPrev (iccEff s)
    | .topoff => min s.chg.iTop (iccEff s)
    | _ => 0

/-- A band change that lowers v_lim or band_num acts at once (R465): the set-point falls to the new band's current. -/
def bandLower (s : State) : State :=
  let n := min s.chg.bandNum (bandNumOf s s.chg.band)
  let v := min s.chg.bandDv (bandDvOf s s.chg.band)
  let s1 := onChg (fun c => { c with bandNum := n, bandDv := v }) s
  setPoint (phasePoint s1) s1

/-- ROOT edges in a switching period of the charger, at a microsecond of the dither: ROOT is 240 MHz, and a triangular sweep of ±4 %
repeats every 50 µs (R444). -/
def pwmPeriod (s : State) (t : Nat) : Nat :=
  let x := t % 50
  240000 * (2400 + 8 * (if x < 25 then x else 50 - x)) / (2500 * pn s 0x0B0C)

/-! ### Sessions (R452, Table GEY.9) -/

/-- A session begins. -/
def sessionBegin (s : State) : State :=
  if s.chg.session.isSome then s
  else
    let i := match s.inp.active with | some n => n | none => 0
    onChg (fun c => { c with pulses := 0, invalid := 0, preAcc := 0, session := some {
      rtc := s.aon.rtc, start := s.clk.us, inStart := s.bg.coulomb.inUc, repStart := s.gau.rep, first := 0, last := 0,
      tmin := c.temp.map (fun t => t.tdiv 10), tmax := c.temp.map (fun t => t.tdiv 10), input := i } }) s

/-- The session ends with its CHARGE_CYCLE record; the safety timer resets (R452, R466, Table GEY.9). -/
def sessionEnd (reason : Nat) (s : State) : State :=
  match s.chg.session with
  | none => s
  | some x =>
    let (lo, s1) := orFree x.tmin s
    let (hi, s2) := orFree x.tmax s1
    let rec_ := leBytes 4 x.rtc ++ leBytes 4 ((s.clk.us - x.start) / 1000000) ++ leBytes 4 ((s.bg.coulomb.inUc - x.inStart) / 360000) ++
      leBytes 1 s.chg.phase.code ++ leBytes 1 reason ++ leBytes 2 s.chg.pulses ++ leBytes 2 s.chg.invalid ++ leBytes 2 x.first ++
      leBytes 2 x.last ++ leBytes 2 x.repStart ++ leBytes 2 s.gau.rep ++ leInt 1 lo ++ leInt 1 hi ++ leBytes 1 x.input ++ zeros 3
    logRecord 0x03 rec_ (timerReset (onChg (fun c => { c with session := none }) s2))

/-- The end reason of a suspend cause, where that cause ends the session (R452). -/
def endReason (c : Nat) : Option Nat :=
  match c with
  | 0 => some 2
  | 6 => some 3
  | 7 => some 4
  | 9 => some 5
  | _ => none

/-- A suspension ends the session when one of the ending causes holds (R452). -/
def endIfCause (s : State) : State :=
  match ((List.range 10).filter (causeHolds s)).findSome? endReason with
  | some r => sessionEnd r s
  | none => s

/-! ### Phases (R449, R450) -/

/-- The time that PRECHARGE has taken in the session, µs (R467). -/
def preTimer (s : State) : Nat := s.chg.preAcc + (if s.chg.phase = .precharge then s.clk.us - s.chg.phaseAt else 0)

/-- The safety timer has reached chg.safety_timer_min, or PRECHARGE 60 min in the session (R467). -/
def timerDue (s : State) : Bool := decide (60000000 * pn s 0x0B0B ≤ safetyTimer s) || decide (3600000000 ≤ preTimer s)

/-- A time has passed since the entry to the phase. -/
def phaseFor (s : State) (us : Nat) : Bool := decide (s.chg.phaseAt + us ≤ s.clk.us)

/-- A time has passed since the step edge that began the rest or the pulse. -/
def sinceEdge (s : State) (us : Nat) : Bool := decide (s.chg.restAt + us ≤ s.clk.us)

/-- Enter a phase: the event, the timer, and the safe point (R449, R456, R466). -/
def setPhase (p : ChgPhase) (cause : Nat) (s : State) : State :=
  if s.chg.phase = p then s
  else
    let prev := s.chg.phase.code
    let s1 := onChg (fun c => { c with phase := p, phaseAt := s.clk.us, secs := 0, preAcc := preTimer s }) (timerPhase p s)
    let s2 := onGau (fun g => { g with fullHold := g.fullHold && (p == .done || p == .maintain) }) s1
    chgSafe (post 0x0B01 0 p.code (prev ||| cause <<< 8) s2)

/-- No figure of a rest is held. -/
def dropFigures (c : Charger) : Charger := { c with iNext := none, vEndPrev := none, clamped := false }

/-- Enter CHECK (R452): a session begins, and a measurement rest runs. -/
def enterCheck (s : State) : State :=
  let s1 := setPhase .check 0xFF (sessionBegin s)
  setPoint (phasePoint s1) (onChg (fun c => { dropFigures c with inRest := true, restAt := s.clk.us, rise := none, cause := 0xFF }) s1)

/-- Enter SUSPENDED (R450). -/
def suspend (cause : Nat) (s : State) : State :=
  let s1 := endIfCause s
  let s2 := setPhase .suspended cause s1
  setPoint 0 (onChg (fun c => { dropFigures c with inRest := false, cause := cause }) s2)

/-- CHECK follows the path: where the recovery current ends, the rest begins, with its safe point (R453, R456). -/
def recheckPoint (s : State) : State :=
  let i := phasePoint s
  if s.chg.setpoint = i then setPoint i s
  else
    let s1 := onChg (fun c => { c with restAt := s.clk.us }) s
    setPoint i (if i = 0 then chgSafe s1 else s1)

/-- Geyser judges its suspend causes (R450), and what the phase asks for comes back where the hardware no longer holds the current at zero
(R461). Firmware does it; where it does not run, the hardware alone holds the current at zero. -/
def chgJudge (s : State) : State :=
  if fwWorks s then
    match chargeCause s with
    | some c => if s.chg.phase = .suspended then onChg (fun x => { x with cause := c }) (endIfCause s) else suspend c s
    | none =>
      if s.chg.phase = .suspended then enterCheck s
      else if s.chg.phase = .check then recheckPoint s
      else setPoint (phasePoint s) s
  else setPoint s.chg.setpoint s

/-- DONE: the session ends, at a stop point or full (R450, R454, R475). -/
def enterDone (full : Bool) (s : State) : State :=
  let s1 := if full then doneAnchor s else s
  let s2 := setPhase .done 0xFF (sessionEnd (if full then 0 else 1) s1)
  setPoint 0 (onChg (fun c => { dropFigures c with inRest := false }) s2)

/-- TOPOFF at a current (R461). -/
def enterTopoff (i : Int) (s : State) : State :=
  let s1 := onChg (fun c => { dropFigures c with iTop := i, inRest := false }) (setPhase .topoff 0xFF s)
  setPoint (phasePoint s1) s1

/-! ### The step decision (R457 to R460) -/

/-- A resistance over a current step, where the step is at least 200 mA and the result positive (R458). -/
def resistance (dv di : Int) : Option Int :=
  if 200 ≤ di.natAbs then
    let r := quot (dv * 1000) di Config.divByZero
    if 0 < r then some r else none
  else none

/-- The figures of a rest (Table GEY.4), and whether it is valid (R458). -/
structure RestFigures where
  vPre : Int
  iPre : Int
  v1 : Int
  i1 : Int
  v50 : Int
  i50 : Int
  vEnd : Int
  valid : Bool
deriving DecidableEq, Repr

/-- The pairs of VBAT and IBAT from `a` to `b` µs after the step edge. -/
def edgePairs (s : State) (a b : Nat) : List Q7Pair := pairsIn s 0x45 (s.chg.restAt + a) (s.chg.restAt + b)

/-- Every IBAT from 0.9 ms on lies within ±25 mA (R458). -/
def restQuiet (s : State) : Bool := (edgePairs s 900 (1000 * pn s 0x0B09)).all (fun p => decide (p.i.natAbs ≤ 50))

/-- The pairs of v_end (Table GEY.4). -/
def endPairs (s : State) : List Q7Pair := edgePairs s (1000 * pn s 0x0B09 - 11000) (1000 * pn s 0x0B09 - 1000)

/-- The rest under way, by the windows of Table GEY.4 about its falling edge (R457, R458). -/
def restFigures (s : State) : RestFigures :=
  let pre := pairsIn s 0x45 (s.chg.restAt - 1000) s.chg.restAt
  let w1 := edgePairs s 900 1100
  let w50 := edgePairs s 49000 51000
  let v := fun (l : List Q7Pair) => (meanV l).getD 0
  let i := fun (l : List Q7Pair) => (meanI l).getD 0
  { vPre := v pre, iPre := i pre, v1 := v w1, i1 := i w1, v50 := v w50, i50 := i w50, vEnd := v (endPairs s),
    valid := restQuiet s && !pre.isEmpty && !w1.isEmpty && !w50.isEmpty && !(endPairs s).isEmpty }

/-- The means of the pairs in a window after the rising edge of a pulse, once one of them is `p`. -/
def riseMeans (p : Q7Pair) (a b : Nat) (old : Option (Int × Int)) (s : State) : Option (Int × Int) :=
  if s.chg.restAt + a ≤ p.at_ ∧ p.at_ ≤ s.chg.restAt + b then
    let w := edgePairs s a b
    some ((meanV w).getD 0, (meanI w).getD 0)
  else old

/-- A pair in the windows of the rising edge of a pulse belongs to v_1r and i_1r, or to v_50r and i_50r (Table GEY.4). -/
def riseWatch (p : Q7Pair) (s : State) : State :=
  if s.chg.phase = .geyser ∧ s.chg.inRest = false then
    onChg (fun c => { c with rise1 := riseMeans p 900 1100 c.rise1 s, rise := riseMeans p 49000 51000 c.rise s }) s
  else s

/-- The figures of a valid rest (R459). -/
structure RestCalc where
  dcir1 : Option Int
  dcir50 : Option Int
  slope : Int
  ocvEst : Int
deriving DecidableEq, Repr

/-- R459 over the figures of a rest. -/
def restCalc (restMs : Int) (m : RestFigures) : RestCalc :=
  { dcir1 := resistance (m.vPre - m.v1) (m.iPre - m.i1), dcir50 := resistance (m.vPre - m.v50) (m.iPre - m.i50),
    slope := quot ((m.vEnd - m.v50) * 1000000) (restMs - 50) Config.divByZero, ocvEst := m.vEnd - (m.v50 - m.vEnd).tdiv 2 }

/-- dcir50_r of the rising edge that ended the previous rest (R459). -/
def riseDcir (s : State) : Option Int :=
  match s.chg.rise, s.chg.vEndPrev with
  | some (v, i), some e => resistance (v - e) i
  | _, _ => none

/-- dcir_use of R460; 0 for none. -/
def dcirUse (s : State) (fall rise : Option Int) : Int :=
  match fall, rise with
  | some f, some r => (f + r).tdiv 2
  | some f, none => f
  | none, some r => r
  | none, none => s.gau.dcir

/-- What the decision chose: the next pulse current, or TOPOFF at a current. -/
inductive StepChoice where
  | pulse (i : Int)
  | topoff (i : Int)
deriving DecidableEq, Repr

/-- The pseudocode of R460 for a valid rest. -/
def stepChoice (s : State) (ocvEst : Int) (dcir : Int) : StepChoice :=
  if vLim s - cells s * 20 ≤ ocvEst then .topoff s.chg.iPrev
  else
    let want := if 0 < dcir then (((vLim s - ocvEst) * 1000).tdiv dcir * pv s 0x0B0D).tdiv 100 else (iccEff s).tdiv 2
    let i1 := min want (iccEff s)
    let i2 := floor50 (if s.chg.clamped then min i1 s.chg.iClamp else i1)
    if i2 ≤ (iccEff s).tdiv 4 then .topoff i2 else .pulse i2

/-- Take what the decision chose (R460). -/
def takeChoice (c : StepChoice) (s : State) : State :=
  match c with
  | .pulse i => onChg (fun x => { x with iNext := some i }) s
  | .topoff i => enterTopoff i s

/-- An invalid rest: it is counted, and the previous current is repeated (R458, R460). -/
def invalidRest (s : State) : State := onChg (fun c => { c with invalid := c.invalid + 1, iNext := some c.iPrev, vEndPrev := none }) s

/-- The session's first and last dcir50_f (Table GEY.9). -/
def noteDcir (d : Int) (x : Session) : Session := { x with first := if x.first = 0 then d.toNat else x.first, last := d.toNat }

/-- Keep the figures of a valid rest (R459, R470). -/
def keepFigures (q : RestCalc) (s : State) : State :=
  let s1 := onChg (fun c => { c with ocvEst := q.ocvEst, slope := q.slope, dcir1 := q.dcir1.getD c.dcir1, dcir50 := q.dcir50.getD c.dcir50 }) s
  match q.dcir50 with
  | some d => onGau (fun g => { g with dcir := min 65535 d.toNat }) (onChg (fun c => { c with session := c.session.map (noteDcir d) }) s1)
  | none => s1

/-- The decision at the end of a rest of GEYSER (R460, R474). A rest that a core reset broke has no falling edge. -/
def geyserDecision (m : RestFigures) (s : State) : State :=
  if m.valid then
    let q0 := restCalc (pv s 0x0B09) m
    let q := if s.chg.discardRest then { q0 with dcir1 := none, dcir50 := none } else q0
    let rise := riseDcir s
    let s1 := shortRest q.ocvEst (pv s 0x0B09) (keepFigures q s)
    let c := stepChoice s1 q.ocvEst (dcirUse s1 q.dcir50 rise)
    takeChoice c (onChg (fun x => { x with vEndPrev := some m.vEnd, discardRest := false }) s1)
  else onChg (fun x => { x with discardRest := false }) (invalidRest s)

/-- CHECK decides by its rest VBAT (Table GEY.2); the first pulse follows R460. -/
def checkDecision (v : Int) (s : State) : State :=
  if cells s * (vcellEff s - pv s 0x0B07) ≤ v then
    setPoint 0 (onChg (fun c => { c with inRest := false }) (setPhase .maintain 0xFF s))
  else if v < cells s * preThr s then
    let s1 := onChg (fun c => { c with inRest := false }) (setPhase .precharge 0xFF s)
    setPoint (ipreEff s1) s1
  else
    let s1 := setPhase .geyser 0xFF s
    let s2 := onChg (fun c => { dropFigures c with iPrev := floor50 ((iccEff s1).tdiv 2), inRest := true, vEndPrev := some v }) s1
    takeChoice (stepChoice s2 v s2.gau.dcir) s2

/-- The rest of CHECK has ended: it has no falling edge, so its v_end alone decides. It is repeated where it is not valid (assumption 39). -/
def checkRest (s : State) : State :=
  match (if restQuiet s then meanV (endPairs s) else none) with
  | some v => checkDecision v s
  | none => chgSafe (onChg (fun c => { c with invalid := c.invalid + 1, restAt := s.clk.us }) s)

/-- STEP_DECISION: at chg.rest_ms − 1 ms of a rest of CHECK or GEYSER (R460). CHECK waits while the battery is not valid (R453). -/
def stepDecision (s : State) : State :=
  if fwWorks s && s.chg.inRest && !s.chg.bootRest && sinceEdge s (1000 * pn s 0x0B09 - 1000) then
    match s.chg.phase with
    | .check => if s.inp.path = .noBattery then s else checkRest s
    | .geyser => if s.chg.iNext.isSome then s else geyserDecision (restFigures s) s
    | _ => s
  else s

/-! ### Pulses and rests (R455) -/

/-- The falling edge of a pulse; the clamped pulse's current is its mean IBAT of the last 1 s, a free value where no pair gives it (R446,
R455, R460; assumption 36). -/
def fallingEdge (clamped : Bool) (s : State) : State :=
  let (i, s1) := if clamped then orFree (meanI (lastPairs s 0x45 1000000)) s else (0, s)
  setPoint 0 (chgSafe (onChg (fun c => { c with inRest := true, restAt := s.clk.us, iNext := none, clamped := clamped, iClamp := i }) s1))

/-- PULSE_END: chg.pulse_on_s have passed since the rising edge (R455). -/
def pulseEnd (clamped : Bool) (s : State) : State :=
  if fwWorks s && s.chg.phase == .geyser && !s.chg.inRest && sinceEdge s (1000000 * pn s 0x0B08) then fallingEdge clamped s else s

/-- The stop point is reached (R454). -/
def stopReached (s : State) : Bool := decide (s.chg.stop < 100) && decide (s.chg.stop * 100 ≤ s.gau.rep)

/-- REST_END, chg.rest_ms after the falling edge: the rising edge to the decided current, no more than the band allows by now, or DONE at the
stop point (R450, R455, R465). -/
def restEnd (s : State) : State :=
  if fwWorks s && s.chg.phase == .geyser && s.chg.inRest && sinceEdge s (1000 * pn s 0x0B09) then
    match s.chg.iNext with
    | some i =>
      if stopReached s then enterDone false s
      else
        let j := min i (iccEff s)
        setPoint j (onChg (fun c => { c with inRest := false, restAt := s.clk.us, rise := none, rise1 := none, iPrev := j, iNext := none, clamped := false,
                                             pulses := c.pulses + 1 }) s)
    | none => s
  else s

/-- VBAT has stood at or above chg.cells × (pre_thr + 100 mV) for 1 s of PRECHARGE (Table GEY.2). -/
def prechargeDone (s : State) : Bool :=
  let l := lastPairs s 0x45 1000000
  phaseFor s 1000000 && !l.isEmpty && l.all (fun p => decide (cells s * (preThr s + 100) ≤ p.v))

/-- PRECHARGE_EXIT: GEYSER begins with a rest (Table GEY.2). -/
def prechargeExit (s : State) : State :=
  if fwWorks s && s.chg.phase == .precharge && prechargeDone s then
    let i := s.chg.setpoint
    setPoint 0 (onChg (fun c => { dropFigures c with iPrev := i, inRest := true, restAt := s.clk.us, rise := none })
      (setPhase .geyser 0xFF s))
  else s

/-- DONE_TIMER: 1 s after entry (Table GEY.2). -/
def doneTimer (s : State) : State := if fwWorks s && s.chg.phase == .done && phaseFor s 1000000 then setPhase .maintain 0xFF s else s

/-- MAINTAIN goes back to CHECK by the battery at rest (Table GEY.2). -/
def restRecheck (s : State) (meanI : Int) : Bool :=
  decide (200 * (meanI.natAbs : Int) ≤ pv s 0x0B0F) &&
    (match vget s.msr.results 0x45 none with
     | some v => decide (v ≤ cells s * (vcellEff s - pv s 0x0B07))
     | none => false)

/-- MAINTAIN goes back to CHECK by the stop point (Table GEY.2); 100 % is none. -/
def stopRecheck (s : State) : Bool := decide (s.chg.stop < 100) && decide (s.gau.rep + 500 ≤ s.chg.stop * 100)

/-- The mean IBAT of the last 10 s, once the phase has lasted that long (R450). -/
def tenSeconds (s : State) : Option Int := if phaseFor s 10000000 then meanI (lastPairs s 0x45 10000000) else none

/-- What a whole second of PRECHARGE, TOPOFF or MAINTAIN brings (R450, R456). -/
def wholeSecond (s : State) : State :=
    match s.chg.phase with
    | .precharge =>
      let s1 := chgSafe s
      setPoint (ipreEff s1) s1
    | .topoff =>
      let s1 := chgSafe s
      if (tenSeconds s1).any (fun i => decide (i ≤ pv s1 0x0B06)) then enterDone true s1 else setPoint (phasePoint s1) s1
    | .maintain => if (tenSeconds s).any (restRecheck s) then enterCheck s else s
    | _ => s

/-- PHASE_WHOLE_SECOND: the next whole second from the phase entry (R456). -/
def phaseWholeSecond (s : State) : State :=
  if fwWorks s && !s.chg.bootRest && phaseFor s (1000000 * (s.chg.secs + 1)) then wholeSecond (onChg (fun c => { c with secs := c.secs + 1 }) s)
  else s

/-- RECOVERY_FAILED: the battery is still not valid after 10 min (R453). -/
def recoveryFailed (s : State) : State :=
  if fwWorks s && s.chg.phase == .check && s.inp.path == .noBattery && phaseFor s 600000000 then chgJudge (onChg (fun c => { c with recoveryFailed := true }) s) else s

/-- The fixed action of CHG_TIMEOUT: charging stops until the source is removed and reattached (Table SUP.1, R467). -/
def timeoutTrip (s : State) : State := chgJudge (onChg (fun c => { c with timeout := true, removed := false }) s)

/-- GAUGE_UPDATE: a second since the last one; MAINTAIN's stop point is looked at with it (R450, R471). -/
def gaugeUpdate (s : State) : State :=
  if fwWorks s && s.gau.have_ && decide (s.gau.updAt + 1000000 ≤ s.clk.us) then
    let s1 := gaugeSecond s
    if s1.chg.phase = .maintain ∧ stopRecheck s1 = true then enterCheck s1 else s1
  else s

/-! ### The boot rest (R479) and resets -/

/-- The boot rest has ended: the gauge start-up, and CHECK's decision (R450, R479). A phase kept through a core reset goes on from its last
decision. -/
def bootEnd (vBoot meanI : Int) (s : State) : State :=
    let s1 := onGau (fun g => { g with boot := some (vBoot, meanI) }) (onChg (fun c => { c with bootRest := false }) s)
    let s2 := bootDecide s1
    match s2.chg.phase with
    | .check => if s2.inp.path = .noBattery then recheckPoint s2 else checkDecision vBoot s2
    | _ => setPoint (phasePoint s2) s2

/-- BOOT_REST: 150 ms at zero current, with the mean VBAT of the last 50 ms and the mean IBAT of them all (R479). A mean that no pair gives
is a free value (assumption 36). -/
def bootRest (s : State) : State :=
  if fwWorks s && s.chg.bootRest && sinceEdge s 150000 then
    let (v, s1) := orFree (meanV (edgePairs s 100000 150000)) s
    let (i, s2) := orFree (meanI (edgePairs s 0 150000)) s1
    bootEnd v i s2
  else s

/-- A core reset: the charger enters a zero-current rest until Geyser resumes (Table ARC.5). -/
def chgCoreReset (s : State) : State :=
  onChg (fun c => { dropFigures c with setpoint := 0, inRest := c.inRest || c.phase == .geyser, discardRest := c.phase == .geyser,
                                       bootRest := false }) s

/-- FW_READY: the boot rest begins at zero current, with its safe point (R456, R479); the causes are judged again. -/
def chgResume (s : State) : State := chgJudge (setPoint 0 (chgSafe (onChg (fun c => { c with bootRest := true, restAt := s.clk.us }) s)))

/-- The active source goes (Table GEY.3): RECOVERY_FAILED clears, and a TIMEOUT waits for a source. -/
def chgSourceGone (s : State) : State :=
  chgJudge (onChg (fun c => { c with recoveryFailed := false, removed := c.removed || c.timeout }) s)

/-- A source becomes active: a TIMEOUT whose source was removed clears, and the gauge's events are re-armed (Table GEY.3,
R478). -/
def chgSourceCome (s : State) : State :=
  chgJudge (gaugeSource (onChg (fun c => { c with timeout := c.timeout && !c.removed, removed := false }) s))

/-- The battery temperature has a new value; none makes it hot (R462, R464, R465). -/
def takeTemp (t : Option Int) (s : State) : State :=
  let s1 := onChg (fun c => { c with temp := t, band := (match t with | some v => bandOf s v | none => 4),
                                     session := c.session.map (fun x => match t with
                                       | some v => { x with tmin := minOpt x.tmin (v.tdiv 10), tmax := maxOpt x.tmax (v.tdiv 10) }
                                       | none => x) }) s
  chgJudge (if s1.chg.band = 0 ∨ s1.chg.band = 4 then s1 else bandLower s1)

/-! ### Commands (Table CMD.12) -/

/-- CHARGE_STATUS (Table CMD.12). -/
def chargeStatusBody (_r : Req) (_pl : Bytes) (s : State) : Reply :=
  let c := s.chg
  let (t, s1) := orFree c.temp s
  .done stOk (leBytes 1 c.phase.code ++ leBytes 1 (if c.phase = .suspended then c.cause else 0xFF) ++
    leBytes 1 (bitsOf [c.inhibit, c.clamped, c.inRest]) ++ leBytes 1 c.stop ++ leInt 2 c.setpoint ++ leInt 2 (vLim s) ++ leInt 2 t ++
    leInt 2 c.dcir50 ++ leInt 2 c.dcir1 ++ leInt 2 c.ocvEst ++ leInt 4 c.slope ++ leBytes 4 (safetyTimer s / 1000000) ++
    leBytes 2 c.pulses ++ leBytes 2 c.invalid) s1

/-- CHARGE_STATUS. -/
def cmdChargeStatus : CmdDef :=
  { code := 0x0B00, caps := [capStatus], allow := allowAll, len := lenIs 0, range := anyRange, nv := false, modes := anyMode,
    body := chargeStatusBody }

/-- CHARGE_CONTROL (R454). -/
def chargeControlBody (_r : Req) (pl : Bytes) (s : State) : Reply :=
  .done stOk [] (chgJudge (onChg (fun c => { c with inhibit := byteAt pl 0 == 1, stop := byteAt pl 1 }) s))

/-- CHARGE_CONTROL. -/
def cmdChargeControl : CmdDef :=
  { code := 0x0B01, caps := [capPower], allow := allowAll, len := lenIs 2,
    range := fun b => decide (byteAt b 0 ≤ 1) && decide (50 ≤ byteAt b 1) && decide (byteAt b 1 ≤ 100), nv := false, modes := anyMode,
    body := chargeControlBody }

end Sys2Proof.Machine
end

