-- ==== Sys2Proof/Machine/Intake.lean ====
section
/-! DEFINITION. Intake: the inputs, the power path, limits and budgets, source signatures, the search and panel mode, the
Type-C sink, USB PD, and energy intervals (R391 to R443, R702, R704). -/

namespace Sys2Proof.Machine

/-- Change intake. -/
def onInp (f : Intake → Intake) (s : State) : State := { s with inp := f s.inp }

/-- An input at reset. -/
def noInput : Input := Input.atReset

/-- An input by number: 0 VBUSC, 1 DCIN. -/
def input (s : State) (i : Nat) : Input := vget s.inp.inputs i noInput

/-- Change one input. -/
def onInput (i : Nat) (f : Input → Input) (s : State) : State := onInp (fun x => { x with inputs := vmod x.inputs i f }) s

/-- The code of an input state (Table INT.2). -/
def InSt.code : InSt → Nat
  | .absent => 0
  | .debounce => 1
  | .negotiating => 2
  | .ready => 3
  | .search => 4
  | .settled => 5
  | .panel => 6
  | .blocked => 7
  | .disabled => 8

/-- The code of a power-path state (Table INT.1). -/
def PathSt.code : PathSt → Nat
  | .noSource => 0
  | .source => 1
  | .supplement => 2
  | .handover => 3
  | .noBattery => 4
  | .off => 5

/-- The state of an input that is neither qualified nor active (Table INT.2). -/
def idleSt (x : Input) : InSt := if x.disabled then .disabled else if x.faulted then .blocked else if x.present then .debounce else .absent

/-- The input has qualified: READY, negotiating or active. -/
def InSt.qualified : InSt → Bool
  | .negotiating => true
  | .ready => true
  | .search => true
  | .settled => true
  | .panel => true
  | _ => false

/-- An input is qualified (R111). -/
def anyQualified (s : State) : Bool := s.inp.inputs.toList.any (fun x => x.st.qualified)

/-! ### The battery and the path (R392, R393, R397) -/

/-- The battery is valid (R392); until the first VBAT result it is taken as valid (assumption 40). -/
def batteryValid (s : State) : Bool :=
  !latched s 0x12 &&
    (match vget s.msr.results 0x45 none with
     | some v => decide (cells s * 2500 ≤ v)
     | none => true)

/-- The path takes a state. A calibration of IBAT against no current loses its ground where the battery FET turns on (Table CNV.6, R314);
an input that the clock backstop left on stays so while it alone supplies SYS (R37). -/
def setPath (p : PathSt) (s : State) : State :=
  let s1 := onInp (fun x => { x with path := p, kept := if p = .noBattery then x.kept else none }) s
  if fetOn s1 && !fetOn s then calLose (fun c => !c.gain && c.channel == 0x46) 0 s1 else s1

/-- A pair that was on before recall keeps supplying SYS until a VBAT result shows a valid battery (R37, R100). -/
def keptOn (s : State) : Bool := s.inp.kept.isSome && !((vget s.msr.results 0x45 none).isSome && batteryValid s)

/-- The path that the active source and the battery give (Table INT.1). A handover goes on to its end. -/
def pathEval (s : State) : State :=
  let p := match s.inp.path, s.inp.active with
    | .handover, _ => .handover
    | .supplement, some _ => if batteryValid s then .supplement else .noBattery
    | _, some _ => if batteryValid s then .source else .noBattery
    | _, none => if keptOn s then .noBattery else if batteryValid s then .noSource else .off
  if p = s.inp.path then s else chgJudge (setPath p s)

/-- The path runs on an input (Table INT.1). -/
def PathSt.onInput (p : PathSt) : Bool := p == .source || p == .supplement || p == .noBattery

/-- The blocking pair of an input is on (R391, R401, Table INT.1): the active input's, from 5 µs after the last pair turned off, or the one
that the clock backstop left on (R37). -/
def pairOn (s : State) (i : Nat) : Bool :=
  s.inp.path.onInput && ((s.inp.active == some i && decide (s.inp.pairFrom ≤ s.clk.us)) || (s.inp.active.isNone && s.inp.kept == some i))

/-! ### Voltages (R401 to R403) -/

/-- VOC of an input: a contract's voltage replaces the measured one (R401). -/
def vocOf (s : State) (i : Nat) : Nat :=
  match s.inp.contract with
  | some c => if i = 0 then c.mv else (input s i).voc
  | none => (input s i).voc

/-- The floor that a VOC gives (R402). -/
def floorFor (s : State) (i voc : Nat) : Int :=
  if pv s 0x0A03 i ≠ 0 then pv s 0x0A03 i
  else max 4400 ((if (input s i).st = .panel then 70 else 88) * (voc : Int) / 100)

/-- floor_eff (R402). -/
def floorEff (s : State) (i : Nat) : Int := floorFor s i (vocOf s i)

/-- The voltages of VBUSC that count during a contract transition, from Accept until VBUSC has settled: the old and the new one (R403,
R409). -/
def transition (s : State) : List Nat :=
  (match s.inp.oldMa, s.inp.request with
    | some _, some r => [r.mv]
    | _, _ => []) ++ s.inp.oldMv.toList

/-- The contract voltage that the overvoltage threshold of VBUSC follows (R403). -/
def ovBase (s : State) : Nat :=
  (transition s).foldl max (match s.inp.contract with
    | some c => c.mv
    | none => 5000)

/-- The floor that vloss follows: the lower of old and new in a contract transition (R409). -/
def lossFloor (s : State) (i : Nat) : Int :=
  if i = 0 then (transition s).foldl (fun f v => min f (floorFor s 0 v)) (floorEff s 0) else floorEff s i

/-- The input stands below vloss = max(3600 mV, 0.75 × floor_eff) (R409). -/
def belowLoss (s : State) (i : Nat) (mv : Int) : Bool := decide (mv < 3600) || decide (4 * mv < 3 * lossFloor s i)

/-- The effective overvoltage threshold (R403). -/
def ovEff (s : State) (i : Nat) : Int :=
  if i = 0 ∧ pv s 0x0A0B 0 = 0 then min 23000 (max 6000 (115 * (ovBase s : Int) / 100)) else pv s 0x0A0B i

/-- The effective int.sys_min_mv (Table INT.8). -/
def sysMin (s : State) : Int := if pv s 0x0A11 ≠ 0 then pv s 0x0A11 else cells s * 2800

/-- How the battery FET is driven: off, linearly, or fully on. -/
inductive FetDrive where
  | off
  | linear
  | on
deriving DecidableEq, Repr

/-- The battery FET as the path and Geyser drive it (Table INT.1, R447, R453). -/
def fetDrive (s : State) : FetDrive :=
  if !s.core.batFet then .off
  else
    match s.inp.path with
    | .off => .off
    | .noBattery => if s.chg.phase = .check ∧ s.chg.setpoint ≠ 0 then .linear else .off
    | .source =>
      if s.chg.phase = .precharge ∧ (vget s.msr.results 0x45 none).any (fun v => decide (v < sysMin s + 1000)) then .linear else .on
    | _ => .on

/-- The battery current that the FET lets pass, in mA: in linear regulation at most the charger's set-point, and at most what keeps
(SYS − BAT) × IBAT at 1.5 W (R447, R453, R761). None where nothing of this bounds it. -/
def fetLimit (sysMv batMv : Nat) (s : State) : Option Nat :=
  match fetDrive s with
  | .off => some 0
  | .linear => some (if batMv < sysMv then min s.chg.setpoint.toNat (1500000 / (sysMv - batMv)) else s.chg.setpoint.toNat)
  | .on => none

/-- The conditions of a qualification count hold, once configuration is recalled: present, at or above 4.5 V, below the overvoltage
threshold, not reversed (R107, R400). -/
def countable (s : State) (i : Nat) : Bool :=
  let x := input s i
  s.core.recalled && x.st == .debounce && x.present && decide (4500 ≤ x.mv) && decide ((x.mv : Int) < ovEff s i) && !x.faulted

/-- A qualification count starts from zero, with int.debounce_ms as it then is (R400, Table INT.8); none runs where its conditions do not
hold. -/
def startCount (i : Nat) (s : State) : State :=
  if countable s i then
    let t := takeOcc .qualification s
    onInput i (fun x => { x with due := some (t.clk.us + 1000 * pn t 0x0A0C) }) t
  else onInput i (fun x => { x with due := none }) s

/-- The wake count of an input runs while it stands at sys.ship_wake_vin_mv or above; a dip restarts it from zero (R97, Table MOD.3). -/
def wakeCount (i : Nat) (s : State) : State :=
  if pn s 0x0104 ≤ (input s i).mv then
    if (input s i).wakeAt.isSome then s
    else onInput i (fun x => { x with wakeAt := some (s.clk.us + 10000), wakeOn := bit (pn s 0x0102) 6, woken := false }) s
  else onInput i (fun x => { x with wakeAt := none }) s

/-- The wake count of an input has come to its end: the WAKE event of R97, stamped with that instant; none once SHIP entry has begun
(R126). -/
def inputWake (i : Nat) (s : State) : State :=
  let x := input s i
  match x.wakeAt with
  | some t =>
    if t ≤ s.clk.us ∧ x.woken = false then
      let s1 := onInput i (fun y => { y with woken := true }) s
      if x.wakeOn && s.core.mode != .ship && s.core.shipEntry != .begun then
        postDeferred { ev := { code := 0x0102, flags := 0, src := i + 1, arg := 0, tick := t % 0x100000000 }, own := none } s1
      else s1
    else s
  | none => s

/-- The input starts again from its detector (R411). -/
def restartInput (i : Nat) (s : State) : State := startCount i (onInput i (fun x => { x with st := idleSt x }) s)

/-- A count goes on while its conditions hold, and any break in them stops it (R400). -/
def recount (i : Nat) (s : State) : State := if countable s i && (input s i).due.isSome then s else startCount i s

/-! ### Limits (R395, R405, R415, R422) -/

/-- The current of an Rp level (Table INT.3). -/
def rpMa (rp : Nat) : Nat := if rp = 0 then 500 else if rp = 1 then 1500 else 3000

/-- The contract or Type-C current of VBUSC: the lower of old and new in a transition (R395, R422). -/
def sourceMa (s : State) : Nat :=
  match s.inp.oldMa, s.inp.request, s.inp.contract with
  | some o, some r, _ => min o r.ma
  | _, _, some c => c.ma
  | _, _, none => rpMa s.inp.rp

/-- ilim_eff without the search limit: cap() of R428. -/
def capFor (s : State) (i : Nat) : Nat :=
  let a := pn s 0x0A02 i
  let b := if i = 0 then min a (sourceMa s) else a
  match s.inp.capNow with
  | some c => min b c
  | none => b

/-- The limit that hardware holds before FW_READY (R405). -/
def hwLimit (s : State) (i : Nat) : Nat :=
  let a := min (pn s 0x0A02 i) (if i = 0 then max 500 (rpMa s.inp.rp) else 500)
  match s.inp.capNow with
  | some c => min a c
  | none => a

/-- ilim_eff of an input (R395, R405). -/
def ilimEff (s : State) (i : Nat) : Nat := if s.core.fwReady then min s.inp.search.lim (capFor s i) else hwLimit s i

/-- Change the search. -/
def onSearch (f : Search → Search) (s : State) : State := onInp (fun x => { x with search := f x.search }) s

/-- A search step or a creep try under way is abandoned (R438): the dwell starts again, with no step before it to be compared with; a try gives
the limit before it back, and waits for the next period. -/
def dropStep (i : Nat) (s : State) : State :=
  match (input s i).st, s.inp.search.trying with
  | .search, _ => onSearch (fun x => { x with since := s.clk.us, waiting := false, prev := none }) s
  | .settled, some y => onSearch (fun x => { x with lim := y.1, trying := none, since := s.clk.us }) s
  | _, _ => s

/-- A cap that falls takes the limit with it, and abandons the step under way (R438). -/
def clipLim (s : State) : State :=
  match s.inp.active with
  | some i =>
    if capFor s i < s.inp.search.lim then onSearch (fun q => { q with lim := min q.lim (capFor s i) }) (dropStep i s) else s
  | none => s

/-- The hardware loops of an active source (R394). -/
inductive PowerLoop where
  | floorBackstop
  | inputLimit
  | sysRegulation
  | chargeCurrent
deriving DecidableEq, Repr

/-- The loops in their order of precedence (R394). -/
def loopOrder : List PowerLoop := [.floorBackstop, .inputLimit, .sysRegulation, .chargeCurrent]

/-- What a loop holds: the least input voltage, the most input current, the least SYS, the charge current that Geyser requests (mV, mA;
R394). -/
def loopTarget (s : State) (i : Nat) : PowerLoop → Int
  | .floorBackstop => floorEff s i - 200
  | .inputLimit => ilimEff s i
  | .sysRegulation => sysMin s + 1000
  | .chargeCurrent => s.chg.setpoint

/-! ### Budget classes (R434 to R438) -/

/-- The class that the budget pins carry (Table INT.6). -/
def pinClass (s : State) : Nat :=
  let p := pn s 0x0A0F
  let level := fun (k : Nat) => s.inp.gpio.getLsbD (k % 32)
  b2n (level p) + 2 * b2n (level (p >>> 5) && bit p 11)

/-- A window of int.budget_windows covers a minute of day; it may run past midnight (R436). -/
def windowCovers (b : Bytes) (k m : Nat) : Bool :=
  bit (byteAt b (7 + 4 * k)) 7 && decide ((m + 1440 - fieldAt b (4 + 4 * k) 2) % 1440 < 10 * byteAt b (6 + 4 * k))

/-- The class with the lower cap. -/
def lowerClass (s : State) (a : Option Nat) (c : Nat) : Option Nat :=
  match a with
  | none => some c
  | some x => if pn s 0x0A0D c < pn s 0x0A0D x then some c else some x

/-- The class of the schedule (R436, R437). -/
def scheduleClass (s : State) : Option Nat :=
  if s.aon.timeSet then
    let b := pb s 0x0A0E
    let m := s.aon.rtc % 86400 / 60
    ((List.range (byteAt b 0)).filter (fun k => windowCovers b k m)).foldl (fun a k => lowerClass s a (byteAt b (7 + 4 * k) % 4)) none
  else none

/-- The override class, while it has not expired (R434). -/
def overrideClass (s : State) : Option Nat :=
  match s.inp.override_ with
  | some (c, t) => if s.clk.us < t then some c else none
  | none => none

/-- The class in force and its source: 0 none, 1 schedule, 2 override, 3 pins (R434, Table INT.7). The pins act in hardware from
configuration recall; the rest is firmware's (R405, R435). -/
def classNow (s : State) : Option Nat × Nat :=
  if bit (pn s 0x0A0F) 10 then (some (pinClass s), 3)
  else if !s.core.fwReady then (none, 0)
  else
    match overrideClass s, scheduleClass s with
    | some c, _ => (some c, 2)
    | none, some c => (some c, 1)
    | none, none => (none, 0)

/-- The cap of a class. -/
def classCap (s : State) (c : Option Nat) : Option Nat := c.map (fun k => pn s 0x0A0D k)

/-- The lower of two caps; none caps nothing. -/
def lowerCap (a b : Option Nat) : Option Nat :=
  match a, b with
  | some x, some y => some (min x y)
  | some x, none => some x
  | none, some y => some y
  | none, none => none

/-- The argument of BUDGET_CHANGED (Table CMD.17). -/
def budgetArg (s : State) (c : Option Nat) (src : Nat) : Nat := c.getD 0xFF ||| src <<< 8 ||| ((classCap s c).getD 0) <<< 16

/-- The class is chosen again (R434, R438): a lower cap acts at once, and a change of class is posted. -/
def applyBudget (s : State) : State :=
  let n := classNow s
  let changed := n.1 != s.inp.cls
  let cap := lowerCap s.inp.capNow (classCap s n.1)
  let s1 := onInp (fun x => { x with cls := n.1, clsSrc := n.2, capNow := cap, ivWindow := x.ivWindow || changed }) s
  let s2 := clipLim (if cap = s.inp.capNow then s1 else match s.inp.active with | some i => dropStep i s1 | none => s1)
  if changed then post 0x0A05 0 0 (budgetArg s n.1 n.2) s2 else s2

/-- A raised cap comes into force at a search step or a creep try (R438). -/
def budgetRaise (s : State) : State := onInp (fun x => { x with capNow := classCap s x.cls }) s

/-! ### Source signatures (R424 to R426) -/

/-- A PD source talks on VBUSC. -/
def pdSource (s : State) : Bool := !s.inp.caps.isEmpty && !s.inp.silent

/-- The hash of a source (R424). -/
def sigHash (s : State) (i : Nat) : Nat :=
  if i = 0 then
    if pdSource s then
      crc32 (s.inp.caps.flatMap (fun o => leBytes 4 o.toNat) ++
        (match s.inp.identity with | some (a, b) => leBytes 4 a ++ leBytes 4 b | none => []))
    else s.inp.rp
  else 0

/-- The kind of a source (R424). -/
def sigKind (s : State) (i : Nat) : Nat := if i = 0 then (if pdSource s then 2 else 1) else 0

/-- An empty signature structure (Table INT.5). -/
def noSignatures : Bytes := (List.range 16).flatMap (fun _ => byte 0xFF :: zeros 15)

/-- Entry `e` matches kind, hash and VOC (R425). -/
def sigMatches (b : Bytes) (kind hash voc e : Nat) : Bool :=
  byteAt b (16 * e) == kind && fieldAt b (16 * e + 4) 4 == hash &&
    decide (((fieldAt b (16 * e + 2) 2 : Int) - voc).natAbs ≤ 300)

/-- The entry that a new signature takes: an empty one, else the least recently seen (R425). -/
def replaceEntry (b : Bytes) : Nat :=
  match (List.range 16).find? (fun e => byteAt b (16 * e) == 0xFF) with
  | some e => e
  | none => ((sortBy (fun e => fieldAt b (16 * e + 12) 4) (List.range 16)).head?).getD 0

/-- An entry takes the place of the one that it matches, or of the one that R425 replaces. -/
def putEntry (b x : Bytes) : Bytes :=
  let e := ((List.range 16).find? (sigMatches b (byteAt x 0) (fieldAt x 4 4) (fieldAt x 2 2))).getD (replaceEntry b)
  b.take (16 * e) ++ x ++ b.drop (16 * e + 16)

/-- The 16 entries: those stored, with what waits to be written. -/
def signatures (s : State) : Bytes :=
  s.inp.sigWait.foldl putEntry
    (if s.inp.sigForget then noSignatures else ((readTwo s tcSignatures).map (fun b => b.take 256)).getD noSignatures)

/-- The entry that the source of an input matches. -/
def matchEntry (s : State) (i : Nat) : Option Nat :=
  (List.range 16).find? (sigMatches (signatures s) (sigKind s i) (sigHash s i) (input s i).voc)

/-- The remembered limit of a matched source, mA. -/
def remembered (s : State) (i : Nat) : Option Nat := (matchEntry s i).map (fun e => fieldAt (signatures s) (16 * e + 8) 2)

/-- An entry (Table INT.5). -/
def sigEntry (s : State) (i lim : Nat) : Bytes :=
  leBytes 1 (sigKind s i) ++ leBytes 1 (bitsOf [i == 0 && s.inp.identity.isSome, (input s i).st == .panel]) ++ leBytes 2 (input s i).voc ++
    leBytes 4 (sigHash s i) ++ leBytes 2 lim ++
    leBytes 2 (match s.inp.contract with | some c => if i = 0 then c.mv else 0 | none => 0) ++ leBytes 4 s.aon.rtc

/-- The structure may be written: NV is ready and RESV covers a large commit (R426, R533). -/
def sigWritable (s : State) : Bool := s.core.nvReady && supplyOk s 512

/-- What waits is written, as soon as the structure may be (R426, R533). -/
def sigFlush (s : State) : State :=
  if (s.inp.sigForget || !s.inp.sigWait.isEmpty) && sigWritable s then
    onInp (fun x => { x with sigWait := [], sigForget := false }) (writeTwo tcSignatures (signatures s) s)
  else s

/-- Write the signature of an input with a settled limit (R426); before NV_READY, or with RESV too low for the commit, the entry waits. -/
def writeSignature (i lim : Nat) (s : State) : State :=
  sigFlush (onInp (fun x => { x with sigWait := x.sigWait ++ [sigEntry s i lim] }) s)

/-! ### Energy intervals (R439 to R442, R735) -/

/-- The flags of an INTERVAL record (Table INT.7). -/
def intervalFlags (holdup : Bool) (s : State) : Nat := bitsOf [s.inp.ivPartial, !s.aon.timeSet, s.inp.ivWindow, s.inp.ivSource, holdup]

/-- The payload of an INTERVAL record (Table INT.7). -/
def intervalPayload (start length active flags e0 e1 cls src hash : Nat) : Bytes :=
  leBytes 4 start ++ leBytes 2 length ++ leBytes 1 active ++ leBytes 1 flags ++ leBytes 4 e0 ++ leBytes 4 e1 ++ leBytes 1 cls ++
    leBytes 1 src ++ zeros 2 ++ leBytes 4 hash

/-- The energy ledger of an input that does not exist. -/
def noEnergy : Energy :=
  { havePrev := false, prevHold := 0, residual := 0, total := 0, opened := 0, committed := 0, unmeasuredUs := 0, closedCount := 0 }

/-- The energy ledger of an input. -/
def energy (s : State) (i : Nat) : Energy := vget s.bg.energy i noEnergy

/-- The energy of an input in INTERVAL records that wait for their append: it is open until its record is committed (R735). -/
def queuedEnergy (s : State) (i : Nat) : Nat :=
  ((s.log.waiting.filter (fun r => r.type == 2)).map (fun r => fieldAt r.payload (8 + 4 * i) 4)).sum

/-- The energy of the interval that runs. -/
def intervalEnergy (s : State) (i : Nat) : Nat := ((energy s i).opened - queuedEnergy s i).toNat

/-- The seconds of the interval that runs; a TIME_SET in it moves the RTC, not its length (R681; DEDUCED, assumption 161). -/
def ivLength (s : State) : Nat := ((s.aon.rtc : Int) - s.inp.ivStart - s.inp.ivShift).toNat

/-- The hash of the signature of the last active source: of the active one as it now stands, but for one whose contract a Hard Reset has just
dropped (R424, R441). -/
def hashNow (s : State) : Nat :=
  match s.inp.active with
  | some i => if i = 0 ∧ s.inp.resetting = true then s.inp.lastHash else sigHash s i
  | none => s.inp.lastHash

/-- Keep the hash of the active source. -/
def keepHash (s : State) : State := onInp (fun x => { x with lastHash := hashNow s }) s

/-- The interval closes (R440, R441): its record, and a new interval at the present RTC second. -/
def closeInterval (holdup : Bool) (s : State) : State :=
  let p := intervalPayload s.inp.ivStart (ivLength s) (s.inp.active.getD 0xFF) (intervalFlags holdup s)
    (intervalEnergy s 0) (intervalEnergy s 1) (s.inp.cls.getD 0xFF) s.inp.clsSrc (hashNow s)
  let s1 := { s with bg := { s.bg with energy := s.bg.energy.map (fun e => { e with closedCount := e.closedCount + 1 }) } }
  logRecord 0x02 p
    (onInp (fun x => { x with ivStart := s.aon.rtc, ivMark := s.aon.rtc, ivShift := 0, ivPartial := false, ivWindow := false, ivSource := false }) s1)

/-- The RTC has counted to a second that is a multiple of int.interval_min × 60 since the interval began, or since TIME_SET in it, which counts
from the next second on (R440, R681). -/
def intervalDue (s : State) : Bool := s.aon.rtc / (60 * pn s 0x0A10) != s.inp.ivMark / (60 * pn s 0x0A10)

/-- TIME_SET moves the RTC: a boundary already passed closes its interval, and the interval that runs counts from the new time (R681). -/
def setTime (rtc : Nat) (s0 : State) : State :=
  let s := if fwWorks s0 && s0.bg.restored && intervalDue s0 then takeOcc .interval (closeInterval false s0) else s0
  onInp (fun x => { x with ivMark := rtc, ivShift := x.ivShift + (rtc - s.aon.rtc : Int) })
    { s with aon := { s.aon with rtc := rtc, rtcSub := 0, timeSet := true } }

/-- INTERVAL_CLOSE: an interval boundary (R440). -/
def intervalClose (s : State) : State :=
  if fwWorks s && s.bg.restored && intervalDue s then takeOcc .interval (closeInterval false s) else s

/-! ### Changes of the budget class (R434, R435, R442) -/

/-- A change of the class: where an interval boundary has come, the interval closes first, under the old class (R442). -/
def rebudget (s : State) : State := applyBudget (intervalClose s)

/-- The budget pins change (R435). -/
def budgetPinsChange (gpio : Nat) (s : State) : State :=
  let s1 := onInp (fun x => { x with gpio := BitVec.ofNat 32 gpio }) s
  if s.core.recalled then rebudget s1 else s1

/-- The override expires, once its minutes have passed; firmware's work (R41, R434). -/
def budgetOverrideExpiry (s : State) : State :=
  if fwWorks s && s.inp.override_.isSome && (overrideClass s).isNone then rebudget (onInp (fun x => { x with override_ := none }) s) else s

/-- A window starts or ends (R436, R437). -/
def budgetWindowEdge (s : State) : State := if fwWorks s then rebudget s else s

/-! ### The intake search (R427 to R433) -/

/-- Put an input into a state. An OFFSET calibration of IIN has no ground once an input has qualified (Table CNV.6, R314). -/
def setIn (i : Nat) (st : InSt) (s : State) : State :=
  let s1 := onInput i (fun x => { x with st := st }) s
  if st.qualified then calLose (fun c => !c.gain && c.channel == 0x42) 0 s1 else s1

/-- Between steps the intake parameters come into force (R443). -/
def stepQuiet (s : State) : State := takeOcc .ilim (takeOcc .step s)

/-- The boundary at which a step begins: raised caps come into force too (R438). -/
def stepSafe (s : State) : State := budgetRaise (stepQuiet s)

/-- A source that the search resumes starts at nine tenths of the remembered limit (R428). -/
def startLim (cap : Nat) (mem : Option Nat) : Nat :=
  max 100 (min (match mem with | some m => m * 9 / 10 / 50 * 50 | none => 500) cap)

/-- A search that begins now, at a limit. -/
def newSearch (s : State) (lim : Nat) (matched : Bool) : Search :=
  { lim := lim, step := pn s 0x0A05, halved := false, prev := none, steps := 0, matched := matched, waiting := false, trying := none, since := s.clk.us }

/-- A search, or panel mode, starts on an input (R427, R428, R432). -/
def startSearch (i : Nat) (s : State) : State :=
  let s1 := stepSafe (takeOcc .searchStart s)
  let cap := capFor s1 i
  if i = 1 ∧ pv s1 0x0A08 = 1 then
    setIn i .panel (onInp (fun x => { x with panelUp := true, panelPower := none, vocAt := s1.clk.us,
                                             search := newSearch s1 (max 100 (min 500 cap)) false }) s1)
  else if pv s1 0x0A04 i = 0 then setIn i .settled (onSearch (fun _ => newSearch s1 cap false) s1)
  else
    let mem := remembered s1 i
    setIn i .search (onSearch (fun _ => newSearch s1 (startLim cap mem) mem.isSome) s1)

/-- The search settles (R426, R428). -/
def settle (i : Nat) (s : State) : State :=
  let q := s.inp.search
  writeSignature i q.lim (post 0x0A04 (b2n q.matched) i (q.lim % 65536 ||| (q.steps % 256) <<< 16) (stepQuiet (setIn i .settled s)))

/-- A step collapses: below the floor, too steep, or held by the backstop (R428, R431). -/
def collapses (s : State) (i : Nat) (prev : Option (Int × Int)) (v a : Int) (backstop : Bool) : Bool :=
  backstop || decide (v < floorEff s i) ||
    (match prev with
     | some (pv_, pa) => decide (400 * (a - pa) < (pv_ - v) * 100)
     | none => false)

/-- The limit and the step after a collapse (R428). -/
def backOff (q : Search) : Search :=
  { q with lim := max 100 (q.lim - 2 * q.step), step := if q.halved then q.step else max 50 (q.step / 2), halved := true }

/-- The active input, where it is in a state and firmware runs. -/
def activeIn (st : InSt) (s : State) : Option Nat :=
  match s.inp.active with
  | some i => if fwWorks s && (input s i).st == st then some i else none
  | none => none

/-- A period of the search has passed: the dwell, or the panel's. -/
def spanPassed (s : State) (us : Nat) : Bool := decide (s.inp.search.since + us ≤ s.clk.us)

/-- The next period of the search runs from now. -/
def fromNow (s : State) : State := onSearch (fun q => { q with since := s.clk.us }) s

/-- A dwell ends, with the means of its last 5 ms (R428, R429, R431). -/
def dwellEnd (i : Nat) (v a : Int) (backstop : Bool) (s : State) : State :=
    let q := s.inp.search
    if backstop = false ∧ a < (q.lim : Int) - 50 then stepQuiet (onSearch (fun x => { x with waiting := true }) s)
    else if collapses s i q.prev v a backstop then settle i (onSearch (fun x => backOff { x with steps := x.steps + 1 }) s)
    else
      let s1 := onSearch (fun x => { x with steps := x.steps + 1, prev := some (v, a) }) (stepSafe s)
      let cap := capFor s1 i
      if i = 1 ∧ pv s1 0x0A08 = 1 then startSearch i s1
      else if cap ≤ q.lim then settle i s1
      else onSearch (fun x => { x with lim := min (x.lim + x.step) cap }) s1

/-- A dwell of wait_demand ends: the step is repeated once IIN has stayed at or above lim − 50 mA for the whole of it (R429). -/
def demandEnd (i : Nat) (s : State) : State :=
  if loadHeld (lastPairs s (0x40 + i) (1000 * pn s 0x0A06)) (s.inp.search.lim - 50) then onSearch (fun x => { x with waiting := false }) s
  else s

/-- SEARCH_STEP: int.search_dwell_ms have passed at a limit (R428). A dwell without a Q7 pair to judge it by is repeated, unless the backstop has
made it a collapse (R431). -/
def searchStep (backstop : Bool) (s : State) : State :=
  match activeIn .search s with
  | none => s
  | some i =>
    if spanPassed s (1000 * pn s 0x0A06) then
      let w := lastPairs s (0x40 + i) 5000
      if s.inp.search.waiting then fromNow (demandEnd i s)
      else
        match meanV w, meanI w with
        | some v, some a => dwellEnd i v a backstop (fromNow s)
        | _, _ => if backstop then dwellEnd i 0 0 true (fromNow s) else fromNow s
    else s

/-- The time that a creep period or a try has to run: a try runs for a dwell; none where creep is off (R430). -/
def creepSpan (s : State) : Nat :=
  if s.inp.search.trying.isSome then 1000 * pn s 0x0A06 else if pn s 0x0A07 = 0 then 0 else 1000000 * pn s 0x0A07

/-- The means of the 5 ms before a try, where IIN has stayed at or above lim − 50 mA for the 1 s before it (R430). -/
def tryMeans (s : State) (i : Nat) : Option (Int × Int) :=
  if loadHeld (lastPairs s (0x40 + i) 1000000) (s.inp.search.lim - 50) then
    match meanV (lastPairs s (0x40 + i) 5000), meanI (lastPairs s (0x40 + i) 5000) with
    | some v, some a => some (v, a)
    | _, _ => none
  else none

/-- A creep try begins: its limit is set for one dwell (R430). -/
def creepBegin (i : Nat) (m : Int × Int) (s : State) : State :=
  onSearch (fun q => { q with trying := some (q.lim, m.1, m.2), lim := min (q.lim + q.step) (capFor s i) }) s

/-- A creep try ends, judged against the means `v0`, `a0` just before it (R430, R431): the limit stays at the try, or falls to the try less two
steps, not below 0. -/
def creepEnd (i : Nat) (v0 a0 v a : Int) (backstop : Bool) (s1 : State) : State :=
  let s := onSearch (fun x => { x with trying := none }) s1
  if collapses s i (some (v0, a0)) v a backstop then
    let lim := s.inp.search.lim - 2 * s.inp.search.step
    writeSignature i lim (onSearch (fun x => { x with lim := lim }) s)
  else s

/-- A try ends with the means of its last 5 ms; one without a Q7 pair to judge it by gives the limit before it back, unless the backstop has made
it a collapse. -/
def tryEnd (i : Nat) (y : Nat × Int × Int) (backstop : Bool) (s : State) : State :=
  let w := lastPairs s (0x40 + i) 5000
  stepQuiet
    (match meanV w, meanI w with
     | some v, some a => creepEnd i y.2.1 y.2.2 v a backstop s
     | _, _ => if backstop then creepEnd i 0 0 0 0 true s else onSearch (fun x => { x with trying := none, lim := y.1 }) s)

/-- CREEP_TRY: int.creep_period_s has passed and a try begins, or is skipped; or the dwell of the try has passed, and it is judged (R430). -/
def creepTry (backstop : Bool) (s : State) : State :=
  match activeIn .settled s with
  | none => s
  | some i =>
    if spanPassed s (creepSpan s) then
      match s.inp.search.trying with
      | some y => tryEnd i y backstop (fromNow s)
      | none =>
        let m := if pn s 0x0A07 = 0 then none else tryMeans s i
        let s1 := stepSafe (takeOcc .creepTry (fromNow s))
        if i = 1 ∧ pv s1 0x0A08 = 1 then startSearch i s1
        else
          match m with
          | some y => creepBegin i y s1
          | none => s1
    else s

/-- A step or a try of the active input ends, or a try begins: a boundary between two steps (R443). -/
def stepEnds (s : State) : Bool :=
  ((activeIn .search s).isSome && spanPassed s (1000 * pn s 0x0A06)) || ((activeIn .settled s).isSome && spanPassed s (creepSpan s))

/-- The limit moves 50 mA by power (R432). An equal power keeps the direction (assumption 41). -/
def panelMove (i : Nat) (power : Int) (s : State) : State :=
    let s1 := stepSafe s
    if pv s1 0x0A08 = 0 then startSearch i s1
    else
      let up := match s1.inp.panelPower with
        | some p => if power < p then !s1.inp.panelUp else s1.inp.panelUp
        | none => s1.inp.panelUp
      let cap := capFor s1 i
      onInp (fun x => { x with panelUp := up, panelPower := some power, search := { x.search with
        lim := max 100 (min cap (if up then x.search.lim + 50 else x.search.lim - 50)) } }) s1

/-- PANEL_PERIOD: 200 ms have passed; the power is the mean over the last 50 ms, in units of 0.5 µW (R432). -/
def panelPeriod (s : State) : State :=
  match activeIn .panel s with
  | none => s
  | some i =>
    if spanPassed s 200000 then
      match meanOf (lastPairs s (0x40 + i) 50000) (fun p => p.v * p.i) 1 with
      | some w => panelMove i w (fromNow s)
      | none => fromNow s
    else s

/-- VOC of an input: the mean of its Q7 voltage results over the last 1 ms (R401). -/
def vocNow (s : State) (i : Nat) : Option Int := meanV (lastPairs s (0x40 + i) 1000)

/-- VOC_REMEASURE in PANEL, every 600 s, with a valid battery (R433): the end of the 20 ms for which the pair stands open. -/
def vocRemeasure (s : State) : State :=
  match activeIn .panel s with
  | some i =>
    if s.inp.vocAt + 600000000 ≤ s.clk.us then
      let s1 := onInp (fun x => { x with vocAt := s.clk.us }) s
      match (if batteryValid s then vocNow s i else none) with
      | some v => onInput i (fun x => { x with voc := v.toNat }) s1
      | none => s1
    else s
  | none => s

/-! ### Priority, takeover and handover (R405 to R412) -/

/-- Known power, mV × mA (R406). -/
def knownPower (s : State) (i : Nat) : Nat :=
  match (if i = 0 then s.inp.contract else none) with
  | some c => c.mv * c.ma
  | none =>
    match remembered s i with
    | some m => m * (input s i).voc
    | none => 0

/-- The input may be active: READY, or active now (R406). -/
def candidate (s : State) (i : Nat) : Bool := (input s i).st == .ready || s.inp.active == some i

/-- int.priority in force (R405). -/
def priority (s : State) : Nat := if s.core.fwReady then pn s 0x0A01 else if pn s 0x0A01 = 2 then 0 else pn s 0x0A01

/-- The input that should be active (R406, R407). -/
def chosen (s : State) : Option Nat :=
  match candidate s 0, candidate s 1 with
  | false, false => none
  | true, false => some 0
  | false, true => some 1
  | true, true =>
    match priority s with
    | 0 => some 0
    | 1 => some 1
    | _ =>
      let a := knownPower s 0
      let b := knownPower s 1
      match s.inp.active with
      | some 0 => if a * 11 < b * 10 then some 1 else some 0
      | some _ => if b * 11 < a * 10 then some 0 else some 1
      | none => if b < a then some 0 else some 1

/-- An input becomes active: its pair turns on no earlier than 5 µs after the last one turned off (R391, R405, R427, R440). -/
def takeover (i : Nat) (s : State) : State :=
  let s1 := onInp (fun x => { x with active := some i, incoming := none, pairFrom := max s.clk.us (x.pairOff + 5), ivSource := true,
                                     resetting := x.resetting && i != 0 }) s
  let s2 := if s1.core.fwReady then startSearch i s1
    else setIn i .settled (onSearch (fun _ => newSearch s1 (hwLimit s1 i) false) s1)
  chgSourceCome (pathEval s2)

/-- The energy count of an input that leaves active restarts its interval (R734). -/
def energyLeave (i : Nat) (s : State) : State :=
  { s with bg := { s.bg with energy := vmod s.bg.energy i (fun e => { e with havePrev := false }) } }

/-- SHIP entry is due: armed, with the last qualified input gone and no handover under way (R111); not in SERVICE (Table MOD.2). -/
def shipCheck (s : State) : State :=
  if s.aon.armed && s.core.mode != .service && !anyQualified s && s.inp.path != .handover && s.inp.active.isNone && s.core.shipEntry == .none then
    { s with core := { s.core with shipEntry := .requested, shipCause := 1 } }
  else s

/-- The event of an input that leaves active (R412). -/
def postDetached (i reason : Nat) (s : State) : State := post 0x0A02 0 i reason s

/-- What a PD contract leaves behind is gone; the choice of PD_REQUEST stands (R423). -/
def dropContract (x : Intake) : Intake :=
  { x with request := none, contract := none, oldMa := none, oldMv := none, settling := false, caps := [], identity := none }

/-- A source that vanished negotiates afresh when it returns ("When a replug meets the handover"). A changeover or a
disable leaves it attached. -/
def lossContract (i reason : Nat) (s : State) : State := if i = 0 ∧ reason < 5 then onInp dropContract s else s

/-- The active input leaves (R408 to R412): with a valid battery by the handover, without one by a loss of power (R397). -/
def leaveActive (i reason : Nat) (incoming : Option Nat) (s : State) : State :=
  let s1 := lossContract i reason (energyLeave i (stepQuiet (setIn i .absent (keepHash s))))
  let s2 := onInp (fun x => { x with active := none, ivSource := true, incoming := incoming, pairOff := s.clk.us }) s1
  if batteryValid s then chgSourceGone (onInp (fun x => { x with leaving := some (i, reason) }) (setPath .handover s2))
  else postDetached i reason (restartInput i (chgSourceGone (setPath .off s2)))

/-- Choose the active input again (R406 to R408). -/
def choose (s : State) : State :=
  if s.inp.path = .handover then s
  else
    match chosen s, s.inp.active with
    | some i, none => takeover i s
    | some i, some a => if i = a ∨ batteryValid s = false then s else leaveActive a 5 (some i) s
    | none, _ => s

/-- The active input is lost for a reason of Table CMD.17 (R409, R410). -/
def loseSource (reason : Nat) (s : State) : State :=
  match s.inp.active with
  | some i => leaveActive i reason none s
  | none => s

/-- SOURCE_LOSS: for 2 µs the active input has stood below vloss, or IIN below −200 mA (R409). -/
def sourceLoss (mv iin : Int) (s : State) : State :=
  match s.inp.active with
  | some i => if belowLoss s i mv then loseSource 0 s else if iin < -200 then loseSource 1 s else s
  | none => s

/-- HANDOVER_COMPLETE (R410 to R412): the events, the restart of the input that left, and the takeover. -/
def handoverComplete (lowestSys : Nat) (s : State) : State :=
  if s.inp.path = .handover then
    let l := s.inp.leaving.getD (0, 0)
    let s1 := postDetached l.1 l.2 (post 0x0A03 0 l.1 (lowestSys % 65536) s)
    let s2 := restartInput l.1 (onInp (fun x => { x with leaving := none }) (setPath .noSource s1))
    let s3 := match s2.inp.incoming with
      | some j => if candidate s2 j then takeover j s2 else choose (onInp (fun x => { x with incoming := none }) s2)
      | none => choose s2
    shipCheck (if s3.inp.active.isNone then pathEval (chgJudge s3) else s3)
  else s

/-! ### Detection and qualification (R398 to R405) -/

/-- The UART route has no balls left without a debug accessory: route 1, or route 2 on a board whose GPIO balls carry no host
(R632; assumption 57). -/
def routeNeedsDebug (s : State) : Bool := pn s 0x020C == 1 || (pn s 0x020C == 2 && !Config.gpioUartHost)

/-- The sessions on port 3 close when a debug accessory detaches and takes the route's balls with it (R632). -/
def debugGone (s : State) : State :=
  if s.inp.tc = 3 ∧ routeNeedsDebug s = true then
    (List.range 64).foldl (fun t n => if sessionOf t n = some 3 then closeSession n byReopen t else t) s
  else s

/-- The Type-C sink detaches (R414): the contract, the choice and the identity go with it, and a debug accessory's UART route
(R632). -/
def tcDetach (s0 : State) : State :=
  let s := debugGone s0
  let s1 := onInp (fun x => { dropContract x with choice := none, tc := 0, hardResets := 0, silent := false, resetting := false })
    (if s.inp.active = some 0 then loseSource 4 s else s)
  if (input s1 0).st = .negotiating then choose (setIn 0 .ready s1) else s1

/-- What the detector reads at a voltage: present from 4.2 V, absent from 3.9 V down, between them as before (R399). -/
def detects (was : Bool) (mv : Nat) : Bool := if 4200 ≤ mv then true else if mv ≤ 3900 then false else was

/-- An input reaches a voltage, and its detector a reading (R399, R400, R409, R414). -/
def detectAt (i : Nat) (present : Bool) (s : State) : State :=
  if (input s i).present = present then recount i s
  else if present then
    let s1 := onInput i (fun x => { x with present := true }) s
    let s2 := if (input s1 i).st = .absent ∧ ¬(s.inp.path = .handover ∧ (s.inp.leaving.map (fun l => l.1)) = some i) then restartInput i s1 else s1
    if i = 0 then onInp (fun x => { x with tc := if x.tc = 0 then 1 else x.tc, resetting := false }) s2 else s2
  else
    let s1 := onInput i (fun x => { x with present := false }) s
    let s2 := if s1.inp.active = some i then loseSource 2 s1 else restartInput i s1
    shipCheck (if i = 0 ∧ s2.inp.resetting = false then tcDetach s2 else s2)

/-- An input stands at a voltage from now on. -/
def setVin (i mv : Nat) (s : State) : State := wakeCount i (onInput i (fun x => { x with mv := mv }) (inputWake i s))

/-- INPUT_DETECT (R399): the voltage of an input. -/
def inputDetect (i mv : Nat) (s : State) : State := detectAt i (detects (input s i).present mv) (setVin i mv s)

/-- The argument of SOURCE_ATTACHED (Table CMD.17). -/
def attachedArg (s : State) (i voc : Nat) : Nat := sigKind s i ||| (voc % 65536) <<< 16

/-- The first state of a qualified input: VBUSC negotiates where firmware can, and no contract is in force (Table INT.2,
R405); a debug accessory is used as a Type-C source (R416). -/
def qualifiedSt (s : State) (i : Nat) : InSt :=
  if i = 0 ∧ s.core.fwReady = true ∧ s.inp.tc = 2 ∧ s.inp.silent = false ∧ s.inp.contract = none then .negotiating else .ready

/-- The count of an input's qualification is complete (R400). -/
def qualDone (s : State) (i : Nat) : Bool := countable s i && (input s i).due.any (fun t => decide (t ≤ s.clk.us))

/-- VOC as a qualification measures it; with a contract in force the VOC at vSafe5V stays (R401, R424). A VOC that no Q7 result gives is a free
value (assumption 36). -/
def vocTaken (i : Nat) (s : State) : State :=
  if i = 0 ∧ s.inp.contract.isSome = true then s
  else
    let (v, s0) := orFree (vocNow s i) s
    onInput i (fun x => { x with voc := v.toNat }) s0

/-- INPUT_QUALIFY (R400, R401, R406, R412, R97, R101), with the wake count of the input where that is complete. -/
def inputQualify (i : Nat) (s00 : State) : State :=
  let s := inputWake i s00
  if qualDone s i = true ∧ s.core.mode ≠ .ship ∧ s.core.shipEntry ≠ .begun then
    let s1 := onInput i (fun x => { x with due := none }) (vocTaken i s)
    let s2 := setIn i (qualifiedSt s1 i) s1
    let s3 := post 0x0A01 (b2n (matchEntry s2 i).isSome) i (attachedArg s2 i (vocOf s2 i)) s2
    choose (autostart 3 s3)
  else s

/-- VIN_OV or VIN_REVERSE blocks an input (R404, R409). -/
def blockInput (i : Nat) (s : State) : State :=
  let s1 := onInput i (fun x => { x with faulted := true }) s
  if s1.inp.active = some i then loseSource 3 s1 else shipCheck (restartInput i s1)

/-- BLOCKED_EXIT: the input reads more than 500 mV below its threshold, and is not reversed (R404). -/
def blockedExit (i mv : Nat) (reversed : Bool) (s : State) : State :=
  if (input s i).faulted = true ∧ reversed = false ∧ (mv : Int) < ovEff s i - 500 then
    let s1 := onInput i (fun x => { x with faulted := false, present := detects x.present mv }) (setVin i mv s)
    if (input s1 i).st = .blocked then restartInput i s1 else s1
  else s

/-! ### The Type-C sink and USB PD (R413 to R423) -/

/-- The sink attaches (R414, R416). -/
def tcAttach (rp : Nat) (debug : Bool) (s : State) : State :=
  if s.inp.tc < 2 then
    clipLim (onInp (fun x => { x with tc := if debug then 3 else 2, rp := min rp 2, hardResets := 0, silent := false }) s)
  else s

/-- RP_CHANGE (R415): ignored while a contract is in force. -/
def rpChange (rp : Nat) (s : State) : State :=
  if 2 ≤ s.inp.tc ∧ s.inp.contract = none then clipLim (onInp (fun x => { x with rp := min rp 2 }) s) else s

/-- A fixed supply object: voltage in 50 mV and current in 10 mA units (USB PD; assumption 42). -/
def isFixed (o : BitVec 32) : Bool := o.toNat >>> 30 == 0

/-- A PPS augmented object (USB PD; assumption 42). -/
def isPps (o : BitVec 32) : Bool := o.toNat >>> 28 == 0xC

def fixedMv (o : BitVec 32) : Nat := 50 * ((o.toNat >>> 10) % 1024)
def fixedMa (o : BitVec 32) : Nat := 10 * (o.toNat % 1024)
def ppsMax (o : BitVec 32) : Nat := 100 * ((o.toNat >>> 17) % 256)
def ppsMin (o : BitVec 32) : Nat := 100 * ((o.toNat >>> 8) % 256)
def ppsMa (o : BitVec 32) : Nat := 50 * (o.toNat % 128)

/-- int.pd_sink_caps accepts a fixed voltage (Table INT.4). -/
def fixedAccepted (s : State) (mv : Nat) : Bool :=
  let c := pn s 0x0A09
  (mv == 5000 && bit c 0) || (mv == 9000 && bit c 1) || (mv == 15000 && bit c 2) || (mv == 20000 && bit c 3)

/-- The contract that an object at a position gives. -/
def fixedContract (s : State) (o : BitVec 32) (pos : Nat) : Contract :=
  { kind := 1, mv := fixedMv o, ma := min (fixedMa o) (pn s 0x0A02 0), pos := pos }

/-- The objects with their positions, from 1. -/
def numbered (s : State) : List (BitVec 32 × Nat) := s.inp.caps.zip ((List.range s.inp.caps.length).map (fun k => k + 1))

/-- The object that R420 starts from: the fixed 5 V one (the first in its absence). -/
def firstFive (s : State) : Option (BitVec 32 × Nat) :=
  match (numbered s).find? (fun p => isFixed p.1 && fixedMv p.1 == 5000) with
  | some p => some p
  | none => (numbered s).head?

/-- One step of the loop over fixed objects (R420). -/
def betterFixed (s : State) (b : Contract × Nat) (p : BitVec 32 × Nat) : Contract × Nat :=
  if isFixed p.1 && fixedAccepted s (fixedMv p.1) then
    let c := fixedContract s p.1 p.2
    let w := c.mv * c.ma
    if b.2 < w ∨ (w = b.2 ∧ c.mv < b.1.mv) then (c, w) else b
  else b

/-- A voltage rounded up to 20 mV. -/
def roundUp20 (v : Int) : Nat := (v.toNat + 19) / 20 * 20

/-- VBAT as last measured; 0 before the first result. -/
def vbatNow (s : State) : Int := (vget s.msr.results 0x45 none).getD 0

/-- The PPS contract of an object, where its range and power allow (R420). -/
def ppsContract (s : State) (bestP : Nat) (p : BitVec 32 × Nat) : Option Contract :=
  let v := roundUp20 (max (ppsMin p.1 : Int) (vbatNow s + 1000))
  let ma := min (ppsMa p.1) (pn s 0x0A02 0)
  if isPps p.1 && decide (v ≤ ppsMax p.1) && decide (v ≤ 20000) && decide (bestP * 9 ≤ v * ma * 10) then
    some { kind := 2, mv := v, ma := ma, pos := p.2 }
  else none

/-- The object to request (R420). -/
def selectObject (s : State) : Option Contract :=
  match firstFive s with
  | none => none
  | some f =>
    let best := (numbered s).foldl (betterFixed s) (fixedContract s f.1 f.2, 0)
    let pps := if pv s 0x0A0A = 1 ∧ bit (pn s 0x0A09) 4 = true then (numbered s).findSome? (ppsContract s best.2) else none
    some (pps.getD best.1)

/-- The contract of PD_REQUEST's choice, where int.pd_sink_caps and the object's range allow it (R423). -/
def chosenContract (s : State) (pos mv : Nat) : Option Contract :=
  match s.inp.caps[pos - 1]? with
  | none => none
  | some o =>
    if pos = 0 then none
    else if isFixed o then (if fixedAccepted s (fixedMv o) && mv == 0 then some (fixedContract s o pos) else none)
    else if isPps o && bit (pn s 0x0A09) 4 && decide (ppsMin o ≤ mv) && decide (mv ≤ ppsMax o) then
      some { kind := 2, mv := mv / 20 * 20, ma := min (ppsMa o) (pn s 0x0A02 0), pos := pos }
    else none

/-- Send a Request (R420, R421). -/
def sendRequest (c : Contract) (s : State) : State :=
  onInp (fun x => { x with request := some c, pdSent := some .request, ppsVbat := vbatNow s, reqAt := s.clk.us }) s

/-- Select and request (R420, R423). A choice that the new objects do not admit gives way to the selection. -/
def requestNow (s : State) : State :=
  let s1 := takeOcc .selection (takeOcc .negotiation s)
  let pick := match s1.inp.choice with
    | some (p, mv) => (chosenContract s1 p mv).orElse (fun _ => selectObject s1)
    | none => selectObject s1
  match pick with
  | some c => sendRequest c s1
  | none => s1

/-- A message that firmware takes, or that the PHY queues for it, at most 4 ("When a core reset meets intake"). -/
def queueMsg (m : PdMsg) (s : State) : State :=
  onInp (fun x => { x with pdQueue := if x.pdQueue.length < 4 then x.pdQueue ++ [m] else x.pdQueue }) s

/-- PD runs: the sink is attached, and not to a debug accessory, which is a plain Type-C source (R416). -/
def pdOn (s : State) : Bool := s.inp.tc == 2

/-- Source_Capabilities (R420). -/
def takeSourceCaps (objects : List (BitVec 32)) (s : State) : State :=
  requestNow (onInp (fun x => { x with caps := objects.take 7, silent := false, hardResets := 0, resetting := false }) s)

/-- Accept (R422). -/
def takeAccept (s : State) : State :=
  match s.inp.request with
  | some _ =>
    clipLim (onInp (fun x => { x with oldMa := some (sourceMa s), oldMv := some (match x.contract with | some c => c.mv | none => 5000) }) s)
  | none => s

/-- PS_RDY (R401, R419, R422): the new contract takes effect; the first one is followed by Discover Identity. A Request that repeats the
contract in force changes none, and nothing has to settle. -/
def takePsRdy (s : State) : State :=
  match s.inp.oldMa, s.inp.request with
  | some _, some r =>
    let ask := s.inp.contract.isNone && bit (pn s 0x0A09) 5
    let new_ := s.inp.contract != some r
    let upd := fun (x : Intake) =>
      { x with contract := some r, request := none, oldMa := none, settling := new_, psAt := s.clk.us, oldMv := if new_ then x.oldMv else none,
               pdSent := if ask then some .discoverIdentity else x.pdSent }
    choose (clipLim (onInp upd s))
  | _, _ => s

/-- A Discover Identity ACK (R419, R424). -/
def takeIdentity (a b : BitVec 32) (s : State) : State :=
  if s.inp.contract.isSome && bit (pn s 0x0A09) 5 then
    onInp (fun x => { x with identity := some (a.toNat, b.toNat) }) s
  else s

/-- A message that is not supported (R417): EPR_Source_Capabilities is ignored, any other is answered. -/
def takeOther (epr : Bool) (s : State) : State := if epr then s else onInp (fun x => { x with pdSent := some .notSupported }) s

/-- Firmware takes a message. -/
def takeMsg (s : State) (m : PdMsg) : State :=
  match m with
  | .sourceCaps o => takeSourceCaps o s
  | .accept => takeAccept s
  | .psRdy => takePsRdy s
  | .identity a b => takeIdentity a b s
  | .other e => takeOther e s

/-- A PD message arrives: the PHY acknowledges it with GoodCRC, and firmware takes it, at once or from the queue (R418). -/
def pdMessage (m : PdMsg) (s0 : State) : State :=
  if pdOn s0 then
    let s := onInp (fun x => { x with goodCrcs := x.goodCrcs + 1 }) s0
    if fwWorks s then takeMsg s m else queueMsg m s
  else s0

/-- CONTRACT_SETTLED: 10 ms have passed since PS_RDY (R403, R422). -/
def contractSettled (s : State) : State :=
  if s.inp.settling && fwWorks s && decide (s.inp.psAt + 10000 ≤ s.clk.us) then
    let s1 := onInp (fun x => { x with settling := false, oldMv := none }) s
    if s1.inp.active = some 0 then choose (startSearch 0 s1)
    else choose (if (input s1 0).st = .negotiating then setIn 0 .ready s1 else s1)
  else s

/-- HARD_RESET (R418, R423, "When a PD Hard Reset meets the power path"): the contract is gone, CC stays attached. -/
def hardReset (s : State) : State :=
  if pdOn s then clipLim (onInp (fun x => { dropContract x with choice := none, resetting := true }) (keepHash s)) else s

/-- SINK_WAIT_CAP_TIMER (R418): a Hard Reset, or after nHardResetCount (2, USB PD; assumption 42) a Type-C source. -/
def sinkWaitCapTimer (s : State) : State :=
  if fwWorks s && pdOn s && s.inp.caps.isEmpty && !s.inp.silent then
    if s.inp.hardResets < 2 then
      hardReset (onInp (fun x => { x with hardResets := x.hardResets + 1, pdSent := some .hardReset }) s)
    else
      let s1 := onInp (fun x => { x with silent := true, resetting := false }) s
      if (input s1 0).st = .negotiating then choose (setIn 0 .ready s1) else s1
  else s

/-- PPS_REQUEST_REPEAT: 8 s have passed since the last Request (R421). -/
def ppsRequestRepeat (s : State) : State :=
  match s.inp.contract with
  | some c => if fwWorks s && c.kind == 2 && decide (s.inp.reqAt + 8000000 ≤ s.clk.us) then sendRequest c s else s
  | none => s

/-- Under PPS a VBAT that has moved by 200 mV brings a new Request (R421). -/
def ppsFollow (s : State) : State :=
  match s.inp.contract with
  | some c => if fwWorks s && c.kind == 2 && decide (200 ≤ (vbatNow s - s.inp.ppsVbat).natAbs) then requestNow s else s
  | none => s

/-- Firmware starts: the queued messages are taken, and the active input's search starts (R405, R427). -/
def intakeResume (first : Bool) (s : State) : State :=
  let s1 := s.inp.pdQueue.foldl takeMsg (onInp (fun x => { x with pdQueue := [] }) s)
  if first then
    match s1.inp.active with
    | some i => choose (startSearch i s1)
    | none => choose s1
  else s1

/-- int.panel_mode in force between steps decides what an active DCIN runs (R432, Table INT.8). -/
def panelFollow (s : State) : State :=
  if s.core.fwReady && s.inp.active == some 1 &&
      (if pv s 0x0A08 = 1 then (input s 1).st == .settled || ((input s 1).st == .search && s.inp.search.waiting) else (input s 1).st == .panel) then
    startSearch 1 s
  else s

/-- What a commit of intake parameters brings (R406, R432, R434, R438). -/
def intakeParams (s : State) : State := choose (panelFollow (clipLim (rebudget s)))

/-! ### Commands (Table CMD.11) -/

/-- INTAKE_STATUS (Table CMD.11). What an input or a contract that is not there would give is a free value (assumption 36). -/
def intakeStatusBody (_r : Req) (_pl : Bytes) (s : State) : Reply :=
  let x := s.inp
  let act := fun (f : Nat → Int) => x.active.map f
  let (il, s1) := orFree (act (fun i => (ilimEff s i : Int))) s
  let (voc, s2) := orFree (act (fun i => (vocOf s i : Int))) s1
  let (fl, s3) := orFree (act (floorEff s)) s2
  let (cv, s4) := orFree (x.contract.map (fun c => (c.mv : Int))) s3
  let (ca, s5) := orFree (x.contract.map (fun c => (c.ma : Int))) s4
  let (cp, s6) := orFree (x.contract.map (fun c => (c.pos : Int))) s5
  let (h, s7) := orFree (act (fun i => (sigHash s i : Int))) s6
  .done stOk (leBytes 1 x.path.code ++ leBytes 1 (x.active.getD 0xFF) ++ leBytes 1 (input s 0).st.code ++ leBytes 1 (input s 1).st.code ++
    leBytes 1 x.tc ++ leBytes 1 x.rp ++ leBytes 1 (x.cls.getD 0xFF) ++ leBytes 1 x.clsSrc ++ leInt 2 il ++ leBytes 2 x.search.lim ++
    leInt 2 voc ++ leInt 2 fl ++ leInt 2 cv ++ leInt 2 ca ++ leBytes 1 (match x.contract with | some c => c.kind | none => 0) ++
    leInt 1 cp ++ leBytes 2 x.search.step ++ leInt 4 h) s7

/-- INTAKE_STATUS. -/
def cmdIntakeStatus : CmdDef :=
  { code := 0x0A00, caps := [capStatus], allow := allowAll, len := lenIs 0, range := anyRange, nv := false, modes := anyMode,
    body := intakeStatusBody }

/-- INTAKE_POLICY action 0: disable an input (R704). -/
def disableInput (i : Nat) (s : State) : Reply :=
  let s1 := onInput i (fun x => { x with disabled := true }) s
  if s.inp.active = some i then
    if batteryValid s then .done stOk [] (leaveActive i 6 none s1) else refuse stModeForbids s
  else .done stOk [] (shipCheck (restartInput i s1))

/-- INTAKE_POLICY action 1: enable an input. -/
def enableInput (i : Nat) (s : State) : State :=
  if (input s i).disabled then
    let s1 := onInput i (fun x => { x with disabled := false }) s
    if (input s1 i).st = .disabled then restartInput i s1 else s1
  else s

/-- INTAKE_POLICY action 2: a search starts on the active input (R427). -/
def rescan (i : Nat) (s : State) : State := if s.inp.active = some i then startSearch i s else s

/-- INTAKE_POLICY action 3: every entry is emptied (R426). Before NV_READY the commit waits; a RESV too low for it is answered (R533; assumption
83). -/
def forgetSources (s : State) : Reply :=
  if s.core.nvReady && !sigWritable s then refuse stNvSupplyLow s
  else .done stOk [] (sigFlush (onInp (fun x => { x with sigForget := true, sigWait := [] }) s))

/-- INTAKE_POLICY (R704). -/
def intakePolicyBody (_r : Req) (pl : Bytes) (s : State) : Reply :=
  let i := byteAt pl 1
  match byteAt pl 0 with
  | 0 => disableInput i s
  | 1 => .done stOk [] (enableInput i s)
  | 2 => .done stOk [] (rescan i s)
  | _ => forgetSources s

/-- INTAKE_POLICY. -/
def cmdIntakePolicy : CmdDef :=
  { code := 0x0A01, caps := [capPower], allow := allowAll, len := lenIs 2,
    range := fun b => decide (byteAt b 0 ≤ 3) && decide (byteAt b 1 ≤ 1) && (byteAt b 0 != 3 || byteAt b 1 == 0), nv := false,
    modes := anyMode, body := intakePolicyBody }

/-- PD_REQUEST (R423, R704). -/
def pdRequestBody (_r : Req) (pl : Bytes) (s : State) : Reply :=
  let p := byteAt pl 0
  let mv := fieldAt pl 2 2
  if s.inp.contract.isNone then refuse stRange s
  else if p = 0 then .done stOk [] (requestNow (onInp (fun x => { x with choice := none }) s))
  else if (chosenContract s p mv).isNone then refuse stRange s
  else .done stOk [] (requestNow (onInp (fun x => { x with choice := some (p, mv) }) s))

/-- PD_REQUEST. -/
def cmdPdRequest : CmdDef :=
  { code := 0x0A02, caps := [capPower], allow := allowAll, len := lenIs 4,
    range := fun b => decide (byteAt b 0 ≤ 7) && byteAt b 1 == 0 && (byteAt b 0 != 0 || fieldAt b 2 2 == 0), nv := false,
    modes := anyMode, body := pdRequestBody }

/-- Minutes that the override has left. -/
def overrideLeft (s : State) : Nat :=
  match s.inp.override_ with
  | some (_, t) => (t - s.clk.us) / 60000000
  | none => 0

/-- The answer of BUDGET_WINDOW. -/
def budgetAnswer (s : State) : Bytes := leBytes 1 (s.inp.cls.getD 0xFF) ++ leBytes 1 s.inp.clsSrc ++ leBytes 2 (overrideLeft s)

/-- BUDGET_WINDOW (R434, R438). -/
def budgetWindowBody (_r : Req) (pl : Bytes) (s : State) : Reply :=
  let t := match byteAt pl 0 with
    | 1 => rebudget (onInp (fun x => { x with override_ := some (byteAt pl 1, s.clk.us + fieldAt pl 2 2 * 60000000) }) s)
    | 2 => rebudget (onInp (fun x => { x with override_ := none }) s)
    | _ => s
  .done stOk (budgetAnswer t) t

/-- BUDGET_WINDOW: STATUS to read, POWER_POLICY to set or clear (Table CMD.11). -/
def cmdBudgetWindow (pl : Bytes) : CmdDef :=
  { code := 0x0A03, caps := [if byteAt pl 0 = 0 then capStatus else capPower], allow := allowAll, len := lenIs 4,
    range := fun b => decide (byteAt b 0 ≤ 2) && decide (byteAt b 1 ≤ 3) &&
      (if byteAt b 0 = 1 then decide (1 ≤ fieldAt b 2 2) && decide (fieldAt b 2 2 ≤ 1440) else fieldAt b 2 2 == 0),
    nv := false, modes := anyMode, body := budgetWindowBody }

end Sys2Proof.Machine
end

