-- ==== Sys2Proof/Machine/Detect.lean ====
section
/-! DEFINITION. Detectors whose outputs come in one REF cycle: what each finds, the fixed actions, and the checks of the engine, latched and
answered together (R132, R178, R200, R201, R208, R209, R211, R218, R224, R229, R404). -/

namespace Sys2Proof.Machine

/-! ### Fixed actions (Table SUP.1) -/

/-- The battery FET is held off while BAT_REVERSE is latched (Table SUP.1), and the path follows the battery (R392). -/
def holdBattery (s : State) : State := chgJudge (pathEval { s with core := { s.core with batFet := false } })

/-- The fixed action of DIE_OT: every rail EN deasserted and the charger off (Table SUP.1). -/
def dieOff (s : State) : State := noScanAll (chgJudge (allRails.foldl (fun t r => if (rail t r).en then faultOff r t else t) s))

/-- A crystal in use gives way to the RC until the next POR (R30, R33). -/
def refFallback (s : State) : State := { s with clk := { s.clk with crystal := if s.clk.crystal = .unused then .unused else .abandoned } }

/-- The fixed action of a setting, in every configuration, between its latch and its response (R218). An injected BAT_TS_OPEN holds the
channel open until FAULT_CLEAR. The core reset of WATCHDOG and the break location of TAG_RING_BREAK stand with their own happenings. -/
def fixedOf (a : Setting) (s : State) : State :=
  match a.code with
  | 0x10 => blockInput (a.src - 0xF0) s
  | 0x11 => blockInput (a.src - 0xF0) s
  | 0x12 => holdBattery s
  | 0x13 => chgJudge s
  | 0x14 => takeTemp none (if a.injected then onChg (fun c => { c with tsHold := true }) s else s)
  | 0x15 => chgJudge s
  | 0x16 => timeoutTrip s
  | 0x20 => dieOff s
  | 0x21 => refFallback s
  | _ => s

/-! ### Rails -/

/-- The PG source of a rail reads not good (R208): PG_LOSS where the rail is ON and its PG has read good since the last one. -/
def losePg (r : Nat) (ball : Bool) (mv : Int) (s : State) : List Raise × State :=
  if present s r && !pgSource s r ball (windowAfter s r mv) then
    let x := rail s r
    let s1 := onRail r (fun y => { y with pg := false }) (seePg r ball mv s)
    if x.st = .on ∧ x.pgArmed = true then ([railRaise 0x05 r none], onRail r (fun y => { y with pgArmed := false }) s1) else ([], s1)
  else ([], s)

/-- Pnn_EN reads another level than the device drives (R209). A released ball that reads low while its rail is ENABLING does not count
during the first rail.ton_max_us in open-drain mode. -/
def enDiffers (s : State) (r : Nat) (high : Bool) : Bool :=
  let x := rail s r
  high != x.en && !(pv s 0x0405 r == 1 && !high && x.st == .enabling && x.tonRun)

/-- A join fails: the rail is deasserted and PARKED, TON_MAX is raised unless its check has raised it, and RAIL_JOINED
carries FAILED (R178). A response to that TON_MAX which turns rails off leaves the rail FAULT_OFF instead (DESIGN CHOICE, assumption 71). -/
def joinFails (r : Nat) (s : State) : List Raise × State :=
  let raised := (rail s r).tonRaised
  let s1 := post 0x0403 1 r 0 (deassertEn r .parked (dropJoin r (onRail r (fun y => { y with tonRun := false }) s)))
  (if raised then [] else [railRaise 0x06 r none], s1)

/-- The TON_MAX check of a rail has its limit before it: PG has not become good since the assertion of EN (R132). -/
def tonDue (s : State) (r : Nat) : Bool := (rail s r).tonRun && (rail s r).en && !(rail s r).pg

/-- The rail's running join has no time of its own: the TON_MAX check bounds it (R177, R178). -/
def joinBounded (s : State) (r : Nat) : Bool := s.eng.join.any (fun j => j.rail == r && j.time == 0)

/-- PG has not become good within rail.ton_max_us of the assertion of EN (R132, R178). -/
def tonFound (r : Nat) (s : State) : List Raise × State :=
  if !tonDue s r then ([], s)
  else if joinBounded s r then joinFails r s
  else ([railRaise 0x06 r none], onRail r (fun y => { y with tonRun := false, tonRaised := true }) s)

/-- The TOFF_MAX check of a rail raises its fault (R132): the check of a DISABLE on the rail while DISABLING, or OFF again where a park and
an unpark came between; that of a join which TBL1 ended, on the rail OFF (R773); and that of the DISABLE which parked the rail, which runs to
its end whatever an unpark has made of the state since (R170, R172; DESIGN CHOICE, assumption 151). A rail that a fault response
turned off is FAULT_OFF, where Table SUP.2 does not arm TOFF_MAX, and an absent rail has none (R775). -/
def toffRaises (s : State) (r : Nat) : Bool :=
  let x := rail s r
  present s r &&
    match x.toffBy with
    | .parked => x.st == .parked || x.st == .off || x.st == .joinPending
    | .faultOff => false
    | _ => x.st == .disabling || x.st == .off

/-- The rail has not fallen below rail.off_mv within rail.toff_max_us (R132, R170): ON_DISABLE opens DS, and TOFF_MAX is raised. -/
def toffFound (r : Nat) (s : State) : List Raise × State :=
  if (rail s r).toffRun then
    (if toffRaises s r then [railRaise 0x07 r none] else [],
      onRail r (fun y => { y with toffRun := false, ds := y.ds && pv s 0x040C r != 1 }) s)
  else ([], s)

/-- A check of the engine ends here: its wait, its unwind or the bring-up goes on once the responses are taken (R136, R142, R154). -/
def checkDue (s : State) (a : Nat × Nat × Int) : Bool :=
  match a.1 with
  | 0x06 => decide (a.2.1 < 24) && tonDue s a.2.1
  | 0x07 => decide (a.2.1 < 24) && (rail s a.2.1).toffRun
  | _ => false

/-- What waits for a check that has ended. -/
def checkEnds (s : State) (a : Nat × Nat × Int) : State :=
  if a.1 = 0x06 then bringPoll (boundEnds 3 a.2.1 s) else unwindPoll (boundEnds 4 a.2.1 s)

/-- A reading of a rail's fast comparators finds OV_FAST or UV_FAST (R200, R201). -/
def fastFound (r : Nat) (mv : Int) (s : State) : Bool × Bool :=
  ((fastAfter s r mv).1, (fastAfter s r mv).2 && !fastInitAfter s r mv)

/-- What a rail's detector finds on a reading: its code, its rail and the sense voltage. -/
def detectRail (code r : Nat) (v : Int) (s : State) : List Raise × State :=
  match code with
  | 0x01 => (if (fastFound r v s).1 then [railRaise 0x01 r none] else [], seeFast r v s)
  | 0x02 => (if (fastFound r v s).2 then [railRaise 0x02 r none] else [], seeFast r v s)
  | 0x05 => losePg r false v s
  | 0x06 => tonFound r s
  | 0x07 => toffFound r s
  | 0x08 => (if enDiffers s r (!(rail s r).en) then [railRaise 0x08 r none] else [], s)
  | 0x09 => (if sensable s r && senseOpen s r (some v) none != none then [railRaise 0x09 r (some v)] else [], s)
  | _ => ([], s)

/-! ### Global detectors -/

/-- A raise of a global fault. -/
def globalRaise (code src : Nat) (value : Option Int) (chan : Nat) : Raise :=
  { code := code, src := src, value := value, chan := chan, injected := false }

/-- The die comparator after a reading: hot from 150 °C, and no more below 130 °C (Table SUP.1). -/
def dieAfter (s : State) (celsius : Int) : Bool :=
  if 150 ≤ celsius then true else if celsius < 130 then false else s.sup.dieHot

/-- DIE_OT latches once for each time that the die reads hot, and once more for a hot die whose latch FAULT_CLEAR has cleared (R235). -/
def dieFound (celsius : Int) (s : State) : List Raise × State :=
  let hot := dieAfter s celsius
  (if hot && !s.sup.dieSeen then [globalRaise 0x20 0xFF none 0xFF] else [], { s with sup := { s.sup with dieHot := hot, dieSeen := hot } })

/-- The earliest beginning of a conversion that SWA still holds; the present cycle where it holds none. -/
def oldestBegan (s : State) : Nat := s.msr.swa.slots.flatten.foldl (fun m j => min m j.began) (cycle s)

/-- The trips that a conversion in the schedule may still ask for (R358). -/
def keepTrips (s : State) (ts : List (Nat × Option Nat)) : List (Nat × Option Nat) :=
  ts.filter (fun t => t.2.all (fun e => decide (oldestBegan s < e)))

/-- The open comparator of a TS channel trips at an instant. -/
def setTripped (t : Nat) (s : State) : State :=
  { s with msr := { s.msr with tripped := vset s.msr.tripped t true,
                               trips := vset s.msr.trips t ((cycle s, none) :: keepTrips s (vget s.msr.trips t [])) } }

/-- The trip in progress ends at an instant. -/
def endTrip (now : Nat) (ts : List (Nat × Option Nat)) : List (Nat × Option Nat) := ts.map (fun t => (t.1, some (t.2.getD now)))

/-- The open comparator of a TS channel releases; a channel without bias has none armed (R356, R357). -/
def dropTripped (t : Nat) (s : State) : State :=
  { s with msr := { s.msr with tripped := vset s.msr.tripped t false,
                               trips := vset s.msr.trips t (keepTrips s (endTrip (cycle s) (vget s.msr.trips t []))) } }

/-- THERMISTOR_OPEN_TRIP on a biased channel (R357); on the battery channel BAT_TS_OPEN latches, also where the comparator stayed tripped over
the FAULT_CLEAR of its latch (R235, R359). -/
def tripFound (t : Nat) (s : State) : List Raise × State :=
  if 8 ≤ t ∨ pn s 0x070F t = 0 then ([], s)
  else
    let was := vget s.msr.tripped t false
    let s1 := if was then s else setTripped t (catchUp s)
    (if t = pn s1 0x0B0E ∧ (was = false ∨ latched s1 0x14 = false) then [globalRaise 0x14 0xFF none 0xFF] else [], s1)

/-- RESV_LOW: RESV below nv.resv_commit_min_mv, from 50 ms after SYS became valid (Table SUP.1). -/
def resvIsLow (s : State) : Bool :=
  !s.core.holdup && decide (s.core.sysValidAt + 50000 ≤ s.clk.us) && decide (s.nv.resvMv < pv s 0x0D06)

/-- What a global detector finds: its code, its input or channel, and its reading. -/
def detectGlobal (code n : Nat) (v : Int) (s : State) : List Raise × State :=
  match code with
  | 0x10 => if n < 2 ∧ (ovEff s n : Int) ≤ v then ([globalRaise 0x10 (0xF0 + n) none 0xFF], setVin n v.toNat s) else ([], s)
  | 0x11 => (if n < 2 then [globalRaise 0x11 (0xF0 + n) none 0xFF] else [], s)
  | 0x12 => ([globalRaise 0x12 0xFF none 0xFF], s)
  | 0x14 => tripFound n s
  | 0x16 => (if s.chg.phase.timed && timerDue s then [globalRaise 0x16 0xFF none 0xFF] else [], s)
  | 0x17 => (if v < sysMin s then [globalRaise 0x17 0xFF none 0xFF] else [], s)
  | 0x20 => dieFound v s
  | 0x23 => (if resvIsLow s then [globalRaise 0x23 0xFF (some s.nv.resvMv) 0x47] else [], s)
  | _ => ([], s)

/-! ### One REF cycle -/

/-- The detector of a code works: the analog comparators of the inputs, the battery, the die and the thermistors with power alone, the others
from configuration recall (R107), and the conversions of a sense check only while CNV is clocked (R34). -/
def detectorLive (s : State) (code : Nat) : Bool :=
  [0x10, 0x11, 0x12, 0x14, 0x20].contains code || (s.core.recalled && !(code == 0x09 && s.clk.gated))

/-- What one detector finds: a code below 0x10 is a rail's. -/
def detect (a : Nat × Nat × Int) (s : State) : List Raise × State :=
  if !detectorLive s a.1 then ([], s)
  else if 0x10 ≤ a.1 then detectGlobal a.1 a.2.1 a.2.2 s
  else if a.2.1 < 24 then detectRail a.1 a.2.1 a.2.2 s
  else ([], s)

/-- What several detectors find in one REF cycle. -/
def detectAll : List (Nat × Nat × Int) → State → List Raise × State
  | [], s => ([], s)
  | a :: as, s =>
    let p := detect a s
    let q := detectAll as p.2
    (p.1 ++ q.1, q.2)

/-- Faults found in a REF cycle with the detectors that complete in the same one: all latch, then come the fixed actions, `act` beside them,
and the merged responses, and then what waited for an engine check that ended (R218, R224, R229). -/
def raiseThen (act : State → State) (found : List Raise) (also : List (Nat × Nat × Int)) (s : State) : State :=
  let due := also.filter (checkDue s)
  let p := detectAll also s
  due.foldl checkEnds (raiseFixed fixedOf act (found ++ p.1) p.2)

/-- The same with nothing beside the fixed actions. -/
def raiseTogether (found : List Raise) (also : List (Nat × Nat × Int)) (s : State) : State := raiseThen id found also s

/-- Detectors that complete in one REF cycle (R200, R201, R229). -/
def detectTogether (as : List (Nat × Nat × Int)) (s : State) : State := raiseTogether [] as s

/-! ### The happenings; `also` names the detectors that complete in the same REF cycle -/

/-- OV_FAST (R198 to R201). -/
def ovFast (r : Nat) (mv : Int) (also : List (Nat × Nat × Int)) (s : State) : State := detectTogether ((0x01, r, mv) :: also) s

/-- UV_FAST (R198 to R201). -/
def uvFast (r : Nat) (mv : Int) (also : List (Nat × Nat × Int)) (s : State) : State := detectTogether ((0x02, r, mv) :: also) s

/-- PG_LOSS: Pnn_PG and the sense voltage have stood at `ball` and `mv` for 4 TICKs (R208). -/
def pgLoss (r : Nat) (ball : Bool) (mv : Int) (also : List (Nat × Nat × Int)) (s : State) : State :=
  let p := losePg r ball mv s
  raiseTogether p.1 also p.2

/-- EN_SHORT: Pnn_EN has read `high` for 4 TICKs (R209). -/
def enShort (r : Nat) (high : Bool) (also : List (Nat × Nat × Int)) (s : State) : State :=
  raiseTogether (if enDiffers s r high then [railRaise 0x08 r none] else []) also s

/-- PG has not become good within rail.ton_max_us of the assertion of EN (R132). -/
def tonMax (r : Nat) (also : List (Nat × Nat × Int)) (s : State) : State := detectTogether ((0x06, r, 0) :: also) s

/-- The rail has not fallen below rail.off_mv within rail.toff_max_us of the deassertion of EN (R132, R170). -/
def toffMax (r : Nat) (also : List (Nat × Nat × Int)) (s : State) : State := detectTogether ((0x07, r, 0) :: also) s

/-- The WAIT_PG of a running join times out (R178). -/
def joinTimeout (r : Nat) (s : State) : State :=
  if joins s r then
    let p := joinFails r s
    raiseTogether p.1 [] p.2
  else s

/-- VIN_OV: an input reaches its effective overvoltage threshold (R403, R404). -/
def vinOv (i mv : Nat) (also : List (Nat × Nat × Int)) (s : State) : State := detectTogether ((0x10, i, (mv : Int)) :: also) s

/-- VIN_REVERSE (R404). -/
def vinReverse (i : Nat) (also : List (Nat × Nat × Int)) (s : State) : State := detectTogether ((0x11, i, 0) :: also) s

/-- BAT_REVERSE (R218). -/
def batReverse (also : List (Nat × Nat × Int)) (s : State) : State := detectTogether ((0x12, 0, 0) :: also) s

/-- SYS_UV (R396, Table SUP.1). -/
def sysUv (sysMv : Nat) (also : List (Nat × Nat × Int)) (s : State) : State := detectTogether ((0x17, 0, (sysMv : Int)) :: also) s

/-- DIE_OT (Table SUP.1, Table ELC.5). -/
def dieOt (celsius : Nat) (also : List (Nat × Nat × Int)) (s : State) : State := detectTogether ((0x20, 0, (celsius : Int)) :: also) s

/-- RESV_LOW (Table SUP.1). -/
def resvLow (s : State) : State := detectTogether [(0x23, 0, 0)] s

/-- THERMISTOR_OPEN_TRIP (R357, R359). -/
def thermistorOpenTrip (t : Nat) (s : State) : State := detectTogether [(0x14, t, 0)] s

/-- CHG_TIMEOUT: the safety timer, or the time in PRECHARGE, reaches its limit (R467). -/
def chgTimeout (s : State) : State := detectTogether [(0x16, 0, 0)] s

end Sys2Proof.Machine
end

