-- ==== Sys2Proof/Machine/Results.lean ====
section
/-! DEFINITION. A result record and its consumers: rings, slow supervision, the reservoir, the power path, BAT_OV, intake
energy and the battery temperature (R205, R215, R218, R265, R342, R462, R734). -/

namespace Sys2Proof.Machine

/-! ### The conversions behind a record -/

/-- The conversions of an entry of a frame, in the order of the oversamples; none while one is not issued yet. -/
def entryJobs (s : State) (conv q : Nat) (f : Frame) : List Job :=
  let js := (converter s conv).slots.flatten.filter (fun j => j.src == q && j.frame == f.number && j.entry == f.next)
  (List.range (byteAt (descEntry f.desc f.next) 2)).filterMap (fun k => js.find? (fun j => j.k == k))

/-- The flags of a thermistor result are decided: its comparator has tripped, or 5 µs have passed since the last hold (R358). -/
def tsDecided (s : State) (ch : Nat) (js : List Job) : Bool :=
  decide (ch < 0x28) || decide (0x30 ≤ ch) || js.any (fun j => openBy (tripsOf s ch) j || suspectBy (tripsOf s ch) j) ||
    decide (js.foldl (fun m j => max m j.hold) 0 + 400 ≤ cycle s)

/-- Records of the entry carry SYNC by their frame: an SWA group, an SWB pair, or the first record of a synchronised frame
(R332, R333). -/
def entrySync (conv : Nat) (f : Frame) : Bool :=
  let k := f.next
  (f.sync && k == 0) ||
    (if conv = 0 then holdsPrev f.desc k || (decide (k + 1 < descCount f.desc) && holdsPrev f.desc (k + 1))
     else byteAt (descEntry f.desc k) 1 != 0xFF)

/-- What the schedule knows of an entry's record on one of its channels: its slices are the ones at `side`, the record is stamped with the
first hold, and a restarted conversion marks it (R294, R336, R339, R358). -/
def originOf (s : State) (conv ch side : Nat) (f : Frame) (js : List Job) : Origin :=
  { slices := js.map (fun j => j.slices.getD side 0), cor := corOf s f ch, hold := holdTick js,
    suspect := js.any (suspectBy (tripsOf s ch)), opened := js.any (openBy (tripsOf s ch)), restarted := js.any (fun j => j.restarted),
    sync := entrySync conv f }

/-- The PGA code of an entry (Table MSR.2). -/
def entryPga (conv : Nat) (f : Frame) : Nat := if conv = 0 then byteAt (descEntry f.desc f.next) 1 % 4 else 0

/-! ### Consumers -/

/-- The intake energy of one pair (R734). -/
def energyTake (v ih : Int) (hold : Nat) (e : Energy) : Energy :=
  let gap := if e.havePrev then (hold + 0x100000000 - e.prevHold) % 0x100000000 else 0
  let dt : Int := min gap 1000
  let acc := e.residual + max 0 (v * ih) * dt
  let mj := acc / 2000000000
  { e with havePrev := true, prevHold := hold, residual := acc - mj * 2000000000, total := e.total + mj, opened := e.opened + mj,
           unmeasuredUs := e.unmeasuredUs + (gap - 1000) }

/-- A Q7 pair of the active input with IIN adds energy (R439, R734). -/
def energyPair (src : Nat) (a b : Result) (s : State) : State :=
  if src = 7 ∧ b.ch = 0x42 ∧ (a.ch = 0x40 ∨ a.ch = 0x41) ∧ s.inp.active = some (a.ch - 0x40) ∧ a.usable = true ∧ b.usable = true then
    { s with bg := { s.bg with energy := vmod s.bg.energy (a.ch - 0x40) (energyTake a.value b.value a.hold) } }
  else s

/-- The microseconds value of a hold instant: the last one with its TICK. -/
def holdTime (s : State) (hold : Nat) : Nat := s.clk.us - (s.clk.us + 0x100000000 - hold) % 0x100000000

/-- Q7 pairs of usable records are kept for 10 s, and those of the battery move the charger's and the gauge's watches (R343, R457,
R473, R477). -/
def keepPair (src : Nat) (a b : Result) (s : State) : State :=
  if src = 7 ∧ (b.ch = 0x42 ∧ (a.ch = 0x40 ∨ a.ch = 0x41) ∨ b.ch = 0x46 ∧ a.ch = 0x45) ∧ a.usable = true ∧ b.usable = true then
    let p : Q7Pair := { ch := a.ch, at_ := holdTime s a.hold, v := a.value, i := b.value }
    let s1 := { s with msr := { s.msr with pairs := p :: s.msr.pairs.filter (fun x => decide (s.clk.us ≤ x.at_ + 10000000)) } }
    if a.ch = 0x45 then riseWatch p (gaugeWatch p s1) else s1
  else s

/-- BAT_OV on 3 consecutive pairs (Table SUP.1). -/
def batOvFound (x : Result) (s : State) : List Raise × State :=
  let n := if cells s * (pv s 0x0B03 + 150) < x.value then s.sup.batOvCnt + 1 else 0
  (if n = 3 then [globalRaise 0x13 0xFF (some x.value) 0x45] else [], { s with sup := { s.sup with batOvCnt := n } })

/-- The path passes between SOURCE and SUPPLEMENT with the sign of IBAT (R396; assumption 43). IBAT is in 0.5 mA units. -/
def supplementCheck (x : Result) (s : State) : State :=
  if s.inp.path = .source ∧ x.value < -50 then onInp (fun y => { y with path := .supplement }) s
  else if s.inp.path = .supplement ∧ -50 ≤ x.value then onInp (fun y => { y with path := .source }) s
  else s

/-- BAT_OT above the discharge limit (Table SUP.1, R464). -/
def batOtFound (t : Int) (ch : Nat) (s : State) : List Raise × State :=
  if bandEdge s 4 < t ∧ s.chg.otHit = false then ([globalRaise 0x15 0xFF (some t) ch], onChg (fun c => { c with otHit := true }) s)
  else if t ≤ bandEdge s 4 - bandHyst s then ([], onChg (fun c => { c with otHit := false }) s)
  else ([], s)

/-- A Q6 result of chg.ts_channel gives the battery temperature (R356, R462). Where R356 gives no temperature, it is a free
value (assumption 36). -/
def tempFound (x : Result) (s : State) : List Raise × State :=
  if !x.usable then ([], takeTemp none s)
  else
    let (t, s1) := orFree (thermTemp s (x.ch - 0x28) x.value) s
    batOtFound t x.ch (takeTemp (some t) s1)

/-- What the fault fabric, the limits and the battery's detectors find on a result of a sequence. -/
def resultFound (src : Nat) (x : Result) (s : State) : List Raise × State :=
  let p := slowFound x (keepResult x s)
  if src = 6 ∧ x.ch = 0x28 + pn s 0x0B0E then tempFound x p.2
  else if src = 7 ∧ x.ch = 0x45 ∧ x.usable = true then batOvFound x p.2
  else p

/-- A result is kept and checked. The faults that it completes latch together with those of the detectors whose filters complete in the same
REF cycle (R229). -/
def slowCheck (also : List (Nat × Nat × Int)) (src : Nat) (x : Result) (s : State) : State :=
  let p := resultFound src x s
  raiseTogether p.1 also p.2

/-- The reservoir reading, and what waited for it: a capture record, and the missed count (R255, R265, R545). -/
def resvResult (x : Result) (s : State) : State := sigFlush (flushMissed (recordTry { s with nv := { s.nv with resvMv := x.value } }))

/-- Who takes a result, beside the ring and the fault fabric. -/
def consumers (src : Nat) (x : Result) (s : State) : State :=
  if !x.usable then s
  else if src = 7 ∧ x.ch = 0x45 then ppsFollow (choose (pathEval s))
  else if src = 7 ∧ x.ch = 0x46 then supplementCheck x s
  else if x.ch = 0x47 then resvResult x s
  else s

/-! ### RESULT_RECORD -/

/-- One record: to its ring, to the limits, and to its consumers (R203, R342, R355). -/
def takeResult (also : List (Nat × Nat × Int)) (q : Nat) (f : Frame) (x : Result) (s : State) : State :=
  let s1 := onFrame q f.number (fun g => { g with room := g.room - 8 }) s
  consumers q x (slowCheck also q x (toRing f (recordBytes x.value x.ch x.flags x.hold) s1))

/-- The next entry of the frame; the frame completes with its last record (R330). -/
def nextEntry (q : Nat) (f : Frame) (s : State) : State :=
  if descCount f.desc ≤ f.next + 1 then frameEnd q s else onFrame q f.number (fun g => { g with next := f.next + 1 }) s

/-- The result of an entry's conversions on one of its channels, with the limits that come into force for it (R355). -/
def freshResult (conv ch side : Nat) (f : Frame) (js : List Job) (codes : List Int) (s : State) : Result × State :=
  let s1 := takeOccAt .result ch s
  (resultOf s1 ch (entryPga conv f) codes (originOf s1 conv ch side f js), s1)

/-- The conversions of an entry have given their record. -/
def dropJobs (conv q : Nat) (f : Frame) (s : State) : State :=
  onConv conv (fun c => { c with slots := c.slots.map (fun js =>
    js.filter (fun j => !(j.src == q && j.frame == f.number && j.entry == f.next))) }) s

/-- The records of an entry are produced: one on SWA, one per channel on SWB, position 0 first (R342). -/
def entryRecords (q conv : Nat) (f : Frame) (js : List Job) (codes pair : List Int) (also : List (Nat × Nat × Int)) (s : State) : State :=
  let e := descEntry f.desc f.next
  let (x, s1) := freshResult conv (byteAt e 0) 0 f js codes (dropJobs conv q f s)
  if conv = 0 ∨ byteAt e 1 = 0xFF then takeResult also q f x (spentFresh conv (js.flatMap (fun j => j.slices.take 1)) s1)
  else
    let (y, s2) := freshResult conv (byteAt e 1) 1 f js pair s1
    let s3 := spentFresh conv (js.flatMap (fun j => j.slices)) s2
    keepPair q x y (energyPair q x y (takeResult also q f y (takeResult [] q f x s3)))

/-- The raw codes that a record of an entry needs: one for each oversample, and on SWB one for each of the pair. -/
def codesOk (conv : Nat) (f : Frame) (codes pair : List Int) : Bool :=
  let e := descEntry f.desc f.next
  codes.length == byteAt e 2 && pair.length == (if conv = 0 ∨ byteAt e 1 = 0xFF then 0 else byteAt e 2)

/-- RESULT_RECORD: the next record of the oldest frame of a sequence, once its conversions have ended (R342). -/
def resultRecord (q : Nat) (codes pair : List Int) (also : List (Nat × Nat × Int)) (s0 : State) : State :=
  let s := catchUp s0
  match (seqOf s q).frames with
  | [] => s
  | f :: _ =>
    let conv := seqConv s q
    let js := entryJobs s conv q f
    if codesOk conv f codes pair && js.length == codes.length && js.all (fun j => decide (j.ends ≤ cycle s)) &&
        tsDecided s (byteAt (descEntry f.desc f.next) 0) js then
      nextEntry q f (entryRecords q conv f js codes pair also s)
    else s

end Sys2Proof.Machine
end

