-- ==== Sys2Proof/Machine/Banks.lean ====
section
/-! DEFINITION. Scratchpad banks: rights, handover, retirement, parity, the alias windows, the atomic operations, the memory
window and the BANK commands (R486 to R515, R626 to R629, R706 to R708). -/

namespace Sys2Proof.Machine

/-! ### Rights -/

/-- A tenant may read a bank by bank.share_read (R492). -/
def shareRead (s : State) (code k : Nat) : Bool :=
  decide (code < 64) && decide (8 ≤ k) && decide (k ≤ 51) && (bank s k).st != .free && bit (pn s 0x0C01 k) code

/-- The rights in a bank as an access meets them: one that was accepted before the handover that drains the bank has those of the old owner
(R506). -/
def rightsOf (early : Bool) (b : Bank) : Bank :=
  if early && b.st == .draining then { b with owner := b.oldOwner, delegates := b.oldDelegates } else b

/-- A DMA channel's ring span and control block (Table BNK.3). -/
def dmaSpan (s : State) (code a : Nat) : Bool :=
  let r := ringOf s (code - 0x83)
  decide (0x83 ≤ code) && decide (code ≤ 0x86) && r.attached &&
    ((decide (spBase + r.bank * 0x1000 ≤ a) && decide (a < spBase + r.bank * 0x1000 + r.size)) ||
     (decide (r.cb ≤ a) && decide (a < r.cb + 16)))

/-- The write right of Table BNK.3 at an address: writes, alias writes and atomics. -/
def writeRight (s : State) (early : Bool) (code a : Nat) : Bool :=
  let k := bankAt a
  let b := rightsOf early (bank s k)
  if 0x83 ≤ code ∧ code ≤ 0x86 then dmaSpan s code a
  else b.owner == code || b.delegates.contains code || (code == 0x80 && decide (k ≤ 7)) || ((code == 0x87 || code == 0x81) && k == 7)

/-- The read right of Table BNK.3 at an address. -/
def readRight (s : State) (early : Bool) (code a : Nat) : Bool :=
  writeRight s early code a || shareRead s code (bankAt a) || code == 0x80 || code == 0x87

/-- A fabric address of the scratchpad (R486). -/
def inScratch (a : Nat) : Bool := decide (spBase ≤ a) && decide (a < spBase + 0x40000)

/-- The deny count of a bank rises (R491, R502). -/
def denyBank (k : Nat) (s : State) : State := onBank k (fun b => { b with deny := satAdd 0xFFFFFFFF b.deny 1 }) s

/-- The fabric error count rises (R487). -/
def fabricError (s : State) : State := { s with fab := { s.fab with errors := satAdd 0xFFFFFFFF s.fab.errors 1 } }

/-- The fabric grants an access, or refuses it with the status that names why and counts it (R490, R491); `early` says that it was accepted
before the handover that drains the bank (R506). -/
def gate (early : Bool) (code : Nat) (write : Bool) (a : Nat) (s0 : State) : Option Nat × State :=
  let s := touchBank (bankAt a) s0
  let b := bank s (bankAt a)
  if b.st = .retired then (some stBankRetired, denyBank (bankAt a) s)
  else if b.st != .testing && (if write then writeRight s early code a else readRight s early code a) then (none, s)
  else (some stBankNotOwner, denyBank (bankAt a) s)

/-! ### Parity (R508) -/

/-- A parity error in a bank (Table BNK.5). Banks 0 to 7: BANK_FAIL, and a core reset is due. Banks 8 to 51: BANK_FAIL with the
bank as its value, RETIRED with cause PARITY, no owner, no delegate; rings on it fail, and a handover under way is abandoned
(R353, R508). Banks 52 to 63 stay in service. -/
def parityError (k : Nat) (s : State) : State :=
  let s1 := onBank k (fun b => { b with parity := satAdd 0xFFFF b.parity 1 }) s
  if k < 8 then
    let s2 := raiseGlobal 0x25 0xFF (some (k : Int)) s1
    { s2 with core := { s2.core with resetDue := some .bankFail } }
  else if k ≤ 51 then
    let s2 := onBank k (fun b => { b with st := .retired, cause := 1, owner := 0xFF, delegates := [], retiring := false }) (failRings k s1)
    raiseGlobal 0x25 0xFF (some (k : Int)) s2
  else s1

/-- A read of bytes checks their parity: `bad` is an upset that it finds, beside those that earlier ones have left (R507, R508). -/
def parityRead (bad : Bool) (a n : Nat) (s : State) : Bool × State :=
  let s1 := upset bad a s
  if flipped s1 a n then (true, parityError (bankAt a) s1) else (false, s1)

/-- A parity error makes the access fail: banks 8 to 51 (Table BNK.5). -/
def parityFails (k : Nat) : Bool := decide (8 ≤ k) && decide (k ≤ 51)

/-! ### Words -/

/-- The word at an address. -/
def word (s : State) (a : Nat) : Nat := readNat s a 4

/-- A write to RD of an attached ring's control block by a consumer: the DMA follows, and FULL with it (R347, R349). -/
def followRd (a n : Nat) (s : State) : State :=
  (List.range 4).foldl (fun t d =>
    let r := ringOf t d
    if r.attached && decide (a < r.cb + 8) && decide (r.cb + 4 < a + n) then putControl d (ringSync d t) else t) s

/-- A master other than the DMA writes bytes of a bank. -/
def bankPut (a : Nat) (bs : Bytes) (s : State) : State := followRd a bs.length (bankBytes a bs s)

/-- Write a word. -/
def putWord (a w : Nat) (s : State) : State := bankPut a (leBytes 4 w) s

/-- The new word of an atomic operation; none for an invalid code (Table BNK.4). -/
def atomicWord (op old opnd : Nat) : Option Nat :=
  match op with
  | 1 => some ((old + opnd) % 0x100000000)
  | 2 => some (opnd % 0x100000000)
  | 3 => some (old ||| opnd % 0x100000000)
  | 4 => some (old &&& (0xFFFFFFFF - opnd % 0x100000000))
  | _ => none

/-- An atomic on a granted word: its parity is checked, then the new word is written; the answer is the old word, none where a
parity error fails the access (R504, R507, R508). -/
def atomicDo (op a opnd : Nat) (parityBad : Bool) (s : State) : Option Nat × State :=
  let p := parityRead parityBad a 4 s
  if p.1 && parityFails (bankAt a) then (none, p.2)
  else (some (word s a), putWord a ((atomicWord op (word s a) opnd).getD (word s a)) p.2)

/-! ### Accesses: rights, arbitration and the hold of a drain (R39, R491, R499, R506) -/

/-- An access with an owner code: granted after arbitration, or refused. The accesses that other masters make at the bank in the same cycle
are `ar`'s; none where the arbiter has granted this one already. -/
def access (ar : Option (List (Nat × Bool))) (early : Bool) (m : Nat) (atomic : Bool) (code : Nat) (write : Bool) (a : Nat) (s : State) :
    Option Nat × State :=
  match gate early code write a s with
  | (none, s1) => (none, match ar with | some q => arbitrate (bankAt a) m atomic q s1 | none => s1)
  | x => x

/-- A draining bank holds an access of its new owner, but for one that it had accepted before (R506). -/
def heldBack (s : State) (early : Bool) (code : Nat) (a : Nat) : Bool :=
  !early && (bank s (bankAt a)).st == .draining && (bank s (bankAt a)).owner == code

/-- A bank takes an access of its new owner to hold it; a master has two places in the queue (R499, R506). -/
def holdAccess (k m : Nat) (x : Access) (s : State) : State :=
  let free := decide (((bank s k).held.filter (fun h => h.master == m && h.at_.isSome)).length < 2)
  onBank k (fun b => { b with held := b.held ++ [{ access := x, master := m, at_ := if free then some s.clk.us else none }] }) s

/-- The master of a port's bridge (Table ARC.3). -/
def bridgeOf (p : Nat) : Nat := 8 + p

/-- The master that carries an owner code: a master's own, or the bridge whose port is bound to the tenant; else the core (Table ARC.3,
R489). -/
def masterOf (s : State) (code : Nat) : Nat :=
  if 0x80 ≤ code then code - 0x80
  else
    match (List.range 4).find? (fun p => (port s p).bound == some code) with
    | some p => bridgeOf p
    | none => 0

/-- A master is in reset, and the fabric grants it nothing new (R39, Table ARC.3). -/
def masterReset (s : State) (m : Nat) : Bool :=
  let core := s.core.run == .inReset || s.core.run == .heldByPin
  if m = 0 then core else if 8 ≤ m then core || (port s (m - 8)).inReset else false

/-! ### Alias windows (R503) -/

/-- An alias write as the bank carries it out. -/
def aliasRun (ar : Option (List (Nat × Bool))) (early : Bool) (op owner a data : Nat) (parityBad : Bool) (s : State) : State :=
  match access ar early (masterOf s owner) true owner true a s with
  | (none, s1) => (atomicDo op a data parityBad s1).2
  | (some _, s1) => s1

/-- The alias window of an address: none where it lies in no window. -/
def aliasBase (address : Nat) : Option Nat := [0x21000000, 0x22000000, 0x23000000].find? (fun b => decide (b ≤ address) && decide (address < b + 0x40000))

/-- A read of an alias window returns zero and has no effect; elsewhere this gives none (R503). -/
def aliasRead (address : Nat) (s : State) : Option Nat × State := ((aliasBase address).map (fun _ => 0), s)

/-- A write to an alias window at `base`, carried out with an owner code as the atomic `op`; `early` says that a bank that drains had accepted it
before (R506). -/
def aliasWrite (base op owner address data : Nat) (parityBad early : Bool) (rivals : List (Nat × Bool)) (s : State) : State :=
  if masterReset s (masterOf s owner) then s
  else if address < base ∨ base + 0x40000 ≤ address ∨ address % 4 ≠ 0 then fabricError s
  else
    let a := address - base + spBase
    if heldBack s early owner a then holdAccess (bankAt a) (masterOf s owner) (.aliasWrite op owner a data parityBad) s
    else aliasRun (some rivals) early op owner a data parityBad s

/-- ALIAS_BIT_SET. -/
def aliasBitSet (owner address data : Nat) (parityBad early : Bool) (rivals : List (Nat × Bool)) (s : State) : State :=
  aliasWrite 0x21000000 3 owner address data parityBad early rivals s

/-- ALIAS_BIT_CLEAR. -/
def aliasBitClear (owner address data : Nat) (parityBad early : Bool) (rivals : List (Nat × Bool)) (s : State) : State :=
  aliasWrite 0x22000000 4 owner address data parityBad early rivals s

/-- ALIAS_ATOMIC_ADD. -/
def aliasAtomicAdd (owner address data : Nat) (parityBad early : Bool) (rivals : List (Nat × Bool)) (s : State) : State :=
  aliasWrite 0x23000000 1 owner address data parityBad early rivals s

/-! ### The memory window and ATOP (R598, R626 to R629) -/

/-- A window or ATOP access was refused or failed: its cause, COUNT and IRQ_STATUS.WIN_ERR (R628). -/
def winError (p : Nat) (f : Port → Port) (s : State) : State :=
  setIrq p irqWinErr (onPort p (fun x => f { x with winCount := satAdd 255 x.winCount 1 }) s)

/-- The WIN_STATUS field of a refusal (Table HST.8). -/
def winCause (st : Nat) (x : Port) : Port :=
  if st = stBankRetired then { x with winRetired := true }
  else if st = stHardware then { x with winParity := true }
  else { x with winDenied := true }

/-- The window tenant of a port, none while VALID or READY is clear (R598, R626). -/
def windowTenant (s : State) (p : Nat) : Option Nat := if (port s p).ready then (port s p).bound else none

/-- An access of the window at an address, with the tenant's code: the cause of a refusal is recorded. -/
def windowGate (p : Nat) (ar : Option (List (Nat × Bool))) (early : Bool) (code : Option Nat) (write : Bool) (a : Nat) (s : State) : Bool × State :=
  match code with
  | none => (false, winError p (fun x => { x with winUnbound := true }) s)
  | some n =>
    match access ar early (bridgeOf p) false n write a s with
    | (none, s1) => (true, s1)
    | (some st, s1) => (false, winError p (winCause st) s1)

/-- The fabric address behind a window offset (R626). -/
def windowAddr (s : State) (p off : Nat) : Nat := spBase + (port s p).winBank % 64 * 0x1000 + off % 0x1000

/-- Write `n` bytes through the window as one access. -/
def windowPut (p : Nat) (ar : Option (List (Nat × Bool))) (early : Bool) (code : Option Nat) (a : Nat) (bs : Bytes) (s : State) : State :=
  match windowGate p ar early code true a s with
  | (true, s1) => bankPut a bs s1
  | (false, s1) => s1

/-- The bytes of a transfer, an aligned group of four as one access, every other byte alone (R627). -/
def windowWrites (p : Nat) (early : Bool) (code : Option Nat) : Nat → Option (List (Nat × Bool)) → Nat → Bytes → State → State
  | 0, _, _, _, s => s
  | _, _, _, [], s => s
  | fuel + 1, ar, a, b :: bs, s =>
    let next := ar.map (fun _ => [])
    if a % 4 = 0 ∧ 3 ≤ bs.length then windowWrites p early code fuel next (a + 4) (bs.drop 3) (windowPut p ar early code a (b :: bs.take 3) s)
    else windowWrites p early code fuel next (a + 1) bs (windowPut p ar early code a [b] s)

/-- Read one word through the window; a refused read returns zero bytes, and the bytes of one that meets a parity error are
open (R627, R628; assumption 35). -/
def windowWord (p : Nat) (ar : Option (List (Nat × Bool))) (early : Bool) (code : Option Nat) (a : Nat) (bad : Bool) (s : State) : Nat × State :=
  match windowGate p ar early code false a s with
  | (false, s1) => (0, s1)
  | (true, s1) =>
    let q := parityRead bad a 4 s1
    if q.1 then
      let d := drawFree q.2
      ((d.1 % 0x100000000).toNat, winError p (winCause stHardware) d.2)
    else (word q.2 a, q.2)

/-- The words of a read, in ascending order, counted from `i`; an upset has reached those of `bad`. -/
def windowWords (p : Nat) (early : Bool) (code : Option Nat) (bad : List Nat) :
    List Nat → Nat → Option (List (Nat × Bool)) → State → Bytes × State
  | [], _, _, s => ([], s)
  | a :: as, i, ar, s =>
    let w := windowWord p ar early code a (bad.contains i) s
    let r := windowWords p early code bad as (i + 1) (ar.map (fun _ => [])) w.2
    (leBytes 4 w.1 ++ r.1, r.2)

/-- A transfer through the window; a read leaves its bytes on the port. -/
def windowRun (p : Nat) (ar : Option (List (Nat × Bool))) (early : Bool) (code : Option Nat) (write : Bool) (a n : Nat) (data : Bytes)
    (parityBad : List Nat) (s : State) : State :=
  if write then windowWrites p early code n ar a (data.take n) s
  else
    let first := a / 4 * 4
    let ws := (List.range ((a + n - first + 3) / 4)).map (fun j => first + 4 * j)
    let r := windowWords p early code parityBad ws 0 ar s
    onPort p (fun x => { x with busOut := (r.1.drop (a - first)).take n }) r.2

/-- MEMORY_WINDOW_ACCESS: ports 1 and 3 read zero and ignore writes (R580, R626). `parityBad` are the words of a read that an upset has reached,
and `early` says that a bank that drains had accepted the access before (R506). -/
def memoryWindowAccess (p : Nat) (write : Bool) (offset count : Nat) (data : Bytes) (parityBad : List Nat) (early : Bool)
    (rivals : List (Nat × Bool)) (s : State) : State :=
  if offset < 0x1000 ∨ 0x1FFF < offset ∨ 3 < p then s
  else
    let n := min (if write then data.length else count) (0x2000 - offset)
    if p % 2 = 1 then (if write then s else onPort p (fun x => { x with busOut := zeros n }) s)
    else
      let a := windowAddr s p offset
      match (windowTenant s p).filter (fun c => heldBack s early c a) with
      | some c => holdAccess (bankAt a) (bridgeOf p) (.window p c write a n data parityBad) s
      | none => windowRun p (some rivals) early (windowTenant s p) write a n data parityBad s

/-- The last ATOP was refused or failed: ATOP_RESULT reads 0 (Table HST.8). -/
def atopFail (f : Port → Port) (p : Nat) (s : State) : State :=
  winError p (fun x => f { x with atopErr := true, atopResult := 0, atopBusy := false }) s

/-- An ATOP operation as the bank carries it out. -/
def atopRun (ar : Option (List (Nat × Bool))) (early : Bool) (p code op a opnd : Nat) (parityBad : Bool) (s : State) : State :=
  match access ar early (bridgeOf p) true code true a s with
  | (some st, s1) => atopFail (winCause st) p s1
  | (none, s1) =>
    match atomicDo op a opnd parityBad s1 with
    | (some old, s2) => onPort p (fun x => { x with atopResult := BitVec.ofNat 32 old, atopErr := false, atopBusy := false }) s2
    | (none, s2) => atopFail (winCause stHardware) p s2

/-- A write to ATOP_CTRL (R629): it completes in the command, so that ATOP_BUSY is clear again after it, unless the bank drains and had not accepted it
before. -/
def atop (op p : Nat) (parityBad early : Bool) (rivals : List (Nat × Bool)) (s : State) : State :=
  let a := (port s p).atopAddr.toNat
  if 3 < p ∨ (port s p).atopBusy = true then s
  else
    match windowTenant s p with
    | none => atopFail (fun x => { x with winUnbound := true }) p s
    | some n =>
      if op = 0 ∨ 4 < op then atopFail id p s
      else if a % 4 ≠ 0 ∨ inScratch a = false then atopFail id p (fabricError s)
      else if heldBack s early n a then
        holdAccess (bankAt a) (bridgeOf p) (.atop p n op a (port s p).atopOpnd.toNat parityBad) (onPort p (fun x => { x with atopBusy := true }) s)
      else atopRun (some rivals) early p n op a (port s p).atopOpnd.toNat parityBad s

/-- ATOP_ADD. -/
def atopAdd (p : Nat) (parityBad early : Bool) (rivals : List (Nat × Bool)) (s : State) : State := atop 1 p parityBad early rivals s

/-- ATOP_SWAP. -/
def atopSwap (p : Nat) (parityBad early : Bool) (rivals : List (Nat × Bool)) (s : State) : State := atop 2 p parityBad early rivals s

/-- ATOP_OR. -/
def atopOr (p : Nat) (parityBad early : Bool) (rivals : List (Nat × Bool)) (s : State) : State := atop 3 p parityBad early rivals s

/-- ATOP_AND_NOT. -/
def atopAndNot (p : Nat) (parityBad early : Bool) (rivals : List (Nat × Bool)) (s : State) : State := atop 4 p parityBad early rivals s

/-! ### The DMA (R346, R349, R353) -/

/-- RING_RECORD_WRITE: the DMA of a channel writes the oldest record that waits. Its read of RD may meet a parity error in the control
block's bank: the access fails the ring, and the bank is handled (Table BNK.5). -/
def ringRecordWrite (d : Nat) (parityBad : Bool) (rivals : List (Nat × Bool)) (s : State) : State :=
  let r := ringOf s d
  if r.attached && !r.queue.isEmpty then
    let p := parityRead parityBad (r.cb + 4) 4 s
    if p.1 then ringFailed d p.2 else writeQueued d rivals p.2
  else writeQueued d rivals s

/-! ### The core's accesses for tenants (R489, R707) -/

/-- A range of whole words within one bank (R707). -/
def wordsRange (a n : Nat) : Bool :=
  a % 4 == 0 && n % 4 == 0 && decide (4 ≤ n) && decide (n ≤ 240) && inScratch a && decide (bankAt a = bankAt (a + n - 1))

/-- What a bank command's environment says of the bank: a number from 0 up is a word that an upset has reached, and −1 − n is an access that
master n / 2 makes in the same cycle, an atomic where n is odd. -/
def envRivals (env : List Int) : List (Nat × Bool) :=
  (env.filter (fun v => decide (v < 0))).map (fun v => ((-1 - v).toNat / 2, (-1 - v).toNat % 2 == 1))

/-- Read words in ascending order with a tenant's code; `bad` are the word indices that an upset has reached. -/
def bankReads (n a : Nat) (bad : List Int) : Nat → Nat → Option (List (Nat × Bool)) → State → Nat × State
  | 0, _, _, s => (stOk, s)
  | m + 1, i, ar, s =>
    match access ar false 0 false n false (a + 4 * i) s with
    | (some st, s1) => (st, s1)
    | (none, s1) =>
      let p := parityRead (bad.contains (i : Int)) (a + 4 * i) 4 s1
      if p.1 then (stHardware, p.2) else bankReads n a bad m (i + 1) (ar.map (fun _ => [])) p.2

/-- BANK_READ's words: status, answer, state. -/
def bankReadRun (ar : Option (List (Nat × Bool))) (r : Req) (pl : Bytes) (s : State) : Nat × Bytes × State :=
  let a := fieldAt pl 0 4
  let n := byteAt pl 4
  match bankReads r.tenant a r.env (n / 4) 0 ar s with
  | (0, s1) => (stOk, bytesAt pl 0 5 ++ zeros 1 ++ readBytes s1 a n, s1)
  | (st, s1) => (st, [], s1)

/-- Write words in ascending order, none at or after the one that fails (R707). -/
def bankWrites (n : Nat) : Nat → Nat → Bytes → Option (List (Nat × Bool)) → State → Nat × State
  | 0, _, _, _, s => (stOk, s)
  | m + 1, a, bs, ar, s =>
    match access ar false 0 false n true a s with
    | (some st, s1) => (st, s1)
    | (none, s1) => bankWrites n m (a + 4) (bs.drop 4) (ar.map (fun _ => [])) (bankPut a (bs.take 4) s1)

/-- BANK_WRITE's words. -/
def bankWriteRun (ar : Option (List (Nat × Bool))) (r : Req) (pl : Bytes) (s : State) : Nat × Bytes × State :=
  let x := bankWrites r.tenant (byteAt pl 4 / 4) (fieldAt pl 0 4) (pl.drop 6) ar s
  (x.1, [], x.2)

/-- BANK_ATOMIC's operation. -/
def bankAtomicRun (ar : Option (List (Nat × Bool))) (r : Req) (pl : Bytes) (s : State) : Nat × Bytes × State :=
  let a := fieldAt pl 0 4
  match access ar false 0 true r.tenant true a s with
  | (some st, s1) => (st, [], s1)
  | (none, s1) =>
    match atomicDo (byteAt pl 4) a (fieldAt pl 8 4) (r.env.contains 0) s1 with
    | (some old, s2) => (stOk, leBytes 4 old, s2)
    | (none, s2) => (stHardware, [], s2)

/-- The bank command of a code. -/
def bankRun (ar : Option (List (Nat × Bool))) (code : Nat) (r : Req) (pl : Bytes) (s : State) : Nat × Bytes × State :=
  if code = 0x0C02 then bankReadRun ar r pl s else if code = 0x0C03 then bankWriteRun ar r pl s else bankAtomicRun ar r pl s

/-- A bank command for a tenant: at once, or held with its answer while the bank drains for that tenant (R489, R506). -/
def bankCommand (code : Nat) (r : Req) (pl : Bytes) (s : State) : Reply :=
  let a := fieldAt pl 0 4
  if heldBack s false r.tenant a then .owed (addOp (.bankAccess (bankAt a)) code r false (holdAccess (bankAt a) 0 (.command r code pl) s))
  else
    let x := bankRun (some (envRivals r.env)) code r pl s
    .done x.1 x.2.1 x.2.2

/-! ### Held accesses (R506) -/

/-- A held access is carried out, and its result goes to its requester. -/
def runHeld (k : Nat) (x : Access) (s : State) : State :=
  match x with
  | .window p c write a n data bad => windowRun p none false (some c) write a n data bad s
  | .aliasWrite op owner a data bad => aliasRun none false op owner a data bad s
  | .atop p c op a opnd bad => atopRun none false p c op a opnd bad s
  | .command r code pl =>
    let y := bankRun none code r pl s
    completeOp (.bankAccess k) y.1 y.2.1 y.2.2

/-- The held accesses are granted in arbitration order, one after the other (R499, R501, R506). -/
def drainHeld (k : Nat) : Nat → Nat → State → State
  | 0, _, s => s
  | f + 1, c, s =>
    let p := arbPick (arbWeight s) k (fun m => (bank s k).held.any (fun h => h.master == m)) (bank s k)
    let s1 := onBank k (fun _ => p.2) s
    match p.1.bind (fun m => (bank s k).held.find? (fun h => h.master == m)) with
    | some h =>
      let w := match h.at_ with | some t => 60 * (s.clk.us - t) + c | none => c
      drainHeld k f (c + 1) (runHeld k h.access (countGrant h.master w (decide (0 < c)) (onBank k (fun b => { b with held := b.held.erase h }) s1)))
    | none => s1

/-- Every access that a bank holds is carried out. -/
def drainAll (k : Nat) (s : State) : State := drainHeld k ((bank s k).held.length + 1) 0 s

/-- The bridge of a port is reset: the results of its held accesses are lost ("When a port reset meets a window access"). -/
def losePort (p : Nat) (h : Held) : Held :=
  match h.access with
  | .window q c w a n d b => if q = p then { h with access := .window 4 c w a n d b } else h
  | .atop q c op a o b => if q = p then { h with access := .atop 4 c op a o b } else h
  | _ => h

/-- The held accesses after the reset of a port's bridge. -/
def loseBridge (p : Nat) (s : State) : State :=
  { s with fab := { s.fab with banks := s.fab.banks.map (fun b => { b with held := b.held.map (losePort p) }) } }

/-- An access of a bank command, which a core reset cuts. -/
def Access.ofCommand : Access → Bool
  | .command _ _ _ => true
  | _ => false

/-- The held accesses after a core reset: those of bank commands are cut, and every bridge is reset ("When a core reset meets a
handover"). -/
def loseHeld (s : State) : State :=
  let s1 := (List.range 4).foldl (fun t p => loseBridge p t) s
  { s1 with fab := { s1.fab with banks := s1.fab.banks.map (fun b => { b with held := b.held.filter (fun h => !h.access.ofCommand) }) } }

/-! ### Handover (R495 to R498, R506) -/

/-- Banks that count against a tenant's quota (R496). -/
def banksOf (s : State) (n : Nat) : Nat := ((List.range 64).filter (fun k => (bank s k).owner == n && (bank s k).st != .retired)).length

/-- A further bank would exceed the tenant's quota (R496). -/
def overQuota (s : State) (n k : Nat) : Bool := (bank s k).owner != n && decide (pn s 0x0206 n ≤ banksOf s n)

/-- The fabric accepts a handover: DRAINING under the new owner; delegations end (R494, R506). -/
def handOver (k new action : Nat) (s : State) : State :=
  onBank k (fun b => { b with st := .draining, oldOwner := b.owner, oldDelegates := b.delegates, owner := new, delegates := [], action := action,
                              retiring := false }) s

/-- Post BANK_HANDED to the old and the new owner (Table CMD.17). -/
def postHanded (k old new action : Nat) (s : State) : State :=
  let arg := old ||| new <<< 8 ||| action <<< 16
  let ns := (if old = new then [old] else [old, new]).filter (fun n => decide (n < 64))
  ns.foldl (fun t n => postOwn n 0x0C01 0 k arg t) s

/-- HANDOVER_DRAIN_END: the last access accepted under the old owner completes, and those that the new owner made are granted (R506). A bank
that a parity error has retired meanwhile refuses them ("When a parity error meets a drain"). -/
def handoverDrainEnd (k : Nat) (s : State) : State :=
  let b := bank s k
  if b.st = .draining then
    if b.retiring then onBank k (fun x => { x with st := .retired, cause := 3, owner := 0xFF, retiring := false }) s
    else if b.action = 2 then onBank k (fun x => { x with st := .zeroing }) s
    else drainAll k (postHanded k b.oldOwner b.owner b.action (onBank k (fun x => { x with st := .owned }) s))
  else drainAll k s

/-- Every word of a bank becomes zero (R497, R511). -/
def zeroBank (k : Nat) (s : State) : State :=
  let t := clearBytes (spBase + k * 0x1000) 0x1000 s
  { t with fab := { t.fab with flips := t.fab.flips.filter (fun a => bankAt a != k) } }

/-- BANK_ZEROING_DONE: the released bank becomes FREE (R497, R506). -/
def bankZeroingDone (k : Nat) (s : State) : State :=
  let b := bank s k
  if b.st = .zeroing then
    postHanded k b.oldOwner 0xFF b.action (zeroBank k (onBank k (fun x => { x with st := .free, owner := 0xFF }) s))
  else s

/-- The spare columns of a bank that neither the fuses use nor the test finds failing (R510). -/
def freeSpares (b : Bank) (failing : List Nat) : List Nat :=
  [36, 37].filter (fun c => !(b.fuses.any (fun f => f.2 == c)) && !failing.contains c)

/-- The columns that a test must map: those that fail and have no fused spare, and those whose fused spare fails (R510). -/
def toMap (b : Bank) (failing : List Nat) : List Nat :=
  (List.range 36).filter (fun c =>
    match b.fuses.find? (fun f => f.1 == c) with
    | some f => failing.contains f.2
    | none => failing.contains c)

/-- The failing columns do not outnumber the free spares (R512). -/
def bistPasses (b : Bank) (failing : List Nat) : Bool := decide ((toMap b failing).length ≤ (freeSpares b failing).length)

/-- A test ends: its mapping holds until the next one (R510). -/
def bistMap (k : Nat) (failing : List Nat) (s : State) : State :=
  onBank k (fun b => { b with mapped := (toMap b failing).zip (freeSpares b failing) }) s

/-- BANK_BIST_DONE: the test of a returning bank ends with the columns that failed (R510 to R514). -/
def bankBistDone (k : Nat) (failing : List Nat) (s0 : State) : State :=
  let s := bistMap k failing s0
  if (bank s0 k).st ≠ .testing then s0
  else
    if bistPasses (bank s0 k) failing then
      completeOp (.bankReturn k) stOk [] (zeroBank k (onBank k (fun x => { x with st := .free, cause := 0, owner := 0xFF, delegates := [] }) s))
    else
      completeOp (.bankReturn k) stHardware []
        (raiseGlobal 0x25 0xFF (some (k : Int)) (zeroBank k (onBank k (fun x => { x with st := .retired, cause := 2 }) s)))

/-- Firmware's claims at FW_READY (R498). -/
def defaultClaims (s : State) : State :=
  (List.range 64).foldl (fun t n =>
    ((List.range 44).map (fun j => j + 8)).foldl (fun u k =>
      if (bank u k).st == .free && pn u 0x0C02 k == n && !overQuota u n k then handOver k n 0 u else u) t) (takeOcc .fwReady s)

/-! ### Commands (Table CMD.13) -/

/-- State codes (Table BNK.2). -/
def BankSt.code : BankSt → Nat
  | .free => 0
  | .owned => 1
  | .draining => 2
  | .zeroing => 3
  | .retired => 4
  | .testing => 5
  | .fixed => 6

/-- BANK_STATUS of a bank. -/
def bankReport (s : State) (k : Nat) : Bytes :=
  let b := bank s k
  leBytes 1 k ++ leBytes 1 b.st.code ++ leBytes 1 b.owner ++ leBytes 1 b.cause ++ leBytes 1 (b.delegates.getD 0 0xFF) ++
    leBytes 1 (b.delegates.getD 1 0xFF) ++ zeros 2 ++ leBytes 8 (if 8 ≤ k ∧ k ≤ 51 then pn s 0x0C01 k else 0) ++ leBytes 4 b.deny ++
    leBytes 2 b.parity ++ zeros 2

/-- BANK_STATUS of a master. -/
def masterReport (s : State) (m : Nat) : Bytes :=
  leBytes 1 m ++ zeros 3 ++ leBytes 4 (vget s.fab.conflicts m 0) ++ leBytes 8 (vget s.fab.waits m 0) ++ leBytes 4 s.fab.errors

/-- The CLEAR option zeroes the counts that the answer names (R502). -/
def clearCounts (kind ix : Nat) (s : State) : State :=
  if kind = 0 then onBank ix (fun b => { b with deny := 0, parity := 0 }) s
  else { s with fab := { s.fab with errors := 0, conflicts := vset s.fab.conflicts ix 0, waits := vset s.fab.waits ix 0 } }

def bankStatusBody (_r : Req) (pl : Bytes) (s : State) : Reply :=
  let k := byteAt pl 0
  let ix := byteAt pl 1
  let out := if k = 0 then bankReport s ix else masterReport s ix
  .done stOk out (if bit (byteAt pl 2) 0 then clearCounts k ix s else s)

/-- BANK_STATUS (R502, R706). -/
def cmdBankStatus : CmdDef :=
  { code := 0x0C00, caps := [capStatus], allow := fun r b => !bit (byteAt b 2) 0 || r.tenant == 0, len := lenIs 3,
    range := fun b => byteAt b 2 < 2 && ((byteAt b 0 == 0 && decide (byteAt b 1 < 64)) || (byteAt b 0 == 1 && decide (byteAt b 1 < 12))),
    nv := false, modes := anyMode, body := bankStatusBody }

/-- The fixed banks (Table BNK.1). -/
def fixedBank (k : Nat) : Bool := decide (k < 8) || decide (51 < k)

def bankHandoverBody (r : Req) (pl : Bytes) (s0 : State) : Reply :=
  let s := takeOcc .claim s0
  let k := byteAt pl 0
  let act := byteAt pl 1
  let n := byteAt pl 2
  let b := bank s k
  let mine := b.owner == r.tenant || r.tenant == 0
  if fixedBank k then refuse stDenied s0
  else if b.st = .retired then refuse stBankRetired s0
  else if b.st = .draining ∨ b.st = .zeroing ∨ b.st = .testing then refuse stBusy s0
  else if act = 0 then
    if b.st ≠ .free then refuse stBankNotOwner s0
    else if overQuota s r.tenant k then refuse stDenied s0
    else .done stOk [] (handOver k r.tenant 0 s)
  else if !mine then refuse stBankNotOwner s0
  else if ringUses s k then refuse stBusy s0
  else if act = 1 then
    if overQuota s n k then refuse stDenied s0 else .done stOk [] (handOver k n 1 s)
  else if act = 2 then .done stOk [] (handOver k 0xFF 2 s)
  else if b.st = .free then refuse stBankNotOwner s0
  else if act = 3 then
    if delegatesFull s n k then refuse stDenied s0 else .done stOk [] (delegate n s k)
  else .done stOk [] (onBank k (fun x => { x with delegates := x.delegates.erase n }) s)

/-- BANK_HANDOVER (R354, R493 to R497, R708). -/
def cmdBankHandover : CmdDef :=
  { code := 0x0C01, caps := [capBanks], allow := allowAll, len := lenIs 3,
    range := fun b => decide (byteAt b 0 < 64) && decide (byteAt b 1 < 5) &&
      (decide (byteAt b 2 < 64) || (byteAt b 2 == 0xFF && (byteAt b 1 == 0 || byteAt b 1 == 2))),
    nv := false, modes := anyMode, body := bankHandoverBody }

/-- BANK_READ (R489, R707). -/
def cmdBankRead : CmdDef :=
  { code := 0x0C02, caps := [capBanks], allow := allowAll, len := lenIs 5, range := fun b => wordsRange (fieldAt b 0 4) (byteAt b 4),
    nv := false, modes := anyMode, body := bankCommand 0x0C02 }

/-- BANK_WRITE (R489, R707). -/
def cmdBankWrite : CmdDef :=
  { code := 0x0C03, caps := [capBanks], allow := allowAll, len := fun b => decide (6 ≤ b.length) && b.length == 6 + byteAt b 4,
    range := fun b => wordsRange (fieldAt b 0 4) (byteAt b 4) && byteAt b 5 == 0, nv := false, modes := anyMode, body := bankCommand 0x0C03 }

/-- BANK_ATOMIC (R489, R504). -/
def cmdBankAtomic : CmdDef :=
  { code := 0x0C04, caps := [capBanks], allow := allowAll, len := lenIs 12,
    range := fun b => fieldAt b 0 4 % 4 == 0 && inScratch (fieldAt b 0 4) && decide (1 ≤ byteAt b 4) && decide (byteAt b 4 ≤ 4) &&
      fieldAt b 5 3 == 0, nv := false,
    modes := anyMode, body := bankCommand 0x0C04 }

def bankRetireBody (r : Req) (pl : Bytes) (s : State) : Reply :=
  let k := byteAt pl 0
  let b := bank s k
  if fixedBank k then refuse stDenied s
  else if bit (byteAt pl 1) 0 then
    if b.st = .retired then .accepted (addOp (.bankReturn k) 0x0C05 r true (onBank k (fun x => { x with st := .testing }) s)) else refuse stBusy s
  else if b.st = .draining ∨ b.st = .zeroing ∨ b.st = .testing then refuse stBusy s
  else if !(b.owner == r.tenant || r.tenant == 0) then refuse stBankNotOwner s
  else if b.st = .retired then .done stOk [] (onBank k (fun x => { x with cause := 3 }) s)
  else if ringUses s k then refuse stBusy s
  else .done stOk [] (onBank k (fun x => { x with st := .draining, retiring := true, oldOwner := x.owner, oldDelegates := x.delegates,
                                                  owner := 0xFF, delegates := [] }) s)

/-- BANK_RETIRE (R354, R513, R514). -/
def cmdBankRetire : CmdDef :=
  { code := 0x0C05, caps := [capBanks], allow := fun r b => !bit (byteAt b 1) 0 || r.tenant == 0, len := lenIs 2,
    range := fun b => decide (byteAt b 0 < 64) && decide (byteAt b 1 < 2), nv := false, modes := anyMode, body := bankRetireBody }

end Sys2Proof.Machine
end

