-- ==== Sys2Proof/Machine/Tags.lean ====
section
/-! DEFINITION. The Bamard ring: sweeps, polls, break location, changes, the module image, profiles, and the tag commands
(R166 to R168, R217, R362 to R390, R647, R703). -/

namespace Sys2Proof.Machine

/-! ### Positions and records -/

/-- A position of the ring. -/
def tagPos (s : State) (t : Nat) : TagPos := vget s.tags.pos t noPos

/-- Change a position. -/
def onTag (t : Nat) (f : TagPos → TagPos) (s : State) : State := { s with tags := { s.tags with pos := vmod s.tags.pos t f } }

/-- Change the master. -/
def onTags (f : Tags → Tags) (s : State) : State := { s with tags := f s.tags }

/-- The identity in a basic payload (Table TAG.2). -/
def tagIdOf (b : Bytes) : TagId := { cls := byteAt b 0, variant := fieldAt b 1 2, serial := fieldAt b 3 3 }

/-- A basic record with a valid CRC-8 (R365, R367). -/
def recordOk (b : Bytes) : Bool := decide (9 ≤ b.length) && byteAt b 8 == crc8 (b.take 8)

/-- An extended payload with a valid CRC-8 follows the record (Table TAG.3). -/
def extOk (b : Bytes) : Bool := recordOk b && b.length == 18 && byteAt b 17 == crc8 ((b.drop 9).take 8)

/-- A record of a position arrives: it updates the position, or a bad CRC is counted (R367, R370, R371, R375). -/
def takeRecord (t : Nat) (b : Bytes) (part stub : Bool) (s : State) : State :=
  if recordOk b then
    onTag t (fun x => { x with cur := tagIdOf b, word := fieldAt b 6 2, partial_ := part, stub := stub, missing := false,
                               unreachable := false, badRun := 0 }) s
  else
    onTag t (fun x => { x with badRun := x.badRun + 1, badCount := satAdd 255 x.badCount 1,
                               unreachable := x.unreachable || decide (3 ≤ x.badRun + 1) }) s

/-- The extended payload of a position is kept. -/
def takeExt (t : Nat) (b : Bytes) (s : State) : State :=
  if extOk b then onTag t (fun x => { x with loadMask := fieldAt b 9 3, limit := toSigned 8 (byteAt b 12) }) s else s

/-- Records in ring order from position `t`; `part` marks those of a sweep that is not complete (R370). -/
def takeRecords (part : Bool) : Nat → List Bytes → State → State
  | _, [], s => s
  | t, b :: bs, s => takeRecords part (t + 1) bs (takeRecord t b part false s)

/-- The records of an aborted sweep: those with a valid CRC update their positions, which are marked PARTIAL (R370). -/
def takePartial : Nat → List Bytes → State → State
  | _, [], s => s
  | t, b :: bs, s => takePartial (t + 1) bs (if recordOk b then takeRecord t b true false s else s)

/-- The link works: tag.enable is 1, FW_READY has come, the core runs, and SHIP entry has not begun (R366, R384). -/
def tagsRun (s : State) : Bool :=
  pv s 0x0901 == 1 && s.core.fwReady && fwWorks s && s.core.shipEntry != .begun && s.core.mode != .ship

/-! ### Frames on the link (R363, R364, R369, R373) -/

/-- Half microseconds of a bit (R363). -/
def bitHalves (s : State) : Nat := if pn s 0x0907 = 1 then 1 else 2

/-- N of the nominal frame time: tags of the last complete sweep, tag.expected_count where none has completed, 8 where both are 0
(R369). -/
def frameTags (s : State) : Nat :=
  let n := s.tags.lastCount.getD (pn s 0x0903)
  if n = 0 ∧ pn s 0x0903 = 0 then 8 else n

/-- The end and the hop of an EXT poll: from BMD_B where only that end reaches the position (R376, R379). -/
def extPoll (s : State) (t : Nat) : Bool × Nat :=
  if s.tags.open_ && decide (s.tags.reachA ≤ t) then (true, s.tags.ringN - 1 - t) else (false, t)

/-- Bit times after which the frame in flight is over: 2 × F for a sweep, and the limit of its hop for a poll (R369, R370, R373). -/
def frameLimit (s : State) : Nat :=
  let poll := fun h => 2 * (152 + 20 * h)
  match s.tags.flight with
  | .idle => 0
  | .sweep => 2 * (32 + 82 * frameTags s)
  | .locA h => poll h
  | .locB h => poll h
  | .stubA h => poll h
  | .stubB h => poll h
  | .bridge => poll s.tags.reachA
  | .ext t => poll (extPoll s t).2

/-- The time of the frame in flight has passed. -/
def frameOver (s : State) : Bool := decide (frameLimit s * bitHalves s ≤ 2 * (s.clk.us - s.tags.sentAt))

/-- A POLL frame (Table TAG.1). -/
def pollFrame (hop : Nat) (ext : Bool) : Bytes :=
  let b := leBytes 1 0xB4 ++ leBytes 1 hop ++ leBytes 1 (b2n ext)
  leBytes 1 0x55 ++ leBytes 1 0xD5 ++ b ++ leBytes 1 (crc8 b)

/-- The frame that the master has sent, and whether it drives BMD_B (R364, R374, R376). -/
def sentFrame (s : State) : Option (Bool × Bytes) :=
  match s.tags.flight with
  | .idle => none
  | .sweep => some (false, leBytes 1 0x55 ++ leBytes 1 0xD5 ++ leBytes 1 0xA1 ++ leBytes 1 0xFF)
  | .locA h => some (false, pollFrame h false)
  | .locB h => some (true, pollFrame h false)
  | .stubA h => some (false, pollFrame h false)
  | .stubB h => some (true, pollFrame h false)
  | .bridge => some (false, pollFrame s.tags.reachA false)
  | .ext t => some ((extPoll s t).1, pollFrame (extPoll s t).2 true)

/-- The master sends a frame, unless the link has stopped (R384). -/
def launch (f : TagFlight) (s : State) : State :=
  onTags (fun x => if tagsRun s then { x with flight := f, sentAt := s.clk.us } else { x with flight := .idle }) s

/-! ### Profiles (R385 to R387) -/

/-- The bytes of a profile. -/
def profileBytes (s : State) (p : Nat) : Bytes := pb s 0x0906 p

/-- The rails of a profile at a position (Table TAG.7). -/
def profileRails (s : State) (p t : Nat) : List Nat :=
  let m := fieldAt (profileBytes s p) 4 3
  let m := if m = 0 then (tagPos s t).loadMask else m
  allRails.filter (fun r => bit m r)

/-- A profile matches a tag (R385). -/
def profileFits (s : State) (i : TagId) (p : Nat) : Bool :=
  let b := profileBytes s p
  byteAt b 0 != 0 && byteAt b 0 == i.cls && (!bit (byteAt b 1) 0 || fieldAt b 2 2 == i.variant)

/-- The lowest-numbered profile that matches a tag (R385). -/
def profileFor (s : State) (i : TagId) : Option Nat := (List.range 16).find? (profileFits s i)

/-- Park or unpark a rail of a profile; while a table runs, it is held (R169, R387). -/
def profilePark (park : Bool) (s : State) (r : Nat) : State :=
  if !present s r then s
  else if s.eng.run.isSome then onTags (fun x => { x with held := x.held ++ [{ rail := r, park := park }] }) s
  else if park then parkRail r s
  else (unparkRail r s).getD s

/-- What a profile holds: the trim target of its trim rail and the current limit of its AUX input (Table TAG.7). -/
def profileWrites (b : Bytes) : List PWrite :=
  (if byteAt b 8 < 24 then [{ inst := { id := 0x0605, i1 := byteAt b 8, i2 := 0 }, value := .num (fieldAt b 9 2) }] else []) ++
    (if byteAt b 11 < 16 then [{ inst := { id := 0x050E, i1 := byteAt b 11, i2 := 0 }, value := .num (fieldAt b 12 2) }] else [])

/-- A current limit that changes restarts the count of its AUX input (R243). -/
def ocRestart (i : PInst) (s : State) : State := if i.id = 0x050E then setOc i.i1 0 s else s

/-- The trim target and the current limit of a profile come into force for a position (R386, R647). -/
def holdOverlays (t p : Nat) (s : State) : State :=
  let ws := profileWrites (profileBytes s p)
  onTag t (fun x => { x with holds := ws.map (fun w => w.inst) }) (ws.foldl (fun u w => ocRestart w.inst (setOverlay w u)) s)

/-- The configured trim target and current limit come into force again (R386, R647). -/
def dropOverlays (t : Nat) (s : State) : State :=
  onTag t (fun x => { x with holds := [] }) ((tagPos s t).holds.foldl (fun u i => ocRestart i (clearOverlay i u)) s)

/-- The rails of a position's profile read over-temperature, or do not (R231, R388). -/
def noteHot (rs : List Nat) (b : Bool) (s : State) : State := rs.foldl (fun u r => onRail r (fun x => { x with otMod := b }) u) s

/-- Withdraw the profile of a position; `park` parks its rails (R380, R386). -/
def withdraw (t : Nat) (park : Bool) (s : State) : State :=
  match (tagPos s t).profile with
  | none => s
  | some p =>
    let rs := profileRails s p t
    let s1 := onTag t (fun x => { x with profile := none, lastProfile := some p }) (noteHot rs false (dropOverlays t s))
    if park then rs.foldl (profilePark true) s1 else s1

/-- Apply the profile that matches a position, if any (R385, R386). -/
def applyProfile (t : Nat) (s : State) : State :=
  match profileFor s (tagPos s t).cur with
  | none => s
  | some p =>
    let s1 := holdOverlays t p (onTag t (fun x => { x with profile := some p, lastProfile := some p }) s)
    (profileRails s1 p t).foldl (profilePark false) s1

/-- PROFILE_PARK_HELD: held parks and unparks run once no table runs (R387). -/
def profileParkHeld (s : State) : State :=
  if s.eng.run.isSome then s
  else s.tags.held.foldl (fun u h => profilePark h.park u h.rail) (onTags (fun x => { x with held := [] }) s)

/-! ### The module image (R382, R383) -/

/-- One entry of the image copy. -/
def imageEntry (x : TagPos) : Bytes := leBytes 1 x.image.cls ++ leBytes 2 x.image.variant ++ leBytes 3 x.image.serial

/-- One status byte of the image copy (Table TAG.9). -/
def imageStatus (x : TagPos) : Bytes := leBytes 1 (x.profile.getD 0x1F ||| (b2n x.imgMissing) <<< 5 ||| (b2n x.mismatch) <<< 6)

/-- Rewrite the image as a small commit, once NV_READY is set (R382, R533). -/
def writeModules (s : State) : State :=
  if s.core.nvReady && decide (6000 ≤ s.nv.resvMv) then
    let ps := s.tags.pos.toList
    onTags (fun x => { x with imaged := true }) (writeTwo tcModules (ps.flatMap imageEntry ++ ps.flatMap imageStatus) s)
  else onTags (fun x => { x with imaged := false }) s

/-- Recall one position of the image (R383). -/
def recallPos (b : Bytes) (t : Nat) : TagPos :=
  let st := byteAt b (48 + t)
  let miss := bit st 5
  let prof := if st % 32 < 16 then some (st % 32) else none
  { noPos with image := { cls := byteAt b (6 * t), variant := fieldAt b (6 * t + 1) 2, serial := fieldAt b (6 * t + 3) 3 },
               imgMissing := miss, missing := miss, mismatch := bit st 6, profile := prof, lastProfile := prof }

/-- The image is recalled with the configuration, and the profiles it names hold their values again (R168, R382, R383). -/
def recallModules (s : State) : State :=
  let b := (readTwo s tcModules).getD (zeros 48 ++ List.replicate 8 (byte 0x1F))
  let ps : Vector TagPos 8 := Vector.ofFn (fun (i : Fin 8) => recallPos b i.val)
  let cls : Vector Nat 8 := ps.map (fun x => if x.imgMissing then 0 else x.image.cls)
  let s1 := onTags (fun x => { x with pos := ps, recalled := cls, swept := false, imaged := false }) s
  (List.range 8).foldl (fun u t => match (tagPos u t).profile with
    | some p => holdOverlays t p u
    | none => u) s1

/-! ### Changes (R378 to R381) -/

/-- No module. -/
def noTag : TagId := { cls := 0, variant := 0, serial := 0 }

/-- Post TAG_CHANGE, append its record and rewrite the image (R381, R382). -/
def tagChange (t kind : Nat) (old new : TagId) (s : State) : State :=
  let x := tagPos s t
  let prof := x.profile.getD 0xFF
  let fl := bitsOf [x.partial_, x.stub]
  let s1 := post 0x0901 fl t (kind ||| old.cls <<< 8 ||| new.cls <<< 16 ||| prof <<< 24) s
  let pl := leBytes 1 t ++ leBytes 1 kind ++ leBytes 1 old.cls ++ leBytes 1 new.cls ++ leBytes 2 old.variant ++ leBytes 2 new.variant ++
    leBytes 3 old.serial ++ leBytes 3 new.serial ++ leBytes 1 prof ++ leBytes 1 fl
  writeModules (logRecord 0x07 pl s1)

/-- The slot takes another class (Table TAG.5, MISMATCH). -/
def wrongClass (s : State) (t : Nat) : Bool :=
  let c := pn s 0x0904 t
  c != 0 && (tagPos s t).cur.cls != c

/-- Park the rails of the profile that a position last held, where it holds none any more (R380). -/
def parkLast (t : Nat) (s : State) : State :=
  match (tagPos s t).profile, (tagPos s t).lastProfile with
  | none, some p => (profileRails s p t).foldl (profilePark true) s
  | _, _ => s

/-- MISMATCH: no profile, and the rails of the one last held are parked (R380). -/
def mismatchChange (t : Nat) (s : State) : State :=
  let x := tagPos s t
  let s1 := withdraw t true (parkLast t s)
  let s2 := onTag t (fun y => { y with mismatch := true, image := x.cur, imgMissing := false, waiting := none }) s1
  tagChange t 3 x.image x.cur s2

/-- REMOVED: the profile is withdrawn at once; the image keeps the identity (R379, R383). -/
def removeChange (t : Nat) (s : State) : State :=
  let x := tagPos s t
  let s1 := withdraw t (pv s 0x0905 == 1) s
  tagChange t 1 x.image noTag (onTag t (fun y => { y with imgMissing := true, waiting := none }) s1)

/-- ADDED, SWAPPED or RETURNED: a tag that answers, against its entry (Table TAG.5). -/
def changeKind (x : TagPos) : Option Nat :=
  if x.image.cls = 0 then some 0 else if x.image ≠ x.cur then some 2 else if x.imgMissing then some 4 else none

/-- Compare one position with its image entry (R378, Table TAG.5). -/
def classify (s : State) (t : Nat) : State :=
  let x := tagPos s t
  if x.missing then
    if x.image.cls ≠ 0 ∧ x.imgMissing = false then removeChange t s else s
  else if x.unreachable ∨ x.cur.cls = 0 then s
  else if wrongClass s t then
    if x.mismatch ∧ x.image = x.cur ∧ x.imgMissing = false then s else mismatchChange t s
  else
    let kind := changeKind x
    onTag t (fun y => { y with waiting := kind, mismatch := y.mismatch && kind.isSome }) s

/-- Compare every position (R378). -/
def classifyAll (s : State) : State := (List.range 8).foldl classify s

/-- The identity of a waiting position is confirmed by its EXT read: the old profile is withdrawn under the rail-load mask of the old tag, the
extended payload `b` is kept, and image, profile and TAG_CHANGE follow (R379, R385, R386). A tag that by then reads as its entry says has not
changed. -/
def confirmChange (t : Nat) (b : Bytes) (s : State) : State :=
  if wrongClass s t then takeExt t b (mismatchChange t s)
  else
    let x := tagPos s t
    match changeKind x with
    | none => takeExt t b (onTag t (fun y => { y with waiting := none }) s)
    | some k =>
      let s1 := takeExt t b (withdraw t (pv s 0x0905 == 1) s)
      let s2 := onTag t (fun y => { y with image := x.cur, imgMissing := false, mismatch := false, waiting := none }) s1
      tagChange t k (if k = 0 then noTag else x.image) x.cur (applyProfile t s2)

/-! ### Over-temperature (R217, R388) -/

/-- The temperature of a status word in sixteenths of a degree, none without a sensor (Table TAG.2). -/
def tagTemp (w : Nat) : Option Int := if w % 4096 = 0x800 then none else some (toSigned 12 (w % 4096))

/-- A record that a position sends carries over-temperature under a profile: OVERTEMP, or a temperature above its limit (R388). -/
def hotUnder (s : State) (p : Nat) (b : Bytes) : Bool :=
  let w := fieldAt b 6 2
  let lim := toSigned 8 (byteAt (profileBytes s p) 7)
  bit w 12 || (lim != 0x7F && (match tagTemp w with
    | some v => decide (16 * lim < v)
    | none => false))

/-- OT_MODULE on the rails of a position whose record has arrived with a valid CRC, under the profile that the position holds as it arrives;
the rails are noted as hot or not (R231, R388). -/
def hotFound (t : Nat) (b : Bytes) (s : State) : List Raise × State :=
  match (tagPos s t).profile with
  | none => ([], s)
  | some p =>
    if recordOk b then
      let rs := profileRails s p t
      let hot := hotUnder s p b
      let v := (tagTemp (fieldAt b 6 2)).map (fun i => (i * 10).tdiv 16)
      (if hot then rs.map (fun r => { code := 0x0B, src := r, value := v, chan := 0xFF, injected := false }) else [], noteHot rs hot s)
    else ([], s)

/-- OT_MODULE for the records of a sweep, in ring order from position `t` (R388). -/
def hotAll : Nat → List Bytes → State → List Raise × State
  | _, [], s => ([], s)
  | t, b :: bs, s =>
    let p := hotFound t b s
    let q := hotAll (t + 1) bs p.2
    (p.1 ++ q.1, q.2)

/-! ### Frames -/

/-- The next EXT read of the period, or none in flight (R379). -/
def extNext (s : State) : State :=
  match s.tags.extQ with
  | [] => onTags (fun x => { x with flight := .idle }) s
  | t :: ts => launch (.ext t) (onTags (fun x => { x with extQ := ts }) s)

/-- After a sweep or a round of stub polls: changes, then the EXT reads that the last period asked for (R378, R379). -/
def periodEnd (s : State) : State :=
  let old := (List.range 8).filter (fun t => (tagPos s t).waiting.isSome && !(tagPos s t).missing)
  let s1 := classifyAll s
  extNext (onTags (fun x => { x with extQ := old.filter (fun t => (tagPos s1 t).waiting.isSome) }) s1)

/-- Answer a TAGS_SWEEP that waits (R703). -/
def sweepAnswer (result k : Nat) (s : State) : State :=
  completeOp .tagsSweep stOk (leBytes 1 result ++ leBytes 1 (s.tags.lastCount.getD 0) ++ leBytes 1 k) s

/-- A sweep frame starts (R368, R384). -/
def startSweep (s : State) : State := launch .sweep (takeOcc .sweep s)

/-- A sweep period begins, tag.sweep_ms after the one before (R376, Table TAG.8). -/
def nextPeriod (s : State) : State := onTags (fun x => { x with nextAt := s.clk.us + 1000 * pn s 0x0902 }) s

/-- The link is free, and the sweep period has ended. -/
def periodDue (s : State) : Bool := tagsRun s && s.tags.flight == .idle && decide (s.tags.nextAt ≤ s.clk.us)

/-- SWEEP: the sweep period ends while the ring is closed. -/
def sweep (s : State) : State := if periodDue s && !s.tags.open_ then nextPeriod (startSweep s) else s

/-- Mark positions missing (R374, R377). -/
def markMissing (ts : List Nat) (s : State) : State := ts.foldl (fun u t => onTag t (fun x => { x with missing := true, unreachable := false }) u) s

/-- TAG_MISSING for positions marked missing (R375). -/
def missingFault (ts : List Nat) : List Raise :=
  if ts.isEmpty then [] else [{ code := 0x31, src := 0xFF, value := none, chan := 0xFF, injected := false }]

/-- Post RING_BREAK (Table CMD.17). -/
def postBreak (closed : Bool) (s : State) : State :=
  post 0x0902 (b2n closed) s.tags.lastK (s.tags.reachA ||| s.tags.reachB <<< 8) s

/-- SWEEP_COMPLETE: END arrived with the records of every tag in ring order (R369, R376 to R379). The module action of TAG_MISSING comes
before its response (R218). Where a record has a bad CRC the sweep is not complete: the bad records are counted, the others are PARTIAL, and the
sweep runs on to its abort (R369 to R371; DEDUCED, assumption 82). -/
def sweepComplete (records : List Bytes) (also : List (Nat × Nat × Int)) (s : State) : State :=
  if s.tags.flight = .sweep then
    let rs := records.take 8
    let whole := rs.all recordOk
    let s1 := takeRecords (!whole) 0 rs s
    let hot := hotAll 0 rs s1
    if whole then
      let n := rs.length
      let s2 := onTags (fun x => { x with lastCount := some n, completed := x.completed + 1, swept := true }) hot.2
      let s3 := if s2.tags.open_ then onTags (fun x => { x with open_ := false }) (postBreak true s2) else s2
      let gone := (List.range 8).filter (fun t => decide (n ≤ t) && decide (t < pn s3 0x0903) && !(tagPos s3 t).missing)
      let s5 := raiseThen periodEnd (missingFault gone ++ hot.1) also (markMissing gone s3)
      sweepAnswer 0 0xFF (if s5.core.nvReady && !s5.tags.imaged then writeModules s5 else s5)
    else raiseTogether hot.1 also hot.2
  else detectTogether also s

/-- SWEEP_ABORT: 2 × F have passed; what returned with a valid CRC is PARTIAL, and location begins (R370, R374). -/
def sweepAbort (records : List Bytes) (also : List (Nat × Nat × Int)) (s : State) : State :=
  if s.tags.flight = .sweep ∧ frameOver s = true then
    let hot := hotAll 0 (records.take 8) (takePartial 0 (records.take 8) s)
    launch (.locA 0) (raiseTogether hot.1 also (onTags (fun x => { x with aborted := x.aborted + 1, bHeld := [] }) hot.2))
  else detectTogether also s

/-- The reply of a poll arrives, with its extended payload where it has one; then comes what the master does next. -/
def pollRecord (t : Nat) (b : Bytes) (also : List (Nat × Nat × Int)) (s : State) : State :=
  let hot := hotFound t b (takeExt t b (takeRecord t b false true s))
  raiseTogether hot.1 also hot.2

/-- The tags of the ring as location sees it after `m` replies from BMD_B (R374). -/
def locTags (s : State) (a m : Nat) : Nat := max (s.tags.lastCount.getD (pn s 0x0903)) (a + m)

/-- Replies from BMD_B take their positions: reply `j` is position n − 1 − j (R374, R375). A reply that stood for another position as it
arrived, since the ring then seemed shorter, is judged for over-temperature now (R388). -/
def takeStubB (a n : Nat) : Nat → List Bytes → State → List Raise × State
  | _, [], s => ([], s)
  | j, b :: bs, s =>
    let t := n - 1 - j
    let s1 := takeExt t b (takeRecord t b false true s)
    let p := if locTags s a (j + 1) = n then ([], s1) else hotFound t b s1
    let q := takeStubB a n (j + 1) bs p.2
    (p.1 ++ q.1, q.2)

/-- The end of break location, which was the fixed action of TAG_RING_BREAK (R218): `a` positions reachable from BMD_A, the replies from
BMD_B held (R374, R375); the faults `hot` were found on the last reply. -/
def locEnd (a : Nat) (hot : List Raise) (also : List (Nat × Nat × Int)) (s : State) : State :=
  let m := s.tags.bHeld.length
  let n := locTags s a m
  let p := takeStubB a n 0 s.tags.bHeld s
  let gone := (List.range 8).filter (fun t => decide (a ≤ t) && decide (t < n - m))
  let s2 := markMissing gone p.2
  let k := if a = 0 then 0xFF else a - 1
  let s3 := onTags (fun x => { x with open_ := true, reachA := a, reachB := m, ringN := n, lastK := k, breakTick := tick s, bHeld := [] }) s2
  sweepAnswer 1 k (raiseThen (fun u => periodEnd (postBreak false u)) (globalRaise 0x30 0xFF none 0xFF :: missingFault gone ++ hot ++ p.1) also s3)

/-- Polls from BMD_B follow those from BMD_A, which reached `a` positions (R374). -/
def locB (a : Nat) (also : List (Nat × Nat × Int)) (s : State) : State :=
  let s1 := onTags (fun x => { x with reachA := a }) s
  if a < 8 then launch (.locB 0) (detectTogether also s1) else locEnd a [] also s1

/-- The stub polls of a round from BMD_B, then the bridging poll (R376). -/
def stubB (h : Nat) (s : State) : State :=
  if h < s.tags.reachB then launch (.stubB h) s else launch .bridge s

/-- The stub polls of a round from BMD_A first (R376). -/
def stubA (h : Nat) (s : State) : State := if h < s.tags.reachA then launch (.stubA h) s else stubB 0 s

/-- STUB_POLL_ROUND: the sweep period ends while the ring is open (R376). -/
def stubPollRound (s : State) : State :=
  if periodDue s && s.tags.open_ then stubA 0 (nextPeriod (takeOcc .sweep s)) else s

/-- The position of a hop from BMD_B. -/
def posB (s : State) (h : Nat) : Nat := s.tags.ringN - 1 - h

/-- A reply from BMD_B during location is held for its position, and judged at once for the position that it stands for so far (R374, R388). -/
def holdB (h : Nat) (b : Bytes) (s : State) : List Raise × State :=
  hotFound (locTags s s.tags.reachA (h + 1) - 1 - h) b (onTags (fun x => { x with bHeld := x.bHeld ++ [b] }) s)

/-- The reply to an EXT read: a change that waits is confirmed by a valid extended payload (R379). -/
def extReply (t : Nat) (b : Bytes) (s : State) : State :=
  let s1 := takeRecord t b (tagPos s t).partial_ (tagPos s t).stub s
  if (tagPos s1 t).waiting.isSome && extOk b then confirmChange t b s1 else takeExt t b s1

/-- POLL_REPLY (R372, R374 to R376, R379, R388). -/
def pollReply (b : Bytes) (also : List (Nat × Nat × Int)) (s : State) : State :=
  match s.tags.flight with
  | .locA h =>
    if h < 7 then launch (.locA (h + 1)) (pollRecord h b also s)
    else locB 8 [] (pollRecord h b also s)
  | .locB h =>
    let hot := holdB h b s
    if h + 1 < 8 - s.tags.reachA then launch (.locB (h + 1)) (raiseTogether hot.1 also hot.2) else locEnd s.tags.reachA hot.1 also hot.2
  | .stubA h => stubA (h + 1) (pollRecord h b also s)
  | .stubB h => stubB (h + 1) (pollRecord (posB s h) b also s)
  | .bridge => startSweep (pollRecord s.tags.reachA b also s)
  | .ext t =>
    let hot := hotFound t b (extReply t b s)
    extNext (raiseTogether hot.1 also hot.2)
  | _ => detectTogether also s

/-- A position whose stub poll is unanswered is unreachable (R378). -/
def unanswered (t : Nat) (s : State) : State := onTag t (fun x => { x with unreachable := true }) s

/-- POLL_TIMEOUT, once the time of the poll's hop has passed (R373, R374, R376). -/
def pollTimeout (also : List (Nat × Nat × Int)) (s : State) : State :=
  if !frameOver s then detectTogether also s
  else
  match s.tags.flight with
  | .locA h => locB h also s
  | .locB _ => locEnd s.tags.reachA [] also s
  | .stubA h => stubA (h + 1) (detectTogether also (unanswered h s))
  | .stubB h => stubB (h + 1) (detectTogether also (unanswered (posB s h) s))
  | .bridge => periodEnd (detectTogether also s)
  | .ext _ => extNext (detectTogether also s)
  | _ => detectTogether also s

/-- The hop that the master sent in the poll in flight. -/
def sentHop (s : State) : Nat :=
  match sentFrame s with
  | some (_, b) => byteAt b 3
  | none => 0

/-- POLL_EMERGED: the ring is closed, and holds as many tags as the hop count fell by; an abort under location is counted only
(R373, R374, R376). A stub poll or an EXT read that emerges from an open ring shows it closed as the bridging poll does, and the master runs a
sweep at once (DEDUCED, assumption 160). -/
def pollEmerged (hop : Nat) (also : List (Nat × Nat × Int)) (s0 : State) : State :=
  let s := if s0.tags.flight = .idle ∨ s0.tags.flight = .sweep then s0
    else onTags (fun x => { x with emerged := some (sentHop s0 - hop) }) s0
  match s.tags.flight with
  | .locA _ => sweepAnswer 1 0xFF (periodEnd (detectTogether also s))
  | .locB _ => locEnd s.tags.reachA [] also s
  | .stubA _ => startSweep (detectTogether also s)
  | .stubB _ => startSweep (detectTogether also s)
  | .bridge => startSweep (detectTogether also s)
  | .ext _ => if s.tags.open_ then startSweep (detectTogether also s) else extNext (detectTogether also s)
  | _ => detectTogether also s

/-! ### Commands (Table CMD.11) -/

/-- One position of TAGS_STATUS. -/
def tagReport (s : State) (t : Nat) : Bytes :=
  let x := tagPos s t
  let c := if pv s 0x0901 = 1 then x.cur.cls else 0
  leBytes 1 c ++ leBytes 1 (bitsOf [x.partial_, x.stub, x.missing, x.mismatch, x.unreachable]) ++ leBytes 2 x.cur.variant ++
    leBytes 3 x.cur.serial ++ leBytes 1 (x.profile.getD 0xFF) ++ leBytes 2 x.word ++ zeros 2

def tagsStatusBody (_r : Req) (_pl : Bytes) (s : State) : Reply :=
  let ring := if pv s 0x0901 ≠ 1 then 2 else b2n s.tags.open_
  .done stOk (leBytes 1 ring ++ leBytes 1 (if s.tags.open_ then s.tags.lastK else 0xFF) ++ leBytes 1 (s.tags.lastCount.getD 0) ++ zeros 1 ++
    (List.range 8).flatMap (tagReport s)) s

/-- TAGS_STATUS. -/
def cmdTagsStatus : CmdDef :=
  { code := 0x0900, caps := [capStatus], allow := allowAll, len := lenIs 0, range := anyRange, nv := false, modes := anyMode,
    body := tagsStatusBody }

def tagsSweepBody (r : Req) (_pl : Bytes) (s : State) : Reply :=
  if tagsRun s = false then refuse stModeForbids s
  else if s.tags.flight ≠ .idle then refuse stBusy s
  else .owed (addOp .tagsSweep 0x0901 r false (startSweep s))

/-- TAGS_SWEEP (R703). -/
def cmdTagsSweep : CmdDef :=
  { code := 0x0901, caps := [capTags], allow := allowAll, len := lenIs 0, range := anyRange, nv := false, modes := anyMode,
    body := tagsSweepBody }

def ringDiagnoseBody (_r : Req) (_pl : Bytes) (s : State) : Reply :=
  .done stOk (leBytes 4 s.tags.completed ++ leBytes 4 s.tags.aborted ++ (List.range 8).flatMap (fun t => leBytes 1 (tagPos s t).badCount) ++
    leBytes 1 s.tags.lastK ++ leBytes 1 (b2n s.tags.open_) ++ zeros 2 ++ leBytes 4 s.tags.breakTick) s

/-- RING_DIAGNOSE. -/
def cmdRingDiagnose : CmdDef :=
  { code := 0x0902, caps := [capTags], allow := allowAll, len := lenIs 0, range := anyRange, nv := false, modes := anyMode,
    body := ringDiagnoseBody }

end Sys2Proof.Machine
end

