-- ==== Sys2Proof/Machine/Fixed.lean ====
section
/-! DEFINITION. Global faults with their fixed actions: the inputs, the battery, the charger, the die and the thermistors, and
the release of what they hold by FAULT_CLEAR (Table SUP.1, R218, R357 to R359, R404). -/

namespace Sys2Proof.Machine

/-- THERMISTOR_RELEASE (R357). -/
def thermistorRelease (t : Nat) (s : State) : State :=
  let s1 := dropTripped t (catchUp s)
  if t = pn s 0x0B0E then chgJudge (onChg (fun c => { c with tsHold := false }) s1) else s1

/-- Break location as the fixed action of TAG_RING_BREAK, where the ring is idle (Table SUP.1, R374). -/
def locateBreak (s : State) : State :=
  if tagsRun s ∧ s.tags.flight = .idle then launch (.locA 0) (onTags (fun x => { x with bHeld := [] }) s) else s

/-- The fixed action of an injected fault (R218, R236): that of Table SUP.1, and the break location of TAG_RING_BREAK. The core reset of
WATCHDOG is the mode logic's. -/
def injectedAction (a : Setting) (s : State) : State := if a.code = 0x30 then locateBreak s else fixedOf a s

/-- What FAULT_CLEAR releases beside the rails: the battery FET, an injected BAT_TS_OPEN, and the charger. -/
def releaseHeld (s : State) : State :=
  let s1 := if latched s 0x12 then s else
    let t : State := { s with core := { s.core with batFet := s.core.mode != .ship } }
    if fetOn t && !fetOn s then calLose (fun c => !c.gain && c.channel == 0x46) 0 t else t
  let s2 := if latched s1 0x14 then s1 else onChg (fun c => { c with tsHold := false }) s1
  chgJudge (pathEval s2)

/-- FAULT_CLEAR with what it releases (R235, Table GEY.3). -/
def faultClearAll (r : Req) (pl : Bytes) (s : State) : Reply :=
  match faultClearBody r pl s with
  | .done st p t => .done st p (releaseHeld t)
  | a => a

/-- FAULT_CLEAR as the command table lists it. -/
def cmdFaultClearAll : CmdDef := { cmdFaultClear with body := faultClearAll }

end Sys2Proof.Machine
end

