-- ==== Sys2Proof/Machine/Calib.lean ====
section
/-! DEFINITION. System calibration: CAL_SYSTEM with its preconditions, and the end of a run (R307 to R315). -/

namespace Sys2Proof.Machine

/-- The rail of a rail channel, on SWA or on PIPE. -/
def calRail (ch : Nat) : Nat := if 0x80 ≤ ch then ch - 0x80 else ch

/-- A rail channel, SWA or PIPE. -/
def railChannel (ch : Nat) : Bool := decide (ch < 0x18) || (decide (0x80 ≤ ch) && decide (ch ≤ 0x97))

/-- The channels and kinds that Table CNV.6 accepts (R308); the stated value of an OFFSET is 0. -/
def calRange (b : Bytes) : Bool :=
  let ch := byteAt b 0
  let kind := byteAt b 1
  decide (kind ≤ 1) && (fieldAt b 2 2 == 0) && (kind == 1 || fieldAt b 4 4 == 0) &&
    (railChannel ch || (decide (0x18 ≤ ch) && decide (ch ≤ 0x27)) || ch == 0x42 || ch == 0x46 ||
      (kind == 1 && [0x40, 0x41, 0x43, 0x44, 0x45, 0x47].contains ch))

/-- Codes converted on the spare slice, at PGA ×1 (R310, R311). -/
def spareReading (s : State) (ch : Nat) (codes : List Int) : Reading :=
  reading s ch 0 codes (List.replicate codes.length (convOf s ch).spare)

/-- The part of Table CNV.6 that the state of the device decides. -/
def calState (s : State) (ch kind : Nat) : Bool :=
  if railChannel ch then
    let st := railSt s (calRail ch)
    if kind = 0 then st == .off || st == .parked else st.isOn
  else if kind = 1 then true
  else if ch = 0x42 then !anyQualified s && s.inp.active.isNone
  else if ch = 0x46 then fetDrive s == .off
  else true

/-- An AUX input reads at or below 47 mV (Table CNV.6). -/
def auxLow (s : State) (ch : Nat) (codes : List Int) : Bool := decide ((spareReading s ch codes).value ≤ 47)

/-- The conversions that the check of a kind takes: 16 for the input-short check, one for an AUX input (R310, Table CNV.6). -/
def checkCount (ch kind : Nat) : Nat :=
  if kind ≠ 0 then 0 else if railChannel ch then 16 else if 0x18 ≤ ch ∧ ch ≤ 0x27 then 1 else 0

/-- The part of Table CNV.6 that a reading or the stated value decides; `codes` are the check's conversions, made with the short switch
open (R310). -/
def calReading (s : State) (ch kind : Nat) (stated : Int) (codes : List Int) : Bool :=
  if kind = 0 then
    if railChannel ch then
      let d := spareReading s (calRail ch) codes
      decide (d.value < pv s 0x040B (calRail ch)) && !d.high && !d.low
    else if ch ≤ 0x27 then auxLow s ch codes
    else true
  else if railChannel ch then decide (fullScale s (calRail ch) ≤ 4 * stated)
  else if ch ≤ 0x27 then decide (750 ≤ stated)
  else if ch = 0x42 ∨ ch = 0x46 then decide (1000 ≤ stated.natAbs)
  else decide (2000 ≤ stated)

/-- Move the input-short switches: the rail whose switch is closed, none where all are open (R282, R312). -/
def setShort (r : Option Nat) (s : State) : State := { s with msr := { s.msr with shorted := r } }

/-- CAL_SYSTEM (R307 to R312): the codes of its check come with the request, and those that are missing are free values (assumption 3).
A run in progress holds the spare and the input-short switch, so a second request finds its preconditions unmet (assumption 44). -/
def calSystemBody (r : Req) (pl : Bytes) (s0 : State) : Reply :=
  let ch := byteAt pl 0
  let kind := byteAt pl 1
  let stated := leSigned (bytesAt pl 4 4)
  let (codes, s) := takeCodes (checkCount ch kind) r.env (catchUp s0)
  if s.msr.cal.isSome || !calState s ch kind || !calReading s ch kind stated codes then refuse stCalPrecondition s
  else if decide (ch < 0x80) && (convOf s ch).spareSt == .permanent then refuse stHardware s
  else
    let run : CalRun :=
      { channel := ch, gain := kind == 1, stated := stated, persist := r.persist, tenant := r.tenant, epoch := s.par.epoch, lost := none,
        written := none, from_ := cycle s + (if kind = 0 then 16000 else 0), samples := [] }
    let s1 := setShort (if kind = 0 ∧ railChannel ch = true then some (calRail ch) else none) { s with msr := { s.msr with cal := some run } }
    let s2 := if 0x80 ≤ ch then s1
      else onConv (b2n (isSwb ch)) (fun c => { c with spareSt := if c.spareSt = .ready then .calibrating else c.spareSt }) s1
    .accepted (addOp .calSystem 0x0705 r true s2)

/-- CAL_SYSTEM as the command table lists it. -/
def cmdCalSystem : CmdDef :=
  { code := 0x0705, caps := [capService], allow := fun r _ => r.tenant == 63, len := lenIs 8, range := calRange, nv := false,
    modes := fun _ m => m == .service, body := calSystemBody }

/-- cnv.offset or cnv.gain of the channel was written since the run began (R314). -/
def calWritten (s : State) (c : CalRun) : Bool :=
  s.par.cells.any (fun x => (x.inst.id == 0x0703 || x.inst.id == 0x0704) && x.inst.i1 == c.channel && decide (c.epoch < x.epoch))

/-- A conversion of the run before the channel correction, in q4: corrected with the coefficients of the spare; of PIPE the code as it is
(R291, R311, R312). -/
def calCode (s : State) (c : CalRun) (x : Int) : Int :=
  if 0x80 ≤ c.channel then x * 16
  else
    let k := convOf s c.channel
    sliceCorrect (k.coef.getD k.spare sliceIdle) x

/-- num of R291 for one conversion of the run; for PIPE with the correction of R293 (R313). -/
def calNum (s : State) (c : CalRun) (x : Int) : Int :=
  if 0x80 ≤ c.channel then (x - pipeZero s (calRail c.channel)) * (pipeLsb s (calRail c.channel) : Int) * 16
  else channelNum s (corNow s c.channel) c.channel 0 x

/-- The largest less the smallest of a list. -/
def spread : List Int → Int
  | [] => 0
  | x :: xs => xs.foldl max x - xs.foldl min x

/-- The spread of the run's results is above its limit: 16 result units, or 2 PIPE codes (R314). -/
def calSpread (s : State) (c : CalRun) (xs : List Int) : Bool :=
  if 0x80 ≤ c.channel then decide (2 * 16 < spread xs)
  else decide (16 < spread (xs.map (fun x => clampInt (-32767) 32767 ((calNum s c x + 0x800000) / 0x1000000))))

/-- The new offset of 256 conversions in q4 (R312). -/
def calOffset (c : CalRun) (xs : List Int) : Int := (xs.sum + 128) / 256 - zeroNom c.channel

/-- The new gain (R313), in integers without a bound: what a signed 64-bit variable of the pseudocode does where gain × stated × 256 passes it,
the spec does not say (DESIGN CHOICE, assumption 159). -/
def calGain (s : State) (c : CalRun) (xs : List Int) : Int :=
  let m := ((xs.map (fun x => calNum s c x / 65536)).sum).tdiv 256
  quot (pv s 0x0704 c.channel * c.stated * 256 + m.tdiv 2) m Config.divByZero

/-- The new coefficient. -/
def calValue (s : State) (c : CalRun) (xs : List Int) : Int := if c.gain then calGain s c xs else calOffset c xs

/-- The new coefficient lies in the range of Table CNV.7. -/
def calInRange (c : CalRun) (v : Int) : Bool :=
  match pInfo (calInst c).id with
  | some p => pInRange p c.channel (.num v)
  | none => false

/-- Why a run is refused (R314, Table CMD.17): 4 SERVICE left, 2 coefficient written, 0 precondition lost, 1 spread,
3 out of range. `codes` are the raw conversions, `xs` the same in q4. -/
def calRefusal (s : State) (c : CalRun) (codes xs : List Int) : Option Nat :=
  if c.lost = some 4 then some 4
  else if calWritten s c then some 2
  else if c.lost.isSome ∨ calState s c.channel (b2n c.gain) = false then some 0
  else if c.gain = false ∧ 0x18 ≤ c.channel ∧ c.channel ≤ 0x27 ∧ codes.all (fun x => auxLow s c.channel [x]) = false then some 0
  else if calSpread s c xs then some 1
  else if calInRange c (calValue s c xs) = false then some 3
  else none

/-- The conversions of a run are over: the switch opens, the spare goes on with its rotation, and a step that fell due meanwhile runs
(R311, R312). -/
def calFree (c : CalRun) (s : State) : State :=
  let s1 := setShort none s
  if 0x80 ≤ c.channel ∨ c.written.isSome = true then s1
  else
    let k := b2n (isSwb c.channel)
    let s2 := onConv k (fun x => { x with spareSt := if x.spareSt = .calibrating then .ready else x.spareSt, due := none }) s1
    match (converter s1 k).due with
    | some m => if convRuns s2 then rotate k m s2 else s2
    | none => s2

/-- A run is over. -/
def calOver (c : CalRun) (s : State) : State := calFree c { s with msr := { s.msr with cal := none } }

/-- A run is refused: CAL_REFUSED, then OP_COMPLETE with a status (R314). -/
def calRefuse (c : CalRun) (reason status : Nat) (s : State) : State :=
  completeOp .calSystem status [] (postOwn c.tenant 0x0703 (b2n c.gain) c.channel reason (calOver c s))

/-- A run has its coefficient: it is written, with PERSIST to the image too, and CAL_DONE and OP_COMPLETE follow once the channel's safe
point has brought it into force (R315). An image write that cannot be made, or fails, leaves the coefficient in force (R661). -/
def calComplete (c : CalRun) (v : Int) (fails : Bool) (s : State) : State :=
  let ws : List PWrite := [{ inst := calInst c, value := .num v }]
  let s1 := deviceCommit ws (calFree c s)
  let p := if c.persist then persistWrites 2 ws fails s1 else (stOk, s1)
  let s2 := p.2
  settleChannels { s2 with msr := { s2.msr with cal := some { c with written := some (v, c.persist && p.1 == stOk) } } }

/-- The raw conversions of a run: those that come with its end, and of PIPE the 256 consecutive samples of the rail (R311). -/
def calCodes (c : CalRun) (codes : List Int) : List Int := if 0x80 ≤ c.channel then c.samples.reverse.map Int.ofNat else codes

/-- CALIBRATION_END with the 256 raw conversions of a run (R312 to R315); the converters run. -/
def calibrationEnd (given : List Int) (imageFails : Bool) (s0 : State) : State :=
  let s := catchUp s0
  match s.msr.cal with
  | none => s
  | some c =>
    let codes := calCodes c given
    if codes.length ≠ 256 ∨ c.written.isSome = true ∨ convRuns s = false then s
    else
      let xs := codes.map (calCode s c)
      match calRefusal s c codes xs with
      | some 3 => calRefuse c 3 stRange s
      | some k => calRefuse c k stCalPrecondition s
      | none => calComplete c (calValue s c xs) imageFails s

/-- A core reset ends the run under R314: OP_COMPLETE carries ABORTED_RESET. One that has written its coefficient ends so without CAL_DONE
(DESIGN CHOICE, assumption 80). -/
def calReset (s : State) : State :=
  match s.msr.cal with
  | none => s
  | some c =>
    if c.written.isSome then completeOp .calSystem stAbortedReset [] (calOver c s) else calRefuse c 4 stAbortedReset s

end Sys2Proof.Machine
end

