-- ==== Sys2Proof/Machine/Background.lean ====
section
/-! DEFINITION. Fumarole and its tasks, the ledger checkpoint, restoration at boot with its GAP records, telemetry, and the
ledger commands (R715 to R717, R720 to R748). -/

namespace Sys2Proof.Machine

/-- Change the background block. -/
def onBg (f : Background → Background) (s : State) : State := { s with bg := f s.bg }

/-- A task that has never run. -/
def noTask : Task :=
  { due := false, running := false, progress := 0, dueAt := 0, fallen := 0, runs := 0, overruns := 0, last := 0, longest := 0, recent := [], current := 0,
    corrections := 0, firstAddr := 0xFFFFFFFF, bad := false }

/-- A task by index (Table LED.1). -/
def task (s : State) (i : Nat) : Task := vget s.bg.tasks i noTask

/-- Change a task. -/
def onTask (i : Nat) (f : Task → Task) (s : State) : State := onBg (fun b => { b with tasks := vmod b.tasks i f }) s

/-! ### Fumarole (R720 to R728) -/

/-- Fumarole runs: firmware runs, no hold-up, and SHIP entry has not begun (R728). -/
def fumaroleOn (s : State) : Bool := fwWorks s && s.core.shipEntry != .begun && s.core.mode != .ship

/-- A task that bg.task_enable lets run (Table LED.1). -/
def taskEnabled (s : State) (i : Nat) : Bool := i == 0 || i == 5 || (decide (i < 5) && bit (pn s 0x0F02) i)

/-- A task's time is counted toward the budget (Table LED.1). -/
def counted (i : Nat) : Bool := decide (1 ≤ i) && decide (i ≤ 4)

/-- A step of the task may start: exempt, or at least 250 µs of the window's budget are left (R723). -/
def budgetLeft (s : State) (i : Nat) : Bool := !counted i || decide (s.bg.windowUsed + 250 ≤ 1000 * pn s 0x0F01)

/-- BACKGROUND_WINDOW: a new 100 ms window, where TICK has come to one (R723). -/
def backgroundWindow (s : State) : State :=
  if s.clk.us / 100000 = s.bg.windowAt then s
  else onBg (fun b => { b with windowUsed := 0, windowAt := s.clk.us / 100000 }) (takeOcc .window s)

/-- The period of a task that falls due by time, in µs; 0 for the others, and for one that is off (Table LED.1). -/
def taskPeriod (s : State) (i : Nat) : Nat :=
  match i with
  | 0 => 1000000 * pn s 0x0F05
  | 1 => 1000 * pn s 0x0F04
  | 4 => 1000000 * pn s 0x0C03 / 52
  | _ => 0

/-- The powered seconds of a scrub pass in its steps: a pass of `n` steps over `secs` seconds. -/
def scrubFalls (seconds n secs : Nat) : Nat := if secs = 0 then 0 else n * seconds / secs

/-- How often a task has fallen due that is not taken up yet (Table LED.1). CHECKPOINT waits for NV_READY (R728). -/
def fallCount (s : State) (i : Nat) : Nat :=
  let t := task s i
  let p := taskPeriod s i
  if i = 2 then scrubFalls s.bg.faSeconds 64 (3600 * pn s 0x0D08) - t.fallen
  else if i = 3 then scrubFalls s.bg.saSeconds 256 (86400 * pn s 0x0D09) - t.fallen
  else if p = 0 ∨ s.clk.us < t.dueAt ∨ (i = 0 ∧ s.core.nvReady = false) then 0
  else (s.clk.us - t.dueAt) / p + 1

/-- A task that falls due is due; each time that it does so while it has not finished counts an overrun (R724). -/
def fallDue (i : Nat) (s : State) : State :=
  let n := fallCount s i
  if n = 0 ∨ taskEnabled s i = false then s
  else onTask i (fun t => { t with
    due := true, overruns := satAdd 0xFFFF t.overruns (if t.due || t.running then n else n - 1)
    dueAt := t.dueAt + n * taskPeriod s i, fallen := t.fallen + n }) s

/-- Every task falls due as its time has come. -/
def fallAll (s : State) : State := (List.range 6).foldl (fun t i => fallDue i t) s

/-- The steps of the last second (R726). -/
def lastSecond (now : Nat) (l : List (Nat × Nat)) : List (Nat × Nat) := l.filter (fun x => decide (now < x.1 + 1000000))

/-- A step of `us` µs ends; `fin` says that it completes the run, whose duration is the time of its steps (R723, R725, R726; assumption
165). -/
def chargeStep (i us : Nat) (fin : Bool) (s : State) : State :=
  let s1 := onTask i (fun t =>
    let c := t.current + us
    { t with due := t.due && !fin, running := !fin, current := if fin then 0 else c, last := if fin then c else t.last,
             longest := if fin then max t.longest c else t.longest, runs := if fin then t.runs + 1 else t.runs,
             overruns := if 1000 < us then satAdd 0xFFFF t.overruns 1 else t.overruns,
             recent := (s.clk.us, us) :: lastSecond s.clk.us t.recent }) s
  if counted i then onBg (fun b => { b with windowUsed := b.windowUsed + us }) s1 else s1

/-! ### The checkpoint (R736, R737, Table LED.3) -/

/-- Bytes 0 to 119 of a checkpoint copy. -/
def checkpointBody (flags : Nat) (s : State) : Bytes :=
  let c := s.bg.coulomb
  let a := energy s 0
  let b := energy s 1
  leBytes 8 c.inUc ++ leBytes 8 c.outUc ++ leInt 8 c.net ++ leInt 4 c.residual ++ leBytes 1 flags ++ zeros 3 ++ leInt 8 a.total ++
    leInt 8 b.total ++ leInt 4 a.residual ++ leInt 4 b.residual ++ leBytes 4 s.inp.ivStart ++ leInt 4 a.opened ++ leInt 4 b.opened ++
    leBytes 4 s.bg.lastIntervalSeq ++ leBytes 8 s.log.appended ++ leBytes 4 s.log.nextSeq ++ leBytes 4 s.aon.rtc ++ leBytes 4 (tick s) ++
    leBytes 4 s.core.bootCount ++ leBytes 4 (min 0xFFFFFFFF (a.unmeasuredUs / 1000000)) ++
    leBytes 4 (min 0xFFFFFFFF (b.unmeasuredUs / 1000000)) ++ leBytes 4 s.bg.faSeconds ++ leBytes 4 s.bg.saSeconds ++
    leBytes 1 (task s 3).progress ++ leBytes 1 (task s 2).progress ++ zeros 6

/-- Write a checkpoint (R736). -/
def writeCheckpoint (flags : Nat) (s : State) : State := writeTwo tcCheckpoint (checkpointBody flags (takeOcc .checkpoint s)) (takeOcc .checkpoint s)

/-- The ledger checkpoint with the gauge state, which is kept at each (R470, R736). -/
def fullCheckpoint (flags : Nat) (s : State) : State := saveGauge (writeCheckpoint flags s)

/-- The CHECKPOINT task's step: once the ledgers are restored, with RESV at its threshold (R533, R742). -/
def checkpointStep (s : State) : Option State :=
  if s.core.nvReady && s.bg.restored && supplyOk s 128 then some (fullCheckpoint 0 s) else none

/-! ### Telemetry (R717, R746, R747) -/

/-- Flags of STATUS byte 1 (Table CMD.4). -/
def statusFlags (s : State) : Nat :=
  bitsOf [s.aon.armed, s.eng.suspended, s.core.nvReady, s.aon.timeSet, (bootCtl s).trial != 0xFF, s.cap.state == .held]

/-- The rails ON or FORCED_ON. -/
def onMask (s : State) : Nat := bitsOf (allRails.map (fun r => (railSt s r).isOn))

/-- A telemetry snapshot with a sequence number (R717). A channel without a result gives a free value (assumption 36). -/
def snapshot (seq : Nat) (s : State) : Bytes × State :=
  let (vb, s1) := lastResult 0x40 s
  let (dc, s2) := lastResult 0x41 s1
  let (ii, s3) := lastResult 0x42 s2
  let (sy, s4) := lastResult 0x44 s3
  let (ba, s5) := lastResult 0x45 s4
  let (ib, s6) := lastResult 0x46 s5
  let (bt, s7) := orFree s6.chg.temp s6
  let (dt, s8) := lastResult 0x30 s7
  (leBytes 4 (tick s) ++ leBytes 4 s.aon.rtc ++ leBytes 1 s.core.mode.code ++ leBytes 1 s.inp.path.code ++ leBytes 1 (s.chg.phase.code) ++
    leBytes 1 (statusFlags s) ++ leInt 2 vb ++ leInt 2 dc ++ leInt 2 (ii.tdiv 2) ++ leInt 2 sy ++ leInt 2 ba ++ leInt 2 (ib.tdiv 2) ++
    leInt 2 bt ++ leInt 2 dt ++ leBytes 2 s.gau.rep ++ leInt 2 s.nv.resvMv ++ leBytes 4 (onMask s) ++ leBytes 4 (faultSummary s) ++
    leBytes 4 seq ++ zeros 4, s8)

/-- The core leaves the telemetry bank that the parameter no longer names. -/
def leaveTelemetry (s : State) : State :=
  match s.bg.telemetryBank with
  | some k =>
    if pn s 0x0F03 = k then s
    else onBg (fun b => { b with telemetryBank := none }) (onBank k (fun x => { x with delegates := x.delegates.erase 0x80 }) s)
  | none => s

/-- The core becomes a delegated writer of an OWNED bank that has room for a delegate, and its count starts (R747). -/
def joinTelemetry (s : State) : State :=
  let k := pn s 0x0F03
  let b := bank s k
  if s.bg.telemetryBank = some k ∧ b.delegates.contains 0x80 = true then s
  else if decide (8 ≤ k) && decide (k ≤ 51) && b.st == .owned && decide (b.delegates.length < 2) then
    onBg (fun x => { x with telemetryBank := some k, telemetryWritten := 0 }) (onBank k (fun x => { x with delegates := x.delegates ++ [0x80] }) s)
  else onBg (fun x => { x with telemetryBank := none }) s

/-- Fumarole writes the slot, and then the header's count and period (R747). -/
def putTelemetry (snap : Bytes) (rivals : List (Nat × Bool)) (s : State) : State :=
  match s.bg.telemetryBank with
  | some k =>
    let a := spBase + k * 0x1000
    let n := s.bg.telemetryWritten
    let s1 := bankBytes (a + 16 + 48 * (n % 85)) snap (arbitrate k 0 false rivals s)
    let s2 := bankBytes a (leBytes 4 (n + 1) ++ leBytes 4 (pn s 0x0F04) ++ zeros 8) (arbitrate k 0 false [] s1)
    onBg (fun x => { x with telemetryWritten := (n + 1) % 0x100000000 }) s2
  | none => s

/-- The TELEMETRY task's step (R746, R747). -/
def telemetryStep (rivals : List (Nat × Bool)) (s : State) : State :=
  let s0 := joinTelemetry (leaveTelemetry (takeOcc .snapshot s))
  let seq := (s0.bg.telemetrySeq + 1) % 0x100000000
  let (b, s1) := snapshot seq s0
  putTelemetry b rivals (onBg (fun x => { x with telemetry := b, telemetrySeq := seq }) s1)

/-! ### Scrubs (R521 to R523, R575 to R577) -/

/-- The SCRUB record (Table NVS.14). -/
def scrubRecord (array action count first duration : Nat) (s : State) : State :=
  logRecord 0x09 (leBytes 1 array ++ leBytes 1 action ++ leBytes 2 (min 0xFFFF count) ++ leBytes 4 first ++ leBytes 4 duration ++ zeros 4) s

/-- A scrub pass begins with its first step: its period and its counts are taken anew. -/
def scrubBegin (i : Nat) (s : State) : State :=
  if (task s i).progress = 0 then
    onTask i (fun t => { t with corrections := 0, firstAddr := 0xFFFFFFFF, bad := false })
      (takeOcc (if i = 2 then .faScrub else if i = 3 then .saScrub else .bankScrub) s)
  else s

/-- The count of a scrub pass and the first address concerned. -/
def scrubNote (i n first : Nat) (bad : Bool) (s : State) : State :=
  onTask i (fun t => { t with corrections := t.corrections + n, bad := t.bad || bad,
                              firstAddr := if t.firstAddr = 0xFFFFFFFF then first else t.firstAddr }) s

/-- The progress of a scrub pass of `n` steps; its period begins anew with its end. -/
def nextStep (i n : Nat) (s : State) : State :=
  onTask i (fun t => { t with progress := (t.progress + 1) % n, fallen := if (t.progress + 1) % n = 0 then 0 else t.fallen }) s

/-- One F-array step: 64 pages of 64 bytes. The words given by index that the engine corrected, and those it could not, with
the words already known bad (R521 to R523). -/
def faStep (corrected bad : List Nat) (s0 : State) : State :=
  let s := scrubBegin 2 s0
  let k := (task s 2).progress
  let here := fun w => decide (512 * k ≤ w) && decide (w < 512 * k + 512)
  let bs := (s.nv.badWords ++ bad.filter (fun w => !s.nv.badWords.contains w)).filter here
  let cs := corrected.filter (fun w => here w && !bs.contains w)
  let s1 := { s with nv := { s.nv with corrections := s.nv.corrections + cs.length } }
  let first := match (cs ++ bs) with
    | w :: _ => w * 8
    | [] => 0xFFFFFFFF
  let s2 := scrubNote 2 cs.length first (!bs.isEmpty) (bs.foldl uncorrectable s1)
  let s3 := nextStep 2 64 s2
  if (task s3 2).progress = 0 then
    let t := task s3 2
    onBg (fun b => { b with faSeconds := 0 })
      (scrubRecord 0 (if t.bad then 3 else if 0 < t.corrections then 1 else 0) t.corrections t.firstAddr s3.bg.faSeconds s3)
  else s3

/-- A weak sector: a log sector is refreshed by a compaction pass, the inactive slot's asks for a rewrite, and the active slot's
is refreshed at the next core reset (R576, R577). -/
def weakSector (k : Nat) (s : State) : State :=
  if 128 ≤ k then { s with log := { s.log with refresh := if s.log.refresh.contains (k - 128) then s.log.refresh else s.log.refresh ++ [k - 128] } }
  else if k / 64 = s.core.slot then { s with nv := { s.nv with weak := if s.nv.weak.contains k then s.nv.weak else s.nv.weak ++ [k] } }
  else { s with nv := { s.nv with rewriteNeeded := true } }

/-- One S-array step: a sector is read at margin; `weak` are its weak granules (R575). -/
def saStep (weak : List Nat) (s0 : State) : State :=
  let s := scrubBegin 3 s0
  let k := (task s 3).progress
  let first := match weak with
    | g :: _ => saBase + k * 0x1000 + 16 * g
    | [] => 0xFFFFFFFF
  let s1 := if weak.isEmpty then s
    else scrubRecord 1 (if 128 ≤ k then 2 else 4) weak.length first s.bg.saSeconds (weakSector k s)
  let s2 := nextStep 3 256 (scrubNote 3 weak.length first false s1)
  if (task s2 3).progress = 0 then
    let t := task s2 3
    onBg (fun b => { b with saSeconds := 0 }) (scrubRecord 1 (if 0 < t.corrections then 1 else 0) t.corrections t.firstAddr s2.bg.saSeconds s2)
  else s2

/-- One step of the bank scrub: every word of the bank of the pass is read, as the core, and an error is handled under R508. A bank that is
RETIRED or TESTING refuses each of the reads, and counts it (R490, R491, R509). -/
def bankScrubStep (parityBad : Bool) (rivals : List (Nat × Bool)) (s0 : State) : State :=
  let s := scrubBegin 4 s0
  let k := (task s 4).progress
  let a := spBase + k * 0x1000
  match gate false 0x80 false a s with
  | (some _, s1) => nextStep 4 52 (onBank k (fun b => { b with deny := satAdd 0xFFFFFFFF b.deny 1023 }) s1)
  | (none, s1) => nextStep 4 52 (parityRead parityBad a 0x1000 (arbitrate k 0 false rivals s1)).2

/-! ### Steps of the tasks -/

/-- Compaction has work (R567, R570, R576). -/
def compactionDue (s : State) : Bool := s.core.nvReady && (s.log.pass.isSome || (passReason s).isSome)

/-- A compaction step can be made: no erase of the pass is under way. -/
def compactionFree (s : State) : Bool :=
  match s.log.pass with
  | some c => !c.ended || (!saBusy s && !c.erases.isEmpty)
  | none => true

/-- The COMPACTION task's step completes the pass when it issues the last erase. -/
def passEnds (s : State) : Bool :=
  match s.log.pass with
  | some c => c.ended && decide (c.erases.length ≤ 1) && s.nv.erasing.isSome
  | none => true

/-- Run a task's body as one step of `us` µs. -/
def runTask (i us : Nat) (body : State → State) (s : State) : State :=
  let t := body s
  chargeStep i us (i != 5 || passEnds t) t

/-- The core time of a step that its row does not state: at most 250 µs (R722), a free value (assumption 46). -/
def freeStepTime (s : State) : Nat × State :=
  let (v, t) := drawFree s
  (v.natAbs % 251, t)

/-- Task dispatch: the window turns with TICK, bg.task_enable is taken, and what has fallen due is due (R723, R724, Table LED.7). -/
def dispatch (s : State) : State := fallAll (takeOcc .dispatch (backgroundWindow s))

/-- The CHECKPOINT step can be made. -/
def checkpointReady (s : State) : Bool := (checkpointStep s).isSome

/-- COMPACTION is due: it has work, or BACKGROUND has made it due, and a run with no work is one empty step (R727). -/
def compactionRuns (s : State) : Bool :=
  (compactionDue s && compactionFree s) || ((task s 5).due && s.core.nvReady && !compactionDue s)

/-- A step of a task may start now. -/
def startable (s : State) (i : Nat) : Bool :=
  let t := task s i
  taskEnabled s i && budgetLeft s i &&
    (match i with
     | 0 => t.due && checkpointReady s
     | 1 => t.due
     | 2 => t.due && s.core.nvReady
     | 3 => t.due && s.core.nvReady
     | 4 => t.due && pn s 0x0C03 != 0
     | _ => compactionRuns s)

/-- The next step is task `i`'s: it may start, and no task of a lower index may (R724). -/
def mayStep (s : State) (i : Nat) : Bool := startable s i && (List.range i).all (fun j => !startable s j)

/-- A task that has fallen due takes its step at once where it is enabled, can start and has budget, and no task of a lower index is to
step first; else it stays due (R721 to R724). -/
def dueAndRun (i : Nat) (body : State → State) (s : State) : State :=
  let s0 := if fumaroleOn s then dispatch s else s
  if fumaroleOn s0 && mayStep s0 i then
    let (us, s2) := freeStepTime s0
    runTask i us body s2
  else s0

/-- CHECKPOINT (R737). -/
def checkpoint (s : State) : State := dueAndRun 0 (fullCheckpoint 0) s

/-- TELEMETRY (R746). -/
def telemetry (rivals : List (Nat × Bool)) (s : State) : State := dueAndRun 1 (telemetryStep rivals) s

/-- FA_SCRUB (R523). -/
def faScrub (corrected bad : List Nat) (s : State) : State := dueAndRun 2 (faStep corrected bad) s

/-- SA_SCRUB (R575). -/
def saScrub (weak : List Nat) (s : State) : State := dueAndRun 3 (saStep weak) s

/-- BANK_SCRUB (R509). -/
def bankScrub (parityBad : Bool) (rivals : List (Nat × Bool)) (s : State) : State :=
  dueAndRun 4 (bankScrubStep parityBad rivals) s

/-- COMPACTION: a step of the pass that free space, a refresh or a restart calls for (R568). -/
def compaction (s : State) : State := dueAndRun 5 compactionStep s

/-- The body of a task's step: `corrected` and `bad` are F-array words, `weak` S-array granules, `parityBad` an upset in a bank, and `rivals`
accesses of other masters, as the step of that task meets them. -/
def taskBody (i : Nat) (corrected bad weak : List Nat) (parityBad : Bool) (rivals : List (Nat × Bool)) (s : State) : State :=
  match i with
  | 0 => fullCheckpoint 0 s
  | 1 => telemetryStep rivals s
  | 2 => faStep corrected bad s
  | 3 => saStep weak s
  | 4 => bankScrubStep parityBad rivals s
  | _ => compactionStep s

/-- FUMAROLE_STEP: one step of the lowest due task, of `us` µs (R722, R724). -/
def fumaroleStep (us : Nat) (corrected bad weak : List Nat) (parityBad : Bool) (rivals : List (Nat × Bool)) (s : State) : State :=
  if fumaroleOn s then
    let s0 := dispatch s
    match (List.range 6).find? (startable s0) with
    | some i => runTask i us (taskBody i corrected bad weak parityBad rivals) s0
    | none => s0
  else s

/-- A step of `us` µs that starts now would hold the core for sys.watchdog_ms (R725). -/
def stepHangs (us : Nat) (s : State) : Bool :=
  fumaroleOn s && ((List.range 6).find? (startable (dispatch s))).isSome && decide (1000 * s.core.wdMs ≤ us)

/-- Fumarole stops, and its counts restart, at a core reset; the scrubs go on from the last checkpoint (R726, R728). -/
def fumaroleReset (s : State) : State :=
  let cp := (readTwo s tcCheckpoint).getD (zeros 128)
  let fresh := { noTask with dueAt := s.clk.us }
  let keep := fun (i p : Nat) => { noTask with
    progress := p, fallen := p, corrections := (task s i).corrections, firstAddr := (task s i).firstAddr, bad := (task s i).bad }
  onBg (fun b => { b with
    windowUsed := 0, windowAt := s.clk.us / 100000, faSeconds := fieldAt cp 104 4, saSeconds := fieldAt cp 108 4
    tasks := #v[fresh, fresh, keep 2 (byteAt cp 113 % 64), keep 3 (byteAt cp 112), fresh, fresh] }) s

/-- CHECKPOINT falls due at NV_READY (R728). -/
def checkpointDue (s : State) : State := fallDue 0 (onTask 0 (fun t => { t with dueAt := s.clk.us }) s)

/-! ### Restoration at boot (R742 to R745) -/

/-- The committed INTERVAL records, a compaction's copies aside, after a sequence number. -/
def intervalsAfter (s : State) (seq : Nat) : List Nat :=
  (allRecords s).filter (fun a => recLive s a && recType s a == 2 && !bit (recFlags s a) 2 && decide (seq < recSeq s a))

/-- Every committed INTERVAL record. -/
def intervalsAll (s : State) : List Nat := (allRecords s).filter (fun a => recLive s a && recType s a == 2)

/-- The energy of an input in a list of INTERVAL records (Table INT.7). -/
def intervalSum (s : State) (i : Nat) (as : List Nat) : Int := (as.map (fun a => (readNat s (a + 16 + 8 + 4 * i) 4 : Int))).sum

/-- The coulomb ledger restored: the checkpoint, and what has been counted since POR (R742). -/
def addCoulomb (c : Coulomb) (b : Bytes) : Coulomb :=
  { c with inUc := c.inUc + fieldAt b 0 8, outUc := c.outUc + fieldAt b 8 8, net := c.net + leSigned (bytesAt b 16 8),
           residual := c.residual + leSigned (bytesAt b 24 4) }

/-- The energy ledger of an input restored: its committed term, and what has been counted since POR. -/
def addEnergy (committed : Int) (residual unmeasured : Nat) (e : Energy) : Energy :=
  { e with total := e.total + committed, committed := e.committed + committed, residual := e.residual + residual,
           unmeasuredUs := e.unmeasuredUs + 1000000 * unmeasured }

/-- Change the two energy ledgers. -/
def onEnergy (f : Nat → Energy → Energy) (s : State) : State :=
  onBg (fun b => { b with energy := vmod (vmod b.energy 0 (f 0)) 1 (f 1) }) s

/-- Append a record of the restoration: with no sector for it, it waits behind those of the start and the GAP records alone (R742). -/
def appendRestored (r : LogRec) (s : State) : State :=
  match appendRec r s with
  | some x => x.2
  | none =>
    let mine := fun (q : LogRec) => q.type == 0x0B || q.type == 0x0F || q.type == 0x0A
    { s with log := { s.log with waiting := s.log.waiting.takeWhile mine ++ r :: s.log.waiting.dropWhile mine } }

/-- A GAP record and LEDGER_GAP (R745). What a GAP without a checkpoint or without a bound would give is a free value
(assumption 36). -/
def declareGap (ledger cause input : Nat) (cp : Option Bytes) (s : State) : State :=
  let unb := cause != 0
  let secs := pn s 0x0F05 + 1
  let (boot, s1) := orFree (cp.map (fun b => (fieldAt b 92 4 : Int))) s
  let (sec, s2) := orFree (if unb then none else some (secs : Int)) s1
  let bound : Int := if unb then -1 else secs * (if ledger = 5 then 10000000 else 140000)
  let q := s2.log.nextSeq
  let p := leBytes 1 ledger ++ leBytes 1 cause ++ leBytes 1 (b2n unb) ++ leBytes 1 input ++
    leBytes 4 ((cp.map (fun b => fieldAt b 84 4)).getD 0xFFFFFFFF) ++ leInt 4 boot ++ leInt 4 sec ++ leInt 8 bound ++ leBytes 4 s.log.bootSeq ++ zeros 4
  let s4 := post 0x0F01 0 ledger q (appendRestored (makeRec 0x0A p s2) s2)
  onBg (fun b => if ledger = 5 then { b with gapCoulomb := true } else { b with gapEnergy := true }) s4

/-- GAP records for both inputs' energy. -/
def energyGaps (cause : Nat) (cp : Option Bytes) (s : State) : State := declareGap 6 cause 1 cp (declareGap 6 cause 0 cp s)

/-- The INTERVAL record of the amounts that a checkpoint left open (Table LED.5, third row). The source and the class of that
interval are not in the checkpoint: free values (assumption 36). -/
def openInterval (cp : Bytes) (s : State) : State :=
  let e := fun i => fieldAt cp (60 + 4 * i) 4
  let start := fieldAt cp 56 4
  let (act, s1) := drawFree s
  let (cls, s2) := drawFree s1
  let (src, s3) := drawFree s2
  let (hash, s4) := drawFree s3
  let p := intervalPayload start (fieldAt cp 84 4 - start) (act.natAbs % 256) 1 (e 0) (e 1) (cls.natAbs % 256) (src.natAbs % 256) (hash.natAbs % 0x100000000)
  let s5 := onEnergy (fun i x => { x with total := x.total + e i, opened := x.opened + e i }) s4
  appendRestored (makeRec 2 p s5) s5

/-- Restoration without a valid checkpoint (Table LED.5, fourth row). -/
def restoreNone (s : State) : State :=
  let all := intervalsAll s
  let s1 := onEnergy (fun i e => addEnergy (intervalSum s i all) 0 0 e) s
  let s2 := onBg (fun b => { b with lastIntervalSeq := maxOf (all.map (recSeq s)) }) s1
  energyGaps 1 none (declareGap 5 1 0xFF none s2)

/-- Restoration from a checkpoint (Table LED.5, rows one to three); the charge into the battery in a session that runs counts on (Table GEY.9). -/
def restoreFrom (cp : Bytes) (s : State) : State :=
  let final := bit (byteAt cp 28) 0
  let after := intervalsAfter s (fieldAt cp 68 4)
  let held := after.any (fun a => bit (readNat s (a + 16 + 7) 1) 4)
  let com := fun i => ((fieldAt cp (32 + 8 * i) 8 - fieldAt cp (60 + 4 * i) 4 : Nat) : Int) + intervalSum s i after
  let s1 := onBg (fun b => { b with coulomb := addCoulomb b.coulomb cp, lastIntervalSeq := maxOf (fieldAt cp 68 4 :: after.map (recSeq s)) })
    { s with chg := { s.chg with session := s.chg.session.map (fun x => { x with inStart := x.inStart + fieldAt cp 0 8 }) } }
  let s2 := onEnergy (fun i e => addEnergy (com i) (fieldAt cp (48 + 4 * i) 4) (fieldAt cp (96 + 4 * i) 4) e) s1
  let s3 := if final then s2 else declareGap 5 0 0xFF (some cp) s2
  if final || held then s3 else energyGaps 0 (some cp) (openInterval cp s3)

/-- The scrub passes go on where the checkpoint left them (R728, Table LED.3). -/
def restoreScrub (cp : Bytes) (s : State) : State :=
  onTask 2 (fun t => { t with progress := byteAt cp 113 % 64, fallen := byteAt cp 113 % 64 })
    (onTask 3 (fun t => { t with progress := byteAt cp 112, fallen := byteAt cp 112 })
    (onBg (fun b => { b with faSeconds := b.faSeconds + fieldAt cp 104 4, saSeconds := b.saSeconds + fieldAt cp 108 4 }) s))

/-- The Sinter counts (R744). -/
def restoreCounts (cp : Option Bytes) (s : State) : State :=
  let base := cp.getD (zeros 128)
  let since := ((allRecords s).filter (fun a => decide (fieldAt base 80 4 ≤ recSeq s a))).length
  let n := fieldAt base 72 8 + since
  { s with log := { s.log with appended := n, reclaimed := n - s.log.live - s.log.superseded } }

/-- Restoration of the persistent ledgers at the first NV_READY since POR (R742). `ship` holds what a SHIP record of this start
says: DURATION_UNKNOWN and MARKER_MISSING (R120). -/
def restoreLedgers (ship : Option (Bool × Bool)) (s : State) : State :=
  let cp := readTwo s tcCheckpoint
  let s1 := match cp with
    | some b => restoreScrub b (restoreFrom b s)
    | none => restoreNone s
  let s2 := match ship with
    | some (unknown, missing) =>
      let t := if unknown then declareGap 5 2 0xFF cp s1 else s1
      if missing then declareGap 5 3 0xFF cp t else t
    | none => s1
  onBg (fun b => { b with restored := true }) s2

/-! ### Commands (Table CMD.16) -/

/-- Four 64-bit terms. -/
def fourTerms (a b c d : Int) : Bytes := leInt 8 a ++ leInt 8 b ++ leInt 8 c ++ leInt 8 d

/-- The terms of a ledger, and whether its equation holds over them (R716, R729). -/
def ledgerTerms (l i : Nat) (s : State) : Bool × Bytes :=
  match l with
  | 0 =>
    let q := quota s i
    let o := (tenant s i).outstanding
    (decide (o ≤ q), fourTerms q (q - o : Nat) o 0)
  | 1 =>
    let t := tenant s i
    (t.posted == t.delivered + t.queue.length + t.overflowed, fourTerms t.posted t.delivered t.queue.length t.overflowed)
  | 2 =>
    let c := converter s i
    (true, fourTerms (c.completed + c.dropped : Nat) c.completed c.dropped c.abortRestart)
  | 3 =>
    let b := ringStatus i s
    (fieldAt b 8 8 == fieldAt b 16 8 + fieldAt b 24 8 + fieldAt b 32 8, bytesAt b 8 32)
  | 4 =>
    let g := s.log
    (g.appended == g.live + g.superseded + g.reclaimed, fourTerms g.appended g.live g.superseded g.reclaimed)
  | 5 =>
    let c := s.bg.coulomb
    ((c.inUc : Int) - c.outUc == c.net, fourTerms c.inUc c.outUc c.net c.residual)
  | _ =>
    let e := energy s i
    (e.total == e.committed + e.opened, fourTerms e.total e.committed e.opened e.closedCount)

/-- LEDGER_READ (R716, R729). -/
def ledgerReadBody (_r : Req) (pl : Bytes) (s : State) : Reply :=
  let l := byteAt pl 0
  let i := byteAt pl 1
  let x := ledgerTerms l i s
  let gap := if l = 5 then s.bg.gapCoulomb else if l = 6 then s.bg.gapEnergy else false
  .done stOk (leBytes 1 l ++ leBytes 1 i ++ leBytes 1 (bitsOf [x.1, gap]) ++ zeros 1 ++ x.2) s

/-- The indices that a ledger takes (Table CMD.16). -/
def ledgerIndex (l i : Nat) : Bool :=
  match l with
  | 0 => decide (i < 64)
  | 1 => decide (i < 64)
  | 2 => decide (i < 2)
  | 3 => decide (i < 4)
  | 4 => i == 0
  | 5 => i == 0
  | 6 => decide (i < 2)
  | _ => false

/-- LEDGER_READ. -/
def cmdLedgerRead : CmdDef :=
  { code := 0x0F00, caps := [capStatus], allow := allowAll, len := lenIs 2, range := fun b => ledgerIndex (byteAt b 0) (byteAt b 1), nv := false,
    modes := anyMode, body := ledgerReadBody }

/-- The answer of BACKGROUND: state, overruns, runs, durations and the core time of the last second. -/
def taskReport (i : Nat) (s : State) : Bytes :=
  let t := task s i
  let st := if taskEnabled s i = false then 0 else if t.running then 3 else if t.due then 2 else 1
  leBytes 1 i ++ leBytes 1 st ++ leBytes 2 t.overruns ++ leBytes 4 t.runs ++ leBytes 4 t.last ++ leBytes 4 t.longest ++
    leBytes 4 (((lastSecond s.clk.us t.recent).map (fun x => x.2)).sum)

/-- BACKGROUND (R720, R727). -/
def backgroundBody (_r : Req) (pl : Bytes) (s0 : State) : Reply :=
  let s := if fumaroleOn s0 then dispatch s0 else s0
  let i := byteAt pl 1
  if byteAt pl 0 = 0 then .done stOk (taskReport i s) s
  else if taskEnabled s i = false then refuse stRange s
  else if (task s i).running then refuse stBusy s
  else
    let s1 := onTask i (fun t => { t with due := true }) s
    .done stOk (taskReport i s1) s1

/-- BACKGROUND as the command table lists it: action 1 needs NV_CONFIG. -/
def cmdBackground (pl : Bytes) : CmdDef :=
  { code := 0x0F01, caps := [if byteAt pl 0 = 1 then capNvConfig else capStatus], allow := allowAll, len := lenIs 2,
    range := fun b => decide (byteAt b 0 ≤ 1) && decide (byteAt b 1 < 6), nv := false, modes := anyMode, body := backgroundBody }

/-- Bytes that the spec leaves open: each its own free value (assumption 16). -/
def openBytes : Nat → State → Bytes × State
  | 0, s => ([], s)
  | n + 1, s =>
    let d := drawFree s
    let r := openBytes n d.2
    (byte (d.1 % 256).toNat :: r.1, r.2)

/-- TELEMETRY_READ: the latest snapshot; before the first one its 48 bytes are free values (assumption 47). -/
def telemetryReadBody (_r : Req) (_pl : Bytes) (s : State) : Reply :=
  if s.bg.telemetry.isEmpty then
    let d := openBytes 48 s
    .done stOk d.1 d.2
  else .done stOk s.bg.telemetry s

/-- TELEMETRY_READ. -/
def cmdTelemetryRead : CmdDef :=
  { code := 0x0F02, caps := [capStatus], allow := allowAll, len := lenIs 0, range := anyRange, nv := false, modes := anyMode, body := telemetryReadBody }

end Sys2Proof.Machine
end

