-- ==== Sys2Proof/Machine/Commits.lean ====
section
/-! DEFINITION. Commits: write rights, safe-point conditions, cross-parameter rules, the procedure of R655, and what each block does
with a committed value (R640 to R648, R655 to R658, R660, R661, R772). -/

namespace Sys2Proof.Machine

/-! ### Rights and classes (R641, R648) -/

/-- The capability that a write of a parameter ID needs (Table PAR.4). -/
def writeCap (id : Nat) : Nat :=
  match id / 256 with
  | 0x01 => capNvConfig
  | 0x02 => capTenantAdmin
  | 0x04 => capSeqEdit
  | 0x05 => capSeqEdit
  | 0x06 => capMargin
  | 0x07 => if id ≤ 0x0705 then capNvConfig else capBanks
  | 0x08 => capCapture
  | 0x09 => capTags
  | 0x0A => capPower
  | 0x0B => capPower
  | 0x0C => capBanks
  | _ => capNvConfig

/-- The further limits of Table PAR.4: msr.* of Q6 and Q7, bank.share_read, bank.default_owner and bank.arb_weight. -/
def writeLimit (s : State) (n : Nat) (i : PInst) : Bool :=
  if 0x0706 ≤ i.id ∧ i.id ≤ 0x0708 ∧ 6 ≤ i.i1 then hasCap s n capNvConfig
  else if i.id = 0x0C01 then n == 0 || ((bank s i.i1).owner == n && (bank s i.i1).st == .owned)
  else if i.id = 0x0C02 ∨ i.id = 0x0C04 then n == 0
  else true

/-- A tenant may write an instance (R648). -/
def mayWrite (s : State) (n : Nat) (i : PInst) : Bool := hasCap s n (writeCap i.id) && writeLimit s n i

/-- The class of a parameter. -/
def classOf (id : Nat) : PClass := ((pInfo id).map (fun p => p.cls)).getD .factory

/-- The channels whose coefficients are the factory's (R290). -/
def factoryChannel (i : PInst) : Bool := (i.id == 0x0703 || i.id == 0x0704) && decide (0x30 ≤ i.i1) && decide (i.i1 ≤ 0x35)

/-- A write is refused with READ_ONLY (R641, R290, R619). -/
def readOnly (i : PInst) : Bool :=
  classOf i.id == .factory || classOf i.id == .counter || factoryChannel i || ((i.id == 0x0201 || i.id == 0x0204) && i.i1 == 63)

/-! ### Safe points that are conditions (R642) -/

/-- No sequence that runs converts a channel. -/
def notConverted (s : State) (ch : Nat) : Bool := !(List.range 8).any (converts s ch)

/-- No search step and no creep try is in its dwell (R443). -/
def betweenSteps (s : State) : Bool :=
  match s.inp.active with
  | some i => ((input s i).st != .search || s.inp.search.waiting) && s.inp.search.trying.isNone
  | none => true

/-- The NV engine is between steps 1 and 5 of R532 for no commit (R578). -/
def nvQuiet (s : State) : Bool := s.nv.commits.all (fun c => c.slot.isNone) && !s.nv.eeBusy

/-- A condition holds for the unit with index `u`; `edge` at a boundary between two search steps (R642). -/
def condHolds (edge : Bool) (s : State) (c : Cond) (u : Nat) : Bool :=
  match c with
  | .standbyNoTable => s.core.mode == .standby && s.eng.run.isNone
  | .tenantIdle => (sessionOf s u).isNone
  | .portIdle => true
  | .i3cNoAddr => s.i3c.dynAddr.isNone
  | .railOff => (railSt s u == .off || railSt s u == .parked) && s.eng.run.isNone
  | .noTable => s.eng.run.isNone
  | .noTableOutputsOff => s.eng.run.isNone && s.eng.outs.all (fun o => !o)
  | .marginOff => !(rail s u).margin.driving
  | .responsesQuiet => s.sup.executing == 0 && s.rails.all (fun x => !x.retryDue)
  | .auxNotConverted => notConverted s (0x18 + u)
  | .captureQuiet => s.cap.state == .disabled || s.cap.state == .armed || s.cap.state == .held
  | .seqStopped => !(seqOf s u).running
  | .detached => !(ringOf s u).attached
  | .tsNotConverted => notConverted s (0x28 + u)
  | .betweenSweeps => s.tags.flight == .idle
  | .betweenSteps => edge || betweenSteps s
  | .inputIdle => [InSt.absent, InSt.ready, InSt.blocked, InSt.disabled].contains (input s u).st
  | .chargerIdle => s.chg.phase == .suspended || s.chg.phase == .done || s.chg.phase == .maintain
  | .nvQuiet => nvQuiet s
  | .nvQuietWindow => nvQuiet s
  | .noSnapshot => true

/-- The safe point of one write lets it apply: a condition write waits for its condition, every other write never
waits (R643). -/
def writeReady (edge : Bool) (s : State) (w : PWrite) : Bool :=
  match classOf w.inst.id, pSafe w.inst with
  | .staged, .cond c => condHolds edge s c w.inst.i1
  | _, _ => true

/-! ### Cross-parameter rules (R655, R772) -/

/-- A rule that ties parameters together: the instances it names, and whether it holds. -/
structure Tie where
  insts : List PInst
  holds : Bool

/-- An instance with one index. -/
def at1 (i : Nat) (id : Nat) : PInst := { id := id, i1 := i, i2 := 0 }

/-- The committed number of an instance. -/
def cv (ps : ParamStore) (id : Nat) (i1 : Nat := 0) : Int := (pCommitted ps { id := id, i1 := i1, i2 := 0 }).int

/-- The thresholds of a rail: full scale, R131, R194, R221 (R772). -/
def railTies (ps : ParamStore) (r : Nat) : List Tie :=
  let g := fun id => cv ps id r
  let fs := fsOf (g 0x0404)
  let t := thresholdOf g
  let fast := fun id => quantSteps 512 fs (t id) * fs
  let pgOn := quantSteps 1024 fs (t 0x0407)
  let pgOff := quantSteps 1024 fs (t 0x0408)
  let slow := fun id => t id * 512
  { insts := [at1 r 0x0403, at1 r 0x0404], holds := decide (100 * g 0x0403 ≤ 85 * fs) } ::
  ([0x0407, 0x0408, 0x0501, 0x0502, 0x0504, 0x0505, 0x0506, 0x0507, 0x0603, 0x0604, 0x0605].map (fun id =>
    { insts := [at1 r id, at1 r 0x0404], holds := decide (g id ≤ fs) : Tie })) ++
  [{ insts := [0x0403, 0x0404, 0x0407, 0x0408, 0x040B].map (at1 r),
     holds := decide (pgOff + 2 ≤ pgOn) && decide (g 0x040B * 1024 < pgOff * fs) },
   { insts := [0x0403, 0x0404, 0x0501, 0x0502, 0x0504, 0x0505, 0x0506, 0x0507].map (at1 r),
     holds := decide (fast 0x0502 < slow 0x0505) && decide (t 0x0505 < t 0x0507) && decide (t 0x0507 < g 0x0403) &&
       decide (g 0x0403 < t 0x0506) && decide (t 0x0506 < t 0x0504) && decide (slow 0x0504 < fast 0x0501) &&
       decide (fast 0x0501 ≤ 512 * fs) },
   { insts := [0x0403, 0x0404, 0x0501, 0x0502, 0x0601, 0x0603, 0x0604].map (at1 r),
     holds := g 0x0601 != 1 || (decide (slow 0x0603 < fast 0x0501) && decide (fast 0x0502 < slow 0x0604)) }]

/-- Caldera's window and the measurement rules (R279, R320, R322, notes of Table MSR.10). -/
def msrTies (running : Nat → Bool) (ps : ParamStore) : List Tie :=
  { insts := [at1 0 0x0802, at1 0 0x0803], holds := decide (cv ps 0x0802 + cv ps 0x0803 ≤ 1024) } ::
  ((List.range 8).map (fun q =>
    { insts := [at1 q 0x0706, at1 q 0x0708, at1 0 0x0B0E],
      holds := descOk q (cv ps 0x0708 q).toNat (cv ps 0x0B0E).toNat (running q) (pCommitted ps (at1 q 0x0706)).bytes : Tie })) ++
  (((List.range 0x48).filter resultChannel).map (fun ch =>
    { insts := [at1 ch 0x070D, at1 ch 0x070E], holds := decide (cv ps 0x070E ch ≤ cv ps 0x070D ch) : Tie })) ++
  ((List.range 4).map (fun d =>
    { insts := [at1 d 0x0709, at1 d 0x070A],
      holds := cv ps 0x070A d == 0xFF || decide (cv ps 0x070A d + (cv ps 0x0709 d + 4095) / 4096 ≤ 52) : Tie })) ++
  ((List.range 4).map (fun d =>
    { insts := [at1 d 0x0709, at1 d 0x070C], holds := decide (cv ps 0x070C d ≤ cv ps 0x0709 d) : Tie }))

/-- The rules of the charger, the reservoir and the SMBus addresses (R485, Tables GEY.10, NVS.18 and HST.12). -/
def sysTies (ps : ParamStore) : List Tie :=
  let cells := cv ps 0x0B02
  let cut := if cv ps 0x0B11 ≠ 0 then cv ps 0x0B11 else cells * (if cv ps 0x0B01 = 1 then 2900 else 3000)
  let sys := if cv ps 0x0A11 ≠ 0 then cv ps 0x0A11 else cells * 2800
  [{ insts := [at1 0 0x0B11, at1 0 0x0A11, at1 0 0x0B01, at1 0 0x0B02], holds := decide (sys + 100 ≤ cut) },
   { insts := [at1 0 0x0B03, at1 0 0x0B01],
     holds := if cv ps 0x0B01 = 1 then decide (cv ps 0x0B03 ≤ 3650) else decide (3500 ≤ cv ps 0x0B03) },
   { insts := [at1 0 0x0D05, at1 0 0x0D06], holds := decide (cv ps 0x0D06 ≤ cv ps 0x0D05 - 1000) },
   { insts := [at1 0 0x0209, at1 0 0x0D04],
     holds := cv ps 0x0209 != cv ps 0x0D04 && cv ps 0x0209 != cv ps 0x0D04 + 1 }]

/-- Every cross-parameter rule, over committed values. -/
def allTies (running : Nat → Bool) (ps : ParamStore) : List Tie :=
  (List.range 24).flatMap (railTies ps) ++ msrTies running ps ++ sysTies ps

/-- The writes of a commit as a store holds them once it has applied. -/
def afterWrites (ws : List PWrite) (ps : ParamStore) : ParamStore := ws.foldl (applyWrite ps.epoch) ps

/-- The first write whose instance a broken rule names; a rule none of whose instances is written already held. -/
def crossFail (ws : List PWrite) (s : State) : Option PInst :=
  let ps := afterWrites ws s.par
  let bad := ((allTies (fun q => (seqOf s q).running) ps).filter (fun t => t.insts.any (touches ws))).filter (fun t => !t.holds)
  match bad with
  | [] => none
  | t :: _ => (ws.find? (fun w => t.insts.contains w.inst)).map (fun w => w.inst)

/-- At recall, the instances of every rule that fails over the recalled values revert to their defaults and count as skipped; the rules are
then checked over what is left (R663; DEDUCED, assumption 163). -/
def revertTies : Nat → ParamStore → ParamStore
  | 0, ps => ps
  | f + 1, ps =>
    let named := ((allTies (fun _ => false) ps).filter (fun t => !t.holds)).flatMap (fun t => t.insts)
    match ps.cells.filter (fun c => named.contains c.inst) with
    | [] => ps
    | c :: bad =>
      revertTies f
        { ps with
          cells := ps.cells.filter (fun x => !named.contains x.inst)
          skipped := ps.skipped + (bad.length + 1)
          firstSkipped := if ps.skipped = 0 then c.inst else ps.firstSkipped }

/-! ### The load strobe and the blocks (R645) -/

/-- A commit of chg.chemistry without gauge.ocv_table loads that chemistry's default table (R472). -/
def withTable (ws : List PWrite) : List PWrite :=
  match ws.find? (fun w => w.inst.id == 0x0B01) with
  | some w => if ws.any (fun x => x.inst.id == 0x0B12) then ws else ws ++ [{ inst := at1 0 0x0B12, value := .blob (ocvDefault w.value.int) }]
  | none => ws

/-- The slow limits and warning levels, which a 0 derives from rail.vnom_mv (Table SUP.3). -/
def slowIds : List Nat := [0x0504, 0x0505, 0x0506, 0x0507]

/-- What one written instance brings in its block at once; a new rail.vnom_mv moves the derived slow limits, whose counts restart (R221,
R243). -/
def blockTake (s : State) (i : PInst) : State :=
  match i.id with
  | 0x0401 => setSt i.i1 (rail s i.i1).st s
  | 0x0403 => onRail i.i1 (fun x => ((slowIds.filter (fun id => pv s id i.i1 == 0)).foldl (fun y id => restartFor id y) x)) s
  | 0x040C => if present s i.i1 then setSt i.i1 (rail s i.i1).st s else s
  | 0x050F => setOc i.i1 0 s
  | 0x0510 => setOc i.i1 0 s
  | 0x0707 => modeApply i.i1 s
  | 0x070F => if pn s 0x070F i.i1 = 0 then dropTripped i.i1 s else s
  | _ => s

/-- Whether a commit writes an area. -/
def writesArea (a : Nat) (ws : List PWrite) : Bool := ws.any (fun w => w.inst.id / 256 == a)

/-- What the blocks do with the values of a commit in the apply TICK. -/
def blocksTake (ws : List PWrite) (s : State) : State :=
  let s1 := settleChannels ((ws.map (fun w => w.inst)).foldl blockTake s)
  let s2 := if writesArea 8 ws || ws.any (fun w => w.inst.id == 0x0705) then capParams s1 else s1
  let s3 := if writesArea 0x0A ws then intakeParams (if betweenSteps s2 then stepQuiet s2 else s2) else s2
  if writesArea 0x0B ws then chgJudge s3 else s3

/-- A persisted write of gauge.full_mah goes into the gauge state (R660, R481). -/
def gaugePersist (ws : List PWrite) (s : State) : State :=
  match ws.find? (fun w => w.inst.id == 0x0B10) with
  | some w =>
    if s.gau.have_ then writeTwo tcGauge (gaugeBody (dropAnchor (onGau (fun g => { g with full := w.value.int * mahUc }) s))) s else s
  | none => s

/-- The writes of a commit that an image carries. -/
def imageWrites (ws : List PWrite) : List PWrite := ws.filter (fun w => w.inst.id != 0x0B10)

/-- The image write of a commit with PERSIST (R660, R661): the status and what follows. `fails` is the failure of the image
write. -/
def persistCommit (tenant : Nat) (fails : Bool) (ws : List PWrite) (s : State) : Nat × State :=
  let s1 := gaugePersist ws s
  let iw := imageWrites ws
  if iw.isEmpty then (stOk, s1)
  else if fails then (stHardware, persistFailed tenant iw s1)
  else (stOk, persist 0 tenant iw s1)

/-- A commit of sys.wake_sources leaves the old value to the WAKE_IN counts that run, of 33 AON cycles (R97, R125). -/
def noteWake (ws : List PWrite) (s : State) : State :=
  if ws.any (fun w => w.inst.id == 0x0102) then
    { s with core := { s.core with
      wakePast := (pn s 0x0102, s.clk.us) :: s.core.wakePast.filter (fun p => decide (s.clk.us ≤ p.2 + 1008)) } }
  else s

/-- A commit that sets bit 6 of sys.wake_sources acts at once, on the wake counts of the inputs too (R125). -/
def wakeOnNow (s : State) : State :=
  if bit (pn s 0x0102) 6 then { s with inp := { s.inp with inputs := s.inp.inputs.map (fun x => { x with wakeOn := x.wakeOn || x.wakeAt.isSome }) } }
  else s

/-- Apply a commit: the strobe, the blocks, and the image (R645, R655). -/
def applyCommit (tenant : Nat) (save fails : Bool) (ws0 : List PWrite) (s : State) : Nat × State :=
  let ws := withTable ws0
  let s1 := blocksTake ws (wakeOnNow (strobe ws (noteWake ws s)))
  if save then persistCommit tenant fails ws s1 else (stOk, s1)

/-! ### The procedure of R655 -/

/-- A LOCKED write among the writes. -/
def lockedWrite (ws : List PWrite) : Option PInst := (ws.find? (fun w => classOf w.inst.id == .locked)).map (fun w => w.inst)

/-- An instance that another commit claims, or that was committed after the base epoch (R655, R656). -/
def conflictOf (base : Nat) (ws : List PWrite) (s : State) : Option PInst :=
  (ws.find? (fun w =>
    s.par.waiting.any (fun c => touches c.writes w.inst) ||
      (match findCell s.par.cells w.inst with
       | some c => decide (base < c.epoch)
       | none => false))).map (fun w => w.inst)

/-- A write that would change nv.user_bp while nv.user_bp_lock is 1 (R538). -/
def protectLocked (ws : List PWrite) (s : State) : Bool :=
  pn s 0x0D02 == 1 && ws.any (fun w => w.inst.id == 0x0D01 && w.value.int != pv s 0x0D01)

/-- One check of a claimed commit (R655): none while it waits on, else its status, the first failing instance and the state. -/
def commitCheck (edge fails : Bool) (c : WaitCommit) (s : State) : Option (Nat × PInst × State) :=
  if c.overtaken then some (stConflict, firstInst c.writes, s)
  else if (lockedWrite c.writes).isSome ∧ s.core.mode ≠ .service then some (stModeForbids, (lockedWrite c.writes).getD noInst, s)
  else if protectLocked c.writes s then some (stNvProtected, at1 0 0x0D01, s)
  else if c.writes.all (writeReady edge s) then
    match crossFail c.writes s with
    | some i => some (stRange, i, s)
    | none =>
      if c.persist = true ∧ s.nv.resvMv < pv s 0x0D06 then some (stNvSupplyLow, firstInst c.writes, s)
      else
        let r := applyCommit c.tenant c.persist fails c.writes s
        some (r.1, noInst, r.2)
  else if c.deadline ≤ s.clk.us then
    some (if c.waitQuiet then stTimeout else stBusy, ((c.writes.find? (fun w => !writeReady edge s w)).map (fun w => w.inst)).getD noInst, s)
  else none

/-- The transaction of a tenant after a commit attempt: closed, or kept with its outcome (R652 to R655, R659). -/
def settleTxn (n st : Nat) (i : PInst) (s : State) : State :=
  onTenant n (fun t =>
    { t with txn := if st = stOk ∨ st = stConflict ∨ st = stHardware then none
                    else t.txn.map (fun x => { x with waiting := false, lastStatus := st, lastFail := i }) }) s

/-- An instance as commands carry it (R687). -/
def instBytes (i : PInst) : Bytes := leBytes 2 i.id ++ leBytes 1 i.i1 ++ leBytes 1 i.i2

/-- The answer's payload (Table CMD.6). -/
def commitAnswer (direct : Bool) (st : Nat) (i : PInst) (s : State) : Bytes :=
  if st = stOk then (if direct then [byte 1, byte 0, byte 0, byte 0] ++ leBytes 8 s.par.epoch else leBytes 8 s.par.epoch)
  else if !direct && (st == stConflict || st == stRange || st == stModeForbids) then instBytes i
  else []

/-- The command code of a commit. -/
def commitCode (direct : Bool) : Nat := if direct then 0x0301 else 0x0304

/-- A waiting commit ends (R655, R657): its transaction, and its answer or OP_COMPLETE. -/
def endCommit (c : WaitCommit) (st : Nat) (i : PInst) (s : State) : State :=
  let s1 := if c.direct then s else settleTxn c.tenant st i s
  let code := commitCode c.direct
  if c.async then
    returnIf c.credit c.tenant (postOwn c.tenant 0x0F03 (code % 256) (code / 256) (opArg c.tenant c.seq st) s1)
  else respond c.port c.tenant c.seq st (commitAnswer c.direct st i s1) (some c.accepted) c.credit s1

/-- Check the waiting commits in their acceptance order (R657). -/
def commitPollList (edge fails : Bool) : List WaitCommit → State → State
  | [], s => s
  | c :: cs, s =>
    match commitCheck edge fails c { s with par := { s.par with waiting := s.par.waiting.erase c } } with
    | none => commitPollList edge fails cs s
    | some (st, i, s1) => commitPollList edge fails cs (endCommit c st i s1)

/-- COMMIT_WAIT_CHECK: the check of every TICK (R655, R657). The core runs it. `fails` says that the image writes of this TICK fail (R661). -/
def commitPoll (edge fails : Bool) (s : State) : State := if fwWorks s then commitPollList edge fails s.par.waiting s else s

/-- A boundary between search steps is a TICK in which a waiting commit may find "Between steps" (R642). -/
def atBoundary (s : State) : State := if s.par.waiting.isEmpty || !stepEnds s then s else commitPoll true false s

/-- Begin a commit (R655): refused at its conflict check, ended at its first check, or left waiting with its claim. -/
def commitBegin (direct : Bool) (base : Nat) (ws : List PWrite) (r : Req) (s : State) : Reply :=
  let close := fun (st : Nat) (i : PInst) (t : State) => if direct then t else settleTxn r.tenant st i t
  match conflictOf base ws s with
  | some i => .done stConflict (commitAnswer direct stConflict i s) (close stConflict i s)
  | none =>
    if r.persist ∧ !imageFits s (imageWrites (withTable ws)) then .done stNvFull [] (close stNvFull (firstInst ws) s)
    else
      let s1 := takeOcc .commitAccepted s
      let c : WaitCommit :=
        { port := r.port, tenant := r.tenant, seq := r.seq, direct := direct, async := r.asyncOk && r.waitQuiet, writes := ws,
          persist := r.persist, waitQuiet := r.waitQuiet,
          deadline := s1.clk.us + (if r.waitQuiet then pn s1 0x010F * 1000 else 0), overtaken := false, credit := true,
          accepted := s1.clk.us }
      match commitCheck false (r.env.headD 0 != 0) c s1 with
      | some (st, i, s2) => .done st (commitAnswer direct st i s2) (close st i s2)
      | none =>
        let s2 := { s1 with par := { s1.par with waiting := s1.par.waiting ++ [c] } }
        let s3 := if direct then s2 else onTenant r.tenant (fun t => { t with txn := t.txn.map (fun x => { x with waiting := true }) }) s2
        if c.async then .accepted s3 else .owed s3

end Sys2Proof.Machine
end

