-- ==== Sys2Proof/Machine/Transactions.lean ====
section
/-! DEFINITION. The parameter and transaction commands (R649 to R655, R659, R665, R666, R687 to R689). -/

namespace Sys2Proof.Machine

/-! ### PARAM_GET (R649, R688) -/

/-- Parameters whose value 0 stands for a derived one (R639). -/
def derivable (id : Nat) : Bool :=
  [0x0407, 0x0408, 0x0501, 0x0502, 0x0504, 0x0505, 0x0506, 0x0507, 0x0603, 0x0604, 0x0605, 0x0A03, 0x0A0B, 0x0A11, 0x0B11].contains id

/-- A quantised threshold in whole mV, rounded to the nearest (R130, R199, R688). -/
def quantMv (n fs v : Int) : Int := (2 * quantSteps n fs v * fs + n) / (2 * n)

/-- A value that firmware counts or the factory fixed (COUNTER and FACTORY classes, R290, R658). -/
def countedValue (s : State) (i : PInst) : Option Int :=
  if factoryChannel i then some (Config.factoryCoef i.id i.i1)
  else match i.id with
    | 0x010C => some s.par.epoch
    | 0x010D => some s.core.bootCount
    | 0x010E => some (3 * 0x1000000 + slotBuild s s.core.slot % 0x1000000)
    | 0x0B16 => some s.gau.cycle
    | _ => none

/-- The number that a block uses for an instance (R639, R688). -/
def effective (s : State) (i : PInst) : Int :=
  let fs := fullScale s i.i1
  match i.id with
  | 0x0407 => quantMv 1024 fs (threshold s 0x0407 i.i1)
  | 0x0408 => quantMv 1024 fs (threshold s 0x0408 i.i1)
  | 0x0501 => quantMv 512 fs (threshold s 0x0501 i.i1)
  | 0x0502 => quantMv 512 fs (threshold s 0x0502 i.i1)
  | 0x0504 => threshold s 0x0504 i.i1
  | 0x0505 => threshold s 0x0505 i.i1
  | 0x0506 => threshold s 0x0506 i.i1
  | 0x0507 => threshold s 0x0507 i.i1
  | 0x0603 => threshold s 0x0603 i.i1
  | 0x0604 => threshold s 0x0604 i.i1
  | 0x0605 => threshold s 0x0605 i.i1
  | 0x0A03 => floorEff s i.i1
  | 0x0A0B => ovEff s i.i1
  | 0x0A11 => sysMin s
  | 0x0B11 => vcut s
  | _ => pv s i.id i.i1 i.i2

/-- The value in force as PARAM_GET returns it. -/
def shownValue (s : State) (i : PInst) : PVal :=
  match pInForce s.par i with
  | .blob b => .blob b
  | .num _ => .num (effective s i)

/-- The write of an instance that a tenant has staged. -/
def stagedWrite (s : State) (n : Nat) (i : PInst) : Option PWrite :=
  ((tenant s n).txn).bind (fun t => t.writes.find? (fun w => w.inst == i))

/-- The instance field of a payload (R687). -/
def instOf (pl : Bytes) : PInst := { id := fieldAt pl 0 2, i1 := byteAt pl 2, i2 := byteAt pl 3 }

/-- The indices of an instance lie in the range of Table PAR.1; an ID that does not exist is judged elsewhere (R637). -/
def indexOk (i : PInst) : Bool :=
  match pInfo i.id with
  | some p => idxOk p.idx i.i1 && idx2Ok p.idx i.i2
  | none => true

/-- PARAM_GET's payload (Table CMD.6). -/
def paramShow (s : State) (n : Nat) (p : PInfo) (i : PInst) : Bytes :=
  let cell := findCell s.par.cells i
  let cnt := countedValue s i
  let com := pBytes p.typ (match cnt with | some v => .num v | none => pCommitted s.par i)
  let inf := pBytes p.typ (match cnt with | some v => .num v | none => shownValue s i)
  let stg := match stagedWrite s n i with
    | some w => pBytes p.typ w.value
    | none => []
  let flags := bitsOf [(cell.map (fun c => c.pending)).getD false, derivable i.id && pInForce s.par i == .num 0,
    (overlayOf s.par i).isSome, (stagedWrite s n i).isSome]
  instBytes i ++ [byte p.typ.code, byte flags] ++ leBytes 8 ((cell.map (fun c => c.epoch)).getD 0) ++
    [byte com.length, byte inf.length, byte stg.length, byte 0] ++ com ++ inf ++ stg

/-- PARAM_GET (R649). -/
def paramGetBody (r : Req) (pl : Bytes) (s : State) : Reply :=
  let i := instOf pl
  match pInfo i.id with
  | none => refuse stUnknownParam s
  | some p => .done stOk (paramShow s r.tenant p i) s

/-- PARAM_GET (Table CMD.6). -/
def cmdParamGet : CmdDef :=
  { code := 0x0300, caps := [capStatus], allow := allowAll, len := lenIs 4, range := fun b => indexOk (instOf b), nv := false,
    modes := anyMode, body := paramGetBody }

/-! ### PARAM_INFO (R651, R688) -/

/-- The lowest instance of a parameter. -/
def lowestIdx (x : PIdx) : Nat × Nat :=
  match x with
  | .railFault => (0, 1)
  | .globalFault => (0x0C, 0)
  | .bank => (8, 0)
  | _ => (0, 0)

/-- The largest S64. -/
def s64Max : Int := 0x7FFFFFFFFFFFFFFF

/-- PARAM_INFO's range fields: minimum, maximum, step, default (R688). -/
def infoRange (p : PInfo) : Bytes :=
  let sized := p.typ == .text || p.typ == .blob
  let lo := if p.zeroOk then 0 else p.lo
  let d := if sized then 0 else (pDefault p (lowestIdx p.idx).1 (lowestIdx p.idx).2).int
  let st := if sized || p.id == 0x0709 || p.id == 0x0A10 then 0 else p.step
  leInt 8 lo ++ leInt 8 (min (max p.hi (p.alt.getD p.hi)) s64Max) ++ leInt 8 st ++ leInt 8 d

/-- The characters of a unit that fit whole into `n` bytes. -/
def unitChars : Nat → List Char → List Char
  | _, [] => []
  | n, c :: cs => if c.utf8Size ≤ n then c :: unitChars (n - c.utf8Size) cs else []

/-- The bytes of a unit in UTF-8, cut after a whole character and padded to 8 (Table CMD.6; assumption 48). -/
def unitBytes (u : String) : Bytes :=
  padTo 8 ((String.ofList (unitChars 8 u.toList)).toUTF8.data.toList.map (fun b => BitVec.ofNat 8 b.toNat))

/-- The payload of PARAM_INFO (Table CMD.6). -/
def infoBytes (p : PInfo) : Bytes :=
  let sized := p.typ == .text || p.typ == .blob
  let kind := match p.safe with
    | .cond _ => 0
    | .occ .step => 0
    | .occ _ => 1
  leBytes 2 p.id ++
    [byte p.cls.code, byte p.typ.code, byte (if sized then p.hi.toNat else p.typ.size), byte kind, byte (writeCap p.id),
     byte (bitsOf [derivable p.id, p.idx != .none, p.idx == .railFault]), byte (idxMax p.idx),
     byte (if p.idx == .railFault then 0x0C else 0)] ++ zeros 6 ++ infoRange p ++ unitBytes p.unit

/-- PARAM_INFO (R651). -/
def paramInfoBody (_r : Req) (pl : Bytes) (s : State) : Reply :=
  match pInfo (fieldAt pl 0 2) with
  | none => refuse stUnknownParam s
  | some p => .done stOk (infoBytes p) s

/-- PARAM_INFO (Table CMD.6). -/
def cmdParamInfo : CmdDef :=
  { code := 0x0302, caps := [capStatus], allow := allowAll, len := lenIs 2, range := anyRange, nv := false, modes := anyMode,
    body := paramInfoBody }

/-! ### PARAM_SET (R641, R648, R650, R653, R689) -/

/-- A descriptor that some converter and some chg.ts_channel allow (R320, R772). -/
def descSomewhere (i1 : Nat) (v : PVal) : Bool :=
  (List.range 2).any (fun conv => (List.range 8).any (fun ts => descOk i1 conv ts false v.bytes))

/-- A value lies in the home range on its own (R653, R772). -/
def valueAlone (p : PInfo) (i : PInst) (v : PVal) : Bool := pInRange p i.i1 v && (i.id != 0x0706 || descSomewhere i.i1 v)

/-- The value bytes of a PARAM_SET payload. -/
def setValue (pl : Bytes) : Bytes := pl.drop 6

/-- Check 4 for PARAM_SET: indices, length, type and home range; the reserved byte (R15, R637, R638, R689). -/
def setRange (pl : Bytes) : Bool :=
  let i := instOf pl
  byteAt pl 5 == 0 &&
    (match pInfo i.id with
     | none => true
     | some p =>
       indexOk i &&
         (match pParse p (setValue pl) with
          | none => false
          | some v => readOnly i || valueAlone p i v))

/-- The right to write, with NV_CONFIG for a direct set with PERSIST (R648). An unknown ID has no right to check. -/
def setAllowed (s : State) (r : Req) (pl : Bytes) : Bool :=
  let i := instOf pl
  (pInfo i.id).isNone || (mayWrite s r.tenant i && (!r.persist || (tenant s r.tenant).txn.isSome || hasCap s r.tenant capNvConfig))

/-- The stage bytes of a write (R653). -/
def stageSize (w : PWrite) : Nat := roundUp (6 + (writeBytesOf w).length) 4

/-- The stage bytes of a transaction. -/
def stageUsed (ws : List PWrite) : Nat := (ws.map stageSize).sum

/-- A write added to a stage, or in the place of an earlier write of its instance (R653). -/
def stagePut (w : PWrite) : List PWrite → List PWrite
  | [] => [w]
  | x :: xs => if x.inst = w.inst then w :: xs else x :: stagePut w xs

/-- PARAM_SET within the tenant's transaction (R653). -/
def stageWrite (n : Nat) (t : Txn) (w : PWrite) (s : State) : Reply :=
  if t.waiting then refuse stBusy s
  else
    let ws := stagePut w t.writes
    if 128 < ws.length ∨ 4096 < stageUsed ws then refuse stTxnLimit s
    else .done stOk ([byte 0, byte 0] ++ leBytes 2 (stageUsed ws) ++ zeros 8) (onTenant n (fun x => { x with txn := some { t with writes := ws } }) s)

/-- A PARAM_SET, a TXN_STATUS or a TXN_COMMIT of a tenant starts the idle time of its transaction anew (R654). -/
def useTxn (n : Nat) (s : State) : State := onTenant n (fun t => { t with txn := t.txn.map (fun x => { x with usedAt := s.clk.us }) }) s

/-- PARAM_SET (R641, R650): staged, or a direct set committed under R655. -/
def paramSetBody (r : Req) (pl : Bytes) (s0 : State) : Reply :=
  let s := useTxn r.tenant s0
  let i := instOf pl
  match (pInfo i.id).bind (fun p => pParse p (setValue pl)) with
  | none => refuse stUnknownParam s
  | some v =>
    if readOnly i then refuse stReadOnly s
    else if classOf i.id = .locked ∧ s.core.mode ≠ .service then refuse stModeForbids s
    else if protectLocked [{ inst := i, value := v }] s then refuse stNvProtected s
    else
      let w : PWrite := { inst := i, value := v }
      match (tenant s r.tenant).txn with
      | some t => stageWrite r.tenant t w s
      | none => commitBegin true s.par.epoch [w] r s

/-- PARAM_SET (Table CMD.6) for a payload at a state. -/
def cmdParamSet (s : State) : CmdDef :=
  { code := 0x0301, caps := [], allow := setAllowed s, len := fun b => decide (6 ≤ b.length) && b.length == 6 + byteAt b 4,
    range := setRange, nv := false, modes := anyMode, body := paramSetBody }

/-! ### Transactions (R652 to R655, R659) -/

/-- Transactions that are open across the device (R652). -/
def openTxns (s : State) : Nat := (s.tenants.toList.filter (fun t => t.txn.isSome)).length

/-- TXN_BEGIN (R652). -/
def txnBeginBody (r : Req) (_pl : Bytes) (s : State) : Reply :=
  if (tenant s r.tenant).txn.isSome ∨ 8 ≤ openTxns s then refuse stTxnLimit s
  else
    .done stOk (leBytes 8 s.par.epoch)
      (onTenant r.tenant (fun t => { t with txn := some { base := s.par.epoch, writes := [], waiting := false, lastStatus := 0, lastFail := noInst, usedAt := s.clk.us } }) s)

/-- TXN_BEGIN (Table CMD.6). -/
def cmdTxnBegin : CmdDef :=
  { code := 0x0303, caps := [capStatus], allow := allowAll, len := lenIs 0, range := anyRange, nv := false, modes := anyMode, body := txnBeginBody }

/-- TXN_COMMIT (R655). A commit that already waits answers BUSY_RUNNING. -/
def txnCommitBody (r : Req) (_pl : Bytes) (s0 : State) : Reply :=
  let s := useTxn r.tenant s0
  match (tenant s r.tenant).txn with
  | none => refuse stNoTxn s
  | some t => if t.waiting then refuse stBusy s else commitBegin false t.base t.writes r s

/-- TXN_COMMIT (Table CMD.6): PERSIST also needs NV_CONFIG (R648). -/
def cmdTxnCommit (s : State) : CmdDef :=
  { code := 0x0304, caps := [capStatus], allow := fun r _ => !r.persist || hasCap s r.tenant capNvConfig, len := lenIs 0,
    range := anyRange, nv := false, modes := anyMode, body := txnCommitBody }

/-- TXN_ROLLBACK (R654). -/
def txnRollbackBody (r : Req) (_pl : Bytes) (s : State) : Reply :=
  match (tenant s r.tenant).txn with
  | none => refuse stNoTxn s
  | some t => if t.waiting then refuse stBusy s else .done stOk [] (onTenant r.tenant (fun x => { x with txn := none }) s)

/-- TXN_ROLLBACK (Table CMD.6). -/
def cmdTxnRollback : CmdDef :=
  { code := 0x0305, caps := [capStatus], allow := allowAll, len := lenIs 0, range := anyRange, nv := false, modes := anyMode, body := txnRollbackBody }

/-- TXN_STATUS (R659). -/
def txnStatusBody (r : Req) (_pl : Bytes) (s0 : State) : Reply :=
  let s := useTxn r.tenant s0
  match (tenant s r.tenant).txn with
  | none => refuse stNoTxn s
  | some t =>
    .done stOk ([byte 1, byte (b2n t.waiting), byte t.writes.length, byte 0] ++ leBytes 2 (stageUsed t.writes) ++
      leBytes 2 t.lastStatus ++ leBytes 8 t.base ++ instBytes t.lastFail) s

/-- TXN_STATUS (Table CMD.6). -/
def cmdTxnStatus : CmdDef :=
  { code := 0x0306, caps := [capStatus], allow := allowAll, len := lenIs 0, range := anyRange, nv := false, modes := anyMode, body := txnStatusBody }

/-- TXN_IDLE_TIMEOUT: 300 s with no PARAM_SET, TXN_STATUS or TXN_COMMIT (R654). A commit that waits holds it. -/
def txnIdleTimeout (n : Nat) (s : State) : State :=
  if fwWorks s then
    onTenant n (fun t => { t with txn := t.txn.filter (fun x => x.waiting || decide (s.clk.us < x.usedAt + 300000000)) }) s
  else s

/-! ### CONFIG_FACTORY (R665, R666) -/

/-- An entry that the restored image keeps (R665). -/
def keepEntry (options : Nat) (service : Bool) (e : ImageEntry) : Bool :=
  (bit options 0 && e.inst.id / 256 == 2) || (bit options 1 && (e.inst.id == 0x0703 || e.inst.id == 0x0704)) ||
    (bit options 2 && e.inst.id == 0x04F0) || (!service && ((pInfo e.inst.id).map (fun p => p.cls)) == some .locked)

/-- The body of the restored image. -/
def factoryImage (options : Nat) (s : State) : Bytes :=
  ((parseEntries s.par.base.length s.par.base).1.filter (keepEntry options (s.core.mode == .service))).flatMap entryBytes

/-- CONFIG_FACTORY (R665, R666). `env` tells of an image write that failed (R661; assumption 3). -/
def configFactoryBody (r : Req) (pl : Bytes) (s : State) : Reply :=
  if !s.par.waiting.isEmpty then refuse stBusy s
  else if s.nv.resvMv < pv s 0x0D06 then refuse stNvSupplyLow s
  else
    let body := factoryImage (byteAt pl 0) s
    if r.env.headD 0 != 0 then
      .done stHardware [] (configRecord 5 r.tenant (imageTarget s) (byteAt pl 0) (nextImageGen s) 0 0 0 noInst body.length
        (faWrite (imageAddr (imageTarget s)) (zeros 4) s))
    else .done stOk [] (configRecord 3 r.tenant (imageTarget s) (byteAt pl 0) (nextImageGen s) 0 0 0 noInst body.length (writeImage body s))

/-- CONFIG_FACTORY (Table CMD.6). -/
def cmdConfigFactory : CmdDef :=
  { code := 0x0307, caps := [capNvConfig], allow := fun r _ => r.tenant == 0 || r.tenant == 63, len := lenIs 1,
    range := fun b => decide (byteAt b 0 ≤ 7), nv := true, modes := fun _ m => m == .standby || m == .service, body := configFactoryBody }

end Sys2Proof.Machine
end

