-- ==== Sys2Proof/Machine/Modes.lean ====
section
/-! DEFINITION. Modes: MODE_REQUEST, SHIP_ARM, TIME_SET, STATUS, IDENTIFY, CORE_RESET, the power button, wake inputs, and SHIP
entry (R87 to R96, R101 to R104, R110 to R118, R679 to R681). -/

namespace Sys2Proof.Machine

/-- Change the core block. -/
def onCore (f : CoreBlk → CoreBlk) (s : State) : State := { s with core := f s.core }

/-- Change the AON domain. -/
def onAon (f : Aon → Aon) (s : State) : State := { s with aon := f s.aon }

/-! ### MODE_REQUEST (R88, R92, R94, R680) -/

/-- What MODE_REQUEST does about a transition. -/
inductive ModeMove where
  | forbid
  | busy
  | already
  | table (n : Nat)
  | enter
  | leave
deriving DecidableEq, Repr

/-- A service exit, or the table it runs, is under way. -/
def exitRuns (s : State) : Bool := s.core.serviceExit != .none || s.eng.run.isSome

/-- The move of a request in STANDBY: TBL0 asks for RUN (R88), and R92 stands before the mode. -/
def standbyMove (s : State) (target : Nat) : ModeMove :=
  if target = 1 then (if runningTable s = 0 then .busy else .already)
  else if target = 2 then
    if runningTable s = 1 then .busy
    else if !startAllowed s 0 then .forbid
    else if s.eng.run.isSome then .busy
    else .table 0
  else if s.core.shipEntry ≠ .none then .forbid
  else if s.eng.run.isSome then .busy
  else .enter

/-- The move of a request in RUN. -/
def runMove (s : State) (target : Nat) : ModeMove :=
  if target = 2 then (if runningTable s = 1 then .busy else .already)
  else if target = 1 then
    if !startAllowed s 1 then .forbid
    else if s.eng.run.isSome then .busy
    else .table 1
  else .forbid

/-- The move of a request in SERVICE: only tenant 63 leaves it (Table MOD.2), and RUN while the exit's TBL1 runs finds it running (R92). -/
def serviceMove (s : State) (target tenant : Nat) : ModeMove :=
  if target = 3 then .already
  else if target = 2 ∧ runningTable s = 1 then .busy
  else if target = 1 ∧ tenant = 63 ∧ s.core.shipEntry ≠ .begun then (if exitRuns s then .busy else .leave)
  else .forbid

/-- The move of MODE_REQUEST. -/
def modeMove (s : State) (target tenant : Nat) : ModeMove :=
  match s.core.mode with
  | .standby => standbyMove s target
  | .run => runMove s target
  | .service => serviceMove s target tenant
  | .ship => .forbid

/-- MODE_REQUEST. Entering SERVICE runs no table: byte 9 of its MODE record, for which Table MOD.6 gives no value, is 0 (DESIGN CHOICE,
assumption 148). -/
def modeRequestBody (r : Req) (pl : Bytes) (s : State) : Reply :=
  match modeMove s (byteAt pl 0) r.tenant with
  | .forbid => refuse stModeForbids s
  | .busy => refuse stBusy s
  | .already => .done stOk [byte 2] s
  | .table n => .done stOk [byte 0] (engineStart n 0 r.tenant s)
  | .enter => .done stOk [byte 1] (changeMode .service 0 r.tenant 0xFF 0 s)
  | .leave => .done stOk [byte 0] (serviceExitBy 0 r.tenant s)

/-- MODE_REQUEST (Table CMD.4): RAIL_CTL; target 3 needs SERVICE and tenant 63. -/
def cmdModeRequest : CmdDef :=
  { code := 0x0102, caps := [capRailCtl], allow := fun r pl => byteAt pl 0 != 3 || r.tenant == 63, len := lenIs 1,
    range := fun b => decide (1 ≤ byteAt b 0) && decide (byteAt b 0 ≤ 3), nv := false, modes := anyMode, body := modeRequestBody }

/-- MODE_REQUEST as its payload calls for it: target 3 also asks for the capability SERVICE. -/
def cmdModeRequestFor (pl : Bytes) : CmdDef :=
  if byteAt pl 0 = 3 then { cmdModeRequest with caps := [capRailCtl, capService] } else cmdModeRequest

/-! ### SHIP_ARM and SHIP entry (R110 to R118) -/

/-- The armed state ends, and with it an entry that it asked for and that has not begun (R113). -/
def disarm (s : State) : State :=
  let s1 := onAon (fun a => { a with armed := false }) s
  if s.core.shipEntry = .requested ∧ s.core.shipCause = 1 then onCore (fun c => { c with shipEntry := .none }) s1 else s1

/-- SHIP_ARM (R111 to R113). With no qualified input SHIP entry begins at once. -/
def shipArmBody (r : Req) (pl : Bytes) (s : State) : Reply :=
  if byteAt pl 0 = 1 then
    if s.aon.armed then .done stOk [byte 2] (disarm s) else .done stOk [byte 3] s
  else if s.core.shipEntry ≠ .none then .done stOk [byte 0] s
  else
    let s1 := onCore (fun c => { c with shipTenant := r.tenant }) s
    if anyQualified s || s.inp.path == .handover then .done stOk [byte 1] (onAon (fun a => { a with armed := true }) s1)
    else .done stOk [byte 0] (onCore (fun c => { c with shipEntry := .requested, shipCause := 0 }) s1)

/-- SHIP_ARM. -/
def cmdShipArm : CmdDef :=
  { code := 0x0103, caps := [capPower], allow := allowAll, len := lenIs 1, range := fun b => decide (byteAt b 0 ≤ 1), nv := false,
    modes := stbRun, body := shipArmBody }

/-- The bring-up, pending joins and pending retries end with the begin of SHIP entry (R126). -/
def stopStarts (s : State) : State :=
  cancelRetries (allRails.foldl cancelJoin { s with eng := { s.eng with bringWait := none, bringUp := [], reqPend := [] } })

/-- SHIP_ENTRY_BEGIN (R114): MODE_CHANGED with target code 0, whose cause Table MOD.7 does not list (a free value, assumption 36).
Every asserted output is deasserted (R157), and the sequences stop (R325). In RUN TBL1 runs; any other running table stops. The wake threshold is latched (Table MOD.8).
An armed device whose source went while it was in SERVICE enters once it is in STANDBY (R88; assumption 64). -/
def shipEntryBegin (s0 : State) : State :=
  let s := shipCheck s0
  if s.core.shipEntry = .requested ∧ s.core.mode ≠ .service then
    let d := drawFree s
    let s1 := post 0x0101 0 0 (modeArg s.core.mode.code 0 (d.1 % 256).toNat s.core.shipTenant) d.2
    let s3 := onAon (fun a => { a with armed := false }) (latchWakeVin s1)
    let s4 := shipStop (outsOff (stopStarts (onCore (fun c => { c with shipEntry := .begun }) s3)))
    let s5 := if runningTable s4 = 1 then s4 else endRun (.stopped 2) s4
    if s5.core.mode = .run ∧ runningTable s5 ≠ 1 then engineStart 1 0 s5.core.shipTenant s5 else s5
  else s

/-- The rails still asserted, in descending order. -/
def railsDown (s : State) : List Nat := (allRails.filter (fun r => (rail s r).en)).reverse

/-- The ship-entry marker's copy before its generation (Table MOD.10). A battery voltage that was never measured is a free value
(assumption 36). -/
def shipMarker (s : State) : Bytes × State :=
  let (v, t) := lastResult 0x45 s
  (leBytes 1 1 ++ leBytes 1 s.core.shipCause ++ leInt 2 v ++ leBytes 4 s.aon.rtc ++ leBytes 4 s.core.bootCount ++ leBytes 4 (tick s) ++
    zeros 40, t)

/-- The closing commits of SHIP entry: the interval, the final checkpoint, the marker; each only with RESV at its threshold
(R533, R114 to R117). An erase under way completes first. A core that is not running skips them (R118). -/
def shipCommits (s : State) : State :=
  if fwRuns s then
    let e := eraseEnds s
    let s0 := heldGo { e with fw := { e.fw with erasing := false } }
    let s1 := if s0.bg.restored && supplyOk s0 64 then closeInterval false s0 else s0
    let s2 := if s1.bg.restored && supplyOk s1 128 then fullCheckpoint 3 s1 else s1
    if supplyOk s2 64 then
      let m := shipMarker s2
      writeTwo tcShip m.1 m.2
    else s2
  else s

/-- A frame of every sequence is cut. -/
def cutFrames (s : State) : State := (List.range 8).foldl (fun t q => frameCut q t) s

/-- A rotation step that a loss of lock or hold-up cuts is abandoned: the spare has its coefficients from before, and no swap takes place; the
next step begins with its calibration (R297). Every conversion is cut. -/
def cutRotation (c : Converter) : Converter :=
  { c with swapDue := false, due := none, slots := c.slots.map (fun _ => []), spareWas := none,
           coef := match c.spareWas with
             | some k => if c.swapDue then c.coef.set c.spare k else c.coef
             | none => c.coef }

/-- Fault-verify conversions in progress are cut, and count as dropped (R330). -/
def cutVerify (s : State) : State :=
  let v := s.sup.verify
  countDrop v.length 0 { s with sup := { s.sup with verify := [] } }

/-- What runs on CNV stops: frames, urgent requests, rotation steps (R34, R41, R297, R330). -/
def stopConverters (s : State) : State := onConv 1 cutRotation (onConv 0 cutRotation (cutVerify (cutFrames (catchUp s))))

/-- A rail's outputs without supply: Pnn_EN low, Pnn_DS open, Pnn_MG high impedance (Table BAL.12). -/
def unpoweredRail (x : Rail) : Rail :=
  { x with st := .off, en := false, ds := false, margin := { x.margin with driving := false, code := 0 } }

/-- The core domain loses its supply: what it drove goes with it (R87, R158, R27, Table ARC.4). -/
def supplyOff (s : State) : State :=
  let s1 := pipeStop (stopConverters (shipStop (leaveService (outsOff s))))
  { s1 with
    aon := { s1.aon with armed := false, shipLatch := true }
    core := { s1.core with mode := .ship, run := .inReset, ready := false, nvReady := false, resetDue := none, shipEntry := .none,
                           serviceExit := .none, vaux := false, batFet := false, clkOut := false }
    ports := s1.ports.map (fun _ => Port.atReset)
    nv := { s1.nv with boost := false }
    eng := { s1.eng with driven := false }
    tags := { s1.tags with flight := .idle }
    supply := { vauxFold := false, bmdFold := false }
    rails := s1.rails.map unpoweredRail
    inp := { s1.inp with path := .off, active := none } }

/-- One rail of SHIP entry goes off: its wait ends with the rail below rail.off_mv, or at rail.toff_max_us with TOFF_MAX on the rails that
`late` names (R114, R132). -/
def shipRailDown (late : List Nat) (s : State) (r : Nat) : State :=
  let s1 := disableRail r s
  if late.contains r && (rail s1 r).toffRun then toffMax r [] s1 else fellBelow r s1

/-- SHIP_ENTRY_FINISH (R114, R117, R118): once TBL1 has ended, the remaining rails go off in descending order, the charger stops,
the commits are made, and VAUX and the battery FET turn off. `late` names the rails that have not fallen below rail.off_mv within
rail.toff_max_us. -/
def shipEntryFinish (late : List Nat) (s : State) : State :=
  if s.core.shipEntry = .begun ∧ s.eng.run.isNone then
    supplyOff (shipCommits (setPoint 0 ((railsDown s).foldl (shipRailDown late) s)))
  else s

/-! ### STATUS, IDENTIFY, TIME_SET, CORE_RESET (Table CMD.4) -/

/-- STATUS. A channel that has no result yet gives a free value (assumption 36). -/
def statusBody (_r : Req) (_pl : Bytes) (s : State) : Reply :=
  let (v, s1) := lastResult 0x45 s
  let (i, s2) := lastResult 0x46 s1
  let (t, s3) := lastResult 0x30 s2
  .done stOk (leBytes 1 s.core.mode.code ++ leBytes 1 (statusFlags s) ++ leBytes 1 s.inp.path.code ++ leBytes 1 (s.inp.active.getD 0xFF) ++
    leBytes 1 s.chg.phase.code ++ zeros 1 ++ leBytes 2 s.gau.rep ++ leBytes 4 (faultSummary s) ++ leBytes 8 s.par.epoch ++
    leBytes 4 (tick s) ++ leBytes 4 s.aon.rtc ++ leInt 2 v ++ leInt 2 (i.tdiv 2) ++ leInt 2 t) s3

/-- STATUS. -/
def cmdStatus : CmdDef :=
  { code := 0x0101, caps := [capStatus], allow := allowAll, len := lenIs 0, range := anyRange, nv := false, modes := anyMode,
    body := statusBody }

/-- DEV_ID (Table HST.3). -/
def devId : Nat := 0x09600C10

/-- The interface level of the firmware (Table HST.3). -/
def ifl : Nat := 3

/-- The build number of the firmware that runs (R713, assumption 14). -/
def fwBuildNow (s : State) : Nat := slotBuild s s.core.slot % 0x1000000

/-- IDENTIFY. -/
def identifyBody (r : Req) (_pl : Bytes) (s : State) : Reply :=
  let none_ := s.core.run == .halted
  .done stOk (leBytes 4 devId ++ leBytes 1 (if none_ then 0 else ifl) ++ leBytes 1 r.port ++
    leBytes 1 (bitsOf [none_, sessionOf s r.tenant == some r.port]) ++ zeros 1 ++ leBytes 4 (if none_ then 0 else fwBuildNow s) ++
    leBytes 4 s.core.bootCount ++ padTo 32 (pb s 0x010B)) s

/-- IDENTIFY. -/
def cmdIdentify : CmdDef :=
  { code := 0x0100, caps := [], allow := allowAll, len := lenIs 0, range := anyRange, nv := false, modes := anyMode,
    body := identifyBody }

/-- TIME_SET (R681). -/
def timeSetBody (_r : Req) (pl : Bytes) (s : State) : Reply :=
  .done stOk [] (setTime (fieldAt pl 0 4) s)

/-- TIME_SET. -/
def cmdTimeSet : CmdDef :=
  { code := 0x0105, caps := [capNvConfig], allow := allowAll, len := lenIs 4, range := anyRange, nv := false, modes := anyMode,
    body := timeSetBody }

/-- CORE_RESET (R50): the response goes out, with its credit, before the reset is due. -/
def coreResetBody (_r : Req) (_pl : Bytes) (s : State) : Reply :=
  .doneThen stOk [] s (onCore (fun c => { c with resetDue := some .coreReset }))

/-- CORE_RESET. -/
def cmdCoreReset : CmdDef :=
  { code := 0x0104, caps := [capFwUpdate], allow := allowAll, len := lenIs 0, range := anyRange, nv := false, modes := anyMode,
    body := coreResetBody }

/-! ### The power button and wake inputs (R95 to R104) -/

/-- A WAKE event (R101). -/
def postWake (flags src : Nat) (s : State) : State := post 0x0102 flags src 0 s

/-- A press of PWRBTNn: `high` says that the ball was high since the last one. It is a new press only then, the one that woke the device
included in what came before (R102). -/
def newPress (high : Bool) (s : State) : Bool := high || !s.aon.btnHeld

/-- PWRBTN_PRESS (R97, R101, R102, R113): an armed SHIP is cancelled; during SHIP entry the press is left to the wake (R126). -/
def pwrbtnPress (high : Bool) (s : State) : State :=
  if newPress high s then
    let s1 := onAon (fun a => { a with btnHeld := true }) s
    if s.core.shipEntry = .begun then s1 else autostart 1 (postWake 0 0 (disarm (takeOcc .press s1)))
  else s

/-- FORCED_POWER_DOWN (R93, R95, R96): TBL1 in RUN and where TBL0 runs, the service exit in SERVICE. `began` is the code of the mode in
which the press began: the 8 s count starts only in RUN or SERVICE (R102). -/
def forcedPowerDown (began : Nat) (s : State) : State :=
  if s.core.shipEntry = .begun ∨ began < 2 then s
  else
    match s.core.mode with
    | .run => startTbl1 5 0xFF 2 s
    | .service => beginServiceExit 5 s
    | .standby => if runningTable s = 0 then startTbl1 5 0xFF 2 s else s
    | .ship => s

/-- sys.wake_sources as a count sees it that began `before` commits of it ago: a commit acts at once and cancels no count (R125). -/
def wakeBits (before : Nat) (s : State) : Nat := (s.core.wakePast.take before).foldl (fun n p => n ||| p.1) (pn s 0x0102)

/-- WAKE_IN_QUALIFIED (R97, R101): ignored once SHIP entry has begun (Timeline MOD.2). `before` is the number of commits of
sys.wake_sources since the count began (R125). -/
def wakeInQualified (n before : Nat) (s : State) : State :=
  if n < 4 ∧ bit (wakeBits before s) (2 + n) = true ∧ s.core.shipEntry ≠ .begun then autostart 2 (postWake 0 (3 + n) s) else s

end Sys2Proof.Machine
end

