-- ==== Sys2Proof/Machine/Resets.lean ====
section
/-! DEFINITION. POR, configuration recall, core resets, the boot ROM, READY and NV_READY (R37, R42 to R56, R107, R116 to R120,
R136, R252, R323, R383, R534, R549, R556, R572, R662 to R664, R742). -/

namespace Sys2Proof.Machine

/-! ### POR (R43, R107) -/

/-- sys.boot_count after this POR: it saturates (R124). -/
def nextBoot (s : State) : Nat :=
  let stored := ((readTwo s tcBoot).map (fun b => fieldAt b 8 4)).getD 0
  min 0xFFFFFFFF (max s.core.bootCount stored + 1)

/-- sys.ref_select as POR finds it in the stored configuration (R28, R54). -/
def storedRef (s : State) : Nat := ((pInForce (recallStore s) { id := 0x0106, i1 := 0, i2 := 0 }).int).toNat

/-- Everything outside the AON domain is reset; the arrays, the balls and the AON domain are kept, but for the armed state (R43,
R113, Table ARC.5). -/
def por (cause : StartCause) (s : State) : State :=
  let z := State.reset
  let ref := storedRef s
  let t : State :=
    { z with
      pending := s.pending
      free := s.free
      mem := s.mem.filter (fun c => decide (c.1 < spBase))
      aon := { s.aon with armed := false }
      clk := { z.clk with refSelect := ref, crystal := if ref = 1 then .qualifying else .unused }
      core := { z.core with startCause := cause, nreset := s.core.nreset, bootCount := nextBoot s, sysValidAt := z.clk.us }
      fab := { z.fab with banks := Vector.ofFn (fun k => { Bank.atReset k.val with fuses := (bankOf s k.val).fuses }) }
      nv := { z.nv with badWords := s.nv.badWords, blank := s.nv.blank }
      cap := { z.cap with partSerial := s.cap.partSerial }
      inp := { z.inp with gpio := s.inp.gpio }
      tap := { z.tap with testEn := s.tap.testEn } }
  writeBoot { bootCtl t with resets := 0 } t

/-- AON_POR: VAON fails with the highest of BAT, VBUSC and DCIN below 2.6 V (Table ELC.5), and a POR follows (R43). -/
def aonPor (mv : Nat) (s : State) : State := if mv < 2600 then por .firstPower { s with aon := Aon.atReset } else s

/-- A source may wake the device: PWRBTNn always, an input where its bit is set and it has stood at the latched threshold or above, `mv`
being its lowest voltage through the count (R97, R98, Tables MOD.3 and MOD.8). -/
def wakes (s : State) (src mv : Nat) : Bool :=
  src == 0 || (decide (src ≤ 2) && bit (pn s 0x0102) (src - 1) && decide (s.aon.wakeVinMv ≤ mv))

/-- A POR through which the pair of an input supplies SYS, and the battery FET is off (R37, R100). -/
def porFrom (cause : StartCause) (k : Nat) (s : State) : State :=
  let t := por cause s
  { t with inp := { t.inp with kept := some k, path := .noBattery } }

/-- SHIP_WAKE: a source qualifies in SHIP (R97, R98, Table MOD.3). With no valid BAT, of `batMv`, the input that wakes the device powers it
(R100, R392). -/
def shipWake (src mv batMv : Nat) (s : State) : State :=
  if powered s = false ∧ wakes s src mv = true then
    let t := { s with aon := { s.aon with wakeSource := some src, wakeRtc := s.aon.rtc, btnHeld := src == 0 } }
    if src ≠ 0 ∧ (batMv : Int) < cells s * 2500 then porFrom .shipWake (src - 1) t else por .shipWake t
  else s

/-- The input that supplies SYS, by its pair (Table INT.1). -/
def supplying (s : State) : Option Nat := (List.range 2).find? (pairOn s)

/-- CLOCK_BACKSTOP: no REF edge for 64 AON cycles. POR deasserts every rail EN; the battery FET turns off, and so do both pairs, except
that of the input that supplies SYS (R37). -/
def clockBackstop (s : State) : State :=
  if powered s then
    let t := match supplying s with
      | some k => porFrom .clockBackstop k s
      | none =>
        let u := por .clockBackstop s
        { u with inp := { u.inp with path := .off } }
    { t with core := { t.core with batFet := false } }
  else s

/-! ### The boot ROM (R53, R554, R556, R577) -/

/-- The slot that the boot ROM boots after `n` consecutive core resets before READY, whether it is a fallback and whether it is
TRIAL; none leaves the core halted (R53, R556). The spec gives no number of starts of the other slot: it is booted at the fourth to the
seventh reset, and the eighth leaves the core halted (DESIGN CHOICE, assumption 61). -/
def bootSlot (n : Nat) (s : State) : Option (Nat × Bool × Bool) :=
  let c := bootCtl s
  let trial := decide (c.trial ≤ 1)
  let want := if n ≤ 3 then (if trial then c.trial else c.active) else if n = 4 then 1 - s.core.slot else s.core.slot
  if 8 ≤ n then none
  else if slotBoots s want then some (want, decide (4 ≤ n), trial && decide (n ≤ 3))
  else if slotBoots s (1 - want) then some (1 - want, true, false)
  else none

/-- The boot ROM refreshes a weak sector of the active slot: it copies it into bank 0, erases it and reprograms it (R577). -/
def refreshSector (s : State) (k : Nat) : State :=
  let a := saBase + k * 0x1000
  let bs := readBytes s a 0x1000
  programBytes a bs (clearBytes a 0x1000 (bankBytes spBase bs s))

/-- The boot ROM starts a slot, or halts the core, also where a bank of banks 0 to 7 has failed BIST (R512). It refreshes the weak sectors of the active slot first (R577); a fallback clears TRIAL
(R556). -/
def bootCore (s0 : State) : State :=
  let s := s0.nv.weak.foldl refreshSector s0
  match (if s.core.bistHalt then none else bootSlot (bootCtl s).resets s) with
  | none => onCore (fun c => { c with run := .halted }) s
  | some (k, fallback, trial) =>
    let s1 := if fallback && (bootCtl s).trial != 0xFF then writeBoot { bootCtl s with trial := 0xFF } s else s
    wdStart (onCore (fun c => { c with run := .booting, slot := k, slotFallback := fallback, trialBoot := trial })
      { s1 with nv := { s1.nv with weak := [] } })

/-! ### Configuration recall (R107) -/

/-- A bank that failed BIST (R512). -/
def bistFail (s : State) (k : Nat) : State :=
  let s1 := onBank k (fun b =>
    if k < 8 then b
    else if k ≤ 51 then { b with st := .retired, cause := 2, owner := 0xFF }
    else { b with withheld := true, st := .retired, cause := 2 }) s
  raiseGlobal 0x25 0xFF (some (k : Int)) s1

/-- One table that the image carries becomes the active copy; one that is not valid is skipped and counted (R662, R663). -/
def recallTable (s : State) (t : Nat × Bytes) : State :=
  match validTable s (toSteps 65 t.2) with
  | some steps =>
    if t.1 < 8 then { s with eng := { s.eng with active := vset s.eng.active t.1 steps } } else s
  | none =>
    { s with par := { s.par with
        skipped := s.par.skipped + 1
        firstSkipped := if s.par.skipped = 0 then { id := 0x04F0, i1 := t.1, i2 := 0 } else s.par.firstSkipped } }

/-- The parameter store and the tables of the image that recall loads, and the CONFIG record of a recall that skipped entries
(R549, R662 to R664). -/
def recallConfig (s : State) : State :=
  let ps := recallStore s
  let s1 := { s with par := revertTies (ps.cells.length + 1) ps }
  let s2 := (recallTables s1).foldl recallTable s1
  if s2.par.skipped = 0 then s2
  else configRecord 4 0xFF 0xFF 0 s2.par.loadedGen 0 0 s2.par.skipped s2.par.firstSkipped s2.par.base.length s2

/-- The sequences whose recalled descriptor carries AUTOSTART start (R323). -/
def autoSequences (s : State) : State :=
  (List.range 8).foldl (fun t q =>
    let d := pb t 0x0706 q
    if bit (byteAt d 2) 0 && decide (0 < descCount d) then startSeq t q else t) s

/-- The discharge switches of resting HOLD_OFF rails close from configuration recall on (R134). -/
def holdOff (s : State) : State := allRails.foldl (fun t r => setSt r (rail t r).st t) s

/-- The counts of the inputs start at recall, under the values recalled, and the budget pins act (R107, R400, R435). -/
def startInputs (s : State) : State := applyBudget ((List.range 2).foldl (fun t i => startCount i (wakeCount i t)) s)

/-- The block starts of configuration recall: Caldera and PIPE, sequences, the RESV boost, the power path, the bring-up of
rail.standby_on rails, and AT_RECALL (R107, R136, R250, R252, R323, R545). -/
def startBlocks (s : State) : State :=
  let s1 := autoSequences (capParams (capRecall s))
  let s2 := chgJudge (pathEval { s1 with nv := { s1.nv with boost := true }, core := { s1.core with batFet := true } })
  autostart 0 (startBringUp (holdOff (startInputs s2)))

/-- The outcome of BIST in a bank whose columns `p.2` failed: they are mapped to spares, or the bank fails (R510, R512). -/
def bistOutcome (s : State) (p : Nat × List Nat) : State :=
  if p.1 < 64 then
    let t := bistMap p.1 p.2 s
    if bistPasses (bank s p.1) p.2 then t else bistFail t p.1
  else s

/-- A bank of banks 0 to 7 fails, and the core stays halted (R512). -/
def bistHalts (s : State) (p : Nat × List Nat) : Bool := decide (p.1 < 8) && !bistPasses (bank s p.1) p.2

/-- Recall reads an F-array word: the journal, the images' headers and bodies, boot control, the modules and the missed count. -/
def recallReads (s : State) (w : Nat) : Bool :=
  let hits := fun (a n : Nat) => decide (a < w * 8 + 8) && decide (w * 8 < a + n)
  (List.range 2).any (fun k => hits (imageAddr k) (64 + min 32704 (readNat s (imageAddr k + 12) 4))) || hits 0x21800 128 || hits 0x21900 256 ||
    hits 0x23000 2592

/-- Every uncorrectable word of a range of reads is latched, and every correction counted (R521, R522). -/
def eccAll (ecc : List Int) (read : Nat → Bool) (s : State) : State :=
  let x := eccFound ecc read s
  x.1.foldl uncorrectable x.2

/-- What recall meets in the words that it reads (R521, R522). -/
def eccRecall (ecc : List Int) (s : State) : State := eccAll ecc (recallReads s) s

/-- CONFIGURATION_RECALL: `bist` gives the columns that failed in each bank with any, `reqLevels` the levels of the REQ inputs, and
`ecc` what its reads of the F-array meet (R107, R512, R521, R522). -/
def configurationRecall (bist : List (Nat × List Nat)) (reqLevels : Nat) (ecc : List Int) (s : State) : State :=
  if s.core.run = .booting ∧ s.core.recalled = false then
    let s1 := recallModules (recallConfig (journalReplay (eccRecall ecc s)))
    let s2 := setVaux (onCore (fun c => { c with mode := .standby, recalled := true, clkOut := true }) s1)
    let s3 := { s2 with eng := { s2.eng with driven := true, reqLevel := Vector.ofFn (fun i => bit reqLevels i.val) } }
    let s4 := startBlocks (bist.foldl bistOutcome s3)
    if bist.any (bistHalts s) then onCore (fun c => { c with run := .halted, bistHalt := true }) s4
    else if s4.core.nreset then onCore (fun c => { c with run := .heldByPin }) s4
    else bootCore s4
  else s

/-! ### Core reset (R44 to R50, Table ARC.5) -/

/-- The synchronous requests that are accepted and not answered: operations, waiting commits, and responses that wait for a place
(R46). -/
def unanswered_ (s : State) (mine : Nat → Bool) : List OwedAbort :=
  (s.ops.filter (fun o => !o.async && !o.silent && mine o.port)).map (fun o => { port := o.port, tenant := o.tenant, seq := o.seq, since := some o.accepted }) ++
    (s.par.waiting.filter (fun c => !c.async && mine c.port)).map (fun c => { port := c.port, tenant := c.tenant, seq := c.seq, since := some c.accepted }) ++
    ((List.range 4).filter mine).flatMap (fun p =>
      ((port s p).rspWait.filter (fun w => w.credit)).map (fun w => { port := p, tenant := w.rsp.tenant, seq := w.rsp.seq, since := w.since }))

/-- Every session closes with its transaction and its gather (R611, R654, R530). -/
def closeAll (s : State) : State :=
  let s1 := (List.range 64).foldl (fun t n => closeSession n byCommand t) s
  { s1 with tenants := s1.tenants.map (fun t => { t with txn := none, part := none }), nv := { s1.nv with gathers := [] } }

/-- The asynchronous commits that wait end with ABORTED_RESET. -/
def abortCommits (s : State) : State :=
  let ws := s.par.waiting
  ws.foldl (fun t c =>
    if c.async then
      postOwn c.tenant 0x0F03 (commitCode c.direct % 256) (commitCode c.direct / 256) (opArg c.tenant c.seq stAbortedReset) t
    else t) { s with par := { s.par with waiting := [] } }

/-- An operation that a core reset ends; what the NV engine or the fabric finishes alone goes on (Table ARC.5, R55). -/
def resetEnds (o : PendOp) : Bool :=
  match o.kind with
  | .bankReturn _ => false
  | _ => true

/-- The operations that a core reset ends: an asynchronous one ends with OP_COMPLETE carrying ABORTED_RESET. The erase of a slot that
the NV engine has started goes on (R55); the update itself is closed. -/
def abortOps (s : State) : State :=
  let ends := s.ops.filter resetEnds
  let s1 := { s with
    ops := s.ops.filter (fun o => !resetEnds o)
    nv := { s.nv with commits := s.nv.commits.filter (fun c => c.slot.isSome) }
    fw := { s.fw with open_ := false } }
  ends.foldl (fun t o => endOp { o with silent := true } stAbortedReset [] t) s1

/-- The bridges and what firmware alone held are reset. -/
def resetBridges (s : State) : State :=
  let s1 := loseHeld s
  { s1 with ports := s1.ports.map (fun _ => Port.atReset), i3c := State.reset.i3c, uart := State.reset.uart }

/-- The consecutive core resets before READY (R53, Table NVS.9): a core that had reached READY, and FW_ACTIVATE, start anew. -/
def countReset (cause : StartCause) (s : State) : State :=
  let c := bootCtl s
  writeBoot { c with resets := if s.core.ready ∨ cause = .fwActivate then 0 else min 255 (c.resets + 1) } s

/-- A core reset begins (R44 to R48). -/
def coreResetStart (cause : StartCause) (s : State) : State :=
  let s0 := countReset cause s
  let s1 := onCore (fun c => { c with run := if c.nreset then .heldByPin else .inReset, ready := false, nvReady := false, resetDue := none,
                                      startCause := cause, beat := if fwRuns s0 then s0.clk.us - c.fwStart else c.beat }) s0
  let s2 := { beginServiceExit 7 s1 with owed := s1.owed ++ unanswered_ s1 (fun _ => true) }
  let s3 := abortOps (abortCommits (closeAll (calReset s2)))
  chgCoreReset (fumaroleReset (tagsDrop (resetBridges s3)))

/-- The core can be reset: configuration is recalled, the domain has power, and the core is not held already. -/
def resettable (s : State) : Bool := powered s && s.core.recalled && s.core.run != .inReset && s.core.run != .heldByPin

/-- CORE_RESET_BEGIN: 1 ms after the response of CORE_RESET or FW_ACTIVATE (R50). -/
def coreResetBegin (s : State) : State :=
  match s.core.resetDue with
  | some c => if resettable s then coreResetStart c s else s
  | none => s

/-- CORE_RESET_RELEASE: the 10 µs pulse ends (R44). -/
def coreResetRelease (s : State) : State :=
  if s.core.run = .inReset ∧ powered s = true then
    if s.core.nreset then onCore (fun c => { c with run := .heldByPin }) s else bootCore s
  else s

/-- nRESET falls low (R44). -/
def nresetAssert (s : State) : State :=
  let s1 := onCore (fun c => { c with nreset := true }) s
  if resettable s1 then coreResetStart .nReset s1
  else if s1.core.run = .inReset ∧ powered s1 = true then onCore (fun c => { c with run := .heldByPin, startCause := .nReset }) s1
  else s1

/-- nRESET is released (R44). -/
def nresetRelease (s : State) : State :=
  let s1 := onCore (fun c => { c with nreset := false }) s
  if s.core.run = .heldByPin then bootCore s1 else s1

/-- The TICK count stands at the watchdog's expiry, or past it (R51). -/
def atExpiry (s : State) : State := { s with clk := { s.clk with us := max s.clk.us (s.core.wdFrom + 1000 * s.core.wdMs) } }

/-- WATCHDOG: sys.watchdog_ms has passed since the last restart; the fault, then the core reset (R51). Firmware or the boot ROM runs. -/
def watchdog (s : State) : State :=
  if (s.core.run == .running || s.core.run == .booting) && s.core.recalled then
    let s1 := atExpiry s
    let as := globalOf s1 0x22 0xFF none 0xFF
    let s2 := latchNow as s1
    respondTo as (if resettable s2 then coreResetStart .watchdog s2 else s2)
  else s

/-! ### READY (R47, R107, R556) -/

/-- Events held and latches to report are posted in the order of time: both lists are in order, and a latch goes before what followed it
in the same TICK (R47). -/
def replay : Nat → List Report → List Deferred → State → State
  | 0, _, _, s => s
  | _ + 1, [], [], s => s
  | f + 1, q :: qs, [], s => replay f qs [] (reportOne s q)
  | f + 1, [], d :: ds, s => replay f [] ds (deliver d s)
  | f + 1, q :: qs, d :: ds, s =>
    if q.tick ≤ d.ev.tick then replay f qs (d :: ds) (reportOne s q) else replay f (q :: qs) ds (deliver d s)

/-- What the hardware recorded while the core was not running is posted in completion order (R47, R241). -/
def postHeld (s : State) : State :=
  replay (s.sup.reports.length + s.deferred.length) s.sup.reports s.deferred { s with deferred := [], sup := { s.sup with reports := [] } }

/-- The answers owed since a core reset (R46): they return no credit. -/
def answerOwed (s : State) : State :=
  s.owed.foldl (fun t o => respond o.port o.tenant o.seq stAbortedReset [] o.since false t) { s with owed := [] }

/-- Trial firmware that reaches READY becomes ACTIVE, with the rollback floor raised; the reset count starts anew (R53, R556). -/
def promoteTrial (s : State) : State :=
  let c := bootCtl s
  if s.core.trialBoot then
    writeBoot { active := s.core.slot, trial := 0xFF, resets := 0, floor := max c.floor (slotSecurity s s.core.slot) } s
  else writeBoot { c with resets := 0 } s

/-- The durable journal slots that a core reset left are completed by firmware at boot, behind an erase that is in their way (R55,
R551). -/
def finishCommits (s : State) : State :=
  (List.range 9).foldl (fun t _ => commitRun (if commitHeld t then eraseEnds t else t)) (markerTry s)

/-- A start by a core reset: no configuration is recalled (Table NVS.15 byte 6). -/
def fromCoreReset (s : State) : Bool :=
  match s.core.startCause with
  | .firstPower => false
  | .shipWake => false
  | .clockBackstop => false
  | _ => true

/-- The queue of a tenant whose control words fail firmware's check is emptied: its records count as overflowed, and EVENTS_LOST is queued
with their number (R625). -/
def emptyQueue (s : State) (n : Nat) : State :=
  onTenant n (fun x => addLost x.queue.length (tick s) { x with queue := [], overflowed := x.overflowed + x.queue.length }) s

/-- Firmware rewrites every word of banks 0 to 7 at boot after a parity error in them, with good parity (Table BNK.5); their contents are its own,
and stay as they are (DESIGN CHOICE, assumption 122). -/
def rewriteBanks (s : State) : State :=
  match s.core.startCause with
  | .bankFail => { s with fab := { s.fab with flips := s.fab.flips.filter (fun a => decide (8 ≤ bankAt a)) } }
  | _ => s

/-- READY (R107), which on hold-up waits, with the rest of firmware's work, for the supply (R41): the event queues after a core reset, the ports, the answers owed, the events held, FW_READY, and what firmware takes up again. -/
def ready (badQueues : List Nat) (s0 : State) : State :=
  if s0.core.run = .booting ∧ s0.core.recalled = true ∧ s0.clk.gated = false ∧ s0.core.holdup = false ∧ powered s0 = true then
    let s := rewriteBanks (if fromCoreReset s0 then badQueues.foldl emptyQueue s0 else s0)
    let first := !s.core.fwReady
    let trial := s.core.trialBoot
    let s1 := promoteTrial (finishCommits s)
    let s2 := onCore (fun c => { c with run := .running, ready := true, fwReady := true, fwStart := s.clk.us }) s1
    let s3 := postHeld (answerOwed (onPorts (fun p => if p.inReset then p else Port.irq irqReady { p with ready := true }) s2))
    let s4 := post 0x0E01 (b2n trial) s3.core.slot (fwBuildNow s3) s3
    let s5 := if first && s4.core.startCause == .shipWake then postWake 1 (s4.aon.wakeSource.getD 0) s4 else s4
    let s6 := if first then defaultClaims s5 else takeOcc .fwReady s5
    let s7 := { s6 with tags := { s6.tags with nextAt := s6.clk.us }, rails := s6.rails.map (fun x => { x with margin := { x.margin with settled := false } }) }
    chgResume (intakeResume first (rebudget s7))
  else s0

/-! ### NV_READY (R570 to R573, R116, R119, R120, R275, R742) -/

/-- The BOOT record (Table NVS.15). `other` stands for the start cause that the table has no code for. -/
def bootPayload (other : Int) (s : State) : Bytes :=
  let cause : Nat := match s.core.startCause with
    | .firstPower => 0
    | .shipWake => 1
    | .clockBackstop => 2
    | .nReset => 3
    | .watchdog => 4
    | .coreReset => 5
    | .fwActivate => 6
    | .bankFail => (other % 256).toNat
  leBytes 4 s.core.bootCount ++ leBytes 1 cause ++ leBytes 1 s.core.slot ++
    leBytes 1 (if fromCoreReset s then 0xFF else s.par.loaded.getD 2) ++
    leBytes 1 (bitsOf [s.core.trialBoot, s.core.slotFallback, s.nv.journalReplayed, s.log.compactRestarted, s.log.tornFound,
      s.nv.resvTestFailed]) ++
    leBytes 4 (fwBuildNow s) ++ leBytes 4 s.par.loadedGen

/-- A record of this start goes first among those that wait, behind the BOOT record (R572). -/
def waitFirst (r : LogRec) (s : State) : State :=
  let w := s.log.waiting
  { s with log := { s.log with waiting := w.takeWhile (fun x => x.type == 0x0B) ++ r :: w.dropWhile (fun x => x.type == 0x0B) } }

/-- Append a record at once; it waits where no sector can take it. -/
def appendNow (type : Nat) (payload : Bytes) (s : State) : State :=
  let r := makeRec type payload s
  match appendRec r s with
  | some x => x.2
  | none => waitFirst r s

/-- The BOOT record comes first after the scan (R572). -/
def bootRecord (s : State) : State :=
  let d := if s.core.startCause = .bankFail then drawFree s else (0, s)
  appendNow 0x0B (bootPayload d.1 s) d.2

/-- The SHIP record (Table MOD.5): with the marker, without it (MARKER_MISSING), or after an AON reset in SHIP (DURATION_UNKNOWN).
What the marker, the wake or the battery would have given is a free value where they give nothing (assumption 36). -/
def shipPayload (s : State) : Bytes × State :=
  let m := shipMarked s
  let missing := m.isNone
  let unknown := !s.aon.shipLatch
  let b := m.getD []
  let entry := fieldAt b 4 4
  let secs := s.aon.wakeRtc - entry
  let (src, s1) := orFree (if unknown then none else s.aon.wakeSource.map (fun k => (k : Int))) s
  let (cause, s2) := orFree (if missing then none else some (byteAt b 1 : Int)) s1
  let (vIn, s3) := orFree (if missing then none else some (fieldAt b 2 2 : Int)) s2
  let (vNow, s4) := orFree s.msr.firstVbat s3
  (leBytes 4 (if missing then 0xFFFFFFFF else entry) ++ leBytes 4 (if unknown then 0xFFFFFFFF else s.aon.wakeRtc) ++
    leBytes 4 (if unknown || missing then 0xFFFFFFFF else secs) ++ leBytes 4 (if unknown || missing then 0xFFFFFFFF else 3 * secs) ++
    leInt 1 src ++ leInt 1 cause ++ leInt 2 vIn ++ leInt 2 vNow ++ leBytes 1 (bitsOf [unknown, missing]) ++ zeros 9, s4)

/-- The SHIP record of a start from SHIP (R116, R119); its append consumes the marker and releases the ship latch. The flags say what R120
found; none where the start was not from SHIP. One that still waits for a sector is not made again. -/
def shipRecord (s : State) : Option (Bool × Bool) × State :=
  if (s.aon.shipLatch || (shipMarked s).isSome) && !s.log.waiting.any (fun r => r.type == 0x0F) then
    let p := shipPayload s
    (some (!s.aon.shipLatch, (shipMarked s).isNone), appendNow 0x0F p.1 p.2)
  else (none, s)

/-- The SHIP stay was at least gauge.rest_full_s, with a known duration (Table GEY.7). -/
def longShip (s : State) : Bool :=
  match shipMarked s with
  | some b => s.aon.shipLatch && decide (pn s 0x0B13 ≤ s.aon.wakeRtc - fieldAt b 4 4)
  | none => false

/-- The ledgers are restored once per POR; the first interval runs from here (R440, R742). -/
def restoreOnce (ship : Option (Bool × Bool)) (s : State) : State :=
  if s.bg.restored then s
  else onInp (fun x => { x with ivStart := s.aon.rtc, ivMark := s.aon.rtc, ivPartial := true }) (restoreLedgers ship s)

/-- The words that firmware reads before NV_READY: the two-copy structures and the capture-pending marker (R519, R262). -/
def readyReads (w : Nat) : Bool :=
  [(tcShip.at_, 128), (tcBoot.at_, 128), (tcMissed.at_, 128), (tcCheckpoint.at_, 2 * tcCheckpoint.size), (tcGauge.at_, 2 * tcGauge.size),
    (tcSignatures.at_, 2 * tcSignatures.size), (markerAt, 64)].any (fun x => decide (x.1 < w * 8 + 8) && decide (w * 8 < x.1 + x.2))

/-- What firmware meets in them (R521, R522). -/
def eccReady (ecc : List Int) (s : State) : State := eccAll ecc readyReads s

/-- NV_READY: what its reads meet is `ecc`'s, as for the other readers. It is posted after the scan, and the BOOT, SHIP and GAP records follow it (Timeline MOD.1, R572, R742). -/
def nvReady (ecc : List Int) (s : State) : State :=
  if fwWorks s && !s.core.nvReady then
    let s0 := bootScan (eccReady ecc (logErased s))
    let s1 := setIrqAll irqNvReady (post 0x0D02 0 0 ((freeSectors s0).length) s0)
    let s2 := bootRecord (restoreCounts (readTwo s1 tcCheckpoint) s1)
    let cp := readTwo s2 tcCheckpoint
    let long := longShip s2
    let ship := shipRecord s2
    let restored := s2.bg.restored
    let s3 := restoreOnce ship.1 ship.2
    let gap := !restored && (s3.bg.gapCoulomb || s3.bg.gapEnergy)
    let s5 := flushLog (onCore (fun c => { c with nvReady := true }) s3)
    checkpointDue (gaugeRestore cp long gap (sigFlush (flushMissed (resolveMarker s5))))
  else s

end Sys2Proof.Machine
end

