-- ==== Sys2Proof/Machine/Power.lean ====
section
/-! DEFINITION. Clock failures, loss of lock, reservoir hold-up with its commits, the supply outputs, the bank scrub, and
FAULT_INJECT (R28 to R37, R40, R41, R236, R509, R545, R738 to R741, R754). -/

namespace Sys2Proof.Machine

/-- Change the clock tree. -/
def onClk (f : Clocks → Clocks) (s : State) : State := { s with clk := f s.clk }

/-! ### The reference (R28 to R33) -/

/-- CRYSTAL_QUALIFIED: REF switches to the crystal (R28, R29). -/
def crystalQualified (s : State) : State :=
  if s.clk.crystal = .qualifying then onClk (fun c => { c with crystal := .inUse }) s else s

/-- CRYSTAL_QUALIFY_TIMEOUT: REF stays on the RC, with CLOCK_FAIL (R30). -/
def crystalQualifyTimeout (s : State) : State :=
  if s.clk.crystal = .qualifying then raiseGlobal 0x21 0xFF none (refFallback s) else s

/-- CRYSTAL_FAILURE: REF switches to the RC, with CLOCK_FAIL (R32, R33). -/
def crystalFailure (s : State) : State :=
  if s.clk.crystal = .inUse then raiseGlobal 0x21 0xFF none (refFallback s) else s

/-! ### The PLL (R34 to R36) -/

/-- PLL_LOSS_OF_LOCK (R34). -/
def pllLossOfLock (s : State) : State :=
  if s.clk.pllLocked then
    let s1 := onClk (fun c => { c with pllLocked := false, gated := true, gatesLow := true, tickFromRef := true, qiKhz := 4800 }) (stopConverters s)
    raiseGlobal 0x21 0xFF none (pipeStop s1)
  else s

/-- Firmware goes on: the events that hardware recorded meanwhile are posted, the PD messages that wait are taken, and waiting records
appended. -/
def resumeFirmware (s : State) : State :=
  if fwWorks s then flushLog (intakeResume false (s.deferred.foldl (fun t d => deliver d t) { s with deferred := [] })) else s

/-- PIPE starts again where cnv.pipe_enable lets it (R250). -/
def restartPipe (s : State) : State := if s.core.recalled && pv s 0x0705 == 1 then pipeStart s else s

/-- PLL_RELOCK (R36). -/
def pllRelock (s : State) : State :=
  if s.clk.pllLocked then s
  else
    let s1 := onClk (fun c => { c with pllLocked := true, gated := false, gatesLow := false, tickFromRef := false, qiKhz := 5000 }) s
    recordTry (resumeFirmware (restartPipe s1))

/-! ### Hold-up (R40, R41, R738 to R741) -/

/-- RESV reads this value. -/
def setResv (v : Int) (s : State) : State := { s with nv := { s.nv with resvMv := v } }

/-- One commit of Table LED.4: RESV is read, and the commit starts with it at or above its threshold. -/
def holdStep (need : Int) (f : State → State) (p : List Nat × State) : List Nat × State :=
  match p.1 with
  | [] => (p.1, if need ≤ p.2.nv.resvMv then f p.2 else p.2)
  | r :: rs =>
    let s := setResv r p.2
    (rs, if need ≤ (r : Int) then f s else s)

/-- A commit of Table LED.4 that is due only where a condition holds. -/
def holdStepIf (due : State → Bool) (need : State → Int) (f : State → State) (p : List Nat × State) : List Nat × State :=
  if due p.2 then holdStep (need p.2) f p else p

/-- The oldest latch setting that is not reported yet is reported. -/
def reportOldest (s : State) : State :=
  match s.sup.reports with
  | [] => s
  | q :: qs => reportOne { s with sup := { s.sup with reports := qs } } q

/-- The firmware's log work is possible: the boot scan is over and the ledgers are restored. -/
def ledgersOpen (s : State) : Bool := logOpen s && s.bg.restored

/-- The capture-pending marker is due (R262). -/
def markerDue (s : State) : Bool :=
  match s.cap.cap with
  | some c => !c.markerDone
  | none => false

/-- The turn of the record commit, with RESV as it reads then. -/
def holdCaldera (p : List Nat × State) : List Nat × State :=
  if recordDue p.2 then
    match p.1 with
    | [] => ([], recordTurn p.2)
    | r :: rs => (rs, recordTurn (setResv r p.2))
  else p

/-- The threshold of a Sinter append: a record of 64 bytes or less is a small commit (R739). -/
def appendNeed (r : LogRec) (s : State) : Int := if recordSize r.payload ≤ 64 then 6000 else pv s 0x0D06

/-- One record that waits is appended; with no sector for it, it goes on waiting. -/
def appendWaiting (r : LogRec) (s : State) : State :=
  match appendRec r { s with log := { s.log with waiting := s.log.waiting.erase r } } with
  | some x => x.2
  | none => s

/-- The waiting records of a kind are appended in their order, each as a commit of its own (R738). One that cannot start goes on waiting. -/
def holdRecords (kind : LogRec → Bool) (p : List Nat × State) : List Nat × State :=
  (p.2.log.waiting.filter kind).foldl (fun q r => holdStepIf logOpen (appendNeed r) (appendWaiting r) q) p

/-- The erase in flight completes before the S-array can take a commit (R740); no record is appended by it. -/
def holdErase (s : State) : State := eraseEnds s

/-- A tenant's commit that runs completes, once the erase in its way is over (R740). -/
def holdCommit (s : State) : State := commitRun (if commitHeld { s with core := { s.core with holdup := false } } then holdErase s else s)

/-- A boundary already passed closes its interval under the old class, and the new class applies (R741). -/
def holdBoundary (s : State) : State := if ledgersOpen s && intervalDue s then applyBudget (closeInterval false s) else s

/-- What the firmware has still to report is reported, in latch order; the FAULT records wait for their turn. -/
def holdReports (s : State) : State := if logOpen s then s.sup.reports.foldl (fun t _ => reportOldest t) s else s

/-- The commits of Table LED.4 in their order; a commit that cannot start is abandoned, and the next is tried (R738). A tenant's commit that
runs completes first (R740). -/
def holdupCommits (resv : List Nat) (s : State) : State :=
  let big := fun (t : State) => pv t 0x0D06
  let small := fun (_ : State) => (6000 : Int)
  let p1 := holdStepIf markerDue small captureMarkerCommit (resv, holdCommit s)
  let p2 := holdRecords (fun r => r.type == 2) (p1.1, holdBoundary (holdErase p1.2))
  let p3 := holdRecords (fun r => r.type == 2) (holdStepIf ledgersOpen small (closeInterval true) (p2.1, p2.2))
  let p4 := holdStepIf ledgersOpen big (writeCheckpoint 5) p3
  let p5 := holdStepIf (fun t => logOpen t && t.gau.have_) big saveGauge p4
  let p6 := holdCaldera p5
  let p7 := holdRecords (fun r => r.type == 1) (p6.1, holdReports p6.2)
  (holdRecords (fun _ => true) p7).2

/-- HOLDUP: SYS is below 3.8 V (Table ELC.5). The internal supply is on CRES, only the power-fail path runs, and its commits are made
(R40, R41, R738). -/
def holdup (sysMv : Nat) (resv : List Nat) (s : State) : State :=
  if 3800 ≤ sysMv ∨ s.core.holdup = true then s
  else
    let s0 := stopConverters s
    let s1 := { s0 with core := { s0.core with holdup := true, vaux := false }, nv := { s0.nv with boost := false, gathers := [] },
                        supply := { vauxFold := false, bmdFold := false } }
    let s2 := completeOp .tagsSweep stHardware [] (tagsDrop s1)
    holdupCommits resv (setPoint 0 s2)

/-- SYS_VALID_RESTORED: SYS is at 4.2 V again (Table ELC.5), the internal supply returns to it, and the boost restarts (R40, R545). -/
def sysValidRestored (sysMv : Nat) (s : State) : State :=
  if s.core.holdup = true ∧ 4200 ≤ sysMv then
    let s1 := { s with core := { s.core with holdup := false, sysValidAt := s.clk.us }, nv := { s.nv with boost := true } }
    let s2 := resumeFirmware (chgJudge (setVaux s1))
    let s2 := admitSlots s2
    recordTry (if logFree s2 then heldGo s2 else s2)
  else s

/-! ### The supply outputs (R122, R366, R754) -/

/-- BMD_VDD is on (R366). -/
def bmdOn (s : State) : Bool := pv s 0x0901 == 1 && s.core.recalled && s.core.mode != .ship && !s.core.holdup

/-- OUTPUT_FOLDBACK: an output has been at its current limit for 10 ms: 0 VAUX, 1 BMD_VDD. -/
def outputFoldback (out : Nat) (s : State) : State :=
  if out = 0 then { s with supply := { s.supply with vauxFold := s.supply.vauxFold || s.core.vaux } }
  else if out = 1 then { s with supply := { s.supply with bmdFold := s.supply.bmdFold || bmdOn s } }
  else s

/-- FOLDBACK_RETRY: a folded output tries again after 100 ms. -/
def foldbackRetry (out : Nat) (s : State) : State :=
  if out = 0 then { s with supply := { s.supply with vauxFold := false } }
  else if out = 1 then { s with supply := { s.supply with bmdFold := false } }
  else s

/-! ### FAULT_INJECT (R236, R694) -/

/-- The pair that FAULT_INJECT names as the tables have it, for a present rail. -/
def injectOk (s : State) (code src : Nat) : Bool := pairOk (code, src) && (decide (24 ≤ src) || present s src)

/-- FAULT_INJECT: the detector's output as if its condition had been met, with the fixed action of a global fault (R218). The core
reset that WATCHDOG brings leaves the request unanswered until READY (R46). -/
def faultInjectBody (r : Req) (pl : Bytes) (s : State) : Reply :=
  let code := byteAt pl 0
  let src := byteAt pl 1
  if !injectOk s code src then refuse stRange s
  else if decide (src < 24) && !armed s code src then refuse stModeForbids s
  else
    let as := [settingOf s { code := code, src := src, value := none, chan := 0xFF, injected := true }]
    let s1 := latchNow as s
    if code = 0x22 ∧ resettable s1 = true then
      .owed (respondTo as (coreResetStart .watchdog { s1 with owed := s1.owed ++ [{ port := r.port, tenant := r.tenant, seq := r.seq, since := some s1.clk.us }] }))
    else .done stOk [] (respondTo as (as.foldl (fun t a => injectedAction a t) s1))

/-- FAULT_INJECT. -/
def cmdFaultInject : CmdDef :=
  { code := 0x0502, caps := [capService], allow := allowAll, len := lenIs 2, range := anyRange, nv := false,
    modes := fun _ m => m == .service, body := faultInjectBody }

end Sys2Proof.Machine
end

