-- ==== Sys2Proof/Machine/HostPorts.lean ====
section
/-! DEFINITION. The port windows, their transports, submission, port reset, and the I3C, SMBus, SPI and UART transactions
(chapter 14). -/

namespace Sys2Proof.Machine

/-! ### Interrupt outputs (R587, R591, R597) -/

/-- IRQ_STATUS AND IRQ_MASK of a port. -/
def irqOn (s : State) (p : Nat) : BitVec 32 := (port s p).irqStatus &&& (port s p).irqMask

/-- The interrupt outputs of a port are its own: after POR and after a core reset they are released until READY, and in the port's reset
(Table BAL.12, R71). -/
def irqLive (s : State) (p : Nat) : Bool := bridgeUp s && s.core.ready && !(port s p).inReset

/-- IRQpn is driven low (R597). -/
def irqPin (s : State) (p : Nat) : Bool := irqLive s p && bit (pn s 0x020E p) 0 && irqOn s p != 0

/-- SMB_ALERTn is driven low (R591). -/
def alertPin (s : State) : Bool := irqLive s 1 && bit (pn s 0x020E 1) 3 && irqOn s 1 != 0

/-! ### The register window (Tables HST.3, HST.6 to HST.8) -/

/-- PORT_STATUS (Table HST.6). -/
def portStatus (s : State) (p : Nat) : Nat :=
  let q := port s p
  bitsOf [q.ready, s.core.run == .halted, !q.rspQ.isEmpty, q.reqBusy, s.core.nvReady, s.inp.tc == 3] ||| s.core.mode.code <<< 8

/-- The presented response (R605). -/
def presented (s : State) (p : Nat) : Option RspFrame := (port s p).rspQ.head?

/-- RSP_STATUS. -/
def rspStatus (s : State) (p : Nat) : Nat :=
  match presented s p with
  | some f => f.status % 65536 ||| (f.tenant % 64) <<< 16 ||| (f.seq % 256) <<< 24
  | none => 0

/-- CREDITS, for the tenant in REQ_BUF byte 0 bits 5:0. -/
def creditsReg (s : State) (p : Nat) : Nat :=
  let n := byteAt (port s p).reqBuf 0 % 64
  let q := quota s n
  (q - (tenant s n).outstanding) ||| q <<< 8 ||| n <<< 16

/-- EVT_COUNT. -/
def evtCount (s : State) (p : Nat) : Nat :=
  match eventTenant s p with
  | some n =>
    let total := ((List.range 64).map (fun k => if sessionOf s k = some p then (tenant s k).queue.length else 0)).sum
    n ||| 64 ||| (tenant s n).queue.length <<< 8 ||| (min 255 total) <<< 16
  | none => 0

/-- WIN_STATUS (Table HST.8). -/
def winStatus (q : Port) : Nat :=
  bitsOf [q.winDenied, q.winParity, q.winRetired, q.winUnbound, q.atopBusy, q.atopErr] ||| q.winCount <<< 8

/-- HEARTBEAT: milliseconds since firmware start, which the model takes at READY (assumption 89); the count stands while no firmware
runs. -/
def heartbeat (s : State) : Nat := (if fwRuns s then s.clk.us - s.core.fwStart else s.core.beat) / 1000 % 0x100000000

/-- The registers that the bridge serves while READY is clear (R598). -/
def servedAlways (off : Nat) : Bool := [0x000, 0x004, 0x008, 0x00C, 0x010, 0x030, 0x034, 0x03C, 0x058].contains off

/-- A register of the low page by its offset; an offset that Table HST.3 does not name, and a write-only one, reads zero (R580). -/
def lowReg (s : State) (p off : Nat) : Nat :=
  let q := port s p
  match off with
  | 0x000 => p ||| b2n (p % 2 == 0) <<< 8
  | 0x004 => devId
  | 0x008 => if fwRuns s then ifl else 0
  | 0x00C => portStatus s p
  | 0x018 => q.reqLen
  | 0x01C => ((presented s p).map (fun f => f.frame.length)).getD 0
  | 0x020 => rspStatus s p
  | 0x024 => creditsReg s p
  | 0x028 => evtCount s p
  | 0x030 => q.irqStatus.toNat
  | 0x034 => q.irqMask.toNat
  | 0x038 => heartbeat s
  | 0x03C => faultSummary s
  | 0x040 => q.winBank
  | 0x044 => winStatus q
  | 0x048 => q.atopAddr.toNat
  | 0x04C => q.atopOpnd.toNat
  | 0x054 => q.atopResult.toNat
  | 0x058 => q.scratch.toNat
  | 0x05C => match q.bound with
    | some n => n ||| 64
    | none => 0
  | _ => 0

/-- The four bytes at an aligned window offset below the memory window, as a read samples them (R582, R596, R598). -/
def regValue (s : State) (p off : Nat) : Nat :=
  if !serves s p && !servedAlways off then 0
  else if off < 0x100 then lowReg s p off
  else if off < 0x200 then fieldAt (port s p).reqBuf (off - 0x100) 4
  else if off < 0x300 then fieldAt (((presented s p).map (fun f => f.frame)).getD []) (off - 0x200) 4
  else if off < 0x30C then fieldAt (port s p).evtData (off - 0x300) 4
  else 0

/-- WIN_STATUS after its read-clear fields were read (Table HST.8, R16). -/
def clearWin (q : Port) : Port :=
  { q with winDenied := false, winParity := false, winRetired := false, winUnbound := false, atopErr := false, winCount := 0 }

/-- What reading the lowest byte of a register does; a read that starts inside WIN_STATUS clears nothing (DESIGN CHOICE, assumption 162). -/
def readEffect (p off : Nat) (s : State) : State := if off = 0x044 ∧ serves s p = true then onPort p clearWin s else s

/-- The next offset of a transfer (R581). -/
def nextOff (off : Nat) : Nat := if off = 0x1FFF then 0 else off + 1

/-- Read `n` bytes at consecutive offsets: a register is sampled when its lowest byte is read, or when the transfer first touches it
(R581, R582). -/
def readWindow (p : Nat) : Nat → Nat → Option Nat → State → Bytes × State
  | 0, _, _, s => ([], s)
  | n + 1, off, cur, s =>
    let v := match cur with
      | some v => if off % 4 = 0 then regValue s p off else v
      | none => regValue s p (off / 4 * 4)
    let s1 := if off % 4 = 0 then readEffect p off s else s
    let r := readWindow p n (nextOff off) (some v) s1
    (byte (v >>> (8 * (off % 4))) :: r.1, r.2)

/-- IRQ_STATUS is written with ones to clear (Table HST.7). -/
def irqStatusClear (p : Nat) (mask : BitVec 32) (s : State) : State := onPort p (fun q => { q with irqStatus := q.irqStatus &&& ~~~mask }) s

/-! ### Submission (R599 to R604) -/

/-- Every command by its code (Table CMD.4 and after); parameter commands follow the instance that the payload names. -/
def commandList (pl : Bytes) (s : State) : List CmdDef :=
  [cmdIdentify, cmdStatus, cmdModeRequestFor pl, cmdShipArm, cmdCoreReset, cmdTimeSet, cmdEvents,
   cmdSessionOpen, cmdSessionClose, cmdAuthChallenge, cmdAuthProve, cmdTenantWrite, cmdCreditsRead,
   cmdParamGet, cmdParamSet s, cmdParamInfo, cmdTxnBegin, cmdTxnCommit s, cmdTxnRollback, cmdTxnStatus, cmdConfigFactory] ++
  [cmdRailState, cmdRailForce, cmdTableRun, cmdTableAbort, cmdTableRead, cmdTableWrite, cmdSeqStatus, cmdRailPark,
   cmdFaultStatus, cmdFaultClearAll, cmdFaultInject, cmdSenseCheck, cmdMarginSet, cmdMarginStatus,
   cmdConvertNow, cmdSeqStart, cmdSeqStop, cmdRingAttach, cmdRingStatus, cmdCalSystem, cmdTriggerFire,
   cmdCaptureStatus, cmdCaptureRead, cmdCaptureClear, cmdCaptureTest] ++
  [cmdTagsStatus, cmdTagsSweep, cmdRingDiagnose, cmdIntakeStatus, cmdIntakePolicy, cmdPdRequest, cmdBudgetWindow pl,
   cmdChargeStatus, cmdChargeControl, cmdGaugeRead, cmdGaugeRelearn,
   cmdBankStatus, cmdBankHandover, cmdBankRead, cmdBankWrite, cmdBankAtomic, cmdBankRetire,
   cmdNvStatus, cmdNvRead, cmdNvGather, cmdNvCommit, cmdNvDiscard, cmdNvProtect, cmdLogAppend, cmdLogRead,
   cmdFwInfo, cmdFwBegin, cmdFwChunk, cmdFwFinish, cmdFwActivate, cmdLedgerRead, cmdBackground pl, cmdTelemetryRead]

/-- The command of a code. -/
def commandOf (code : Nat) (pl : Bytes) (s : State) : Option CmdDef := (commandList pl s).find? (fun d => d.code == code)

/-- The request that a frame's header spells (Table HST.9). -/
def reqOf (p : Nat) (f : Bytes) (env : List Int) : Req :=
  { port := p, tenant := byteAt f 0 % 64, seq := byteAt f 1, asyncOk := bit (byteAt f 6) 0, waitQuiet := bit (byteAt f 6) 1,
    persist := bit (byteAt f 6) 2, env := env }

/-- Checks 1 to 3 of Table HST.10 on the copied frame. -/
def frameCheck (f : Bytes) : Option Nat :=
  if f.length < 10 ∨ 256 < f.length ∨ f.length ≠ 10 + fieldAt f 4 2 then some stBadLength
  else if headerCheck f ≠ byteAt f 7 ∨ 64 ≤ byteAt f 0 ∨ 8 ≤ byteAt f 6 then some stBadHeader
  else if crc16 (f.take (f.length - 2)) ≠ fieldAt f (f.length - 2) 2 then some stBadCrc
  else none

/-- A request whose code no command has: the first check of Table CMD.1 fails after acceptance. -/
def unknownCommand (code : Nat) (r : Req) (s : State) : State :=
  match acceptCheck code r s with
  | some st => respond r.port r.tenant r.seq st [] none false s
  | none => respond r.port r.tenant r.seq stUnknownCommand [] (some s.clk.us) true (consume code r.tenant s)

/-- The mailbox layer takes a copied frame (R603, R604). -/
def takeFrame (p : Nat) (f : Bytes) (env : List Int) (s : State) : State :=
  match frameCheck f with
  | some st => respond p (byteAt f 0) (byteAt f 1) st [] none false s
  | none =>
    let r := reqOf p f env
    let pl := (f.drop 8).take (f.length - 10)
    match commandOf (fieldAt f 2 2) pl s with
    | some d => serveUp d r pl s
    | none => unknownCommand (fieldAt f 2 2) r s

/-- SUBMIT (R598, R602): REQ_BUSY sets and clears within the command; a port that does not serve rejects it. -/
def submit (p : Nat) (env : List Int) (s : State) : State :=
  if serves s p && !(port s p).reqBusy then takeFrame p (bytesAt (port s p).reqBuf 0 (port s p).reqLen) env s
  else setIrq p irqReject s

/-! ### Port reset (R45, R57, R630) -/

/-- PORT_RESET: the port's sessions close, what was owed on it is discarded with its queue, and its bridge returns to its reset
values. -/
def portReset (p : Nat) (s : State) : State :=
  let s1 := (List.range 64).foldl (fun t n => if sessionOf t n = some p then closeSession n byPortReset t else t) s
  let s2 := loseBridge p (onPort p (fun _ => { Port.atReset with inReset := true }) s1)
  let s3 := { s2 with owed := s2.owed.filter (fun o => o.port != p) }
  if p = 0 then { s3 with i3c := State.reset.i3c } else if p = 3 then { s3 with uart := State.reset.uart } else s3

/-- PORT_RESET_END: READY sets again while firmware runs (R630). -/
def portResetEnd (p : Nat) (s : State) : State :=
  if (port s p).inReset then
    onPort p (fun q => if fwRuns s then Port.irq irqReady { q with inReset := false, ready := true } else { q with inReset := false }) s
  else s

/-! ### Register writes (R580 to R582) -/

/-- A whole write of one register of the low page. -/
def writeReg (p : Nat) (env : List Int) (off v : Nat) (s : State) : State :=
  if !serves s p && !servedAlways off && off != 0x014 && off != 0x050 then s
  else
    match off with
    | 0x010 => if v % 2 = 1 then portReset p s else s
    | 0x014 => if v = 1 then submit p env s else if v = 2 ∧ serves s p = true then rspDone p s else s
    | 0x018 => onPort p (fun q => { q with reqLen := v % 512 }) s
    | 0x02C => evtPop p (v % 64) (bit v 7) s
    | 0x030 => irqStatusClear p (BitVec.ofNat 32 v) s
    | 0x034 => onPort p (fun q => { q with irqMask := BitVec.ofNat 32 v,
                                           irqNew := q.irqNew ||| (q.irqStatus &&& BitVec.ofNat 32 v &&& ~~~q.irqMask) }) s
    | 0x040 => onPort p (fun q => { q with winBank := v % 64 }) s
    | 0x048 => onPort p (fun q => { q with atopAddr := BitVec.ofNat 32 v }) s
    | 0x04C => onPort p (fun q => { q with atopOpnd := BitVec.ofNat 32 v }) s
    | 0x050 => atop (v % 16) p false false [] s
    | 0x058 => onPort p (fun q => { q with scratch := BitVec.ofNat 32 v }) s
    | _ => s

/-- The bytes with one replaced, padded with zero up to it. -/
def putByte (bs : Bytes) (k : Nat) (b : Byte) : Bytes := padTo k bs ++ b :: bs.drop (k + 1)

/-- A byte written into REQ_BUF; the buffer is not served while READY is clear (R598). -/
def putReq (p k : Nat) (b : Byte) (s : State) : State :=
  if serves s p then onPort p (fun q => { q with reqBuf := putByte q.reqBuf k b }) s else s

/-- The bytes of a write at consecutive offsets: a register takes effect when the transfer writes all four of its bytes, REQ_BUF byte
by byte, the memory window as R627 groups it (R581, R582). -/
def writeWindow (p : Nat) (env : List Int) : Nat → Nat → Bytes → State → State
  | 0, _, _, s => s
  | _ + 1, _, [], s => s
  | f + 1, off, b :: bs, s =>
    if (port s p).inReset then s
    else if 0x1000 ≤ off ∧ off < 0x2000 then
      let n := min (bs.length + 1) (0x2000 - off)
      writeWindow p env f 0 ((b :: bs).drop n) (memoryWindowAccess p true off 0 ((b :: bs).take n) [] false [] s)
    else if 0x100 ≤ off ∧ off < 0x200 then writeWindow p env f (off + 1) bs (putReq p (off - 0x100) b s)
    else if off % 4 = 0 ∧ off < 0x100 ∧ 3 ≤ bs.length then
      writeWindow p env f (off + 4) (bs.drop 3) (writeReg p env off (fieldAt (b :: bs) 0 4) s)
    else writeWindow p env f (off + 1) bs s

/-- The bytes of a read at consecutive offsets: registers as R582 samples them, the memory window as R627 reads it. -/
def readSpan (p : Nat) : Nat → Nat → Nat → State → Bytes × State
  | 0, _, _, s => ([], s)
  | f + 1, off, n, s =>
    if n = 0 ∨ (port s p).inReset = true then ([], s)
    else if 0x1000 ≤ off ∧ off < 0x2000 then
      let k := min n (0x2000 - off)
      let s1 := memoryWindowAccess p false off k [] [] false [] s
      let r := readSpan p f 0 (n - k) s1
      (bytesAt (port s1 p).busOut 0 k ++ r.1, r.2)
    else
      let k := if off < 0x1000 then min n (0x1000 - off) else n
      let x := readWindow p k off none s
      let r := readSpan p f 0x1000 (n - k) x.2
      (x.1 ++ r.1, r.2)

/-- The offset that the next I3C private read starts at (R586). -/
def noteOffset (p off : Nat) (s : State) : State := if p = 0 then { s with i3c := { s.i3c with readOff := off % 0x2000 } } else s

/-- A write transfer on a port. -/
def putTransfer (p : Nat) (env : List Int) (off : Nat) (data : Bytes) (s : State) : State :=
  writeWindow p env (data.length + 1) off data (noteOffset p off s)

/-- A read transfer on a port leaves its bytes on the bus. -/
def getTransfer (p off n : Nat) (s : State) : State :=
  let r := readSpan p (n + 1) off n s
  onPort p (fun q => { q with busOut := r.1 }) r.2

/-- MEMORY_WINDOW_ACCESS on a port's bus: an I3C transfer leaves the offset of the next private read (R586). -/
def windowTransfer (p : Nat) (write : Bool) (off n : Nat) (data : Bytes) (parityBad : List Nat) (early : Bool)
    (rivals : List (Nat × Bool)) (s : State) : State :=
  memoryWindowAccess p write off n data parityBad early rivals (noteOffset p (if write then off else off + n) s)

/-! ### Transfers as the buses carry them (R586 to R595) -/

/-- An I3C private write, then a private read of `n` bytes from where the last one left the offset (R586). -/
def i3cTransfer (bus : Bytes) (n : Nat) (env : List Int) (s : State) : State :=
  let s1 := if 2 ≤ bus.length then putTransfer 0 env (fieldAt bus 0 2) (bus.drop 2) s else s
  if n = 0 then s1 else noteOffset 0 (s1.i3c.readOff + n) (getTransfer 0 s1.i3c.readOff n s1)

/-- The PEC of an SMBus transfer: it begins with the address and the write bit (R589; assumption 21). -/
def smbusPec (s : State) (bs : Bytes) : Byte := byte (crc8 (byte (2 * pn s 0x0209) :: bs))

/-- An SMBus register transfer after its address, up to its STOP, or its read of `n` bytes after the repeated START (Table HST.2). A write
whose count and length disagree is discarded (R590); one whose PEC fails is NACKed and discarded (R589). -/
def smbusTransfer (bus : Bytes) (n : Nat) (env : List Int) (s0 : State) : State :=
  let s := onPort 1 (fun q => { q with nacked := false, busOut := [] }) s0
  let pec := pn s 0x020A == 1
  let k := byteAt bus 2
  if k = 0 then s
  else if n = 0 then
    if bus.length ≠ 3 + k + b2n pec then s
    else if pec && bus.getD (3 + k) 0 != smbusPec s (bus.take (3 + k)) then onPort 1 (fun q => { q with nacked := true }) s
    else putTransfer 1 env (fieldAt bus 0 2) (bytesAt bus 3 k) s
  else if bus.length ≠ 3 then s
  else
    let s1 := getTransfer 1 (fieldAt bus 0 2) (min n k) s
    let code := fun (b : Bytes) => if pec && decide (k < n) then [smbusPec s (bus ++ byte (2 * pn s 0x0209 + 1) :: b)] else []
    onPort 1 (fun q => { q with busOut := q.busOut ++ code q.busOut }) s1

/-- SPI STATUS: PORT_STATUS[7:0] (R592). -/
def spiStatus (s : State) : State := onPort 2 (fun q => { q with busOut := [byte (portStatus s 2)] }) s

/-- An SPI transaction: the opcode byte and what follows it, and the bytes that the host clocks out (Table HST.2a). -/
def spiTransfer (bus : Bytes) (n : Nat) (env : List Int) (s : State) : State :=
  let off := 256 * byteAt bus 1 + byteAt bus 2
  match byteAt bus 0 with
  | 0x02 => if 3 ≤ bus.length then putTransfer 2 env off (bus.drop 3) s else s
  | 0x0B => if 4 ≤ bus.length then getTransfer 2 off n s else s
  | 0x05 => onPort 2 (fun q => { q with busOut := List.replicate n (byte (portStatus s 2)) }) s
  | _ => s

/-- A UART frame that does not check is discarded and counted (R594). -/
def uartDiscard (s : State) : State := { s with uart := { s.uart with discarded := s.uart.discarded + 1 } }

/-- A MAILBOX frame: the frame in REQ_BUF, its length in REQ_LEN, and SUBMIT, in one step (R595). -/
def uartRequest (f : Bytes) (env : List Int) (s : State) : State :=
  if f.length < 10 ∨ 256 < f.length then uartDiscard s
  else if serves s 3 then
    submit 3 env (onPort 3 (fun q => { q with reqBuf := f ++ q.reqBuf.drop f.length, reqLen := f.length }) s)
  else setIrq 3 irqReject s

/-- A REG_READ frame: the device answers with a REG_READ frame (Table HST.5). -/
def uartRead (c : Bytes) (s : State) : State :=
  let n := byteAt c 2
  if c.length ≠ 3 ∨ n = 0 ∨ 64 < n then uartDiscard s
  else
    let s1 := getTransfer 3 (fieldAt c 0 2) n s
    uartSend (byte 3 :: (c ++ (port s1 3).busOut)) s1

/-- A REG_WRITE frame (Table HST.5). -/
def uartWrite (c : Bytes) (env : List Int) (s : State) : State :=
  if c.length < 3 ∨ 66 < c.length then uartDiscard s else putTransfer 3 env (fieldAt c 0 2) (c.drop 2) s

/-- A frame without its stuffing; none where 0x7D stands before the closing flag (R594). -/
def unstuff : Bytes → Option Bytes
  | [] => some []
  | [b] => if b = 0x7D then none else some [b]
  | b :: c :: bs => if b = 0x7D then (unstuff bs).map (fun r => (c ^^^ 0x20) :: r) else (unstuff (c :: bs)).map (fun r => b :: r)

/-- What the line carries between two flags: an aborted frame and idle flags do nothing; a frame is checked and taken by its kind (R594,
Table HST.5). -/
def uartFrame (line : Bytes) (env : List Int) (s : State) : State :=
  match unstuff line with
  | none => s
  | some g =>
    let f := g.take (g.length - 2)
    if g.isEmpty then s
    else if g.length < 3 ∨ crc16 f ≠ fieldAt g (g.length - 2) 2 then uartDiscard s
    else
      match byteAt f 0 with
      | 1 => uartRequest (f.drop 1) env s
      | 3 => uartRead (f.drop 1) s
      | 4 => uartWrite (f.drop 1) env s
      | _ => uartDiscard s

/-- UART_MAILBOX (R595). -/
def uartMailbox (line : Bytes) (env : List Int) (s : State) : State := uartFrame line env s

/-- UART_REG_READ (Table HST.5). -/
def uartRegRead (line : Bytes) (s : State) : State := uartFrame line [] s

/-- UART_REG_WRITE (Table HST.5). -/
def uartRegWrite (line : Bytes) (env : List Int) (s : State) : State := uartFrame line env s

/-- REGISTER_WRITE: a register transfer in the form of its port's bus (R586, R588, R592, R594). -/
def registerWrite (p : Nat) (bus : Bytes) (n : Nat) (env : List Int) (s : State) : State :=
  match p with
  | 0 => i3cTransfer bus n env s
  | 1 => smbusTransfer bus n env s
  | 2 => spiTransfer bus n env s
  | _ => uartFrame bus env s

/-- WIN_STATUS_READ: the register's four bytes as the port's bus reads them, with the PEC on SMBus; its read-clear fields clear (R16). -/
def winStatusRead (p : Nat) (s : State) : State :=
  match p with
  | 0 => i3cTransfer [0x44, 0] 4 [] s
  | 1 => smbusTransfer [0x44, 0, 4] 5 [] s
  | 2 => spiTransfer [0x0B, 0, 0x44, 0] 4 [] s
  | _ => uartRead [0x44, 0, 4] s

/-- SMBUS_ALERT_RESPONSE: port.smbus_addr in bits 7:1 while SMB_ALERTn is low; no byte otherwise (R591). -/
def smbusAlertResponse (s : State) : State :=
  onPort 1 (fun q => { q with busOut := if alertPin s then [byte (2 * pn s 0x0209)] else [] }) s

/-- SMBUS_CLOCK_LOW_TIMEOUT: the transfer is abandoned; a write in progress has no effect (R590). -/
def smbusClockLowTimeout (s : State) : State := s

/-! ### I3C (R583 to R587) -/

/-- A CCC or an in-band interrupt on the I3C bus: it needs no address of the port's own (R583). -/
def onI3cBus (f : State → State) (s : State) : State := if bridgeUp s && !(port s 0).inReset then f s else s

/-- Change the I3C bus state. -/
def onI3c (f : I3cBus → I3cBus) (s : State) : State := { s with i3c := f s.i3c }

/-- The port requests an in-band interrupt: IBI is set, events are enabled, and an enabled status bit has become 1 since the last request that
the controller took, and still is (R587). -/
def ibiWanted (s : State) : Bool := s.i3c.dynAddr.isSome && bit (pn s 0x020E 0) 2 && bit s.i3c.events 0 &&
  irqOn s 0 &&& (port s 0).irqNew != 0

/-- IBI_REQUEST: the mandatory data byte; a request that the controller NACKs is repeated (R587). -/
def ibiRequest (acked : Bool) (s : State) : State :=
  if ibiWanted s then
    onPort 0 (fun q => { q with irqNew := if acked then 0 else q.irqNew }) (onI3c (fun c => { c with ibiPending := !acked, ibiByte := (irqOn s 0).toNat % 256 }) s)
  else onI3c (fun c => { c with ibiPending := false }) s

/-- ENTDAA: a target without a dynamic address takes one (R583). -/
def entdaa (a : Nat) (s : State) : State := if s.i3c.dynAddr.isNone then onI3c (fun c => { c with dynAddr := some (a % 128) }) s else s

/-- SETDASA: addressed by the static address, while that is answered (R585). -/
def setdasa (a : Nat) (s : State) : State :=
  if s.i3c.dynAddr.isNone && pn s 0x0208 != 0 then onI3c (fun c => { c with dynAddr := some (a % 128) }) s else s

/-- SETNEWDA: the dynamic address changes. -/
def setnewda (a : Nat) (s : State) : State := if s.i3c.dynAddr.isSome then onI3c (fun c => { c with dynAddr := some (a % 128) }) s else s

/-- RSTDAA: the dynamic address is cleared (R585). -/
def rstdaa (s : State) : State := onI3c (fun c => { c with dynAddr := none }) s

/-- ENEC. -/
def enec (e : Nat) (s : State) : State := onI3c (fun c => { c with events := c.events ||| e % 256 }) s

/-- DISEC. -/
def disec (e : Nat) (s : State) : State := onI3c (fun c => { c with events := c.events &&& (255 - e % 256) }) s

/-- A directed read: the bytes on the bus, where the port has a dynamic address. -/
def directedGet (bs : Bytes) (s : State) : State := if s.i3c.dynAddr.isSome then onPort 0 (fun q => { q with busOut := bs }) s else s

/-- The provisioned ID (R584). -/
def provisionedId : Nat := 0x2A6 <<< 33 ||| 0x0960 <<< 16 ||| 0x00C

/-- GETPID (R584): most significant byte first, as I3C sends its data (assumption 59). -/
def getpid (s : State) : State := directedGet (beBytes 6 provisionedId) s

/-- GETBCR (R584). -/
def getbcr (s : State) : State := directedGet [byte 0x06] s

/-- GETDCR (R584). -/
def getdcr (s : State) : State := directedGet [byte 0x00] s

/-- GETSTATUS: the spec names the CCC and states no content; its two bytes are free values (assumption 58). -/
def getstatus (s : State) : State :=
  if s.i3c.dynAddr.isSome then
    let d := drawFree s
    directedGet (leInt 2 d.1) d.2
  else s

/-- GETMWL. -/
def getmwl (s : State) : State := directedGet (beBytes 2 s.i3c.mwl) s

/-- GETMRL. -/
def getmrl (s : State) : State := directedGet (beBytes 2 s.i3c.mrl) s

/-- SETMWL, up to the 256 bytes of R584. -/
def setmwl (n : Nat) (s : State) : State := onI3c (fun c => { c with mwl := min n 256 }) s

/-- SETMRL, up to the 256 bytes of R584. -/
def setmrl (n : Nat) (s : State) : State := onI3c (fun c => { c with mrl := min n 256 }) s

end Sys2Proof.Machine
end

