-- ==== Sys2Proof/Machine/Outputs.lean ====
section
/-! DEFINITION. What stands on the balls (Table BAL.12), and the boundary-scan port that takes them over (chapter 02). -/

namespace Sys2Proof.Machine

/-! ### Signals and their states (Tables BAL.11 and BAL.12) -/

/-- The signals whose state Table BAL.12 gives. -/
inductive Signal where
  | gates
  | cc
  | sbu (k : Nat)
  | en (r : Nat)
  | pg (r : Nat)
  | sense (r : Nat)
  | mg (r : Nat)
  | ds (r : Nat)
  | analogIn (k : Nat)
  | reference
  | resv
  | bmd (k : Nat)
  | bmdVdd
  | i3cScl
  | i3cSda
  | smbScl
  | smbSda
  | smbAlertn
  | spiSck
  | spiCsn
  | spiMosi
  | spiMiso
  | irqn (p : Nat)
  | pwrbtnn
  | wakeIn (k : Nat)
  | req (k : Nat)
  | pwrok (k : Nat)
  | hrstn (k : Nat)
  | nReset
  | faultn
  | nAlarm
  | gpio (k : Nat)
  | clkOut
  | vaux
deriving DecidableEq, Repr

/-- What stands on a ball. `released` is high impedance of an output that can drive; `heldLow` is not driven, and low by the passive pull-down of R69; `current` is in steps of 0.1 µA, positive out of
the ball; `perBlock` is a level that the block's own traffic gives. -/
inductive BallSt where
  | low
  | high
  | heldLow
  | released
  | highZ
  | pulledDown
  | rd
  | switching
  | off
  | on
  | opened
  | closed
  | current (tenths : Int)
  | sensed
  | sampled
  | ignored
  | notGood
  | clock
  | perBlock
deriving DecidableEq, Repr

/-- The columns of Table BAL.12. -/
inductive Phase where
  | unpowered
  | por
  | live
  | coreReset
deriving DecidableEq, Repr

/-- The column that holds now. POR lasts until configuration recall. -/
def phase (s : State) : Phase :=
  if !powered s then .unpowered
  else if !s.core.recalled then .por
  else if s.core.run == .inReset || s.core.run == .heldByPin then .coreReset
  else .live

/-- A level as it stands on a push-pull output. -/
def levelOf (b : Bool) : BallSt := if b then .high else .low

/-- An open-drain output: low where it is driven, released otherwise. -/
def drainOf (b : Bool) : BallSt := if b then .low else .released

/-- The buck-boost of the charger runs (Table INT.1); on hold-up it stops (R41). -/
def buckBoostOn (s : State) : Bool := s.inp.path.onInput && s.inp.active.any (pairOn s) && !s.core.holdup

/-- The service UART has SBU1 and SBU2 (Table HST.4, R416). -/
def uartOnSbu (s : State) : Bool := s.inp.tc == 3 && (pn s 0x020C == 1 || pn s 0x020C == 2)

/-- The service UART has GPIO30 and GPIO31 (Table HST.4). -/
def uartOnGpio (s : State) : Bool := pn s 0x020C == 0 || (pn s 0x020C == 2 && s.inp.tc != 3)

/-- An interrupt output: open-drain, or push-pull under port.irq_mode[1] PUSH_PULL (Table BAL.11). -/
def irqLevel (s : State) (p : Nat) (asserted : Bool) : BallSt :=
  if asserted then .low
  else if irqLive s p && bit (pn s 0x020E p) 1 then .high
  else .released

/-- A sequencer output: high when asserted, inverted by its seq.out_polarity bit (R156); low in SHIP and in POR whatever its polarity
(R158). -/
def outLevel (s : State) (k : Nat) : Bool := s.eng.driven && (vget s.eng.outs k false != bit (pn s 0x0413) k)

/-- Pnn_EN as the sequencer and the fault fabric set it: push-pull, or open-drain by rail.en_drive, where it is asserted by releasing
the ball (R70). Not driven, the passive pull-down holds it low (R69). -/
def enLevel (s : State) (r : Nat) : BallSt :=
  if pn s 0x0405 r = 1 then drainOf (!(rail s r).en) else levelOf (rail s r).en

/-- The bus balls of a port: high impedance without power and where the port does not answer, released in a core reset and in the port's
own reset (R67, R71). -/
def busBall (s : State) (p : Nat) : BallSt :=
  match phase s with
  | .unpowered => .highZ
  | .por => .highZ
  | .coreReset => .released
  | .live => if (port s p).inReset then .released else if bridgeUp s && portOn s p then .perBlock else .highZ

/-- The functional state of a signal (Table BAL.12). -/
def ballOf (s : State) (b : Signal) : BallSt :=
  let ph := phase s
  let dead := ph == .unpowered || ph == .por
  match b with
  | .gates => if dead || ph == .coreReset || s.clk.gatesLow || !buckBoostOn s then .low else .switching
  | .cc => .rd
  | .sbu k => if dead || !uartOnSbu s then .highZ else if k = 0 then .perBlock else .sampled
  | .en r => if ph == .unpowered then .heldLow else if dead then .low else enLevel s r
  | .pg _ => if ph == .unpowered then .ignored else if ph == .por then .notGood else .sampled
  | .sense _ => if dead then .highZ else .sensed
  | .mg r => if dead || !(rail s r).margin.driving then .highZ else .current (8 * (rail s r).margin.code)
  | .ds r => if dead || !(rail s r).ds then .opened else .closed
  | .analogIn _ => if dead then .highZ else .sampled
  | .reference => if ph == .unpowered || (ph == .por && !s.clk.pllLocked) then .off else .on
  | .resv => if s.nv.boost then .on else .off
  | .bmd _ => if dead || !bmdOn s then .highZ else if s.tags.flight == .idle then .released else .perBlock
  | .bmdVdd => if bmdOn s && !s.supply.bmdFold then .on else .off
  | .i3cScl => if busBall s 0 == .perBlock then .sampled else .highZ
  | .i3cSda => busBall s 0
  | .smbScl => busBall s 1
  | .smbSda => busBall s 1
  | .smbAlertn => irqLevel s 1 (alertPin s)
  | .spiSck => if busBall s 2 == .perBlock then .sampled else .highZ
  | .spiCsn => if busBall s 2 == .perBlock then .sampled else .highZ
  | .spiMosi => if busBall s 2 == .perBlock then .sampled else .highZ
  | .spiMiso => if busBall s 2 == .perBlock then .released else busBall s 2
  | .irqn p => irqLevel s p (irqPin s p)
  | .pwrbtnn => .sampled
  | .wakeIn _ => .sampled
  | .req _ => if dead then .ignored else .sampled
  | .pwrok k => levelOf (!dead && outLevel s k)
  | .hrstn k => levelOf (!dead && outLevel s (4 + k))
  | .nReset => if dead then .ignored else .sampled
  | .faultn => drainOf (faultPin s)
  | .nAlarm => drainOf (alarmPin s)
  | .gpio k =>
    if ph == .unpowered then .highZ
    else if ph == .por then .pulledDown
    else if k = 30 && uartOnGpio s then .high
    else if k = 31 && uartOnGpio s then .sampled
    else .perBlock
  | .clkOut => if !dead && s.core.clkOut then .clock else .low
  | .vaux => if s.core.vaux && !s.supply.vauxFold then .on else .off

/-! ### The chain (Table BAL.17) -/

/-- The balls of the chain from the TDI end: row order from A to AL, and ascending column within a row (R85). -/
def chain : List Signal :=
  (List.range 12).map Signal.en ++ (List.range 12).map Signal.pg ++
    (List.range 12).flatMap (fun k => [Signal.pg (12 + k), Signal.en (12 + k)]) ++ [.bmd 0, .bmd 1] ++
    [.i3cScl, .i3cSda, .smbScl, .smbSda, .smbAlertn, .spiSck, .spiCsn, .spiMosi, .spiMiso] ++ (List.range 4).map Signal.irqn ++ [.clkOut] ++
    [.pwrbtnn] ++ (List.range 4).map Signal.wakeIn ++ (List.range 8).map Signal.req ++ (List.range 4).map Signal.pwrok ++
    (List.range 4).map Signal.hrstn ++ [.nReset, .faultn] ++ [.nAlarm] ++ (List.range 32).map Signal.gpio

/-- The cells of a ball: input, output and control; output and control; or input alone (Table BAL.17). -/
structure CellSet where
  input : Bool
  output : Bool
deriving DecidableEq, Repr

/-- The cells that a ball of the chain has. -/
def cellSet (b : Signal) : CellSet :=
  match b with
  | .en _ | .gpio _ | .i3cSda | .smbScl | .smbSda | .bmd _ => { input := true, output := true }
  | .pwrok _ | .hrstn _ | .faultn | .nAlarm | .irqn _ | .smbAlertn | .spiMiso | .clkOut => { input := false, output := true }
  | _ => { input := true, output := false }

/-- How many cells a ball has. -/
def cellCount (b : Signal) : Nat := b2n (cellSet b).input + 2 * b2n (cellSet b).output

/-- The number of the first cell of each ball from the TDI end, which is its highest: cells run from 258 at the TDI end to 0 (R85). -/
def topCells : Nat → List Signal → List (Signal × Nat)
  | _, [] => []
  | n, b :: bs => (b, n - 1) :: topCells (n - cellCount b) bs

/-- The highest cell of a ball. -/
def topCell (b : Signal) : Nat := (((topCells 259 chain).find? (fun p => p.1 == b)).map (fun p => p.2)).getD 0

/-- The output cell of a ball that has one, and its control cell is the next below it. -/
def outCell (b : Signal) : Nat := if (cellSet b).input then topCell b - 1 else topCell b

/-- The cell of Pnn_PG. -/
def cellPg (r : Nat) : Nat := topCell (.pg r)

/-- The input cell of Pnn_EN; its output cell is the next below it and its control cell the one after. -/
def cellEn (r : Nat) : Nat := topCell (.en r)

/-! ### The test access port (R79 to R82) -/

/-- The next controller state at a rising TCK edge, by TMS. -/
def TapCtl.next (tms : Bool) : TapCtl → TapCtl
  | .testLogicReset => if tms then .testLogicReset else .runTestIdle
  | .runTestIdle => if tms then .selectDr else .runTestIdle
  | .selectDr => if tms then .selectIr else .captureDr
  | .captureDr => if tms then .exit1Dr else .shiftDr
  | .shiftDr => if tms then .exit1Dr else .shiftDr
  | .exit1Dr => if tms then .updateDr else .pauseDr
  | .pauseDr => if tms then .exit2Dr else .pauseDr
  | .exit2Dr => if tms then .updateDr else .shiftDr
  | .updateDr => if tms then .selectDr else .runTestIdle
  | .selectIr => if tms then .testLogicReset else .captureIr
  | .captureIr => if tms then .exit1Ir else .shiftIr
  | .shiftIr => if tms then .exit1Ir else .shiftIr
  | .exit1Ir => if tms then .updateIr else .pauseIr
  | .pauseIr => if tms then .exit2Ir else .pauseIr
  | .exit2Ir => if tms then .updateIr else .shiftIr
  | .updateIr => if tms then .selectDr else .runTestIdle

/-- The controller after a sequence of TMS levels. -/
def TapCtl.walk (tms : List Bool) (c : TapCtl) : TapCtl := tms.foldl (fun c b => c.next b) c

/-- TDO is driven only while shifting (R79). -/
def tdoDriven (c : TapCtl) : Bool := c == .shiftDr || c == .shiftIr

/-- The internal pulls of the test balls: TCK and TRSTn down, TMS and TDI up (R79): an open ball reads this level. -/
structure TapPulls where
  tck : Bool
  trstn : Bool
  tms : Bool
  tdi : Bool
deriving DecidableEq, Repr

/-- The level that each open test ball reads: TRSTn low holds the controller in Test-Logic-Reset. -/
def tapPulls : TapPulls := { tck := false, trstn := false, tms := true, tdi := true }

/-- Change the test access port. -/
def onTap (f : Tap → Tap) (s : State) : State := { s with tap := f s.tap }

/-- The instruction that a code selects: every code that Table BAL.16 does not list acts as BYPASS (R81). -/
def tapInstr (code : BitVec 4) : TapInstr :=
  match code.toNat with
  | 0 => .extest
  | 1 => .idcode
  | 2 => .sample
  | 3 => .clamp
  | 4 => .highz
  | _ => .bypass

/-- EXTEST, CLAMP and HIGHZ take control of balls (R82). -/
def scanAllowed (s : State) : Bool := s.tap.testEn && s.core.mode != .run

/-- The instruction as it acts: EXTEST, CLAMP and HIGHZ act as BYPASS where they may not take control (R82). -/
def tapActs (s : State) : TapInstr :=
  match tapInstr s.tap.ir with
  | .extest => if scanAllowed s then .extest else .bypass
  | .clamp => if scanAllowed s then .clamp else .bypass
  | .highz => if scanAllowed s then .highz else .bypass
  | i => i

/-- TMS through an instruction-register scan of 4 bits, from Run-Test/Idle or Test-Logic-Reset and back to Run-Test/Idle. -/
def irPath : List Bool := [false, true, true, false, false, false, false, false, true, true, false]

/-- TMS through a data-register scan of 259 bits. -/
def drPath : List Bool := [false, true, false, false] ++ List.replicate 258 false ++ [true, true, false]

/-- An instruction-register scan: the captured 0b0001 goes out on TDO while the code goes in, and Update-IR loads it (R79, R84). -/
def tapLoad (code : BitVec 4) (s : State) : State :=
  onTap (fun t => { t with ir := code, tdo := 1, ctl := t.ctl.walk irPath }) s

/-- TAP_RESET: five TCK with TMS high, or TRSTn; the instruction is IDCODE (R80). -/
def tapReset (s : State) : State :=
  onTap (fun t => { t with ir := 1, ctl := t.ctl.walk (List.replicate 5 true) }) s

/-- EXTEST. -/
def extest (s : State) : State := tapLoad 0 s

/-- IDCODE. -/
def idcode (s : State) : State := tapLoad 1 s

/-- SAMPLE/PRELOAD. -/
def samplePreload (s : State) : State := tapLoad 2 s

/-- CLAMP. -/
def clamp (s : State) : State := tapLoad 3 s

/-- HIGHZ. -/
def highz (s : State) : State := tapLoad 4 s

/-- BYPASS. -/
def bypass (s : State) : State := tapLoad 15 s

/-- TEST_EN changes level (R82). -/
def testEnChange (high : Bool) (s : State) : State := onTap (fun t => { t with testEn := high }) s

/-! ### Balls under boundary scan (R82 to R86) -/

/-- A cell of the update latches. -/
def cell (s : State) (k : Nat) : Bool := s.tap.cells.getLsbD k

/-- The outputs that only pull low, and release their ball for the other level (Table BAL.11, R70, R157). -/
def openDrain (s : State) (b : Signal) : Bool :=
  match b with
  | .en r => pn s 0x0405 r == 1
  | .faultn | .nAlarm => true
  | .irqn p => !bit (pn s 0x020E p) 1
  | .smbAlertn => !bit (pn s 0x020E 1) 1
  | _ => false

/-- A ball that its cells release. A Pnn_EN that is not driven is held low by its passive pull-down (R69); in open-drain mode releasing it
asserts it (R70). -/
def releasedBall (s : State) (b : Signal) : BallSt :=
  match b with
  | .en r => if pn s 0x0405 r = 1 then .released else .heldLow
  | _ => .released

/-- The level of an output cell on its ball, by the output's type. -/
def cellLevel (s : State) (b : Signal) : BallSt :=
  let on := cell s (outCell b)
  if openDrain s b then drainOf (!on) else levelOf on

/-- What a ball's own cells make of it: the control cell at 1 drives the output cell's level, and 0 releases it (R86). A Pnn_EN that a
fault response has deasserted is low whatever the cell holds (R83), until EN is asserted again or FAULT_CLEAR returns the rail to OFF
(DESIGN CHOICE, assumption 149). -/
def cellDrive (s : State) (b : Signal) : BallSt :=
  if cell s (outCell b - 1) then
    match b with
    | .en r => if (rail s r).scanOff then .low else cellLevel s b
    | _ => cellLevel s b
  else releasedBall s b

/-- What stands on a ball: EXTEST and CLAMP give the outputs of the chain to their cells, HIGHZ releases them (R82, R84). -/
def ballNow (s : State) (b : Signal) : BallSt :=
  if (cellSet b).output && powered s then
    match tapActs s with
    | .extest => cellDrive s b
    | .clamp => cellDrive s b
    | .highz => releasedBall s b
    | _ => ballOf s b
  else ballOf s b

/-- Pnn_EN. -/
def enBall (s : State) (r : Nat) : BallSt := ballNow s (.en r)

/-- The level that a driven ball has; none where the board or the block's traffic gives it. -/
def BallSt.level : BallSt → Option Bool
  | .low => some false
  | .heldLow => some false
  | .high => some true
  | _ => none

/-- The bits that the cells of a ball capture, input, output, control: the level on the ball, and the level and the enable that the
device's own logic gives it. `ext` gives the level that the board or a block's traffic puts there (assumption 63). -/
def captureBall (s : State) (ext : Nat → Bool) (b : Signal) : List Bool :=
  let c := cellSet b
  let top := topCell b
  let f := ballOf s b
  (if c.input then [((ballNow s b).level).getD (ext top)] else []) ++
    (if c.output then [(f.level).getD (ext (outCell b)), (f != .heldLow && f.level.isSome) || (f == .perBlock && ext (outCell b - 1))] else [])

/-- The boundary register at Capture-DR, cell 0 in bit 0. -/
def captureCells (s : State) (balls : Nat) : Nat := bitsOf ((chain.flatMap (captureBall s (bit balls))).reverse)

/-- The IDCODE register (R80). -/
def idcodeValue : Nat := 0x20960A9B

/-- What a scan shifts out at TDO; the controller walks its path back to Run-Test/Idle. -/
def shiftedOut (n : Nat) (s : State) : State := onTap (fun t => { t with tdo := BitVec.ofNat 259 n, ctl := t.ctl.walk drPath }) s

/-- CAPTURE_DR_SCAN: 259 shifts through the selected register (R85). Bit k out is cell k of the boundary register at Capture-DR, and bit k
in becomes cell k at Update-DR; the IDCODE register is 32 bits and the bypass register one bit that captures 0, and what is shifted in
follows. -/
def captureDrScan (balls shiftIn : Nat) (s : State) : State :=
  match tapActs s with
  | .extest => onTap (fun t => { t with cells := BitVec.ofNat 259 shiftIn }) (shiftedOut (captureCells s balls) s)
  | .sample => onTap (fun t => { t with cells := BitVec.ofNat 259 shiftIn }) (shiftedOut (captureCells s balls) s)
  | .idcode => shiftedOut (idcodeValue ||| shiftIn <<< 32) s
  | .clamp => shiftedOut (shiftIn <<< 1) s
  | .highz => shiftedOut (shiftIn <<< 1) s
  | .bypass => shiftedOut (shiftIn <<< 1) s

end Sys2Proof.Machine
end

