-- ==== Sys2Proof/Machine/ExecBackground.lean ====
section
/-! DEFINITION. The meaning of the background and ledger rows (chapter 17): one definition per row over the
shared operations. A happening whose ground does not hold changes nothing. -/

namespace Sys2Proof.Machine

/-- LEDGER_READ (R716). -/
def execLedgerRead (r : Req) (ledger : Nat) (index : Nat) (s : State) : Host.Outcome State Fault Refusal :=
  .next (serve cmdLedgerRead r (leBytes 1 ledger ++ leBytes 1 index) s)

/-- BACKGROUND (R727). -/
def execBackground (r : Req) (action : Nat) (task : Nat) (s : State) : Host.Outcome State Fault Refusal :=
  .next (serve (cmdBackground (leBytes 1 action ++ leBytes 1 task)) r (leBytes 1 action ++ leBytes 1 task) s)

/-- TELEMETRY_READ (R746). -/
def execTelemetryRead (r : Req) (s : State) : Host.Outcome State Fault Refusal := .next (serve cmdTelemetryRead r [] s)

/-- FUMAROLE_STEP (R722): one that holds the core for sys.watchdog_ms ends in WATCHDOG (R725). -/
def execFumaroleStep (us : Nat) (corrected uncorrectable weak : List Nat) (parityBad : Bool) (rivals : List (Nat × Bool)) (s : State) :
    Host.Outcome State Fault Refusal :=
  .next (onClock (fun t => if stepHangs us t then watchdog t else fumaroleStep us corrected uncorrectable weak parityBad rivals t) s)

/-- BACKGROUND_WINDOW (R723). -/
def execBackgroundWindow (s : State) : Host.Outcome State Fault Refusal := .next (onLive backgroundWindow s)

/-- CHECKPOINT (R737). -/
def execCheckpoint (s : State) : Host.Outcome State Fault Refusal := .next (onClock checkpoint s)

/-- TELEMETRY (R746). -/
def execTelemetry (rivals : List (Nat × Bool)) (s : State) : Host.Outcome State Fault Refusal := .next (onClock (telemetry rivals) s)

/-- FA_SCRUB (R523). -/
def execFaScrub (corrected : List Nat) (uncorrectable : List Nat) (s : State) : Host.Outcome State Fault Refusal :=
  .next (onClock (faScrub corrected uncorrectable) s)

/-- SA_SCRUB (R575). -/
def execSaScrub (weak : List Nat) (s : State) : Host.Outcome State Fault Refusal := .next (onClock (saScrub weak) s)

/-- BANK_SCRUB (R509). -/
def execBankScrub (parityBad : Bool) (rivals : List (Nat × Bool)) (s : State) : Host.Outcome State Fault Refusal :=
  .next (onClock (bankScrub parityBad rivals) s)

/-- COMPACTION (R568). -/
def execCompaction (s : State) : Host.Outcome State Fault Refusal := .next (onClock compaction s)

end Sys2Proof.Machine
end

