-- ==== Sys2Proof/Machine/ExecCharger.lean ====
section
/-! DEFINITION. The meaning of the charger and gauge rows (chapter 11): one definition per row over the
shared operations. A happening whose ground does not hold changes nothing. -/

namespace Sys2Proof.Machine

/-- PULSE_END (R455). -/
def execPulseEnd (clamped : Bool) (s : State) : Host.Outcome State Fault Refusal := .next (onLive (pulseEnd clamped) s)

/-- STEP_DECISION (R460). -/
def execStepDecision (s : State) : Host.Outcome State Fault Refusal := .next (onLive stepDecision s)

/-- REST_END (R455). -/
def execRestEnd (s : State) : Host.Outcome State Fault Refusal := .next (onLive restEnd s)

/-- PRECHARGE_EXIT (R450). -/
def execPrechargeExit (s : State) : Host.Outcome State Fault Refusal := .next (onLive prechargeExit s)

/-- DONE_TIMER (R450). -/
def execDoneTimer (s : State) : Host.Outcome State Fault Refusal := .next (onLive doneTimer s)

/-- RECOVERY_FAILED (R453). -/
def execRecoveryFailed (s : State) : Host.Outcome State Fault Refusal := .next (onLive recoveryFailed s)

/-- CHG_TIMEOUT (R467). -/
def execChgTimeout (s : State) : Host.Outcome State Fault Refusal := .next (onLive chgTimeout s)

/-- QI_DELIVERY (R469). -/
def execQiDelivery (q : Int) (s : State) : Host.Outcome State Fault Refusal := .next (onLive (qiDelivery q) s)

/-- GAUGE_UPDATE (R471). -/
def execGaugeUpdate (s : State) : Host.Outcome State Fault Refusal := .next (onLive gaugeUpdate s)

/-- REST_ANCHOR (R473). -/
def execRestAnchor (s : State) : Host.Outcome State Fault Refusal := .next (onLive restAnchor s)

/-- BATTERY_EMPTY (R477). -/
def execBatteryEmpty (s : State) : Host.Outcome State Fault Refusal := .next (onLive batteryEmpty s)

/-- BOOT_REST (R479). -/
def execBootRest (s : State) : Host.Outcome State Fault Refusal := .next (onLive bootRest s)

/-- PHASE_WHOLE_SECOND (R456). -/
def execPhaseWholeSecond (s : State) : Host.Outcome State Fault Refusal := .next (onLive phaseWholeSecond s)

/-- CHARGE_STATUS (R705). -/
def execChargeStatus (r : Req) (s : State) : Host.Outcome State Fault Refusal := .next (serve cmdChargeStatus r [] s)

/-- CHARGE_CONTROL (R454). -/
def execChargeControl (r : Req) (inhibit : Nat) (stop : Nat) (s : State) : Host.Outcome State Fault Refusal :=
  .next (serve cmdChargeControl r (leBytes 1 inhibit ++ leBytes 1 stop) s)

/-- GAUGE_READ (R705). -/
def execGaugeRead (r : Req) (s : State) : Host.Outcome State Fault Refusal := .next (serve cmdGaugeRead r [] s)

/-- GAUGE_RELEARN (R481). -/
def execGaugeRelearn (r : Req) (s : State) : Host.Outcome State Fault Refusal := .next (serve cmdGaugeRelearn r [] s)

end Sys2Proof.Machine
end

