-- ==== Sys2Proof/Machine/ExecFaults.lean ====
section
/-! DEFINITION. The meaning of the supervision and capture rows (chapters 05 and 06): one definition per row over the
shared operations. A happening whose ground does not hold changes nothing. -/

namespace Sys2Proof.Machine

/-- OV_FAST (R200). -/
def execOvFast (rail : Nat) (mv : Int) (also : List (Nat × Nat × Int)) (s : State) : Host.Outcome State Fault Refusal :=
  .next (onLive (ovFast rail mv also) s)

/-- UV_FAST (R200). -/
def execUvFast (rail : Nat) (mv : Int) (also : List (Nat × Nat × Int)) (s : State) : Host.Outcome State Fault Refusal :=
  .next (onLive (uvFast rail mv also) s)

/-- FAULT_VERIFY_RESULT (R202). -/
def execFaultVerifyResult (rail : Nat) (code : Int) (s : State) : Host.Outcome State Fault Refusal :=
  .next (onLive (faultVerifyResult rail code) s)

/-- PG_LOSS (R208). -/
def execPgLoss (rail : Nat) (ball : Bool) (mv : Int) (also : List (Nat × Nat × Int)) (s : State) : Host.Outcome State Fault Refusal :=
  .next (onLive (pgLoss rail ball mv also) s)

/-- EN_SHORT (R209). -/
def execEnShort (rail : Nat) (high : Bool) (also : List (Nat × Nat × Int)) (s : State) : Host.Outcome State Fault Refusal := .next (onLive (enShort rail high also) s)

/-- SENSE_CHECK_PERIODIC (R210). -/
def execSenseCheckPeriodic (readings : List (Nat × Int × Int)) (s : State) : Host.Outcome State Fault Refusal :=
  .next (onClock (senseCheckPeriodic readings) s)

/-- VIN_OV (R404). -/
def execVinOv (input mv : Nat) (also : List (Nat × Nat × Int)) (s : State) : Host.Outcome State Fault Refusal := .next (onPower (vinOv input mv also) s)

/-- VIN_REVERSE (R218). -/
def execVinReverse (input : Nat) (also : List (Nat × Nat × Int)) (s : State) : Host.Outcome State Fault Refusal := .next (onPower (vinReverse input also) s)

/-- BAT_REVERSE (R218). -/
def execBatReverse (also : List (Nat × Nat × Int)) (s : State) : Host.Outcome State Fault Refusal := .next (onPower (batReverse also) s)

/-- SYS_UV (R218). -/
def execSysUv (sysMv : Nat) (also : List (Nat × Nat × Int)) (s : State) : Host.Outcome State Fault Refusal := .next (onLive (sysUv sysMv also) s)

/-- DIE_OT (R218). -/
def execDieOt (celsius : Nat) (also : List (Nat × Nat × Int)) (s : State) : Host.Outcome State Fault Refusal := .next (onPower (dieOt celsius also) s)

/-- RESV_LOW (R218). -/
def execResvLow (s : State) : Host.Outcome State Fault Refusal := .next (onLive resvLow s)

/-- FAULT_RETRY (R232). -/
def execFaultRetry (rail : Nat) (mv : Int) (s : State) : Host.Outcome State Fault Refusal := .next (onLive (faultRetry rail mv) s)

/-- RETRY_COUNT_RESET (R233). -/
def execRetryCountReset (rail : Nat) (s : State) : Host.Outcome State Fault Refusal := .next (onLive (retryCountReset rail) s)

/-- FAULTN_PULSE_END (R237). -/
def execFaultnPulseEnd (s : State) : Host.Outcome State Fault Refusal := .next (onLive faultnPulseEnd s)

/-- FAULT_REPORT (R241). -/
def execFaultReport (s : State) : Host.Outcome State Fault Refusal := .next (onLive faultReport s)

/-- FAULT_STATUS (R694). -/
def execFaultStatus (r : Req) (first : Nat) (s : State) : Host.Outcome State Fault Refusal := .next (serve cmdFaultStatus r (leBytes 1 first) s)

/-- FAULT_CLEAR (R235). -/
def execFaultClear (r : Req) (pairs : List (Nat × Nat)) (s : State) : Host.Outcome State Fault Refusal :=
  .next (serve cmdFaultClearAll r (leBytes 1 pairs.length ++ pairs.flatMap (fun p => leBytes 1 p.1 ++ leBytes 1 p.2)) s)

/-- FAULT_INJECT (R236). -/
def execFaultInject (r : Req) (code : Nat) (rail : Nat) (s : State) : Host.Outcome State Fault Refusal :=
  .next (serve cmdFaultInject r (leBytes 1 code ++ leBytes 1 rail) s)

/-- SENSE_CHECK (R214). -/
def execSenseCheck (r : Req) (mask : Nat) (s : State) : Host.Outcome State Fault Refusal := .next (serve cmdSenseCheck r (leBytes 3 mask) s)

/-- PIPE_FRAME (R246). -/
def execPipeFrame (codes : List Nat) (cut : Bool) (lag : Nat) (rivals : List (Nat × Nat × Bool)) (s : State) :
    Host.Outcome State Fault Refusal :=
  .next (onClock (pipeFrame codes cut lag rivals) s)

/-- CAPTURE_MARKER_COMMIT (R262). -/
def execCaptureMarkerCommit (s : State) : Host.Outcome State Fault Refusal := .next (onClock markerTry s)

/-- CAPTURE_FREEZE (R260). -/
def execCaptureFreeze (s : State) : Host.Outcome State Fault Refusal := .next (onClock captureFreeze s)

/-- CAPTURE_RECORD_COMMIT (R266). -/
def execCaptureRecordCommit (parityBad : List (Nat × Nat)) (s : State) : Host.Outcome State Fault Refusal :=
  .next (onClock (captureRecordCommit parityBad) s)

/-- CAPTURE_STATUS (R700). -/
def execCaptureStatus (r : Req) (s : State) : Host.Outcome State Fault Refusal := .next (serve cmdCaptureStatus r [] s)

/-- CAPTURE_READ (R701). -/
def execCaptureRead (r : Req) (offset : Nat) (length : Nat) (s : State) : Host.Outcome State Fault Refusal :=
  .next (serve cmdCaptureRead r (leBytes 4 offset ++ leBytes 1 length) s)

/-- CAPTURE_CLEAR (R274). -/
def execCaptureClear (r : Req) (s : State) : Host.Outcome State Fault Refusal := .next (serve cmdCaptureClear r [] s)

/-- CAPTURE_TEST (R261). -/
def execCaptureTest (r : Req) (s : State) : Host.Outcome State Fault Refusal := .next (serve cmdCaptureTest r [] s)

end Sys2Proof.Machine
end

