-- ==== Sys2Proof/Machine/ExecIntake.lean ====
section
/-! DEFINITION. The meaning of the intake rows (chapter 10): one definition per row over the
shared operations. A happening whose ground does not hold changes nothing. -/

namespace Sys2Proof.Machine

/-- INPUT_DETECT (R399). -/
def execInputDetect (input mv : Nat) (s : State) : Host.Outcome State Fault Refusal := .next (onPower (inputDetect input mv) s)

/-- INPUT_QUALIFY (R400). -/
def execInputQualify (input : Nat) (s : State) : Host.Outcome State Fault Refusal := .next (onPower (inputQualify input) s)

/-- SOURCE_LOSS (R409). -/
def execSourceLoss (mv iin : Int) (s : State) : Host.Outcome State Fault Refusal := .next (onLive (sourceLoss mv iin) s)

/-- HANDOVER_COMPLETE (R410). -/
def execHandoverComplete (lowestSys : Nat) (s : State) : Host.Outcome State Fault Refusal := .next (onLive (handoverComplete lowestSys) s)

/-- TYPEC_ATTACH (R414). -/
def execTypecAttach (rp : Nat) (debug : Bool) (s : State) : Host.Outcome State Fault Refusal := .next (onPower (tcAttach rp debug) s)

/-- TYPEC_DETACH (R414). -/
def execTypecDetach (s : State) : Host.Outcome State Fault Refusal := .next (onPower tcDetach s)

/-- RP_CHANGE (R415). -/
def execRpChange (rp : Nat) (s : State) : Host.Outcome State Fault Refusal := .next (onPower (rpChange rp) s)

/-- SOURCE_CAPABILITIES (R420). -/
def execSourceCapabilities (objects : List (BitVec 32)) (s : State) : Host.Outcome State Fault Refusal :=
  .next (onPower (pdMessage (.sourceCaps objects)) s)

/-- ACCEPT (R422). -/
def execAccept (s : State) : Host.Outcome State Fault Refusal := .next (onPower (pdMessage .accept) s)

/-- PS_RDY (R422). -/
def execPsRdy (s : State) : Host.Outcome State Fault Refusal := .next (onPower (pdMessage .psRdy) s)

/-- CONTRACT_SETTLED (R422). -/
def execContractSettled (s : State) : Host.Outcome State Fault Refusal := .next (onLive contractSettled s)

/-- HARD_RESET (R418). -/
def execHardReset (s : State) : Host.Outcome State Fault Refusal := .next (onPower hardReset s)

/-- SINK_WAIT_CAP_TIMER (R418). -/
def execSinkWaitCapTimer (s : State) : Host.Outcome State Fault Refusal := .next (onLive sinkWaitCapTimer s)

/-- DISCOVER_IDENTITY_ACK (R419). -/
def execDiscoverIdentityAck (idHeader : BitVec 32) (product : BitVec 32) (s : State) : Host.Outcome State Fault Refusal :=
  .next (onPower (pdMessage (.identity idHeader product)) s)

/-- PPS_REQUEST_REPEAT (R421). -/
def execPpsRequestRepeat (s : State) : Host.Outcome State Fault Refusal := .next (onLive ppsRequestRepeat s)

/-- UNSUPPORTED_PD_MESSAGE (R417). -/
def execUnsupportedPdMessage (epr : Bool) (s : State) : Host.Outcome State Fault Refusal := .next (onPower (pdMessage (.other epr)) s)

/-- SEARCH_STEP (R428). -/
def execSearchStep (backstop : Bool) (s : State) : Host.Outcome State Fault Refusal :=
  .next (onLive (fun t => searchStep backstop (atBoundary t)) s)

/-- CREEP_TRY (R430). -/
def execCreepTry (backstop : Bool) (s : State) : Host.Outcome State Fault Refusal :=
  .next (onLive (fun t => creepTry backstop (atBoundary t)) s)

/-- PANEL_PERIOD (R432). -/
def execPanelPeriod (s : State) : Host.Outcome State Fault Refusal := .next (onLive panelPeriod s)

/-- VOC_REMEASURE (R433). -/
def execVocRemeasure (s : State) : Host.Outcome State Fault Refusal := .next (onLive vocRemeasure s)

/-- BUDGET_PINS_CHANGE (R435). -/
def execBudgetPinsChange (gpio : Nat) (s : State) : Host.Outcome State Fault Refusal := .next (onPower (budgetPinsChange gpio) s)

/-- BUDGET_WINDOW_EDGE (R436). -/
def execBudgetWindowEdge (s : State) : Host.Outcome State Fault Refusal := .next (onLive budgetWindowEdge s)

/-- BUDGET_OVERRIDE_EXPIRY (R434). -/
def execBudgetOverrideExpiry (s : State) : Host.Outcome State Fault Refusal := .next (onLive budgetOverrideExpiry s)

/-- INTERVAL_CLOSE (R440). -/
def execIntervalClose (s : State) : Host.Outcome State Fault Refusal := .next (onLive intervalClose s)

/-- BLOCKED_EXIT (R404). -/
def execBlockedExit (input mv : Nat) (reversed : Bool) (s : State) : Host.Outcome State Fault Refusal :=
  .next (onPower (blockedExit input mv reversed) s)

/-- INTAKE_STATUS (R702). -/
def execIntakeStatus (r : Req) (s : State) : Host.Outcome State Fault Refusal := .next (serve cmdIntakeStatus r [] s)

/-- INTAKE_POLICY (R704). -/
def execIntakePolicy (r : Req) (action : Nat) (input : Nat) (s : State) : Host.Outcome State Fault Refusal :=
  .next (serve cmdIntakePolicy r (leBytes 1 action ++ leBytes 1 input) s)

/-- PD_REQUEST (R423). -/
def execPdRequest (r : Req) (position : Nat) (apdoMv : Nat) (s : State) : Host.Outcome State Fault Refusal :=
  .next (serve cmdPdRequest r (leBytes 1 position ++ zeros 1 ++ leBytes 2 apdoMv) s)

/-- BUDGET_WINDOW (R702). -/
def execBudgetWindow (r : Req) (action : Nat) (cls : Nat) (minutes : Nat) (s : State) : Host.Outcome State Fault Refusal :=
  .next (serve (cmdBudgetWindow (leBytes 1 action ++ leBytes 1 cls ++ leBytes 2 minutes)) r (leBytes 1 action ++ leBytes 1 cls ++ leBytes 2 minutes) s)

end Sys2Proof.Machine
end

