-- ==== Sys2Proof/Machine/ExecMeasure.lean ====
section
/-! DEFINITION. The meaning of the converter, measurement and tag rows (chapters 07 to 09): one definition per row over the
shared operations. A happening whose ground does not hold changes nothing. -/

namespace Sys2Proof.Machine

/-- ROTATION_STEP (R300). -/
def execRotationStep (conv : Nat) (m : Rotation) (s : State) : Host.Outcome State Fault Refusal :=
  .next (onClock (rotationStep conv m) s)

/-- SLICE_SWAP (R301). -/
def execSliceSwap (conv : Nat) (s : State) : Host.Outcome State Fault Refusal := .next (onClock (sliceSwap conv) s)

/-- CAL_SYSTEM (R307). -/
def execCalSystem (r : Req) (channel : Nat) (kind : Nat) (stated : Int) (s : State) : Host.Outcome State Fault Refusal :=
  .next (serve cmdCalSystem r (leBytes 1 channel ++ leBytes 1 kind ++ zeros 2 ++ leInt 4 stated) s)

/-- CALIBRATION_END (R315). -/
def execCalibrationEnd (codes : List Int) (imageFails : Bool) (s : State) : Host.Outcome State Fault Refusal :=
  .next (onClock (calibrationEnd codes imageFails) s)

/-- SEQ_TIMER (R327). -/
def execSeqTimer (q : Nat) (s : State) : Host.Outcome State Fault Refusal := .next (onLive (seqTimer q) s)

/-- TRIGGER_LINE_FIRE (R328). -/
def execTriggerLineFire (line : Nat) (kind : Nat) (index : Nat) (falling : Bool) (s : State) : Host.Outcome State Fault Refusal :=
  .next (onLive (triggerLineFire line kind index falling) s)

/-- RESULT_RECORD (R342). -/
def execResultRecord (q : Nat) (codes : List Int) (pair : List Int) (also : List (Nat × Nat × Int)) (s : State) : Host.Outcome State Fault Refusal :=
  .next (onClock (resultRecord q codes pair also) s)

/-- RING_RECORD_WRITE (R346). -/
def execRingRecordWrite (d : Nat) (parityBad : Bool) (rivals : List (Nat × Bool)) (s : State) : Host.Outcome State Fault Refusal :=
  .next (onClock (onSys (ringRecordWrite d parityBad rivals)) s)

/-- THERMISTOR_OPEN_TRIP (R357). -/
def execThermistorOpenTrip (t : Nat) (s : State) : Host.Outcome State Fault Refusal := .next (onLive (thermistorOpenTrip t) s)

/-- THERMISTOR_RELEASE (R357). -/
def execThermistorRelease (t : Nat) (s : State) : Host.Outcome State Fault Refusal := .next (onLive (thermistorRelease t) s)

/-- CONVERT_NOW (R338). -/
def execConvertNow (r : Req) (channel : Nat) (cfg : Nat) (oversampling : Nat) (s : State) : Host.Outcome State Fault Refusal :=
  .next (serve cmdConvertNow r (leBytes 1 channel ++ leBytes 1 cfg ++ leBytes 1 oversampling) s)

/-- SEQ_START (R323). -/
def execSeqStart (r : Req) (mask : Nat) (s : State) : Host.Outcome State Fault Refusal := .next (serve cmdSeqStart r (leBytes 1 mask) s)

/-- SEQ_STOP (R324). -/
def execSeqStop (r : Req) (mask : Nat) (s : State) : Host.Outcome State Fault Refusal := .next (serve cmdSeqStop r (leBytes 1 mask) s)

/-- RING_ATTACH (R345). -/
def execRingAttach (r : Req) (dma : Nat) (action : Nat) (control : Nat) (pipe : Nat) (s : State) : Host.Outcome State Fault Refusal :=
  .next (serve cmdRingAttach r (leBytes 1 dma ++ leBytes 1 action ++ leBytes 4 control ++ leBytes 1 pipe ++ zeros 1) s)

/-- RING_STATUS (R696). -/
def execRingStatus (r : Req) (kind : Nat) (index : Nat) (s : State) : Host.Outcome State Fault Refusal :=
  .next (serve cmdRingStatus r (leBytes 1 kind ++ leBytes 1 index) s)

/-- TRIGGER_FIRE (R328). -/
def execTriggerFire (r : Req) (mask : Nat) (s : State) : Host.Outcome State Fault Refusal := .next (serve cmdTriggerFire r (leBytes 1 mask) s)

/-- CONTINUOUS_FRAME_START (R327). -/
def execContinuousFrameStart (q : Nat) (s : State) : Host.Outcome State Fault Refusal := .next (onLive (continuousFrameStart q) s)

/-- SWEEP (R368). -/
def execSweep (s : State) : Host.Outcome State Fault Refusal := .next (onClock sweep s)

/-- SWEEP_COMPLETE (R369). -/
def execSweepComplete (records : List Bytes) (also : List (Nat × Nat × Int)) (s : State) : Host.Outcome State Fault Refusal :=
  .next (onClock (sweepComplete records also) s)

/-- SWEEP_ABORT (R370). -/
def execSweepAbort (records : List Bytes) (also : List (Nat × Nat × Int)) (s : State) : Host.Outcome State Fault Refusal :=
  .next (onClock (sweepAbort records also) s)

/-- POLL_REPLY (R372). -/
def execPollReply (payload : Bytes) (also : List (Nat × Nat × Int)) (s : State) : Host.Outcome State Fault Refusal :=
  .next (onClock (pollReply payload also) s)

/-- POLL_TIMEOUT (R373). -/
def execPollTimeout (also : List (Nat × Nat × Int)) (s : State) : Host.Outcome State Fault Refusal := .next (onClock (pollTimeout also) s)

/-- POLL_EMERGED (R373). -/
def execPollEmerged (hop : Nat) (also : List (Nat × Nat × Int)) (s : State) : Host.Outcome State Fault Refusal :=
  .next (onClock (pollEmerged hop also) s)

/-- STUB_POLL_ROUND (R376). -/
def execStubPollRound (s : State) : Host.Outcome State Fault Refusal := .next (onClock stubPollRound s)

/-- PROFILE_PARK_HELD (R387). -/
def execProfileParkHeld (s : State) : Host.Outcome State Fault Refusal := .next (onLive profileParkHeld s)

/-- TAGS_STATUS (R702). -/
def execTagsStatus (r : Req) (s : State) : Host.Outcome State Fault Refusal := .next (serve cmdTagsStatus r [] s)

/-- TAGS_SWEEP (R703). -/
def execTagsSweep (r : Req) (s : State) : Host.Outcome State Fault Refusal := .next (serve cmdTagsSweep r [] s)

/-- RING_DIAGNOSE (R702). -/
def execRingDiagnose (r : Req) (s : State) : Host.Outcome State Fault Refusal := .next (serve cmdRingDiagnose r [] s)

end Sys2Proof.Machine
end

