-- ==== Sys2Proof/Machine/ExecModes.lean ====
section
/-! DEFINITION. The meaning of the architecture, reset and mode rows (chapters 01 and 03): one definition per row over the
shared operations. A happening whose ground does not hold changes nothing. -/

namespace Sys2Proof.Machine

/-- POR (R43). -/
def execPor (s : State) : Host.Outcome State Fault Refusal := .next (por .firstPower s)

/-- AON_POR (R43). -/
def execAonPor (mv : Nat) (s : State) : Host.Outcome State Fault Refusal := .next (aonPor mv s)

/-- CONFIGURATION_RECALL (R107). -/
def execConfigurationRecall (bist : List (Nat × List Nat)) (reqLevels : Nat) (ecc : List Int) (s : State) : Host.Outcome State Fault Refusal :=
  .next (configurationRecall bist reqLevels ecc s)

/-- READY (R107). -/
def execReady (badQueues : List Nat) (s : State) : Host.Outcome State Fault Refusal := .next (ready badQueues s)

/-- NV_READY (R570). -/
def execNvReady (ecc : List Int) (s : State) : Host.Outcome State Fault Refusal := .next (nvReady ecc s)

/-- CRYSTAL_QUALIFIED (R29). -/
def execCrystalQualified (s : State) : Host.Outcome State Fault Refusal := .next (onPower crystalQualified s)

/-- CRYSTAL_QUALIFY_TIMEOUT (R30). -/
def execCrystalQualifyTimeout (s : State) : Host.Outcome State Fault Refusal := .next (onPower crystalQualifyTimeout s)

/-- CRYSTAL_FAILURE (R33). -/
def execCrystalFailure (s : State) : Host.Outcome State Fault Refusal := .next (onPower crystalFailure s)

/-- PLL_LOSS_OF_LOCK (R34). -/
def execPllLossOfLock (s : State) : Host.Outcome State Fault Refusal := .next (onPower pllLossOfLock s)

/-- PLL_RELOCK (R36). -/
def execPllRelock (s : State) : Host.Outcome State Fault Refusal := .next (onPower pllRelock s)

/-- CLOCK_BACKSTOP (R37). -/
def execClockBackstop (s : State) : Host.Outcome State Fault Refusal := .next (clockBackstop s)

/-- HOLDUP (R40). -/
def execHoldup (sysMv : Nat) (resv : List Nat) (s : State) : Host.Outcome State Fault Refusal := .next (onPower (holdup sysMv resv) s)

/-- NRESET_ASSERT (R44). -/
def execNresetAssert (s : State) : Host.Outcome State Fault Refusal := .next (nresetAssert s)

/-- NRESET_RELEASE (R44). -/
def execNresetRelease (s : State) : Host.Outcome State Fault Refusal := .next (nresetRelease s)

/-- CORE_RESET_BEGIN (R50). -/
def execCoreResetBegin (s : State) : Host.Outcome State Fault Refusal := .next (coreResetBegin s)

/-- CORE_RESET_RELEASE (R44). -/
def execCoreResetRelease (s : State) : Host.Outcome State Fault Refusal := .next (coreResetRelease s)

/-- WATCHDOG (R51). -/
def execWatchdog (s : State) : Host.Outcome State Fault Refusal := .next (watchdog s)

/-- PWRBTN_PRESS (R97). -/
def execPwrbtnPress (high : Bool) (s : State) : Host.Outcome State Fault Refusal := .next (onPower (pwrbtnPress high) s)

/-- FORCED_POWER_DOWN (R95). -/
def execForcedPowerDown (began : Nat) (s : State) : Host.Outcome State Fault Refusal := .next (onPower (forcedPowerDown began) s)

/-- WAKE_IN_QUALIFIED (R97). -/
def execWakeInQualified (n before : Nat) (s : State) : Host.Outcome State Fault Refusal :=
  .next (onPower (wakeInQualified n before) s)

/-- SHIP_WAKE (R97). -/
def execShipWake (src mv batMv : Nat) (s : State) : Host.Outcome State Fault Refusal := .next (shipWake src mv batMv s)

/-- SHIP_ENTRY_BEGIN (R114). -/
def execShipEntryBegin (s : State) : Host.Outcome State Fault Refusal := .next (shipEntryBegin s)

/-- SHIP_ENTRY_FINISH (R114). -/
def execShipEntryFinish (late : List Nat) (s : State) : Host.Outcome State Fault Refusal := .next (shipEntryFinish late s)

/-- MODE_REQUEST (R680). -/
def execModeRequest (r : Req) (target : Nat) (s : State) : Host.Outcome State Fault Refusal :=
  .next (serve (cmdModeRequestFor (leBytes 1 target)) r (leBytes 1 target) s)

/-- SHIP_ARM (R111). -/
def execShipArm (r : Req) (option : Nat) (s : State) : Host.Outcome State Fault Refusal := .next (serve cmdShipArm r (leBytes 1 option) s)

/-- STATUS (R679). -/
def execStatus (r : Req) (s : State) : Host.Outcome State Fault Refusal := .next (serve cmdStatus r [] s)

/-- IDENTIFY (R679). -/
def execIdentify (r : Req) (s : State) : Host.Outcome State Fault Refusal := .next (serve cmdIdentify r [] s)

/-- CORE_RESET (R50). -/
def execCoreReset (r : Req) (s : State) : Host.Outcome State Fault Refusal := .next (serve cmdCoreReset r [] s)

/-- TIME_SET (R681). -/
def execTimeSet (r : Req) (rtc : Nat) (s : State) : Host.Outcome State Fault Refusal := .next (serve cmdTimeSet r (leBytes 4 rtc) s)

/-- EVENTS (R682). -/
def execEvents (r : Req) (max : Nat) (s : State) : Host.Outcome State Fault Refusal := .next (serve cmdEvents r (leBytes 1 max) s)

/-- OUTPUT_FOLDBACK (R754). -/
def execOutputFoldback (out : Nat) (s : State) : Host.Outcome State Fault Refusal := .next (onPower (outputFoldback out) s)

/-- FOLDBACK_RETRY (R754). -/
def execFoldbackRetry (out : Nat) (s : State) : Host.Outcome State Fault Refusal := .next (onPower (foldbackRetry out) s)

/-- SYS_VALID_RESTORED (R545). -/
def execSysValidRestored (sysMv : Nat) (s : State) : Host.Outcome State Fault Refusal := .next (onPower (sysValidRestored sysMv) s)

end Sys2Proof.Machine
end

