-- ==== Sys2Proof/Machine/ExecPorts.lean ====
section
/-! DEFINITION. The meaning of the port, bus and boundary-scan rows (chapters 02 and 14): one definition per row over the
shared operations. A happening whose ground does not hold changes nothing. -/

namespace Sys2Proof.Machine

/-- SUBMIT (R602). -/
def execSubmit (port : Nat) (env : List Int) (s : State) : Host.Outcome State Fault Refusal := .next (onPortBus port (submit port env) s)

/-- RSP_DONE (R605). -/
def execRspDone (port : Nat) (s : State) : Host.Outcome State Fault Refusal := .next (onPortBus port (rspDone port) s)

/-- RESPONSE_POSTED (R606). -/
def execResponsePosted (port : Nat) (s : State) : Host.Outcome State Fault Refusal := .next (onClock (responsePosted port) s)

/-- PORT_RESET (R630). -/
def execPortReset (port : Nat) (s : State) : Host.Outcome State Fault Refusal := .next (onPortBus port (portReset port) s)

/-- PORT_RESET_END (R630). -/
def execPortResetEnd (port : Nat) (s : State) : Host.Outcome State Fault Refusal := .next (onPower (portResetEnd port) s)

/-- EVT_POP (R624). -/
def execEvtPop (port : Nat) (tenant : Nat) (pop : Bool) (s : State) : Host.Outcome State Fault Refusal :=
  .next (onPortBus port (evtPop port tenant pop) s)

/-- IRQ_STATUS_CLEAR (R597). -/
def execIrqStatusClear (port : Nat) (mask : BitVec 32) (s : State) : Host.Outcome State Fault Refusal :=
  .next (onPortBus port (irqStatusClear port mask) s)

/-- WIN_STATUS_READ (R16). -/
def execWinStatusRead (port : Nat) (s : State) : Host.Outcome State Fault Refusal := .next (onPortBus port (winStatusRead port) s)

/-- REGISTER_WRITE (R582). -/
def execRegisterWrite (port : Nat) (bus : Bytes) (reads : Nat) (env : List Int) (s : State) : Host.Outcome State Fault Refusal :=
  .next (onPortBus port (registerWrite port bus reads env) s)

/-- SPI_STATUS (R592). -/
def execSpiStatus (s : State) : Host.Outcome State Fault Refusal := .next (onPortBus 2 spiStatus s)

/-- UART_MAILBOX (R595). -/
def execUartMailbox (line : Bytes) (env : List Int) (s : State) : Host.Outcome State Fault Refusal := .next (onPortBus 3 (uartMailbox line env) s)

/-- UART_REG_READ (R594). -/
def execUartRegRead (line : Bytes) (s : State) : Host.Outcome State Fault Refusal := .next (onPortBus 3 (uartRegRead line) s)

/-- UART_REG_WRITE (R594). -/
def execUartRegWrite (line : Bytes) (env : List Int) (s : State) : Host.Outcome State Fault Refusal := .next (onPortBus 3 (uartRegWrite line env) s)

/-- UART_FRAME_SENT (R595). -/
def execUartFrameSent (s : State) : Host.Outcome State Fault Refusal := .next (onPortBus 3 uartFrameSent s)

/-- IBI_REQUEST (R587). -/
def execIbiRequest (acked : Bool) (s : State) : Host.Outcome State Fault Refusal := .next (onI3cBus (ibiRequest acked) s)

/-- SMBUS_ALERT_RESPONSE (R591). -/
def execSmbusAlertResponse (s : State) : Host.Outcome State Fault Refusal := .next (onPortBus 1 smbusAlertResponse s)

/-- SMBUS_CLOCK_LOW_TIMEOUT (R590). -/
def execSmbusClockLowTimeout (s : State) : Host.Outcome State Fault Refusal := .next (onPortBus 1 smbusClockLowTimeout s)

/-- ENTDAA (R583). -/
def execEntdaa (address : Nat) (s : State) : Host.Outcome State Fault Refusal := .next (onI3cBus (entdaa address) s)

/-- SETDASA (R583). -/
def execSetdasa (address : Nat) (s : State) : Host.Outcome State Fault Refusal := .next (onI3cBus (setdasa address) s)

/-- SETNEWDA (R583). -/
def execSetnewda (address : Nat) (s : State) : Host.Outcome State Fault Refusal := .next (onI3cBus (setnewda address) s)

/-- RSTDAA (R585). -/
def execRstdaa (s : State) : Host.Outcome State Fault Refusal := .next (onI3cBus rstdaa s)

/-- ENEC (R587). -/
def execEnec (events : Nat) (s : State) : Host.Outcome State Fault Refusal := .next (onI3cBus (enec events) s)

/-- DISEC (R583). -/
def execDisec (events : Nat) (s : State) : Host.Outcome State Fault Refusal := .next (onI3cBus (disec events) s)

/-- GETPID (R584). -/
def execGetpid (s : State) : Host.Outcome State Fault Refusal := .next (onI3cBus getpid s)

/-- GETBCR (R584). -/
def execGetbcr (s : State) : Host.Outcome State Fault Refusal := .next (onI3cBus getbcr s)

/-- GETDCR (R584). -/
def execGetdcr (s : State) : Host.Outcome State Fault Refusal := .next (onI3cBus getdcr s)

/-- GETSTATUS (R583). -/
def execGetstatus (s : State) : Host.Outcome State Fault Refusal := .next (onI3cBus getstatus s)

/-- GETMWL (R584). -/
def execGetmwl (s : State) : Host.Outcome State Fault Refusal := .next (onI3cBus getmwl s)

/-- GETMRL (R584). -/
def execGetmrl (s : State) : Host.Outcome State Fault Refusal := .next (onI3cBus getmrl s)

/-- SETMWL (R583). -/
def execSetmwl (len : Nat) (s : State) : Host.Outcome State Fault Refusal := .next (onI3cBus (setmwl len) s)

/-- SETMRL (R583). -/
def execSetmrl (len : Nat) (s : State) : Host.Outcome State Fault Refusal := .next (onI3cBus (setmrl len) s)

/-- TAP_RESET (R80). -/
def execTapReset (s : State) : Host.Outcome State Fault Refusal := .next (onPower tapReset s)

/-- EXTEST (R82). -/
def execExtest (s : State) : Host.Outcome State Fault Refusal := .next (onPower extest s)

/-- IDCODE (R80). -/
def execIdcode (s : State) : Host.Outcome State Fault Refusal := .next (onPower idcode s)

/-- SAMPLE_PRELOAD (R81). -/
def execSamplePreload (s : State) : Host.Outcome State Fault Refusal := .next (onPower samplePreload s)

/-- CLAMP (R82). -/
def execClamp (s : State) : Host.Outcome State Fault Refusal := .next (onPower clamp s)

/-- HIGHZ (R82). -/
def execHighz (s : State) : Host.Outcome State Fault Refusal := .next (onPower highz s)

/-- BYPASS (R81). -/
def execBypass (s : State) : Host.Outcome State Fault Refusal := .next (onPower bypass s)

/-- TEST_EN_CHANGE (R82). -/
def execTestEnChange (high : Bool) (s : State) : Host.Outcome State Fault Refusal := .next (testEnChange high s)

/-- CAPTURE_DR_SCAN (R85). -/
def execCaptureDrScan (balls : Nat) (shiftIn : Nat) (s : State) : Host.Outcome State Fault Refusal := .next (onPower (captureDrScan balls shiftIn) s)

end Sys2Proof.Machine
end

