-- ==== Sys2Proof/Machine/ExecRails.lean ====
section
/-! DEFINITION. The meaning of the rail, table and margin rows (chapter 04): one definition per row over the
shared operations. A happening whose ground does not hold changes nothing. -/

namespace Sys2Proof.Machine

/-- RAIL_STATE (R690). -/
def execRailState (r : Req) (s : State) : Host.Outcome State Fault Refusal := .next (serve cmdRailState r [] s)

/-- RAIL_FORCE (R180). -/
def execRailForce (r : Req) (rail : Nat) (action : Nat) (s : State) : Host.Outcome State Fault Refusal :=
  .next (serve cmdRailForce r (leBytes 1 rail ++ leBytes 1 action) s)

/-- TABLE_RUN (R691). -/
def execTableRun (r : Req) (table : Nat) (s : State) : Host.Outcome State Fault Refusal := .next (serve cmdTableRun r (leBytes 1 table) s)

/-- TABLE_ABORT (R151). -/
def execTableAbort (r : Req) (table : Nat) (s : State) : Host.Outcome State Fault Refusal := .next (serve cmdTableAbort r (leBytes 1 table) s)

/-- TABLE_READ (R164). -/
def execTableRead (r : Req) (table : Nat) (first : Nat) (count : Nat) (s : State) : Host.Outcome State Fault Refusal :=
  .next (serve cmdTableRead r (leBytes 1 table ++ leBytes 1 first ++ leBytes 1 count) s)

/-- TABLE_WRITE (R692). -/
def execTableWrite (r : Req) (table : Nat) (first : Nat) (flags : Nat) (steps : List Bytes) (s : State) : Host.Outcome State Fault Refusal :=
  .next (serve cmdTableWrite r (leBytes 1 table ++ leBytes 1 first ++ leBytes 1 steps.length ++ leBytes 1 flags ++ steps.flatMap id) s)

/-- SEQ_STATUS (R690). -/
def execSeqStatus (r : Req) (s : State) : Host.Outcome State Fault Refusal := .next (serve cmdSeqStatus r [] s)

/-- RAIL_PARK (R169). -/
def execRailPark (r : Req) (rail : Nat) (action : Nat) (s : State) : Host.Outcome State Fault Refusal :=
  .next (serve cmdRailPark r (leBytes 1 rail ++ leBytes 1 action) s)

/-- END (R152). -/
def execStepEnd (s : State) : Host.Outcome State Fault Refusal := .next (onLive stepEnd s)

/-- ENABLE (R134). -/
def execStepEnable (s : State) : Host.Outcome State Fault Refusal := .next (onLive stepEnable s)

/-- DISABLE (R141). -/
def execStepDisable (s : State) : Host.Outcome State Fault Refusal := .next (onLive stepDisable s)

/-- WAIT_PG (R141). -/
def execStepWaitPg (s : State) : Host.Outcome State Fault Refusal := .next (onLive stepWaitPg s)

/-- WAIT_BELOW (R141). -/
def execStepWaitBelow (s : State) : Host.Outcome State Fault Refusal := .next (onLive stepWaitBelow s)

/-- DELAY (R141). -/
def execStepDelay (s : State) : Host.Outcome State Fault Refusal := .next (onLive stepDelay s)

/-- WAIT_REQ (R141). -/
def execStepWaitReq (s : State) : Host.Outcome State Fault Refusal := .next (onLive stepWaitReq s)

/-- SET_OUT (R156). -/
def execStepSetOut (s : State) : Host.Outcome State Fault Refusal := .next (onLive stepSetOut s)

/-- MARGIN (R141). -/
def execStepMargin (s : State) : Host.Outcome State Fault Refusal := .next (onLive stepMargin s)

/-- IF_MODULE (R166). -/
def execStepIfModule (s : State) : Host.Outcome State Fault Refusal := .next (onLive stepIfModule s)

/-- DISCHARGE (R135). -/
def execStepDischarge (s : State) : Host.Outcome State Fault Refusal := .next (onLive stepDischarge s)

/-- TRIGGER (R328). -/
def execStepTrigger (s : State) : Host.Outcome State Fault Refusal := .next (onLive stepTrigger s)

/-- EVENT (R143). -/
def execStepEvent (s : State) : Host.Outcome State Fault Refusal := .next (onLive stepEvent s)

/-- WAIT_MET (R145). -/
def execWaitMet (s : State) : Host.Outcome State Fault Refusal := .next (onLive waitMet s)

/-- WAIT_TIMEOUT (R153). -/
def execWaitTimeout (s : State) : Host.Outcome State Fault Refusal := .next (onLive waitTimeout s)

/-- DELAY_ELAPSED (R141). -/
def execDelayElapsed (s : State) : Host.Outcome State Fault Refusal := .next (onLive delayElapsed s)

/-- PG_GOOD (R129). -/
def execPgGood (rail : Nat) (ball : Bool) (mv : Int) (s : State) : Host.Outcome State Fault Refusal := .next (onLive (pgGood rail ball mv) s)

/-- RAIL_BELOW_OFF (R133). -/
def execRailBelowOff (rail : Nat) (mv : Int) (s : State) : Host.Outcome State Fault Refusal := .next (onPower (railBelowOff rail mv) s)

/-- TON_MAX (R132). -/
def execTonMax (rail : Nat) (also : List (Nat × Nat × Int)) (s : State) : Host.Outcome State Fault Refusal := .next (onLive (tonMax rail also) s)

/-- TOFF_MAX (R132). -/
def execToffMax (rail : Nat) (also : List (Nat × Nat × Int)) (s : State) : Host.Outcome State Fault Refusal := .next (onLive (toffMax rail also) s)

/-- REQ_EDGE (R161). -/
def execReqEdge (input : Nat) (rising : Bool) (s : State) : Host.Outcome State Fault Refusal := .next (onLive (reqEdge input rising) s)

/-- JOIN_RUN (R176). -/
def execJoinRun (rail : Nat) (s : State) : Host.Outcome State Fault Refusal := .next (onLive (joinRun rail) s)

/-- JOIN_TIMEOUT (R178). -/
def execJoinTimeout (rail : Nat) (s : State) : Host.Outcome State Fault Refusal := .next (onLive (joinTimeout rail) s)

/-- MARGIN_SET (R186). -/
def execMarginSet (r : Req) (rail : Nat) (mode : Nat) (s : State) : Host.Outcome State Fault Refusal :=
  .next (serve cmdMarginSet r (leBytes 1 rail ++ leBytes 1 mode) s)

/-- MARGIN_STATUS (R696). -/
def execMarginStatus (r : Req) (rail : Nat) (s : State) : Host.Outcome State Fault Refusal := .next (serve cmdMarginStatus r (leBytes 1 rail) s)

/-- MARGIN_LOOP_TICK (R191). -/
def execMarginLoopTick (s : State) : Host.Outcome State Fault Refusal := .next (onLive marginLoopTick s)

end Sys2Proof.Machine
end

