-- ==== Sys2Proof/Machine/ExecStore.lean ====
section
/-! DEFINITION. The meaning of the bank and non-volatile storage rows (chapters 12 and 13): one definition per row over the
shared operations. A happening whose ground does not hold changes nothing. -/

namespace Sys2Proof.Machine

/-- BANK_STATUS (R706). -/
def execBankStatus (r : Req) (kind : Nat) (index : Nat) (options : Nat) (s : State) : Host.Outcome State Fault Refusal :=
  .next (serve cmdBankStatus r (leBytes 1 kind ++ leBytes 1 index ++ leBytes 1 options) s)

/-- BANK_HANDOVER (R495). -/
def execBankHandover (r : Req) (bank : Nat) (action : Nat) (tenant : Nat) (s : State) : Host.Outcome State Fault Refusal :=
  .next (serve cmdBankHandover r (leBytes 1 bank ++ leBytes 1 action ++ leBytes 1 tenant) s)

/-- BANK_READ (R707). -/
def execBankRead (r : Req) (address : Nat) (length : Nat) (s : State) : Host.Outcome State Fault Refusal :=
  .next (serve cmdBankRead r (leBytes 4 address ++ leBytes 1 length) s)

/-- BANK_WRITE (R707). -/
def execBankWrite (r : Req) (address : Nat) (data : Bytes) (s : State) : Host.Outcome State Fault Refusal :=
  .next (serve cmdBankWrite r (leBytes 4 address ++ leBytes 1 data.length ++ zeros 1 ++ data) s)

/-- BANK_ATOMIC (R504). -/
def execBankAtomic (r : Req) (address : Nat) (op : Nat) (operand : Nat) (s : State) : Host.Outcome State Fault Refusal :=
  .next (serve cmdBankAtomic r (leBytes 4 address ++ leBytes 1 op ++ zeros 3 ++ leBytes 4 operand) s)

/-- BANK_RETIRE (R513). -/
def execBankRetire (r : Req) (bank : Nat) (options : Nat) (s : State) : Host.Outcome State Fault Refusal :=
  .next (serve cmdBankRetire r (leBytes 1 bank ++ leBytes 1 options) s)

/-- HANDOVER_DRAIN_END (R506). -/
def execHandoverDrainEnd (bank : Nat) (s : State) : Host.Outcome State Fault Refusal := .next (onClock (handoverDrainEnd bank) s)

/-- BANK_ZEROING_DONE (R497). -/
def execBankZeroingDone (bank : Nat) (s : State) : Host.Outcome State Fault Refusal := .next (onClock (bankZeroingDone bank) s)

/-- BANK_BIST_DONE (R514). -/
def execBankBistDone (bank : Nat) (failing : List Nat) (s : State) : Host.Outcome State Fault Refusal :=
  .next (onClock (bankBistDone bank failing) s)

/-- MEMORY_WINDOW_ACCESS (R626). -/
def execMemoryWindowAccess (port : Nat) (write : Bool) (offset : Nat) (count : Nat) (data : Bytes) (parityBad : List Nat) (early : Bool)
    (rivals : List (Nat × Bool)) (s : State) :
    Host.Outcome State Fault Refusal :=
  .next (onPortBus port (windowTransfer port write offset count data parityBad early rivals) s)

/-- ALIAS_BIT_SET (R503). -/
def execAliasBitSet (owner address data : Nat) (parityBad early : Bool) (rivals : List (Nat × Bool)) (s : State) :
    Host.Outcome State Fault Refusal :=
  .next (onClock (aliasBitSet owner address data parityBad early rivals) s)

/-- ALIAS_BIT_CLEAR (R503). -/
def execAliasBitClear (owner address data : Nat) (parityBad early : Bool) (rivals : List (Nat × Bool)) (s : State) :
    Host.Outcome State Fault Refusal :=
  .next (onClock (aliasBitClear owner address data parityBad early rivals) s)

/-- ALIAS_ATOMIC_ADD (R503). -/
def execAliasAtomicAdd (owner address data : Nat) (parityBad early : Bool) (rivals : List (Nat × Bool)) (s : State) :
    Host.Outcome State Fault Refusal :=
  .next (onClock (aliasAtomicAdd owner address data parityBad early rivals) s)

/-- ATOP_ADD (R629). -/
def execAtopAdd (port : Nat) (parityBad early : Bool) (rivals : List (Nat × Bool)) (s : State) :
    Host.Outcome State Fault Refusal :=
  .next (onPortBus port (atopAdd port parityBad early rivals) s)

/-- ATOP_SWAP (R629). -/
def execAtopSwap (port : Nat) (parityBad early : Bool) (rivals : List (Nat × Bool)) (s : State) :
    Host.Outcome State Fault Refusal :=
  .next (onPortBus port (atopSwap port parityBad early rivals) s)

/-- ATOP_OR (R629). -/
def execAtopOr (port : Nat) (parityBad early : Bool) (rivals : List (Nat × Bool)) (s : State) :
    Host.Outcome State Fault Refusal :=
  .next (onPortBus port (atopOr port parityBad early rivals) s)

/-- ATOP_AND_NOT (R629). -/
def execAtopAndNot (port : Nat) (parityBad early : Bool) (rivals : List (Nat × Bool)) (s : State) :
    Host.Outcome State Fault Refusal :=
  .next (onPortBus port (atopAndNot port parityBad early rivals) s)

/-- NV_STATUS (R709). -/
def execNvStatus (r : Req) (s : State) : Host.Outcome State Fault Refusal := .next (serve cmdNvStatus r [] s)

/-- NV_READ (R524). -/
def execNvRead (r : Req) (address : Nat) (length : Nat) (s : State) : Host.Outcome State Fault Refusal :=
  .next (serve cmdNvRead r (leBytes 4 address ++ leBytes 1 length) s)

/-- NV_GATHER (R710). -/
def execNvGather (r : Req) (address : Nat) (data : Bytes) (s : State) : Host.Outcome State Fault Refusal :=
  .next (serve cmdNvGather r (leBytes 4 address ++ leBytes 1 data.length ++ zeros 1 ++ data) s)

/-- NV_COMMIT (R532). -/
def execNvCommit (r : Req) (s : State) : Host.Outcome State Fault Refusal := .next (serve cmdNvCommit r [] s)

/-- NV_DISCARD (R530). -/
def execNvDiscard (r : Req) (s : State) : Host.Outcome State Fault Refusal := .next (serve cmdNvDiscard r [] s)

/-- NV_PROTECT (R538). -/
def execNvProtect (r : Req) (bp : Nat) (lock : Nat) (s : State) : Host.Outcome State Fault Refusal :=
  .next (serve cmdNvProtect r (leBytes 1 bp ++ leBytes 1 lock) s)

/-- LOG_APPEND (R565). -/
def execLogAppend (r : Req) (options : Nat) (supersede : Nat) (data : Bytes) (s : State) : Host.Outcome State Fault Refusal :=
  .next (serve cmdLogAppend r (leBytes 1 options ++ leBytes 1 data.length ++ leBytes 4 supersede ++ data) s)

/-- LOG_READ (R712). -/
def execLogRead (r : Req) (first : Nat) (type : Nat) (part : Nat) (s : State) : Host.Outcome State Fault Refusal :=
  .next (serve cmdLogRead r (leBytes 4 first ++ leBytes 1 type ++ leBytes 1 part) s)

/-- NV_COMMIT_COMPLETE (R532). -/
def execNvCommitComplete (s : State) : Host.Outcome State Fault Refusal := .next (onClock nvCommitComplete s)

/-- EEPROM_WRITE (R542). -/
def execEepromWrite (block : Nat) (address : Nat) (data : Bytes) (ecc : List Int) (s : State) : Host.Outcome State Fault Refusal :=
  .next (onPortBus 1 (eepromWrite block address data ecc) s)

/-- EEPROM_COMMIT_DONE (R542). -/
def execEepromCommitDone (s : State) : Host.Outcome State Fault Refusal := .next (onClock eepromCommitDone s)

/-- EEPROM_READ (R540). -/
def execEepromRead (block : Nat) (address : Option Nat) (count : Nat) (ecc : List Int) (s : State) : Host.Outcome State Fault Refusal :=
  .next (onPortBus 1 (eepromRead block address count ecc) s)

/-- SECTOR_ERASE_DONE (R551). -/
def execSectorEraseDone (s : State) : Host.Outcome State Fault Refusal := .next (onClock sectorEraseDone s)

/-- RESV_DISCHARGE_TEST (R546). -/
def execResvDischargeTest (before : Nat) (after : Nat) (s : State) : Host.Outcome State Fault Refusal :=
  .next (onLive (resvDischargeTest before after) s)

/-- FW_INFO (R713). -/
def execFwInfo (r : Req) (s : State) : Host.Outcome State Fault Refusal := .next (serve cmdFwInfo r [] s)

/-- FW_BEGIN (R554). -/
def execFwBegin (r : Req) (s : State) : Host.Outcome State Fault Refusal := .next (serve cmdFwBegin r [] s)

/-- FW_ERASE_DONE (R714). -/
def execFwEraseDone (ok : Bool) (s : State) : Host.Outcome State Fault Refusal := .next (onClock (fwEraseDone ok) s)

/-- FW_CHUNK (R554). -/
def execFwChunk (r : Req) (offset : Nat) (data : Bytes) (s : State) : Host.Outcome State Fault Refusal :=
  .next (serve cmdFwChunk r (leBytes 4 offset ++ leBytes 1 data.length ++ zeros 1 ++ data) s)

/-- FW_FINISH (R554). -/
def execFwFinish (r : Req) (s : State) : Host.Outcome State Fault Refusal := .next (serve cmdFwFinish r [] s)

/-- FW_ACTIVATE (R556). -/
def execFwActivate (r : Req) (s : State) : Host.Outcome State Fault Refusal := .next (serve cmdFwActivate r [] s)

end Sys2Proof.Machine
end

