-- ==== Sys2Proof/Machine/ExecTenants.lean ====
section
/-! DEFINITION. The meaning of the session, tenant, parameter and transaction rows (chapters 14 to 16): one definition per row over the
shared operations. A happening whose ground does not hold changes nothing. -/

namespace Sys2Proof.Machine

/-- SESSION_OPEN (R609). -/
def execSessionOpen (r : Req) (options : Nat) (s : State) : Host.Outcome State Fault Refusal := .next (serve cmdSessionOpen r (leBytes 1 options) s)

/-- SESSION_CLOSE (R684). -/
def execSessionClose (r : Req) (s : State) : Host.Outcome State Fault Refusal := .next (serve cmdSessionClose r [] s)

/-- AUTH_CHALLENGE (R614). -/
def execAuthChallenge (r : Req) (s : State) : Host.Outcome State Fault Refusal := .next (serve cmdAuthChallenge r [] s)

/-- AUTH_PROVE (R615). -/
def execAuthProve (r : Req) (proof : Bytes) (s : State) : Host.Outcome State Fault Refusal := .next (serve cmdAuthProve r proof s)

/-- TENANT_WRITE (R618). -/
def execTenantWrite (r : Req) (tenant : Nat) (key : Bytes) (s : State) : Host.Outcome State Fault Refusal :=
  .next (serve cmdTenantWrite r (leBytes 1 tenant ++ zeros 3 ++ key) s)

/-- CREDITS_READ (R608). -/
def execCreditsRead (r : Req) (s : State) : Host.Outcome State Fault Refusal := .next (serve cmdCreditsRead r [] s)

/-- PARAM_GET (R649). -/
def execParamGet (r : Req) (id : Nat) (i1 : Nat) (i2 : Nat) (s : State) : Host.Outcome State Fault Refusal :=
  .next (serve cmdParamGet r (leBytes 2 id ++ leBytes 1 i1 ++ leBytes 1 i2) s)

/-- PARAM_SET (R650). -/
def execParamSet (r : Req) (id : Nat) (i1 : Nat) (i2 : Nat) (value : Bytes) (s : State) : Host.Outcome State Fault Refusal :=
  .next (serve (cmdParamSet s) r (leBytes 2 id ++ leBytes 1 i1 ++ leBytes 1 i2 ++ leBytes 1 value.length ++ zeros 1 ++ value) s)

/-- PARAM_INFO (R651). -/
def execParamInfo (r : Req) (id : Nat) (s : State) : Host.Outcome State Fault Refusal := .next (serve cmdParamInfo r (leBytes 2 id) s)

/-- TXN_BEGIN (R652). -/
def execTxnBegin (r : Req) (s : State) : Host.Outcome State Fault Refusal := .next (serve cmdTxnBegin r [] s)

/-- TXN_COMMIT (R655). -/
def execTxnCommit (r : Req) (s : State) : Host.Outcome State Fault Refusal := .next (serve (cmdTxnCommit s) r [] s)

/-- TXN_ROLLBACK (R654). -/
def execTxnRollback (r : Req) (s : State) : Host.Outcome State Fault Refusal := .next (serve cmdTxnRollback r [] s)

/-- TXN_STATUS (R659). -/
def execTxnStatus (r : Req) (s : State) : Host.Outcome State Fault Refusal := .next (serve cmdTxnStatus r [] s)

/-- CONFIG_FACTORY (R665). -/
def execConfigFactory (r : Req) (options : Nat) (s : State) : Host.Outcome State Fault Refusal :=
  .next (serve cmdConfigFactory r (leBytes 1 options) s)

/-- COMMIT_WAIT_CHECK (R655). -/
def execCommitWaitCheck (fails : Bool) (s : State) : Host.Outcome State Fault Refusal := .next (onLive (commitPoll false fails) s)

/-- TXN_IDLE_TIMEOUT (R654). -/
def execTxnIdleTimeout (tenant : Nat) (s : State) : Host.Outcome State Fault Refusal := .next (onLive (txnIdleTimeout tenant) s)

/-- NONCE_EXPIRY (R614). -/
def execNonceExpiry (tenant : Nat) (s : State) : Host.Outcome State Fault Refusal := .next (onPower (nonceExpiry tenant) s)

/-- AUTH_LOCKOUT_END (R616). -/
def execAuthLockoutEnd (tenant : Nat) (s : State) : Host.Outcome State Fault Refusal := .next (onPower (authLockoutEnd tenant) s)

end Sys2Proof.Machine
end

