-- ==== Sys2Proof/Machine/Dispatch.lean ====
section
/-! DEFINITION. The command's effect on everything but the queue: one arm per row of the table. -/

namespace Sys2Proof.Machine

def exec (i : Instr) (s : State) : Host.Outcome State Fault Refusal :=
  match i with
  | .por => Sys2Proof.Machine.execPor s
  | .aonPor mv => Sys2Proof.Machine.execAonPor mv s
  | .configurationRecall bist reqLevels ecc => Sys2Proof.Machine.execConfigurationRecall bist reqLevels ecc s
  | .ready badQueues => Sys2Proof.Machine.execReady badQueues s
  | .nvReady ecc => Sys2Proof.Machine.execNvReady ecc s
  | .crystalQualified => Sys2Proof.Machine.execCrystalQualified s
  | .crystalQualifyTimeout => Sys2Proof.Machine.execCrystalQualifyTimeout s
  | .crystalFailure => Sys2Proof.Machine.execCrystalFailure s
  | .pllLossOfLock => Sys2Proof.Machine.execPllLossOfLock s
  | .pllRelock => Sys2Proof.Machine.execPllRelock s
  | .clockBackstop => Sys2Proof.Machine.execClockBackstop s
  | .holdup sysMv resv => Sys2Proof.Machine.execHoldup sysMv resv s
  | .nresetAssert => Sys2Proof.Machine.execNresetAssert s
  | .nresetRelease => Sys2Proof.Machine.execNresetRelease s
  | .coreResetBegin => Sys2Proof.Machine.execCoreResetBegin s
  | .coreResetRelease => Sys2Proof.Machine.execCoreResetRelease s
  | .watchdog => Sys2Proof.Machine.execWatchdog s
  | .pwrbtnPress high => Sys2Proof.Machine.execPwrbtnPress high s
  | .forcedPowerDown began => Sys2Proof.Machine.execForcedPowerDown began s
  | .wakeInQualified n before => Sys2Proof.Machine.execWakeInQualified n before s
  | .shipWake src mv batMv => Sys2Proof.Machine.execShipWake src mv batMv s
  | .shipEntryBegin => Sys2Proof.Machine.execShipEntryBegin s
  | .shipEntryFinish late => Sys2Proof.Machine.execShipEntryFinish late s
  | .modeRequest r target => Sys2Proof.Machine.execModeRequest r target s
  | .shipArm r option => Sys2Proof.Machine.execShipArm r option s
  | .status r => Sys2Proof.Machine.execStatus r s
  | .identify r => Sys2Proof.Machine.execIdentify r s
  | .coreReset r => Sys2Proof.Machine.execCoreReset r s
  | .timeSet r rtc => Sys2Proof.Machine.execTimeSet r rtc s
  | .events r max => Sys2Proof.Machine.execEvents r max s
  | .sessionOpen r options => Sys2Proof.Machine.execSessionOpen r options s
  | .sessionClose r => Sys2Proof.Machine.execSessionClose r s
  | .authChallenge r => Sys2Proof.Machine.execAuthChallenge r s
  | .authProve r proof => Sys2Proof.Machine.execAuthProve r proof s
  | .tenantWrite r tenant key => Sys2Proof.Machine.execTenantWrite r tenant key s
  | .creditsRead r => Sys2Proof.Machine.execCreditsRead r s
  | .paramGet r id i1 i2 => Sys2Proof.Machine.execParamGet r id i1 i2 s
  | .paramSet r id i1 i2 value => Sys2Proof.Machine.execParamSet r id i1 i2 value s
  | .paramInfo r id => Sys2Proof.Machine.execParamInfo r id s
  | .txnBegin r => Sys2Proof.Machine.execTxnBegin r s
  | .txnCommit r => Sys2Proof.Machine.execTxnCommit r s
  | .txnRollback r => Sys2Proof.Machine.execTxnRollback r s
  | .txnStatus r => Sys2Proof.Machine.execTxnStatus r s
  | .configFactory r options => Sys2Proof.Machine.execConfigFactory r options s
  | .commitWaitCheck imageFails => Sys2Proof.Machine.execCommitWaitCheck imageFails s
  | .txnIdleTimeout tenant => Sys2Proof.Machine.execTxnIdleTimeout tenant s
  | .railState r => Sys2Proof.Machine.execRailState r s
  | .railForce r rail action => Sys2Proof.Machine.execRailForce r rail action s
  | .tableRun r table => Sys2Proof.Machine.execTableRun r table s
  | .tableAbort r table => Sys2Proof.Machine.execTableAbort r table s
  | .tableRead r table first count => Sys2Proof.Machine.execTableRead r table first count s
  | .tableWrite r table first flags steps => Sys2Proof.Machine.execTableWrite r table first flags steps s
  | .seqStatus r => Sys2Proof.Machine.execSeqStatus r s
  | .railPark r rail action => Sys2Proof.Machine.execRailPark r rail action s
  | .stepEnd => Sys2Proof.Machine.execStepEnd s
  | .stepEnable => Sys2Proof.Machine.execStepEnable s
  | .stepDisable => Sys2Proof.Machine.execStepDisable s
  | .stepWaitPg => Sys2Proof.Machine.execStepWaitPg s
  | .stepWaitBelow => Sys2Proof.Machine.execStepWaitBelow s
  | .stepDelay => Sys2Proof.Machine.execStepDelay s
  | .stepWaitReq => Sys2Proof.Machine.execStepWaitReq s
  | .stepSetOut => Sys2Proof.Machine.execStepSetOut s
  | .stepMargin => Sys2Proof.Machine.execStepMargin s
  | .stepIfModule => Sys2Proof.Machine.execStepIfModule s
  | .stepDischarge => Sys2Proof.Machine.execStepDischarge s
  | .stepTrigger => Sys2Proof.Machine.execStepTrigger s
  | .stepEvent => Sys2Proof.Machine.execStepEvent s
  | .waitMet => Sys2Proof.Machine.execWaitMet s
  | .waitTimeout => Sys2Proof.Machine.execWaitTimeout s
  | .delayElapsed => Sys2Proof.Machine.execDelayElapsed s
  | .pgGood rail ball mv => Sys2Proof.Machine.execPgGood rail ball mv s
  | .railBelowOff rail mv => Sys2Proof.Machine.execRailBelowOff rail mv s
  | .tonMax rail also => Sys2Proof.Machine.execTonMax rail also s
  | .toffMax rail also => Sys2Proof.Machine.execToffMax rail also s
  | .reqEdge input rising => Sys2Proof.Machine.execReqEdge input rising s
  | .joinRun rail => Sys2Proof.Machine.execJoinRun rail s
  | .joinTimeout rail => Sys2Proof.Machine.execJoinTimeout rail s
  | .marginSet r rail mode => Sys2Proof.Machine.execMarginSet r rail mode s
  | .marginStatus r rail => Sys2Proof.Machine.execMarginStatus r rail s
  | .marginLoopTick => Sys2Proof.Machine.execMarginLoopTick s
  | .ovFast rail mv also => Sys2Proof.Machine.execOvFast rail mv also s
  | .uvFast rail mv also => Sys2Proof.Machine.execUvFast rail mv also s
  | .faultVerifyResult rail code => Sys2Proof.Machine.execFaultVerifyResult rail code s
  | .pgLoss rail ball mv also => Sys2Proof.Machine.execPgLoss rail ball mv also s
  | .enShort rail high also => Sys2Proof.Machine.execEnShort rail high also s
  | .senseCheckPeriodic readings => Sys2Proof.Machine.execSenseCheckPeriodic readings s
  | .vinOv input mv also => Sys2Proof.Machine.execVinOv input mv also s
  | .vinReverse input also => Sys2Proof.Machine.execVinReverse input also s
  | .batReverse also => Sys2Proof.Machine.execBatReverse also s
  | .sysUv sysMv also => Sys2Proof.Machine.execSysUv sysMv also s
  | .dieOt celsius also => Sys2Proof.Machine.execDieOt celsius also s
  | .resvLow => Sys2Proof.Machine.execResvLow s
  | .faultRetry rail mv => Sys2Proof.Machine.execFaultRetry rail mv s
  | .retryCountReset rail => Sys2Proof.Machine.execRetryCountReset rail s
  | .faultnPulseEnd => Sys2Proof.Machine.execFaultnPulseEnd s
  | .faultReport => Sys2Proof.Machine.execFaultReport s
  | .faultStatus r first => Sys2Proof.Machine.execFaultStatus r first s
  | .faultClear r pairs => Sys2Proof.Machine.execFaultClear r pairs s
  | .faultInject r code rail => Sys2Proof.Machine.execFaultInject r code rail s
  | .senseCheck r mask => Sys2Proof.Machine.execSenseCheck r mask s
  | .pipeFrame codes cut lag rivals => Sys2Proof.Machine.execPipeFrame codes cut lag rivals s
  | .captureMarkerCommit => Sys2Proof.Machine.execCaptureMarkerCommit s
  | .captureFreeze => Sys2Proof.Machine.execCaptureFreeze s
  | .captureRecordCommit parityBad => Sys2Proof.Machine.execCaptureRecordCommit parityBad s
  | .captureStatus r => Sys2Proof.Machine.execCaptureStatus r s
  | .captureRead r offset length => Sys2Proof.Machine.execCaptureRead r offset length s
  | .captureClear r => Sys2Proof.Machine.execCaptureClear r s
  | .captureTest r => Sys2Proof.Machine.execCaptureTest r s
  | .rotationStep conv m => Sys2Proof.Machine.execRotationStep conv m s
  | .sliceSwap conv => Sys2Proof.Machine.execSliceSwap conv s
  | .calSystem r channel kind stated => Sys2Proof.Machine.execCalSystem r channel kind stated s
  | .calibrationEnd codes imageFails => Sys2Proof.Machine.execCalibrationEnd codes imageFails s
  | .seqTimer q => Sys2Proof.Machine.execSeqTimer q s
  | .triggerLineFire line kind index falling => Sys2Proof.Machine.execTriggerLineFire line kind index falling s
  | .resultRecord q codes pair also => Sys2Proof.Machine.execResultRecord q codes pair also s
  | .ringRecordWrite d parityBad rivals => Sys2Proof.Machine.execRingRecordWrite d parityBad rivals s
  | .thermistorOpenTrip t => Sys2Proof.Machine.execThermistorOpenTrip t s
  | .thermistorRelease t => Sys2Proof.Machine.execThermistorRelease t s
  | .convertNow r channel cfg oversampling => Sys2Proof.Machine.execConvertNow r channel cfg oversampling s
  | .seqStart r mask => Sys2Proof.Machine.execSeqStart r mask s
  | .seqStop r mask => Sys2Proof.Machine.execSeqStop r mask s
  | .ringAttach r dma action control pipe => Sys2Proof.Machine.execRingAttach r dma action control pipe s
  | .ringStatus r kind index => Sys2Proof.Machine.execRingStatus r kind index s
  | .triggerFire r mask => Sys2Proof.Machine.execTriggerFire r mask s
  | .sweep => Sys2Proof.Machine.execSweep s
  | .sweepComplete records also => Sys2Proof.Machine.execSweepComplete records also s
  | .sweepAbort records also => Sys2Proof.Machine.execSweepAbort records also s
  | .pollReply payload also => Sys2Proof.Machine.execPollReply payload also s
  | .pollTimeout also => Sys2Proof.Machine.execPollTimeout also s
  | .pollEmerged hop also => Sys2Proof.Machine.execPollEmerged hop also s
  | .stubPollRound => Sys2Proof.Machine.execStubPollRound s
  | .profileParkHeld => Sys2Proof.Machine.execProfileParkHeld s
  | .tagsStatus r => Sys2Proof.Machine.execTagsStatus r s
  | .tagsSweep r => Sys2Proof.Machine.execTagsSweep r s
  | .ringDiagnose r => Sys2Proof.Machine.execRingDiagnose r s
  | .inputDetect input mv => Sys2Proof.Machine.execInputDetect input mv s
  | .inputQualify input => Sys2Proof.Machine.execInputQualify input s
  | .sourceLoss mv iin => Sys2Proof.Machine.execSourceLoss mv iin s
  | .handoverComplete lowestSys => Sys2Proof.Machine.execHandoverComplete lowestSys s
  | .typecAttach rp debug => Sys2Proof.Machine.execTypecAttach rp debug s
  | .typecDetach => Sys2Proof.Machine.execTypecDetach s
  | .rpChange rp => Sys2Proof.Machine.execRpChange rp s
  | .sourceCapabilities objects => Sys2Proof.Machine.execSourceCapabilities objects s
  | .accept => Sys2Proof.Machine.execAccept s
  | .psRdy => Sys2Proof.Machine.execPsRdy s
  | .contractSettled => Sys2Proof.Machine.execContractSettled s
  | .hardReset => Sys2Proof.Machine.execHardReset s
  | .sinkWaitCapTimer => Sys2Proof.Machine.execSinkWaitCapTimer s
  | .discoverIdentityAck idHeader product => Sys2Proof.Machine.execDiscoverIdentityAck idHeader product s
  | .ppsRequestRepeat => Sys2Proof.Machine.execPpsRequestRepeat s
  | .searchStep backstop => Sys2Proof.Machine.execSearchStep backstop s
  | .creepTry backstop => Sys2Proof.Machine.execCreepTry backstop s
  | .panelPeriod => Sys2Proof.Machine.execPanelPeriod s
  | .vocRemeasure => Sys2Proof.Machine.execVocRemeasure s
  | .budgetPinsChange gpio => Sys2Proof.Machine.execBudgetPinsChange gpio s
  | .budgetWindowEdge => Sys2Proof.Machine.execBudgetWindowEdge s
  | .budgetOverrideExpiry => Sys2Proof.Machine.execBudgetOverrideExpiry s
  | .intervalClose => Sys2Proof.Machine.execIntervalClose s
  | .intakeStatus r => Sys2Proof.Machine.execIntakeStatus r s
  | .intakePolicy r action input => Sys2Proof.Machine.execIntakePolicy r action input s
  | .pdRequest r position apdoMv => Sys2Proof.Machine.execPdRequest r position apdoMv s
  | .budgetWindow r action cls minutes => Sys2Proof.Machine.execBudgetWindow r action cls minutes s
  | .pulseEnd clamped => Sys2Proof.Machine.execPulseEnd clamped s
  | .stepDecision => Sys2Proof.Machine.execStepDecision s
  | .restEnd => Sys2Proof.Machine.execRestEnd s
  | .prechargeExit => Sys2Proof.Machine.execPrechargeExit s
  | .doneTimer => Sys2Proof.Machine.execDoneTimer s
  | .recoveryFailed => Sys2Proof.Machine.execRecoveryFailed s
  | .chgTimeout => Sys2Proof.Machine.execChgTimeout s
  | .qiDelivery q => Sys2Proof.Machine.execQiDelivery q s
  | .gaugeUpdate => Sys2Proof.Machine.execGaugeUpdate s
  | .restAnchor => Sys2Proof.Machine.execRestAnchor s
  | .batteryEmpty => Sys2Proof.Machine.execBatteryEmpty s
  | .bootRest => Sys2Proof.Machine.execBootRest s
  | .chargeStatus r => Sys2Proof.Machine.execChargeStatus r s
  | .chargeControl r inhibit stop => Sys2Proof.Machine.execChargeControl r inhibit stop s
  | .gaugeRead r => Sys2Proof.Machine.execGaugeRead r s
  | .gaugeRelearn r => Sys2Proof.Machine.execGaugeRelearn r s
  | .bankStatus r kind index options => Sys2Proof.Machine.execBankStatus r kind index options s
  | .bankHandover r bank action tenant => Sys2Proof.Machine.execBankHandover r bank action tenant s
  | .bankRead r address length => Sys2Proof.Machine.execBankRead r address length s
  | .bankWrite r address data => Sys2Proof.Machine.execBankWrite r address data s
  | .bankAtomic r address op operand => Sys2Proof.Machine.execBankAtomic r address op operand s
  | .bankRetire r bank options => Sys2Proof.Machine.execBankRetire r bank options s
  | .handoverDrainEnd bank => Sys2Proof.Machine.execHandoverDrainEnd bank s
  | .bankZeroingDone bank => Sys2Proof.Machine.execBankZeroingDone bank s
  | .bankBistDone bank failing => Sys2Proof.Machine.execBankBistDone bank failing s
  | .memoryWindowAccess port write offset count data parityBad early rivals => Sys2Proof.Machine.execMemoryWindowAccess port write offset count data parityBad early rivals s
  | .aliasBitSet owner address data parityBad early rivals => Sys2Proof.Machine.execAliasBitSet owner address data parityBad early rivals s
  | .aliasBitClear owner address data parityBad early rivals => Sys2Proof.Machine.execAliasBitClear owner address data parityBad early rivals s
  | .aliasAtomicAdd owner address data parityBad early rivals => Sys2Proof.Machine.execAliasAtomicAdd owner address data parityBad early rivals s
  | .atopAdd port parityBad early rivals => Sys2Proof.Machine.execAtopAdd port parityBad early rivals s
  | .atopSwap port parityBad early rivals => Sys2Proof.Machine.execAtopSwap port parityBad early rivals s
  | .atopOr port parityBad early rivals => Sys2Proof.Machine.execAtopOr port parityBad early rivals s
  | .atopAndNot port parityBad early rivals => Sys2Proof.Machine.execAtopAndNot port parityBad early rivals s
  | .nvStatus r => Sys2Proof.Machine.execNvStatus r s
  | .nvRead r address length => Sys2Proof.Machine.execNvRead r address length s
  | .nvGather r address data => Sys2Proof.Machine.execNvGather r address data s
  | .nvCommit r => Sys2Proof.Machine.execNvCommit r s
  | .nvDiscard r => Sys2Proof.Machine.execNvDiscard r s
  | .nvProtect r bp lock => Sys2Proof.Machine.execNvProtect r bp lock s
  | .logAppend r options supersede data => Sys2Proof.Machine.execLogAppend r options supersede data s
  | .logRead r first type part => Sys2Proof.Machine.execLogRead r first type part s
  | .nvCommitComplete => Sys2Proof.Machine.execNvCommitComplete s
  | .eepromWrite block address data ecc => Sys2Proof.Machine.execEepromWrite block address data ecc s
  | .eepromCommitDone => Sys2Proof.Machine.execEepromCommitDone s
  | .eepromRead block address count ecc => Sys2Proof.Machine.execEepromRead block address count ecc s
  | .sectorEraseDone => Sys2Proof.Machine.execSectorEraseDone s
  | .resvDischargeTest before after => Sys2Proof.Machine.execResvDischargeTest before after s
  | .fwInfo r => Sys2Proof.Machine.execFwInfo r s
  | .fwBegin r => Sys2Proof.Machine.execFwBegin r s
  | .fwEraseDone ok => Sys2Proof.Machine.execFwEraseDone ok s
  | .fwChunk r offset data => Sys2Proof.Machine.execFwChunk r offset data s
  | .fwFinish r => Sys2Proof.Machine.execFwFinish r s
  | .fwActivate r => Sys2Proof.Machine.execFwActivate r s
  | .submit port env => Sys2Proof.Machine.execSubmit port env s
  | .rspDone port => Sys2Proof.Machine.execRspDone port s
  | .responsePosted port => Sys2Proof.Machine.execResponsePosted port s
  | .portReset port => Sys2Proof.Machine.execPortReset port s
  | .portResetEnd port => Sys2Proof.Machine.execPortResetEnd port s
  | .evtPop port tenant pop => Sys2Proof.Machine.execEvtPop port tenant pop s
  | .irqStatusClear port mask => Sys2Proof.Machine.execIrqStatusClear port mask s
  | .winStatusRead port => Sys2Proof.Machine.execWinStatusRead port s
  | .registerWrite port bus reads env => Sys2Proof.Machine.execRegisterWrite port bus reads env s
  | .spiStatus => Sys2Proof.Machine.execSpiStatus s
  | .uartMailbox line env => Sys2Proof.Machine.execUartMailbox line env s
  | .uartRegRead line => Sys2Proof.Machine.execUartRegRead line s
  | .uartRegWrite line env => Sys2Proof.Machine.execUartRegWrite line env s
  | .uartFrameSent => Sys2Proof.Machine.execUartFrameSent s
  | .ibiRequest acked => Sys2Proof.Machine.execIbiRequest acked s
  | .smbusAlertResponse => Sys2Proof.Machine.execSmbusAlertResponse s
  | .smbusClockLowTimeout => Sys2Proof.Machine.execSmbusClockLowTimeout s
  | .entdaa address => Sys2Proof.Machine.execEntdaa address s
  | .setdasa address => Sys2Proof.Machine.execSetdasa address s
  | .setnewda address => Sys2Proof.Machine.execSetnewda address s
  | .rstdaa => Sys2Proof.Machine.execRstdaa s
  | .enec events => Sys2Proof.Machine.execEnec events s
  | .disec events => Sys2Proof.Machine.execDisec events s
  | .getpid => Sys2Proof.Machine.execGetpid s
  | .getbcr => Sys2Proof.Machine.execGetbcr s
  | .getdcr => Sys2Proof.Machine.execGetdcr s
  | .getstatus => Sys2Proof.Machine.execGetstatus s
  | .getmwl => Sys2Proof.Machine.execGetmwl s
  | .getmrl => Sys2Proof.Machine.execGetmrl s
  | .setmwl len => Sys2Proof.Machine.execSetmwl len s
  | .setmrl len => Sys2Proof.Machine.execSetmrl len s
  | .nonceExpiry tenant => Sys2Proof.Machine.execNonceExpiry tenant s
  | .authLockoutEnd tenant => Sys2Proof.Machine.execAuthLockoutEnd tenant s
  | .ledgerRead r ledger index => Sys2Proof.Machine.execLedgerRead r ledger index s
  | .background r action task => Sys2Proof.Machine.execBackground r action task s
  | .telemetryRead r => Sys2Proof.Machine.execTelemetryRead r s
  | .fumaroleStep us corrected uncorrectable weak parityBad rivals => Sys2Proof.Machine.execFumaroleStep us corrected uncorrectable weak parityBad rivals s
  | .backgroundWindow => Sys2Proof.Machine.execBackgroundWindow s
  | .checkpoint => Sys2Proof.Machine.execCheckpoint s
  | .telemetry rivals => Sys2Proof.Machine.execTelemetry rivals s
  | .faScrub corrected uncorrectable => Sys2Proof.Machine.execFaScrub corrected uncorrectable s
  | .saScrub weak => Sys2Proof.Machine.execSaScrub weak s
  | .bankScrub parityBad rivals => Sys2Proof.Machine.execBankScrub parityBad rivals s
  | .compaction => Sys2Proof.Machine.execCompaction s
  | .outputFoldback out => Sys2Proof.Machine.execOutputFoldback out s
  | .foldbackRetry out => Sys2Proof.Machine.execFoldbackRetry out s
  | .tapReset => Sys2Proof.Machine.execTapReset s
  | .extest => Sys2Proof.Machine.execExtest s
  | .idcode => Sys2Proof.Machine.execIdcode s
  | .samplePreload => Sys2Proof.Machine.execSamplePreload s
  | .clamp => Sys2Proof.Machine.execClamp s
  | .highz => Sys2Proof.Machine.execHighz s
  | .bypass => Sys2Proof.Machine.execBypass s
  | .blockedExit input mv reversed => Sys2Proof.Machine.execBlockedExit input mv reversed s
  | .unsupportedPdMessage epr => Sys2Proof.Machine.execUnsupportedPdMessage epr s
  | .sysValidRestored sysMv => Sys2Proof.Machine.execSysValidRestored sysMv s
  | .continuousFrameStart q => Sys2Proof.Machine.execContinuousFrameStart q s
  | .testEnChange high => Sys2Proof.Machine.execTestEnChange high s
  | .captureDrScan balls shiftIn => Sys2Proof.Machine.execCaptureDrScan balls shiftIn s
  | .phaseWholeSecond => Sys2Proof.Machine.execPhaseWholeSecond s

end Sys2Proof.Machine
end

