-- ==== Sys2Proof/Machine/Time.lean ====
section
/-! DEFINITION. The passing of one microsecond with no command waiting (R25, R681, Table LED.3; assumption 1). -/

namespace Sys2Proof.Machine

/-- The RTC second count of the always-on domain: 32 bits (R681). -/
def rtcTick (a : Aon) : Aon :=
  if a.rtcSub + 1 < 1000000 then { a with rtcSub := a.rtcSub + 1 }
  else { a with rtcSub := 0, rtc := (a.rtc + 1) % 0x100000000 }

/-- One microsecond of a powered core domain: TICK advances, and with each second the scrub passes count (R25, Table LED.3). -/
def usTick (s : State) : State :=
  let s1 := onClk (fun c => { c with us := c.us + 1 }) s
  if s1.clk.us % 1000000 = 0 then
    { s1 with bg := { s1.bg with faSeconds := s1.bg.faSeconds + 1, saSeconds := s1.bg.saSeconds + 1 } }
  else s1

/-- What an idle step does: AON time always passes, core time while the core domain is powered. -/
def idle (s : State) : State := onPower (fun t => wdKick (usTick t)) (onAon rtcTick s)

end Sys2Proof.Machine
end

