-- ==== Sys2Proof/WellFormed.lean ====
section
/-! DEFINITION. Which commands are well formed: every operand fits the field that the spec gives it. -/

namespace Sys2Proof

/-- The header of a request fits Table HST.9: four ports, 64 tenants, one byte of sequence number. -/
def reqOk (r : Req) : Bool := decide (r.port < 4) && decide (r.tenant < 64) && decide (r.seq < 256)

/-- A detector that completes in the same REF cycle: of a rail, of an input, of a thermistor channel, or another global one. -/
def alsoOk (a : Nat × Nat × Int) : Bool :=
  ([0x01, 0x02, 0x05, 0x06, 0x07, 0x08, 0x09].contains a.1 && decide (a.2.1 < 24)) || ([0x10, 0x11].contains a.1 && decide (a.2.1 < 2)) ||
    (a.1 == 0x14 && decide (a.2.1 < 8)) || [0x12, 0x16, 0x17, 0x20, 0x23].contains a.1

/-- Owner codes of Table BNK.3: a tenant, or a master on its own account (R489). -/
def ownerOk (owner : Nat) : Bool := decide (owner < 0x40) || (decide (0x80 ≤ owner) && decide (owner ≤ 0x8B))

/-- The bytes between two flags of the UART line hold no flag. -/
def lineOk (line : Bytes) : Bool := line.all (fun b => b != 0x7E)

/-- The masters of Table ARC.3. -/
def rivalsOk (rivals : List (Nat × Bool)) : Bool := rivals.all (fun r => decide (r.1 < 12))

/-- Every operand of a command fits its field. -/
def wellFormed : Instr → Bool
  | .por => true
  | .aonPor _ => true
  | .configurationRecall bist reqLevels _ => decide (reqLevels < 256) && bist.all (fun p => decide (p.1 < 64) && p.2.all (fun c => decide (c < 38)))
  | .ready badQueues => badQueues.all (fun n => decide (n < 64))
  | .nvReady _ => true
  | .crystalQualified => true
  | .crystalQualifyTimeout => true
  | .crystalFailure => true
  | .pllLossOfLock => true
  | .pllRelock => true
  | .clockBackstop => true
  | .holdup _ _ => true
  | .nresetAssert => true
  | .nresetRelease => true
  | .coreResetBegin => true
  | .coreResetRelease => true
  | .watchdog => true
  | .pwrbtnPress _ => true
  | .forcedPowerDown began => decide (began < 4)
  | .wakeInQualified n before => decide (n < 4) && decide (before < 65536)
  | .shipWake src mv batMv => decide (src < 3) && decide (mv < 65536) && decide (batMv < 65536)
  | .shipEntryBegin => true
  | .shipEntryFinish late => late.all (fun r => decide (r < 24))
  | .modeRequest r target => reqOk r && decide (target < 256)
  | .shipArm r option => reqOk r && decide (option < 256)
  | .status r => reqOk r
  | .identify r => reqOk r
  | .coreReset r => reqOk r
  | .timeSet r rtc => reqOk r && decide (rtc < 0x100000000)
  | .events r max => reqOk r && decide (max < 256)
  | .sessionOpen r options => reqOk r && decide (options < 256)
  | .sessionClose r => reqOk r
  | .authChallenge r => reqOk r
  | .authProve r proof => reqOk r && proof.length == 16
  | .tenantWrite r tenant key => reqOk r && decide (tenant < 256) && key.length == 32
  | .creditsRead r => reqOk r
  | .paramGet r id i1 i2 => reqOk r && decide (id < 0x10000) && decide (i1 < 256) && decide (i2 < 256)
  | .paramSet r id i1 i2 value => reqOk r && decide (id < 0x10000) && decide (i1 < 256) && decide (i2 < 256) && decide (value.length ≤ 240)
  | .paramInfo r id => reqOk r && decide (id < 0x10000)
  | .txnBegin r => reqOk r
  | .txnCommit r => reqOk r
  | .txnRollback r => reqOk r
  | .txnStatus r => reqOk r
  | .configFactory r options => reqOk r && decide (options < 256)
  | .commitWaitCheck _ => true
  | .txnIdleTimeout tenant => decide (tenant < 64)
  | .railState r => reqOk r
  | .railForce r rail action => reqOk r && decide (rail < 256) && decide (action < 256)
  | .tableRun r table => reqOk r && decide (table < 256)
  | .tableAbort r table => reqOk r && decide (table < 256)
  | .tableRead r table first count => reqOk r && decide (table < 256) && decide (first < 256) && decide (count < 256)
  | .tableWrite r table first flags steps =>
    reqOk r && decide (table < 256) && decide (first < 256) && decide (flags < 256) && decide (steps.length ≤ 30) && steps.all (fun b => b.length == 8)
  | .seqStatus r => reqOk r
  | .railPark r rail action => reqOk r && decide (rail < 256) && decide (action < 256)
  | .stepEnd => true
  | .stepEnable => true
  | .stepDisable => true
  | .stepWaitPg => true
  | .stepWaitBelow => true
  | .stepDelay => true
  | .stepWaitReq => true
  | .stepSetOut => true
  | .stepMargin => true
  | .stepIfModule => true
  | .stepDischarge => true
  | .stepTrigger => true
  | .stepEvent => true
  | .waitMet => true
  | .waitTimeout => true
  | .delayElapsed => true
  | .pgGood rail _ _ => decide (rail < 24)
  | .railBelowOff rail _ => decide (rail < 24)
  | .tonMax rail also => decide (rail < 24) && also.all alsoOk
  | .toffMax rail also => decide (rail < 24) && also.all alsoOk
  | .reqEdge input _ => decide (input < 8)
  | .joinRun rail => decide (rail < 24)
  | .joinTimeout rail => decide (rail < 24)
  | .marginSet r rail mode => reqOk r && decide (rail < 256) && decide (mode < 256)
  | .marginStatus r rail => reqOk r && decide (rail < 256)
  | .marginLoopTick => true
  | .ovFast rail _ also => also.all alsoOk && decide (rail < 24)
  | .uvFast rail _ also => also.all alsoOk && decide (rail < 24)
  | .faultVerifyResult rail _ => decide (rail < 24)
  | .pgLoss rail _ _ also => also.all alsoOk && decide (rail < 24)
  | .enShort rail _ also => also.all alsoOk && decide (rail < 24)
  | .senseCheckPeriodic readings => readings.all (fun x => decide (x.1 < 24))
  | .vinOv input _ also => also.all alsoOk && decide (input < 2)
  | .vinReverse input also => also.all alsoOk && decide (input < 2)
  | .batReverse also => also.all alsoOk
  | .sysUv _ also => also.all alsoOk
  | .dieOt _ also => also.all alsoOk
  | .resvLow => true
  | .faultRetry rail _ => decide (rail < 24)
  | .retryCountReset rail => decide (rail < 24)
  | .faultnPulseEnd => true
  | .faultReport => true
  | .faultStatus r first => reqOk r && decide (first < 256)
  | .faultClear r pairs => reqOk r && decide (pairs.length ≤ 64) && pairs.all (fun p => decide (p.1 < 256) && decide (p.2 < 256))
  | .faultInject r code rail => reqOk r && decide (code < 256) && decide (rail < 256)
  | .senseCheck r mask => reqOk r && decide (mask < 0x1000000)
  | .pipeFrame codes _ _ rivals => rivals.all (fun r => decide (r.1 < 64) && decide (r.2.1 < 12)) && codes.length == 24 && codes.all (fun c => decide (c < 1024))
  | .captureMarkerCommit => true
  | .captureFreeze => true
  | .captureRecordCommit parityBad => parityBad.all (fun p => decide (p.1 < 24) && decide (p.2 < 1024))
  | .captureStatus r => reqOk r
  | .captureRead r offset length => reqOk r && decide (offset < 0x100000000) && decide (length < 256)
  | .captureClear r => reqOk r
  | .captureTest r => reqOk r
  | .rotationStep conv _ => decide (conv < 2)
  | .sliceSwap conv => decide (conv < 2)
  | .calSystem r channel kind stated =>
    reqOk r && decide (channel < 256) && decide (kind < 256) && decide (-0x80000000 ≤ stated) && decide (stated ≤ 0x7FFFFFFF)
  | .calibrationEnd _ _ => true
  | .seqTimer q => decide (q < 8)
  | .triggerLineFire line kind index _ => decide (line < 4) && decide (kind < 6) && decide (index < 256)
  | .resultRecord q _ _ also => decide (q < 8) && also.all alsoOk
  | .ringRecordWrite d _ rivals => rivalsOk rivals && decide (d < 4)
  | .thermistorOpenTrip t => decide (t < 8)
  | .thermistorRelease t => decide (t < 8)
  | .convertNow r channel cfg oversampling => reqOk r && decide (channel < 256) && decide (cfg < 256) && decide (oversampling < 256)
  | .seqStart r mask => reqOk r && decide (mask < 256)
  | .seqStop r mask => reqOk r && decide (mask < 256)
  | .ringAttach r dma action control pipe =>
    reqOk r && decide (dma < 256) && decide (action < 256) && decide (control < 0x100000000) && decide (pipe < 256)
  | .ringStatus r kind index => reqOk r && decide (kind < 256) && decide (index < 256)
  | .triggerFire r mask => reqOk r && decide (mask < 256)
  | .sweep => true
  | .sweepComplete records also => also.all alsoOk && decide (records.length ≤ 8) && records.all (fun b => b.length == 9 || b.length == 18)
  | .sweepAbort records also => also.all alsoOk && decide (records.length ≤ 8) && records.all (fun b => b.length == 9 || b.length == 18)
  | .pollReply _ also => also.all alsoOk
  | .pollTimeout also => also.all alsoOk
  | .pollEmerged hop also => also.all alsoOk && decide (hop < 8)
  | .stubPollRound => true
  | .profileParkHeld => true
  | .tagsStatus r => reqOk r
  | .tagsSweep r => reqOk r
  | .ringDiagnose r => reqOk r
  | .inputDetect input _ => decide (input < 2)
  | .inputQualify input => decide (input < 2)
  | .sourceLoss _ _ => true
  | .handoverComplete lowestSys => decide (lowestSys < 0x10000)
  | .typecAttach rp _ => decide (rp < 3)
  | .typecDetach => true
  | .rpChange rp => decide (rp < 3)
  | .sourceCapabilities objects => decide (1 ≤ objects.length) && decide (objects.length ≤ 7)
  | .accept => true
  | .psRdy => true
  | .contractSettled => true
  | .hardReset => true
  | .sinkWaitCapTimer => true
  | .discoverIdentityAck _ _ => true
  | .ppsRequestRepeat => true
  | .searchStep _ => true
  | .creepTry _ => true
  | .panelPeriod => true
  | .vocRemeasure => true
  | .budgetPinsChange gpio => decide (gpio < 0x100000000)
  | .budgetWindowEdge => true
  | .budgetOverrideExpiry => true
  | .intervalClose => true
  | .intakeStatus r => reqOk r
  | .intakePolicy r action input => reqOk r && decide (action < 256) && decide (input < 256)
  | .pdRequest r position apdoMv => reqOk r && decide (position < 256) && decide (apdoMv < 0x10000)
  | .budgetWindow r action cls minutes => reqOk r && decide (action < 256) && decide (cls < 256) && decide (minutes < 0x10000)
  | .pulseEnd _ => true
  | .stepDecision => true
  | .restEnd => true
  | .prechargeExit => true
  | .doneTimer => true
  | .recoveryFailed => true
  | .chgTimeout => true
  | .qiDelivery _ => true
  | .gaugeUpdate => true
  | .restAnchor => true
  | .batteryEmpty => true
  | .bootRest => true
  | .chargeStatus r => reqOk r
  | .chargeControl r inhibit stop => reqOk r && decide (inhibit < 256) && decide (stop < 256)
  | .gaugeRead r => reqOk r
  | .gaugeRelearn r => reqOk r
  | .bankStatus r kind index options => reqOk r && decide (kind < 256) && decide (index < 256) && decide (options < 256)
  | .bankHandover r bank action tenant => reqOk r && decide (bank < 256) && decide (action < 256) && decide (tenant < 256)
  | .bankRead r address length => reqOk r && decide (address < 0x100000000) && decide (length < 256)
  | .bankWrite r address data => reqOk r && decide (address < 0x100000000) && decide (data.length ≤ 240)
  | .bankAtomic r address op operand => reqOk r && decide (address < 0x100000000) && decide (op < 256) && decide (operand < 0x100000000)
  | .bankRetire r bank options => reqOk r && decide (bank < 256) && decide (options < 256)
  | .handoverDrainEnd bank => decide (bank < 64)
  | .bankZeroingDone bank => decide (bank < 64)
  | .bankBistDone bank failing => decide (bank < 64) && failing.all (fun c => decide (c < 38))
  | .memoryWindowAccess port _ offset _ _ _ _ rivals => rivalsOk rivals && decide (port < 4) && decide (0x1000 ≤ offset) && decide (offset < 0x2000)
  | .aliasBitSet owner address data _ _ rivals => rivalsOk rivals && ownerOk owner && decide (address < 0x100000000) && decide (data < 0x100000000)
  | .aliasBitClear owner address data _ _ rivals => rivalsOk rivals && ownerOk owner && decide (address < 0x100000000) && decide (data < 0x100000000)
  | .aliasAtomicAdd owner address data _ _ rivals => rivalsOk rivals && ownerOk owner && decide (address < 0x100000000) && decide (data < 0x100000000)
  | .atopAdd port _ _ rivals => rivalsOk rivals && decide (port < 4)
  | .atopSwap port _ _ rivals => rivalsOk rivals && decide (port < 4)
  | .atopOr port _ _ rivals => rivalsOk rivals && decide (port < 4)
  | .atopAndNot port _ _ rivals => rivalsOk rivals && decide (port < 4)
  | .nvStatus r => reqOk r
  | .nvRead r address length => reqOk r && decide (address < 0x100000000) && decide (length < 256)
  | .nvGather r address data => reqOk r && decide (address < 0x100000000) && decide (data.length ≤ 240)
  | .nvCommit r => reqOk r
  | .nvDiscard r => reqOk r
  | .nvProtect r bp lock => reqOk r && decide (bp < 256) && decide (lock < 256)
  | .logAppend r options supersede data => reqOk r && decide (options < 256) && decide (supersede < 0x100000000) && decide (data.length ≤ 240)
  | .logRead r first type part => reqOk r && decide (first < 0x100000000) && decide (type < 256) && decide (part < 256)
  | .nvCommitComplete => true
  | .eepromWrite block address _ _ => decide (block < 2) && decide (address < 0x10000)
  | .eepromCommitDone => true
  | .eepromRead block address _ _ => decide (block < 2) && decide (address.getD 0 < 0x10000)
  | .sectorEraseDone => true
  | .resvDischargeTest before after => decide (before < 0x10000) && decide (after < 0x10000)
  | .fwInfo r => reqOk r
  | .fwBegin r => reqOk r
  | .fwEraseDone _ => true
  | .fwChunk r offset data => reqOk r && decide (offset < 0x100000000) && decide (data.length ≤ 240)
  | .fwFinish r => reqOk r
  | .fwActivate r => reqOk r
  | .submit port _ => decide (port < 4)
  | .rspDone port => decide (port < 4)
  | .responsePosted port => decide (port < 4)
  | .portReset port => decide (port < 4)
  | .portResetEnd port => decide (port < 4)
  | .evtPop port tenant _ => decide (port < 4) && decide (tenant < 64)
  | .irqStatusClear port _ => decide (port < 4)
  | .winStatusRead port => decide (port < 4)
  | .registerWrite port bus _ _ => decide (port < 4) && (port != 3 || lineOk bus)
  | .spiStatus => true
  | .uartMailbox line _ => lineOk line
  | .uartRegRead line => lineOk line
  | .uartRegWrite line _ => lineOk line
  | .uartFrameSent => true
  | .ibiRequest _ => true
  | .smbusAlertResponse => true
  | .smbusClockLowTimeout => true
  | .entdaa address => decide (address < 128)
  | .setdasa address => decide (address < 128)
  | .setnewda address => decide (address < 128)
  | .rstdaa => true
  | .enec events => decide (events < 256)
  | .disec events => decide (events < 256)
  | .getpid => true
  | .getbcr => true
  | .getdcr => true
  | .getstatus => true
  | .getmwl => true
  | .getmrl => true
  | .setmwl len => decide (len < 0x10000)
  | .setmrl len => decide (len < 0x10000)
  | .nonceExpiry tenant => decide (tenant < 64)
  | .authLockoutEnd tenant => decide (tenant < 64)
  | .ledgerRead r ledger index => reqOk r && decide (ledger < 256) && decide (index < 256)
  | .background r action task => reqOk r && decide (action < 256) && decide (task < 256)
  | .telemetryRead r => reqOk r
  | .fumaroleStep _ _ _ _ _ rivals => rivalsOk rivals
  | .backgroundWindow => true
  | .checkpoint => true
  | .telemetry rivals => rivalsOk rivals
  | .faScrub _ _ => true
  | .saScrub _ => true
  | .bankScrub _ rivals => rivalsOk rivals
  | .compaction => true
  | .outputFoldback out => decide (out < 2)
  | .foldbackRetry out => decide (out < 2)
  | .tapReset => true
  | .extest => true
  | .idcode => true
  | .samplePreload => true
  | .clamp => true
  | .highz => true
  | .bypass => true
  | .blockedExit input _ _ => decide (input < 2)
  | .unsupportedPdMessage _ => true
  | .sysValidRestored _ => true
  | .continuousFrameStart q => decide (q < 8)
  | .testEnChange _ => true
  | .captureDrScan balls shiftIn => decide (balls < 2 ^ 259) && decide (shiftIn < 2 ^ 259)
  | .phaseWholeSecond => true

end Sys2Proof
end

