-- ==== Sys2Proof/Safety.lean ====
section
/-! DEFINITION. What the claims mean by a command that runs, and by a state that holds together. -/

namespace Sys2Proof.Machine

/-- The command answers this next state. -/
def Runs (c : Instr) (s t : State) : Prop := exec c s = .next t

/-- The memory of a state is in canonical form: addresses rise, exist, and hold something else than what an unlisted address reads as. -/
abbrev MemOk (s : State) : Prop := memWf s.mem = true

/-- One byte of the fabric and NV memories, as a read sees it. -/
abbrev byteOf (s : State) (a : Nat) : Option Byte := memRead s.mem a

/-- The core domain has power and the configuration is recalled. -/
abbrev Live (s : State) : Prop := powered s = true ∧ s.core.recalled = true

/-- Live, and the converters and the fabric have their clock (R34). -/
abbrev Clocked (s : State) : Prop := Live s ∧ s.clk.gated = false

/-- A port answers its bus. -/
abbrev BusUp (p : Nat) (s : State) : Prop := bridgeUp s = true ∧ portOn s p = true

/-- The I3C bus reaches the port: its bridge answers and it is not in its own reset (R583, R630). -/
abbrev I3cUp (s : State) : Prop := bridgeUp s = true ∧ (port s 0).inReset = false

/-- A request reaches the mailbox layer: its port's bridge answers and the mailbox layer serves the port. -/
abbrev Reaches (r : Req) (s : State) : Prop := bridgeUp s = true ∧ portOn s r.port = true ∧ serves s r.port = true

/-- A request of a command passes the checks of Table HST.10 that follow its frame, and those of Table CMD.1. -/
abbrev Accepted (d : CmdDef) (r : Req) (pl : Bytes) (s : State) : Prop :=
  Reaches r s ∧ acceptCheck d.code r (wdKick s) = none ∧ commandCheck d r pl (consume d.code r.tenant (wdKick s)) = none

/-- What POR leaves outside the always-on domain, the arrays and the balls (R43, Table ARC.5). -/
def FreshDomain (t : State) : Prop :=
  t.core.run = .booting ∧ t.core.recalled = false ∧ t.core.ready = false ∧ t.clk.us = 0 ∧ t.rails = State.reset.rails ∧
  t.ports = State.reset.ports ∧ t.tenants = State.reset.tenants ∧ t.eng = State.reset.eng ∧ t.sup = State.reset.sup ∧
  t.fab = { State.reset.fab with banks := t.fab.banks } ∧
  (∀ k, k < 64 → bank t k = { bank State.reset k with fuses := (bank t k).fuses }) ∧ t.msr = State.reset.msr ∧ t.par = State.reset.par ∧ t.chg = State.reset.chg ∧ t.gau = State.reset.gau

/-- The latch of a fault code is set (R222). -/
abbrev Latched (code : Nat) (s : State) : Prop := ∃ l ∈ s.sup.latches, l.code = code

/-- An event of this code is held until firmware posts it (R47). -/
abbrev HeldEvent (code : Nat) (s : State) : Prop := ∃ d ∈ s.deferred, d.ev.code = code

/-- The events of a code that wait in a tenant's queue. -/
abbrev waitingOf (code : Nat) (x : Tenant) : Nat := (x.queue.filter (fun e => e.code == code)).length

/-- An event of this code has reached a tenant: it waits in the tenant's queue, or it is counted as lost (R622). -/
abbrev Received (n code : Nat) (s t : State) : Prop :=
  waitingOf code (tenant s n) < waitingOf code (tenant t n) ∨ (tenant s n).overflowed < (tenant t n).overflowed

/-- An event of this code is posted: held where firmware does not run (R47), and where it runs in the queue of every tenant whose
mask asks for it (R621). -/
def Posts (code : Nat) (s t : State) : Prop :=
  (fwRuns s = false → HeldEvent code t) ∧
  (fwRuns s = true → ∀ n, n < 64 → bit (pn t 0x0205 n) (code / 256) = true → Received n code s t)

/-- An event of this code is posted to one tenant, whatever its mask (R621). -/
def PostsTo (n code : Nat) (s t : State) : Prop :=
  (fwRuns s = false → ∃ d ∈ t.deferred, d.ev.code = code ∧ d.own = some n) ∧ (fwRuns s = true → n < 64 → Received n code s t)

/-- The running table stands at a step of this index, ready to run it. -/
def ReadyAt (k : Nat) (t : State) : Prop := ∃ q, t.eng.run = some q ∧ q.idx = k ∧ q.phase = .ready

/-- The running table waits in the step of this index, over these rails. -/
def WaitsAt (k : Nat) (cover : List Nat) (t : State) : Prop :=
  ∃ q, t.eng.run = some q ∧ q.idx = k ∧ q.phase = .waiting ∧ q.cover = cover

/-- A bank that the fabric may grant: neither RETIRED nor under test (R491, R514). -/
abbrev InUse (k : Nat) (s : State) : Prop := (bank s k).st ≠ .retired ∧ (bank s k).st ≠ .testing

/-- A store of `n` bytes at `a` writes RD of an attached ring's control block, and the DMA rewrites that block (R347). -/
abbrev RdAt (s : State) (d a n : Nat) : Prop := (ringOf s d).attached = true ∧ a < (ringOf s d).cb + 8 ∧ (ringOf s d).cb + 4 < a + n

/-- A store writes no ring's RD. -/
abbrev RdFree (s : State) (a n : Nat) : Prop := ∀ d < 4, ¬ RdAt s d a n

/-- Of the fabric's bytes no others change than the stored ones, and the control block of a ring whose RD is stored. -/
def StoredOnly (s t : State) (a n : Nat) : Prop :=
  ∀ x, ¬ (a ≤ x ∧ x < a + n) → (∀ d < 4, RdAt s d a n → ¬ ((ringOf s d).cb ≤ x ∧ x < (ringOf s d).cb + 16)) → byteOf t x = byteOf s x

/-- Of the banks nothing changes but what arbitration keeps (R499). -/
def BanksKept (s t : State) : Prop :=
  ∀ k < 64, bank t k = { bank s k with holder := (bank t k).holder, run := (bank t k).run, ptr := (bank t k).ptr }

/-- The slice at a converter's position p, or at the next one, as calibrated (R300). -/
abbrev activeSlice (s : State) (k n : Nat) : Slice :=
  let c := converter s k
  c.coef.getD (c.pos.getD (if n = 0 then c.p else (c.p + 1) % c.pos.length) 0) sliceIdle

/-- What an atomic register operation of a port leaves: the old word in ATOP_RESULT, no error, and no byte stored outside its word. -/
def AtopDone (p a : Nat) (s t : State) : Prop :=
  (port t p).atopResult = BitVec.ofNat 32 (word s a) ∧ (port t p).atopErr = false ∧ BanksKept s t ∧
  StoredOnly s t a 4

/-- The payload of PARAM_SET for an instance and its value bytes (Table CMD.6). -/
def setPayload (i : PInst) (value : Bytes) : Bytes :=
  leBytes 2 i.id ++ leBytes 1 i.i1 ++ leBytes 1 i.i2 ++ leBytes 1 value.length ++ zeros 1 ++ value

/-- The state after a synchronous answer to an accepted command: the response is posted and the credit returns (R605, R606). -/
def answered (code : Nat) (r : Req) (st : Nat) (pl : Bytes) (s : State) : State :=
  respond r.port r.tenant r.seq st pl (some s.clk.us) (!sessionExempt code) s

/-- The state in which an accepted command runs: the watchdog has restarted, and its credit is consumed (R51, R607). -/
def begun (code : Nat) (r : Req) (s : State) : State := consume code r.tenant (wdKick s)

/-- A register write of some bytes at an offset, as the bus of a port carries it after the address (R586, R588, R589, R592, R594). -/
def busWrite (s : State) (p off : Nat) (data : Bytes) : Bytes :=
  match p with
  | 0 => leBytes 2 off ++ data
  | 1 =>
    let b := leBytes 2 off ++ leBytes 1 data.length ++ data
    if pn s 0x020A = 1 then b ++ [smbusPec s b] else b
  | 2 => [0x02, byte (off / 256), byte off] ++ data
  | _ =>
    let f := byte 4 :: (leBytes 2 off ++ data)
    stuff (f ++ leBytes 2 (crc16 f))

/-- A register transfer touched one port's registers, and nothing else but the offset of the next private read. -/
abbrev PortOnly (p : Nat) (s t : State) : Prop := (∀ q, q ≠ p → port t q = port s q) ∧ t = { s with ports := t.ports, i3c := t.i3c }

/-- The line between two flags carries this UART frame: it is the frame and its CRC-16, stuffed (R594). -/
abbrev OnLine (line f : Bytes) : Prop := unstuff line = some (f ++ leBytes 2 (crc16 f))

/-! ### Frames -/

/-- The parts of the state that a frame speaks of; the queue of waiting commands is not among them. -/
inductive Part where
  /-- The counter of free values. -/
  | freeCounter
  /-- The NV arrays and the scratchpad. -/
  | memory
  /-- The real-time clock and TIME_SET. -/
  | rtc
  /-- The ship latch and SHIP arming. -/
  | shipLatch
  /-- What the last wake left. -/
  | wake
  /-- The watchdog restart and the heartbeat. -/
  | watchdog
  /-- TICK. -/
  | time
  /-- References, lock and gates. -/
  | clocks
  /-- The mode and how it was reached. -/
  | mode
  /-- The core: reset, readiness, firmware slot and start cause. -/
  | boot
  /-- SHIP entry under way. -/
  | shipEntry
  /-- Hold-up, VAUX, CLK_OUT, the battery FET and the folded outputs. -/
  | supplies
  /-- Port registers, mailboxes and response queues. -/
  | ports
  /-- The I3C address and its registers. -/
  | i3c
  /-- The UART frame counters. -/
  | uart
  /-- Sessions, credits, keys in use, event queues and transactions. -/
  | tenants
  /-- Operations accepted and not yet answered. -/
  | ops
  /-- Answers owed over a core reset. -/
  | owed
  /-- Events and actions held until READY. -/
  | deferred
  /-- Parameter cells, overlays and waiting commits. -/
  | params
  /-- The epoch, the image in force and what recall skipped. -/
  | config
  /-- Gathers and commits. -/
  | commits
  /-- The EEPROM window. -/
  | eeprom
  /-- The health of the NV arrays. -/
  | arrays
  /-- RESV and its test. -/
  | reservoir
  /-- The firmware update under way. -/
  | firmware
  /-- The Sinter log. -/
  | log
  /-- Fumarole, telemetry and the scrubs. -/
  | tasks
  /-- The coulomb and energy ledgers. -/
  | ledgers
  /-- The rails. -/
  | rails
  /-- The sequencer tables. -/
  | tables
  /-- The sequencer engine. -/
  | engine
  /-- The sequencer outputs. -/
  | outs
  /-- Fault latches, the first fault and reports. -/
  | latches
  /-- Fault windows, counters and the response that executes. -/
  | detectors
  /-- The capture engine. -/
  | capture
  /-- The tag ring. -/
  | tags
  /-- The converters and their slices. -/
  | converters
  /-- Sequences, calibration, results and trips. -/
  | sequences
  /-- The result rings. -/
  | rings
  /-- Banks and their counts. -/
  | fabric
  /-- Inputs, the power path and the intake search. -/
  | intake
  /-- USB Type-C and PD. -/
  | usb
  /-- GPIO levels, budget class and override. -/
  | budget
  /-- The INTERVAL under way. -/
  | interval
  /-- The charger. -/
  | charger
  /-- The gauge. -/
  | gauge
  /-- The test access port. -/
  | tap
deriving DecidableEq, Repr

/-- A part is as it was. -/
def Part.Kept (p : Part) (s t : State) : Prop :=
  match p with
  | .freeCounter => t.free = s.free
  | .memory => t.mem = s.mem
  | .rtc => t.aon.rtc = s.aon.rtc ∧ t.aon.rtcSub = s.aon.rtcSub ∧ t.aon.timeSet = s.aon.timeSet
  | .shipLatch => t.aon.shipLatch = s.aon.shipLatch ∧ t.aon.armed = s.aon.armed
  | .wake => t.aon.wakeSource = s.aon.wakeSource ∧ t.aon.wakeRtc = s.aon.wakeRtc ∧ t.aon.wakeVinMv = s.aon.wakeVinMv ∧ t.aon.btnHeld =
      s.aon.btnHeld ∧ t.core.wakePast = s.core.wakePast
  | .watchdog => t.core.wdMs = s.core.wdMs ∧ t.core.wdFrom = s.core.wdFrom ∧ t.core.beat = s.core.beat
  | .time => t.clk.us = s.clk.us
  | .clocks => t.clk.crystal = s.clk.crystal ∧ t.clk.pllLocked = s.clk.pllLocked ∧ t.clk.gated = s.clk.gated ∧ t.clk.gatesLow =
      s.clk.gatesLow ∧ t.clk.qiKhz = s.clk.qiKhz ∧ t.clk.tickFromRef = s.clk.tickFromRef ∧ t.clk.refSelect = s.clk.refSelect
  | .mode => t.core.mode = s.core.mode ∧ t.core.serviceExit = s.core.serviceExit ∧ t.core.exitCause = s.core.exitCause ∧ t.core.exitResult
      = s.core.exitResult ∧ t.core.modeTenant = s.core.modeTenant
  | .boot => t.core.run = s.core.run ∧ t.core.nreset = s.core.nreset ∧ t.core.bistHalt = s.core.bistHalt ∧ t.core.resetDue =
      s.core.resetDue ∧ t.core.ready = s.core.ready ∧ t.core.nvReady = s.core.nvReady ∧ t.core.recalled = s.core.recalled ∧ t.core.fwReady
      = s.core.fwReady ∧ t.core.fwStart = s.core.fwStart ∧ t.core.startCause = s.core.startCause ∧ t.core.slot = s.core.slot ∧
      t.core.slotFallback = s.core.slotFallback ∧ t.core.trialBoot = s.core.trialBoot ∧ t.core.bootCount = s.core.bootCount
  | .shipEntry => t.core.shipEntry = s.core.shipEntry ∧ t.core.shipCause = s.core.shipCause ∧ t.core.shipTenant = s.core.shipTenant
  | .supplies => t.core.vaux = s.core.vaux ∧ t.core.holdup = s.core.holdup ∧ t.core.sysValidAt = s.core.sysValidAt ∧ t.core.clkOut =
      s.core.clkOut ∧ t.core.batFet = s.core.batFet ∧ t.supply = s.supply
  | .ports => t.ports = s.ports
  | .i3c => t.i3c = s.i3c
  | .uart => t.uart = s.uart
  | .tenants => t.tenants = s.tenants
  | .ops => t.ops = s.ops
  | .owed => t.owed = s.owed
  | .deferred => t.deferred = s.deferred
  | .params => t.par.cells = s.par.cells ∧ t.par.waiting = s.par.waiting ∧ t.par.overlays = s.par.overlays
  | .config => t.par.epoch = s.par.epoch ∧ t.par.loaded = s.par.loaded ∧ t.par.loadedGen = s.par.loadedGen ∧ t.par.base = s.par.base ∧
      t.par.skipped = s.par.skipped ∧ t.par.firstSkipped = s.par.firstSkipped
  | .commits => t.nv.gathers = s.nv.gathers ∧ t.nv.commits = s.nv.commits
  | .eeprom => t.nv.eePointer = s.nv.eePointer ∧ t.nv.eeBlock = s.nv.eeBlock ∧ t.nv.eeBusy = s.nv.eeBusy ∧ t.nv.eeDiscards =
      s.nv.eeDiscards ∧ t.nv.eeOut = s.nv.eeOut
  | .arrays => t.nv.corrections = s.nv.corrections ∧ t.nv.uncorrectable = s.nv.uncorrectable ∧ t.nv.badWords = s.nv.badWords ∧
      t.nv.replays = s.nv.replays ∧ t.nv.journalReplayed = s.nv.journalReplayed ∧ t.nv.erasing = s.nv.erasing ∧ t.nv.weak = s.nv.weak ∧
      t.nv.rewriteNeeded = s.nv.rewriteNeeded ∧ t.nv.blank = s.nv.blank
  | .reservoir => t.nv.resvMv = s.nv.resvMv ∧ t.nv.boost = s.nv.boost ∧ t.nv.resvTested = s.nv.resvTested ∧ t.nv.resvTestFailed =
      s.nv.resvTestFailed
  | .firmware => t.fw = s.fw
  | .log => t.log = s.log
  | .tasks => t.bg.tasks = s.bg.tasks ∧ t.bg.windowUsed = s.bg.windowUsed ∧ t.bg.windowAt = s.bg.windowAt ∧ t.bg.telemetry =
      s.bg.telemetry ∧ t.bg.telemetrySeq = s.bg.telemetrySeq ∧ t.bg.telemetryBank = s.bg.telemetryBank ∧ t.bg.telemetryWritten =
      s.bg.telemetryWritten ∧ t.bg.faSeconds = s.bg.faSeconds ∧ t.bg.saSeconds = s.bg.saSeconds ∧ t.bg.restored = s.bg.restored
  | .ledgers => t.bg.coulomb = s.bg.coulomb ∧ t.bg.energy = s.bg.energy ∧ t.bg.qiAt = s.bg.qiAt ∧ t.bg.gapCoulomb = s.bg.gapCoulomb ∧
      t.bg.gapEnergy = s.bg.gapEnergy ∧ t.bg.lastIntervalSeq = s.bg.lastIntervalSeq
  | .rails => t.rails = s.rails
  | .tables => t.eng.active = s.eng.active ∧ t.eng.pend = s.eng.pend
  | .engine => t.eng.run = s.eng.run ∧ t.eng.suspended = s.eng.suspended ∧ t.eng.driven = s.eng.driven ∧ t.eng.reqLevel = s.eng.reqLevel ∧
      t.eng.reqPend = s.eng.reqPend ∧ t.eng.join = s.eng.join ∧ t.eng.bringWait = s.eng.bringWait ∧ t.eng.bringUp = s.eng.bringUp ∧
      t.eng.dsNoEffect = s.eng.dsNoEffect ∧ t.eng.ifRecalled = s.eng.ifRecalled ∧ t.eng.contTimeouts = s.eng.contTimeouts ∧
      t.eng.lastStart = s.eng.lastStart
  | .outs => t.eng.outs = s.eng.outs
  | .latches => t.sup.latches = s.sup.latches ∧ t.sup.first = s.sup.first ∧ t.sup.reports = s.sup.reports
  | .detectors => t.sup.windows = s.sup.windows ∧ t.sup.verify = s.sup.verify ∧ t.sup.executing = s.sup.executing ∧ t.sup.pulse =
      s.sup.pulse ∧ t.sup.dieWarn = s.sup.dieWarn ∧ t.sup.ocCnt = s.sup.ocCnt ∧ t.sup.batOvCnt = s.sup.batOvCnt ∧ t.sup.dieHot =
      s.sup.dieHot ∧ t.sup.dieSeen = s.sup.dieSeen ∧ t.sup.senseAt = s.sup.senseAt
  | .capture => t.cap = s.cap
  | .tags => t.tags = s.tags
  | .converters => t.msr.swa = s.msr.swa ∧ t.msr.swb = s.msr.swb ∧ t.msr.due = s.msr.due
  | .sequences => t.msr.seqs = s.msr.seqs ∧ t.msr.cal = s.msr.cal ∧ t.msr.results = s.msr.results ∧ t.msr.crossed = s.msr.crossed ∧
      t.msr.tripped = s.msr.tripped ∧ t.msr.trips = s.msr.trips ∧ t.msr.shorted = s.msr.shorted ∧ t.msr.arrivals = s.msr.arrivals ∧
      t.msr.firstVbat = s.msr.firstVbat ∧ t.msr.pairs = s.msr.pairs
  | .rings => t.msr.rings = s.msr.rings
  | .fabric => t.fab = s.fab
  | .intake => t.inp.path = s.inp.path ∧ t.inp.active = s.inp.active ∧ t.inp.inputs = s.inp.inputs ∧ t.inp.leaving = s.inp.leaving ∧
      t.inp.incoming = s.inp.incoming ∧ t.inp.pairOff = s.inp.pairOff ∧ t.inp.pairFrom = s.inp.pairFrom ∧ t.inp.kept = s.inp.kept ∧
      t.inp.search = s.inp.search ∧ t.inp.psAt = s.inp.psAt ∧ t.inp.reqAt = s.inp.reqAt ∧ t.inp.capNow = s.inp.capNow ∧ t.inp.panelUp =
      s.inp.panelUp ∧ t.inp.panelPower = s.inp.panelPower ∧ t.inp.vocAt = s.inp.vocAt ∧ t.inp.lastHash = s.inp.lastHash ∧ t.inp.sigWait =
      s.inp.sigWait ∧ t.inp.sigForget = s.inp.sigForget
  | .usb => t.inp.tc = s.inp.tc ∧ t.inp.rp = s.inp.rp ∧ t.inp.hardResets = s.inp.hardResets ∧ t.inp.silent = s.inp.silent ∧
      t.inp.resetting = s.inp.resetting ∧ t.inp.caps = s.inp.caps ∧ t.inp.choice = s.inp.choice ∧ t.inp.request = s.inp.request ∧
      t.inp.contract = s.inp.contract ∧ t.inp.oldMa = s.inp.oldMa ∧ t.inp.oldMv = s.inp.oldMv ∧ t.inp.pdQueue = s.inp.pdQueue ∧
      t.inp.pdSent = s.inp.pdSent ∧ t.inp.settling = s.inp.settling ∧ t.inp.identity = s.inp.identity ∧ t.inp.ppsVbat = s.inp.ppsVbat ∧
      t.inp.goodCrcs = s.inp.goodCrcs
  | .budget => t.inp.override_ = s.inp.override_ ∧ t.inp.gpio = s.inp.gpio ∧ t.inp.cls = s.inp.cls ∧ t.inp.clsSrc = s.inp.clsSrc
  | .interval => t.inp.ivStart = s.inp.ivStart ∧ t.inp.ivPartial = s.inp.ivPartial ∧ t.inp.ivWindow = s.inp.ivWindow ∧ t.inp.ivSource =
      s.inp.ivSource ∧ t.inp.ivMark = s.inp.ivMark ∧ t.inp.ivShift = s.inp.ivShift
  | .charger => t.chg = s.chg
  | .gauge => t.gau = s.gau
  | .tap => t.tap = s.tap

/-- Every part. -/
def Part.all : List Part :=
  [.freeCounter, .memory, .rtc, .shipLatch, .wake, .watchdog, .time, .clocks, .mode, .boot, .shipEntry, .supplies, .ports, .i3c, .uart, .tenants, .ops, .owed, .deferred, .params, .config, .commits, .eeprom, .arrays, .reservoir, .firmware, .log, .tasks, .ledgers, .rails, .tables, .engine, .outs, .latches, .detectors, .capture, .tags, .converters, .sequences, .rings, .fabric, .intake, .usb, .budget, .interval, .charger, .gauge, .tap]

/-- The parts that a command may change. -/
def mayChange (c : Instr) : List Part :=
  match c with
  | .por | .aonPor _ | .clockBackstop | .shipWake _ _ _ =>
    Part.all
  | .configurationRecall _ _ _ =>
    Part.all.filter (fun p => !([Part.rtc, Part.time, Part.clocks, Part.i3c, Part.uart, Part.owed, Part.commits, Part.eeprom,
      Part.firmware, Part.tasks, Part.usb, Part.tap].contains p))
  | .ready _ =>
    Part.all.filter (fun p => !([Part.rtc, Part.wake, Part.watchdog, Part.time, Part.clocks, Part.mode, Part.shipEntry, Part.supplies,
      Part.i3c, Part.uart, Part.config, Part.reservoir, Part.tasks, Part.tables, Part.engine, Part.outs, Part.rings,
      Part.tap].contains p))
  | .nvReady _ =>
    Part.all.filter (fun p => !([Part.rtc, Part.watchdog, Part.time, Part.clocks, Part.i3c, Part.uart, Part.owed, Part.commits,
      Part.eeprom, Part.reservoir, Part.firmware, Part.usb, Part.budget, Part.tap].contains p))
  | .crystalQualified =>
    [.clocks]
  | .crystalQualifyTimeout | .crystalFailure | .pllLossOfLock =>
    Part.all.filter (fun p => !([Part.rtc, Part.watchdog, Part.time, Part.boot, Part.i3c, Part.uart, Part.owed, Part.commits,
      Part.eeprom, Part.reservoir, Part.firmware, Part.tasks, Part.intake, Part.usb, Part.budget, Part.interval, Part.charger,
      Part.gauge, Part.tap].contains p))
  | .pllRelock =>
    [.freeCounter, .memory, .shipLatch, .clocks, .ports, .tenants, .deferred, .params, .arrays, .log, .ledgers, .capture, .converters,
      .sequences, .intake, .usb, .interval, .charger, .gauge]
  | .holdup _ _ =>
    [.memory, .shipLatch, .supplies, .ports, .tenants, .ops, .deferred, .params, .commits, .eeprom, .arrays, .reservoir, .firmware,
      .log, .ledgers, .latches, .detectors, .capture, .tags, .converters, .sequences, .intake, .budget, .interval, .charger]
  | .nresetAssert | .coreResetBegin =>
    Part.all.filter (fun p => !([Part.freeCounter, Part.rtc, Part.wake, Part.time, Part.clocks, Part.shipEntry, Part.eeprom,
      Part.reservoir, Part.latches, Part.capture, Part.intake, Part.usb, Part.budget, Part.interval, Part.gauge, Part.tap].contains
      p))
  | .nresetRelease | .coreResetRelease =>
    [.memory, .watchdog, .boot, .params, .arrays, .fabric]
  | .watchdog | .fumaroleStep _ _ _ _ _ _ =>
    Part.all.filter (fun p => !([Part.rtc, Part.clocks, Part.eeprom, Part.reservoir, Part.intake, Part.usb, Part.budget,
      Part.interval, Part.gauge, Part.tap].contains p))
  | .pwrbtnPress _ =>
    [.shipLatch, .wake, .shipEntry, .ports, .tenants, .deferred, .params, .rails, .engine, .detectors, .sequences]
  | .forcedPowerDown _ | .stepEnd | .stepWaitPg | .waitTimeout | .railBelowOff _ _ =>
    [.memory, .shipLatch, .mode, .supplies, .ports, .tenants, .deferred, .params, .config, .arrays, .log, .ledgers, .rails, .tables,
      .engine, .outs, .detectors, .sequences, .rings, .fabric]
  | .wakeInQualified _ _ | .reqEdge _ _ =>
    [.ports, .tenants, .deferred, .params, .rails, .engine, .detectors, .sequences]
  | .shipEntryBegin =>
    [.freeCounter, .memory, .shipLatch, .wake, .mode, .shipEntry, .supplies, .ports, .tenants, .ops, .deferred, .params, .config,
      .arrays, .log, .ledgers, .rails, .tables, .engine, .outs, .detectors, .tags, .converters, .sequences, .rings, .fabric]
  | .shipEntryFinish _ =>
    Part.all.filter (fun p => !([Part.rtc, Part.watchdog, Part.time, Part.i3c, Part.uart, Part.owed, Part.commits, Part.eeprom,
      Part.tasks, Part.budget, Part.tap].contains p))
  | .modeRequest _ _ | .tableAbort _ _ =>
    [.memory, .shipLatch, .watchdog, .mode, .supplies, .ports, .tenants, .deferred, .params, .config, .arrays, .log, .ledgers, .rails,
      .tables, .engine, .outs, .detectors, .sequences, .rings, .fabric]
  | .shipArm _ _ =>
    [.shipLatch, .watchdog, .shipEntry, .ports, .tenants, .params]
  | .status _ | .authChallenge _ | .intakeStatus _ | .chargeStatus _ | .gaugeRead _ | .telemetryRead _ =>
    [.freeCounter, .watchdog, .ports, .tenants, .params]
  | .identify _ | .events _ _ | .authProve _ _ | .creditsRead _ | .paramGet _ _ _ _ | .paramInfo _ _ | .txnBegin _ | .txnRollback _
  | .txnStatus _ | .railState _ | .tableRead _ _ _ _ | .seqStatus _ | .marginStatus _ _ | .faultStatus _ _ | .captureStatus _
  | .ringStatus _ _ _ | .tagsStatus _ | .ringDiagnose _ | .nvStatus _ | .logRead _ _ _ _ | .fwInfo _ | .ledgerRead _ _ _ =>
    [.watchdog, .ports, .tenants, .params]
  | .coreReset _ =>
    [.watchdog, .boot, .ports, .tenants, .params]
  | .timeSet _ _ =>
    [.memory, .rtc, .shipLatch, .watchdog, .ports, .tenants, .params, .arrays, .log, .ledgers, .interval]
  | .sessionOpen _ _ | .sessionClose _ =>
    [.memory, .shipLatch, .watchdog, .mode, .supplies, .ports, .tenants, .ops, .deferred, .params, .config, .commits, .arrays, .log,
      .ledgers, .rails, .tables, .engine, .outs, .detectors, .sequences, .rings, .fabric]
  | .tenantWrite _ _ _ | .captureClear _ =>
    [.memory, .watchdog, .ports, .tenants, .params, .arrays, .capture]
  | .paramSet _ _ _ _ _ | .txnCommit _ =>
    [.freeCounter, .memory, .shipLatch, .wake, .watchdog, .ports, .tenants, .ops, .deferred, .params, .config, .arrays, .log,
      .ledgers, .rails, .detectors, .capture, .converters, .sequences, .intake, .usb, .budget, .interval, .charger, .gauge]
  | .configFactory _ _ | .nvProtect _ _ _ =>
    [.memory, .shipLatch, .watchdog, .ports, .tenants, .params, .config, .arrays, .log, .ledgers]
  | .commitWaitCheck _ | .searchStep _ | .creepTry _ =>
    [.freeCounter, .memory, .shipLatch, .wake, .ports, .tenants, .ops, .deferred, .params, .config, .arrays, .log, .ledgers, .rails,
      .detectors, .capture, .converters, .sequences, .intake, .usb, .budget, .interval, .charger, .gauge]
  | .txnIdleTimeout _ | .nonceExpiry _ | .authLockoutEnd _ =>
    [.tenants]
  | .railForce _ _ _ | .railPark _ _ _ =>
    [.memory, .shipLatch, .watchdog, .mode, .supplies, .ports, .tenants, .deferred, .params, .arrays, .log, .ledgers, .rails, .engine,
      .detectors, .sequences, .rings, .fabric]
  | .tableRun _ _ =>
    [.watchdog, .ports, .tenants, .deferred, .params, .rails, .engine, .detectors, .sequences]
  | .tableWrite _ _ _ _ _ =>
    [.memory, .shipLatch, .watchdog, .ports, .tenants, .params, .config, .arrays, .log, .ledgers, .tables]
  | .stepEnable | .joinRun _ | .faultRetry _ _ =>
    [.ports, .tenants, .deferred, .params, .rails, .engine, .sequences]
  | .stepDisable | .pgGood _ _ _ =>
    [.memory, .shipLatch, .mode, .supplies, .ports, .tenants, .deferred, .params, .arrays, .log, .ledgers, .rails, .engine,
      .detectors, .sequences, .rings, .fabric]
  | .stepWaitBelow | .stepDelay | .stepWaitReq | .stepIfModule | .waitMet | .delayElapsed =>
    [.engine]
  | .stepSetOut =>
    [.engine, .outs]
  | .stepMargin =>
    [.params, .rails, .engine]
  | .stepDischarge =>
    [.rails, .engine]
  | .stepTrigger =>
    [.memory, .ports, .tenants, .ops, .deferred, .params, .engine, .converters, .sequences, .rings, .fabric]
  | .stepEvent =>
    [.ports, .tenants, .deferred, .params, .engine]
  | .tonMax _ _ | .toffMax _ _ | .joinTimeout _ | .ovFast _ _ _ | .uvFast _ _ _ | .pgLoss _ _ _ _ | .enShort _ _ _ | .vinOv _ _ _
  | .vinReverse _ _ | .batReverse _ | .sysUv _ _ | .dieOt _ _ | .resvLow | .thermistorOpenTrip _ | .sweepComplete _ _ | .sweepAbort _ _
  | .pollReply _ _ | .pollTimeout _ | .pollEmerged _ _ | .chgTimeout =>
    Part.all.filter (fun p => !([Part.rtc, Part.watchdog, Part.time, Part.boot, Part.i3c, Part.uart, Part.owed, Part.commits,
      Part.eeprom, Part.reservoir, Part.firmware, Part.tasks, Part.budget, Part.tap].contains p))
  | .marginSet _ _ _ =>
    [.watchdog, .ports, .tenants, .params, .rails]
  | .marginLoopTick =>
    [.ports, .tenants, .deferred, .params, .rails]
  | .faultVerifyResult _ _ =>
    [.latches, .detectors, .converters]
  | .senseCheckPeriodic _ | .bankBistDone _ _ =>
    [.freeCounter, .memory, .shipLatch, .wake, .mode, .shipEntry, .supplies, .ports, .tenants, .ops, .deferred, .params, .config,
      .arrays, .log, .ledgers, .rails, .tables, .engine, .outs, .latches, .detectors, .capture, .tags, .converters, .sequences,
      .rings, .fabric]
  | .retryCountReset _ =>
    [.rails]
  | .faultnPulseEnd =>
    [.detectors]
  | .faultReport =>
    [.memory, .shipLatch, .ports, .tenants, .deferred, .params, .arrays, .log, .ledgers, .latches, .detectors]
  | .faultClear _ _ =>
    [.freeCounter, .memory, .shipLatch, .watchdog, .mode, .supplies, .ports, .tenants, .deferred, .params, .arrays, .log, .ledgers,
      .rails, .engine, .latches, .detectors, .converters, .sequences, .rings, .fabric, .intake, .charger, .gauge]
  | .faultInject _ _ _ =>
    Part.all.filter (fun p => !([Part.rtc, Part.time, Part.eeprom, Part.reservoir, Part.budget, Part.tap].contains p))
  | .senseCheck _ _ | .captureRead _ _ _ | .nvRead _ _ _ =>
    Part.all.filter (fun p => !([Part.rtc, Part.time, Part.clocks, Part.boot, Part.i3c, Part.uart, Part.owed, Part.commits,
      Part.eeprom, Part.reservoir, Part.firmware, Part.tasks, Part.intake, Part.usb, Part.budget, Part.interval, Part.charger,
      Part.gauge, Part.tap].contains p))
  | .pipeFrame _ _ _ _ =>
    [.memory, .ports, .tenants, .ops, .deferred, .params, .capture, .sequences, .rings, .fabric]
  | .captureMarkerCommit =>
    [.memory, .arrays, .capture]
  | .captureFreeze =>
    [.freeCounter, .memory, .arrays, .capture]
  | .captureRecordCommit _ =>
    [.memory, .ports, .tenants, .deferred, .params, .arrays, .capture, .fabric]
  | .captureTest _ =>
    [.freeCounter, .watchdog, .ports, .tenants, .params, .capture]
  | .rotationStep _ _ =>
    [.ports, .tenants, .deferred, .params, .converters, .sequences]
  | .sliceSwap _ =>
    [.converters, .sequences]
  | .calSystem _ _ _ _ =>
    [.freeCounter, .watchdog, .ports, .tenants, .ops, .params, .converters, .sequences]
  | .calibrationEnd _ _ =>
    [.memory, .shipLatch, .ports, .tenants, .ops, .deferred, .params, .config, .arrays, .log, .ledgers, .converters, .sequences]
  | .seqTimer _ | .triggerLineFire _ _ _ _ | .continuousFrameStart _ =>
    [.memory, .ports, .tenants, .ops, .deferred, .params, .converters, .sequences, .rings, .fabric]
  | .resultRecord _ _ _ _ =>
    Part.all.filter (fun p => !([Part.rtc, Part.watchdog, Part.time, Part.boot, Part.i3c, Part.uart, Part.owed, Part.commits,
      Part.eeprom, Part.firmware, Part.tasks, Part.budget, Part.tap].contains p))
  | .ringRecordWrite _ _ _ | .handoverDrainEnd _ | .aliasBitSet _ _ _ _ _ _ | .aliasBitClear _ _ _ _ _ _ | .aliasAtomicAdd _ _ _ _ _ _
  | .atopAdd _ _ _ _ | .atopSwap _ _ _ _ | .atopOr _ _ _ _ | .atopAndNot _ _ _ _ =>
    Part.all.filter (fun p => !([Part.rtc, Part.watchdog, Part.time, Part.clocks, Part.i3c, Part.uart, Part.owed, Part.commits,
      Part.eeprom, Part.reservoir, Part.firmware, Part.tasks, Part.intake, Part.usb, Part.budget, Part.interval, Part.charger,
      Part.gauge, Part.tap].contains p))
  | .thermistorRelease _ | .recoveryFailed =>
    [.freeCounter, .memory, .shipLatch, .ports, .tenants, .deferred, .params, .arrays, .log, .ledgers, .converters, .sequences,
      .charger, .gauge]
  | .convertNow _ _ _ _ =>
    [.freeCounter, .watchdog, .ports, .tenants, .params, .converters, .sequences]
  | .seqStart _ _ | .triggerFire _ _ =>
    [.memory, .watchdog, .ports, .tenants, .ops, .deferred, .params, .converters, .sequences, .rings, .fabric]
  | .seqStop _ _ =>
    [.watchdog, .ports, .tenants, .ops, .deferred, .params, .sequences]
  | .ringAttach _ _ _ _ _ =>
    [.memory, .watchdog, .ports, .tenants, .deferred, .params, .sequences, .rings, .fabric]
  | .sweep | .stubPollRound =>
    [.params, .tags]
  | .profileParkHeld =>
    [.memory, .shipLatch, .mode, .supplies, .ports, .tenants, .deferred, .params, .arrays, .log, .ledgers, .rails, .engine,
      .detectors, .tags, .sequences, .rings, .fabric]
  | .tagsSweep _ =>
    [.watchdog, .ports, .tenants, .ops, .params, .tags]
  | .inputDetect _ _ =>
    Part.all.filter (fun p => !([Part.rtc, Part.wake, Part.watchdog, Part.time, Part.clocks, Part.boot, Part.i3c, Part.uart,
      Part.owed, Part.eeprom, Part.reservoir, Part.firmware, Part.tasks, Part.latches, Part.capture, Part.tags, Part.budget,
      Part.tap].contains p))
  | .inputQualify _ =>
    [.freeCounter, .memory, .shipLatch, .ports, .tenants, .deferred, .params, .arrays, .log, .ledgers, .rails, .engine, .detectors,
      .converters, .sequences, .intake, .usb, .interval, .charger, .gauge]
  | .sourceLoss _ _ | .sourceCapabilities _ | .accept | .psRdy | .contractSettled | .sinkWaitCapTimer | .discoverIdentityAck _ _
  | .unsupportedPdMessage _ =>
    [.freeCounter, .memory, .shipLatch, .ports, .tenants, .deferred, .params, .arrays, .log, .ledgers, .converters, .sequences,
      .intake, .usb, .interval, .charger, .gauge]
  | .handoverComplete _ =>
    [.freeCounter, .memory, .shipLatch, .shipEntry, .ports, .tenants, .deferred, .params, .arrays, .log, .ledgers, .converters,
      .sequences, .intake, .usb, .interval, .charger, .gauge]
  | .typecAttach _ _ | .rpChange _ | .hardReset | .ppsRequestRepeat =>
    [.intake, .usb]
  | .typecDetach =>
    Part.all.filter (fun p => !([Part.rtc, Part.wake, Part.watchdog, Part.time, Part.clocks, Part.boot, Part.shipEntry, Part.i3c,
      Part.uart, Part.owed, Part.eeprom, Part.reservoir, Part.firmware, Part.tasks, Part.latches, Part.capture, Part.tags,
      Part.budget, Part.tap].contains p))
  | .panelPeriod =>
    [.params, .sequences, .intake]
  | .vocRemeasure =>
    [.intake]
  | .budgetPinsChange _ | .budgetWindowEdge | .budgetOverrideExpiry =>
    [.memory, .shipLatch, .ports, .tenants, .deferred, .params, .arrays, .log, .ledgers, .intake, .budget, .interval]
  | .intervalClose =>
    [.memory, .shipLatch, .params, .arrays, .log, .ledgers, .interval]
  | .intakePolicy _ _ _ =>
    [.freeCounter, .memory, .shipLatch, .watchdog, .shipEntry, .ports, .tenants, .deferred, .params, .arrays, .log, .ledgers,
      .converters, .sequences, .intake, .usb, .interval, .charger, .gauge]
  | .pdRequest _ _ _ =>
    [.watchdog, .ports, .tenants, .params, .intake, .usb]
  | .budgetWindow _ _ _ _ =>
    [.memory, .shipLatch, .watchdog, .ports, .tenants, .deferred, .params, .arrays, .log, .ledgers, .intake, .budget, .interval]
  | .pulseEnd _ =>
    [.freeCounter, .params, .converters, .sequences, .charger]
  | .stepDecision | .prechargeExit | .gaugeUpdate =>
    [.ports, .tenants, .deferred, .params, .converters, .sequences, .charger, .gauge]
  | .restEnd | .bootRest | .phaseWholeSecond =>
    [.freeCounter, .memory, .shipLatch, .ports, .tenants, .deferred, .params, .config, .arrays, .log, .ledgers, .converters,
      .sequences, .charger, .gauge]
  | .doneTimer =>
    [.ports, .tenants, .deferred, .params, .charger, .gauge]
  | .qiDelivery _ =>
    [.params, .ledgers]
  | .restAnchor =>
    [.freeCounter, .memory, .shipLatch, .params, .config, .arrays, .log, .ledgers, .gauge]
  | .batteryEmpty =>
    [.freeCounter, .memory, .shipLatch, .mode, .supplies, .ports, .tenants, .deferred, .params, .config, .arrays, .log, .ledgers,
      .rails, .tables, .engine, .outs, .detectors, .sequences, .rings, .fabric, .gauge]
  | .chargeControl _ _ _ =>
    [.freeCounter, .memory, .shipLatch, .watchdog, .ports, .tenants, .deferred, .params, .arrays, .log, .ledgers, .converters,
      .sequences, .charger, .gauge]
  | .gaugeRelearn _ =>
    [.freeCounter, .memory, .shipLatch, .watchdog, .ports, .tenants, .params, .config, .arrays, .log, .ledgers, .gauge]
  | .bankStatus _ _ _ _ | .bankHandover _ _ _ _ =>
    [.watchdog, .ports, .tenants, .params, .fabric]
  | .bankRead _ _ _ | .bankWrite _ _ _ | .bankAtomic _ _ _ _ =>
    Part.all.filter (fun p => !([Part.rtc, Part.time, Part.clocks, Part.i3c, Part.uart, Part.owed, Part.commits, Part.eeprom,
      Part.reservoir, Part.firmware, Part.tasks, Part.intake, Part.usb, Part.budget, Part.interval, Part.charger, Part.gauge,
      Part.tap].contains p))
  | .bankRetire _ _ _ =>
    [.watchdog, .ports, .tenants, .ops, .params, .fabric]
  | .bankZeroingDone _ =>
    [.memory, .ports, .tenants, .deferred, .params, .fabric]
  | .memoryWindowAccess _ _ _ _ _ _ _ _ =>
    Part.all.filter (fun p => !([Part.rtc, Part.watchdog, Part.time, Part.clocks, Part.uart, Part.owed, Part.commits, Part.eeprom,
      Part.reservoir, Part.firmware, Part.tasks, Part.intake, Part.usb, Part.budget, Part.interval, Part.charger, Part.gauge,
      Part.tap].contains p))
  | .nvGather _ _ _ | .nvDiscard _ =>
    [.watchdog, .ports, .tenants, .params, .commits]
  | .nvCommit _ =>
    Part.all.filter (fun p => !([Part.rtc, Part.time, Part.clocks, Part.boot, Part.i3c, Part.uart, Part.owed, Part.eeprom,
      Part.reservoir, Part.firmware, Part.tasks, Part.intake, Part.usb, Part.budget, Part.interval, Part.charger, Part.gauge,
      Part.tap].contains p))
  | .logAppend _ _ _ _ =>
    [.memory, .shipLatch, .watchdog, .ports, .tenants, .ops, .params, .arrays, .log, .ledgers]
  | .nvCommitComplete | .eepromCommitDone =>
    [.memory, .ports, .tenants, .ops, .deferred, .params, .commits, .eeprom, .arrays, .capture]
  | .eepromWrite _ _ _ _ =>
    Part.all.filter (fun p => !([Part.rtc, Part.watchdog, Part.time, Part.clocks, Part.boot, Part.i3c, Part.uart, Part.owed,
      Part.reservoir, Part.firmware, Part.tasks, Part.intake, Part.usb, Part.budget, Part.interval, Part.charger, Part.gauge,
      Part.tap].contains p))
  | .eepromRead _ _ _ _ =>
    Part.all.filter (fun p => !([Part.rtc, Part.watchdog, Part.time, Part.clocks, Part.boot, Part.i3c, Part.uart, Part.owed,
      Part.commits, Part.reservoir, Part.firmware, Part.tasks, Part.intake, Part.usb, Part.budget, Part.interval, Part.charger,
      Part.gauge, Part.tap].contains p))
  | .sectorEraseDone | .fwEraseDone _ =>
    [.memory, .shipLatch, .ports, .tenants, .ops, .deferred, .params, .arrays, .firmware, .log, .ledgers]
  | .resvDischargeTest _ _ =>
    Part.all.filter (fun p => !([Part.rtc, Part.watchdog, Part.time, Part.clocks, Part.boot, Part.i3c, Part.uart, Part.owed,
      Part.commits, Part.eeprom, Part.firmware, Part.tasks, Part.intake, Part.usb, Part.budget, Part.interval, Part.charger,
      Part.gauge, Part.tap].contains p))
  | .fwBegin _ | .fwFinish _ =>
    [.watchdog, .ports, .tenants, .ops, .params, .firmware]
  | .fwChunk _ _ _ =>
    [.memory, .watchdog, .ports, .tenants, .ops, .params, .firmware]
  | .fwActivate _ =>
    [.memory, .watchdog, .boot, .ports, .tenants, .params, .arrays]
  | .submit _ _ | .winStatusRead _ | .registerWrite _ _ _ _ | .uartMailbox _ _ | .uartRegRead _ | .uartRegWrite _ _ =>
    Part.all.filter (fun p => !([Part.time, Part.eeprom, Part.reservoir, Part.tap].contains p))
  | .rspDone _ | .portResetEnd _ | .irqStatusClear _ _ | .spiStatus | .smbusAlertResponse | .getpid | .getbcr | .getdcr | .getmwl
  | .getmrl =>
    [.ports]
  | .responsePosted _ =>
    [.memory, .shipLatch, .mode, .supplies, .ports, .tenants, .ops, .deferred, .params, .config, .commits, .arrays, .log, .ledgers,
      .rails, .tables, .engine, .outs, .detectors, .sequences, .rings, .fabric]
  | .portReset _ =>
    [.memory, .shipLatch, .mode, .supplies, .ports, .i3c, .uart, .tenants, .ops, .owed, .deferred, .params, .config, .commits,
      .arrays, .log, .ledgers, .rails, .tables, .engine, .outs, .detectors, .sequences, .rings, .fabric]
  | .evtPop _ _ _ =>
    [.ports, .tenants]
  | .uartFrameSent =>
    [.ports, .uart, .tenants]
  | .ibiRequest _ =>
    [.ports, .i3c]
  | .smbusClockLowTimeout =>
    []
  | .entdaa _ | .setdasa _ | .setnewda _ | .rstdaa | .enec _ | .disec _ | .setmwl _ | .setmrl _ =>
    [.i3c]
  | .getstatus =>
    [.freeCounter, .ports]
  | .background _ _ _ =>
    [.watchdog, .ports, .tenants, .params, .tasks]
  | .backgroundWindow =>
    [.params, .tasks]
  | .checkpoint =>
    [.freeCounter, .memory, .params, .arrays, .tasks]
  | .telemetry _ =>
    [.freeCounter, .memory, .params, .tasks, .fabric]
  | .faScrub _ _ =>
    Part.all.filter (fun p => !([Part.rtc, Part.watchdog, Part.time, Part.clocks, Part.boot, Part.i3c, Part.uart, Part.owed,
      Part.commits, Part.eeprom, Part.reservoir, Part.firmware, Part.intake, Part.usb, Part.budget, Part.interval, Part.charger,
      Part.gauge, Part.tap].contains p))
  | .saScrub _ | .compaction =>
    [.freeCounter, .memory, .shipLatch, .params, .arrays, .log, .tasks, .ledgers]
  | .bankScrub _ _ =>
    Part.all.filter (fun p => !([Part.rtc, Part.watchdog, Part.time, Part.clocks, Part.i3c, Part.uart, Part.owed, Part.commits,
      Part.eeprom, Part.reservoir, Part.firmware, Part.intake, Part.usb, Part.budget, Part.interval, Part.charger, Part.gauge,
      Part.tap].contains p))
  | .outputFoldback _ | .foldbackRetry _ =>
    [.supplies]
  | .tapReset | .extest | .idcode | .samplePreload | .clamp | .highz | .bypass | .testEnChange _ | .captureDrScan _ _ =>
    [.tap]
  | .blockedExit _ _ _ =>
    [.ports, .tenants, .deferred, .params, .intake]
  | .sysValidRestored _ =>
    [.freeCounter, .memory, .shipLatch, .supplies, .ports, .tenants, .ops, .deferred, .params, .commits, .arrays, .reservoir,
      .firmware, .log, .ledgers, .capture, .converters, .sequences, .intake, .usb, .interval, .charger, .gauge]

end Sys2Proof.Machine
end

