-- ==== Sys2Proof/Certificates/Slice0/Obligations.lean ====
section
/-! DEFINITION. The statements about the model, for the provers. Each names in its docstring what of the spec it formalises. -/

open Sys2Proof Sys2Proof.Machine

/-! ### The block as a whole -/

/-- A step takes the command at the front of the queue and runs it on the state with the queue's rest. -/
def Obligations.StepRunsFrontCommand : Prop :=
  ∀ (c : Instr) (rest : List Instr) (s : State), s.pending = c :: rest → step s = exec c { s with pending := rest }

/-- On an empty queue the step answers a next state with an empty queue; one microsecond passes: TICK advances where the core domain has
power, and stands where it has none; memory is as it was. The model's choice (assumption 1); TICK's unit is R25's. -/
def Obligations.IdleStepPassesMicrosecond : Prop :=
  ∀ s : State, s.pending = [] → ∃ t, step s = .next t ∧ t.pending = [] ∧ t.mem = s.mem ∧
    (powered s = true → t.clk.us = s.clk.us + 1) ∧ (powered s = false → t.clk.us = s.clk.us)

/-- What reset leaves (Tables HST.3, HST.6 to HST.8, BNK.2, R105): on every port IRQ_MASK is 1Fh, WIN_BANK 3Fh and nothing is ready;
every rail is OFF with EN low; no session is open; nothing is in memory. -/
def Obligations.ResetLeavesSpecValues : Prop :=
  (∀ p : Fin 4, State.reset.ports[p].irqMask = 0x1F ∧ State.reset.ports[p].winBank = 0x3F ∧ State.reset.ports[p].ready = false ∧
    State.reset.ports[p].rspQ = []) ∧
  (∀ r : Fin 24, State.reset.rails[r].st = .off ∧ State.reset.rails[r].en = false) ∧
  (∀ n : Fin 64, State.reset.tenants[n].session = none ∧ State.reset.tenants[n].queue = []) ∧
  State.reset.clk.us = 0 ∧ State.reset.core.ready = false ∧ State.reset.pending = [] ∧ MemOk State.reset

/-- Every step keeps the canonical form of the memory. -/
def Obligations.StepKeepsMemoryCanonical : Prop :=
  ∀ s t : State, MemOk s → step s = .next t → MemOk t

/-- Every command of the table answers a next state, leaves the queue of waiting commands as it was, never lowers the counter of free
values, and keeps the memory's canonical form. -/
def Obligations.ExecCompletesAndKeepsQueue : Prop :=
  ∀ (c : Instr) (s : State), ∃ t, exec c s = .next t ∧ t.pending = s.pending ∧ s.free ≤ t.free ∧ (MemOk s → MemOk t)

/-! ### Power-on, recall, clocks, hold-up and core resets -/

/-- POR, AON_POR, CLOCK_BACKSTOP and SHIP_WAKE restart everything outside the always-on domain (R43): the core boots, nothing is
recalled, every rail, port, tenant, table run, latch and bank is as at reset, and TICK is 0. POR alone keeps the RTC; AON_POR resets
the always-on domain once the supplies are below 2.6 V (R755); CLOCK_BACKSTOP leaves the battery FET off (R37); it and SHIP_WAKE
leave their start cause, and SHIP_WAKE its source and RTC time. CONFIGURATION_RECALL, READY and NV_READY where they are due (R107,
R570, R512): recall enters STANDBY with CLK_OUT driven, and halts the core where one of banks 0 to 7 failed BIST beyond its spare
columns; READY runs the core; NV_READY is then reported once, and the ship latch stays set only where the SHIP record still waits
for its append (R116). -/
def Obligations.PowerOnRecallAndReady : Prop :=
  (∀ s : State, ∃ t, exec .por s = .next t ∧ FreshDomain t ∧ t.aon = { s.aon with armed := false }) ∧
  (∀ (mv : Nat) (s : State), mv < 2600 → ∃ t, exec (.aonPor mv) s = .next t ∧ FreshDomain t ∧ t.aon.rtc = 0 ∧ t.aon.timeSet = false ∧ t.aon.shipLatch = false) ∧
  (∀ s : State, powered s = true → ∃ t, exec .clockBackstop s = .next t ∧ FreshDomain t ∧ t.core.startCause = .clockBackstop ∧
    t.core.batFet = false ∧ t.aon.rtc = s.aon.rtc) ∧
  (∀ (src mv batMv : Nat) (s : State), powered s = false → wakes s src mv = true → ∃ t, exec (.shipWake src mv batMv) s = .next t ∧ FreshDomain t ∧
    t.core.startCause = .shipWake ∧ t.aon.wakeSource = some src ∧ t.aon.wakeRtc = s.aon.rtc) ∧
  (∀ (bist : List (Nat × List Nat)) (levels : Nat) (ecc : List Int) (s : State), s.core.run = .booting → s.core.recalled = false →
    ∃ t, exec (.configurationRecall bist levels ecc) s = .next t ∧ t.core.recalled = true ∧ t.core.clkOut = true ∧
      (bist = [] → t.core.mode = .standby) ∧ ((∃ p ∈ bist, bistHalts s p = true) → t.core.run = .halted)) ∧
  (∀ (bad : List Nat) (s : State), s.core.run = .booting → Clocked s → s.core.holdup = false →
    ∃ t, exec (.ready bad) s = .next t ∧ t.core.run = .running ∧ t.core.ready = true ∧ t.core.fwReady = true ∧ t.core.mode = s.core.mode ∧
      t.owed = [] ∧ t.rails.map (fun x => x.en) = s.rails.map (fun x => x.en)) ∧
  (∀ (ecc : List Int) (s : State), fwWorks s = true → s.core.nvReady = false →
    ∃ t, exec (.nvReady ecc) s = .next t ∧ t.core.nvReady = true ∧ t.core.run = .running ∧
      (t.aon.shipLatch = true → ∃ r ∈ t.log.waiting, r.type = 0x0F))

/-- The reference clock (R28 to R33): a crystal that qualifies takes REF over and nothing else changes; one that does not qualify, or
fails in use, is abandoned for the power cycle, with CLOCK_FAIL latched. Loss of lock and relock (R34 to R36): CORE, CNV and FAB
gate off, the charger gates go low, TICK runs on REF and the QI modulator at 4800 kHz, with CLOCK_FAIL latched; relock turns all of
it back. Loss of lock starts no core reset. -/
def Obligations.ClocksFailAndReturn : Prop :=
  (∀ s : State, powered s = true → s.clk.crystal = .qualifying →
    exec .crystalQualified s = .next { s with clk := { s.clk with crystal := .inUse } }) ∧
  (∀ s : State, powered s = true → s.clk.crystal = .qualifying →
    ∃ t, exec .crystalQualifyTimeout s = .next t ∧ t.clk = { s.clk with crystal := .abandoned } ∧ Latched 0x21 t) ∧
  (∀ s : State, powered s = true → s.clk.crystal = .inUse →
    ∃ t, exec .crystalFailure s = .next t ∧ t.clk = { s.clk with crystal := .abandoned } ∧ Latched 0x21 t) ∧
  (∀ s : State, powered s = true → s.clk.pllLocked = true →
    ∃ t, exec .pllLossOfLock s = .next t ∧ Latched 0x21 t ∧ t.core.run = s.core.run ∧
      t.clk = { s.clk with pllLocked := false, gated := true, gatesLow := true, tickFromRef := true, qiKhz := 4800 }) ∧
  (∀ s : State, powered s = true → s.clk.pllLocked = false →
    ∃ t, exec .pllRelock s = .next t ∧ t.core.run = s.core.run ∧
      t.clk = { s.clk with pllLocked := true, gated := false, gatesLow := false, tickFromRef := false, qiKhz := 5000 })

/-- Hold-up and the supply outputs (R40, R122, R545, R754, R755): with SYS below 3.8 V, in hold-up, VAUX and the RESV boost are off and
both folds clear; when the internal supply is back, with SYS at 4.2 V, the boost restarts; a driven output at its limit folds back,
and its retry unfolds it. -/
def Obligations.HoldUpAndSupplyFoldback : Prop :=
  (∀ (mv : Nat) (resv : List Nat) (s : State), powered s = true → s.core.holdup = false → mv < 3800 →
    ∃ t, exec (.holdup mv resv) s = .next t ∧ t.core.holdup = true ∧ t.core.vaux = false ∧ t.nv.boost = false ∧
      t.supply = { vauxFold := false, bmdFold := false }) ∧
  (∀ (mv : Nat) (s : State), powered s = true → s.core.holdup = true → 4200 ≤ mv →
    ∃ t, exec (.sysValidRestored mv) s = .next t ∧ t.core.holdup = false ∧ t.nv.boost = true ∧ t.core.mode = s.core.mode) ∧
  (∀ s : State, powered s = true → s.core.vaux = true →
    exec (.outputFoldback 0) s = .next { s with supply := { s.supply with vauxFold := true } }) ∧
  (∀ s : State, powered s = true → bmdOn s = true →
    exec (.outputFoldback 1) s = .next { s with supply := { s.supply with bmdFold := true } }) ∧
  (∀ s : State, powered s = true →
    exec (.foldbackRetry 0) s = .next { s with supply := { s.supply with vauxFold := false } } ∧
    exec (.foldbackRetry 1) s = .next { s with supply := { s.supply with bmdFold := false } })

/-- Core resets (R44, R50, R51): nRESET low, the delay after CORE_RESET or FW_ACTIVATE, and the watchdog each take firmware, READY and
NV_READY away and leave their start cause; every port's registers go to their reset values; the rails and the mode stay as they are
outside SERVICE, but where a fault response acts; the core stays held while nRESET is low and boots at its release, but for one that
no slot boots or whose banks failed BIST (R512), which halts. -/
def Obligations.CoreResetsKeepTheHardware : Prop :=
  (∀ s : State, resettable s = true →
    ∃ t, exec .nresetAssert s = .next t ∧ t.core.run = .heldByPin ∧ t.core.nreset = true ∧ t.core.ready = false ∧
      t.core.nvReady = false ∧ t.core.startCause = .nReset ∧ t.ports = State.reset.ports ∧ t.clk = s.clk ∧
      (s.core.mode ≠ .service → t.rails = s.rails ∧ t.core.mode = s.core.mode)) ∧
  (∀ (s : State) (c : StartCause), resettable s = true → s.core.resetDue = some c → s.core.nreset = false →
    ∃ t, exec .coreResetBegin s = .next t ∧ t.core.run = .inReset ∧ t.core.resetDue = none ∧ t.core.ready = false ∧
      t.core.startCause = c ∧ t.ports = State.reset.ports ∧
      (s.core.mode ≠ .service → t.rails = s.rails ∧ t.core.mode = s.core.mode)) ∧
  (∀ s : State, resettable s = true → s.core.run = .running → s.core.recalled = true →
    ∃ t, exec .watchdog s = .next t ∧ t.core.ready = false ∧ t.core.startCause = .watchdog ∧ Latched 0x22 t) ∧
  (∀ s : State, s.core.run = .inReset → powered s = true → s.core.nreset = false → s.core.bistHalt = false → bootSlot (bootCtl s).resets s ≠ none →
    ∃ t, exec .coreResetRelease s = .next t ∧ t.core.run = .booting ∧ t.rails = s.rails ∧ t.ports = s.ports) ∧
  (∀ s : State, s.core.run = .inReset → powered s = true → s.core.nreset = true →
    exec .coreResetRelease s = .next { s with core := { s.core with run := .heldByPin } }) ∧
  (∀ s : State, s.core.run = .heldByPin → s.core.bistHalt = false → bootSlot (bootCtl s).resets s ≠ none →
    ∃ t, exec .nresetRelease s = .next t ∧ t.core.run = .booting ∧ t.core.nreset = false ∧ t.rails = s.rails) ∧
  (∀ s : State, s.core.run = .heldByPin → s.core.bistHalt = true ∨ bootSlot (bootCtl s).resets s = none →
    ∃ t, exec .nresetRelease s = .next t ∧ t.core.run = .halted)

/-- The power button and wake inputs (R95, R97, R101, R102, R113, R125): a new press disarms SHIP and posts WAKE; a forced power-down of
a press begun in RUN or SERVICE starts TBL1 in RUN; an enabled wake input posts WAKE, and a disabled one changes nothing; a commit
of sys.wake_sources cancels no count: a bit set before it serves too. SHIP entry (R114, R126, Timeline MOD.2): it begins by
disarming and posting MODE_CHANGED; once no table runs it ends in SHIP with the ship latch set, VAUX, CLK_OUT, the battery FET and
the input path off, and the ports as at reset. -/
def Obligations.ButtonWakeAndShip : Prop :=
  (∀ (high : Bool) (s : State), powered s = true → s.core.shipEntry ≠ .begun → high = true ∨ s.aon.btnHeld = false →
    ∃ t, exec (.pwrbtnPress high) s = .next t ∧ t.aon.armed = false ∧ t.aon.rtc = s.aon.rtc ∧ t.core.mode = s.core.mode ∧ Posts 0x0102 s t) ∧
  (∀ (began : Nat) (s : State), powered s = true → s.core.shipEntry ≠ .begun → 2 ≤ began → s.core.mode = .run → s.eng.run = none →
    ∃ t q, exec (.forcedPowerDown began) s = .next t ∧ t.eng.run = some q ∧ q.table = 1 ∧ q.cause = 5 ∧ q.tenant = 0xFF) ∧
  (∀ (n before : Nat) (s : State), powered s = true → s.core.shipEntry ≠ .begun → n < 4 → bit (pn s 0x0102) (2 + n) = true →
    ∃ t, exec (.wakeInQualified n before) s = .next t ∧ Posts 0x0102 s t ∧ t.core.mode = s.core.mode) ∧
  (∀ (n before : Nat) (s : State), bit (wakeBits before s) (2 + n) = false → exec (.wakeInQualified n before) s = .next s) ∧
  (∀ (n before : Nat) (s : State), powered s = true → s.core.shipEntry ≠ .begun → n < 4 →
      (∃ p ∈ s.core.wakePast.take before, bit p.1 (2 + n) = true) →
    ∃ t, exec (.wakeInQualified n before) s = .next t ∧ Posts 0x0102 s t ∧ t.core.mode = s.core.mode) ∧
  (∀ s : State, s.core.shipEntry = .requested → s.core.mode ≠ .service →
    ∃ t, exec .shipEntryBegin s = .next t ∧ t.core.shipEntry = .begun ∧ t.aon.armed = false ∧ Posts 0x0101 s t) ∧
  (∀ (late : List Nat) (s : State), s.core.shipEntry = .begun → s.eng.run = none →
    ∃ t, exec (.shipEntryFinish late) s = .next t ∧ t.core.mode = .ship ∧ t.core.run = .inReset ∧ t.core.vaux = false ∧ t.core.batFet = false ∧
      t.core.clkOut = false ∧ t.aon.shipLatch = true ∧ t.inp.path = .off ∧ t.ports = State.reset.ports)

/-- MODE_REQUEST (R88, R92, R94): in STANDBY target 2 starts TBL0 and is answered 0; a request for the mode that is in force is answered
2; target 3 enters SERVICE at once and is answered 1; in RUN target 1 starts TBL1. SHIP_ARM, CORE_RESET and TIME_SET (R50, R111 to
R113, R681): with an input qualified SHIP is armed, with none entry is asked for; option 1 disarms; a core reset falls due after the
answer; TIME_SET sets the RTC and TIME_SET. A MODE_REQUEST for STANDBY while TBL0 runs, or for RUN while TBL1 runs, is BUSY_RUNNING
(R92). -/
def Obligations.ModeAndTimeCommands : Prop :=
  (∀ (r : Req) (s : State), Accepted cmdModeRequest r [byte 2] s → s.core.mode = .standby → s.eng.run = none → s.core.shipEntry ≠ .begun →
    ∃ s1 q, exec (.modeRequest r 2) s = .next (answered 0x0102 r stOk [byte 0] s1) ∧ s1.eng.run = some q ∧ q.table = 0 ∧
      q.tenant = r.tenant ∧ s1.core.mode = .standby) ∧
  (∀ (r : Req) (s : State), Accepted cmdModeRequest r [byte 1] s → s.core.mode = .run → s.eng.run = none → s.core.shipEntry ≠ .begun →
    ∃ s1 q, exec (.modeRequest r 1) s = .next (answered 0x0102 r stOk [byte 0] s1) ∧ s1.eng.run = some q ∧ q.table = 1 ∧
      q.tenant = r.tenant ∧ s1.eng.suspended = false) ∧
  (∀ (r : Req) (s : State), Accepted cmdModeRequest r [byte 1] s → s.core.mode = .standby → runningTable s ≠ 0 →
    exec (.modeRequest r 1) s = .next (answered 0x0102 r stOk [byte 2] (begun 0x0102 r s))) ∧
  (∀ (r : Req) (s : State), Accepted (cmdModeRequestFor [byte 3]) r [byte 3] s → s.core.mode = .standby → s.eng.run = none →
      s.core.shipEntry = .none →
    ∃ s1, exec (.modeRequest r 3) s = .next (answered 0x0102 r stOk [byte 1] s1) ∧ s1.core.mode = .service) ∧
  (∀ (r : Req) (s : State), Accepted cmdShipArm r [byte 0] s → s.core.shipEntry = .none → anyQualified s = true →
    ∃ s1, exec (.shipArm r 0) s = .next (answered 0x0103 r stOk [byte 1] s1) ∧ s1.aon = { s.aon with armed := true } ∧
      s1.core.shipEntry = .none) ∧
  (∀ (r : Req) (s : State), Accepted cmdShipArm r [byte 0] s → s.core.shipEntry = .none → anyQualified s = false →
      s.inp.path ≠ .handover →
    ∃ s1, exec (.shipArm r 0) s = .next (answered 0x0103 r stOk [byte 0] s1) ∧ s1.core.shipEntry = .requested ∧
      s1.core.shipTenant = r.tenant) ∧
  (∀ (r : Req) (s : State), Accepted cmdShipArm r [byte 1] s → s.aon.armed = true →
    ∃ s1, exec (.shipArm r 1) s = .next (answered 0x0103 r stOk [byte 2] s1) ∧ s1.aon.armed = false) ∧
  (∀ (r : Req) (s : State), Accepted cmdCoreReset r [] s →
    ∃ t, exec (.coreReset r) s = .next t ∧ t.core = { (wdKick s).core with resetDue := some .coreReset } ∧
      t.tenants = (answered 0x0104 r stOk [] (begun 0x0104 r s)).tenants) ∧
  (∀ (r : Req) (rtc : Nat) (s : State), Accepted cmdTimeSet r (leBytes 4 rtc) s → rtc < 2 ^ 32 →
    ∃ s1, exec (.timeSet r rtc) s = .next (answered 0x0105 r stOk [] s1) ∧ s1.aon.rtc = rtc ∧ s1.aon.timeSet = true ∧
      s1.aon.shipLatch = s.aon.shipLatch ∧ s1.aon.armed = s.aon.armed) ∧
  (∀ (r : Req) (s : State), Accepted cmdModeRequest r [byte 1] s → runningTable s = 0 → s.core.mode = .standby →
    exec (.modeRequest r 1) s = .next (answered 0x0102 r stBusy [] (begun 0x0102 r s))) ∧
  (∀ (r : Req) (s : State), Accepted cmdModeRequest r [byte 2] s → runningTable s = 1 → s.core.mode ≠ .ship →
    exec (.modeRequest r 2) s = .next (answered 0x0102 r stBusy [] (begun 0x0102 r s)))

/-! ### Rails, tables and margining -/

/-- Table steps that switch rails (R134, R137, R140, Table SEQ.5): ENABLE asserts EN with DS open on each rail of the target that it may
switch; DISABLE deasserts it; DISCHARGE closes DS on a rail that is not enabled and leaves an enabled rail alone, and opens DS but
where HOLD_OFF holds it closed. Each goes to the next step. The other table steps (R143, R156, R166 to R168, R185, Table SEQ.5):
SET_OUT drives its output; EVENT posts TABLE_DONE; TRIGGER fires its line; IF_MODULE goes on where the position holds the class and
skips where it does not; MARGIN puts a rail that is ON into its mode, and waits where its argument asks for it. -/
def Obligations.TableStepsAct : Prop :=
  (∀ (s : State) (q : Run), Live s → readyStep 1 s = some q →
    ∃ t, exec .stepEnable s = .next t ∧ ReadyAt (q.idx + 1) t ∧
      ∀ r ∈ switchMembers s q.table (stepTarget q.step), (rail s r).en = false → (rail s r).st ≠ .faultOff → (rail s r).st ≠ .parked →
        (rail t r).en = true ∧ (rail t r).ds = false) ∧
  (∀ (s : State) (q : Run), Live s → readyStep 2 s = some q → s.eng.bringWait = none →
    ∃ t, exec .stepDisable s = .next t ∧ ReadyAt (q.idx + 1) t ∧
      ∀ r ∈ switchMembers s q.table (stepTarget q.step), (rail t r).en = false) ∧
  (∀ (s : State) (q : Run), Live s → readyStep 10 s = some q → bit (stepArg q.step) 0 = true →
    ∃ t, exec .stepDischarge s = .next t ∧ ReadyAt (q.idx + 1) t ∧
      ∀ r ∈ switchMembers s q.table (stepTarget q.step),
        ((rail s r).en = false → (rail t r).ds = true) ∧ ((rail s r).en = true → rail t r = rail s r)) ∧
  (∀ (s : State) (q : Run), Live s → readyStep 10 s = some q → bit (stepArg q.step) 0 = false →
    ∃ t, exec .stepDischarge s = .next t ∧ ReadyAt (q.idx + 1) t ∧ ∀ r ∈ members s (stepTarget q.step), holdsClosed s r = false → (rail t r).ds = false) ∧
  (∀ (s : State) (q : Run), Live s → readyStep 7 s = some q → stepTarget q.step < 8 →
    ∃ t, exec .stepSetOut s = .next t ∧ ReadyAt (q.idx + 1) t ∧
      vget t.eng.outs (stepTarget q.step) false = bit (stepArg q.step) 0 ∧ t.rails = s.rails) ∧
  (∀ (s : State) (q : Run), Live s → readyStep 12 s = some q →
    ∃ t, exec .stepEvent s = .next t ∧ ReadyAt (q.idx + 1) t ∧ Posts 0x0401 s t ∧ t.rails = s.rails) ∧
  (∀ (s : State) (q : Run), Live s → readyStep 11 s = some q →
    ∃ t, exec .stepTrigger s = .next t ∧ ReadyAt (q.idx + 1) t ∧ t.msr = (fireLine s (stepTarget q.step)).msr ∧ t.rails = s.rails) ∧
  (∀ (s : State) (q : Run), Live s → readyStep 9 s = some q → fromRecalled s = false →
    ∃ t, exec .stepIfModule s = .next t ∧ t.rails = s.rails ∧
      ReadyAt (if moduleClass s (stepTarget q.step) = stepArg q.step % 256 then q.idx + 1
        else q.idx + 1 + stepArg q.step / 256) t) ∧
  (∀ (s : State) (q : Run), Live s → readyStep 9 s = some q → fromRecalled s = true → stepTime q.step ≠ 0 →
    ∃ t, exec .stepIfModule s = .next t ∧ t.rails = s.rails ∧ WaitsAt q.idx [] t) ∧
  (∀ (s : State) (q : Run), Live s → readyStep 8 s = some q → present s (stepTarget q.step) = true →
      (rail s (stepTarget q.step)).st = .on → pv s 0x0601 (stepTarget q.step) = 1 → stepArg q.step % 8 ≠ 0 →
    ∃ t, exec .stepMargin s = .next t ∧ (rail t (stepTarget q.step)).margin.mode = stepArg q.step % 8 ∧
      (bit (stepArg q.step) 3 = false → ReadyAt (q.idx + 1) t) ∧ (bit (stepArg q.step) 3 = true → WaitsAt q.idx [stepTarget q.step] t))

/-- Table steps that wait (R140, R145, Table SEQ.5): WAIT_PG and WAIT_BELOW wait over their rails, or complete with no rail to wait for;
DELAY and WAIT_REQ wait; no rail changes. How a waiting step ends (R142, R145, R153): its condition or its DELAY is met and the
table goes on; at a timeout action CONTINUE counts and goes on, and action STOP ends a table other than TBL1 with TABLE_FAILED. -/
def Obligations.TableStepsWaitAndEnd : Prop :=
  (∀ (s : State) (q : Run), Live s → readyStep 3 s = some q → members s (stepTarget q.step) ≠ [] →
      (∀ r ∈ members s (stepTarget q.step), (rail s r).st ≠ .faultOff) →
    ∃ t, exec .stepWaitPg s = .next t ∧ WaitsAt q.idx (members s (stepTarget q.step)) t ∧ t.rails = s.rails) ∧
  (∀ (s : State) (q : Run), Live s → readyStep 3 s = some q → members s (stepTarget q.step) = [] →
    ∃ t, exec .stepWaitPg s = .next t ∧ ReadyAt (q.idx + 1) t ∧ t.rails = s.rails) ∧
  (∀ (s : State) (q : Run), Live s → readyStep 4 s = some q → members s (stepTarget q.step) ≠ [] →
    ∃ t, exec .stepWaitBelow s = .next t ∧ WaitsAt q.idx (members s (stepTarget q.step)) t ∧ t.rails = s.rails) ∧
  (∀ (s : State) (q : Run), Live s → readyStep 5 s = some q →
    ∃ t, exec .stepDelay s = .next t ∧ WaitsAt q.idx [] t ∧ t.rails = s.rails) ∧
  (∀ (s : State) (q : Run), Live s → readyStep 6 s = some q →
    ∃ t, exec .stepWaitReq s = .next t ∧ WaitsAt q.idx [] t ∧ t.rails = s.rails) ∧
  (∀ (s : State) (q : Run), Live s → waitingRun s = some q → stepOp q.step ≠ 9 → waitHolds s q = true →
    ∃ t, exec .waitMet s = .next t ∧ ReadyAt (q.idx + 1) t ∧ t.rails = s.rails) ∧
  (∀ (s : State) (q : Run), Live s → waitingRun s = some q → waitHolds s q = false → exec .waitMet s = .next s) ∧
  (∀ (s : State) (q : Run), Live s → waitingRun s = some q → stepOp q.step = 5 →
    ∃ t, exec .delayElapsed s = .next t ∧ ReadyAt (q.idx + 1) t ∧ t.rails = s.rails) ∧
  (∀ (s : State) (q : Run), Live s → waitingRun s = some q → stepOp q.step = 3 → pn s 0x0411 q.table = 2 →
    ∃ t, exec .waitTimeout s = .next t ∧ ReadyAt (q.idx + 1) t ∧ t.eng.contTimeouts = min 0xFFFF (s.eng.contTimeouts + 1) ∧
      t.rails = s.rails) ∧
  (∀ (s : State) (q : Run), Live s → waitingRun s = some q → stepOp q.step = 3 → pn s 0x0411 q.table = 0 → q.table ≠ 1 →
      s.eng.reqPend = [] →
    ∃ t, exec .waitTimeout s = .next t ∧ t.eng.run = none ∧ Posts 0x0402 s t ∧ t.core.mode = s.core.mode)

/-- How tables end at END (R89, R90, R150, R152): TBL0 brings RUN, TBL1 brings STANDBY with the outputs deasserted, TBL2 suspends and
TBL3 resumes; TABLE_DONE is posted. -/
def Obligations.TableEndsChangeMode : Prop :=
  (∀ (s : State) (q : Run), Live s → readyStep 0 s = some q → q.table = 0 → s.core.mode = .standby → s.core.shipEntry ≠ .begun →
      s.eng.reqPend = [] →
    ∃ t, exec .stepEnd s = .next t ∧ t.core.mode = .run ∧ t.eng.run = none ∧ Posts 0x0401 s t ∧ Posts 0x0101 s t) ∧
  (∀ (s : State) (q : Run), Live s → readyStep 0 s = some q → q.table = 1 → s.core.mode = .run → s.core.shipEntry ≠ .begun →
      s.core.serviceExit = .none → s.eng.reqPend = [] →
    ∃ t, exec .stepEnd s = .next t ∧ t.core.mode = .standby ∧ t.eng.run = none ∧ Posts 0x0401 s t ∧ ∀ o, vget t.eng.outs o false = false) ∧
  (∀ (s : State) (q : Run), Live s → readyStep 0 s = some q → q.table = 2 ∨ q.table = 3 → s.eng.reqPend = [] →
    ∃ t, exec .stepEnd s = .next t ∧ t.eng.run = none ∧ t.eng.suspended = (q.table == 2) ∧ t.core.mode = s.core.mode ∧ Posts 0x0401 s t)

/-- The engine's judgements of a rail (R128, R129, R132, R133): a PG source that reads good turns ENABLING into ON; below rail.off_mv
DISABLING becomes OFF; the time limits latch TON_MAX and TOFF_MAX. REQ inputs and hot-joins (R159 to R162, R176 to R178): an edge
sets the held level, starts the table that its function names where nothing runs, and waits in arrival order while a table runs; a
pending join asserts EN once the rails before it are ON; one whose WAIT_PG times out is parked with RAIL_JOINED. -/
def Obligations.RailJudgementsAndRequests : Prop :=
  (∀ (r : Nat) (ball : Bool) (mv : Int) (s : State), Live s → present s r = true → pgSource s r ball (windowAfter s r mv) = true →
      (rail s r).st = .enabling →
    ∃ t, exec (.pgGood r ball mv) s = .next t ∧ (rail t r).st = .on ∧ (rail t r).pg = true ∧ (rail t r).en = (rail s r).en) ∧
  (∀ (r : Nat) (mv : Int) (s : State), powered s = true → r < 24 → mv < pv s 0x040B r → (rail s r).toffRun = true →
      (rail s r).st = .disabling → s.eng.run.map (fun q => q.phase) ≠ some .unwinding →
    ∃ t, exec (.railBelowOff r mv) s = .next t ∧ (rail t r).st = .off ∧ (rail t r).below = true ∧ (rail t r).toffRun = false) ∧
  (∀ (r : Nat) (also : List (Nat × Nat × Int)) (s : State), Live s → (rail s r).tonRun = true → (rail s r).en = true → (rail s r).pg = false →
      (∀ j ∈ s.eng.join, j.rail = r → j.time ≠ 0) →
    ∃ t, exec (.tonMax r also) s = .next t ∧ Latched 0x06 t) ∧
  (∀ (r : Nat) (also : List (Nat × Nat × Int)) (s : State), Live s → r < 24 → (rail s r).toffRun = true → toffRaises s r = true →
    ∃ t, exec (.toffMax r also) s = .next t ∧ Latched 0x07 t) ∧
  (∀ (i : Nat) (up : Bool) (s : State) (f n : Nat), Live s → s.eng.driven = true → i < 8 → vget s.eng.reqLevel i up ≠ up →
      reqTable s i up = some (f, n) → s.eng.run = none → reqHeld s n = false → startAllowed s n = true →
    ∃ t q, exec (.reqEdge i up) s = .next t ∧ vget t.eng.reqLevel i false = up ∧ t.eng.run = some q ∧ q.table = n ∧ q.cause = 1) ∧
  (∀ (i : Nat) (up : Bool) (s : State) (f n : Nat), Live s → s.eng.driven = true → i < 8 → vget s.eng.reqLevel i up ≠ up →
      reqTable s i up = some (f, n) → s.eng.run ≠ none →
    ∃ t, exec (.reqEdge i up) s = .next t ∧ t.eng.run = s.eng.run ∧ t.rails = s.rails ∧
      t.eng.reqPend = s.eng.reqPend.filter (fun q => q.fn != f) ++ [{ fn := f, table := n }]) ∧
  (∀ (r : Nat) (s : State) (prior : List Nat) (time : Nat), Live s → present s r = true → (rail s r).st = .joinPending →
      (rail s r).en = false → s.eng.run = none → s.eng.suspended = false → joinPlan s r = some (prior, time) →
      (∀ p ∈ prior, (rail s p).st = .on) →
    ∃ t, exec (.joinRun r) s = .next t ∧ (rail t r).en = true ∧ (rail t r).ds = false) ∧
  (∀ (r : Nat) (s : State), Live s → joins s r = true → (rail s r).tonRaised = false →
    ∃ t, exec (.joinTimeout r) s = .next t ∧ Posts 0x0403 s t ∧ Latched 0x06 t)

/-- Rail commands (R170, R174, R180, R181): RAIL_FORCE puts a rail on or off in SERVICE and refuses a parked one; RAIL_PARK parks, and
unparks to OFF outside RUN, and in RUN is refused for a rail whose bit is clear in seq.join_enable; RAIL_STATE answers four bytes
for each rail. -/
def Obligations.RailCommands : Prop :=
  (∀ (r : Req) (k : Nat) (s : State), Accepted cmdRailForce r [byte k, byte 1] s → k < 24 → present s k = true → (rail s k).st ≠ .parked →
      (rail s k).st ≠ .faultOff →
    ∃ s1, exec (.railForce r k 1) s = .next (answered 0x0401 r stOk [] s1) ∧ (rail s1 k).st = .forcedOn ∧ (rail s1 k).en = true) ∧
  (∀ (r : Req) (k : Nat) (s : State), Accepted cmdRailForce r [byte k, byte 0] s → k < 24 → present s k = true → (rail s k).st ≠ .parked →
      (rail s k).en = true → (rail s k).st ≠ .faultOff →
    ∃ s1, exec (.railForce r k 0) s = .next (answered 0x0401 r stOk [] s1) ∧ (rail s1 k).en = false) ∧
  (∀ (r : Req) (k a : Nat) (s : State), Accepted cmdRailForce r [byte k, byte a] s → k < 24 → a < 256 → present s k = true →
      (rail s k).st = .parked →
    exec (.railForce r k a) s = .next (answered 0x0401 r stModeForbids [] (begun 0x0401 r s))) ∧
  (∀ (r : Req) (k : Nat) (s : State), Accepted cmdRailPark r [byte k, byte 1] s → k < 24 → present s k = true → s.eng.run = none →
    ∃ s1, exec (.railPark r k 1) s = .next (answered 0x0407 r stOk [byte 4] s1) ∧ (rail s1 k).st = .parked) ∧
  (∀ (r : Req) (k : Nat) (s : State), Accepted cmdRailPark r [byte k, byte 0] s → k < 24 → present s k = true → s.eng.run = none →
      (rail s k).st = .parked → s.core.mode ≠ .run →
    ∃ s1, exec (.railPark r k 0) s = .next (answered 0x0407 r stOk [byte 0] s1) ∧ (rail s1 k).st = .off) ∧
  (∀ (r : Req) (s : State), Accepted cmdRailState r [] s →
    ∃ pl, exec (.railState r) s = .next (answered 0x0400 r stOk pl (begun 0x0400 r s)) ∧ pl.length = 96) ∧
  (∀ (r : Req) (k : Nat) (s : State), Accepted cmdRailPark r [byte k, byte 0] s → k < 24 → present s k = true → s.eng.run = none →
      (rail s k).st = .parked → s.core.mode = .run → bit (pn (takeOcc .unpark (begun 0x0407 r s)) 0x0414) k = false →
    exec (.railPark r k 0) s = .next (answered 0x0407 r stModeForbids [] (begun 0x0407 r s)))

/-- Table commands (R148, R151, R163, R164, R691): TABLE_RUN starts a table for its tenant; TABLE_ABORT ends the one that runs with
TABLE_FAILED, leaving every rail and output, and is DENIED for TBL1; TABLE_WRITE's valid last part becomes the active copy where no
table runs and the pending copy where one does; TABLE_READ echoes what it was asked; SEQ_STATUS answers 16 bytes. -/
def Obligations.TableCommands : Prop :=
  (∀ (r : Req) (n : Nat) (s : State), Accepted cmdTableRun r [byte n] s → 2 ≤ n → n < 8 → startAllowed s n = true → s.eng.run = none →
    ∃ s1 q, exec (.tableRun r n) s = .next (answered 0x0402 r stOk [] s1) ∧ s1.eng.run = some q ∧ q.table = n ∧ q.idx = 0 ∧
      q.phase = .ready ∧ q.steps = vget s.eng.active n [] ∧ q.tenant = r.tenant) ∧
  (∀ (r : Req) (n : Nat) (s : State), Accepted cmdTableAbort r [byte n] s → n < 8 → n ≠ 1 → runningTable s = n → s.eng.run ≠ none →
      s.eng.reqPend = [] →
    ∃ s1, exec (.tableAbort r n) s = .next (answered 0x0403 r stOk [] s1) ∧ s1.eng.run = none ∧ Posts 0x0402 s s1 ∧ s1.rails = s.rails ∧
      s1.eng.outs = s.eng.outs) ∧
  (∀ (r : Req) (n first count : Nat) (s : State), Accepted cmdTableRead r [byte n, byte first, byte count] s → n < 8 → first < 64 →
      count < 64 →
    ∃ pl, exec (.tableRead r n first count) s = .next (answered 0x0404 r stOk pl (begun 0x0404 r s)) ∧
      pl.take 3 = [byte n, byte first, byte count]) ∧
  (∀ (r : Req) (n : Nat) (steps tbl : List Bytes) (s : State),
      Accepted cmdTableWrite r ([byte n, byte 0] ++ leBytes 1 steps.length ++ [byte 1] ++ steps.flatMap id) s → n < 8 → r.persist = false →
      (toSteps 30 (steps.flatMap id)).length ≤ 64 → validTable s (toSteps 30 (steps.flatMap id)) = some tbl →
    (s.eng.run = none → ∃ s1 pl, exec (.tableWrite r n 0 1 steps) s = .next (answered 0x0405 r stOk pl s1) ∧ vget s1.eng.active n [] = tbl) ∧
    (s.eng.run ≠ none → ∃ s1 pl, exec (.tableWrite r n 0 1 steps) s = .next (answered 0x0405 r stOk pl s1) ∧
      s1.eng.active = s.eng.active ∧ vget s1.eng.pend n none = some { steps := tbl, persist := false, fails := r.env.headD 0 != 0 })) ∧
  (∀ (r : Req) (s : State), Accepted cmdSeqStatus r [] s →
    ∃ pl, exec (.seqStatus r) s = .next (answered 0x0406 r stOk pl (begun 0x0406 r s)) ∧ pl.length = 16) ∧
  (∀ (r : Req) (s : State), Accepted cmdTableAbort r [byte 1] s →
    exec (.tableAbort r 1) s = .next (answered 0x0403 r stDenied [] (begun 0x0403 r s)))

/-- Margining (R185, R186, R189, R190, R697): MARGIN_SET puts a rail that is ON into its mode and holds the mode for one that is
ENABLING; the loop steps the code of an output that is going OFF towards zero by one, settles where the reading is within 3 mV of
its target, and moves a code by at most one. -/
def Obligations.MarginSetAndLoop : Prop :=
  (∀ (r : Req) (k mode : Nat) (s : State), Accepted cmdMarginSet r [byte k, byte mode] s → k < 24 → 0 < mode → mode ≤ 4 → present s k = true →
      pv s 0x0601 k ≠ 0 → (rail s k).st = .on →
    ∃ s1, exec (.marginSet r k mode) s = .next (answered 0x0600 r stOk [byte 0] s1) ∧ (rail s1 k).margin.mode = mode ∧
      (rail s1 k).st = .on) ∧
  (∀ (r : Req) (k mode : Nat) (s : State), Accepted cmdMarginSet r [byte k, byte mode] s → k < 24 → mode ≤ 4 → present s k = true →
      pv s 0x0601 k ≠ 0 → (rail s k).st = .enabling →
    ∃ s1, exec (.marginSet r k mode) s = .next (answered 0x0600 r stOk [byte 1] s1) ∧ (rail s1 k).margin.held = some mode) ∧
  (∀ (r : Req) (k : Nat) (s : State), Accepted cmdMarginStatus r [byte k] s → k < 24 →
    ∃ pl, exec (.marginStatus r k) s = .next (answered 0x0601 r stOk pl (begun 0x0601 r s)) ∧ pl.length = 10 ∧
      pl.take 2 = [byte k, byte (rail s k).margin.mode]) ∧
  (∀ (k : Nat) (s : State), Live s → fwWorks s = true → k < 24 → (rail s k).margin.mode = 0 → (rail s k).margin.driving = true →
    ∃ t, exec .marginLoopTick s = .next t ∧ (rail t k).margin.code = (rail s k).margin.code - sgn (rail s k).margin.code) ∧
  (∀ (target v pol max : Int) (m : MarginOut), m.settled = false → (target - v).natAbs ≤ 3 →
    (marginStep target v pol max m).settled = true ∧ (marginStep target v pol max m).code = m.code) ∧
  (∀ (target v pol max : Int) (m : MarginOut), m.lastErr = 0 → m.code.natAbs ≤ max →
    ((marginStep target v pol max m).code - m.code).natAbs ≤ 1 ∧ (marginStep target v pol max m).code.natAbs ≤ max)

/-! ### Supervision and the fault fabric -/

/-- The detectors of rails (R198 to R201, R208, R209, R211, R222, R329, R341): a comparator beyond its threshold latches its fault on an
armed rail and requests one conversion; the oldest fault-verify conversion that has ended completes; a PG source that reads bad
latches PG_LOSS on a rail that is ON; an EN that reads another level than driven latches EN_SHORT; a sense check that finds a rail
open latches SENSE_OPEN. Global faults and their fixed actions (Table SUP.1, R218, R396, R403, R404, R755): VIN_OV at its threshold,
SYS_UV below int.sys_min_mv, DIE_OT at 150 °C, VIN_REVERSE, BAT_REVERSE and RESV_LOW each latch; the two input faults leave the
input faulted; BAT_REVERSE holds the battery FET off; after DIE_OT no present rail's EN is asserted while no bring-up runs. -/
def Obligations.DetectorsLatchFaults : Prop :=
  (∀ (r : Nat) (mv : Int) (also : List (Nat × Nat × Int)) (s : State), Live s → r < 24 → armed s 0x01 r = true → (fastAfter s r mv).1 = true →
    ∃ t, exec (.ovFast r mv also) s = .next t ∧ Latched 0x01 t ∧ s.msr.swa.triggers < t.msr.swa.triggers) ∧
  (∀ (r : Nat) (mv : Int) (also : List (Nat × Nat × Int)) (s : State), Live s → r < 24 → armed s 0x02 r = true → (fastAfter s r mv).2 = true →
      fastInitAfter s r mv = false → (∀ a ∈ also, a.1 = 0x06 → a.2.1 ≠ r) →
    ∃ t, exec (.uvFast r mv also) s = .next t ∧ Latched 0x02 t ∧ s.msr.swa.triggers < t.msr.swa.triggers) ∧
  (∀ (v : Verify) (vs : List Verify) (code : Int) (s : State), Live s → s.sup.verify = v :: vs → v.ends ≤ cycle s →
    ∃ t, exec (.faultVerifyResult v.rail code) s = .next t ∧ t.sup.verify = vs ∧ t.sup.reports.length = s.sup.reports.length ∧
      t.msr.swa.completed = s.msr.swa.completed + 1 ∧ t.rails = s.rails) ∧
  (∀ (r : Nat) (ball : Bool) (mv : Int) (also : List (Nat × Nat × Int)) (s : State), Live s → present s r = true →
      pgSource s r ball (windowAfter s r mv) = false → (rail s r).st = .on → (rail s r).pgArmed = true → (∀ a ∈ also, a.1 = 0x06 → a.2.1 ≠ r) →
    ∃ t, exec (.pgLoss r ball mv also) s = .next t ∧ Latched 0x05 t) ∧
  (∀ (r : Nat) (high : Bool) (also : List (Nat × Nat × Int)) (s : State), Live s → present s r = true → enDiffers s r high = true →
    ∃ t, exec (.enShort r high also) s = .next t ∧ Latched 0x08 t) ∧
  (∀ (r : Nat) (c1 c2 : Int) (rest : List (Nat × Int × Int)) (s u : State), Clocked s → s.sup.senseAt + 1000 * pn s 0x050D ≤ s.clk.us →
      u = takeOcc .check { s with sup := { s.sup with senseAt := s.clk.us } } → pv u 0x050D ≠ 0 → r < 24 → sensable u r = true →
      (∀ k, k < r → sensable u k = false) → (senseCheckRail r c1 c2 u).1 = true →
    ∃ t, exec (.senseCheckPeriodic ((r, c1, c2) :: rest)) s = .next t ∧ Latched 0x09 t) ∧
  (∀ (readings : List (Nat × Int × Int)) (s : State), s.clk.us < s.sup.senseAt + 1000 * pn s 0x050D →
    exec (.senseCheckPeriodic readings) s = .next s) ∧
  (∀ (i mv : Nat) (also : List (Nat × Nat × Int)) (s : State), powered s = true → i < 2 → ovEff s i ≤ mv →
    ∃ t, exec (.vinOv i mv also) s = .next t ∧ Latched 0x10 t ∧ (input t i).faulted = true) ∧
  (∀ (i : Nat) (also : List (Nat × Nat × Int)) (s : State), powered s = true → i < 2 →
    ∃ t, exec (.vinReverse i also) s = .next t ∧ Latched 0x11 t ∧ (input t i).faulted = true) ∧
  (∀ (also : List (Nat × Nat × Int)) (s : State), powered s = true →
    ∃ t, exec (.batReverse also) s = .next t ∧ Latched 0x12 t ∧ t.core.batFet = false) ∧
  (∀ (mv : Nat) (also : List (Nat × Nat × Int)) (s : State), Live s → (mv : Int) < sysMin s →
    ∃ t, exec (.sysUv mv also) s = .next t ∧ Latched 0x17 t) ∧
  (∀ (c : Nat) (also : List (Nat × Nat × Int)) (s : State), powered s = true → 150 ≤ c → s.sup.dieSeen = false →
    ∃ t, exec (.dieOt c also) s = .next t ∧ Latched 0x20 t ∧
      (also = [] → s.eng.bringWait = none → ∀ r, present s r = true → (rail t r).en = false)) ∧
  (∀ (c : Nat) (s : State), powered s = true → 130 ≤ c → s.sup.dieSeen = true → s.sup.dieHot = true →
    ∃ t, exec (.dieOt c []) s = .next t ∧ t.sup.latches = s.sup.latches ∧ t.sup.dieHot = true) ∧
  (∀ s : State, Live s → resvIsLow s = true → ∃ t, exec .resvLow s = .next t ∧ Latched 0x23 t)

/-- The answer to a cycle of settings (R222 to R224): every setting of the cycle has its latch, and no latch that was set is lost.
Retries, the FAULTn pulse and reports (R230 to R233, R237, R241): a due retry whose fault's condition reads absent asserts EN and
uses one; a rail that is ON has its count reset; the pulse ends; one report is taken in order, and its latch stays. -/
def Obligations.FaultsRetryAndReport : Prop :=
  (∀ (as : List Setting) (s : State), (∀ a ∈ as, Latched a.code (answer as s)) ∧ ∀ code, Latched code s → Latched code (answer as s)) ∧
  (∀ (r : Nat) (mv : Int) (s : State), Live s → (rail s r).st = .faultOff → (rail s r).en = false → (rail s r).retryDue = true →
      conditionAbsent (seeFast r mv s) r = true → s.eng.run = none → severeLatched s = false → s.core.shipEntry ≠ .begun →
    ∃ t, exec (.faultRetry r mv) s = .next t ∧ (rail t r).en = true ∧ (rail t r).retryUsed = (rail s r).retryUsed + 1 ∧
      (rail t r).retryDue = false) ∧
  (∀ (r : Nat) (s : State), Live s → (rail s r).st = .on →
    ∃ t, exec (.retryCountReset r) s = .next t ∧ rail t r = { rail s r with retryUsed := 0 } ∧ ∀ k, k ≠ r → rail t k = rail s k) ∧
  (∀ s : State, Live s → exec .faultnPulseEnd s = .next { s with sup := { s.sup with pulse := false } }) ∧
  (∀ (s : State) (q : Report) (qs : List Report), Live s → fwWorks s = true → s.sup.reports = q :: qs → awaitsValue s q = false →
    ∃ t, exec .faultReport s = .next t ∧ t.sup.reports = qs ∧ t.sup.latches = s.sup.latches ∧ t.rails = s.rails)

/-- Fault commands (R214, R223, R235, R236, R694, R695): FAULT_STATUS answers ten bytes for each of at most 22 latches; FAULT_CLEAR with
no pair clears all latches and the first-fault register, and with a pair the latch that it names; FAULT_INJECT latches; SENSE_CHECK
answers three masks. -/
def Obligations.FaultCommands : Prop :=
  (∀ (r : Req) (first : Nat) (s : State), Accepted cmdFaultStatus r [byte first] s → first < 256 →
    ∃ pl, exec (.faultStatus r first) s = .next (answered 0x0500 r stOk pl (begun 0x0500 r s)) ∧
      pl.length = 12 + 10 * min 22 (s.sup.latches.length - first)) ∧
  (∀ (r : Req) (s : State), Accepted cmdFaultClearAll r [byte 0] s →
    ∃ s1, exec (.faultClear r []) s = .next (answered 0x0501 r stOk (leBytes 1 s.sup.latches.length) s1) ∧ s1.sup.latches = [] ∧
      s1.sup.first = none) ∧
  (∀ (r : Req) (c k : Nat) (s : State), Accepted cmdFaultClearAll r [byte 1, byte c, byte k] s → c < 256 → k < 256 →
    ∃ s1 pl, exec (.faultClear r [(c, k)]) s = .next (answered 0x0501 r stOk pl s1) ∧
      s1.sup.latches = s.sup.latches.filter (fun l => !sameLatch l c k)) ∧
  (∀ (r : Req) (c k : Nat) (s : State), Accepted cmdFaultInject r [byte c, byte k] s → c < 256 → c ≠ 0x22 → k < 256 → injectOk s c k = true →
      (k < 24 → armed s c k = true) →
    ∃ s1, exec (.faultInject r c k) s = .next (answered 0x0502 r stOk [] s1) ∧ Latched c s1) ∧
  (∀ (r : Req) (m : Nat) (s : State), Accepted cmdSenseCheck r (leBytes 3 m) s →
    ∃ s1 st pl, exec (.senseCheck r m) s = .next (answered 0x0503 r st pl s1) ∧
      ((st = stOk ∧ pl.length = 9) ∨ (st = stAbortedFault ∧ pl = []))) ∧
  (∀ (r : Req) (m : Nat) (s : State), Accepted cmdSenseCheck r (leBytes 3 m) s → m < 2 ^ 24 → (∀ k < 24, pn s 0x0509 k 0x09 ≤ 1) →
    ∃ s1 pl, exec (.senseCheck r m) s = .next (answered 0x0503 r stOk pl s1) ∧ pl.length = 9) ∧
  (∀ (r : Req) (m : Nat) (s : State) (q : SenseScan × State), Accepted cmdSenseCheck r (leBytes 3 m) s → m < 2 ^ 24 →
      senseScan m allRails { checked := [], opened := [], skipped := [], aborted := false, env := r.env } (begun 0x0503 r s) = q →
      q.1.aborted = false →
    exec (.senseCheck r m) s = .next (answered 0x0503 r stOk (maskBytes q.1.checked ++ maskBytes q.1.opened ++ maskBytes q.1.skipped) q.2) ∧
      (q.1.opened ≠ [] → Latched 0x09 q.2) ∧ ∀ k ∈ q.1.opened, k ∈ q.1.checked ∧ bit m k = true)

/-! ### Caldera -/

/-- The capture ring (R245 to R250, R260): a frame of the running PIPE is stored for every rail of the effective mask at the ring index,
which goes on by one of 1024; nothing happens while PIPE stands. Marker, freeze and record (R260, R262, R266, R267): the marker is
written with STATE 1; a complete post window freezes the ring; the record commit ends with the commit word valid, the marker cleared
and the state HELD, and posts CAPTURE_COMMITTED. -/
def Obligations.CaptureRecordsFrames : Prop :=
  (∀ (codes : List Nat) (cut : Bool) (lag : Nat) (rivals : List (Nat × Nat × Bool)) (s : State), MemOk s → Clocked s → s.cap.pipeRuns = true →
      ringWritten s = true → s.cap.ringIdx < 1024 →
    ∃ t, exec (.pipeFrame codes cut lag rivals) s = .next t ∧ t.cap.ringIdx = (s.cap.ringIdx + 1) % 1024 ∧ t.cap.frames = min 1024 (s.cap.frames + 1) ∧
      ∀ r ∈ capRails t, readBytes t (ringEntry r s.cap.ringIdx) 2 = leBytes 2 (sampleWord (codes.getD r 0) cut)) ∧
  (∀ (codes : List Nat) (cut : Bool) (lag : Nat) (rivals : List (Nat × Nat × Bool)) (s : State), s.cap.pipeRuns = false →
    exec (.pipeFrame codes cut lag rivals) s = .next s) ∧
  (∀ (s : State) (c : Capture), MemOk s → Clocked s → supplyOk s 64 = true → s.cap.cap = some c → c.markerDone = false →
    ∃ t, exec .captureMarkerCommit s = .next t ∧ t.cap.cap = some { c with markerDone := true } ∧ readNat t markerAt 1 = 1 ∧
      ∀ a, ¬ (markerAt ≤ a ∧ a < markerAt + 64) → byteOf t a = byteOf s a) ∧
  (∀ (s : State) (c : Capture), Clocked s → s.cap.cap = some c → s.cap.state = .post → c.post ≤ c.after →
    ∃ t d, exec .captureFreeze s = .next t ∧ t.cap.state = .committing ∧ t.cap.cap = some d ∧ d.serial = c.serial ∧ d.trigger ≠ none) ∧
  (∀ (bad : List (Nat × Nat)) (s : State) (c : Capture), MemOk s → Clocked s → s.cap.cap = some c → s.cap.state = .committing → c.started ≠ none →
    ∃ t, exec (.captureRecordCommit bad) s = .next t ∧ t.cap.state = .held ∧ t.cap.cap = none ∧ readNat t 0 4 = 0xA55A ∧
      readNat t markerAt 1 = 0 ∧ Posts 0x0801 s t)

/-- Capture commands (R254, R261, R273, R274, R700, R701): CAPTURE_TEST starts a capture with a new serial in ARMED and is BUSY
elsewhere; CAPTURE_CLEAR clears the commit word and the missed count and arms, leaves DISABLED as it is, and is BUSY_RUNNING in
POST, COMMITTING and RECOVERING; being a small commit it needs RESV at 6000 mV (R533), below which the model answers NV_SUPPLY_LOW
(its choice, assumption 156); CAPTURE_READ answers the record's bytes, and HARDWARE_FAULT with NV_ECC_UNCORR where a word it reads
is uncorrectable (R522); CAPTURE_STATUS answers 52 bytes. -/
def Obligations.CaptureCommands : Prop :=
  (∀ (r : Req) (s : State), Accepted cmdCaptureTest r [] s → s.cap.state = .armed →
    ∃ s1, exec (.captureTest r) s = .next (answered 0x0803 r stOk (leBytes 2 s1.cap.serial) s1) ∧ s1.cap.state = .post ∧
      s1.cap.serial = (s.cap.serial + 1) % 0x10000 ∧ s1.sup = s.sup ∧ s1.rails = s.rails ∧
      ∃ c, s1.cap.cap = some c ∧ c.code = 0 ∧ c.src = 0xFF ∧ bit c.flags 0 = true) ∧
  (∀ (r : Req) (s : State), Accepted cmdCaptureTest r [] s → s.cap.state ≠ .armed →
    exec (.captureTest r) s = .next (answered 0x0803 r stBusy [] (begun 0x0803 r s))) ∧
  (∀ (r : Req) (s : State), MemOk s → Accepted cmdCaptureClear r [] s → s.cap.state = .held ∨ s.cap.state = .armed → 6000 ≤ s.nv.resvMv →
    ∃ s1, exec (.captureClear r) s = .next (answered 0x0802 r stOk [] s1) ∧ s1.cap.state = .armed ∧ s1.cap.missed = 0 ∧
      readNat s1 0 4 = 0) ∧
  (∀ (r : Req) (a n : Nat) (s : State), Accepted cmdCaptureRead r (leBytes 4 a ++ leBytes 1 n) s → a < 0x10000 → n < 256 → r.env = [] →
      markerDue s = false → (∀ w ∈ s.nv.badWords, ¬ (a < w * 8 + 8 ∧ w * 8 < a + n)) →
    exec (.captureRead r a n) s =
      .next (answered 0x0801 r stOk (leBytes 4 a ++ leBytes 1 n ++ zeros 1 ++ readBytes s a n) (begun 0x0801 r s))) ∧
  (∀ (r : Req) (s : State), Accepted cmdCaptureStatus r [] s →
    ∃ pl, exec (.captureStatus r) s = .next (answered 0x0800 r stOk pl (begun 0x0800 r s)) ∧ pl.length = 52 ∧
      pl.take 1 = [byte s.cap.state.code]) ∧
  (∀ (r : Req) (s : State), Accepted cmdCaptureClear r [] s → s.cap.state = .post ∨ s.cap.state = .committing ∨ s.cap.state = .recovering →
    exec (.captureClear r) s = .next (answered 0x0802 r stBusy [] (begun 0x0802 r s))) ∧
  (∀ (r : Req) (s : State), MemOk s → Accepted cmdCaptureClear r [] s → s.cap.state = .disabled → 6000 ≤ s.nv.resvMv →
    ∃ s1, exec (.captureClear r) s = .next (answered 0x0802 r stOk [] s1) ∧ s1.cap.state = .disabled ∧ s1.cap.missed = 0 ∧
      readNat s1 0 4 = 0) ∧
  (∀ (r : Req) (s : State), Accepted cmdCaptureClear r [] s → s.cap.state = .held ∨ s.cap.state = .armed ∨ s.cap.state = .disabled →
      supplyOk s 64 = false →
    exec (.captureClear r) s = .next (answered 0x0802 r stNvSupplyLow [] (begun 0x0802 r s))) ∧
  (∀ (r : Req) (a n w : Nat) (s : State), Accepted cmdCaptureRead r (leBytes 4 a ++ leBytes 1 n) s → a < 0x10000 → n < 256 →
      markerDue s = false → w ∈ s.nv.badWords → a < w * 8 + 8 → w * 8 < a + n →
    ∃ s1, exec (.captureRead r a n) s = .next (answered 0x0801 r stHardware [] s1) ∧ Latched 0x24 s1)

/-! ### Converters and measurement -/

/-- Slice rotation (R298 to R304, R311): a spare that qualifies against one of two positions takes its calibrated coefficients and waits
for its swap; one that does not is held, and the third failure in a row is permanent, each with its event; during a system
calibration of its converter a step waits for the run's end; a swap exchanges the slices, marks the new one, and goes to the next
position. System calibration (R307 to R315): CAL_SYSTEM whose preconditions hold starts its run, which holds the input-short switch
of a rail's offset run closed; it is answered CAL_PRECONDITION where they do not hold. The end of a run opens the switch: with the
coefficient committed, and CAL_DONE once it is in force, or with CAL_REFUSED and nothing written. -/
def Obligations.SlicesAndCalibration : Prop :=
  (∀ (k : Nat) (m : Rotation) (s : State), Clocked s → convRuns s = true → k < 2 → (converter s k).spareSt ≠ .permanent →
      (converter s k).swapDue = false → calConv s ≠ some k →
      rotationOk (catchUp (takeOcc (if k = 0 then .rotationSwa else .rotationSwb) s)) k m = true →
      qualifies (shadowSum (calibrated k m) (activeSlice s k 0) (m.live ++ m.dac)) = true ∨
        qualifies (shadowSum (calibrated k m) (activeSlice s k 1) (m.liveNext ++ m.dacNext)) = true →
    ∃ t, exec (.rotationStep k m) s = .next t ∧ (converter t k).swapDue = true ∧ (converter t k).spareSt = .ready ∧
      (converter t k).coef = (converter s k).coef.set (converter s k).spare (calibrated k m) ∧ (converter t k).pos = (converter s k).pos) ∧
  (∀ (k : Nat) (m : Rotation) (s : State), Clocked s → convRuns s = true → k < 2 → (converter s k).spareSt ≠ .permanent →
      (converter s k).swapDue = false → calConv s ≠ some k →
      rotationOk (catchUp (takeOcc (if k = 0 then .rotationSwa else .rotationSwb) s)) k m = true →
      qualifies (shadowSum (calibrated k m) (activeSlice s k 0) (m.live ++ m.dac)) = false →
      qualifies (shadowSum (calibrated k m) (activeSlice s k 1) (m.liveNext ++ m.dacNext)) = false →
    ∃ t, exec (.rotationStep k m) s = .next t ∧ Posts 0x0704 s t ∧ (converter t k).fails = (converter s k).fails + 1 ∧
      (converter t k).pos = (converter s k).pos ∧ (converter t k).p = (converter s k).p ∧
      (converter t k).spareSt = if 3 ≤ (converter s k).fails + 1 then .permanent else .held) ∧
  (∀ (k : Nat) (m : Rotation) (s : State), Clocked s → convRuns s = true → k < 2 → (converter s k).spareSt ≠ .permanent →
      (converter s k).swapDue = false → calConv s = some k →
      rotationOk (catchUp (takeOcc (if k = 0 then .rotationSwa else .rotationSwb) s)) k m = true →
    ∃ t, exec (.rotationStep k m) s = .next t ∧ (converter t k).due = some m ∧ (converter t k).coef = (converter s k).coef) ∧
  (∀ (k : Nat) (s : State), Clocked s → k < 2 → (converter s k).swapDue = true → calConv s ≠ some k →
    ∃ t, exec (.sliceSwap k) s = .next t ∧ (converter t k).spare = (converter s k).pos.getD (converter s k).p 0 ∧
      (converter t k).pos = (converter s k).pos.set (converter s k).p (converter s k).spare ∧
      (converter t k).p = ((converter s k).p + 1) % (converter s k).pos.length ∧ (converter t k).rotations = (converter s k).rotations + 1 ∧
      (converter s k).spare ∈ (converter t k).fresh ∧ (converter t k).fails = 0 ∧ (converter t k).swapDue = false) ∧
  (∀ (r : Req) (ch kind : Nat) (v : Int) (s : State), Accepted cmdCalSystem r (leBytes 1 ch ++ leBytes 1 kind ++ zeros 2 ++ leInt 4 v) s →
      ch < 256 → kind < 2 → -2147483648 ≤ v → v < 2147483648 → s.msr.cal = none → calState s ch kind = true →
      calReading (takeCodes (checkCount ch kind) r.env (catchUp (begun 0x0705 r s))).2 ch kind v
        (takeCodes (checkCount ch kind) r.env (catchUp (begun 0x0705 r s))).1 = true →
      (ch < 0x80 → (convOf s ch).spareSt ≠ .permanent) →
    ∃ s1 c, exec (.calSystem r ch kind v) s = .next (respond r.port r.tenant r.seq stAccepted [] (some s1.clk.us) false s1) ∧ s1.msr.cal = some c ∧
      c.channel = ch ∧ c.gain = (kind == 1) ∧ c.stated = v ∧ c.persist = r.persist ∧
      s1.msr.shorted = (if kind = 0 ∧ railChannel ch = true then some (calRail ch) else none)) ∧
  (∀ (r : Req) (ch kind : Nat) (v : Int) (s : State), Accepted cmdCalSystem r (leBytes 1 ch ++ leBytes 1 kind ++ zeros 2 ++ leInt 4 v) s →
      ch < 256 → kind < 2 → s.msr.cal ≠ none ∨ calState s ch kind = false →
    ∃ s1, exec (.calSystem r ch kind v) s = .next (answered 0x0705 r stCalPrecondition [] s1) ∧ s1.msr.cal = s.msr.cal) ∧
  (∀ (given xs : List Int) (fails : Bool) (c : CalRun) (s : State), Clocked s → convRuns s = true → s.msr.cal = some c → c.written = none →
      calCodes c given = xs → xs.length = 256 → calRefusal (catchUp s) c xs (xs.map (calCode (catchUp s) c)) = none →
    ∃ t, exec (.calibrationEnd given fails) s = .next t ∧ t.msr.shorted = none ∧ t.par.epoch = s.par.epoch + 1 ∧
      (t.msr.cal = none → PostsTo c.tenant 0x0702 s t) ∧
      (t.msr.cal ≠ none → ∃ w, t.msr.cal = some { c with written := some w } ∧ w.1 = calValue (catchUp s) c (xs.map (calCode (catchUp s) c)))) ∧
  (∀ (given xs : List Int) (fails : Bool) (c : CalRun) (k : Nat) (s : State), Clocked s → convRuns s = true → s.msr.cal = some c →
      c.written = none → calCodes c given = xs → xs.length = 256 → calRefusal (catchUp s) c xs (xs.map (calCode (catchUp s) c)) = some k →
    ∃ t, exec (.calibrationEnd given fails) s = .next t ∧ t.msr.cal = none ∧ t.msr.shorted = none ∧ PostsTo c.tenant 0x0703 s t ∧
      t.par.epoch = s.par.epoch)

/-- Frames (R327 to R330): a timer period, the end of a CONTINUOUS frame's issue and a line start a frame of a running sequence; a line
that a GPIO or a REQ input drives fires at the edge and index it names, one that is due fires once; a trigger while a frame has
conversions to issue is dropped and counted; a free sequence with room takes its descriptor, numbered in the order of arrival.
Result and ring records (R330, R342, R346, R349): the records of an entry whose conversions have ended bring the frame to the entry
behind it, or complete the frame, unless a fault of theirs begins SHIP entry; DMA writes the oldest waiting record at WR, and writes
nothing else but the control block; a parity error of its access fails the ring. Thermistor trips (R357, R359): a trip on a biased
channel is kept, with its instant, until its release; on the battery channel it latches BAT_TS_OPEN. -/
def Obligations.FramesProduceRecords : Prop :=
  (∀ (q : Nat) (s : State), Live s → takesTrigger (seqOf s q) 1 = true → (seqOf s q).since + (seqOf s q).period ≤ s.clk.us →
    exec (.seqTimer q) s = .next (frameStart q (onSeq q (fun y => { y with since := y.since + y.period, period := (pCommitted s.par { id := 0x0707, i1 := q, i2 := 0 }).int.toNat / 256 }) s))) ∧
  (∀ (q : Nat) (s : State), Live s → takesTrigger (seqOf (catchUp s) q) 3 = true → lastIssued (seqOf (catchUp s) q) = true →
    exec (.continuousFrameStart q) s = .next (frameStart q (catchUp s))) ∧
  (∀ (line kind index : Nat) (falling : Bool) (s : State), Live s → line < 4 → 3 ≤ kind → pn s 0x0712 line % 16 = kind → line ∈ s.msr.due →
    exec (.triggerLineFire line kind index falling) s = .next (fireLine { s with msr := { s.msr with due := s.msr.due.erase line } } line)) ∧
  (∀ (line kind index : Nat) (falling : Bool) (s : State), Live s → line < 4 → kind = 1 ∨ kind = 2 → pn s 0x0712 line % 16 = kind →
      pn s 0x0712 line / 16 % 256 = index → bit (pn s 0x0712 line) 13 = true ∨ bit (pn s 0x0712 line) 12 = falling →
    exec (.triggerLineFire line kind index falling) s = .next (fireLine s line)) ∧
  (∀ (q : Nat) (s : State), lastIssued (seqOf (catchUp s) q) = false →
    seqOf (frameStart q s) q = seqOf (catchUp s) q ∧ (frameStart q s).msr.rings = s.msr.rings ∧
    (converter (frameStart q s) (seqConv s q)).dropped = (converter s (seqConv s q)).dropped + 1 ∧
    (converter (frameStart q s) (seqConv s q)).triggers = (converter s (seqConv s q)).triggers + 1) ∧
  (∀ (q : Nat) (s u : State), q < 8 → lastIssued (seqOf (catchUp s) q) = true → convRuns s = true →
      frameTake q (countTrigger (seqConv s q) (catchUp s)) = u → lacksRoom u (pb u 0x0706 q) (seqConv s q) = none →
    ∃ f, (seqOf (frameStart q s) q).frames = (seqOf (catchUp s) q).frames ++ [f] ∧ f.desc = pb u 0x0706 q ∧ f.next = 0 ∧ f.entry = 0 ∧
      f.number = s.msr.arrivals ∧ (frameStart q s).msr.arrivals = s.msr.arrivals + 1 ∧
      (converter (frameStart q s) (seqConv s q)).dropped = (converter s (seqConv s q)).dropped ∧
      (converter (frameStart q s) (seqConv s q)).triggers = (converter s (seqConv s q)).triggers + 1) ∧
  (∀ (q : Nat) (codes pair : List Int) (also : List (Nat × Nat × Int)) (f : Frame) (fs : List Frame) (s : State), Clocked s →
      (seqOf (catchUp s) q).frames = f :: fs → codesOk (seqConv s q) f codes pair = true →
      (entryJobs (catchUp s) (seqConv s q) q f).length = codes.length →
      (∀ j ∈ entryJobs (catchUp s) (seqConv s q) q f, j.ends ≤ cycle s) →
      tsDecided (catchUp s) (byteAt (descEntry f.desc f.next) 0) (entryJobs (catchUp s) (seqConv s q) q f) = true →
      f.next + 1 < descCount f.desc → f.number ∉ fs.map (fun g => g.number) →
    ∃ t, exec (.resultRecord q codes pair also) s = .next t ∧ (t.core.shipEntry = s.core.shipEntry →
      ∃ g, (seqOf t q).frames = g :: fs ∧ g.next = f.next + 1 ∧ g.desc = f.desc ∧ g.number = f.number)) ∧
  (∀ (q : Nat) (codes pair : List Int) (also : List (Nat × Nat × Int)) (f : Frame) (fs : List Frame) (s : State), Clocked s →
      (seqOf (catchUp s) q).frames = f :: fs → codesOk (seqConv s q) f codes pair = true →
      (entryJobs (catchUp s) (seqConv s q) q f).length = codes.length →
      (∀ j ∈ entryJobs (catchUp s) (seqConv s q) q f, j.ends ≤ cycle s) →
      tsDecided (catchUp s) (byteAt (descEntry f.desc f.next) 0) (entryJobs (catchUp s) (seqConv s q) q f) = true →
      descCount f.desc ≤ f.next + 1 → f.number ∉ fs.map (fun g => g.number) →
    ∃ t, exec (.resultRecord q codes pair also) s = .next t ∧ (t.core.shipEntry = s.core.shipEntry → (seqOf t q).frames = fs ∧
      (converter t (seqConv s q)).completed = (converter s (seqConv s q)).completed + 1)) ∧
  (∀ (d a n : Nat) (b : Bytes) (bs : List (Nat × Bytes)) (rivals : List (Nat × Bool)) (s : State), MemOk s → Clocked s → s.core.holdup = false →
      (ringOf s d).attached = true → flipped s ((ringOf s d).cb + 4) 4 = false →
      (ringOf s d).queue = (n, b) :: bs → waitsFrame s d n = false →
      a = spBase + (ringOf s d).bank * 0x1000 + (ringOf s d).produced % (ringOf s d).size → a + b.length ≤ spBase + 0x40000 →
      (ringOf s d).cb + 16 ≤ a ∨ a + b.length ≤ (ringOf s d).cb →
    ∃ t, exec (.ringRecordWrite d false rivals) s = .next t ∧ (ringOf t d).queue = bs ∧ (ringOf t d).produced = (ringOf s d).produced + b.length ∧
      readBytes t a b.length = b ∧
      ∀ x, ¬ ((ringOf s d).cb ≤ x ∧ x < (ringOf s d).cb + 16) → ¬ (a ≤ x ∧ x < a + b.length) → byteOf t x = byteOf s x) ∧
  (∀ (d : Nat) (rivals : List (Nat × Bool)) (s : State), Clocked s → s.core.holdup = false → d < 4 → (ringOf s d).attached = true →
      (ringOf s d).queue ≠ [] →
    ∃ t, exec (.ringRecordWrite d true rivals) s = .next t ∧ (ringOf t d).attached = false ∧ (ringOf t d).failed = true) ∧
  (∀ (k : Nat) (s : State), Live s → k < 8 → pn s 0x070F k ≠ 0 → vget s.msr.tripped k false = false →
    ∃ t, exec (.thermistorOpenTrip k) s = .next t ∧ vget t.msr.tripped k false = true ∧ (vget t.msr.trips k []).head? = some (cycle s, none) ∧
      (k = pn s 0x0B0E → Latched 0x14 t)) ∧
  (∀ (k : Nat) (s : State), Live s → k < 8 →
    ∃ t, exec (.thermistorRelease k) s = .next t ∧ vget t.msr.tripped k true = false ∧ t.sup = s.sup)

/-- Measurement commands (R323, R324, R328, R338 to R341, R697, R698): SEQ_START runs the sequences of its mask, where one that is
SINGLE stops again once its trigger is dropped; SEQ_STOP stops an idle sequence and lets a frame complete; TRIGGER_FIRE fires its
line; CONVERT_NOW answers one record where the converters run, ABORTED_FAULT where they do not, and BUSY on SWB while a pair is in
progress, each as one trigger. Rings (R344, R345, R351, R699): RING_ATTACH gives a ring its banks, with the DMA channel as their
delegate and the control block cleared, and answers BANK_NOT_OWNER where they are not all its tenant's; only its tenant detaches it;
RING_STATUS answers 40 bytes for a ring and 44 for a converter. -/
def Obligations.MeasurementCommands : Prop :=
  (∀ (r : Req) (m : Nat) (s : State), Accepted cmdSeqStart r [byte m] s → m < 0x40 →
      (∀ q < 8, bit m q = true → byteAt (pCommitted s.par { id := 0x0706, i1 := q, i2 := 0 }).bytes 0 ≠ 0) →
    ∃ s1, exec (.seqStart r m) s = .next (answered 0x0701 r stOk [] s1) ∧
      ∀ q < 8, bit m q = true → (seqOf s1 q).running = true ∨ ((seqOf s1 q).mode = 0 ∧ (seqOf s1 q).frames = [])) ∧
  (∀ (r : Req) (m : Nat) (s : State), Accepted cmdSeqStop r [byte m] s → m < 0x40 →
    ∃ s1, exec (.seqStop r m) s = .next (answered 0x0702 r stOk [] s1) ∧ ∀ q < 6, bit m q = true →
      ((seqOf s q).frames = [] → (seqOf s1 q).running = false) ∧ ((seqOf s q).frames ≠ [] → (seqOf s1 q).stopping = true)) ∧
  (∀ (r : Req) (k : Nat) (s : State), Accepted cmdTriggerFire r [byte (2 ^ k)] s → k < 4 →
    exec (.triggerFire r (2 ^ k)) s = .next (answered 0x0706 r stOk [] (fireLine (begun 0x0706 r s) k))) ∧
  (∀ (r : Req) (ch cfg n : Nat) (s : State), Accepted cmdConvertNow r [byte ch, byte cfg, byte n] s → ch < 256 → convRuns s = true →
      (isSwb ch = true → pairRuns (catchUp (begun 0x0700 r s)) = false) →
    ∃ s1 pl, exec (.convertNow r ch cfg n) s = .next (answered 0x0700 r stOk pl s1) ∧ pl.length = 8 ∧ byteAt pl 2 = ch ∧
      (convOf s1 ch).completed = (convOf s ch).completed + 1 ∧ (convOf s1 ch).triggers = (convOf s ch).triggers + 1) ∧
  (∀ (r : Req) (ch cfg n : Nat) (s : State), Accepted cmdConvertNow r [byte ch, byte cfg, byte n] s → ch < 256 →
      convRuns s = false ∨ (isSwb ch = true ∧ pairRuns (catchUp (begun 0x0700 r s)) = true) →
    ∃ s1, exec (.convertNow r ch cfg n) s = .next (answered 0x0700 r (if convRuns s = true then stBusy else stAbortedFault) [] s1) ∧
      (convOf s1 ch).dropped = (convOf s ch).dropped + 1 ∧ (convOf s1 ch).completed = (convOf s ch).completed) ∧
  (∀ (r : Req) (d cb : Nat) (s : State), MemOk s → Accepted cmdRingAttach r ([byte d, byte 0] ++ leBytes 4 cb ++ [byte 0xFF, byte 0]) s → d < 4 →
      cb < 2 ^ 32 → (ringOf s d).attached = false → pn s 0x070A d ≠ 0xFF → cb % 16 = 0 → spBase + 0x8000 ≤ cb → cb < spBase + 0x34000 →
      (∀ k ∈ spanOf (pn s 0x070A d) (pn s 0x0709 d), 8 ≤ k ∧ k ≤ 51) →
      ¬ (spBase + pn s 0x070A d * 0x1000 ≤ cb ∧ cb < spBase + pn s 0x070A d * 0x1000 + pn s 0x0709 d) →
      ownsAll s r.tenant (spanOf (pn s 0x070A d) (pn s 0x0709 d) ++ [bankAt cb]) = true →
      (spanOf (pn s 0x070A d) (pn s 0x0709 d) ++ [bankAt cb]).any (delegatesFull s (0x83 + d)) = false →
    ∃ s1, exec (.ringAttach r d 0 cb 0xFF) s = .next (answered 0x0703 r stOk [] s1) ∧ (ringOf s1 d).attached = true ∧ (ringOf s1 d).tenant = r.tenant ∧
      (ringOf s1 d).cb = cb ∧ (ringOf s1 d).produced = 0 ∧ readBytes s1 cb 16 = zeros 16 ∧
      ∀ k ∈ spanOf (pn s 0x070A d) (pn s 0x0709 d) ++ [bankAt cb], (0x83 + d) ∈ (bank s1 k).delegates) ∧
  (∀ (r : Req) (d cb : Nat) (s : State), Accepted cmdRingAttach r ([byte d, byte 0] ++ leBytes 4 cb ++ [byte 0xFF, byte 0]) s → d < 4 →
      cb < 2 ^ 32 → (ringOf s d).attached = false → pn s 0x070A d ≠ 0xFF → cb % 16 = 0 → spBase ≤ cb → cb < spBase + 0x40000 →
      (∀ k ∈ spanOf (pn s 0x070A d) (pn s 0x0709 d), 8 ≤ k ∧ k ≤ 51) →
      ¬ (spBase + pn s 0x070A d * 0x1000 ≤ cb ∧ cb < spBase + pn s 0x070A d * 0x1000 + pn s 0x0709 d) →
      ownsAll s r.tenant (spanOf (pn s 0x070A d) (pn s 0x0709 d) ++ [bankAt cb]) = false →
    exec (.ringAttach r d 0 cb 0xFF) s = .next (answered 0x0703 r stBankNotOwner [] (begun 0x0703 r s))) ∧
  (∀ (r : Req) (d cb : Nat) (s : State), Accepted cmdRingAttach r ([byte d, byte 1] ++ leBytes 4 cb ++ [byte 0xFF, byte 0]) s → d < 4 →
      (ringOf s d).attached = true → (ringOf s d).tenant ≠ r.tenant →
    exec (.ringAttach r d 1 cb 0xFF) s = .next (answered 0x0703 r stBankNotOwner [] (begun 0x0703 r s))) ∧
  (∀ (r : Req) (d cb : Nat) (s : State), Accepted cmdRingAttach r ([byte d, byte 1] ++ leBytes 4 cb ++ [byte 0xFF, byte 0]) s → d < 4 →
      (ringOf s d).attached = true → (ringOf s d).tenant = r.tenant →
    ∃ s1, exec (.ringAttach r d 1 cb 0xFF) s = .next (answered 0x0703 r stOk [] s1) ∧ (ringOf s1 d).attached = false ∧ (ringOf s1 d).queue = []) ∧
  (∀ (r : Req) (k i : Nat) (s : State), Accepted cmdRingStatus r [byte k, byte i] s → k < 2 →
    ∃ pl, exec (.ringStatus r k i) s = .next (answered 0x0704 r stOk pl (begun 0x0704 r s)) ∧ pl.length = if k = 0 then 40 else 44)

/-! ### Tags -/

/-- Sweeps (R366 to R372, R384, Table TAG.4): a sweep starts on a closed idle ring once its period has ended; one whose records all have
a valid CRC completes: it counts, closes the ring and updates every position; one with a bad CRC among them updates the others and
does not complete; once twice the nominal frame time has passed an abort counts and begins break location at BMD_A, while the link
works. Polls (R373 to R376): a reply under location updates its hop as a stub and polls the next; a timeout, once the time of its
hop has passed, turns to BMD_B with the hops reached; rounds start at BMD_A while the ring is open; a bridging poll that emerges
notes the tags passed and starts a sweep. -/
def Obligations.SweepsAndPolls : Prop :=
  (∀ s : State, Clocked s → periodDue s = true → s.tags.open_ = false →
    ∃ t, exec .sweep s = .next t ∧
      t.tags = { s.tags with flight := .sweep, sentAt := s.clk.us, nextAt := s.clk.us + 1000 * pn t 0x0902 } ∧ sentFrame t ≠ none) ∧
  (∀ (recs : List Bytes) (also : List (Nat × Nat × Int)) (s : State), Clocked s → s.tags.flight = .sweep → (∀ b ∈ recs.take 8, recordOk b = true) →
    ∃ t, exec (.sweepComplete recs also) s = .next t ∧ t.tags.completed = s.tags.completed + 1 ∧ t.tags.lastCount = some (min 8 recs.length) ∧
      t.tags.swept = true ∧ t.tags.open_ = false ∧
      ∀ k b, k < 8 → recs[k]? = some b → (tagPos t k).cur = tagIdOf b ∧ (tagPos t k).word = fieldAt b 6 2) ∧
  (∀ (recs : List Bytes) (also : List (Nat × Nat × Int)) (s : State), Clocked s → s.tags.flight = .sweep → (∃ b ∈ recs.take 8, recordOk b = false) →
    ∃ t, exec (.sweepComplete recs also) s = .next t ∧ t.tags.completed = s.tags.completed ∧ t.tags.lastCount = s.tags.lastCount ∧
      t.tags.open_ = s.tags.open_ ∧ (t.core.shipEntry = s.core.shipEntry → t.tags.flight = .sweep) ∧
      ∀ k b, k < 8 → recs[k]? = some b → recordOk b = true → (tagPos t k).cur = tagIdOf b ∧ (tagPos t k).word = fieldAt b 6 2) ∧
  (∀ (recs : List Bytes) (also : List (Nat × Nat × Int)) (s : State), Clocked s → s.tags.flight = .sweep → frameOver s = true →
    ∃ t, exec (.sweepAbort recs also) s = .next t ∧ t.tags.aborted = s.tags.aborted + 1 ∧
      t.tags.flight = (if tagsRun t = true then .locA 0 else .idle) ∧ t.tags.open_ = s.tags.open_) ∧
  (∀ (b : Bytes) (h : Nat) (also : List (Nat × Nat × Int)) (s : State), Clocked s → s.tags.flight = .locA h → h < 7 → recordOk b = true →
    ∃ t, exec (.pollReply b also) s = .next t ∧ t.tags.flight = (if tagsRun t = true then .locA (h + 1) else .idle) ∧ (tagPos t h).cur = tagIdOf b ∧ (tagPos t h).stub = true ∧
      (tagPos t h).missing = false) ∧
  (∀ (h : Nat) (s : State), Clocked s → tagsRun s = true → s.tags.flight = .locA h → h < 8 → frameOver s = true →
    exec (.pollTimeout []) s = .next { s with tags := { s.tags with reachA := h, flight := .locB 0, sentAt := s.clk.us } }) ∧
  (∀ (h : Nat) (also : List (Nat × Nat × Int)) (s : State), Clocked s → s.tags.flight = .stubA h → h < 8 → frameOver s = true →
    ∃ t, exec (.pollTimeout also) s = .next t ∧ (tagPos t h).unreachable = true ∧ (tagPos t h).cur = (tagPos s h).cur) ∧
  (∀ (hop : Nat) (s : State), Clocked s → tagsRun s = true → s.tags.flight = .bridge →
    ∃ t, exec (.pollEmerged hop []) s = .next t ∧
      t.tags = { s.tags with flight := .sweep, sentAt := s.clk.us, emerged := some (s.tags.reachA % 256 - hop) }) ∧
  (∀ s : State, Clocked s → periodDue s = true → s.tags.open_ = true → 0 < s.tags.reachA →
    ∃ t, exec .stubPollRound s = .next t ∧
      t.tags = { s.tags with flight := .stubA 0, sentAt := s.clk.us, nextAt := s.clk.us + 1000 * pn t 0x0902 })

/-- Held profile parks and the tag commands (R387, R703): what was held runs once no table runs; TAGS_SWEEP starts a sweep and stays
unanswered, and is BUSY while a frame is in flight; TAGS_STATUS answers 100 bytes and RING_DIAGNOSE 24. -/
def Obligations.TagCommands : Prop :=
  (∀ (k : Nat) (s : State), Live s → s.eng.run = none → s.tags.held = [{ rail := k, park := true }] → present s k = true →
    ∃ t, exec .profileParkHeld s = .next t ∧ t.tags.held = [] ∧ (rail t k).st = .parked) ∧
  (∀ s : State, s.eng.run ≠ none → exec .profileParkHeld s = .next s) ∧
  (∀ (r : Req) (s : State), Accepted cmdTagsSweep r [] s → tagsRun s = true → s.tags.flight = .idle →
    ∃ t o, exec (.tagsSweep r) s = .next t ∧ t.tags = { s.tags with flight := .sweep, sentAt := s.clk.us } ∧ t.ops = s.ops ++ [o] ∧ o.kind = .tagsSweep ∧
      o.tenant = r.tenant ∧ o.seq = r.seq ∧ t.ports = s.ports) ∧
  (∀ (r : Req) (s : State), Accepted cmdTagsSweep r [] s → tagsRun s = true → s.tags.flight ≠ .idle →
    exec (.tagsSweep r) s = .next (answered 0x0901 r stBusy [] (begun 0x0901 r s))) ∧
  (∀ (r : Req) (s : State), Accepted cmdTagsStatus r [] s →
    ∃ pl, exec (.tagsStatus r) s = .next (answered 0x0900 r stOk pl (begun 0x0900 r s)) ∧ pl.length = 100) ∧
  (∀ (r : Req) (s : State), Accepted cmdRingDiagnose r [] s →
    ∃ pl, exec (.ringDiagnose r) s = .next (answered 0x0902 r stOk pl (begun 0x0902 r s)) ∧ pl.length = 24)

/-! ### Intake -/

/-- Inputs come and go (R399 to R401, R404, R409 to R412): an input that reaches 4.2 V is present and debounces, one at 3.9 V or less is
absent; one whose count is complete qualifies with its VOC and posts SOURCE_ATTACHED; the loss of the active input begins a handover
with its cause, whose end posts both events; a blocked input that is back below its threshold is released. -/
def Obligations.InputsComeAndGo : Prop :=
  (∀ (i mv : Nat) (s : State), powered s = true → i < 2 → 4200 ≤ mv → s.core.mode ≠ .ship → input s i = noInput → s.inp.path ≠ .handover →
    ∃ t, exec (.inputDetect i mv) s = .next t ∧ (input t i).st = .debounce ∧ (input t i).present = true ∧ (input t i).mv = mv ∧
      t.inp.active = s.inp.active) ∧
  (∀ (mv : Nat) (s : State), powered s = true → mv ≤ 3900 → s.core.mode ≠ .ship → (input s 1).present = true → (input s 1).disabled = false →
      (input s 1).faulted = false → s.inp.active ≠ some 1 →
    ∃ t, exec (.inputDetect 1 mv) s = .next t ∧ (input t 1).st = .absent ∧ (input t 1).present = false) ∧
  (∀ (i : Nat) (v : Int) (s : State), powered s = true → i < 2 → qualDone s i = true → s.core.mode ≠ .ship → s.core.shipEntry ≠ .begun →
      vocNow s i = some v → (i = 0 → s.inp.contract = none) →
    ∃ t, exec (.inputQualify i) s = .next t ∧ Posts 0x0A01 s t ∧ (input t i).voc = v.toNat ∧ (input t i).due = none) ∧
  (∀ (i : Nat) (mv iin : Int) (s : State), Live s → s.inp.active = some i → batteryValid s = true → belowLoss s i mv = true ∨ iin < -200 →
    ∃ t, exec (.sourceLoss mv iin) s = .next t ∧ t.inp.path = .handover ∧ t.inp.active = none ∧
      t.inp.leaving = some (i, if belowLoss s i mv = true then 0 else 1)) ∧
  (∀ (low : Nat) (s : State), Live s → s.inp.path = .handover →
    ∃ t, exec (.handoverComplete low) s = .next t ∧ Posts 0x0A02 s t ∧ Posts 0x0A03 s t) ∧
  (∀ (i mv : Nat) (s : State), powered s = true → i < 2 → (input s i).faulted = true → (input s i).st = .blocked → (input s i).disabled = false →
      4200 ≤ mv → (mv : Int) < ovEff s i - 500 →
    ∃ t, exec (.blockedExit i mv false) s = .next t ∧ (input t i).faulted = false ∧ (input t i).st = .debounce ∧ t.rails = s.rails)

/-- The Type-C sink and PD contracts (R414 to R418, R420, R422): attach, Rp and detach; capabilities are kept and a Request goes out;
Accept begins a transition, PS_RDY brings the contract, and its settling ends after 10 ms; a Hard Reset drops it. Further PD
happenings (R417 to R419, R421): the wait for capabilities brings a Hard Reset while fewer than two were sent and a silent source
after; an identity is kept under a contract; a PPS Request repeats after 8 s; EPR is ignored and another message answered
Not_Supported; the PHY acknowledges each message with GoodCRC, and without firmware it waits; PD runs on an attached sink that is no
debug accessory alone (R416). -/
def Obligations.UsbPortAndContracts : Prop :=
  (∀ (rp : Nat) (dbg : Bool) (s : State), powered s = true → s.inp.tc < 2 →
    ∃ t, exec (.typecAttach rp dbg) s = .next t ∧ t.inp.tc = (if dbg then 3 else 2) ∧ t.inp.rp = min rp 2 ∧ t.inp.silent = false) ∧
  (∀ s : State, powered s = true → ∃ t, exec .typecDetach s = .next t ∧ t.inp.tc = 0 ∧ t.inp.contract = none) ∧
  (∀ (rp : Nat) (s : State), powered s = true → 2 ≤ s.inp.tc → s.inp.contract = none →
    ∃ t, exec (.rpChange rp) s = .next t ∧ t.inp.rp = min rp 2 ∧ t.inp.tc = s.inp.tc) ∧
  (∀ (os : List (BitVec 32)) (s : State), powered s = true → s.inp.tc = 2 → fwWorks s = true → os ≠ [] →
    ∃ t c, exec (.sourceCapabilities os) s = .next t ∧ t.inp.caps = os.take 7 ∧ t.inp.request = some c ∧ t.inp.pdSent = some .request) ∧
  (∀ (r : Contract) (s : State), powered s = true → s.inp.tc = 2 → fwWorks s = true → s.inp.request = some r →
    ∃ t, exec .accept s = .next t ∧ t.inp.oldMa = some (sourceMa s) ∧ t.inp.request = some r) ∧
  (∀ (r : Contract) (o : Nat) (s : State), powered s = true → s.inp.tc = 2 → fwWorks s = true → s.inp.request = some r → s.inp.oldMa = some o →
    ∃ t, exec .psRdy s = .next t ∧ t.inp.contract = some r ∧ t.inp.request = none ∧ t.inp.oldMa = none ∧
      t.inp.settling = (s.inp.contract != some r)) ∧
  (∀ s : State, Live s → fwWorks s = true → s.inp.settling = true → s.inp.psAt + 10000 ≤ s.clk.us →
    ∃ t, exec .contractSettled s = .next t ∧ t.inp.settling = false ∧ t.inp.oldMv = none) ∧
  (∀ s : State, powered s = true → s.inp.tc = 2 →
    ∃ t, exec .hardReset s = .next t ∧ t.inp.contract = none ∧ t.inp.resetting = true ∧ t.inp.tc = s.inp.tc) ∧
  (∀ s : State, Live s → fwWorks s = true → s.inp.tc = 2 → s.inp.caps = [] → s.inp.silent = false → s.inp.hardResets < 2 →
    ∃ t, exec .sinkWaitCapTimer s = .next t ∧ t.inp.hardResets = s.inp.hardResets + 1 ∧ t.inp.pdSent = some .hardReset ∧
      t.inp.resetting = true) ∧
  (∀ s : State, Live s → fwWorks s = true → s.inp.tc = 2 → s.inp.caps = [] → s.inp.silent = false → ¬ s.inp.hardResets < 2 →
    ∃ t, exec .sinkWaitCapTimer s = .next t ∧ t.inp.silent = true ∧ t.inp.hardResets = s.inp.hardResets) ∧
  (∀ (a b : BitVec 32) (s : State), powered s = true → s.inp.tc = 2 → fwWorks s = true → s.inp.contract ≠ none → bit (pn s 0x0A09) 5 = true →
    ∃ t, exec (.discoverIdentityAck a b) s = .next t ∧ t.inp.identity = some (a.toNat, b.toNat) ∧ t.inp.contract = s.inp.contract) ∧
  (∀ (c : Contract) (s : State), Live s → fwWorks s = true → s.inp.contract = some c → c.kind = 2 → s.inp.reqAt + 8000000 ≤ s.clk.us →
    ∃ t, exec .ppsRequestRepeat s = .next t ∧ t.inp.request = some c ∧ t.inp.pdSent = some .request) ∧
  (∀ s : State, powered s = true → s.inp.tc = 2 → fwWorks s = true →
    exec (.unsupportedPdMessage true) s = .next { s with inp := { s.inp with goodCrcs := s.inp.goodCrcs + 1 } } ∧
    exec (.unsupportedPdMessage false) s =
      .next { s with inp := { s.inp with goodCrcs := s.inp.goodCrcs + 1, pdSent := some .notSupported } }) ∧
  (∀ s : State, powered s = true → s.inp.tc = 2 → fwWorks s = false → s.inp.pdQueue.length < 4 →
    exec .accept s =
      .next { s with inp := { s.inp with goodCrcs := s.inp.goodCrcs + 1, pdQueue := s.inp.pdQueue ++ [.accept] } }) ∧
  (∀ (m : Bool) (s : State), powered s = true → s.inp.tc ≠ 2 →
    exec .accept s = .next s ∧ exec .psRdy s = .next s ∧ exec .hardReset s = .next s ∧ exec (.unsupportedPdMessage m) s = .next s)

/-- The intake search (R428 to R433): at the end of a dwell, judged by the means of its last 5 ms, a collapse settles with the limit two
steps lower, at least 100 mA, and a step that holds raises the limit by its step up to the cap; a creep try runs for one dwell at a
limit raised by a step, keeps it where it holds and falls two steps where it collapses; panel mode turns where the power fell; VOC
is measured again in PANEL every 600 s. -/
def Obligations.SearchFollowsSource : Prop :=
  (∀ (v a : Int) (bk : Bool) (i : Nat) (s : State), Live s → s.par.waiting = [] → i < 2 → activeIn .search s = some i →
      spanPassed s (1000 * pn s 0x0A06) = true → meanV (lastPairs s (0x40 + i) 5000) = some v → meanI (lastPairs s (0x40 + i) 5000) = some a →
      (s.inp.search.lim : Int) - 50 ≤ a → s.inp.search.waiting = false → collapses s i s.inp.search.prev v a bk = true →
    ∃ t, exec (.searchStep bk) s = .next t ∧ (input t i).st = .settled ∧
      t.inp.search.lim = max 100 (s.inp.search.lim - 2 * s.inp.search.step) ∧ t.inp.search.steps = s.inp.search.steps + 1) ∧
  (∀ (v a : Int) (bk : Bool) (s : State), Live s → s.par.waiting = [] → activeIn .search s = some 0 →
      spanPassed s (1000 * pn s 0x0A06) = true → meanV (lastPairs s 0x40 5000) = some v → meanI (lastPairs s 0x40 5000) = some a →
      (s.inp.search.lim : Int) - 50 ≤ a → s.inp.search.waiting = false → collapses s 0 s.inp.search.prev v a bk = false →
      s.inp.search.lim < capFor (stepSafe s) 0 →
    ∃ t, exec (.searchStep bk) s = .next t ∧ (input t 0).st = .search ∧ t.inp.search.prev = some (v, a) ∧
      t.inp.search.lim = min (s.inp.search.lim + s.inp.search.step) (capFor (stepSafe s) 0)) ∧
  (∀ (v0 a0 : Int) (bk : Bool) (s u : State), Live s → s.par.waiting = [] → activeIn .settled s = some 0 → s.inp.search.trying = none →
      spanPassed s (1000000 * pn s 0x0A07) = true → pn s 0x0A07 ≠ 0 → tryMeans s 0 = some (v0, a0) → u = stepSafe (takeOcc .creepTry (fromNow s)) →
    ∃ t, exec (.creepTry bk) s = .next t ∧ t.inp.search.trying = some (u.inp.search.lim, v0, a0) ∧
      t.inp.search.lim = min (u.inp.search.lim + u.inp.search.step) (capFor u 0)) ∧
  (∀ (v0 a0 v a : Int) (bk : Bool) (l i : Nat) (s : State), Live s → s.par.waiting = [] → i < 2 → activeIn .settled s = some i →
      s.inp.search.trying = some (l, v0, a0) → spanPassed s (1000 * pn s 0x0A06) = true →
      meanV (lastPairs s (0x40 + i) 5000) = some v → meanI (lastPairs s (0x40 + i) 5000) = some a →
    ∃ t, exec (.creepTry bk) s = .next t ∧ t.inp.search.trying = none ∧
      t.inp.search.lim = if collapses s i (some (v0, a0)) v a bk then s.inp.search.lim - 2 * s.inp.search.step else s.inp.search.lim) ∧
  (∀ (p old : Int) (i : Nat) (s : State), Live s → activeIn .panel s = some i → spanPassed s 200000 = true →
      meanOf (lastPairs s (0x40 + i) 50000) (fun x => x.v * x.i) 1 = some p → pv (stepSafe s) 0x0A08 ≠ 0 → s.inp.panelPower = some old →
    ∃ t, exec .panelPeriod s = .next t ∧ t.inp.panelPower = some p ∧ 100 ≤ t.inp.search.lim ∧
      t.inp.panelUp = if p < old then !s.inp.panelUp else s.inp.panelUp) ∧
  (∀ (v : Int) (i : Nat) (s : State), Live s → i < 2 → activeIn .panel s = some i → batteryValid s = true →
      s.inp.vocAt + 600000000 ≤ s.clk.us → vocNow s i = some v →
    ∃ t, exec .vocRemeasure s = .next t ∧ (input t i).voc = v.toNat ∧ t.inp.vocAt = s.clk.us ∧ t.inp.search = s.inp.search)

/-- Budget classes and intervals (R434 to R442): the GPIO levels, a window's edge and the end of an override each choose the class
again, and a change is posted; where an interval boundary falls with a window's edge, the interval closes first; an interval's end
opens a new one at the present RTC second. -/
def Obligations.BudgetsAndIntervals : Prop :=
  (∀ (g : Nat) (s : State), Live s →
    ∃ t, exec (.budgetPinsChange g) s = .next t ∧ t.inp.gpio = BitVec.ofNat 32 g ∧
      (bit (pn s 0x0A0F) 10 = true → t.inp.cls = some (pinClass t) ∧ t.inp.clsSrc = 3)) ∧
  (∀ s : State, Live s → fwWorks s = true →
    ∃ t, exec .budgetWindowEdge s = .next t ∧ t.inp.cls = (classNow s).1 ∧ t.inp.clsSrc = (classNow s).2 ∧
      (s.inp.cls ≠ (classNow s).1 → Posts 0x0A05 s t) ∧
      (s.bg.restored = true → intervalDue s = true → t.inp.ivStart = s.aon.rtc)) ∧
  (∀ s : State, Live s → fwWorks s = true → s.inp.override_ ≠ none → overrideClass s = none →
    ∃ t, exec .budgetOverrideExpiry s = .next t ∧ t.inp.override_ = none ∧ t.inp.cls = (classNow s).1 ∧ t.inp.gpio = s.inp.gpio) ∧
  (∀ s : State, Live s → fwWorks s = true → s.bg.restored = true → intervalDue s = true →
    ∃ t, exec .intervalClose s = .next t ∧ t.inp.ivStart = s.aon.rtc ∧ t.inp.ivPartial = false ∧ t.inp.ivSource = false ∧
      ∀ i < 2, (energy t i).closedCount = (energy s i).closedCount + 1)

/-- Intake commands (R423, R434, R702, R704): INTAKE_STATUS answers 28 bytes; INTAKE_POLICY disables an input that is not active and
forbids it of the active one without a valid battery; PD_REQUEST without a contract is out of range, and keeps a choice that the
contract's source allows; BUDGET_WINDOW sets and clears the override. -/
def Obligations.IntakeCommands : Prop :=
  (∀ (r : Req) (s : State), Accepted cmdIntakeStatus r [] s →
    ∃ pl k, exec (.intakeStatus r) s = .next (answered 0x0A00 r stOk pl { begun 0x0A00 r s with free := k }) ∧ pl.length = 28) ∧
  (∀ (r : Req) (i : Nat) (s : State), Accepted cmdIntakePolicy r [byte 0, byte i] s → i < 2 → s.inp.active ≠ some i →
    ∃ s1, exec (.intakePolicy r 0 i) s = .next (answered 0x0A01 r stOk [] s1) ∧ (input s1 i).disabled = true ∧ (input s1 i).st = .disabled) ∧
  (∀ (r : Req) (i : Nat) (s : State), Accepted cmdIntakePolicy r [byte 0, byte i] s → i < 2 → s.inp.active = some i → batteryValid s = false →
    exec (.intakePolicy r 0 i) s = .next (answered 0x0A01 r stModeForbids [] (begun 0x0A01 r s))) ∧
  (∀ (r : Req) (i : Nat) (s : State), Accepted cmdIntakePolicy r [byte 1, byte i] s → i < 2 →
    ∃ s1, exec (.intakePolicy r 1 i) s = .next (answered 0x0A01 r stOk [] s1) ∧ (input s1 i).disabled = false) ∧
  (∀ (r : Req) (p mv : Nat) (s : State), Accepted cmdPdRequest r (leBytes 1 p ++ zeros 1 ++ leBytes 2 mv) s → s.inp.contract = none →
    exec (.pdRequest r p mv) s = .next (answered 0x0A02 r stRange [] (begun 0x0A02 r s))) ∧
  (∀ (r : Req) (p mv : Nat) (s : State), Accepted cmdPdRequest r (leBytes 1 p ++ zeros 1 ++ leBytes 2 mv) s → 0 < p → p < 256 → mv < 65536 →
      s.inp.contract ≠ none → chosenContract s p mv ≠ none →
    ∃ s1, exec (.pdRequest r p mv) s = .next (answered 0x0A02 r stOk [] s1) ∧ s1.inp.choice = some (p, mv)) ∧
  (∀ (r : Req) (c m : Nat) (s : State), Accepted (cmdBudgetWindow ([byte 1, byte c] ++ leBytes 2 m)) r ([byte 1, byte c] ++ leBytes 2 m) s →
      c < 256 → m < 65536 →
    ∃ s1 pl, exec (.budgetWindow r 1 c m) s = .next (answered 0x0A03 r stOk pl s1) ∧ pl.length = 4 ∧
      s1.inp.override_ = some (c, s.clk.us + m * 60000000)) ∧
  (∀ (r : Req) (c m : Nat) (s : State), Accepted (cmdBudgetWindow ([byte 2, byte c] ++ leBytes 2 m)) r ([byte 2, byte c] ++ leBytes 2 m) s →
    ∃ s1 pl, exec (.budgetWindow r 2 c m) s = .next (answered 0x0A03 r stOk pl s1) ∧ pl.length = 4 ∧ s1.inp.override_ = none)

/-! ### Charger and gauge -/

/-- Pulses and rests (R446, R455 to R460, Table GEY.2): at its time a pulse ends in a rest at zero current; an invalid rest repeats the
previous current; a rest ends in the decided pulse, no more than the band allows by then, or in DONE at the stop point; a pulse that
is chosen is a multiple of 50 mA between a quarter of icc_eff and icc_eff. -/
def Obligations.PulsesAndRests : Prop :=
  (∀ (cl : Bool) (s : State), Live s → fwWorks s = true → s.chg.phase = .geyser → s.chg.inRest = false →
      sinceEdge s (1000000 * pn s 0x0B08) = true →
    ∃ t, exec (.pulseEnd cl) s = .next t ∧ t.chg.inRest = true ∧ t.chg.setpoint = 0 ∧ t.chg.iNext = none ∧ t.chg.clamped = cl ∧
      (∀ i, cl = true → meanI (lastPairs s 0x45 1000000) = some i → t.chg.iClamp = i) ∧ t.chg.restAt = s.clk.us ∧ t.chg.phase = .geyser) ∧
  (∀ s : State, Live s → fwWorks s = true → s.chg.phase = .geyser → s.chg.inRest = true → s.chg.bootRest = false →
      sinceEdge s (1000 * pn s 0x0B09 - 1000) = true → s.chg.iNext = none → (restFigures s).valid = false →
    ∃ t, exec .stepDecision s = .next t ∧ t.chg.invalid = s.chg.invalid + 1 ∧ t.chg.iNext = some s.chg.iPrev) ∧
  (∀ (i : Int) (s : State), Live s → fwWorks s = true → s.chg.phase = .geyser → s.chg.inRest = true →
      sinceEdge s (1000 * pn s 0x0B09) = true → s.chg.iNext = some i → stopReached s = false →
    ∃ t, exec .restEnd s = .next t ∧ t.chg.inRest = false ∧ t.chg.iPrev = min i (iccEff s) ∧ t.chg.pulses = s.chg.pulses + 1 ∧
      t.chg.setpoint = if chargerOff s then 0 else min i (iccEff s)) ∧
  (∀ (i : Int) (s : State), Live s → fwWorks s = true → s.chg.phase = .geyser → s.chg.inRest = true →
      sinceEdge s (1000 * pn s 0x0B09) = true → s.chg.iNext = some i → stopReached s = true →
    ∃ t, exec .restEnd s = .next t ∧ t.chg.phase = .done ∧ t.chg.setpoint = 0) ∧
  (∀ (s : State) (ocv dcir i : Int), 0 ≤ iccEff s → stepChoice s ocv dcir = .pulse i →
    (iccEff s).tdiv 4 < i ∧ i ≤ iccEff s ∧ i % 50 = 0)

/-- Phases (R450, R453, R466, R467, Table GEY.2): PRECHARGE ends in a rest of GEYSER once VBAT has stood a second; DONE goes to MAINTAIN
a second after its entry; a battery low at its rest is precharged and a full one maintained; TOPOFF ends where the 10 s mean of the
current has fallen; MAINTAIN goes back to CHECK; after their times RECOVERY_FAILED and CHG_TIMEOUT suspend. -/
def Obligations.ChargerPhases : Prop :=
  (∀ s : State, Live s → fwWorks s = true → s.chg.phase = .precharge → prechargeDone s = true →
    ∃ t, exec .prechargeExit s = .next t ∧ t.chg.phase = .geyser ∧ t.chg.inRest = true ∧ t.chg.setpoint = 0 ∧
      t.chg.iPrev = s.chg.setpoint) ∧
  (∀ s : State, Live s → fwWorks s = true → s.chg.phase = .done → phaseFor s 1000000 = true →
    ∃ t, exec .doneTimer s = .next t ∧ t.chg.phase = .maintain) ∧
  (∀ (v : Int) (s : State), Live s → fwWorks s = true → s.chg.phase = .check → s.chg.inRest = true → s.chg.bootRest = false →
      sinceEdge s (1000 * pn s 0x0B09 - 1000) = true → s.inp.path ≠ .noBattery → restQuiet s = true → meanV (endPairs s) = some v →
    ∃ t, exec .stepDecision s = .next t ∧
      (cells s * (vcellEff s - pv s 0x0B07) ≤ v → t.chg.phase = .maintain ∧ t.chg.setpoint = 0) ∧
      (v < cells s * (vcellEff s - pv s 0x0B07) → v < cells s * preThr s → t.chg.phase = .precharge)) ∧
  (∀ (i : Int) (s : State), Live s → fwWorks s = true → s.chg.bootRest = false → s.chg.phase = .topoff →
      phaseFor s (1000000 * (s.chg.secs + 1)) = true → tenSeconds s = some i → i ≤ pv (chgSafe s) 0x0B06 →
    ∃ t, exec .phaseWholeSecond s = .next t ∧ t.chg.phase = .done ∧ t.chg.setpoint = 0) ∧
  (∀ (i : Int) (s : State), Live s → fwWorks s = true → s.chg.bootRest = false → s.chg.phase = .maintain →
      phaseFor s (1000000 * (s.chg.secs + 1)) = true → tenSeconds s = some i → restRecheck s i = true →
    ∃ t, exec .phaseWholeSecond s = .next t ∧ t.chg.phase = .check ∧ t.chg.inRest = true) ∧
  (∀ s : State, Live s → fwWorks s = true → s.chg.phase = .check → s.inp.path = .noBattery → phaseFor s 600000000 = true →
    ∃ t, exec .recoveryFailed s = .next t ∧ t.chg.recoveryFailed = true ∧ t.chg.phase = .suspended ∧ t.chg.setpoint = 0) ∧
  (∀ s : State, Live s → s.chg.phase.timed = true → timerDue s = true →
    ∃ t, exec .chgTimeout s = .next t ∧ Latched 0x16 t ∧ t.chg.timeout = true)

/-- The coulomb ledger (R468, R469, R732): 1 ms after the last one a delivery enters the ledger with its residual; nothing is lost, and
the net is what went in less what went out. The gauge (R471, R473, R477, R479, R480): a second after the last one an update keeps
the charge between zero and the capacity and gives soc from it; a rest of full length sets soc and a REST anchor; loaded VBAT below
its cut for 2 s posts BATTERY_EMPTY with soc and the reported value at zero; the boot rest is decided once NV is ready. -/
def Obligations.CoulombAndGaugeUpdate : Prop :=
  (∀ (q : Int) (s : State), Live s → s.core.mode ≠ .ship → s.bg.qiAt + 1000 ≤ s.clk.us →
    ∃ t, exec (.qiDelivery q) s = .next t ∧ t.bg.coulomb = coulombTake (pv (takeOcc .qiDelivery s) 0x0B14) q s.bg.coulomb ∧
      t.bg.qiAt = s.bg.qiAt + 1000 ∧ t.rails = s.rails ∧ t.mem = s.mem) ∧
  (∀ (k q : Int) (c : Coulomb), 0 < k →
    ((coulombTake k q c).net - c.net) * k + (coulombTake k q c).residual = q * 1000 + c.residual ∧ 0 ≤ (coulombTake k q c).residual ∧
      (coulombTake k q c).residual < k ∧
      ((coulombTake k q c).inUc : Int) - (coulombTake k q c).outUc = c.inUc - c.outUc + ((coulombTake k q c).net - c.net)) ∧
  (∀ s : State, Live s → fwWorks s = true → s.gau.have_ = true → s.gau.updAt + 1000000 ≤ s.clk.us →
    ∃ t, exec .gaugeUpdate s = .next t ∧ t.gau.lastNet = s.bg.coulomb.net ∧
      (0 ≤ t.gau.full → 0 ≤ t.gau.rem ∧ t.gau.rem ≤ t.gau.full) ∧
      t.gau.soc = (quot (t.gau.rem * 10000) t.gau.full Config.divByZero).toNat) ∧
  (∀ (v : Int) (s : State), Live s → fwWorks s = true → s.gau.have_ = true → heldFor s s.gau.quiet (1000000 * pn s 0x0B13) = true →
      meanV (lastPairs s 0x45 10000000) = some v →
    ∃ t, exec .restAnchor s = .next t ∧ t.gau.prov = false ∧ t.gau.soc = (ocvToSoc s v).toNat ∧ t.gau.anchorValid = true ∧
      t.gau.anchorKind = 0 ∧ t.gau.anchorN = s.bg.coulomb.net) ∧
  (∀ (v : Int) (s : State), Live s → fwWorks s = true → s.gau.have_ = true → loadedVbat s = some v → s.gau.empty = false →
      heldFor s s.gau.low 2000000 = true →
    ∃ t, exec .batteryEmpty s = .next t ∧ Posts 0x0B02 s t ∧ t.gau.empty = true ∧ t.gau.rep = 0 ∧ t.gau.soc = 0 ∧ t.gau.anchorKind = 2 ∧
      (s.core.mode = .run → s.core.shipEntry ≠ .begun → runningTable t = 1)) ∧
  (∀ (v i : Int) (s : State), Live s → fwWorks s = true → s.chg.bootRest = true → sinceEdge s 150000 = true →
      meanV (edgePairs s 100000 150000) = some v → meanI (edgePairs s 0 150000) = some i →
    ∃ t, exec .bootRest s = .next t ∧ t.chg.bootRest = false ∧
      (s.core.nvReady = true → t.gau.boot = none ∧ t.gau.have_ = true) ∧ (s.core.nvReady = false → t.gau.boot = some (v, i)))

/-- Charger and gauge commands (R454, R481, R705, R707): CHARGE_CONTROL sets the inhibit and the stop point, and an inhibit suspends;
GAUGE_RELEARN takes the design capacity and drops the anchor; both reads answer 28 bytes. -/
def Obligations.ChargeCommands : Prop :=
  (∀ (r : Req) (k n : Nat) (s : State), Accepted cmdChargeControl r [byte k, byte n] s → k < 2 → n < 256 →
    ∃ s1, exec (.chargeControl r k n) s = .next (answered 0x0B01 r stOk [] s1) ∧ s1.chg.inhibit = (k == 1) ∧ s1.chg.stop = n ∧
      (k = 1 → fwWorks s = true → s1.chg.phase = .suspended)) ∧
  (∀ (r : Req) (s : State), Accepted cmdGaugeRelearn r [] s →
    ∃ s1, exec (.gaugeRelearn r) s = .next (answered 0x0B03 r stOk [] s1) ∧ s1.gau.full = designUc s ∧ s1.gau.prov = true ∧
      s1.gau.anchorValid = false) ∧
  (∀ (r : Req) (s : State), Accepted cmdChargeStatus r [] s →
    ∃ pl k, exec (.chargeStatus r) s = .next (answered 0x0B00 r stOk pl { begun 0x0B00 r s with free := k }) ∧ pl.length = 28) ∧
  (∀ (r : Req) (s : State), Accepted cmdGaugeRead r [] s →
    ∃ pl k, exec (.gaugeRead r) s = .next (answered 0x0B02 r stOk pl { begun 0x0B02 r s with free := k }) ∧ pl.length = 28)

/-! ### Banks -/

/-- Bank data commands (R491, R504, R707): a granted BANK_READ echoes its address and length with the bytes; a granted BANK_WRITE stores
its bytes and no other, but for the control block of a ring whose RD it writes; BANK_ATOMIC answers the old word and stores the new
one of Table BNK.4; a word that is not granted is refused as BANK_NOT_OWNER, one of a retired bank as BANK_RETIRED, with the bank's
deny count raised and memory as it was. -/
def Obligations.BankDataCommands : Prop :=
  (∀ (r : Req) (a n : Nat) (s : State), Accepted cmdBankRead r (leBytes 4 a ++ leBytes 1 n) s → a < 2 ^ 32 → n < 256 → (∀ x ∈ r.env, x < 0) →
      InUse (bankAt a) s → heldBack s false r.tenant a = false → flipped s a n = false →
      (∀ i, 4 * i < n → readRight (touchBank (bankAt a) s) false r.tenant (a + 4 * i) = true) →
    ∃ s1, exec (.bankRead r a n) s = .next (answered 0x0C02 r stOk (leBytes 4 a ++ leBytes 1 n ++ zeros 1 ++ readBytes s a n) s1) ∧
      s1.mem = s.mem ∧ BanksKept s s1) ∧
  (∀ (r : Req) (a : Nat) (data : Bytes) (s : State), MemOk s →
      Accepted cmdBankWrite r (leBytes 4 a ++ leBytes 1 data.length ++ zeros 1 ++ data) s → a < 2 ^ 32 → data.length < 256 →
      InUse (bankAt a) s → heldBack s false r.tenant a = false → (∀ i, 4 * i < data.length → writeRight s false r.tenant (a + 4 * i) = true) →
    ∃ s1, exec (.bankWrite r a data) s = .next (answered 0x0C03 r stOk [] s1) ∧ (RdFree s a data.length → readBytes s1 a data.length = data) ∧
      BanksKept s s1 ∧ StoredOnly s s1 a data.length) ∧
  (∀ (r : Req) (a op v w : Nat) (s : State), MemOk s → Accepted cmdBankAtomic r (leBytes 4 a ++ leBytes 1 op ++ zeros 3 ++ leBytes 4 v) s →
      a < 2 ^ 32 → op < 256 → v < 2 ^ 32 → (∀ x ∈ r.env, x < 0) → InUse (bankAt a) s → heldBack s false r.tenant a = false →
      flipped s a 4 = false → writeRight s false r.tenant a = true →
      atomicWord op (word s a) v = some w →
    ∃ s1, exec (.bankAtomic r a op v) s = .next (answered 0x0C04 r stOk (leBytes 4 (word s a)) s1) ∧ (RdFree s a 4 → word s1 a = w) ∧ BanksKept s s1 ∧
      StoredOnly s s1 a 4) ∧
  (∀ (r : Req) (a : Nat) (data : Bytes) (s : State), Accepted cmdBankWrite r (leBytes 4 a ++ leBytes 1 data.length ++ zeros 1 ++ data) s →
      a < 2 ^ 32 → data.length < 256 → heldBack s false r.tenant a = false →
      (bank s (bankAt a)).st = .retired ∨ writeRight s false r.tenant a = false →
    ∃ s1, exec (.bankWrite r a data) s =
        .next (answered 0x0C03 r (if (bank s (bankAt a)).st = .retired then stBankRetired else stBankNotOwner) [] s1) ∧ s1.mem = s.mem ∧
      (bank s1 (bankAt a)).deny = min 0xFFFFFFFF ((bank s (bankAt a)).deny + 1) ∧ (bank s1 (bankAt a)).owner = (bank s (bankAt a)).owner) ∧
  (∀ (old v : Nat), old < 2 ^ 32 → v < 2 ^ 32 →
    atomicWord 1 old v = some ((old + v) % 2 ^ 32) ∧ atomicWord 2 old v = some v ∧ atomicWord 3 old v = some (old ||| v) ∧
    ∀ w, atomicWord 4 old v = some w → ∀ k, bit w k = (bit old k && !bit v k))

/-- Handover and retirement (R493 to R497, R513): a claim of a FREE bank and a release or a gift by its owner make it DRAINING under its
new owner, with the delegations ended; a tenant that does not own it is BANK_NOT_OWNER and changes nothing; a retirement drains it
with no owner; a return puts a retired bank into TESTING. A handover goes on by itself (R497, R502, R506, R510, R512 to R514):
draining ends OWNED, ZEROING or RETIRED by what began it, and an access of the new owner that was held is then carried out; zeroing
ends FREE with every byte of the bank zero and no other byte changed; a returned bank is FREE where spare columns cover the failing
ones, and RETIRED again with BANK_FAIL where they do not; BANK_STATUS answers 24 bytes for a bank and 20 for a master. A claim or
transfer beyond the taker's tenant.bank_quota is DENIED (R496). -/
def Obligations.BankOwnershipMoves : Prop :=
  (∀ (r : Req) (k n : Nat) (s u : State), Accepted cmdBankHandover r [byte k, byte 0, byte n] s → k < 256 → u = takeOcc .claim (begun 0x0C01 r s) →
      fixedBank k = false → (bank s k).st = .free → overQuota u r.tenant k = false →
    ∃ s1, exec (.bankHandover r k 0 n) s = .next (answered 0x0C01 r stOk [] s1) ∧ (bank s1 k).st = .draining ∧ (bank s1 k).owner = r.tenant ∧
      (bank s1 k).delegates = [] ∧ ∀ j, j ≠ k → bank s1 j = bank s j) ∧
  (∀ (r : Req) (k n : Nat) (s : State), Accepted cmdBankHandover r [byte k, byte 2, byte n] s → k < 256 → fixedBank k = false →
      (bank s k).st = .owned → (bank s k).owner = r.tenant → ringUses s k = false →
    ∃ s1, exec (.bankHandover r k 2 n) s = .next (answered 0x0C01 r stOk [] s1) ∧ (bank s1 k).st = .draining ∧ (bank s1 k).owner = 0xFF ∧
      (bank s1 k).oldOwner = r.tenant ∧ (bank s1 k).delegates = [] ∧ (bank s1 k).action = 2) ∧
  (∀ (r : Req) (k n : Nat) (s u : State), Accepted cmdBankHandover r [byte k, byte 1, byte n] s → k < 256 → n < 64 →
      u = takeOcc .claim (begun 0x0C01 r s) → fixedBank k = false → (bank s k).st = .owned → (bank s k).owner = r.tenant → ringUses s k = false →
      overQuota u n k = false →
    ∃ s1, exec (.bankHandover r k 1 n) s = .next (answered 0x0C01 r stOk [] s1) ∧ (bank s1 k).st = .draining ∧ (bank s1 k).owner = n ∧
      (bank s1 k).delegates = []) ∧
  (∀ (r : Req) (k n : Nat) (s : State), Accepted cmdBankHandover r [byte k, byte 3, byte n] s → k < 256 → n < 64 → fixedBank k = false →
      (bank s k).st = .owned → (bank s k).owner = r.tenant → ringUses s k = false → (bank s k).delegates.length < 2 →
    ∃ s1, exec (.bankHandover r k 3 n) s = .next (answered 0x0C01 r stOk [] s1) ∧ n ∈ (bank s1 k).delegates ∧
      (bank s1 k).owner = r.tenant ∧ (bank s1 k).st = .owned) ∧
  (∀ (r : Req) (k act n : Nat) (s : State), Accepted cmdBankHandover r [byte k, byte act, byte n] s → k < 256 → act < 256 → fixedBank k = false →
      (bank s k).st = .owned → (bank s k).owner ≠ r.tenant → r.tenant ≠ 0 →
    exec (.bankHandover r k act n) s = .next (answered 0x0C01 r stBankNotOwner [] (begun 0x0C01 r s))) ∧
  (∀ (r : Req) (k : Nat) (s : State), Accepted cmdBankRetire r [byte k, byte 0] s → k < 256 → fixedBank k = false → (bank s k).st = .owned →
      (bank s k).owner = r.tenant → ringUses s k = false →
    ∃ s1, exec (.bankRetire r k 0) s = .next (answered 0x0C05 r stOk [] s1) ∧ (bank s1 k).st = .draining ∧ (bank s1 k).retiring = true ∧
      (bank s1 k).owner = 0xFF) ∧
  (∀ (r : Req) (k : Nat) (s : State), Accepted cmdBankRetire r [byte k, byte 1] s → k < 256 → fixedBank k = false → (bank s k).st = .retired →
    ∃ t, exec (.bankRetire r k 1) s = .next t ∧ (bank t k).st = .testing ∧ ∃ o ∈ t.ops, o.kind = .bankReturn k ∧ o.tenant = r.tenant ∧ o.seq = r.seq) ∧
  (∀ (k : Nat) (s : State), Clocked s → k < 64 → (bank s k).st = .draining → (bank s k).retiring = false → (bank s k).action ≠ 2 →
      (bank s k).held = [] →
    ∃ t, exec (.handoverDrainEnd k) s = .next t ∧ (bank t k).st = .owned ∧ (bank t k).owner = (bank s k).owner ∧ t.mem = s.mem ∧
      ((bank s k).owner < 64 → PostsTo (bank s k).owner 0x0C01 s t) ∧ ((bank s k).oldOwner < 64 → PostsTo (bank s k).oldOwner 0x0C01 s t)) ∧
  (∀ (k a v o : Nat) (h : Held) (s : State), Clocked s → k < 64 → (bank s k).st = .draining → (bank s k).retiring = false → (bank s k).action ≠ 2 →
      (bank s k).held = [h] → h.master < 12 → h.access = .aliasWrite 3 o a v false → bankAt a = k → o = (bank s k).owner → v < 2 ^ 32 → MemOk s →
      spBase ≤ a → a + 4 ≤ spBase + 0x40000 → o < 0x83 → flipped s a 4 = false →
    ∃ t, exec (.handoverDrainEnd k) s = .next t ∧ (bank t k).held = [] ∧ (bank t k).st = .owned ∧
      (RdFree s a 4 → word t a = (word s a ||| v)) ∧ StoredOnly s t a 4) ∧
  (∀ (k : Nat) (s : State), Clocked s → k < 64 → (bank s k).st = .draining → (bank s k).retiring = false → (bank s k).action = 2 →
    ∃ t, exec (.handoverDrainEnd k) s = .next t ∧ (bank t k).st = .zeroing ∧ t.mem = s.mem) ∧
  (∀ (k : Nat) (s : State), Clocked s → k < 64 → (bank s k).st = .draining → (bank s k).retiring = true →
    ∃ t, exec (.handoverDrainEnd k) s = .next t ∧ (bank t k).st = .retired ∧ (bank t k).cause = 3 ∧ (bank t k).owner = 0xFF) ∧
  (∀ (k : Nat) (s : State), Clocked s → k < 64 → (bank s k).st = .zeroing →
    ∃ t, exec (.bankZeroingDone k) s = .next t ∧ (bank t k).st = .free ∧ (bank t k).owner = 0xFF ∧
      (∀ x, spBase + k * 0x1000 ≤ x → x < spBase + (k + 1) * 0x1000 → byteOf t x = some 0) ∧
      ∀ x, x < spBase + k * 0x1000 ∨ spBase + (k + 1) * 0x1000 ≤ x → byteOf t x = byteOf s x) ∧
  (∀ (k : Nat) (bad : List Nat) (s : State), Clocked s → k < 64 → (bank s k).st = .testing →
    (bistPasses (bank s k) bad = true → ∃ t, exec (.bankBistDone k bad) s = .next t ∧ (bank t k).st = .free ∧ (bank t k).owner = 0xFF ∧
      (bank t k).mapped = (toMap (bank s k) bad).zip (freeSpares (bank s k) bad)) ∧
    (bistPasses (bank s k) bad = false →
      ∃ t, exec (.bankBistDone k bad) s = .next t ∧ (bank t k).st = .retired ∧ (bank t k).cause = 2 ∧ Latched 0x25 t)) ∧
  (∀ (r : Req) (kind k : Nat) (s : State), Accepted cmdBankStatus r [byte kind, byte k, byte 0] s → kind < 2 →
    ∃ pl, exec (.bankStatus r kind k 0) s = .next (answered 0x0C00 r stOk pl (begun 0x0C00 r s)) ∧ pl.length = if kind = 0 then 24 else 20) ∧
  (∀ (r : Req) (k : Nat) (s : State), Accepted cmdBankStatus r [byte 0, byte k, byte 1] s → k < 64 →
    ∃ s1 pl, exec (.bankStatus r 0 k 1) s = .next (answered 0x0C00 r stOk pl s1) ∧ (bank s1 k).deny = 0 ∧ (bank s1 k).parity = 0 ∧
      (bank s1 k).owner = (bank s k).owner) ∧
  (∀ (r : Req) (k n : Nat) (s u : State), Accepted cmdBankHandover r [byte k, byte 0, byte n] s → k < 256 → u = takeOcc .claim (begun 0x0C01 r s) →
      fixedBank k = false → (bank s k).st = .free → overQuota u r.tenant k = true →
    exec (.bankHandover r k 0 n) s = .next (answered 0x0C01 r stDenied [] (begun 0x0C01 r s))) ∧
  (∀ (r : Req) (k n : Nat) (s u : State), Accepted cmdBankHandover r [byte k, byte 1, byte n] s → k < 256 → n < 64 →
      u = takeOcc .claim (begun 0x0C01 r s) → fixedBank k = false → (bank s k).st = .owned → (bank s k).owner = r.tenant → ringUses s k = false →
      overQuota u n k = true →
    exec (.bankHandover r k 1 n) s = .next (answered 0x0C01 r stDenied [] (begun 0x0C01 r s)))

/-- The memory window and the alias windows (R499, R503, R580, R626 to R628): a word of the window's tenant is stored or answered; an
unbound port stores nothing, sets UNBOUND and counts; ports 1 and 3 ignore a write and read zero; an alias write of a granted word
sets, clears or adds, whatever other masters ask for in the same cycle, and one that is not granted changes no memory and is
counted. The atomic registers of a port (R629): a granted ATOP stores the new word, leaves the old one in ATOP_RESULT with ATOP_ERR
clear, and changes no other byte. -/
def Obligations.WindowsAndAtopReachFabric : Prop :=
  (∀ (p off n : Nat) (data : Bytes) (early : Bool) (q : List (Nat × Bool)) (s : State), MemOk s → BusUp p s → p = 0 ∨ p = 2 → 0x1000 ≤ off →
      off ≤ 0x1FFC → off % 4 = 0 → data.length = 4 → windowTenant s p = some n → InUse (bankAt (windowAddr s p off)) s →
      heldBack s early n (windowAddr s p off) = false → writeRight s early n (windowAddr s p off) = true →
    ∃ t, exec (.memoryWindowAccess p true off 4 data [] early q) s = .next t ∧ (RdFree s (windowAddr s p off) 4 → readBytes t (windowAddr s p off) 4 = data) ∧
      t.ports = s.ports ∧ BanksKept s t ∧ StoredOnly s t (windowAddr s p off) 4) ∧
  (∀ (p off n : Nat) (early : Bool) (q : List (Nat × Bool)) (s : State), BusUp p s → p = 0 ∨ p = 2 → 0x1000 ≤ off → off ≤ 0x1FFC → off % 4 = 0 →
      windowTenant s p = some n → InUse (bankAt (windowAddr s p off)) s → heldBack s early n (windowAddr s p off) = false →
      flipped s (windowAddr s p off) 4 = false →
      readRight (touchBank (bankAt (windowAddr s p off)) s) early n (windowAddr s p off) = true →
    ∃ t, exec (.memoryWindowAccess p false off 4 [] [] early q) s = .next t ∧ (port t p).busOut = readBytes s (windowAddr s p off) 4 ∧
      t.mem = s.mem ∧ BanksKept s t) ∧
  (∀ (p off : Nat) (data : Bytes) (early : Bool) (q : List (Nat × Bool)) (s : State), BusUp p s → p = 0 ∨ p = 2 → 0x1000 ≤ off → off ≤ 0x1FFC → off % 4 = 0 →
      data.length = 4 → windowTenant s p = none →
    ∃ t, exec (.memoryWindowAccess p true off 4 data [] early q) s = .next t ∧ t.mem = s.mem ∧ (port t p).winUnbound = true ∧
      (port t p).winCount = min 255 ((port s p).winCount + 1)) ∧
  (∀ (p off n : Nat) (data : Bytes) (bad : List Nat) (early : Bool) (q : List (Nat × Bool)) (s : State), p = 1 ∨ p = 3 →
    exec (.memoryWindowAccess p true off n data bad early q) s = .next s) ∧
  (∀ (p off n : Nat) (data : Bytes) (bad : List Nat) (early : Bool) (q : List (Nat × Bool)) (s : State), BusUp p s → p = 1 ∨ p = 3 → 0x1000 ≤ off →
      off + n ≤ 0x2000 → 0 < n →
    ∃ t, exec (.memoryWindowAccess p false off n data bad early q) s = .next t ∧ (port t p).busOut = zeros n ∧ t.mem = s.mem) ∧
  (∀ (o off v : Nat) (early : Bool) (q : List (Nat × Bool)) (s : State), MemOk s → Clocked s → off < 0x40000 → off % 4 = 0 → v < 2 ^ 32 →
      InUse (bankAt (spBase + off)) s → masterReset s (masterOf s o) = false → heldBack s early o (spBase + off) = false →
      flipped s (spBase + off) 4 = false → writeRight s early o (spBase + off) = true →
    (∃ t, exec (.aliasBitSet o (0x21000000 + off) v false early q) s = .next t ∧
      (RdFree s (spBase + off) 4 → word t (spBase + off) = (word s (spBase + off) ||| v)) ∧ BanksKept s t ∧ StoredOnly s t (spBase + off) 4) ∧
    (∃ t, exec (.aliasBitClear o (0x22000000 + off) v false early q) s = .next t ∧
      (RdFree s (spBase + off) 4 → ∀ k, bit (word t (spBase + off)) k = (bit (word s (spBase + off)) k && !bit v k)) ∧ BanksKept s t ∧
      StoredOnly s t (spBase + off) 4) ∧
    ∃ t, exec (.aliasAtomicAdd o (0x23000000 + off) v false early q) s = .next t ∧
      (RdFree s (spBase + off) 4 → word t (spBase + off) = (word s (spBase + off) + v) % 2 ^ 32) ∧ BanksKept s t ∧
      StoredOnly s t (spBase + off) 4) ∧
  (∀ (o off v : Nat) (bad early : Bool) (q : List (Nat × Bool)) (s : State), Clocked s → off < 0x40000 → off % 4 = 0 →
      (bank s (bankAt (spBase + off))).st ≠ .retired → masterReset s (masterOf s o) = false → heldBack s early o (spBase + off) = false →
      writeRight s early o (spBase + off) = false →
    ∃ t, exec (.aliasBitSet o (0x21000000 + off) v bad early q) s = .next t ∧ t.mem = s.mem ∧
      (bank t (bankAt (spBase + off))).deny = min 0xFFFFFFFF ((bank s (bankAt (spBase + off))).deny + 1)) ∧
  (∀ (o off v : Nat) (bad early : Bool) (q : List (Nat × Bool)) (s : State), Clocked s → masterReset s (masterOf s o) = true →
    exec (.aliasBitSet o off v bad early q) s = .next s) ∧
  (∀ (p n a : Nat) (early : Bool) (q : List (Nat × Bool)) (s : State), MemOk s → BusUp p s → p < 4 → (port s p).atopBusy = false → windowTenant s p = some n →
      a = (port s p).atopAddr.toNat → a % 4 = 0 → inScratch a = true → InUse (bankAt a) s → heldBack s early n a = false →
      flipped s a 4 = false → writeRight s early n a = true →
    (∃ t, exec (.atopAdd p false early q) s = .next t ∧ AtopDone p a s t ∧
      (RdFree s a 4 → word t a = (word s a + (port s p).atopOpnd.toNat) % 2 ^ 32)) ∧
    (∃ t, exec (.atopSwap p false early q) s = .next t ∧ AtopDone p a s t ∧ (RdFree s a 4 → word t a = (port s p).atopOpnd.toNat)) ∧
    (∃ t, exec (.atopOr p false early q) s = .next t ∧ AtopDone p a s t ∧ (RdFree s a 4 → word t a = (word s a ||| (port s p).atopOpnd.toNat))) ∧
    ∃ t, exec (.atopAndNot p false early q) s = .next t ∧ AtopDone p a s t ∧
      (RdFree s a 4 → ∀ k, bit (word t a) k = (bit (word s a) k && !bit (port s p).atopOpnd.toNat k)))

/-! ### Non-volatile storage and firmware updates -/

/-- Gathers and commits (R527 to R532, R535, R710): a first gather in the user region opens at its address; ranges outside it, protected
ranges and denied ranges are refused; a commit takes the first free slot, durable by R532, and drops the gather; with no slot free
it waits; NV_DISCARD drops the gather; completing a commit puts its data at the destination, frees its slot and posts NV_COMMITTED. -/
def Obligations.GathersAndCommits : Prop :=
  (∀ (r : Req) (a : Nat) (data : Bytes) (s : State), Accepted cmdNvGather r (leBytes 4 a ++ leBytes 1 data.length ++ zeros 1 ++ data) s →
      data.length < 256 → 0x28000 ≤ a → a + data.length ≤ 0x40000 → gatherOf s r.tenant = none → s.nv.gathers.length < 8 →
      protects s a data.length = false →
    ∃ s1 g, exec (.nvGather r a data) s = .next (answered 0x0D02 r stOk (leBytes 4 a ++ leBytes 2 data.length) s1) ∧
      gatherOf s1 r.tenant = some g ∧ g.base = a ∧ (∀ j < data.length, (a + j, data.getD j 0) ∈ g.bytes) ∧ s1.mem = s.mem) ∧
  (∀ (r : Req) (a : Nat) (data : Bytes) (s : State), Accepted cmdNvGather r (leBytes 4 a ++ leBytes 1 data.length ++ zeros 1 ++ data) s →
      data.length < 256 → a < 0x28000 → exec (.nvGather r a data) s = .next (answered 0x0D02 r stDenied [] (begun 0x0D02 r s))) ∧
  (∀ (r : Req) (a : Nat) (data : Bytes) (g : Gather) (s : State),
      Accepted cmdNvGather r (leBytes 4 a ++ leBytes 1 data.length ++ zeros 1 ++ data) s →
      data.length < 256 → 0x28000 ≤ a → a + data.length ≤ 0x40000 → gatherOf s r.tenant = some g → a < g.base ∨ g.base + 256 < a + data.length →
    exec (.nvGather r a data) s = .next (answered 0x0D02 r stRange [] (begun 0x0D02 r s))) ∧
  (∀ (r : Req) (g : Gather) (k : Nat) (s : State), MemOk s → Accepted cmdNvCommit r [] s → gatherOf s r.tenant = some g → (gatherSpan g).2 ≤ 256 →
      (saBase ≤ (gatherSpan g).1 → s.core.mode = .service) → commitRefused s (gatherSpan g).1 (gatherSpan g).2 = none →
      (∀ x ∈ r.env, x < 0) → rangeBad s (gatherSpan g).1 (gatherSpan g).2 = false → freeSlot s = some k → rangeBad s (slotAddr k) 276 = false →
    ∃ s1 c, exec (.nvCommit r) s = .next (answered 0x0D03 r stOk [] s1) ∧ s1.nv.commits = s.nv.commits ++ [c] ∧ c.slot = some k ∧
      c.dest = (gatherSpan g).1 ∧ c.data.length = (gatherSpan g).2 ∧ gatherOf s1 r.tenant = none ∧ slotDurable s1 k = true) ∧
  (∀ (r : Req) (g : Gather) (s : State), Accepted cmdNvCommit r [] s → gatherOf s r.tenant = some g →
      (saBase ≤ (gatherSpan g).1 → s.core.mode = .service) → commitRefused s (gatherSpan g).1 (gatherSpan g).2 = none →
      (∀ x ∈ r.env, x < 0) → rangeBad s (gatherSpan g).1 (gatherSpan g).2 = false → freeSlot s = none → r.asyncOk = false →
    ∃ t o c, exec (.nvCommit r) s = .next t ∧ t.ops = s.ops ++ [o] ∧ o.kind = .nvCommit ∧ o.tenant = r.tenant ∧ o.async = false ∧
      t.nv.commits = s.nv.commits ++ [c] ∧ c.slot = none ∧ t.mem = s.mem) ∧
  (∀ (r : Req) (s : State), Accepted cmdNvCommit r [] s → gatherOf s r.tenant = none →
    exec (.nvCommit r) s = .next (answered 0x0D03 r stRange [] (begun 0x0D03 r s))) ∧
  (∀ (r : Req) (s : State), Accepted cmdNvDiscard r [] s →
    ∃ s1, exec (.nvDiscard r) s = .next (answered 0x0D04 r stOk [] s1) ∧ gatherOf s1 r.tenant = none ∧
      ∀ n, n ≠ r.tenant → gatherOf s1 n = gatherOf s n) ∧
  (∀ (c : NvCommit) (cs : List NvCommit) (k : Nat) (s : State), MemOk s → Clocked s → s.cap.cap = none → s.nv.commits = c :: cs → c.slot = some k → k < 8 →
      (∀ d ∈ cs, d.slot ≠ none) → 0x28000 ≤ c.dest → c.dest < 0x40000 → c.dest + c.data.length ≤ 0x40000 →
    ∃ t, exec .nvCommitComplete s = .next t ∧ t.nv.commits = cs ∧ readBytes t c.dest c.data.length = c.data ∧ readNat t (slotAddr k) 4 = 0 ∧
      PostsTo c.owner 0x0D01 s t ∧
      ∀ x, ¬ (c.dest ≤ x ∧ x < c.dest + c.data.length) → ¬ (slotAddr k ≤ x ∧ x < slotAddr k + 4) → byteOf t x = byteOf s x) ∧
  (∀ (r : Req) (a : Nat) (data : Bytes) (s : State), Accepted cmdNvGather r (leBytes 4 a ++ leBytes 1 data.length ++ zeros 1 ++ data) s →
      data.length < 256 → 0x28000 ≤ a → a + data.length ≤ 0x40000 → gatherOf s r.tenant = none → s.nv.gathers.length < 8 →
      protects s a data.length = true →
    exec (.nvGather r a data) s = .next (answered 0x0D02 r stNvProtected [] (begun 0x0D02 r s))) ∧
  (∀ (r : Req) (a : Nat) (data : Bytes) (g : Gather) (s : State),
      Accepted cmdNvGather r (leBytes 4 a ++ leBytes 1 data.length ++ zeros 1 ++ data) s →
      data.length < 256 → 0x28000 ≤ a → a + data.length ≤ 0x40000 → gatherOf s r.tenant = some g → g.base ≤ a →
      a + data.length ≤ g.base + 256 → protects s a data.length = true →
    exec (.nvGather r a data) s = .next (answered 0x0D02 r stNvProtected [] (begun 0x0D02 r s)))

/-- Reads, protection and the reservoir (R520, R524, R538, R546, R709): a read that the tenant may make echoes its range and reads key
slots as zero, and one that meets a word found uncorrectable answers HARDWARE_FAULT and latches NV_ECC_UNCORR; NV_STATUS answers 66
bytes; NV_PROTECT commits nv.user_bp, and is refused where a lock holds another; the discharge test keeps its reading, and latches
RESV_LOW where RESV fell by more than 455 mV. The EEPROM window (R539 to R543): a write with no data sets the pointer; a window that
is read-only discards and counts; a page write takes slot 8 with the data wrapped into its page and leaves the window busy, with no
answer, until its commit is done; a read goes on from the pointer and rolls over at the end of the block. -/
def Obligations.NvReadsAndEepromWindow : Prop :=
  (∀ (r : Req) (a n : Nat) (s : State), Accepted cmdNvRead r (leBytes 4 a ++ leBytes 1 n) s → a < 2 ^ 32 → n < 256 → markerDue s = false →
      mayReadRange s r.tenant a n = true → planeBusy s a n = false → r.env = [] → rangeBad s a n = false →
    ∃ pl, exec (.nvRead r a n) s = .next (answered 0x0D01 r stOk pl (begun 0x0D01 r s)) ∧ pl.take 6 = leBytes 4 a ++ leBytes 1 n ++ zeros 1 ∧
      pl.length = 6 + n ∧
      ∀ j < n, pl[6 + j]? = some (if 0x22000 ≤ a + j ∧ a + j < 0x22800 then 0 else viewByte s (a + j))) ∧
  (∀ (r : Req) (a n w : Nat) (s : State), Accepted cmdNvRead r (leBytes 4 a ++ leBytes 1 n) s → a < 2 ^ 32 → n < 256 → markerDue s = false →
      mayReadRange s r.tenant a n = true → planeBusy s a n = false → r.env = [(w : Int)] → rangeBad s a n = false →
      a < w * 8 + 8 → w * 8 < a + n → w < 0x8000 →
    ∃ s1, exec (.nvRead r a n) s = .next (answered 0x0D01 r stHardware [] s1) ∧ Latched 0x24 s1 ∧ w ∈ s1.nv.badWords ∧
      s1.nv.uncorrectable = s.nv.uncorrectable + 1) ∧
  (∀ (r : Req) (s : State), Accepted cmdNvStatus r [] s →
    ∃ pl, exec (.nvStatus r) s = .next (answered 0x0D00 r stOk pl (begun 0x0D00 r s)) ∧ pl.length = 66) ∧
  (∀ (r : Req) (bp : Nat) (s : State), Accepted cmdNvProtect r [byte bp, byte 0] s → bp < 4 → pn s 0x0D02 ≠ 1 → pv s 0x0D06 ≤ s.nv.resvMv →
      r.env.headD 0 = 0 →
    ∃ s1, exec (.nvProtect r bp 0) s = .next (answered 0x0D05 r stOk [] s1) ∧
      pCommitted s1.par { id := 0x0D01, i1 := 0, i2 := 0 } = .num bp ∧ s1.par.epoch = s.par.epoch + 1) ∧
  (∀ (r : Req) (bp lock : Nat) (s : State), Accepted cmdNvProtect r [byte bp, byte lock] s → bp < 4 → lock < 2 → pn s 0x0D02 = 1 → bp ≠ pn s 0x0D01 →
    exec (.nvProtect r bp lock) s = .next (answered 0x0D05 r stNvProtected [] (begun 0x0D05 r s))) ∧
  (∀ (before after : Nat) (s : State), Live s → s.nv.resvTested = false → s.nv.boost = true → pv s 0x0D05 ≤ before → before ≤ after + 455 →
    exec (.resvDischargeTest before after) s = .next { s with nv := { s.nv with resvTested := true, resvMv := after } }) ∧
  (∀ (before after : Nat) (s : State), Live s → s.nv.resvTested = false → s.nv.boost = true → pv s 0x0D05 ≤ before → after + 455 < before →
    ∃ t, exec (.resvDischargeTest before after) s = .next t ∧ t.nv.resvTestFailed = true ∧ t.nv.resvTested = true ∧ Latched 0x23 t) ∧
  (∀ (b w : Nat) (ecc : List Int) (s : State), BusUp 1 s → eeAnswers s = true → b < 2 →
    exec (.eepromWrite b w [] ecc) s = .next { s with nv := { s.nv with eePointer := w, eeBlock := b } }) ∧
  (∀ (b w : Nat) (data : Bytes) (ecc : List Int) (s : State), BusUp 1 s → eeAnswers s = true → b < 2 → data ≠ [] →
      bit (pn s 0x0D03) 1 = false ∨ protects s (eeMap b w / 64 * 64) 64 = true ∨ s.nv.resvMv < 6000 →
    exec (.eepromWrite b w data ecc) s = .next { s with nv := { s.nv with eeDiscards := s.nv.eeDiscards + 1 } }) ∧
  (∀ (b w : Nat) (data : Bytes) (ecc : List Int) (s : State), BusUp 1 s → eeAnswers s = true → b < 2 → data ≠ [] → data.length ≤ 64 →
      bit (pn s 0x0D03) 1 = true → protects s (eeMap b w / 64 * 64) 64 = false → 6000 ≤ s.nv.resvMv → (∀ x ∈ ecc, x < 0) →
      rangeBad s (eeMap b w / 64 * 64) 64 = false →
    ∃ t c, exec (.eepromWrite b w data ecc) s = .next t ∧ t.nv.commits = s.nv.commits ++ [c] ∧ c.slot = some 8 ∧ c.dest = eeMap b w / 64 * 64 ∧
      c.data.length = 64 ∧ t.nv.eeBusy = true ∧ ∀ k < data.length, c.data[(eeMap b w + k) % 64]? = data[k]?) ∧
  (∀ (b w : Nat) (data : Bytes) (n : Nat) (at_ : Option Nat) (ecc : List Int) (s : State), s.nv.eeBusy = true →
    exec (.eepromWrite b w data ecc) s = .next s ∧ exec (.eepromRead b at_ n ecc) s = .next s) ∧
  (∀ (c : NvCommit) (s : State), MemOk s → Clocked s → markerDue s = false → s.nv.commits = [c] → c.slot = some 8 → 0x28000 ≤ c.dest →
      c.dest < 0x40000 → c.dest + c.data.length ≤ 0x40000 →
    ∃ t, exec .eepromCommitDone s = .next t ∧ t.nv.commits = [] ∧ t.nv.eeBusy = false ∧ readBytes t c.dest c.data.length = c.data ∧
      ∀ x, ¬ (c.dest ≤ x ∧ x < c.dest + c.data.length) → ¬ (slotAddr 8 ≤ x ∧ x < slotAddr 8 + 4) → byteOf t x = byteOf s x) ∧
  (∀ (b n : Nat) (ecc : List Int) (s : State), BusUp 1 s → eeAnswers s = true → b < 2 → markerDue s = false → (∀ x ∈ ecc, x < 0) →
      (∀ j < n, eeMap b (s.nv.eePointer + j) / 8 ∉ s.nv.badWords) →
    ∃ t, exec (.eepromRead b none n ecc) s = .next t ∧ t.nv.eeOut = (List.range n).map (fun j => viewByte s (eeMap b (s.nv.eePointer + j))) ∧
      t.nv.eePointer = (s.nv.eePointer + n) % (if b = 0 then 0x10000 else 0x8000))

/-- The log (R550, R551, R563, R565, R573, R574): an append into the erased rest of the head sector commits a HOST record under the next
sequence number and answers it, and waits behind the erase of a log sector and on hold-up; a read answers the one matching record
whole; a sector whose erase ends reads FFh, and no other byte changes. -/
def Obligations.LogRecordsAppendAndRead : Prop :=
  (∀ (r : Req) (k a : Nat) (data : Bytes) (s : State), MemOk s → Accepted cmdLogAppend r (leBytes 1 0 ++ leBytes 1 data.length ++ leBytes 4 0 ++ data) s →
      data.length < 256 → logFree s = true → 2 ≤ (freeSectors s).length → s.log.head = some k → k < 128 → a = sectorAddr k + s.log.headOff →
      s.log.headOff + recordSize (hostPayload r.tenant data) ≤ 0x1000 →
      (∀ x, a ≤ x → x < a + recordSize (hostPayload r.tenant data) → byteOf s x = some 0xFF) →
    ∃ s1, exec (.logAppend r 0 0 data) s = .next (answered 0x0D06 r stOk (leBytes 4 s.log.nextSeq) s1) ∧ s1.log.appended = s.log.appended + 1 ∧
      s1.log.live = s.log.live + 1 ∧ s1.log.nextSeq = (s.log.nextSeq + 1) % 2 ^ 32 ∧ recLive s1 a = true ∧ recType s1 a = 8 ∧
      recSeq s1 a = s.log.nextSeq % 2 ^ 32 ∧ readBytes s1 (a + 16) (2 + data.length) = hostPayload r.tenant data ∧
      ∀ x, ¬ (a ≤ x ∧ x < a + recordSize (hostPayload r.tenant data)) → byteOf s1 x = byteOf s x) ∧
  (∀ (r : Req) (data : Bytes) (s : State), Accepted cmdLogAppend r (leBytes 1 0 ++ leBytes 1 data.length ++ leBytes 4 0 ++ data) s →
      data.length < 256 → logFree s = true → (freeSectors s).length < 2 →
    exec (.logAppend r 0 0 data) s = .next (answered 0x0D06 r stNvFull [] (begun 0x0D06 r s))) ∧
  (∀ (r : Req) (k : Nat) (data : Bytes) (s : State), Accepted cmdLogAppend r (leBytes 1 0 ++ leBytes 1 data.length ++ leBytes 4 0 ++ data) s →
      s.nv.erasing = some k ∨ s.core.holdup = true → ∃ t o, exec (.logAppend r 0 0 data) s = .next t ∧ t.ops = s.ops ++ [o] ∧ o.tenant = r.tenant ∧ o.seq = r.seq ∧
      o.async = false ∧ t.log = s.log ∧ t.mem = s.mem) ∧
  (∀ (r : Req) (first type a : Nat) (s : State), Accepted cmdLogRead r (leBytes 4 first ++ leBytes 1 type ++ leBytes 1 0) s → first < 2 ^ 32 →
      type < 256 → logMatches s r.tenant first type = [a] → 16 * (recGranules s a + 2) ≤ 238 →
    exec (.logRead r first type 0) s = .next (answered 0x0D07 r stOk
      ([byte 1, byte (if logLater s ((recSeq s a + 1) % 2 ^ 32) then 0 else 2), 0, 0] ++ leBytes 4 ((recSeq s a + 1) % 2 ^ 32) ++ recBytes s a)
      (begun 0x0D07 r s))) ∧
  (∀ (k : Nat) (s : State), Clocked s → s.nv.erasing = some k → k < 128 → s.log.waiting = [] → s.ops = [] →
    ∃ t, exec .sectorEraseDone s = .next t ∧ t.nv.erasing = none ∧
      (∀ x, sectorAddr k ≤ x → x < sectorAddr k + 0x1000 → byteOf t x = some 0xFF) ∧
      ∀ x, x < sectorAddr k ∨ sectorAddr k + 0x1000 ≤ x → byteOf t x = byteOf s x)

/-- Firmware updates (R554 to R557, R713, R714): FW_BEGIN is accepted and the inactive slot erased, and is BUSY_RUNNING while TRIAL is
set; its sectors are erased one by one (R551), and a chunk waits behind the erase; a chunk goes into the erased slot, and one behind
the last is out of range; FW_FINISH judges signature and rollback; FW_ACTIVATE names the slot in TRIAL and a core reset falls due,
and is denied before a good FW_FINISH; FW_INFO answers 40 bytes. -/
def Obligations.FirmwareUpdates : Prop :=
  (∀ (r : Req) (s : State), Accepted cmdFwBegin r [] s → (bootCtl s).trial = 0xFF → s.fw.erasing = false →
    ∃ s1, exec (.fwBegin r) s = .next (respond r.port r.tenant r.seq stAccepted [] (some s1.clk.us) false s1) ∧
      s1.fw = { open_ := true, erasing := true, erased := 0, chunkEnd := 0, finishedOk := false } ∧ s1.mem = s.mem) ∧
  (∀ s : State, Clocked s → slotErasing s = true → s.log.waiting = [] → s.ops = [] →
    ∃ t, exec (.fwEraseDone true) s = .next t ∧ t.fw = { s.fw with erasing := false } ∧
      (∀ x, fwSlotAddr (inactiveSlot s) ≤ x → x < fwSlotAddr (inactiveSlot s) + 0x40000 → byteOf t x = some 0xFF) ∧
      ∀ x, x < fwSlotAddr (inactiveSlot s) ∨ fwSlotAddr (inactiveSlot s) + 0x40000 ≤ x → byteOf t x = byteOf s x) ∧
  (∀ s : State, Clocked s → slotErasing s = true → s.log.waiting = [] → s.ops = [] →
    ∃ t, exec (.fwEraseDone false) s = .next t ∧ t.fw = { s.fw with erasing := false, open_ := false } ∧ t.mem = s.mem) ∧
  (∀ (r : Req) (off a : Nat) (data : Bytes) (s : State), MemOk s → Accepted cmdFwChunk r (leBytes 4 off ++ leBytes 1 data.length ++ zeros 1 ++ data) s →
      data.length < 256 → s.fw.open_ = true → saBusy s = false → s.fw.erasing = false → s.fw.chunkEnd ≤ off → off + data.length ≤ 262144 →
      a = fwSlotAddr (inactiveSlot s) + off → (∀ x, a ≤ x → x < a + data.length → byteOf s x = some 0xFF) →
    ∃ s1, exec (.fwChunk r off data) s = .next (answered 0x0E02 r stOk [] s1) ∧ s1.fw = { s.fw with chunkEnd := off + data.length } ∧
      readBytes s1 a data.length = data ∧ ∀ x, ¬ (a ≤ x ∧ x < a + data.length) → byteOf s1 x = byteOf s x) ∧
  (∀ (r : Req) (off : Nat) (data : Bytes) (s : State), Accepted cmdFwChunk r (leBytes 4 off ++ leBytes 1 data.length ++ zeros 1 ++ data) s →
      data.length < 256 → off < 2 ^ 32 → off < s.fw.chunkEnd → saBusy s = false → s.fw.erasing = false →
    exec (.fwChunk r off data) s = .next (answered 0x0E02 r stRange [] (begun 0x0E02 r s))) ∧
  (∀ (r : Req) (s : State), Accepted cmdFwFinish r [] s → s.fw.open_ = true → s.fw.erasing = false →
    ∃ s1, exec (.fwFinish r) s = .next (answered 0x0E03 r
        (if slotSigned s (inactiveSlot s) = false then stFwSignature
          else if slotSecurity s (inactiveSlot s) < (bootCtl s).floor then stFwRollback else stOk) [] s1) ∧
      s1.fw.finishedOk = (slotSigned s (inactiveSlot s) && decide ((bootCtl s).floor ≤ slotSecurity s (inactiveSlot s))) ∧ s1.mem = s.mem) ∧
  (∀ (r : Req) (s : State), MemOk s → Accepted cmdFwActivate r [] s → s.fw.finishedOk = true → copyGen s tcBoot 0 + 1 < 2 ^ 32 →
      copyGen s tcBoot 1 + 1 < 2 ^ 32 →
    ∃ s1, exec (.fwActivate r) s = .next (answered 0x0E04 r stOk [] s1) ∧ s1.core.resetDue = some .fwActivate ∧
      (bootCtl s1).trial = inactiveSlot s ∧ s1.core.run = s.core.run) ∧
  (∀ (r : Req) (s : State), Accepted cmdFwActivate r [] s → s.fw.finishedOk = false →
    exec (.fwActivate r) s = .next (answered 0x0E04 r stDenied [] (begun 0x0E04 r s))) ∧
  (∀ (r : Req) (s : State), Accepted cmdFwInfo r [] s →
    ∃ pl, exec (.fwInfo r) s = .next (answered 0x0E00 r stOk pl (begun 0x0E00 r s)) ∧ pl.length = 40) ∧
  (∀ (r : Req) (s : State), Accepted cmdFwBegin r [] s → (bootCtl s).trial ≠ 0xFF →
    exec (.fwBegin r) s = .next (answered 0x0E01 r stBusy [] (begun 0x0E01 r s))) ∧
  (∀ (r : Req) (off : Nat) (data : Bytes) (s : State), Accepted cmdFwChunk r (leBytes 4 off ++ leBytes 1 data.length ++ zeros 1 ++ data) s →
      s.fw.open_ = true → s.fw.erasing = true →
    ∃ t o, exec (.fwChunk r off data) s = .next t ∧ t.ops = s.ops ++ [o] ∧ o.tenant = r.tenant ∧ o.seq = r.seq ∧ o.async = false ∧
      t.fw = s.fw ∧ t.mem = s.mem) ∧
  (∀ s : State, Clocked s → slotErasing s = true → s.fw.erased < 64 → s.log.waiting = [] → s.ops = [] →
    ∃ t, exec .sectorEraseDone s = .next t ∧ t.fw = { s.fw with erased := s.fw.erased + 1 } ∧
      ∀ x, x < fwSlotAddr (inactiveSlot s) + 0x1000 * s.fw.erased ∨ fwSlotAddr (inactiveSlot s) + 0x1000 * (s.fw.erased + 1) ≤ x →
        byteOf t x = byteOf s x)

/-! ### Parameters and transactions -/

/-- PARAM_GET, PARAM_INFO and PARAM_SET (R645, R649 to R651, R653, R655): a known parameter answers its instance, an unknown one
UNKNOWN_PARAM; a direct set that finds its safe point and its rules applies with the next epoch; a locked parameter waits for
SERVICE; a set under a transaction is staged and changes no parameter. -/
def Obligations.ParameterCommands : Prop :=
  (∀ (r : Req) (id i1 i2 : Nat) (p : PInfo) (s : State), Accepted cmdParamGet r (leBytes 2 id ++ leBytes 1 i1 ++ leBytes 1 i2) s → id < 65536 →
      pInfo id = some p →
    ∃ pl, exec (.paramGet r id i1 i2) s = .next (answered 0x0300 r stOk pl (begun 0x0300 r s)) ∧
      pl.take 5 = leBytes 2 id ++ [byte i1, byte i2, byte p.typ.code]) ∧
  (∀ (r : Req) (id i1 i2 : Nat) (s : State), Accepted cmdParamGet r (leBytes 2 id ++ leBytes 1 i1 ++ leBytes 1 i2) s → id < 65536 →
      pInfo id = none → exec (.paramGet r id i1 i2) s = .next (answered 0x0300 r stUnknownParam [] (begun 0x0300 r s))) ∧
  (∀ (r : Req) (id : Nat) (s : State), Accepted cmdParamInfo r (leBytes 2 id) s → id < 65536 →
    (∀ p, pInfo id = some p → ∃ pl, exec (.paramInfo r id) s = .next (answered 0x0302 r stOk pl (begun 0x0302 r s)) ∧
      pl.take 4 = leBytes 2 p.id ++ [byte p.cls.code, byte p.typ.code]) ∧
    (pInfo id = none → exec (.paramInfo r id) s = .next (answered 0x0302 r stUnknownParam [] (begun 0x0302 r s)))) ∧
  (∀ (r : Req) (i : PInst) (bs : Bytes) (p : PInfo) (v : PVal) (s u : State), Accepted (cmdParamSet s) r (setPayload i bs) s → i.id < 65536 →
      i.i1 < 256 → i.i2 < 256 → bs.length < 256 → pInfo i.id = some p → pParse p bs = some v → readOnly i = false →
      (classOf i.id = .locked → s.core.mode = .service) → (tenant s r.tenant).txn = none → r.persist = false →
      protectLocked [{ inst := i, value := v }] s = false → u = takeOcc .commitAccepted (useTxn r.tenant (begun 0x0301 r s)) → conflictOf s.par.epoch [{ inst := i, value := v }] s = none →
      writeReady false u { inst := i, value := v } = true → crossFail [{ inst := i, value := v }] u = none →
    ∃ s1, exec (.paramSet r i.id i.i1 i.i2 bs) s = .next (answered 0x0301 r stOk ([1, 0, 0, 0] ++ leBytes 8 (s.par.epoch + 1)) s1) ∧
      s1.par.epoch = s.par.epoch + 1 ∧ pCommitted s1.par i = v) ∧
  (∀ (r : Req) (i : PInst) (bs : Bytes) (p : PInfo) (v : PVal) (s : State), Accepted (cmdParamSet s) r (setPayload i bs) s → i.id < 65536 →
      i.i1 < 256 → i.i2 < 256 → bs.length < 256 → pInfo i.id = some p → pParse p bs = some v → readOnly i = false → classOf i.id = .locked →
      s.core.mode ≠ .service →
    exec (.paramSet r i.id i.i1 i.i2 bs) s = .next (answered 0x0301 r stModeForbids [] (useTxn r.tenant (begun 0x0301 r s)))) ∧
  (∀ (r : Req) (i : PInst) (bs : Bytes) (p : PInfo) (v : PVal) (x : Txn) (s : State), Accepted (cmdParamSet s) r (setPayload i bs) s →
      i.id < 65536 → i.i1 < 256 → i.i2 < 256 → bs.length < 256 → pInfo i.id = some p → pParse p bs = some v → readOnly i = false →
      (classOf i.id = .locked → s.core.mode = .service) → (tenant s r.tenant).txn = some x → x.waiting = false → x.writes.length < 128 →
      stageUsed (stagePut { inst := i, value := v } x.writes) ≤ 4096 → protectLocked [{ inst := i, value := v }] s = false →
    ∃ s1 pl y, exec (.paramSet r i.id i.i1 i.i2 bs) s = .next (answered 0x0301 r stOk pl s1) ∧ (tenant s1 r.tenant).txn = some y ∧
      { inst := i, value := v } ∈ y.writes ∧ y.base = x.base ∧ s1.par = (begun 0x0301 r s).par)

/-- Transactions (R652 to R657, R659): TXN_BEGIN opens one at the present epoch, and is TXN_LIMIT for a second; a commit that finds its
safe points and rules applies every write with the next epoch and closes it; one that was overtaken is a CONFLICT, and one that
waits already is BUSY_RUNNING; a rollback and five idle minutes drop it; a claimed commit that waits applies when its safe point
comes. CONFIG_FACTORY (R665, R666): with no commit waiting and RESV at its threshold the image without the kept entries is written
and no committed value changes; while a commit waits it is BUSY. A ninth transaction is TXN_LIMIT (R652). -/
def Obligations.TransactionsAndFactory : Prop :=
  (∀ (r : Req) (s : State), Accepted cmdTxnBegin r [] s → (tenant s r.tenant).txn = none → openTxns s < 8 →
    ∃ s1 x, exec (.txnBegin r) s = .next (answered 0x0303 r stOk (leBytes 8 s.par.epoch) s1) ∧ (tenant s1 r.tenant).txn = some x ∧
      x.base = s.par.epoch ∧ x.writes = [] ∧ x.waiting = false) ∧
  (∀ (r : Req) (s : State), Accepted cmdTxnBegin r [] s → (tenant s r.tenant).txn ≠ none →
    exec (.txnBegin r) s = .next (answered 0x0303 r stTxnLimit [] (begun 0x0303 r s))) ∧
  (∀ (r : Req) (x : Txn) (s u : State), Accepted (cmdTxnCommit s) r [] s → (tenant s r.tenant).txn = some x → x.waiting = false → r.persist = false →
      (x.writes.map (fun w => w.inst)).Nodup → u = takeOcc .commitAccepted (useTxn r.tenant (begun 0x0304 r s)) →
      protectLocked x.writes s = false → conflictOf x.base x.writes s = none →
      (lockedWrite x.writes = none ∨ s.core.mode = .service) → x.writes.all (writeReady false u) = true → crossFail x.writes u = none →
    ∃ s1, exec (.txnCommit r) s = .next (answered 0x0304 r stOk (leBytes 8 (s.par.epoch + 1)) s1) ∧ s1.par.epoch = s.par.epoch + 1 ∧
      (tenant s1 r.tenant).txn = none ∧ ∀ w ∈ x.writes, pCommitted s1.par w.inst = w.value) ∧
  (∀ (r : Req) (x : Txn) (i : PInst) (s : State), Accepted (cmdTxnCommit s) r [] s → (tenant s r.tenant).txn = some x → x.waiting = false →
      conflictOf x.base x.writes s = some i →
    ∃ s1, exec (.txnCommit r) s = .next (answered 0x0304 r stConflict (instBytes i) s1) ∧ (tenant s1 r.tenant).txn = none ∧
      s1.par = (begun 0x0304 r s).par) ∧
  (∀ (r : Req) (x : Txn) (s : State), Accepted (cmdTxnCommit s) r [] s → (tenant s r.tenant).txn = some x → x.waiting = true →
    exec (.txnCommit r) s = .next (answered 0x0304 r stBusy [] (useTxn r.tenant (begun 0x0304 r s)))) ∧
  (∀ (r : Req) (s : State), Accepted (cmdTxnCommit s) r [] s → (tenant s r.tenant).txn = none →
    exec (.txnCommit r) s = .next (answered 0x0304 r stNoTxn [] (useTxn r.tenant (begun 0x0304 r s)))) ∧
  (∀ (r : Req) (x : Txn) (s : State), Accepted cmdTxnRollback r [] s → (tenant s r.tenant).txn = some x → x.waiting = false →
    ∃ s1, exec (.txnRollback r) s = .next (answered 0x0305 r stOk [] s1) ∧ (tenant s1 r.tenant).txn = none ∧
      s1.par = (begun 0x0305 r s).par) ∧
  (∀ (r : Req) (x : Txn) (s : State), Accepted cmdTxnStatus r [] s → (tenant s r.tenant).txn = some x →
    ∃ pl, exec (.txnStatus r) s = .next (answered 0x0306 r stOk pl (useTxn r.tenant (begun 0x0306 r s))) ∧ pl.length = 20 ∧
      pl.take 3 = [byte 1, byte (b2n x.waiting), byte x.writes.length]) ∧
  (∀ (n : Nat) (x : Txn) (s : State), Live s → fwWorks s = true → (tenant s n).txn = some x → x.waiting = false →
      s.clk.us < x.usedAt + 300000000 → ∃ t, exec (.txnIdleTimeout n) s = .next t ∧ t.tenants = s.tenants) ∧
  (∀ (n : Nat) (x : Txn) (s : State), Live s → fwWorks s = true → (tenant s n).txn = some x → x.waiting = false →
      x.usedAt + 300000000 ≤ s.clk.us →
    ∃ t, exec (.txnIdleTimeout n) s = .next t ∧ (tenant t n).txn = none ∧ t.par = s.par ∧ ∀ k, k ≠ n → tenant t k = tenant s k) ∧
  (∀ (f : Bool) (c : WaitCommit) (s : State), Live s → fwWorks s = true → s.par.waiting = [c] → c.overtaken = false → c.persist = false →
      (lockedWrite c.writes = none ∨ s.core.mode = .service) → c.writes.all (writeReady false s) = true → crossFail c.writes s = none →
      (c.writes.map (fun w => w.inst)).Nodup → protectLocked c.writes s = false →
    ∃ t, exec (.commitWaitCheck f) s = .next t ∧ t.par.waiting = [] ∧ t.par.epoch = s.par.epoch + 1 ∧
      ∀ w ∈ c.writes, pCommitted t.par w.inst = w.value) ∧
  (∀ (f : Bool) (c : WaitCommit) (s : State), Live s → fwWorks s = true → s.par.waiting = [c] → c.overtaken = false → lockedWrite c.writes = none →
      protectLocked c.writes s = false →
      c.writes.all (writeReady false s) = false → s.clk.us < c.deadline → ∃ t, exec (.commitWaitCheck f) s = .next t ∧ t.par.epoch = s.par.epoch ∧ ∀ i, pCommitted t.par i = pCommitted s.par i) ∧
  (∀ (r : Req) (o : Nat) (s : State), Accepted cmdConfigFactory r [byte o] s → o < 256 → s.par.waiting = [] → pv s 0x0D06 ≤ s.nv.resvMv →
      r.env.headD 0 = 0 →
    ∃ s1, exec (.configFactory r o) s = .next (answered 0x0307 r stOk [] s1) ∧ s1.par.base = factoryImage o s ∧ s1.par.epoch = s.par.epoch ∧
      s1.core = (begun 0x0307 r s).core ∧ ∀ i, pCommitted s1.par i = pCommitted s.par i) ∧
  (∀ (r : Req) (o : Nat) (s : State), Accepted cmdConfigFactory r [byte o] s → s.par.waiting ≠ [] →
    exec (.configFactory r o) s = .next (answered 0x0307 r stBusy [] (begun 0x0307 r s))) ∧
  (∀ (r : Req) (s : State), Accepted cmdTxnBegin r [] s → 8 ≤ openTxns s →
    exec (.txnBegin r) s = .next (answered 0x0303 r stTxnLimit [] (begun 0x0303 r s)))

/-! ### Sessions, tenants and status -/

/-- Sessions (R608 to R612, R684): SESSION_OPEN on the tenant's port opens without authentication, and binds the window where it is
free; a window bound by another is a CONFLICT; on another port it is DENIED; SESSION_CLOSE answers, and once its response is posted
returns credits, drops the nonce, the transaction and the gather, and releases the window. -/
def Obligations.SessionCommands : Prop :=
  (∀ (r : Req) (s : State), Accepted cmdSessionOpen r [byte 0] s → r.tenant < 64 → pn s 0x0201 r.tenant = r.port → sessionOf s r.tenant = none →
    ∃ s1 pl, exec (.sessionOpen r 0) s = .next (answered 0x0200 r stOk pl s1) ∧ (tenant s1 r.tenant).session = some r.port ∧
      (tenant s1 r.tenant).authed = false ∧ pl.length = 6 ∧ pl.take 1 = [byte (b2n (needsAuth s1 r.tenant))] ∧
      (∀ n, n ≠ r.tenant → tenant s1 n = tenant s n) ∧ s1.ports = s.ports) ∧
  (∀ (r : Req) (s : State), Accepted cmdSessionOpen r [byte 1] s → r.tenant < 64 → pn s 0x0201 r.tenant = r.port → sessionOf s r.tenant = none →
      hasCap s r.tenant capBanks = true → r.port = 0 ∨ r.port = 2 → (port s r.port).bound = none →
    ∃ s1 pl, exec (.sessionOpen r 1) s = .next (answered 0x0200 r stOk pl s1) ∧ (port s1 r.port).bound = some r.tenant ∧
      (tenant s1 r.tenant).session = some r.port) ∧
  (∀ (r : Req) (n : Nat) (s : State), Accepted cmdSessionOpen r [byte 1] s → pn s 0x0201 r.tenant = r.port → hasCap s r.tenant capBanks = true →
      r.port = 0 ∨ r.port = 2 → (port s r.port).bound = some n → n ≠ r.tenant →
    exec (.sessionOpen r 1) s = .next (answered 0x0200 r stConflict [] (begun 0x0200 r s))) ∧
  (∀ (r : Req) (o : Nat) (s : State), Accepted cmdSessionOpen r [byte o] s → pn s 0x0201 r.tenant ≠ r.port →
    exec (.sessionOpen r o) s = .next (answered 0x0200 r stDenied [] (begun 0x0200 r s))) ∧
  (∀ (r : Req) (s : State), Accepted cmdSessionClose r [] s → hasPlace s r.port = false →
    ∃ t, exec (.sessionClose r) s = .next t ∧ (tenant t r.tenant).session = (tenant s r.tenant).session) ∧
  (∀ (r : Req) (s : State), Accepted cmdSessionClose r [] s → hasPlace s r.port = true →
    ∃ t, exec (.sessionClose r) s = .next t ∧ (tenant t r.tenant).session = none ∧ (tenant t r.tenant).outstanding = 0 ∧
      (tenant t r.tenant).nonce = none ∧ (tenant t r.tenant).txn = none ∧ gatherOf t r.tenant = none ∧ (port t r.port).bound ≠ some r.tenant)

/-- Authentication and keys (R614 to R618): a challenge answers the nonce that it keeps and is DENIED under lockout; the right proof
authenticates; a wrong one is NOT_AUTH, spends the nonce and locks out at the third; no nonce is NOT_AUTH; a key is written to its
slot and nowhere else; nonce and lockout run out. -/
def Obligations.AuthenticationCommands : Prop :=
  (∀ (r : Req) (s : State), Accepted cmdAuthChallenge r [] s → lockedOut s r.tenant = false →
    ∃ s1, exec (.authChallenge r) s = .next (answered 0x0202 r stOk (nonceBytes s.free) s1) ∧
      (tenant s1 r.tenant).nonce = some (nonceBytes s.free) ∧ s1.free = s.free + 1) ∧
  (∀ (r : Req) (s : State), Accepted cmdAuthChallenge r [] s → lockedOut s r.tenant = true →
    exec (.authChallenge r) s = .next (answered 0x0202 r stDenied [] (begun 0x0202 r s))) ∧
  (∀ (r : Req) (proof nonce : Bytes) (s : State), Accepted cmdAuthProve r proof s → nonceOf s r.tenant = some nonce →
    ∃ s1, exec (.authProve r proof) s =
        .next (answered 0x0203 r (if proofOk s r.tenant r.port nonce proof then stOk else stNotAuth) [] s1) ∧
      (tenant s1 r.tenant).nonce = none ∧
      (proofOk s r.tenant r.port nonce proof = true → (tenant s1 r.tenant).authed = true ∧ (tenant s1 r.tenant).fails = 0) ∧
      (proofOk s r.tenant r.port nonce proof = false → (tenant s1 r.tenant).fails = (tenant s r.tenant).fails + 1 ∧
        (tenant s1 r.tenant).authed = (tenant s r.tenant).authed ∧ (2 ≤ (tenant s r.tenant).fails → (tenant s1 r.tenant).lockout = true ∧ (tenant s1 r.tenant).lockAt = s.clk.us))) ∧
  (∀ (r : Req) (proof : Bytes) (s : State), Accepted cmdAuthProve r proof s → nonceOf s r.tenant = none →
    exec (.authProve r proof) s = .next (answered 0x0203 r stNotAuth [] (begun 0x0203 r s))) ∧
  (∀ (n p : Nat) (nonce proof : Bytes) (s : State), readBytes s (keyAddr n) 32 = zeros 32 → proofOk s n p nonce proof = false) ∧
  (∀ (r : Req) (n : Nat) (key : Bytes) (s : State), MemOk s → Accepted cmdTenantWrite r (leBytes 1 n ++ zeros 3 ++ key) s → n < 63 →
      supplyOk s 32 = true → markerDue s = false →
    ∃ s1, exec (.tenantWrite r n key) s = .next (answered 0x0204 r stOk [] s1) ∧ readBytes s1 (keyAddr n) 32 = key ∧
      ∀ x, ¬ (keyAddr n ≤ x ∧ x < keyAddr n + 32) → byteOf s1 x = byteOf s x) ∧
  (∀ (n : Nat) (s : State), powered s = true →
    (∃ t, exec (.nonceExpiry n) s = .next t ∧ ((tenant s n).nonceAt + 10000000 ≤ s.clk.us → (tenant t n).nonce = none) ∧
      (s.clk.us < (tenant s n).nonceAt + 10000000 → (tenant t n).nonce = (tenant s n).nonce) ∧ ∀ k, k ≠ n → tenant t k = tenant s k) ∧
    ∃ t, exec (.authLockoutEnd n) s = .next t ∧ ((tenant s n).lockAt + 60000000 ≤ s.clk.us → (tenant t n).lockout = false) ∧
      (s.clk.us < (tenant s n).lockAt + 60000000 → (tenant t n).lockout = (tenant s n).lockout) ∧ ∀ k, k ≠ n → tenant t k = tenant s k)

/-- Status commands (R608, R623, R677 to R679, R682): IDENTIFY answers 48 bytes with the device ID first, STATUS 34 with the mode first,
CREDITS_READ the quota first; EVENTS delivers the oldest events and counts them once its response has a place. -/
def Obligations.StatusCommands : Prop :=
  (∀ (r : Req) (s : State), Accepted cmdIdentify r [] s →
    ∃ pl, exec (.identify r) s = .next (answered 0x0100 r stOk pl (begun 0x0100 r s)) ∧ pl.length = 48 ∧ pl.take 4 = leBytes 4 0x09600C10) ∧
  (∀ (r : Req) (s : State), Accepted cmdStatus r [] s →
    ∃ pl k, exec (.status r) s = .next (answered 0x0101 r stOk pl { begun 0x0101 r s with free := k }) ∧ pl.length = 34 ∧
      pl.take 1 = [byte s.core.mode.code]) ∧
  (∀ (r : Req) (s : State), Accepted cmdCreditsRead r [] s →
    ∃ pl, exec (.creditsRead r) s = .next (answered 0x0205 r stOk pl (begun 0x0205 r s)) ∧ pl.length = 4 ∧
      pl.take 3 = [byte (quota s r.tenant), byte (quota s r.tenant - ((tenant s r.tenant).outstanding + 1)),
        byte ((tenant s r.tenant).outstanding + 1)]) ∧
  (∀ (r : Req) (n : Nat) (s : State), Accepted cmdEvents r [byte n] s → n < 256 → hasPlace s r.port = false →
    ∃ t, exec (.events r n) s = .next t ∧ (tenant t r.tenant).queue = (tenant s r.tenant).queue) ∧
  (∀ (r : Req) (n : Nat) (s : State), Accepted cmdEvents r [byte n] s → n < 256 → r.tenant < 64 → hasPlace s r.port = true →
    ∃ t pl, exec (.events r n) s = .next t ∧
      t = onTenant r.tenant (deliverEvents (min n (tenant s r.tenant).queue.length)) (answered 0x0106 r stOk pl (begun 0x0106 r s)) ∧
      (tenant t r.tenant).queue = (tenant s r.tenant).queue.drop n ∧
      (tenant t r.tenant).delivered = (tenant s r.tenant).delivered + min n (tenant s r.tenant).queue.length ∧
      pl.length = 4 + 12 * min n (tenant s r.tenant).queue.length)

/-! ### Ports and buses -/

/-- Responses and credits (R605 to R607): an answer to a command joins the port's queue of 32 and returns its credit; with the queue
full, or earlier ones waiting, it waits with its credit until a place is free, and a SESSION_CLOSE that waits so closes its session
then; presented into an empty queue it sets IRQ_STATUS.RSP; RSP_DONE releases the response presented. -/
def Obligations.ResponsesQueueAndCredit : Prop :=
  (∀ (code st : Nat) (r : Req) (pl : Bytes) (s : State), r.port < 4 → hasPlace s r.port = true →
    ∃ f, (port (answered code r st pl s) r.port).rspQ = (port s r.port).rspQ ++ [f] ∧ f.tenant = r.tenant ∧ f.seq = r.seq ∧ f.status = st ∧
      f.frame.length = 10 + pl.length ∧
      (sessionExempt code = false → (tenant (answered code r st pl s) r.tenant).outstanding = (tenant s r.tenant).outstanding - 1) ∧
      ((port s r.port).rspQ = [] → (port (answered code r st pl s) r.port).irqStatus.getLsbD 0 = true) ∧
      (∀ q, q ≠ r.port → port (answered code r st pl s) q = port s q) ∧
      ∀ n, n ≠ r.tenant → tenant (answered code r st pl s) n = tenant s n) ∧
  (∀ (code st : Nat) (r : Req) (pl : Bytes) (s : State), r.port < 4 → hasPlace s r.port = false →
    ∃ w, (port (answered code r st pl s) r.port).rspWait = (port s r.port).rspWait ++ [w] ∧ w.credit = !sessionExempt code ∧
      (port (answered code r st pl s) r.port).rspQ = (port s r.port).rspQ ∧ (answered code r st pl s).tenants = s.tenants) ∧
  (∀ (p : Nat) (f : RspFrame) (fs : List RspFrame) (s : State), BusUp p s → p < 4 → (port s p).rspQ = f :: fs →
    ∃ t, exec (.rspDone p) s = .next t ∧ (port t p).rspQ = fs ∧ (fs ≠ [] → (port t p).irqStatus.getLsbD 0 = true) ∧ t.tenants = s.tenants ∧
      ∀ q, q ≠ p → port t q = port s q) ∧
  (∀ (p : Nat) (w : WaitRsp) (ws : List WaitRsp) (s : State), Clocked s → p < 4 → (port s p).rspWait = w :: ws → (port s p).rspQ.length < 32 →
      w.closes = false →
    ∃ t, exec (.responsePosted p) s = .next t ∧ (port t p).rspQ = (port s p).rspQ ++ [stampLate s w] ∧ (port t p).rspWait = ws ∧
      (w.credit = true → (tenant t w.rsp.tenant).outstanding = (tenant s w.rsp.tenant).outstanding - 1)) ∧
  (∀ (p : Nat) (w : WaitRsp) (ws : List WaitRsp) (s : State), Clocked s → p < 4 → (port s p).rspWait = w :: ws → (port s p).rspQ.length < 32 →
      w.closes = true → ∃ t, exec (.responsePosted p) s = .next t ∧ (tenant t w.rsp.tenant).session = none)

/-- How a request is accepted (Tables HST.10 and CMD.1, R598, R607, R669, R670): a port that does not serve sets REQ_REJECT; then
session, authentication and credit are checked, and no credit is taken; then the command takes one credit, and capability, length,
range, NV and mode are checked in this order. -/
def Obligations.RequestsCheckedInOrder : Prop :=
  ∀ (d : CmdDef) (r : Req) (pl : Bytes) (s : State), BusUp r.port s →
    (serves s r.port = false → serve d r pl s = setIrq r.port irqReject s) ∧
    (serves s r.port = true →
      (∀ st, acceptCheck d.code r (wdKick s) = some st →
        serve d r pl s = respond r.port r.tenant r.seq st [] none false (dropPart d.code r.tenant (wdKick s))) ∧
      (∀ st, acceptCheck d.code r (wdKick s) = none → commandCheck d r pl (begun d.code r s) = some st →
        serve d r pl s = answered d.code r st [] (dropPart d.code r.tenant (begun d.code r s)))) ∧
    (sessionExempt d.code = false →
      ((tenant s r.tenant).session ≠ some r.port → acceptCheck d.code r s = some stNoSession) ∧
      ((tenant s r.tenant).session = some r.port → (authExempt d.code = false ∧ (tenant s r.tenant).authReq = true ∧ (tenant s r.tenant).authed = false →
        acceptCheck d.code r s = some stNotAuth) ∧
      ((authExempt d.code = true ∨ (tenant s r.tenant).authReq = false ∨ (tenant s r.tenant).authed = true) →
        acceptCheck d.code r s = if quota s r.tenant ≤ (tenant s r.tenant).outstanding then some stNoCredit else none))) ∧
    (s.core.run ≠ .halted →
      ((d.caps.all (hasCap s r.tenant) && d.allow r pl) = false → commandCheck d r pl s = some stDenied) ∧
      ((d.caps.all (hasCap s r.tenant) && d.allow r pl) = true → d.len pl = false → commandCheck d r pl s = some stBadLength) ∧
      ((d.caps.all (hasCap s r.tenant) && d.allow r pl) = true → d.len pl = true → d.range pl = false → commandCheck d r pl s = some stRange) ∧
      ((d.caps.all (hasCap s r.tenant) && d.allow r pl) = true → d.len pl = true → d.range pl = true →
        (d.nv = true ∧ s.core.nvReady = false → commandCheck d r pl s = some stNvNotReady) ∧
        (d.nv = false ∨ s.core.nvReady = true →
          commandCheck d r pl s = if d.modes pl s.core.mode then none else some stModeForbids)))

/-- SUBMIT and the UART mailbox (R598, R602 to R604): a frame whose length, header check or CRC is wrong is answered with its status and
changes nothing else; a good frame of a command that a tenant may give has that command's effect and is answered; a port that does
not serve sets REQ_REJECT; a UART frame with a wrong CRC, and a mailbox frame of a wrong length, is discarded and counted, and a
good one is a SUBMIT; what is stuffed reads back. -/
def Obligations.SubmissionTakesFrames : Prop :=
  (∀ (p st : Nat) (env : List Int) (f : Bytes) (s : State), BusUp p s → p < 4 → serves s p = true → (port s p).reqBusy = false →
      f = bytesAt (port s p).reqBuf 0 (port s p).reqLen → frameCheck f = some st →
    exec (.submit p env) s = .next (respond p (byteAt f 0) (byteAt f 1) st [] none false s)) ∧
  (∀ (f : Bytes),
    (f.length < 10 ∨ 256 < f.length ∨ f.length ≠ 10 + fieldAt f 4 2 → frameCheck f = some stBadLength) ∧
    (10 ≤ f.length → f.length ≤ 256 → f.length = 10 + fieldAt f 4 2 → headerCheck f ≠ byteAt f 7 → frameCheck f = some stBadHeader) ∧
    (10 ≤ f.length → f.length ≤ 256 → f.length = 10 + fieldAt f 4 2 → headerCheck f = byteAt f 7 → byteAt f 0 < 64 → byteAt f 6 < 8 →
      frameCheck f = if crc16 (f.take (f.length - 2)) = fieldAt f (f.length - 2) 2 then none else some stBadCrc)) ∧
  (∀ (r : Req) (f : Bytes) (s : State), BusUp r.port s → r.port < 4 → serves s r.port = true → (port s r.port).reqBusy = false →
      f = bytesAt (port s r.port).reqBuf 0 (port s r.port).reqLen → frameCheck f = none → r = reqOf r.port f r.env → f.length = 10 →
    (fieldAt f 2 2 = 0x0100 → exec (.submit r.port r.env) s = exec (.identify r) s) ∧
    (fieldAt f 2 2 = 0x0205 → exec (.submit r.port r.env) s = exec (.creditsRead r) s) ∧
    (fieldAt f 2 2 = 0x0D03 → exec (.submit r.port r.env) s = exec (.nvCommit r) s)) ∧
  (∀ (r : Req) (f pl out : Bytes) (d : CmdDef) (st : Nat) (s s1 : State), BusUp r.port s → r.port < 4 → serves s r.port = true →
      (port s r.port).reqBusy = false → f = bytesAt (port s r.port).reqBuf 0 (port s r.port).reqLen → frameCheck f = none →
      r = reqOf r.port f r.env → pl = (f.drop 8).take (f.length - 10) → commandOf (fieldAt f 2 2) pl s = some d → Accepted d r pl s →
      d.body r pl (begun d.code r s) = .done st out s1 →
    exec (.submit r.port r.env) s = .next (answered d.code r st out s1)) ∧
  (∀ (r : Req) (f : Bytes) (s : State), BusUp r.port s → r.port < 4 → serves s r.port = true → (port s r.port).reqBusy = false →
      f = bytesAt (port s r.port).reqBuf 0 (port s r.port).reqLen → frameCheck f = none → r = reqOf r.port f r.env → f.length = 10 →
      fieldAt f 2 2 = 0x0100 → Accepted cmdIdentify r [] s →
    ∃ pl, exec (.submit r.port r.env) s = .next (answered 0x0100 r stOk pl (begun 0x0100 r s)) ∧ pl.length = 48 ∧
      pl.take 4 = leBytes 4 0x09600C10) ∧
  (∀ (p : Nat) (env : List Int) (s : State), BusUp p s → serves s p = false → exec (.submit p env) s = .next (setIrq p irqReject s)) ∧
  (∀ (line f : Bytes) (env : List Int) (s : State), BusUp 3 s → OnLine line (byte 1 :: f) → f.length < 10 ∨ 256 < f.length →
    exec (.uartMailbox line env) s = .next { s with uart := { s.uart with discarded := s.uart.discarded + 1 } }) ∧
  (∀ (line f : Bytes) (env : List Int) (s : State), BusUp 3 s → serves s 3 = true → OnLine line (byte 1 :: f) → 10 ≤ f.length → f.length ≤ 256 →
    exec (.uartMailbox line env) s =
      exec (.submit 3 env) (onPort 3 (fun q => { q with reqBuf := f ++ q.reqBuf.drop f.length, reqLen := f.length }) s)) ∧
  (∀ (r : Req) (line f pl out : Bytes) (d : CmdDef) (st : Nat) (s u s1 : State), BusUp 3 s → serves s 3 = true → (port s 3).reqBusy = false →
      OnLine line (byte 1 :: f) → u = onPort 3 (fun q => { q with reqBuf := f ++ q.reqBuf.drop f.length, reqLen := f.length }) s →
      frameCheck f = none → r = reqOf 3 f r.env → pl = (f.drop 8).take (f.length - 10) → commandOf (fieldAt f 2 2) pl u = some d →
      Accepted d r pl u → d.body r pl (begun d.code r u) = .done st out s1 →
    exec (.uartMailbox line r.env) s = .next (answered d.code r st out s1)) ∧
  (∀ (r : Req) (line f : Bytes) (s u : State), BusUp 3 s → serves s 3 = true → (port s 3).reqBusy = false → OnLine line (byte 1 :: f) →
      u = onPort 3 (fun q => { q with reqBuf := f ++ q.reqBuf.drop f.length, reqLen := f.length }) s → frameCheck f = none →
      r = reqOf 3 f r.env → f.length = 10 → fieldAt f 2 2 = 0x0100 → Accepted cmdIdentify r [] u →
    ∃ pl, exec (.uartMailbox line r.env) s = .next (answered 0x0100 r stOk pl (begun 0x0100 r u)) ∧ pl.length = 48 ∧
      pl.take 4 = leBytes 4 0x09600C10) ∧
  (∀ (line f : Bytes) (env : List Int) (s : State), BusUp 3 s → serves s 3 = false → OnLine line (byte 1 :: f) → 10 ≤ f.length → f.length ≤ 256 →
    exec (.uartMailbox line env) s = .next (setIrq 3 irqReject s)) ∧
  (∀ (line g : Bytes) (env : List Int) (s : State), BusUp 3 s → unstuff line = some g → 2 < g.length →
      crc16 (g.take (g.length - 2)) ≠ fieldAt g (g.length - 2) 2 →
    exec (.uartMailbox line env) s = .next { s with uart := { s.uart with discarded := s.uart.discarded + 1 } }) ∧
  ∀ bs : Bytes, unstuff (stuff bs) = some bs

/-- Registers of a port (R16, R45, R580 to R582, R589, R597, R624, R630, Tables HST.6 to HST.8): ones written to IRQ_STATUS clear it;
WIN_STATUS is cleared by its read; a whole write over any port's bus sets SCRATCH, IRQ_MASK, WIN_BANK and the ATOP registers, and an
SMBus write whose PEC is wrong is NACKed and writes nothing; an event is popped for its tenant's session; a port reset closes the
port's sessions and brings its registers back, and its end sets READY while firmware runs. -/
def Obligations.RegistersServeAndReset : Prop :=
  (∀ (p : Nat) (m : BitVec 32) (s : State), BusUp p s →
    exec (.irqStatusClear p m) s = .next (onPort p (fun q => { q with irqStatus := q.irqStatus &&& ~~~m }) s)) ∧
  (∀ (p : Nat) (s : State), BusUp p s → p < 4 → serves s p = true →
    ∃ t, exec (.winStatusRead p) s = .next t ∧ leNat ((port t p).busOut.take 4) = winStatus (port s p) % 2 ^ 32 ∧ (port t p).winDenied = false ∧
      (port t p).winParity = false ∧ (port t p).winRetired = false ∧ (port t p).winUnbound = false ∧ (port t p).winCount = 0 ∧
      (port t p).irqStatus = (port s p).irqStatus ∧ ∀ q, q ≠ p → port t q = port s q) ∧
  (∀ (p v : Nat) (env : List Int) (s : State), BusUp p s → p < 4 → v < 2 ^ 32 → serves s p = true →
    (∃ t, exec (.registerWrite p (busWrite s p 0x058 (leBytes 4 v)) 0 env) s = .next t ∧ PortOnly p s t ∧
      port t p = { port s p with scratch := BitVec.ofNat 32 v, nacked := (port t p).nacked, busOut := (port t p).busOut }) ∧
    (∃ t, exec (.registerWrite p (busWrite s p 0x034 (leBytes 4 v)) 0 env) s = .next t ∧ PortOnly p s t ∧
      port t p = { port s p with irqMask := BitVec.ofNat 32 v, irqNew := (port s p).irqNew ||| ((port s p).irqStatus &&& BitVec.ofNat 32 v &&& ~~~(port s p).irqMask),
                                  nacked := (port t p).nacked, busOut := (port t p).busOut }) ∧
    (∃ t, exec (.registerWrite p (busWrite s p 0x048 (leBytes 4 v)) 0 env) s = .next t ∧ PortOnly p s t ∧
      port t p = { port s p with atopAddr := BitVec.ofNat 32 v, nacked := (port t p).nacked, busOut := (port t p).busOut }) ∧
    (∃ t, exec (.registerWrite p (busWrite s p 0x04C (leBytes 4 v)) 0 env) s = .next t ∧ PortOnly p s t ∧
      port t p = { port s p with atopOpnd := BitVec.ofNat 32 v, nacked := (port t p).nacked, busOut := (port t p).busOut }) ∧
    (v < 64 → ∃ t, exec (.registerWrite p (busWrite s p 0x040 (leBytes 4 v)) 0 env) s = .next t ∧ PortOnly p s t ∧
      port t p = { port s p with winBank := v, nacked := (port t p).nacked, busOut := (port t p).busOut })) ∧
  (∀ (off : Nat) (data : Bytes) (c : Byte) (env : List Int) (s : State), BusUp 1 s → pn s 0x020A = 1 → data ≠ [] → data.length < 256 →
      c ≠ smbusPec s (leBytes 2 off ++ leBytes 1 data.length ++ data) →
    exec (.registerWrite 1 (leBytes 2 off ++ leBytes 1 data.length ++ data ++ [c]) 0 env) s =
      .next (onPort 1 (fun q => { q with nacked := true, busOut := [] }) s)) ∧
  (∀ (p n : Nat) (e : Event) (es : List Event) (s : State), BusUp p s → p < 4 → (port s p).ready = true → sessionOf s n = some p →
      (tenant s n).queue = e :: es →
    ∃ t, exec (.evtPop p n true) s = .next t ∧ (port t p).evtData = eventBytes e ∧ (tenant t n).queue = es ∧
      (tenant t n).delivered = (tenant s n).delivered + 1) ∧
  (∀ (p n : Nat) (s : State), BusUp p s → p < 4 → (port s p).ready = true → (sessionOf s n ≠ some p ∨ (tenant s n).queue = []) →
    ∃ t, exec (.evtPop p n true) s = .next t ∧ (port t p).evtData = zeros 12 ∧ t.tenants = s.tenants) ∧
  (∀ (p : Nat) (s : State), BusUp p s → p < 4 → ∃ t, exec (.portReset p) s = .next t ∧ port t p = { Port.atReset with inReset := true } ∧
      (∀ n, sessionOf s n = some p → sessionOf t n = none) ∧ ∀ n, sessionOf s n ≠ some p → sessionOf t n = sessionOf s n) ∧
  (∀ (p : Nat) (s : State), powered s = true → p < 4 → (port s p).inReset = true →
    ∃ t, exec (.portResetEnd p) s = .next t ∧ (port t p).inReset = false ∧ ((port t p).ready = ((port s p).ready || fwRuns s)) ∧
      t.tenants = s.tenants)

/-- I3C (R583 to R587): ENTDAA, SETDASA, SETNEWDA and RSTDAA set and clear the dynamic address; ENEC, DISEC and the maximum lengths set
their registers; the directed reads leave their bytes where the port has an address; an in-band interrupt is wanted once an enabled
status bit has become 1 since the last one that was acknowledged: it carries the status that is enabled, and stays pending until it
is acknowledged. The byte order of a read and what GETSTATUS holds are the model's choice (assumptions 58, 59). -/
def Obligations.I3cBusCommands : Prop :=
  (∀ (a : Nat) (s : State), I3cUp s → s.i3c.dynAddr = none →
    exec (.entdaa a) s = .next { s with i3c := { s.i3c with dynAddr := some (a % 128) } } ∧
    exec (.setnewda a) s = .next s ∧
    (pn s 0x0208 ≠ 0 → exec (.setdasa a) s = .next { s with i3c := { s.i3c with dynAddr := some (a % 128) } }) ∧
    (pn s 0x0208 = 0 → exec (.setdasa a) s = .next s)) ∧
  (∀ (a : Nat) (s : State), I3cUp s → s.i3c.dynAddr ≠ none →
    exec (.setnewda a) s = .next { s with i3c := { s.i3c with dynAddr := some (a % 128) } } ∧ exec (.entdaa a) s = .next s) ∧
  (∀ s : State, I3cUp s → exec .rstdaa s = .next { s with i3c := { s.i3c with dynAddr := none } }) ∧
  (∀ (e n : Nat) (s : State), I3cUp s → e < 256 → n ≤ 256 →
    exec (.enec e) s = .next { s with i3c := { s.i3c with events := s.i3c.events ||| e } } ∧
    (∃ t, exec (.disec e) s = .next t ∧ t = { s with i3c := { s.i3c with events := t.i3c.events } } ∧
      ∀ k < 8, bit t.i3c.events k = (bit s.i3c.events k && !bit e k)) ∧
    exec (.setmwl n) s = .next { s with i3c := { s.i3c with mwl := n } } ∧ exec (.setmrl n) s = .next { s with i3c := { s.i3c with mrl := n } }) ∧
  (∀ s : State, I3cUp s → s.i3c.dynAddr ≠ none →
    exec .getpid s = .next (onPort 0 (fun q => { q with busOut := [0x05, 0x4C, 0x09, 0x60, 0x00, 0x0C] }) s) ∧
    exec .getbcr s = .next (onPort 0 (fun q => { q with busOut := [0x06] }) s) ∧
    exec .getdcr s = .next (onPort 0 (fun q => { q with busOut := [0x00] }) s) ∧
    (∃ t, exec .getmwl s = .next t ∧ (port t 0).busOut = beBytes 2 s.i3c.mwl ∧ t.i3c = s.i3c) ∧
    (∃ t, exec .getmrl s = .next t ∧ (port t 0).busOut = beBytes 2 s.i3c.mrl ∧ t.i3c = s.i3c) ∧
    (∃ t, exec .getstatus s = .next t ∧ (port t 0).busOut.length = 2 ∧ t.i3c = s.i3c)) ∧
  (∀ (ack : Bool) (s : State), I3cUp s → s.i3c.dynAddr ≠ none → bit (pn s 0x020E 0) 2 = true → bit s.i3c.events 0 = true →
    exec (.ibiRequest ack) s = .next (if irqOn s 0 &&& (port s 0).irqNew = 0 then { s with i3c := { s.i3c with ibiPending := false } } else
      onPort 0 (fun q => { q with irqNew := if ack then 0 else q.irqNew })
        { s with i3c := { s.i3c with ibiPending := !ack, ibiByte := (irqOn s 0).toNat % 256 } }))

/-- SPI, UART and SMBus (R589 to R595, Table HST.5): SPI_STATUS leaves PORT_STATUS's low byte; the alert response is the port's address
while the alert is low, and nothing while it is high, and the alert stays low after the answer while its condition holds; an
abandoned transfer changes nothing; register frames answer or write their bytes, or are discarded and counted by length; a UART
frame that is sent releases the response, or delivers the next event. -/
def Obligations.SerialBusCommands : Prop :=
  (∀ s : State, BusUp 2 s → exec .spiStatus s = .next (onPort 2 (fun q => { q with busOut := [byte (portStatus s 2)] }) s)) ∧
  (∀ s : State, BusUp 1 s → alertPin s = true →
    exec .smbusAlertResponse s = .next (onPort 1 (fun q => { q with busOut := [byte (2 * pn s 0x0209)] }) s)) ∧
  (∀ s : State, BusUp 1 s → alertPin s = false → exec .smbusAlertResponse s = .next (onPort 1 (fun q => { q with busOut := [] }) s)) ∧
  (∀ s : State, exec .smbusClockLowTimeout s = .next s) ∧
  (∀ (line : Bytes) (off n : Nat) (s : State), BusUp 3 s → OnLine line (byte 3 :: (leBytes 2 off ++ leBytes 1 n)) → 0 < n → n ≤ 64 →
    ∃ t, exec (.uartRegRead line) s = .next t ∧ (port t 3).busOut.length = n ∧
      t.uart.lastSent = uartLine (byte 3 :: (leBytes 2 off ++ leBytes 1 n ++ (port t 3).busOut)) ∧ t.uart.discarded = s.uart.discarded ∧
      (off = 0x004 → n = 4 → (port t 3).busOut = leBytes 4 0x09600C10)) ∧
  (∀ (line : Bytes) (off n : Nat) (s : State), BusUp 3 s → OnLine line (byte 3 :: (leBytes 2 off ++ leBytes 1 n)) → n < 256 → n = 0 ∨ 64 < n →
    exec (.uartRegRead line) s = .next { s with uart := { s.uart with discarded := s.uart.discarded + 1 } }) ∧
  (∀ (line : Bytes) (off : Nat) (data : Bytes) (env : List Int) (s : State), BusUp 3 s → OnLine line (byte 4 :: (leBytes 2 off ++ data)) →
      data = [] ∨ 64 < data.length →
    exec (.uartRegWrite line env) s = .next { s with uart := { s.uart with discarded := s.uart.discarded + 1 } }) ∧
  (∀ (line : Bytes) (off : Nat) (data : Bytes) (env : List Int) (s : State), BusUp 3 s → OnLine line (byte 4 :: (leBytes 2 off ++ data)) →
      data ≠ [] → data.length ≤ 64 → off < 65536 →
    exec (.uartRegWrite line env) s = .next (putTransfer 3 env off data s)) ∧
  (∀ (f : RspFrame) (fs : List RspFrame) (s : State), BusUp 3 s → (port s 3).rspQ = f :: fs →
    ∃ t, exec .uartFrameSent s = .next t ∧ t.uart.lastSent = uartLine (byte 1 :: f.frame) ∧ (port t 3).rspQ = fs ∧ t.tenants = s.tenants) ∧
  (∀ (n : Nat) (e : Event) (es : List Event) (s : State), BusUp 3 s → (port s 3).rspQ = [] → eventTenant s 3 = some n → (tenant s n).queue = e :: es →
    ∃ t, exec .uartFrameSent s = .next t ∧ t.uart.lastSent = uartLine (byte 2 :: byte n :: eventBytes e) ∧ (tenant t n).queue = es) ∧
  (∀ s : State, BusUp 1 s → s.core.ready = true → (port s 1).inReset = false → bit (pn s 0x020E 1) 3 = true → irqOn s 1 ≠ 0 →
    ∃ t, exec .smbusAlertResponse s = .next t ∧ alertPin s = true ∧ alertPin t = true ∧ (port t 1).busOut = [byte (2 * pn s 0x0209)])

/-- Boundary scan (R79 to R83, R85, R86): a scan of the instruction register captures 0b0001 and loads the code; the port's reset loads
IDCODE from every controller state; under SAMPLE, and under EXTEST with TEST_EN high outside RUN, a scan captures the balls and
loads the cells; elsewhere it changes no cell and IDCODE or the bypass register is what comes out; TEST_EN is followed with or
without power; under EXTEST Pnn_EN takes its cells' level, and low where a fault response deasserted it, and an open-drain output
only pulls low or releases. -/
def Obligations.BoundaryScanCommands : Prop :=
  (∀ (b : Bool) (s : State), exec (.testEnChange b) s = .next { s with tap := { s.tap with testEn := b } }) ∧
  (∀ s : State, powered s = true →
    exec .tapReset s = .next { s with tap := { s.tap with ir := 1, ctl := .testLogicReset } } ∧
    (s.tap.ctl = .testLogicReset ∨ s.tap.ctl = .runTestIdle →
      exec .extest s = .next { s with tap := { s.tap with ir := 0, tdo := 1, ctl := .runTestIdle } } ∧
      exec .idcode s = .next { s with tap := { s.tap with ir := 1, tdo := 1, ctl := .runTestIdle } } ∧
      exec .samplePreload s = .next { s with tap := { s.tap with ir := 2, tdo := 1, ctl := .runTestIdle } } ∧
      exec .clamp s = .next { s with tap := { s.tap with ir := 3, tdo := 1, ctl := .runTestIdle } } ∧
      exec .highz s = .next { s with tap := { s.tap with ir := 4, tdo := 1, ctl := .runTestIdle } } ∧
      exec .bypass s = .next { s with tap := { s.tap with ir := 15, tdo := 1, ctl := .runTestIdle } })) ∧
  (∀ (a b : Nat) (s : State), powered s = true → s.tap.ctl = .testLogicReset ∨ s.tap.ctl = .runTestIdle →
      s.tap.ir = 2 ∨ (s.tap.ir = 0 ∧ s.tap.testEn = true ∧ s.core.mode ≠ .run) →
    exec (.captureDrScan a b) s = .next { s with tap := { s.tap with tdo := BitVec.ofNat 259 (captureCells s a), cells := BitVec.ofNat 259 b, ctl := .runTestIdle } }) ∧
  (∀ (a b : Nat) (s : State), powered s = true → s.tap.ir = 1 →
    ∃ t, exec (.captureDrScan a b) s = .next t ∧ t.tap.tdo.toNat % 2 ^ 32 = 0x20960A9B ∧ t.tap.cells = s.tap.cells) ∧
  (∀ (a b : Nat) (s : State), powered s = true →
      5 ≤ s.tap.ir.toNat ∨ s.tap.ir = 3 ∨ s.tap.ir = 4 ∨ (s.tap.ir = 0 ∧ (s.tap.testEn = false ∨ s.core.mode = .run)) →
    ∃ t, exec (.captureDrScan a b) s = .next t ∧ t.tap.tdo.toNat = 2 * b % 2 ^ 259 ∧ t.tap.cells = s.tap.cells) ∧
  (∀ (r : Nat) (s : State), powered s = true → r < 24 → s.tap.ir = 0 → s.tap.testEn = true → s.core.mode ≠ .run →
    enBall s r = (if cell s (cellEn r - 2) then
        (if (rail s r).scanOff = true ∨ cell s (cellEn r - 1) = false then .low else if pn s 0x0405 r = 1 then .released else .high)
      else if pn s 0x0405 r = 1 then .released else .heldLow)) ∧
  (∀ s : State, powered s = true → s.tap.ir = 0 → s.tap.testEn = true → s.core.mode ≠ .run →
    ballNow s .faultn = if cell s (topCell .faultn - 1) && !cell s (topCell .faultn) then .low else .released)

/-! ### Background work, events and frames -/

/-- Fumarole (R720 to R727, R747): a task whose time has come is due, and counts an overrun where it was due or running already; a step
of the lowest due task counts its run, its duration and its share of the window, and one that holds the core for sys.watchdog_ms
ends in WATCHDOG; a window's end gives the budget back; TELEMETRY takes a snapshot of 48 bytes under the next sequence number where
its step may be taken, and takes none elsewhere; BACKGROUND reports 20 bytes and makes a task due; TELEMETRY_READ answers the
snapshot. Ledgers (R716, R729, R732): LEDGER_READ answers 36 bytes with its ledger and index first and the four terms of the credit
ledger as R607 counts them. -/
def Obligations.BackgroundAndLedgers : Prop :=
  (∀ (us i : Nat) (corrected bad weak : List Nat) (parityBad : Bool) (rivals : List (Nat × Bool)) (s u : State), Clocked s → u = dispatch s →
      fumaroleOn s = true → (List.range 6).find? (startable u) = some i → i < 5 → us < 1000 * s.core.wdMs →
    ∃ t, exec (.fumaroleStep us corrected bad weak parityBad rivals) s = .next t ∧ (task t i).runs = (task u i).runs + 1 ∧ (task t i).last = (task u i).current + us ∧
      (task t i).due = false ∧ (task t i).running = false ∧ (task t i).current = 0 ∧
      t.bg.windowUsed = u.bg.windowUsed + (if 1 ≤ i ∧ i ≤ 4 then us else 0)) ∧
  (∀ (us i : Nat) (corrected bad weak : List Nat) (parityBad : Bool) (rivals : List (Nat × Bool)) (s u : State), Clocked s → u = dispatch s →
      fumaroleOn s = true → (List.range 6).find? (startable u) = some i → 1000 * s.core.wdMs ≤ us →
    ∃ t, exec (.fumaroleStep us corrected bad weak parityBad rivals) s = .next t ∧ Latched 0x22 t ∧ t.bg.coulomb = s.bg.coulomb) ∧
  (∀ s : State, Live s →
    (s.clk.us / 100000 ≠ s.bg.windowAt → ∃ t, exec .backgroundWindow s = .next t ∧
      t.bg = { s.bg with windowUsed := 0, windowAt := s.clk.us / 100000 } ∧ t.mem = s.mem) ∧
    (s.clk.us / 100000 = s.bg.windowAt → exec .backgroundWindow s = .next s)) ∧
  (∀ (rivals : List (Nat × Bool)) (s u : State), Clocked s → u = dispatch s → fumaroleOn s = true → mayStep u 1 = true →
    ∃ t, exec (.telemetry rivals) s = .next t ∧ t.bg.telemetry.length = 48 ∧ t.bg.telemetrySeq = (s.bg.telemetrySeq + 1) % 2 ^ 32 ∧
      (task t 1).runs = (task u 1).runs + 1) ∧
  (∀ (rivals : List (Nat × Bool)) (s u : State), Clocked s → u = dispatch s → fumaroleOn s = true → mayStep u 1 = false →
    exec (.telemetry rivals) s = .next u ∧ u.bg.telemetry = s.bg.telemetry ∧ u.mem = s.mem) ∧
  (∀ (i : Nat) (s : State), i < 6 → taskEnabled s i = true → 0 < fallCount s i →
    (task (fallDue i s) i).due = true ∧ (task (fallDue i s) i).overruns =
      min 65535 ((task s i).overruns + (if (task s i).due || (task s i).running then fallCount s i else fallCount s i - 1))) ∧
  (∀ (r : Req) (i : Nat) (s u : State), Accepted (cmdBackground [byte 0, byte i]) r [byte 0, byte i] s → i < 256 →
      u = (if fumaroleOn (begun 0x0F01 r s) then dispatch (begun 0x0F01 r s) else begun 0x0F01 r s) →
    ∃ pl, exec (.background r 0 i) s = .next (answered 0x0F01 r stOk pl u) ∧ pl.length = 20 ∧ pl.take 1 = [byte i]) ∧
  (∀ (r : Req) (i : Nat) (s u : State), Accepted (cmdBackground [byte 1, byte i]) r [byte 1, byte i] s → i < 6 →
      u = (if fumaroleOn (begun 0x0F01 r s) then dispatch (begun 0x0F01 r s) else begun 0x0F01 r s) → taskEnabled u i = true →
      (task s i).running = false →
    ∃ s1 pl, exec (.background r 1 i) s = .next (answered 0x0F01 r stOk pl s1) ∧ pl.length = 20 ∧ (task s1 i).due = true ∧
      (task s1 i).runs = (task s i).runs) ∧
  (∀ (r : Req) (s : State), Accepted cmdTelemetryRead r [] s →
    ∃ pl k, exec (.telemetryRead r) s = .next (answered 0x0F02 r stOk pl { begun 0x0F02 r s with free := k }) ∧
      (s.bg.telemetry ≠ [] → pl = s.bg.telemetry ∧ k = s.free) ∧ (s.bg.telemetry = [] → pl.length = 48)) ∧
  (∀ (r : Req) (l i : Nat) (s : State), Accepted cmdLedgerRead r [byte l, byte i] s → l < 256 → i < 256 →
    ∃ pl, exec (.ledgerRead r l i) s = .next (answered 0x0F00 r stOk pl (begun 0x0F00 r s)) ∧ pl.length = 36 ∧ pl.take 2 = [byte l, byte i] ∧
      (l = 0 → i ≠ r.tenant → pl.drop 4 = leInt 8 (quota s i) ++ leInt 8 ((quota s i - (tenant s i).outstanding : Nat) : Int) ++
        leInt 8 (tenant s i).outstanding ++ leInt 8 0))

/-- Checkpoints and scrubs (R508, R509, R521 to R523, R568, R575, R736): a step is taken where its task may start and none of a lower
index may (R724); CHECKPOINT writes the coulomb ledger into one copy of its structure, and no byte but there and in the gauge copy
that goes with it (R470); the scrubs go one step on, count what was corrected, latch what was not, and note a weak log sector; a
bank whose word fails is retired; a compaction that is due appends its beginning and keeps its sources. -/
def Obligations.CheckpointAndScrubsStep : Prop :=
  (∀ s u : State, MemOk s → Clocked s → u = dispatch s → fumaroleOn s = true → mayStep u 0 = true → copyGen s tcCheckpoint 0 + 1 < 2 ^ 32 →
      copyGen s tcCheckpoint 1 + 1 < 2 ^ 32 →
    ∃ t b, exec .checkpoint s = .next t ∧ readTwo t tcCheckpoint = some b ∧
      b.take 24 = leBytes 8 s.bg.coulomb.inUc ++ leBytes 8 s.bg.coulomb.outUc ++ leInt 8 s.bg.coulomb.net ∧
      ∀ x, x < tcCheckpoint.at_ ∨ tcCheckpoint.at_ + 2 * tcCheckpoint.size ≤ x → x < tcGauge.at_ ∨ tcGauge.at_ + 2 * tcGauge.size ≤ x →
        byteOf t x = byteOf s x) ∧
  (∀ (cs : List Nat) (s u : State), Clocked s → u = dispatch s → fumaroleOn s = true → mayStep u 2 = true → s.nv.badWords = [] →
    ∃ t, exec (.faScrub cs []) s = .next t ∧ (task t 2).progress = ((task s 2).progress + 1) % 64 ∧ (task t 2).runs = (task u 2).runs + 1 ∧
      t.nv.corrections = s.nv.corrections +
        (cs.filter (fun w => decide (512 * (task s 2).progress ≤ w) && decide (w < 512 * (task s 2).progress + 512))).length) ∧
  (∀ (w : Nat) (s u : State), Clocked s → u = dispatch s → fumaroleOn s = true → mayStep u 2 = true → s.nv.badWords = [] → 512 * (task s 2).progress ≤ w → w < 512 * (task s 2).progress + 512 →
    ∃ t, exec (.faScrub [] [w]) s = .next t ∧ Latched 0x24 t ∧ t.nv.uncorrectable = s.nv.uncorrectable + 1) ∧
  (∀ (gs : List Nat) (s u : State), Clocked s → u = dispatch s → fumaroleOn s = true → mayStep u 3 = true →
    ∃ t, exec (.saScrub gs) s = .next t ∧ (task t 3).progress = ((task s 3).progress + 1) % 256 ∧ (task t 3).runs = (task u 3).runs + 1 ∧
      (gs ≠ [] → 128 ≤ (task s 3).progress → (task s 3).progress - 128 ∈ t.log.refresh)) ∧
  (∀ (bad : Bool) (rivals : List (Nat × Bool)) (s u : State), Clocked s → u = dispatch s → fumaroleOn s = true → mayStep u 4 = true → 8 ≤ (task s 4).progress → (task s 4).progress ≤ 51 →
    ∃ t, exec (.bankScrub bad rivals) s = .next t ∧ (task t 4).progress = ((task s 4).progress + 1) % 52 ∧
      (bad = true → InUse (task s 4).progress s → (bank t (task s 4).progress).st = .retired ∧ (bank t (task s 4).progress).cause = 1 ∧ Latched 0x25 t)) ∧
  (∀ (k : Nat) (s : State), Clocked s → fumaroleOn s = true → mayStep (dispatch s) 5 = true → s.log.pass = none → passReason s = some 0 → s.log.head = some k →
      s.log.headOff + 64 ≤ 0x1000 →
    ∃ t c, exec .compaction s = .next t ∧ t.log.pass = some c ∧ c.sources = compactSources s ∧ c.erases = compactSources s ∧ c.reason = 0 ∧
      c.beginSeq = s.log.nextSeq ∧ c.copied = 0 ∧ t.log.appended = s.log.appended + 1) ∧
  (∀ s : State, Clocked s → fumaroleOn s = true → mayStep (dispatch s) 5 = false → exec .compaction s = .next (dispatch s))

/-- Events (R47, R620 to R622): while firmware does not run an event is held; else it joins the queue of every tenant whose mask asks
for it, with the 32 places taken it is counted as lost, and no other tenant's queue changes. The first such event queues EVENTS_LOST
with argument 1, and each later one adds 1 to it. -/
def Obligations.EventsReachQueues : Prop :=
  (∀ (code flags src arg : Nat) (s : State), fwRuns s = false →
    (post code flags src arg s).deferred = s.deferred ++
      [{ ev := { code := code, flags := flags, src := src, arg := arg, tick := tick s }, own := none }] ∧
    (post code flags src arg s).tenants = s.tenants) ∧
  (∀ (code flags src arg n : Nat) (s u : State), fwRuns s = true → u = takeOcc .eventPosted s → n < 64 → bit (pn u 0x0205 n) (code / 256) = true →
      queuedCount (tenant s n).queue < 32 →
    (tenant (post code flags src arg s) n).queue = (tenant s n).queue ++
      [{ code := code, flags := flags, src := src, arg := arg, tick := tick s }] ∧
    (tenant (post code flags src arg s) n).posted = (tenant s n).posted + 1) ∧
  (∀ (code flags src arg n : Nat) (s u : State), fwRuns s = true → u = takeOcc .eventPosted s → n < 64 → bit (pn u 0x0205 n) (code / 256) = true →
      32 ≤ queuedCount (tenant s n).queue →
    (tenant (post code flags src arg s) n).overflowed = (tenant s n).overflowed + 1 ∧
    (∃ e ∈ (tenant (post code flags src arg s) n).queue, e.code = evLost) ∧
    queuedCount (tenant (post code flags src arg s) n).queue = queuedCount (tenant s n).queue) ∧
  (∀ (code flags src arg n : Nat) (s u : State), fwRuns s = true → u = takeOcc .eventPosted s → bit (pn u 0x0205 n) (code / 256) = false →
    tenant (post code flags src arg s) n = tenant s n) ∧
  (∀ (e : Event) (x : Tenant), x.posted = x.delivered + x.queue.length + x.overflowed →
    (queueEvent e x).posted = (queueEvent e x).delivered + (queueEvent e x).queue.length + (queueEvent e x).overflowed ∧
    ∀ k, (deliverEvents k x).posted = (deliverEvents k x).delivered + (deliverEvents k x).queue.length + (deliverEvents k x).overflowed) ∧
  (∀ (e : Event) (x : Tenant), 32 ≤ queuedCount x.queue →
    ((∀ d ∈ x.queue, d.code ≠ evLost) → ∃ l, (queueEvent e x).queue = x.queue ++ [l] ∧ l.code = evLost ∧ l.arg = 1 ∧
      (queueEvent e x).posted = x.posted + 2) ∧
    ((∃ d ∈ x.queue, d.code = evLost) → (queueEvent e x).queue = x.queue.map (fun d => if d.code = evLost then { d with arg := d.arg + 1 } else d) ∧
      (queueEvent e x).posted = x.posted + 1))

/-- The frame of every command: what is not among the parts that it may change is as it was; the queue of waiting commands is as it was;
and where the memory is not among them, every byte reads as before. -/
def Obligations.CommandsChangeOnlyTheirParts : Prop :=
  ∀ (c : Instr) (s t : State), exec c s = .next t →
    t.pending = s.pending ∧ (∀ p : Part, p ∉ mayChange c → p.Kept s t) ∧ (Part.memory ∉ mayChange c → ∀ a, byteOf t a = byteOf s a)
end

