-- ==== Sys2Proof/Laws/Memory.lean ====
section
/-! SUPPORT. Memory: every operation keeps the canonical form, and a read after a write gives what was written there and leaves every
other address alone. -/

namespace Sys2Proof.Machine

/-- Sortedness of adjacent entries is sortedness of all pairs. -/
theorem memSorted_iff (m : List Host.Cell) : memSorted m = true ↔ m.Pairwise (fun a b => a.1 < b.1) := by
  induction m with
  | nil => simp [memSorted]
  | cons a l ih =>
    cases l with
    | nil => simp [memSorted]
    | cons b l =>
      simp only [memSorted, Bool.and_eq_true, decide_eq_true_eq, ih, List.pairwise_cons, List.mem_cons]
      constructor
      · rintro ⟨hab, hb, hl⟩
        refine ⟨?_, hb, hl⟩
        rintro c (rfl | hc)
        · exact hab
        · exact lt_trans hab (hb c hc)
      · rintro ⟨h, hb, hl⟩
        exact ⟨h b (Or.inl rfl), hb, hl⟩

/-- The canonical form: all pairs rise, and every entry is one that memory may list. -/
theorem memWf_iff (m : List Host.Cell) :
    memWf m = true ↔ m.Pairwise (fun a b => a.1 < b.1) ∧ ∀ c ∈ m, cellOk c = true := by
  simp [memWf, memSorted_iff]

/-- An entry of an insertion is the new one or an old one. -/
theorem mem_memInsert {m : List Host.Cell} {a : Nat} {b : Byte} {c : Host.Cell} (h : c ∈ memInsert m a b) : c = (a, b) ∨ c ∈ m := by
  induction m with
  | nil => simpa [memInsert] using h
  | cons d l ih =>
    obtain ⟨k, x⟩ := d
    simp only [memInsert] at h
    split at h
    · simpa using h
    · split at h
      · rcases List.mem_cons.1 h with h | h
        · exact Or.inl h
        · exact Or.inr (List.mem_cons_of_mem _ h)
      · rcases List.mem_cons.1 h with h | h
        · exact Or.inr (h ▸ List.mem_cons_self)
        · rcases ih h with h | h
          · exact Or.inl h
          · exact Or.inr (List.mem_cons_of_mem _ h)

/-- Insertion keeps the order. -/
theorem memInsert_pairwise {m : List Host.Cell} (h : m.Pairwise (fun a b => a.1 < b.1)) (a : Nat) (b : Byte) :
    (memInsert m a b).Pairwise (fun a b => a.1 < b.1) := by
  induction m with
  | nil => simp [memInsert]
  | cons d l ih =>
    obtain ⟨k, x⟩ := d
    obtain ⟨hd, hl⟩ := List.pairwise_cons.1 h
    simp only [memInsert]
    split
    next hlt =>
      refine List.pairwise_cons.2 ⟨?_, h⟩
      intro c hc
      rcases List.mem_cons.1 hc with rfl | hc
      · exact hlt
      · exact lt_trans hlt (hd c hc)
    next hge =>
      split
      next heq => exact List.pairwise_cons.2 ⟨fun c hc => heq ▸ hd c hc, hl⟩
      next hne =>
        refine List.pairwise_cons.2 ⟨?_, ih hl⟩
        intro c hc
        rcases mem_memInsert hc with rfl | hc
        · show k < a
          omega
        · exact hd c hc

/-- Erasure takes a sublist. -/
theorem memErase_sublist (m : List Host.Cell) (a : Nat) : (memErase m a).Sublist m := by
  induction m with
  | nil => exact List.Sublist.refl _
  | cons d l ih =>
    obtain ⟨k, x⟩ := d
    simp only [memErase]
    split
    · exact List.sublist_cons_self _ _
    · exact ih.cons_cons _

/-- A sublist of a canonical memory is canonical. -/
theorem memWf_sublist {m n : List Host.Cell} (h : n.Sublist m) (hm : memWf m = true) : memWf n = true := by
  rw [memWf_iff] at *
  exact ⟨hm.1.sublist h, fun c hc => hm.2 c (h.subset hc)⟩

/-- Writing one byte keeps the canonical form. -/
theorem memWrite_wf {m : List Host.Cell} (h : memWf m = true) (a : Nat) (b : Byte) : memWf (memWrite m a b) = true := by
  unfold memWrite
  split
  · exact h
  next d hd =>
    split
    · exact memWf_sublist (memErase_sublist m a) h
    next hne =>
      rw [memWf_iff] at *
      refine ⟨memInsert_pairwise h.1 a b, fun c hc => ?_⟩
      rcases mem_memInsert hc with rfl | hc
      · simp [cellOk, hd, hne]
      · exact h.2 c hc

/-- Writing bytes keeps the canonical form. -/
theorem memWrites_wf {m : List Host.Cell} (h : memWf m = true) (a : Nat) (bs : Bytes) : memWf (memWrites m a bs) = true := by
  induction bs generalizing m a with
  | nil => exact h
  | cons b bs ih => exact ih (memWrite_wf h a b) (a + 1)

/-- Keeping some of the entries keeps the canonical form. -/
theorem memFilter_wf {m : List Host.Cell} (h : memWf m = true) (p : Host.Cell → Bool) : memWf (m.filter p) = true :=
  memWf_sublist List.filter_sublist h

/-- Clearing a range keeps the canonical form. -/
theorem memClear_wf {m : List Host.Cell} (h : memWf m = true) (a n : Nat) : memWf (memClear m a n) = true := memFilter_wf h _

/-! ### Reading after writing -/

/-- A lookup after an insertion. -/
theorem memFind_insert {m : List Host.Cell} (h : m.Pairwise (fun a b => a.1 < b.1)) (a : Nat) (b : Byte) (x : Nat) :
    memFind (memInsert m a b) x = if x = a then some b else memFind m x := by
  induction m with
  | nil => simp [memInsert, memFind, eq_comm]
  | cons d l ih =>
    obtain ⟨k, c⟩ := d
    obtain ⟨hd, hl⟩ := List.pairwise_cons.1 h
    simp only [memInsert]
    split
    · by_cases hx : x = a
      · simp [memFind, hx]
      · simp [memFind, hx, Ne.symm hx]
    · split
      next heq =>
        subst heq
        by_cases hx : x = a
        · simp [memFind, hx]
        · simp [memFind, hx, Ne.symm hx]
      next hne =>
        simp only [memFind, ih hl]
        by_cases hk : k = x
        · subst hk
          simp [Ne.symm hne]
        · simp [hk]

/-- Nothing is found below the first entry. -/
theorem memFind_none {m : List Host.Cell} {x : Nat} (h : ∀ c ∈ m, x < c.1) : memFind m x = none := by
  induction m with
  | nil => rfl
  | cons d l ih =>
    obtain ⟨k, c⟩ := d
    have hk : x < k := h (k, c) List.mem_cons_self
    simp only [memFind]
    rw [if_neg (by omega)]
    exact ih (fun e he => h e (List.mem_cons_of_mem _ he))

/-- A lookup after an erasure. -/
theorem memFind_erase {m : List Host.Cell} (h : m.Pairwise (fun a b => a.1 < b.1)) (a x : Nat) :
    memFind (memErase m a) x = if x = a then none else memFind m x := by
  induction m with
  | nil => simp [memErase, memFind]
  | cons d l ih =>
    obtain ⟨k, c⟩ := d
    obtain ⟨hd, hl⟩ := List.pairwise_cons.1 h
    simp only [memErase]
    split
    next heq =>
      subst heq
      by_cases hx : x = k
      · subst hx
        simp [memFind_none hd]
      · simp [memFind, hx, Ne.symm hx]
    next hne =>
      simp only [memFind, ih hl]
      by_cases hk : k = x
      · subst hk
        simp [hne]
      · simp [hk]

/-- A read after a write: the byte written at its address, and what was there before at every other. -/
theorem memRead_write {m : List Host.Cell} (h : memWf m = true) (a : Nat) (b : Byte) (x : Nat) :
    memRead (memWrite m a b) x = if x = a ∧ (memDefault a).isSome = true then some b else memRead m x := by
  have hp := ((memWf_iff m).1 h).1
  unfold memWrite
  split
  next hd => simp [hd]
  next d hd =>
    split
    next hb =>
      simp only [memRead, memFind_erase hp, hd]
      by_cases hx : x = a
      · subst hx
        simp [hd, hb]
      · simp [hx]
    next hb =>
      simp only [memRead, memFind_insert hp, hd]
      by_cases hx : x = a
      · subst hx
        simp [hd]
      · simp [hx]

/-- Writing bytes leaves every address outside them alone. -/
theorem memRead_writes_other {m : List Host.Cell} (h : memWf m = true) (a : Nat) (bs : Bytes) (x : Nat)
    (hx : x < a ∨ a + bs.length ≤ x) : memRead (memWrites m a bs) x = memRead m x := by
  induction bs generalizing m a with
  | nil => rfl
  | cons b bs ih =>
    simp only [List.length_cons] at hx
    simp only [memWrites]
    rw [ih (memWrite_wf h a b) (a + 1) (by omega), memRead_write h]
    rw [if_neg]
    rintro ⟨rfl, _⟩
    omega

end Sys2Proof.Machine
end

