-- ==== Sys2Proof/Laws/Keeps.lean ====
section
/-! SUPPORT. What one operation may change: `Keeps W a s` says that `s` follows from `a` by changes in the blocks whose bits `W` holds,
with the queue untouched, the free counter not lowered and the memory still canonical. One lemma for each operation of the model. -/

namespace Sys2Proof.Machine

/-- `d` differs from `c` only in the fields of `W`. -/
structure AonK (W : Nat) (c d : Aon) : Prop where
  rtc : W.testBit 30 = false → d.rtc = c.rtc
  rtcSub : W.testBit 31 = false → d.rtcSub = c.rtcSub
  timeSet : W.testBit 32 = false → d.timeSet = c.timeSet
  shipLatch : W.testBit 33 = false → d.shipLatch = c.shipLatch
  armed : W.testBit 34 = false → d.armed = c.armed
  btnHeld : W.testBit 35 = false → d.btnHeld = c.btnHeld
  wakeSource : W.testBit 36 = false → d.wakeSource = c.wakeSource
  wakeRtc : W.testBit 37 = false → d.wakeRtc = c.wakeRtc
  wakeVinMv : W.testBit 38 = false → d.wakeVinMv = c.wakeVinMv

theorem AonK.refl (W : Nat) (c : Aon) : AonK W c c := by constructor <;> exact fun _ => rfl

theorem AonK.trans {W : Nat} {c d e : Aon} (h : AonK W c d) (g : AonK W d e) : AonK W c e where
  rtc := fun x => (g.rtc x).trans (h.rtc x)
  rtcSub := fun x => (g.rtcSub x).trans (h.rtcSub x)
  timeSet := fun x => (g.timeSet x).trans (h.timeSet x)
  shipLatch := fun x => (g.shipLatch x).trans (h.shipLatch x)
  armed := fun x => (g.armed x).trans (h.armed x)
  btnHeld := fun x => (g.btnHeld x).trans (h.btnHeld x)
  wakeSource := fun x => (g.wakeSource x).trans (h.wakeSource x)
  wakeRtc := fun x => (g.wakeRtc x).trans (h.wakeRtc x)
  wakeVinMv := fun x => (g.wakeVinMv x).trans (h.wakeVinMv x)

/-- `d` differs from `c` only in the fields of `W`. -/
structure ClocksK (W : Nat) (c d : Clocks) : Prop where
  us : W.testBit 39 = false → d.us = c.us
  crystal : W.testBit 40 = false → d.crystal = c.crystal
  pllLocked : W.testBit 41 = false → d.pllLocked = c.pllLocked
  gated : W.testBit 42 = false → d.gated = c.gated
  gatesLow : W.testBit 43 = false → d.gatesLow = c.gatesLow
  qiKhz : W.testBit 44 = false → d.qiKhz = c.qiKhz
  tickFromRef : W.testBit 45 = false → d.tickFromRef = c.tickFromRef
  refSelect : W.testBit 46 = false → d.refSelect = c.refSelect

theorem ClocksK.refl (W : Nat) (c : Clocks) : ClocksK W c c := by constructor <;> exact fun _ => rfl

theorem ClocksK.trans {W : Nat} {c d e : Clocks} (h : ClocksK W c d) (g : ClocksK W d e) : ClocksK W c e where
  us := fun x => (g.us x).trans (h.us x)
  crystal := fun x => (g.crystal x).trans (h.crystal x)
  pllLocked := fun x => (g.pllLocked x).trans (h.pllLocked x)
  gated := fun x => (g.gated x).trans (h.gated x)
  gatesLow := fun x => (g.gatesLow x).trans (h.gatesLow x)
  qiKhz := fun x => (g.qiKhz x).trans (h.qiKhz x)
  tickFromRef := fun x => (g.tickFromRef x).trans (h.tickFromRef x)
  refSelect := fun x => (g.refSelect x).trans (h.refSelect x)

/-- `d` differs from `c` only in the fields of `W`. -/
structure CoreBlkK (W : Nat) (c d : CoreBlk) : Prop where
  run : W.testBit 47 = false → d.run = c.run
  nreset : W.testBit 48 = false → d.nreset = c.nreset
  resetDue : W.testBit 49 = false → d.resetDue = c.resetDue
  bistHalt : W.testBit 50 = false → d.bistHalt = c.bistHalt
  ready : W.testBit 51 = false → d.ready = c.ready
  nvReady : W.testBit 52 = false → d.nvReady = c.nvReady
  recalled : W.testBit 53 = false → d.recalled = c.recalled
  fwReady : W.testBit 54 = false → d.fwReady = c.fwReady
  fwStart : W.testBit 55 = false → d.fwStart = c.fwStart
  beat : W.testBit 56 = false → d.beat = c.beat
  wdMs : W.testBit 57 = false → d.wdMs = c.wdMs
  wdFrom : W.testBit 58 = false → d.wdFrom = c.wdFrom
  startCause : W.testBit 59 = false → d.startCause = c.startCause
  slot : W.testBit 60 = false → d.slot = c.slot
  slotFallback : W.testBit 61 = false → d.slotFallback = c.slotFallback
  trialBoot : W.testBit 62 = false → d.trialBoot = c.trialBoot
  bootCount : W.testBit 63 = false → d.bootCount = c.bootCount
  mode : W.testBit 64 = false → d.mode = c.mode
  serviceExit : W.testBit 65 = false → d.serviceExit = c.serviceExit
  exitCause : W.testBit 66 = false → d.exitCause = c.exitCause
  exitResult : W.testBit 67 = false → d.exitResult = c.exitResult
  shipEntry : W.testBit 68 = false → d.shipEntry = c.shipEntry
  shipCause : W.testBit 69 = false → d.shipCause = c.shipCause
  shipTenant : W.testBit 70 = false → d.shipTenant = c.shipTenant
  modeTenant : W.testBit 71 = false → d.modeTenant = c.modeTenant
  wakePast : W.testBit 72 = false → d.wakePast = c.wakePast
  vaux : W.testBit 73 = false → d.vaux = c.vaux
  holdup : W.testBit 74 = false → d.holdup = c.holdup
  sysValidAt : W.testBit 75 = false → d.sysValidAt = c.sysValidAt
  clkOut : W.testBit 76 = false → d.clkOut = c.clkOut
  batFet : W.testBit 77 = false → d.batFet = c.batFet

theorem CoreBlkK.refl (W : Nat) (c : CoreBlk) : CoreBlkK W c c := by constructor <;> exact fun _ => rfl

theorem CoreBlkK.trans {W : Nat} {c d e : CoreBlk} (h : CoreBlkK W c d) (g : CoreBlkK W d e) : CoreBlkK W c e where
  run := fun x => (g.run x).trans (h.run x)
  nreset := fun x => (g.nreset x).trans (h.nreset x)
  resetDue := fun x => (g.resetDue x).trans (h.resetDue x)
  bistHalt := fun x => (g.bistHalt x).trans (h.bistHalt x)
  ready := fun x => (g.ready x).trans (h.ready x)
  nvReady := fun x => (g.nvReady x).trans (h.nvReady x)
  recalled := fun x => (g.recalled x).trans (h.recalled x)
  fwReady := fun x => (g.fwReady x).trans (h.fwReady x)
  fwStart := fun x => (g.fwStart x).trans (h.fwStart x)
  beat := fun x => (g.beat x).trans (h.beat x)
  wdMs := fun x => (g.wdMs x).trans (h.wdMs x)
  wdFrom := fun x => (g.wdFrom x).trans (h.wdFrom x)
  startCause := fun x => (g.startCause x).trans (h.startCause x)
  slot := fun x => (g.slot x).trans (h.slot x)
  slotFallback := fun x => (g.slotFallback x).trans (h.slotFallback x)
  trialBoot := fun x => (g.trialBoot x).trans (h.trialBoot x)
  bootCount := fun x => (g.bootCount x).trans (h.bootCount x)
  mode := fun x => (g.mode x).trans (h.mode x)
  serviceExit := fun x => (g.serviceExit x).trans (h.serviceExit x)
  exitCause := fun x => (g.exitCause x).trans (h.exitCause x)
  exitResult := fun x => (g.exitResult x).trans (h.exitResult x)
  shipEntry := fun x => (g.shipEntry x).trans (h.shipEntry x)
  shipCause := fun x => (g.shipCause x).trans (h.shipCause x)
  shipTenant := fun x => (g.shipTenant x).trans (h.shipTenant x)
  modeTenant := fun x => (g.modeTenant x).trans (h.modeTenant x)
  wakePast := fun x => (g.wakePast x).trans (h.wakePast x)
  vaux := fun x => (g.vaux x).trans (h.vaux x)
  holdup := fun x => (g.holdup x).trans (h.holdup x)
  sysValidAt := fun x => (g.sysValidAt x).trans (h.sysValidAt x)
  clkOut := fun x => (g.clkOut x).trans (h.clkOut x)
  batFet := fun x => (g.batFet x).trans (h.batFet x)

/-- `d` differs from `c` only in the fields of `W`. -/
structure I3cBusK (W : Nat) (c d : I3cBus) : Prop where
  dynAddr : W.testBit 78 = false → d.dynAddr = c.dynAddr
  events : W.testBit 79 = false → d.events = c.events
  mwl : W.testBit 80 = false → d.mwl = c.mwl
  mrl : W.testBit 81 = false → d.mrl = c.mrl
  ibiPending : W.testBit 82 = false → d.ibiPending = c.ibiPending
  ibiByte : W.testBit 83 = false → d.ibiByte = c.ibiByte
  readOff : W.testBit 84 = false → d.readOff = c.readOff

theorem I3cBusK.refl (W : Nat) (c : I3cBus) : I3cBusK W c c := by constructor <;> exact fun _ => rfl

theorem I3cBusK.trans {W : Nat} {c d e : I3cBus} (h : I3cBusK W c d) (g : I3cBusK W d e) : I3cBusK W c e where
  dynAddr := fun x => (g.dynAddr x).trans (h.dynAddr x)
  events := fun x => (g.events x).trans (h.events x)
  mwl := fun x => (g.mwl x).trans (h.mwl x)
  mrl := fun x => (g.mrl x).trans (h.mrl x)
  ibiPending := fun x => (g.ibiPending x).trans (h.ibiPending x)
  ibiByte := fun x => (g.ibiByte x).trans (h.ibiByte x)
  readOff := fun x => (g.readOff x).trans (h.readOff x)

/-- `d` differs from `c` only in the fields of `W`. -/
structure UartBusK (W : Nat) (c d : UartBus) : Prop where
  discarded : W.testBit 85 = false → d.discarded = c.discarded
  lastSent : W.testBit 86 = false → d.lastSent = c.lastSent

theorem UartBusK.refl (W : Nat) (c : UartBus) : UartBusK W c c := by constructor <;> exact fun _ => rfl

theorem UartBusK.trans {W : Nat} {c d e : UartBus} (h : UartBusK W c d) (g : UartBusK W d e) : UartBusK W c e where
  discarded := fun x => (g.discarded x).trans (h.discarded x)
  lastSent := fun x => (g.lastSent x).trans (h.lastSent x)

/-- `d` differs from `c` only in the fields of `W`. -/
structure ParamStoreK (W : Nat) (c d : ParamStore) : Prop where
  cells : W.testBit 87 = false → d.cells = c.cells
  epoch : W.testBit 88 = false → d.epoch = c.epoch
  waiting : W.testBit 89 = false → d.waiting = c.waiting
  overlays : W.testBit 90 = false → d.overlays = c.overlays
  loaded : W.testBit 91 = false → d.loaded = c.loaded
  loadedGen : W.testBit 92 = false → d.loadedGen = c.loadedGen
  base : W.testBit 93 = false → d.base = c.base
  skipped : W.testBit 94 = false → d.skipped = c.skipped
  firstSkipped : W.testBit 95 = false → d.firstSkipped = c.firstSkipped

theorem ParamStoreK.refl (W : Nat) (c : ParamStore) : ParamStoreK W c c := by constructor <;> exact fun _ => rfl

theorem ParamStoreK.trans {W : Nat} {c d e : ParamStore} (h : ParamStoreK W c d) (g : ParamStoreK W d e) : ParamStoreK W c e where
  cells := fun x => (g.cells x).trans (h.cells x)
  epoch := fun x => (g.epoch x).trans (h.epoch x)
  waiting := fun x => (g.waiting x).trans (h.waiting x)
  overlays := fun x => (g.overlays x).trans (h.overlays x)
  loaded := fun x => (g.loaded x).trans (h.loaded x)
  loadedGen := fun x => (g.loadedGen x).trans (h.loadedGen x)
  base := fun x => (g.base x).trans (h.base x)
  skipped := fun x => (g.skipped x).trans (h.skipped x)
  firstSkipped := fun x => (g.firstSkipped x).trans (h.firstSkipped x)

/-- `d` differs from `c` only in the fields of `W`. -/
structure NvK (W : Nat) (c d : Nv) : Prop where
  gathers : W.testBit 96 = false → d.gathers = c.gathers
  commits : W.testBit 97 = false → d.commits = c.commits
  eePointer : W.testBit 98 = false → d.eePointer = c.eePointer
  eeBlock : W.testBit 99 = false → d.eeBlock = c.eeBlock
  eeBusy : W.testBit 100 = false → d.eeBusy = c.eeBusy
  eeDiscards : W.testBit 101 = false → d.eeDiscards = c.eeDiscards
  eeOut : W.testBit 102 = false → d.eeOut = c.eeOut
  corrections : W.testBit 103 = false → d.corrections = c.corrections
  uncorrectable : W.testBit 104 = false → d.uncorrectable = c.uncorrectable
  badWords : W.testBit 105 = false → d.badWords = c.badWords
  replays : W.testBit 106 = false → d.replays = c.replays
  journalReplayed : W.testBit 107 = false → d.journalReplayed = c.journalReplayed
  erasing : W.testBit 108 = false → d.erasing = c.erasing
  resvMv : W.testBit 109 = false → d.resvMv = c.resvMv
  boost : W.testBit 110 = false → d.boost = c.boost
  resvTested : W.testBit 111 = false → d.resvTested = c.resvTested
  resvTestFailed : W.testBit 112 = false → d.resvTestFailed = c.resvTestFailed
  weak : W.testBit 113 = false → d.weak = c.weak
  rewriteNeeded : W.testBit 114 = false → d.rewriteNeeded = c.rewriteNeeded
  blank : W.testBit 115 = false → d.blank = c.blank

theorem NvK.refl (W : Nat) (c : Nv) : NvK W c c := by constructor <;> exact fun _ => rfl

theorem NvK.trans {W : Nat} {c d e : Nv} (h : NvK W c d) (g : NvK W d e) : NvK W c e where
  gathers := fun x => (g.gathers x).trans (h.gathers x)
  commits := fun x => (g.commits x).trans (h.commits x)
  eePointer := fun x => (g.eePointer x).trans (h.eePointer x)
  eeBlock := fun x => (g.eeBlock x).trans (h.eeBlock x)
  eeBusy := fun x => (g.eeBusy x).trans (h.eeBusy x)
  eeDiscards := fun x => (g.eeDiscards x).trans (h.eeDiscards x)
  eeOut := fun x => (g.eeOut x).trans (h.eeOut x)
  corrections := fun x => (g.corrections x).trans (h.corrections x)
  uncorrectable := fun x => (g.uncorrectable x).trans (h.uncorrectable x)
  badWords := fun x => (g.badWords x).trans (h.badWords x)
  replays := fun x => (g.replays x).trans (h.replays x)
  journalReplayed := fun x => (g.journalReplayed x).trans (h.journalReplayed x)
  erasing := fun x => (g.erasing x).trans (h.erasing x)
  resvMv := fun x => (g.resvMv x).trans (h.resvMv x)
  boost := fun x => (g.boost x).trans (h.boost x)
  resvTested := fun x => (g.resvTested x).trans (h.resvTested x)
  resvTestFailed := fun x => (g.resvTestFailed x).trans (h.resvTestFailed x)
  weak := fun x => (g.weak x).trans (h.weak x)
  rewriteNeeded := fun x => (g.rewriteNeeded x).trans (h.rewriteNeeded x)
  blank := fun x => (g.blank x).trans (h.blank x)

/-- `d` differs from `c` only in the fields of `W`. -/
structure FwUpdateK (W : Nat) (c d : FwUpdate) : Prop where
  open_ : W.testBit 116 = false → d.open_ = c.open_
  erasing : W.testBit 117 = false → d.erasing = c.erasing
  erased : W.testBit 118 = false → d.erased = c.erased
  chunkEnd : W.testBit 119 = false → d.chunkEnd = c.chunkEnd
  finishedOk : W.testBit 120 = false → d.finishedOk = c.finishedOk

theorem FwUpdateK.refl (W : Nat) (c : FwUpdate) : FwUpdateK W c c := by constructor <;> exact fun _ => rfl

theorem FwUpdateK.trans {W : Nat} {c d e : FwUpdate} (h : FwUpdateK W c d) (g : FwUpdateK W d e) : FwUpdateK W c e where
  open_ := fun x => (g.open_ x).trans (h.open_ x)
  erasing := fun x => (g.erasing x).trans (h.erasing x)
  erased := fun x => (g.erased x).trans (h.erased x)
  chunkEnd := fun x => (g.chunkEnd x).trans (h.chunkEnd x)
  finishedOk := fun x => (g.finishedOk x).trans (h.finishedOk x)

/-- `d` differs from `c` only in the fields of `W`. -/
structure SinterK (W : Nat) (c d : Sinter) : Prop where
  head : W.testBit 121 = false → d.head = c.head
  headOff : W.testBit 122 = false → d.headOff = c.headOff
  nextSeq : W.testBit 123 = false → d.nextSeq = c.nextSeq
  nextSerial : W.testBit 124 = false → d.nextSerial = c.nextSerial
  appended : W.testBit 125 = false → d.appended = c.appended
  live : W.testBit 126 = false → d.live = c.live
  superseded : W.testBit 127 = false → d.superseded = c.superseded
  reclaimed : W.testBit 128 = false → d.reclaimed = c.reclaimed
  torn : W.testBit 129 = false → d.torn = c.torn
  tornFound : W.testBit 130 = false → d.tornFound = c.tornFound
  retainOverflow : W.testBit 131 = false → d.retainOverflow = c.retainOverflow
  restart : W.testBit 132 = false → d.restart = c.restart
  compactRestarted : W.testBit 133 = false → d.compactRestarted = c.compactRestarted
  pass : W.testBit 134 = false → d.pass = c.pass
  refresh : W.testBit 135 = false → d.refresh = c.refresh
  waiting : W.testBit 136 = false → d.waiting = c.waiting
  bootSeq : W.testBit 137 = false → d.bootSeq = c.bootSeq

theorem SinterK.refl (W : Nat) (c : Sinter) : SinterK W c c := by constructor <;> exact fun _ => rfl

theorem SinterK.trans {W : Nat} {c d e : Sinter} (h : SinterK W c d) (g : SinterK W d e) : SinterK W c e where
  head := fun x => (g.head x).trans (h.head x)
  headOff := fun x => (g.headOff x).trans (h.headOff x)
  nextSeq := fun x => (g.nextSeq x).trans (h.nextSeq x)
  nextSerial := fun x => (g.nextSerial x).trans (h.nextSerial x)
  appended := fun x => (g.appended x).trans (h.appended x)
  live := fun x => (g.live x).trans (h.live x)
  superseded := fun x => (g.superseded x).trans (h.superseded x)
  reclaimed := fun x => (g.reclaimed x).trans (h.reclaimed x)
  torn := fun x => (g.torn x).trans (h.torn x)
  tornFound := fun x => (g.tornFound x).trans (h.tornFound x)
  retainOverflow := fun x => (g.retainOverflow x).trans (h.retainOverflow x)
  restart := fun x => (g.restart x).trans (h.restart x)
  compactRestarted := fun x => (g.compactRestarted x).trans (h.compactRestarted x)
  pass := fun x => (g.pass x).trans (h.pass x)
  refresh := fun x => (g.refresh x).trans (h.refresh x)
  waiting := fun x => (g.waiting x).trans (h.waiting x)
  bootSeq := fun x => (g.bootSeq x).trans (h.bootSeq x)

/-- `d` differs from `c` only in the fields of `W`. -/
structure BackgroundK (W : Nat) (c d : Background) : Prop where
  tasks : W.testBit 138 = false → d.tasks = c.tasks
  windowUsed : W.testBit 139 = false → d.windowUsed = c.windowUsed
  windowAt : W.testBit 140 = false → d.windowAt = c.windowAt
  coulomb : W.testBit 141 = false → d.coulomb = c.coulomb
  energy : W.testBit 142 = false → d.energy = c.energy
  gapCoulomb : W.testBit 143 = false → d.gapCoulomb = c.gapCoulomb
  gapEnergy : W.testBit 144 = false → d.gapEnergy = c.gapEnergy
  lastIntervalSeq : W.testBit 145 = false → d.lastIntervalSeq = c.lastIntervalSeq
  telemetry : W.testBit 146 = false → d.telemetry = c.telemetry
  telemetrySeq : W.testBit 147 = false → d.telemetrySeq = c.telemetrySeq
  telemetryBank : W.testBit 148 = false → d.telemetryBank = c.telemetryBank
  telemetryWritten : W.testBit 149 = false → d.telemetryWritten = c.telemetryWritten
  faSeconds : W.testBit 150 = false → d.faSeconds = c.faSeconds
  saSeconds : W.testBit 151 = false → d.saSeconds = c.saSeconds
  restored : W.testBit 152 = false → d.restored = c.restored
  qiAt : W.testBit 153 = false → d.qiAt = c.qiAt

theorem BackgroundK.refl (W : Nat) (c : Background) : BackgroundK W c c := by constructor <;> exact fun _ => rfl

theorem BackgroundK.trans {W : Nat} {c d e : Background} (h : BackgroundK W c d) (g : BackgroundK W d e) : BackgroundK W c e where
  tasks := fun x => (g.tasks x).trans (h.tasks x)
  windowUsed := fun x => (g.windowUsed x).trans (h.windowUsed x)
  windowAt := fun x => (g.windowAt x).trans (h.windowAt x)
  coulomb := fun x => (g.coulomb x).trans (h.coulomb x)
  energy := fun x => (g.energy x).trans (h.energy x)
  gapCoulomb := fun x => (g.gapCoulomb x).trans (h.gapCoulomb x)
  gapEnergy := fun x => (g.gapEnergy x).trans (h.gapEnergy x)
  lastIntervalSeq := fun x => (g.lastIntervalSeq x).trans (h.lastIntervalSeq x)
  telemetry := fun x => (g.telemetry x).trans (h.telemetry x)
  telemetrySeq := fun x => (g.telemetrySeq x).trans (h.telemetrySeq x)
  telemetryBank := fun x => (g.telemetryBank x).trans (h.telemetryBank x)
  telemetryWritten := fun x => (g.telemetryWritten x).trans (h.telemetryWritten x)
  faSeconds := fun x => (g.faSeconds x).trans (h.faSeconds x)
  saSeconds := fun x => (g.saSeconds x).trans (h.saSeconds x)
  restored := fun x => (g.restored x).trans (h.restored x)
  qiAt := fun x => (g.qiAt x).trans (h.qiAt x)

/-- `d` differs from `c` only in the fields of `W`. -/
structure EngineK (W : Nat) (c d : Engine) : Prop where
  run : W.testBit 154 = false → d.run = c.run
  suspended : W.testBit 155 = false → d.suspended = c.suspended
  active : W.testBit 156 = false → d.active = c.active
  pend : W.testBit 157 = false → d.pend = c.pend
  outs : W.testBit 158 = false → d.outs = c.outs
  driven : W.testBit 159 = false → d.driven = c.driven
  reqLevel : W.testBit 160 = false → d.reqLevel = c.reqLevel
  reqPend : W.testBit 161 = false → d.reqPend = c.reqPend
  join : W.testBit 162 = false → d.join = c.join
  bringWait : W.testBit 163 = false → d.bringWait = c.bringWait
  bringUp : W.testBit 164 = false → d.bringUp = c.bringUp
  dsNoEffect : W.testBit 165 = false → d.dsNoEffect = c.dsNoEffect
  ifRecalled : W.testBit 166 = false → d.ifRecalled = c.ifRecalled
  contTimeouts : W.testBit 167 = false → d.contTimeouts = c.contTimeouts
  lastStart : W.testBit 168 = false → d.lastStart = c.lastStart

theorem EngineK.refl (W : Nat) (c : Engine) : EngineK W c c := by constructor <;> exact fun _ => rfl

theorem EngineK.trans {W : Nat} {c d e : Engine} (h : EngineK W c d) (g : EngineK W d e) : EngineK W c e where
  run := fun x => (g.run x).trans (h.run x)
  suspended := fun x => (g.suspended x).trans (h.suspended x)
  active := fun x => (g.active x).trans (h.active x)
  pend := fun x => (g.pend x).trans (h.pend x)
  outs := fun x => (g.outs x).trans (h.outs x)
  driven := fun x => (g.driven x).trans (h.driven x)
  reqLevel := fun x => (g.reqLevel x).trans (h.reqLevel x)
  reqPend := fun x => (g.reqPend x).trans (h.reqPend x)
  join := fun x => (g.join x).trans (h.join x)
  bringWait := fun x => (g.bringWait x).trans (h.bringWait x)
  bringUp := fun x => (g.bringUp x).trans (h.bringUp x)
  dsNoEffect := fun x => (g.dsNoEffect x).trans (h.dsNoEffect x)
  ifRecalled := fun x => (g.ifRecalled x).trans (h.ifRecalled x)
  contTimeouts := fun x => (g.contTimeouts x).trans (h.contTimeouts x)
  lastStart := fun x => (g.lastStart x).trans (h.lastStart x)

/-- `d` differs from `c` only in the fields of `W`. -/
structure SupK (W : Nat) (c d : Sup) : Prop where
  latches : W.testBit 169 = false → d.latches = c.latches
  first : W.testBit 170 = false → d.first = c.first
  reports : W.testBit 171 = false → d.reports = c.reports
  windows : W.testBit 172 = false → d.windows = c.windows
  verify : W.testBit 173 = false → d.verify = c.verify
  executing : W.testBit 174 = false → d.executing = c.executing
  pulse : W.testBit 175 = false → d.pulse = c.pulse
  dieWarn : W.testBit 176 = false → d.dieWarn = c.dieWarn
  ocCnt : W.testBit 177 = false → d.ocCnt = c.ocCnt
  batOvCnt : W.testBit 178 = false → d.batOvCnt = c.batOvCnt
  dieHot : W.testBit 179 = false → d.dieHot = c.dieHot
  dieSeen : W.testBit 180 = false → d.dieSeen = c.dieSeen
  senseAt : W.testBit 181 = false → d.senseAt = c.senseAt

theorem SupK.refl (W : Nat) (c : Sup) : SupK W c c := by constructor <;> exact fun _ => rfl

theorem SupK.trans {W : Nat} {c d e : Sup} (h : SupK W c d) (g : SupK W d e) : SupK W c e where
  latches := fun x => (g.latches x).trans (h.latches x)
  first := fun x => (g.first x).trans (h.first x)
  reports := fun x => (g.reports x).trans (h.reports x)
  windows := fun x => (g.windows x).trans (h.windows x)
  verify := fun x => (g.verify x).trans (h.verify x)
  executing := fun x => (g.executing x).trans (h.executing x)
  pulse := fun x => (g.pulse x).trans (h.pulse x)
  dieWarn := fun x => (g.dieWarn x).trans (h.dieWarn x)
  ocCnt := fun x => (g.ocCnt x).trans (h.ocCnt x)
  batOvCnt := fun x => (g.batOvCnt x).trans (h.batOvCnt x)
  dieHot := fun x => (g.dieHot x).trans (h.dieHot x)
  dieSeen := fun x => (g.dieSeen x).trans (h.dieSeen x)
  senseAt := fun x => (g.senseAt x).trans (h.senseAt x)

/-- `d` differs from `c` only in the fields of `W`. -/
structure CalderaK (W : Nat) (c d : Caldera) : Prop where
  state : W.testBit 182 = false → d.state = c.state
  cap : W.testBit 183 = false → d.cap = c.cap
  serial : W.testBit 184 = false → d.serial = c.serial
  missed : W.testBit 185 = false → d.missed = c.missed
  lastMissed : W.testBit 186 = false → d.lastMissed = c.lastMissed
  missedDirty : W.testBit 187 = false → d.missedDirty = c.missedDirty
  frames : W.testBit 188 = false → d.frames = c.frames
  sinceRc : W.testBit 189 = false → d.sinceRc = c.sinceRc
  ringIdx : W.testBit 190 = false → d.ringIdx = c.ringIdx
  pipeRuns : W.testBit 191 = false → d.pipeRuns = c.pipeRuns
  partSerial : W.testBit 192 = false → d.partSerial = c.partSerial

theorem CalderaK.refl (W : Nat) (c : Caldera) : CalderaK W c c := by constructor <;> exact fun _ => rfl

theorem CalderaK.trans {W : Nat} {c d e : Caldera} (h : CalderaK W c d) (g : CalderaK W d e) : CalderaK W c e where
  state := fun x => (g.state x).trans (h.state x)
  cap := fun x => (g.cap x).trans (h.cap x)
  serial := fun x => (g.serial x).trans (h.serial x)
  missed := fun x => (g.missed x).trans (h.missed x)
  lastMissed := fun x => (g.lastMissed x).trans (h.lastMissed x)
  missedDirty := fun x => (g.missedDirty x).trans (h.missedDirty x)
  frames := fun x => (g.frames x).trans (h.frames x)
  sinceRc := fun x => (g.sinceRc x).trans (h.sinceRc x)
  ringIdx := fun x => (g.ringIdx x).trans (h.ringIdx x)
  pipeRuns := fun x => (g.pipeRuns x).trans (h.pipeRuns x)
  partSerial := fun x => (g.partSerial x).trans (h.partSerial x)

/-- `d` differs from `c` only in the fields of `W`. -/
structure TagsK (W : Nat) (c d : Tags) : Prop where
  pos : W.testBit 193 = false → d.pos = c.pos
  recalled : W.testBit 194 = false → d.recalled = c.recalled
  swept : W.testBit 195 = false → d.swept = c.swept
  imaged : W.testBit 196 = false → d.imaged = c.imaged
  flight : W.testBit 197 = false → d.flight = c.flight
  sentAt : W.testBit 198 = false → d.sentAt = c.sentAt
  nextAt : W.testBit 199 = false → d.nextAt = c.nextAt
  emerged : W.testBit 200 = false → d.emerged = c.emerged
  open_ : W.testBit 201 = false → d.open_ = c.open_
  reachA : W.testBit 202 = false → d.reachA = c.reachA
  reachB : W.testBit 203 = false → d.reachB = c.reachB
  ringN : W.testBit 204 = false → d.ringN = c.ringN
  bHeld : W.testBit 205 = false → d.bHeld = c.bHeld
  extQ : W.testBit 206 = false → d.extQ = c.extQ
  lastCount : W.testBit 207 = false → d.lastCount = c.lastCount
  completed : W.testBit 208 = false → d.completed = c.completed
  aborted : W.testBit 209 = false → d.aborted = c.aborted
  lastK : W.testBit 210 = false → d.lastK = c.lastK
  breakTick : W.testBit 211 = false → d.breakTick = c.breakTick
  held : W.testBit 212 = false → d.held = c.held

theorem TagsK.refl (W : Nat) (c : Tags) : TagsK W c c := by constructor <;> exact fun _ => rfl

theorem TagsK.trans {W : Nat} {c d e : Tags} (h : TagsK W c d) (g : TagsK W d e) : TagsK W c e where
  pos := fun x => (g.pos x).trans (h.pos x)
  recalled := fun x => (g.recalled x).trans (h.recalled x)
  swept := fun x => (g.swept x).trans (h.swept x)
  imaged := fun x => (g.imaged x).trans (h.imaged x)
  flight := fun x => (g.flight x).trans (h.flight x)
  sentAt := fun x => (g.sentAt x).trans (h.sentAt x)
  nextAt := fun x => (g.nextAt x).trans (h.nextAt x)
  emerged := fun x => (g.emerged x).trans (h.emerged x)
  open_ := fun x => (g.open_ x).trans (h.open_ x)
  reachA := fun x => (g.reachA x).trans (h.reachA x)
  reachB := fun x => (g.reachB x).trans (h.reachB x)
  ringN := fun x => (g.ringN x).trans (h.ringN x)
  bHeld := fun x => (g.bHeld x).trans (h.bHeld x)
  extQ := fun x => (g.extQ x).trans (h.extQ x)
  lastCount := fun x => (g.lastCount x).trans (h.lastCount x)
  completed := fun x => (g.completed x).trans (h.completed x)
  aborted := fun x => (g.aborted x).trans (h.aborted x)
  lastK := fun x => (g.lastK x).trans (h.lastK x)
  breakTick := fun x => (g.breakTick x).trans (h.breakTick x)
  held := fun x => (g.held x).trans (h.held x)

/-- `d` differs from `c` only in the fields of `W`. -/
structure MeasureK (W : Nat) (c d : Measure) : Prop where
  swa : W.testBit 213 = false → d.swa = c.swa
  swb : W.testBit 214 = false → d.swb = c.swb
  seqs : W.testBit 215 = false → d.seqs = c.seqs
  rings : W.testBit 216 = false → d.rings = c.rings
  cal : W.testBit 217 = false → d.cal = c.cal
  shorted : W.testBit 218 = false → d.shorted = c.shorted
  arrivals : W.testBit 219 = false → d.arrivals = c.arrivals
  due : W.testBit 220 = false → d.due = c.due
  results : W.testBit 221 = false → d.results = c.results
  firstVbat : W.testBit 222 = false → d.firstVbat = c.firstVbat
  crossed : W.testBit 223 = false → d.crossed = c.crossed
  tripped : W.testBit 224 = false → d.tripped = c.tripped
  trips : W.testBit 225 = false → d.trips = c.trips
  pairs : W.testBit 226 = false → d.pairs = c.pairs

theorem MeasureK.refl (W : Nat) (c : Measure) : MeasureK W c c := by constructor <;> exact fun _ => rfl

theorem MeasureK.trans {W : Nat} {c d e : Measure} (h : MeasureK W c d) (g : MeasureK W d e) : MeasureK W c e where
  swa := fun x => (g.swa x).trans (h.swa x)
  swb := fun x => (g.swb x).trans (h.swb x)
  seqs := fun x => (g.seqs x).trans (h.seqs x)
  rings := fun x => (g.rings x).trans (h.rings x)
  cal := fun x => (g.cal x).trans (h.cal x)
  shorted := fun x => (g.shorted x).trans (h.shorted x)
  arrivals := fun x => (g.arrivals x).trans (h.arrivals x)
  due := fun x => (g.due x).trans (h.due x)
  results := fun x => (g.results x).trans (h.results x)
  firstVbat := fun x => (g.firstVbat x).trans (h.firstVbat x)
  crossed := fun x => (g.crossed x).trans (h.crossed x)
  tripped := fun x => (g.tripped x).trans (h.tripped x)
  trips := fun x => (g.trips x).trans (h.trips x)
  pairs := fun x => (g.pairs x).trans (h.pairs x)

/-- `d` differs from `c` only in the fields of `W`. -/
structure FabricK (W : Nat) (c d : Fabric) : Prop where
  banks : W.testBit 227 = false → d.banks = c.banks
  errors : W.testBit 228 = false → d.errors = c.errors
  conflicts : W.testBit 229 = false → d.conflicts = c.conflicts
  waits : W.testBit 230 = false → d.waits = c.waits
  flips : W.testBit 231 = false → d.flips = c.flips

theorem FabricK.refl (W : Nat) (c : Fabric) : FabricK W c c := by constructor <;> exact fun _ => rfl

theorem FabricK.trans {W : Nat} {c d e : Fabric} (h : FabricK W c d) (g : FabricK W d e) : FabricK W c e where
  banks := fun x => (g.banks x).trans (h.banks x)
  errors := fun x => (g.errors x).trans (h.errors x)
  conflicts := fun x => (g.conflicts x).trans (h.conflicts x)
  waits := fun x => (g.waits x).trans (h.waits x)
  flips := fun x => (g.flips x).trans (h.flips x)

/-- `d` differs from `c` only in the fields of `W`. -/
structure IntakeK (W : Nat) (c d : Intake) : Prop where
  path : W.testBit 232 = false → d.path = c.path
  active : W.testBit 233 = false → d.active = c.active
  inputs : W.testBit 234 = false → d.inputs = c.inputs
  leaving : W.testBit 235 = false → d.leaving = c.leaving
  incoming : W.testBit 236 = false → d.incoming = c.incoming
  pairOff : W.testBit 237 = false → d.pairOff = c.pairOff
  pairFrom : W.testBit 238 = false → d.pairFrom = c.pairFrom
  kept : W.testBit 239 = false → d.kept = c.kept
  search : W.testBit 240 = false → d.search = c.search
  tc : W.testBit 241 = false → d.tc = c.tc
  rp : W.testBit 242 = false → d.rp = c.rp
  hardResets : W.testBit 243 = false → d.hardResets = c.hardResets
  silent : W.testBit 244 = false → d.silent = c.silent
  resetting : W.testBit 245 = false → d.resetting = c.resetting
  caps : W.testBit 246 = false → d.caps = c.caps
  choice : W.testBit 247 = false → d.choice = c.choice
  request : W.testBit 248 = false → d.request = c.request
  contract : W.testBit 249 = false → d.contract = c.contract
  oldMa : W.testBit 250 = false → d.oldMa = c.oldMa
  oldMv : W.testBit 251 = false → d.oldMv = c.oldMv
  pdQueue : W.testBit 252 = false → d.pdQueue = c.pdQueue
  pdSent : W.testBit 253 = false → d.pdSent = c.pdSent
  settling : W.testBit 254 = false → d.settling = c.settling
  psAt : W.testBit 255 = false → d.psAt = c.psAt
  reqAt : W.testBit 256 = false → d.reqAt = c.reqAt
  identity : W.testBit 257 = false → d.identity = c.identity
  ppsVbat : W.testBit 258 = false → d.ppsVbat = c.ppsVbat
  override_ : W.testBit 259 = false → d.override_ = c.override_
  gpio : W.testBit 260 = false → d.gpio = c.gpio
  cls : W.testBit 261 = false → d.cls = c.cls
  clsSrc : W.testBit 262 = false → d.clsSrc = c.clsSrc
  capNow : W.testBit 263 = false → d.capNow = c.capNow
  panelUp : W.testBit 264 = false → d.panelUp = c.panelUp
  panelPower : W.testBit 265 = false → d.panelPower = c.panelPower
  vocAt : W.testBit 266 = false → d.vocAt = c.vocAt
  ivStart : W.testBit 267 = false → d.ivStart = c.ivStart
  ivPartial : W.testBit 268 = false → d.ivPartial = c.ivPartial
  ivWindow : W.testBit 269 = false → d.ivWindow = c.ivWindow
  ivSource : W.testBit 270 = false → d.ivSource = c.ivSource
  ivMark : W.testBit 271 = false → d.ivMark = c.ivMark
  ivShift : W.testBit 272 = false → d.ivShift = c.ivShift
  lastHash : W.testBit 273 = false → d.lastHash = c.lastHash
  sigWait : W.testBit 274 = false → d.sigWait = c.sigWait
  sigForget : W.testBit 275 = false → d.sigForget = c.sigForget
  goodCrcs : W.testBit 276 = false → d.goodCrcs = c.goodCrcs

theorem IntakeK.refl (W : Nat) (c : Intake) : IntakeK W c c := by constructor <;> exact fun _ => rfl

theorem IntakeK.trans {W : Nat} {c d e : Intake} (h : IntakeK W c d) (g : IntakeK W d e) : IntakeK W c e where
  path := fun x => (g.path x).trans (h.path x)
  active := fun x => (g.active x).trans (h.active x)
  inputs := fun x => (g.inputs x).trans (h.inputs x)
  leaving := fun x => (g.leaving x).trans (h.leaving x)
  incoming := fun x => (g.incoming x).trans (h.incoming x)
  pairOff := fun x => (g.pairOff x).trans (h.pairOff x)
  pairFrom := fun x => (g.pairFrom x).trans (h.pairFrom x)
  kept := fun x => (g.kept x).trans (h.kept x)
  search := fun x => (g.search x).trans (h.search x)
  tc := fun x => (g.tc x).trans (h.tc x)
  rp := fun x => (g.rp x).trans (h.rp x)
  hardResets := fun x => (g.hardResets x).trans (h.hardResets x)
  silent := fun x => (g.silent x).trans (h.silent x)
  resetting := fun x => (g.resetting x).trans (h.resetting x)
  caps := fun x => (g.caps x).trans (h.caps x)
  choice := fun x => (g.choice x).trans (h.choice x)
  request := fun x => (g.request x).trans (h.request x)
  contract := fun x => (g.contract x).trans (h.contract x)
  oldMa := fun x => (g.oldMa x).trans (h.oldMa x)
  oldMv := fun x => (g.oldMv x).trans (h.oldMv x)
  pdQueue := fun x => (g.pdQueue x).trans (h.pdQueue x)
  pdSent := fun x => (g.pdSent x).trans (h.pdSent x)
  settling := fun x => (g.settling x).trans (h.settling x)
  psAt := fun x => (g.psAt x).trans (h.psAt x)
  reqAt := fun x => (g.reqAt x).trans (h.reqAt x)
  identity := fun x => (g.identity x).trans (h.identity x)
  ppsVbat := fun x => (g.ppsVbat x).trans (h.ppsVbat x)
  override_ := fun x => (g.override_ x).trans (h.override_ x)
  gpio := fun x => (g.gpio x).trans (h.gpio x)
  cls := fun x => (g.cls x).trans (h.cls x)
  clsSrc := fun x => (g.clsSrc x).trans (h.clsSrc x)
  capNow := fun x => (g.capNow x).trans (h.capNow x)
  panelUp := fun x => (g.panelUp x).trans (h.panelUp x)
  panelPower := fun x => (g.panelPower x).trans (h.panelPower x)
  vocAt := fun x => (g.vocAt x).trans (h.vocAt x)
  ivStart := fun x => (g.ivStart x).trans (h.ivStart x)
  ivPartial := fun x => (g.ivPartial x).trans (h.ivPartial x)
  ivWindow := fun x => (g.ivWindow x).trans (h.ivWindow x)
  ivSource := fun x => (g.ivSource x).trans (h.ivSource x)
  ivMark := fun x => (g.ivMark x).trans (h.ivMark x)
  ivShift := fun x => (g.ivShift x).trans (h.ivShift x)
  lastHash := fun x => (g.lastHash x).trans (h.lastHash x)
  sigWait := fun x => (g.sigWait x).trans (h.sigWait x)
  sigForget := fun x => (g.sigForget x).trans (h.sigForget x)
  goodCrcs := fun x => (g.goodCrcs x).trans (h.goodCrcs x)

/-- `d` differs from `c` only in the fields of `W`. -/
structure ChargerK (W : Nat) (c d : Charger) : Prop where
  phase : W.testBit 277 = false → d.phase = c.phase
  cause : W.testBit 278 = false → d.cause = c.cause
  setpoint : W.testBit 279 = false → d.setpoint = c.setpoint
  iPrev : W.testBit 280 = false → d.iPrev = c.iPrev
  iNext : W.testBit 281 = false → d.iNext = c.iNext
  iTop : W.testBit 282 = false → d.iTop = c.iTop
  clamped : W.testBit 283 = false → d.clamped = c.clamped
  iClamp : W.testBit 284 = false → d.iClamp = c.iClamp
  inRest : W.testBit 285 = false → d.inRest = c.inRest
  bootRest : W.testBit 286 = false → d.bootRest = c.bootRest
  restAt : W.testBit 287 = false → d.restAt = c.restAt
  phaseAt : W.testBit 288 = false → d.phaseAt = c.phaseAt
  secs : W.testBit 289 = false → d.secs = c.secs
  rise : W.testBit 290 = false → d.rise = c.rise
  rise1 : W.testBit 291 = false → d.rise1 = c.rise1
  discardRest : W.testBit 292 = false → d.discardRest = c.discardRest
  vEndPrev : W.testBit 293 = false → d.vEndPrev = c.vEndPrev
  inhibit : W.testBit 294 = false → d.inhibit = c.inhibit
  stop : W.testBit 295 = false → d.stop = c.stop
  timeout : W.testBit 296 = false → d.timeout = c.timeout
  removed : W.testBit 297 = false → d.removed = c.removed
  recoveryFailed : W.testBit 298 = false → d.recoveryFailed = c.recoveryFailed
  tsHold : W.testBit 299 = false → d.tsHold = c.tsHold
  temp : W.testBit 300 = false → d.temp = c.temp
  band : W.testBit 301 = false → d.band = c.band
  bandNum : W.testBit 302 = false → d.bandNum = c.bandNum
  bandDv : W.testBit 303 = false → d.bandDv = c.bandDv
  otHit : W.testBit 304 = false → d.otHit = c.otHit
  timerAcc : W.testBit 305 = false → d.timerAcc = c.timerAcc
  timerSince : W.testBit 306 = false → d.timerSince = c.timerSince
  preAcc : W.testBit 307 = false → d.preAcc = c.preAcc
  dcir1 : W.testBit 308 = false → d.dcir1 = c.dcir1
  dcir50 : W.testBit 309 = false → d.dcir50 = c.dcir50
  ocvEst : W.testBit 310 = false → d.ocvEst = c.ocvEst
  slope : W.testBit 311 = false → d.slope = c.slope
  pulses : W.testBit 312 = false → d.pulses = c.pulses
  invalid : W.testBit 313 = false → d.invalid = c.invalid
  session : W.testBit 314 = false → d.session = c.session

theorem ChargerK.refl (W : Nat) (c : Charger) : ChargerK W c c := by constructor <;> exact fun _ => rfl

theorem ChargerK.trans {W : Nat} {c d e : Charger} (h : ChargerK W c d) (g : ChargerK W d e) : ChargerK W c e where
  phase := fun x => (g.phase x).trans (h.phase x)
  cause := fun x => (g.cause x).trans (h.cause x)
  setpoint := fun x => (g.setpoint x).trans (h.setpoint x)
  iPrev := fun x => (g.iPrev x).trans (h.iPrev x)
  iNext := fun x => (g.iNext x).trans (h.iNext x)
  iTop := fun x => (g.iTop x).trans (h.iTop x)
  clamped := fun x => (g.clamped x).trans (h.clamped x)
  iClamp := fun x => (g.iClamp x).trans (h.iClamp x)
  inRest := fun x => (g.inRest x).trans (h.inRest x)
  bootRest := fun x => (g.bootRest x).trans (h.bootRest x)
  restAt := fun x => (g.restAt x).trans (h.restAt x)
  phaseAt := fun x => (g.phaseAt x).trans (h.phaseAt x)
  secs := fun x => (g.secs x).trans (h.secs x)
  rise := fun x => (g.rise x).trans (h.rise x)
  rise1 := fun x => (g.rise1 x).trans (h.rise1 x)
  discardRest := fun x => (g.discardRest x).trans (h.discardRest x)
  vEndPrev := fun x => (g.vEndPrev x).trans (h.vEndPrev x)
  inhibit := fun x => (g.inhibit x).trans (h.inhibit x)
  stop := fun x => (g.stop x).trans (h.stop x)
  timeout := fun x => (g.timeout x).trans (h.timeout x)
  removed := fun x => (g.removed x).trans (h.removed x)
  recoveryFailed := fun x => (g.recoveryFailed x).trans (h.recoveryFailed x)
  tsHold := fun x => (g.tsHold x).trans (h.tsHold x)
  temp := fun x => (g.temp x).trans (h.temp x)
  band := fun x => (g.band x).trans (h.band x)
  bandNum := fun x => (g.bandNum x).trans (h.bandNum x)
  bandDv := fun x => (g.bandDv x).trans (h.bandDv x)
  otHit := fun x => (g.otHit x).trans (h.otHit x)
  timerAcc := fun x => (g.timerAcc x).trans (h.timerAcc x)
  timerSince := fun x => (g.timerSince x).trans (h.timerSince x)
  preAcc := fun x => (g.preAcc x).trans (h.preAcc x)
  dcir1 := fun x => (g.dcir1 x).trans (h.dcir1 x)
  dcir50 := fun x => (g.dcir50 x).trans (h.dcir50 x)
  ocvEst := fun x => (g.ocvEst x).trans (h.ocvEst x)
  slope := fun x => (g.slope x).trans (h.slope x)
  pulses := fun x => (g.pulses x).trans (h.pulses x)
  invalid := fun x => (g.invalid x).trans (h.invalid x)
  session := fun x => (g.session x).trans (h.session x)

/-- `d` differs from `c` only in the fields of `W`. -/
structure GaugeK (W : Nat) (c d : Gauge) : Prop where
  have_ : W.testBit 315 = false → d.have_ = c.have_
  updAt : W.testBit 316 = false → d.updAt = c.updAt
  quiet : W.testBit 317 = false → d.quiet = c.quiet
  low : W.testBit 318 = false → d.low = c.low
  rem : W.testBit 319 = false → d.rem = c.rem
  full : W.testBit 320 = false → d.full = c.full
  soc : W.testBit 321 = false → d.soc = c.soc
  rep : W.testBit 322 = false → d.rep = c.rep
  prov : W.testBit 323 = false → d.prov = c.prov
  fullHold : W.testBit 324 = false → d.fullHold = c.fullHold
  empty : W.testBit 325 = false → d.empty = c.empty
  disagree : W.testBit 326 = false → d.disagree = c.disagree
  anchorValid : W.testBit 327 = false → d.anchorValid = c.anchorValid
  anchorKind : W.testBit 328 = false → d.anchorKind = c.anchorKind
  anchorS : W.testBit 329 = false → d.anchorS = c.anchorS
  anchorN : W.testBit 330 = false → d.anchorN = c.anchorN
  anchorSeq : W.testBit 331 = false → d.anchorSeq = c.anchorSeq
  tempsOk : W.testBit 332 = false → d.tempsOk = c.tempsOk
  dcir : W.testBit 333 = false → d.dcir = c.dcir
  cycle : W.testBit 334 = false → d.cycle = c.cycle
  disch : W.testBit 335 = false → d.disch = c.disch
  tmin : W.testBit 336 = false → d.tmin = c.tmin
  tmax : W.testBit 337 = false → d.tmax = c.tmax
  credit : W.testBit 338 = false → d.credit = c.credit
  lastNet : W.testBit 339 = false → d.lastNet = c.lastNet
  lastOut : W.testBit 340 = false → d.lastOut = c.lastOut
  saved : W.testBit 341 = false → d.saved = c.saved
  longShip : W.testBit 342 = false → d.longShip = c.longShip
  gapSeen : W.testBit 343 = false → d.gapSeen = c.gapSeen
  boot : W.testBit 344 = false → d.boot = c.boot

theorem GaugeK.refl (W : Nat) (c : Gauge) : GaugeK W c c := by constructor <;> exact fun _ => rfl

theorem GaugeK.trans {W : Nat} {c d e : Gauge} (h : GaugeK W c d) (g : GaugeK W d e) : GaugeK W c e where
  have_ := fun x => (g.have_ x).trans (h.have_ x)
  updAt := fun x => (g.updAt x).trans (h.updAt x)
  quiet := fun x => (g.quiet x).trans (h.quiet x)
  low := fun x => (g.low x).trans (h.low x)
  rem := fun x => (g.rem x).trans (h.rem x)
  full := fun x => (g.full x).trans (h.full x)
  soc := fun x => (g.soc x).trans (h.soc x)
  rep := fun x => (g.rep x).trans (h.rep x)
  prov := fun x => (g.prov x).trans (h.prov x)
  fullHold := fun x => (g.fullHold x).trans (h.fullHold x)
  empty := fun x => (g.empty x).trans (h.empty x)
  disagree := fun x => (g.disagree x).trans (h.disagree x)
  anchorValid := fun x => (g.anchorValid x).trans (h.anchorValid x)
  anchorKind := fun x => (g.anchorKind x).trans (h.anchorKind x)
  anchorS := fun x => (g.anchorS x).trans (h.anchorS x)
  anchorN := fun x => (g.anchorN x).trans (h.anchorN x)
  anchorSeq := fun x => (g.anchorSeq x).trans (h.anchorSeq x)
  tempsOk := fun x => (g.tempsOk x).trans (h.tempsOk x)
  dcir := fun x => (g.dcir x).trans (h.dcir x)
  cycle := fun x => (g.cycle x).trans (h.cycle x)
  disch := fun x => (g.disch x).trans (h.disch x)
  tmin := fun x => (g.tmin x).trans (h.tmin x)
  tmax := fun x => (g.tmax x).trans (h.tmax x)
  credit := fun x => (g.credit x).trans (h.credit x)
  lastNet := fun x => (g.lastNet x).trans (h.lastNet x)
  lastOut := fun x => (g.lastOut x).trans (h.lastOut x)
  saved := fun x => (g.saved x).trans (h.saved x)
  longShip := fun x => (g.longShip x).trans (h.longShip x)
  gapSeen := fun x => (g.gapSeen x).trans (h.gapSeen x)
  boot := fun x => (g.boot x).trans (h.boot x)

/-- `d` differs from `c` only in the fields of `W`. -/
structure SupplyK (W : Nat) (c d : Supply) : Prop where
  vauxFold : W.testBit 345 = false → d.vauxFold = c.vauxFold
  bmdFold : W.testBit 346 = false → d.bmdFold = c.bmdFold

theorem SupplyK.refl (W : Nat) (c : Supply) : SupplyK W c c := by constructor <;> exact fun _ => rfl

theorem SupplyK.trans {W : Nat} {c d e : Supply} (h : SupplyK W c d) (g : SupplyK W d e) : SupplyK W c e where
  vauxFold := fun x => (g.vauxFold x).trans (h.vauxFold x)
  bmdFold := fun x => (g.bmdFold x).trans (h.bmdFold x)

/-- `d` differs from `c` only in the fields of `W`. -/
structure TapK (W : Nat) (c d : Tap) : Prop where
  ctl : W.testBit 347 = false → d.ctl = c.ctl
  ir : W.testBit 348 = false → d.ir = c.ir
  cells : W.testBit 349 = false → d.cells = c.cells
  tdo : W.testBit 350 = false → d.tdo = c.tdo
  testEn : W.testBit 351 = false → d.testEn = c.testEn

theorem TapK.refl (W : Nat) (c : Tap) : TapK W c c := by constructor <;> exact fun _ => rfl

theorem TapK.trans {W : Nat} {c d e : Tap} (h : TapK W c d) (g : TapK W d e) : TapK W c e where
  ctl := fun x => (g.ctl x).trans (h.ctl x)
  ir := fun x => (g.ir x).trans (h.ir x)
  cells := fun x => (g.cells x).trans (h.cells x)
  tdo := fun x => (g.tdo x).trans (h.tdo x)
  testEn := fun x => (g.testEn x).trans (h.testEn x)

/-- `s` differs from `a` only in the blocks of `W` (bit numbers follow the fields of State, and from 30 on the fields of its blocks; the last bit stands for held events that go). -/
structure Keeps (W : Nat) (a s : State) : Prop where
  pending : s.pending = a.pending
  free_le : a.free ≤ s.free
  memOk : memWf a.mem = true → memWf s.mem = true
  free : W.testBit 1 = false → s.free = a.free
  mem : W.testBit 2 = false → s.mem = a.mem
  aon : W.testBit 3 = false → s.aon = a.aon
  clk : W.testBit 4 = false → s.clk = a.clk
  core : W.testBit 5 = false → s.core = a.core
  ports : W.testBit 6 = false → s.ports = a.ports
  i3c : W.testBit 7 = false → s.i3c = a.i3c
  uart : W.testBit 8 = false → s.uart = a.uart
  tenants : W.testBit 9 = false → s.tenants = a.tenants
  ops : W.testBit 10 = false → s.ops = a.ops
  owed : W.testBit 11 = false → s.owed = a.owed
  deferred : W.testBit 12 = false → s.deferred = a.deferred
  par : W.testBit 13 = false → s.par = a.par
  nv : W.testBit 14 = false → s.nv = a.nv
  fw : W.testBit 15 = false → s.fw = a.fw
  log : W.testBit 16 = false → s.log = a.log
  bg : W.testBit 17 = false → s.bg = a.bg
  rails : W.testBit 18 = false → s.rails = a.rails
  eng : W.testBit 19 = false → s.eng = a.eng
  sup : W.testBit 20 = false → s.sup = a.sup
  cap : W.testBit 21 = false → s.cap = a.cap
  tags : W.testBit 22 = false → s.tags = a.tags
  msr : W.testBit 23 = false → s.msr = a.msr
  fab : W.testBit 24 = false → s.fab = a.fab
  inp : W.testBit 25 = false → s.inp = a.inp
  chg : W.testBit 26 = false → s.chg = a.chg
  gau : W.testBit 27 = false → s.gau = a.gau
  supply : W.testBit 28 = false → s.supply = a.supply
  tap : W.testBit 29 = false → s.tap = a.tap
  aonK : AonK W a.aon s.aon
  clkK : ClocksK W a.clk s.clk
  coreK : CoreBlkK W a.core s.core
  i3cK : I3cBusK W a.i3c s.i3c
  uartK : UartBusK W a.uart s.uart
  parK : ParamStoreK W a.par s.par
  nvK : NvK W a.nv s.nv
  fwK : FwUpdateK W a.fw s.fw
  logK : SinterK W a.log s.log
  bgK : BackgroundK W a.bg s.bg
  engK : EngineK W a.eng s.eng
  supK : SupK W a.sup s.sup
  capK : CalderaK W a.cap s.cap
  tagsK : TagsK W a.tags s.tags
  msrK : MeasureK W a.msr s.msr
  fabK : FabricK W a.fab s.fab
  inpK : IntakeK W a.inp s.inp
  chgK : ChargerK W a.chg s.chg
  gauK : GaugeK W a.gau s.gau
  supplyK : SupplyK W a.supply s.supply
  tapK : TapK W a.tap s.tap
  held : W.testBit 352 = false → ∀ d ∈ a.deferred, d ∈ s.deferred

/-- Every block of `w` is one of `W`. -/
def Sub (w W : Nat) : Prop := ∀ i, w.testBit i = true → W.testBit i = true

theorem Sub.of {v w W : Nat} (hv : v &&& w = v) (h : Sub w W) : Sub v W := fun i hi =>
  h i (by have := congrArg (fun n => n.testBit i) hv; simp only [Nat.testBit_and] at this; rw [hi] at this; simpa using this)

theorem Sub.bit {w W i : Nat} (hi : w.testBit i = true) (h : Sub w W) : W.testBit i = true := h i hi

theorem Sub.refl (W : Nat) : Sub W W := fun _ h => h

theorem Keeps.refl (W : Nat) (a : State) : Keeps W a a := by
  constructor <;> first | rfl | exact Nat.le_refl _ | exact id | exact fun _ => rfl | exact fun _ _ h => h | exact AonK.refl _ _ | exact ClocksK.refl _ _ | exact CoreBlkK.refl _ _ | exact I3cBusK.refl _ _ | exact UartBusK.refl _ _ | exact ParamStoreK.refl _ _ | exact NvK.refl _ _ | exact FwUpdateK.refl _ _ | exact SinterK.refl _ _ | exact BackgroundK.refl _ _ | exact EngineK.refl _ _ | exact SupK.refl _ _ | exact CalderaK.refl _ _ | exact TagsK.refl _ _ | exact MeasureK.refl _ _ | exact FabricK.refl _ _ | exact IntakeK.refl _ _ | exact ChargerK.refl _ _ | exact GaugeK.refl _ _ | exact SupplyK.refl _ _ | exact TapK.refl _ _

theorem Keeps.trans {W : Nat} {a s t : State} (h : Keeps W a s) (g : Keeps W s t) : Keeps W a t where
  pending := g.pending.trans h.pending
  free_le := Nat.le_trans h.free_le g.free_le
  memOk := fun x => g.memOk (h.memOk x)
  free := fun x => (g.free x).trans (h.free x)
  mem := fun x => (g.mem x).trans (h.mem x)
  aon := fun x => (g.aon x).trans (h.aon x)
  clk := fun x => (g.clk x).trans (h.clk x)
  core := fun x => (g.core x).trans (h.core x)
  ports := fun x => (g.ports x).trans (h.ports x)
  i3c := fun x => (g.i3c x).trans (h.i3c x)
  uart := fun x => (g.uart x).trans (h.uart x)
  tenants := fun x => (g.tenants x).trans (h.tenants x)
  ops := fun x => (g.ops x).trans (h.ops x)
  owed := fun x => (g.owed x).trans (h.owed x)
  deferred := fun x => (g.deferred x).trans (h.deferred x)
  par := fun x => (g.par x).trans (h.par x)
  nv := fun x => (g.nv x).trans (h.nv x)
  fw := fun x => (g.fw x).trans (h.fw x)
  log := fun x => (g.log x).trans (h.log x)
  bg := fun x => (g.bg x).trans (h.bg x)
  rails := fun x => (g.rails x).trans (h.rails x)
  eng := fun x => (g.eng x).trans (h.eng x)
  sup := fun x => (g.sup x).trans (h.sup x)
  cap := fun x => (g.cap x).trans (h.cap x)
  tags := fun x => (g.tags x).trans (h.tags x)
  msr := fun x => (g.msr x).trans (h.msr x)
  fab := fun x => (g.fab x).trans (h.fab x)
  inp := fun x => (g.inp x).trans (h.inp x)
  chg := fun x => (g.chg x).trans (h.chg x)
  gau := fun x => (g.gau x).trans (h.gau x)
  supply := fun x => (g.supply x).trans (h.supply x)
  tap := fun x => (g.tap x).trans (h.tap x)
  aonK := h.aonK.trans g.aonK
  clkK := h.clkK.trans g.clkK
  coreK := h.coreK.trans g.coreK
  i3cK := h.i3cK.trans g.i3cK
  uartK := h.uartK.trans g.uartK
  parK := h.parK.trans g.parK
  nvK := h.nvK.trans g.nvK
  fwK := h.fwK.trans g.fwK
  logK := h.logK.trans g.logK
  bgK := h.bgK.trans g.bgK
  engK := h.engK.trans g.engK
  supK := h.supK.trans g.supK
  capK := h.capK.trans g.capK
  tagsK := h.tagsK.trans g.tagsK
  msrK := h.msrK.trans g.msrK
  fabK := h.fabK.trans g.fabK
  inpK := h.inpK.trans g.inpK
  chgK := h.chgK.trans g.chgK
  gauK := h.gauK.trans g.gauK
  supplyK := h.supplyK.trans g.supplyK
  tapK := h.tapK.trans g.tapK
  held := fun x d hd => g.held x d (h.held x d hd)

theorem Keeps.ite {W : Nat} {a s t : State} {c : Prop} [Decidable c] (h : Keeps W a s) (g : Keeps W a t) :
    Keeps W a (if c then s else t) := by split <;> assumption

theorem Keeps.ite2 {W : Nat} {a : State} {α : Type} {x y : α × State} {c : Prop} [Decidable c] (h : Keeps W a x.2) (g : Keeps W a y.2) :
    Keeps W a (if c then x else y).2 := by split <;> assumption

theorem Keeps.ite5 {W : Nat} {a : State} {α β : Type} {x y : α × β × State} {c : Prop} [Decidable c] (h : Keeps W a x.2.2)
    (g : Keeps W a y.2.2) : Keeps W a (if c then x else y).2.2 := by split <;> assumption

theorem Keeps.foldl {W : Nat} {a : State} {α : Type} {f : State → α → State} {l : List α} {s : State}
    (hf : ∀ (t : State) (x : α), Keeps W a t → Keeps W a (f t x)) (h : Keeps W a s) : Keeps W a (l.foldl f s) := by
  induction l generalizing s with
  | nil => exact h
  | cons x l ih => exact ih (hf _ _ h)

theorem Keeps.ofEq2 {W : Nat} {a s : State} {α : Type} {p : α × State} {x : α} (h : p = (x, s)) (k : Keeps W a p.2) : Keeps W a s := by
  subst h; exact k

theorem Keeps.ofEq5 {W : Nat} {a s : State} {α β : Type} {p : α × β × State} {x : α} {y : β} (h : p = (x, y, s)) (k : Keeps W a p.2.2) :
    Keeps W a s := by subst h; exact k

theorem Keeps.getD {W : Nat} {a d : State} {o : Option State} (h : ∀ t, o = some t → Keeps W a t) (g : Keeps W a d) :
    Keeps W a (o.getD d) := by
  cases o with
  | none => exact g
  | some t => exact h t rfl

theorem Keeps.getDmap {W : Nat} {a d : State} {α : Type} {o : Option (α × State)} (h : ∀ t, o = some t → Keeps W a t.2) (g : Keeps W a d) :
    Keeps W a ((o.map (fun x => x.2)).getD d) := by
  cases o with
  | none => exact g
  | some t => exact h t rfl

/-- What a command's body answers keeps what `W` does not hold. -/
inductive KeepsR (W : Nat) (a : State) : Reply → Prop where
  | done {st : Nat} {p : Bytes} {s : State} : Keeps W a s → KeepsR W a (.done st p s)
  | doneThen {st : Nat} {p : Bytes} {s : State} {k : State → State} :
      Keeps W a s → (∀ t, Keeps W a t → Keeps W a (k t)) → KeepsR W a (.doneThen st p s k)
  | accepted {s : State} : Keeps W a s → KeepsR W a (.accepted s)
  | owed {s : State} : Keeps W a s → KeepsR W a (.owed s)

/-- A command whose body keeps what `W` does not hold. -/
def KeepsC (W : Nat) (a : State) (d : CmdDef) : Prop := ∀ r p t, Keeps W a t → KeepsR W a (d.body r p t)

/-- A list of such commands. -/
def KeepsL (W : Nat) (a : State) (l : List CmdDef) : Prop := ∀ d ∈ l, KeepsC W a d

theorem KeepsL.nil {W : Nat} {a : State} : KeepsL W a [] := fun _ h => absurd h List.not_mem_nil

theorem KeepsL.cons {W : Nat} {a : State} {d : CmdDef} {l : List CmdDef} (h : KeepsC W a d) (g : KeepsL W a l) : KeepsL W a (d :: l) :=
  List.forall_mem_cons.2 ⟨h, g⟩

theorem KeepsL.append {W : Nat} {a : State} {l m : List CmdDef} (h : KeepsL W a l) (g : KeepsL W a m) : KeepsL W a (l ++ m) :=
  List.forall_mem_append.2 ⟨h, g⟩

theorem KeepsR.ite {W : Nat} {a : State} {x y : Reply} {c : Prop} [Decidable c] (h : KeepsR W a x) (g : KeepsR W a y) :
    KeepsR W a (if c then x else y) := by split <;> assumption

theorem Keeps.upd_1 {W : Nat} {a s : State} {v1 : Nat} (h1 : W.testBit 1 = true) (hf : s.free ≤ v1)
    (h : Keeps W a s) : Keeps W a { s with free := v1 } :=
  { pending := h.pending, free_le := Nat.le_trans h.free_le hf, memOk := h.memOk, free := fun x => absurd x (by simp [h1]),
    mem := h.mem, aon := h.aon, clk := h.clk, core := h.core, ports := h.ports, i3c := h.i3c, uart := h.uart,
    tenants := h.tenants, ops := h.ops, owed := h.owed, deferred := h.deferred, par := h.par, nv := h.nv, fw := h.fw,
    log := h.log, bg := h.bg, rails := h.rails, eng := h.eng, sup := h.sup, cap := h.cap, tags := h.tags, msr := h.msr,
    fab := h.fab, inp := h.inp, chg := h.chg, gau := h.gau, supply := h.supply, tap := h.tap, aonK := h.aonK, clkK := h.clkK,
    coreK := h.coreK, i3cK := h.i3cK, uartK := h.uartK, parK := h.parK, nvK := h.nvK, fwK := h.fwK, logK := h.logK,
    bgK := h.bgK, engK := h.engK, supK := h.supK, capK := h.capK, tagsK := h.tagsK, msrK := h.msrK, fabK := h.fabK,
    inpK := h.inpK, chgK := h.chgK, gauK := h.gauK, supplyK := h.supplyK, tapK := h.tapK, held := h.held }

theorem Keeps.upd_1_21 {W : Nat} {a s : State} {v1 : Nat} {v21 : Caldera} (h1 : W.testBit 1 = true) (h21 : W.testBit 21 = true) (hf : s.free ≤ v1) (hk21 : CalderaK W s.cap v21)
    (h : Keeps W a s) : Keeps W a { s with free := v1, cap := v21 } :=
  { pending := h.pending, free_le := Nat.le_trans h.free_le hf, memOk := h.memOk, free := fun x => absurd x (by simp [h1]),
    mem := h.mem, aon := h.aon, clk := h.clk, core := h.core, ports := h.ports, i3c := h.i3c, uart := h.uart,
    tenants := h.tenants, ops := h.ops, owed := h.owed, deferred := h.deferred, par := h.par, nv := h.nv, fw := h.fw,
    log := h.log, bg := h.bg, rails := h.rails, eng := h.eng, sup := h.sup, cap := fun x => absurd x (by simp [h21]),
    tags := h.tags, msr := h.msr, fab := h.fab, inp := h.inp, chg := h.chg, gau := h.gau, supply := h.supply, tap := h.tap,
    aonK := h.aonK, clkK := h.clkK, coreK := h.coreK, i3cK := h.i3cK, uartK := h.uartK, parK := h.parK, nvK := h.nvK,
    fwK := h.fwK, logK := h.logK, bgK := h.bgK, engK := h.engK, supK := h.supK, capK := h.capK.trans hk21, tagsK := h.tagsK,
    msrK := h.msrK, fabK := h.fabK, inpK := h.inpK, chgK := h.chgK, gauK := h.gauK, supplyK := h.supplyK, tapK := h.tapK,
    held := h.held }

theorem Keeps.upd_2 {W : Nat} {a s : State} {v2 : List Host.Cell} (h2 : W.testBit 2 = true) (hm : memWf s.mem = true → memWf v2 = true)
    (h : Keeps W a s) : Keeps W a { s with mem := v2 } :=
  { pending := h.pending, free_le := h.free_le, memOk := fun x => hm (h.memOk x), free := h.free,
    mem := fun x => absurd x (by simp [h2]), aon := h.aon, clk := h.clk, core := h.core, ports := h.ports, i3c := h.i3c,
    uart := h.uart, tenants := h.tenants, ops := h.ops, owed := h.owed, deferred := h.deferred, par := h.par, nv := h.nv,
    fw := h.fw, log := h.log, bg := h.bg, rails := h.rails, eng := h.eng, sup := h.sup, cap := h.cap, tags := h.tags,
    msr := h.msr, fab := h.fab, inp := h.inp, chg := h.chg, gau := h.gau, supply := h.supply, tap := h.tap, aonK := h.aonK,
    clkK := h.clkK, coreK := h.coreK, i3cK := h.i3cK, uartK := h.uartK, parK := h.parK, nvK := h.nvK, fwK := h.fwK,
    logK := h.logK, bgK := h.bgK, engK := h.engK, supK := h.supK, capK := h.capK, tagsK := h.tagsK, msrK := h.msrK,
    fabK := h.fabK, inpK := h.inpK, chgK := h.chgK, gauK := h.gauK, supplyK := h.supplyK, tapK := h.tapK, held := h.held }

theorem Keeps.upd_3 {W : Nat} {a s : State} {v3 : Aon} (h3 : W.testBit 3 = true) (hk3 : AonK W s.aon v3)
    (h : Keeps W a s) : Keeps W a { s with aon := v3 } :=
  { pending := h.pending, free_le := h.free_le, memOk := h.memOk, free := h.free, mem := h.mem,
    aon := fun x => absurd x (by simp [h3]), clk := h.clk, core := h.core, ports := h.ports, i3c := h.i3c, uart := h.uart,
    tenants := h.tenants, ops := h.ops, owed := h.owed, deferred := h.deferred, par := h.par, nv := h.nv, fw := h.fw,
    log := h.log, bg := h.bg, rails := h.rails, eng := h.eng, sup := h.sup, cap := h.cap, tags := h.tags, msr := h.msr,
    fab := h.fab, inp := h.inp, chg := h.chg, gau := h.gau, supply := h.supply, tap := h.tap, aonK := h.aonK.trans hk3,
    clkK := h.clkK, coreK := h.coreK, i3cK := h.i3cK, uartK := h.uartK, parK := h.parK, nvK := h.nvK, fwK := h.fwK,
    logK := h.logK, bgK := h.bgK, engK := h.engK, supK := h.supK, capK := h.capK, tagsK := h.tagsK, msrK := h.msrK,
    fabK := h.fabK, inpK := h.inpK, chgK := h.chgK, gauK := h.gauK, supplyK := h.supplyK, tapK := h.tapK, held := h.held }

theorem Keeps.upd_3_5_6_14_18_19_22_25_28 {W : Nat} {a s : State} {v3 : Aon} {v5 : CoreBlk} {v6 : Vector Port 4} {v14 : Nv} {v18 : Vector Rail 24} {v19 : Engine} {v22 : Tags} {v25 : Intake} {v28 : Supply} (h3 : W.testBit 3 = true) (h5 : W.testBit 5 = true) (h6 : W.testBit 6 = true) (h14 : W.testBit 14 = true) (h18 : W.testBit 18 = true) (h19 : W.testBit 19 = true) (h22 : W.testBit 22 = true) (h25 : W.testBit 25 = true) (h28 : W.testBit 28 = true) (hk3 : AonK W s.aon v3) (hk5 : CoreBlkK W s.core v5) (hk14 : NvK W s.nv v14) (hk19 : EngineK W s.eng v19) (hk22 : TagsK W s.tags v22) (hk25 : IntakeK W s.inp v25) (hk28 : SupplyK W s.supply v28)
    (h : Keeps W a s) : Keeps W a { s with aon := v3, core := v5, ports := v6, nv := v14, rails := v18, eng := v19, tags := v22, inp := v25, supply := v28 } :=
  { pending := h.pending, free_le := h.free_le, memOk := h.memOk, free := h.free, mem := h.mem,
    aon := fun x => absurd x (by simp [h3]), clk := h.clk, core := fun x => absurd x (by simp [h5]),
    ports := fun x => absurd x (by simp [h6]), i3c := h.i3c, uart := h.uart, tenants := h.tenants, ops := h.ops,
    owed := h.owed, deferred := h.deferred, par := h.par, nv := fun x => absurd x (by simp [h14]), fw := h.fw, log := h.log,
    bg := h.bg, rails := fun x => absurd x (by simp [h18]), eng := fun x => absurd x (by simp [h19]), sup := h.sup,
    cap := h.cap, tags := fun x => absurd x (by simp [h22]), msr := h.msr, fab := h.fab,
    inp := fun x => absurd x (by simp [h25]), chg := h.chg, gau := h.gau, supply := fun x => absurd x (by simp [h28]),
    tap := h.tap, aonK := h.aonK.trans hk3, clkK := h.clkK, coreK := h.coreK.trans hk5, i3cK := h.i3cK, uartK := h.uartK,
    parK := h.parK, nvK := h.nvK.trans hk14, fwK := h.fwK, logK := h.logK, bgK := h.bgK, engK := h.engK.trans hk19,
    supK := h.supK, capK := h.capK, tagsK := h.tagsK.trans hk22, msrK := h.msrK, fabK := h.fabK, inpK := h.inpK.trans hk25,
    chgK := h.chgK, gauK := h.gauK, supplyK := h.supplyK.trans hk28, tapK := h.tapK, held := h.held }

theorem Keeps.upd_4 {W : Nat} {a s : State} {v4 : Clocks} (h4 : W.testBit 4 = true) (hk4 : ClocksK W s.clk v4)
    (h : Keeps W a s) : Keeps W a { s with clk := v4 } :=
  { pending := h.pending, free_le := h.free_le, memOk := h.memOk, free := h.free, mem := h.mem, aon := h.aon,
    clk := fun x => absurd x (by simp [h4]), core := h.core, ports := h.ports, i3c := h.i3c, uart := h.uart,
    tenants := h.tenants, ops := h.ops, owed := h.owed, deferred := h.deferred, par := h.par, nv := h.nv, fw := h.fw,
    log := h.log, bg := h.bg, rails := h.rails, eng := h.eng, sup := h.sup, cap := h.cap, tags := h.tags, msr := h.msr,
    fab := h.fab, inp := h.inp, chg := h.chg, gau := h.gau, supply := h.supply, tap := h.tap, aonK := h.aonK,
    clkK := h.clkK.trans hk4, coreK := h.coreK, i3cK := h.i3cK, uartK := h.uartK, parK := h.parK, nvK := h.nvK, fwK := h.fwK,
    logK := h.logK, bgK := h.bgK, engK := h.engK, supK := h.supK, capK := h.capK, tagsK := h.tagsK, msrK := h.msrK,
    fabK := h.fabK, inpK := h.inpK, chgK := h.chgK, gauK := h.gauK, supplyK := h.supplyK, tapK := h.tapK, held := h.held }

theorem Keeps.upd_5 {W : Nat} {a s : State} {v5 : CoreBlk} (h5 : W.testBit 5 = true) (hk5 : CoreBlkK W s.core v5)
    (h : Keeps W a s) : Keeps W a { s with core := v5 } :=
  { pending := h.pending, free_le := h.free_le, memOk := h.memOk, free := h.free, mem := h.mem, aon := h.aon, clk := h.clk,
    core := fun x => absurd x (by simp [h5]), ports := h.ports, i3c := h.i3c, uart := h.uart, tenants := h.tenants,
    ops := h.ops, owed := h.owed, deferred := h.deferred, par := h.par, nv := h.nv, fw := h.fw, log := h.log, bg := h.bg,
    rails := h.rails, eng := h.eng, sup := h.sup, cap := h.cap, tags := h.tags, msr := h.msr, fab := h.fab, inp := h.inp,
    chg := h.chg, gau := h.gau, supply := h.supply, tap := h.tap, aonK := h.aonK, clkK := h.clkK, coreK := h.coreK.trans hk5,
    i3cK := h.i3cK, uartK := h.uartK, parK := h.parK, nvK := h.nvK, fwK := h.fwK, logK := h.logK, bgK := h.bgK, engK := h.engK,
    supK := h.supK, capK := h.capK, tagsK := h.tagsK, msrK := h.msrK, fabK := h.fabK, inpK := h.inpK, chgK := h.chgK,
    gauK := h.gauK, supplyK := h.supplyK, tapK := h.tapK, held := h.held }

theorem Keeps.upd_5_14 {W : Nat} {a s : State} {v5 : CoreBlk} {v14 : Nv} (h5 : W.testBit 5 = true) (h14 : W.testBit 14 = true) (hk5 : CoreBlkK W s.core v5) (hk14 : NvK W s.nv v14)
    (h : Keeps W a s) : Keeps W a { s with core := v5, nv := v14 } :=
  { pending := h.pending, free_le := h.free_le, memOk := h.memOk, free := h.free, mem := h.mem, aon := h.aon, clk := h.clk,
    core := fun x => absurd x (by simp [h5]), ports := h.ports, i3c := h.i3c, uart := h.uart, tenants := h.tenants,
    ops := h.ops, owed := h.owed, deferred := h.deferred, par := h.par, nv := fun x => absurd x (by simp [h14]), fw := h.fw,
    log := h.log, bg := h.bg, rails := h.rails, eng := h.eng, sup := h.sup, cap := h.cap, tags := h.tags, msr := h.msr,
    fab := h.fab, inp := h.inp, chg := h.chg, gau := h.gau, supply := h.supply, tap := h.tap, aonK := h.aonK, clkK := h.clkK,
    coreK := h.coreK.trans hk5, i3cK := h.i3cK, uartK := h.uartK, parK := h.parK, nvK := h.nvK.trans hk14, fwK := h.fwK,
    logK := h.logK, bgK := h.bgK, engK := h.engK, supK := h.supK, capK := h.capK, tagsK := h.tagsK, msrK := h.msrK,
    fabK := h.fabK, inpK := h.inpK, chgK := h.chgK, gauK := h.gauK, supplyK := h.supplyK, tapK := h.tapK, held := h.held }

theorem Keeps.upd_5_14_28 {W : Nat} {a s : State} {v5 : CoreBlk} {v14 : Nv} {v28 : Supply} (h5 : W.testBit 5 = true) (h14 : W.testBit 14 = true) (h28 : W.testBit 28 = true) (hk5 : CoreBlkK W s.core v5) (hk14 : NvK W s.nv v14) (hk28 : SupplyK W s.supply v28)
    (h : Keeps W a s) : Keeps W a { s with core := v5, nv := v14, supply := v28 } :=
  { pending := h.pending, free_le := h.free_le, memOk := h.memOk, free := h.free, mem := h.mem, aon := h.aon, clk := h.clk,
    core := fun x => absurd x (by simp [h5]), ports := h.ports, i3c := h.i3c, uart := h.uart, tenants := h.tenants,
    ops := h.ops, owed := h.owed, deferred := h.deferred, par := h.par, nv := fun x => absurd x (by simp [h14]), fw := h.fw,
    log := h.log, bg := h.bg, rails := h.rails, eng := h.eng, sup := h.sup, cap := h.cap, tags := h.tags, msr := h.msr,
    fab := h.fab, inp := h.inp, chg := h.chg, gau := h.gau, supply := fun x => absurd x (by simp [h28]), tap := h.tap,
    aonK := h.aonK, clkK := h.clkK, coreK := h.coreK.trans hk5, i3cK := h.i3cK, uartK := h.uartK, parK := h.parK,
    nvK := h.nvK.trans hk14, fwK := h.fwK, logK := h.logK, bgK := h.bgK, engK := h.engK, supK := h.supK, capK := h.capK,
    tagsK := h.tagsK, msrK := h.msrK, fabK := h.fabK, inpK := h.inpK, chgK := h.chgK, gauK := h.gauK,
    supplyK := h.supplyK.trans hk28, tapK := h.tapK, held := h.held }

theorem Keeps.upd_6 {W : Nat} {a s : State} {v6 : Vector Port 4} (h6 : W.testBit 6 = true)
    (h : Keeps W a s) : Keeps W a { s with ports := v6 } :=
  { pending := h.pending, free_le := h.free_le, memOk := h.memOk, free := h.free, mem := h.mem, aon := h.aon, clk := h.clk,
    core := h.core, ports := fun x => absurd x (by simp [h6]), i3c := h.i3c, uart := h.uart, tenants := h.tenants,
    ops := h.ops, owed := h.owed, deferred := h.deferred, par := h.par, nv := h.nv, fw := h.fw, log := h.log, bg := h.bg,
    rails := h.rails, eng := h.eng, sup := h.sup, cap := h.cap, tags := h.tags, msr := h.msr, fab := h.fab, inp := h.inp,
    chg := h.chg, gau := h.gau, supply := h.supply, tap := h.tap, aonK := h.aonK, clkK := h.clkK, coreK := h.coreK,
    i3cK := h.i3cK, uartK := h.uartK, parK := h.parK, nvK := h.nvK, fwK := h.fwK, logK := h.logK, bgK := h.bgK, engK := h.engK,
    supK := h.supK, capK := h.capK, tagsK := h.tagsK, msrK := h.msrK, fabK := h.fabK, inpK := h.inpK, chgK := h.chgK,
    gauK := h.gauK, supplyK := h.supplyK, tapK := h.tapK, held := h.held }

theorem Keeps.upd_6_7_8 {W : Nat} {a s : State} {v6 : Vector Port 4} {v7 : I3cBus} {v8 : UartBus} (h6 : W.testBit 6 = true) (h7 : W.testBit 7 = true) (h8 : W.testBit 8 = true) (hk7 : I3cBusK W s.i3c v7) (hk8 : UartBusK W s.uart v8)
    (h : Keeps W a s) : Keeps W a { s with ports := v6, i3c := v7, uart := v8 } :=
  { pending := h.pending, free_le := h.free_le, memOk := h.memOk, free := h.free, mem := h.mem, aon := h.aon, clk := h.clk,
    core := h.core, ports := fun x => absurd x (by simp [h6]), i3c := fun x => absurd x (by simp [h7]),
    uart := fun x => absurd x (by simp [h8]), tenants := h.tenants, ops := h.ops, owed := h.owed, deferred := h.deferred,
    par := h.par, nv := h.nv, fw := h.fw, log := h.log, bg := h.bg, rails := h.rails, eng := h.eng, sup := h.sup, cap := h.cap,
    tags := h.tags, msr := h.msr, fab := h.fab, inp := h.inp, chg := h.chg, gau := h.gau, supply := h.supply, tap := h.tap,
    aonK := h.aonK, clkK := h.clkK, coreK := h.coreK, i3cK := h.i3cK.trans hk7, uartK := h.uartK.trans hk8, parK := h.parK,
    nvK := h.nvK, fwK := h.fwK, logK := h.logK, bgK := h.bgK, engK := h.engK, supK := h.supK, capK := h.capK, tagsK := h.tagsK,
    msrK := h.msrK, fabK := h.fabK, inpK := h.inpK, chgK := h.chgK, gauK := h.gauK, supplyK := h.supplyK, tapK := h.tapK,
    held := h.held }

theorem Keeps.upd_7 {W : Nat} {a s : State} {v7 : I3cBus} (h7 : W.testBit 7 = true) (hk7 : I3cBusK W s.i3c v7)
    (h : Keeps W a s) : Keeps W a { s with i3c := v7 } :=
  { pending := h.pending, free_le := h.free_le, memOk := h.memOk, free := h.free, mem := h.mem, aon := h.aon, clk := h.clk,
    core := h.core, ports := h.ports, i3c := fun x => absurd x (by simp [h7]), uart := h.uart, tenants := h.tenants,
    ops := h.ops, owed := h.owed, deferred := h.deferred, par := h.par, nv := h.nv, fw := h.fw, log := h.log, bg := h.bg,
    rails := h.rails, eng := h.eng, sup := h.sup, cap := h.cap, tags := h.tags, msr := h.msr, fab := h.fab, inp := h.inp,
    chg := h.chg, gau := h.gau, supply := h.supply, tap := h.tap, aonK := h.aonK, clkK := h.clkK, coreK := h.coreK,
    i3cK := h.i3cK.trans hk7, uartK := h.uartK, parK := h.parK, nvK := h.nvK, fwK := h.fwK, logK := h.logK, bgK := h.bgK,
    engK := h.engK, supK := h.supK, capK := h.capK, tagsK := h.tagsK, msrK := h.msrK, fabK := h.fabK, inpK := h.inpK,
    chgK := h.chgK, gauK := h.gauK, supplyK := h.supplyK, tapK := h.tapK, held := h.held }

theorem Keeps.upd_8 {W : Nat} {a s : State} {v8 : UartBus} (h8 : W.testBit 8 = true) (hk8 : UartBusK W s.uart v8)
    (h : Keeps W a s) : Keeps W a { s with uart := v8 } :=
  { pending := h.pending, free_le := h.free_le, memOk := h.memOk, free := h.free, mem := h.mem, aon := h.aon, clk := h.clk,
    core := h.core, ports := h.ports, i3c := h.i3c, uart := fun x => absurd x (by simp [h8]), tenants := h.tenants,
    ops := h.ops, owed := h.owed, deferred := h.deferred, par := h.par, nv := h.nv, fw := h.fw, log := h.log, bg := h.bg,
    rails := h.rails, eng := h.eng, sup := h.sup, cap := h.cap, tags := h.tags, msr := h.msr, fab := h.fab, inp := h.inp,
    chg := h.chg, gau := h.gau, supply := h.supply, tap := h.tap, aonK := h.aonK, clkK := h.clkK, coreK := h.coreK,
    i3cK := h.i3cK, uartK := h.uartK.trans hk8, parK := h.parK, nvK := h.nvK, fwK := h.fwK, logK := h.logK, bgK := h.bgK,
    engK := h.engK, supK := h.supK, capK := h.capK, tagsK := h.tagsK, msrK := h.msrK, fabK := h.fabK, inpK := h.inpK,
    chgK := h.chgK, gauK := h.gauK, supplyK := h.supplyK, tapK := h.tapK, held := h.held }

theorem Keeps.upd_9 {W : Nat} {a s : State} {v9 : Vector Tenant 64} (h9 : W.testBit 9 = true)
    (h : Keeps W a s) : Keeps W a { s with tenants := v9 } :=
  { pending := h.pending, free_le := h.free_le, memOk := h.memOk, free := h.free, mem := h.mem, aon := h.aon, clk := h.clk,
    core := h.core, ports := h.ports, i3c := h.i3c, uart := h.uart, tenants := fun x => absurd x (by simp [h9]), ops := h.ops,
    owed := h.owed, deferred := h.deferred, par := h.par, nv := h.nv, fw := h.fw, log := h.log, bg := h.bg, rails := h.rails,
    eng := h.eng, sup := h.sup, cap := h.cap, tags := h.tags, msr := h.msr, fab := h.fab, inp := h.inp, chg := h.chg,
    gau := h.gau, supply := h.supply, tap := h.tap, aonK := h.aonK, clkK := h.clkK, coreK := h.coreK, i3cK := h.i3cK,
    uartK := h.uartK, parK := h.parK, nvK := h.nvK, fwK := h.fwK, logK := h.logK, bgK := h.bgK, engK := h.engK, supK := h.supK,
    capK := h.capK, tagsK := h.tagsK, msrK := h.msrK, fabK := h.fabK, inpK := h.inpK, chgK := h.chgK, gauK := h.gauK,
    supplyK := h.supplyK, tapK := h.tapK, held := h.held }

theorem Keeps.upd_9_14 {W : Nat} {a s : State} {v9 : Vector Tenant 64} {v14 : Nv} (h9 : W.testBit 9 = true) (h14 : W.testBit 14 = true) (hk14 : NvK W s.nv v14)
    (h : Keeps W a s) : Keeps W a { s with tenants := v9, nv := v14 } :=
  { pending := h.pending, free_le := h.free_le, memOk := h.memOk, free := h.free, mem := h.mem, aon := h.aon, clk := h.clk,
    core := h.core, ports := h.ports, i3c := h.i3c, uart := h.uart, tenants := fun x => absurd x (by simp [h9]), ops := h.ops,
    owed := h.owed, deferred := h.deferred, par := h.par, nv := fun x => absurd x (by simp [h14]), fw := h.fw, log := h.log,
    bg := h.bg, rails := h.rails, eng := h.eng, sup := h.sup, cap := h.cap, tags := h.tags, msr := h.msr, fab := h.fab,
    inp := h.inp, chg := h.chg, gau := h.gau, supply := h.supply, tap := h.tap, aonK := h.aonK, clkK := h.clkK,
    coreK := h.coreK, i3cK := h.i3cK, uartK := h.uartK, parK := h.parK, nvK := h.nvK.trans hk14, fwK := h.fwK, logK := h.logK,
    bgK := h.bgK, engK := h.engK, supK := h.supK, capK := h.capK, tagsK := h.tagsK, msrK := h.msrK, fabK := h.fabK,
    inpK := h.inpK, chgK := h.chgK, gauK := h.gauK, supplyK := h.supplyK, tapK := h.tapK, held := h.held }

theorem Keeps.upd_10 {W : Nat} {a s : State} {v10 : List PendOp} (h10 : W.testBit 10 = true)
    (h : Keeps W a s) : Keeps W a { s with ops := v10 } :=
  { pending := h.pending, free_le := h.free_le, memOk := h.memOk, free := h.free, mem := h.mem, aon := h.aon, clk := h.clk,
    core := h.core, ports := h.ports, i3c := h.i3c, uart := h.uart, tenants := h.tenants,
    ops := fun x => absurd x (by simp [h10]), owed := h.owed, deferred := h.deferred, par := h.par, nv := h.nv, fw := h.fw,
    log := h.log, bg := h.bg, rails := h.rails, eng := h.eng, sup := h.sup, cap := h.cap, tags := h.tags, msr := h.msr,
    fab := h.fab, inp := h.inp, chg := h.chg, gau := h.gau, supply := h.supply, tap := h.tap, aonK := h.aonK, clkK := h.clkK,
    coreK := h.coreK, i3cK := h.i3cK, uartK := h.uartK, parK := h.parK, nvK := h.nvK, fwK := h.fwK, logK := h.logK,
    bgK := h.bgK, engK := h.engK, supK := h.supK, capK := h.capK, tagsK := h.tagsK, msrK := h.msrK, fabK := h.fabK,
    inpK := h.inpK, chgK := h.chgK, gauK := h.gauK, supplyK := h.supplyK, tapK := h.tapK, held := h.held }

theorem Keeps.upd_10_13 {W : Nat} {a s : State} {v10 : List PendOp} {v13 : ParamStore} (h10 : W.testBit 10 = true) (h13 : W.testBit 13 = true) (hk13 : ParamStoreK W s.par v13)
    (h : Keeps W a s) : Keeps W a { s with ops := v10, par := v13 } :=
  { pending := h.pending, free_le := h.free_le, memOk := h.memOk, free := h.free, mem := h.mem, aon := h.aon, clk := h.clk,
    core := h.core, ports := h.ports, i3c := h.i3c, uart := h.uart, tenants := h.tenants,
    ops := fun x => absurd x (by simp [h10]), owed := h.owed, deferred := h.deferred, par := fun x => absurd x (by simp [h13]),
    nv := h.nv, fw := h.fw, log := h.log, bg := h.bg, rails := h.rails, eng := h.eng, sup := h.sup, cap := h.cap,
    tags := h.tags, msr := h.msr, fab := h.fab, inp := h.inp, chg := h.chg, gau := h.gau, supply := h.supply, tap := h.tap,
    aonK := h.aonK, clkK := h.clkK, coreK := h.coreK, i3cK := h.i3cK, uartK := h.uartK, parK := h.parK.trans hk13,
    nvK := h.nvK, fwK := h.fwK, logK := h.logK, bgK := h.bgK, engK := h.engK, supK := h.supK, capK := h.capK, tagsK := h.tagsK,
    msrK := h.msrK, fabK := h.fabK, inpK := h.inpK, chgK := h.chgK, gauK := h.gauK, supplyK := h.supplyK, tapK := h.tapK,
    held := h.held }

theorem Keeps.upd_10_14_15 {W : Nat} {a s : State} {v10 : List PendOp} {v14 : Nv} {v15 : FwUpdate} (h10 : W.testBit 10 = true) (h14 : W.testBit 14 = true) (h15 : W.testBit 15 = true) (hk14 : NvK W s.nv v14) (hk15 : FwUpdateK W s.fw v15)
    (h : Keeps W a s) : Keeps W a { s with ops := v10, nv := v14, fw := v15 } :=
  { pending := h.pending, free_le := h.free_le, memOk := h.memOk, free := h.free, mem := h.mem, aon := h.aon, clk := h.clk,
    core := h.core, ports := h.ports, i3c := h.i3c, uart := h.uart, tenants := h.tenants,
    ops := fun x => absurd x (by simp [h10]), owed := h.owed, deferred := h.deferred, par := h.par,
    nv := fun x => absurd x (by simp [h14]), fw := fun x => absurd x (by simp [h15]), log := h.log, bg := h.bg,
    rails := h.rails, eng := h.eng, sup := h.sup, cap := h.cap, tags := h.tags, msr := h.msr, fab := h.fab, inp := h.inp,
    chg := h.chg, gau := h.gau, supply := h.supply, tap := h.tap, aonK := h.aonK, clkK := h.clkK, coreK := h.coreK,
    i3cK := h.i3cK, uartK := h.uartK, parK := h.parK, nvK := h.nvK.trans hk14, fwK := h.fwK.trans hk15, logK := h.logK,
    bgK := h.bgK, engK := h.engK, supK := h.supK, capK := h.capK, tagsK := h.tagsK, msrK := h.msrK, fabK := h.fabK,
    inpK := h.inpK, chgK := h.chgK, gauK := h.gauK, supplyK := h.supplyK, tapK := h.tapK, held := h.held }

theorem Keeps.upd_11 {W : Nat} {a s : State} {v11 : List OwedAbort} (h11 : W.testBit 11 = true)
    (h : Keeps W a s) : Keeps W a { s with owed := v11 } :=
  { pending := h.pending, free_le := h.free_le, memOk := h.memOk, free := h.free, mem := h.mem, aon := h.aon, clk := h.clk,
    core := h.core, ports := h.ports, i3c := h.i3c, uart := h.uart, tenants := h.tenants, ops := h.ops,
    owed := fun x => absurd x (by simp [h11]), deferred := h.deferred, par := h.par, nv := h.nv, fw := h.fw, log := h.log,
    bg := h.bg, rails := h.rails, eng := h.eng, sup := h.sup, cap := h.cap, tags := h.tags, msr := h.msr, fab := h.fab,
    inp := h.inp, chg := h.chg, gau := h.gau, supply := h.supply, tap := h.tap, aonK := h.aonK, clkK := h.clkK,
    coreK := h.coreK, i3cK := h.i3cK, uartK := h.uartK, parK := h.parK, nvK := h.nvK, fwK := h.fwK, logK := h.logK,
    bgK := h.bgK, engK := h.engK, supK := h.supK, capK := h.capK, tagsK := h.tagsK, msrK := h.msrK, fabK := h.fabK,
    inpK := h.inpK, chgK := h.chgK, gauK := h.gauK, supplyK := h.supplyK, tapK := h.tapK, held := h.held }

theorem Keeps.upd_12 {W : Nat} {a s : State} {v12 : List Deferred} (h12 : W.testBit 12 = true) (hd : W.testBit 352 = false → ∀ d ∈ s.deferred, d ∈ v12)
    (h : Keeps W a s) : Keeps W a { s with deferred := v12 } :=
  { pending := h.pending, free_le := h.free_le, memOk := h.memOk, free := h.free, mem := h.mem, aon := h.aon, clk := h.clk,
    core := h.core, ports := h.ports, i3c := h.i3c, uart := h.uart, tenants := h.tenants, ops := h.ops, owed := h.owed,
    deferred := fun x => absurd x (by simp [h12]), par := h.par, nv := h.nv, fw := h.fw, log := h.log, bg := h.bg,
    rails := h.rails, eng := h.eng, sup := h.sup, cap := h.cap, tags := h.tags, msr := h.msr, fab := h.fab, inp := h.inp,
    chg := h.chg, gau := h.gau, supply := h.supply, tap := h.tap, aonK := h.aonK, clkK := h.clkK, coreK := h.coreK,
    i3cK := h.i3cK, uartK := h.uartK, parK := h.parK, nvK := h.nvK, fwK := h.fwK, logK := h.logK, bgK := h.bgK, engK := h.engK,
    supK := h.supK, capK := h.capK, tagsK := h.tagsK, msrK := h.msrK, fabK := h.fabK, inpK := h.inpK, chgK := h.chgK,
    gauK := h.gauK, supplyK := h.supplyK, tapK := h.tapK, held := fun x d hx => hd x d (h.held x d hx) }

theorem Keeps.upd_12_20 {W : Nat} {a s : State} {v12 : List Deferred} {v20 : Sup} (h12 : W.testBit 12 = true) (h20 : W.testBit 20 = true) (hk20 : SupK W s.sup v20) (hd : W.testBit 352 = false → ∀ d ∈ s.deferred, d ∈ v12)
    (h : Keeps W a s) : Keeps W a { s with deferred := v12, sup := v20 } :=
  { pending := h.pending, free_le := h.free_le, memOk := h.memOk, free := h.free, mem := h.mem, aon := h.aon, clk := h.clk,
    core := h.core, ports := h.ports, i3c := h.i3c, uart := h.uart, tenants := h.tenants, ops := h.ops, owed := h.owed,
    deferred := fun x => absurd x (by simp [h12]), par := h.par, nv := h.nv, fw := h.fw, log := h.log, bg := h.bg,
    rails := h.rails, eng := h.eng, sup := fun x => absurd x (by simp [h20]), cap := h.cap, tags := h.tags, msr := h.msr,
    fab := h.fab, inp := h.inp, chg := h.chg, gau := h.gau, supply := h.supply, tap := h.tap, aonK := h.aonK, clkK := h.clkK,
    coreK := h.coreK, i3cK := h.i3cK, uartK := h.uartK, parK := h.parK, nvK := h.nvK, fwK := h.fwK, logK := h.logK,
    bgK := h.bgK, engK := h.engK, supK := h.supK.trans hk20, capK := h.capK, tagsK := h.tagsK, msrK := h.msrK, fabK := h.fabK,
    inpK := h.inpK, chgK := h.chgK, gauK := h.gauK, supplyK := h.supplyK, tapK := h.tapK,
    held := fun x d hx => hd x d (h.held x d hx) }

theorem Keeps.upd_13 {W : Nat} {a s : State} {v13 : ParamStore} (h13 : W.testBit 13 = true) (hk13 : ParamStoreK W s.par v13)
    (h : Keeps W a s) : Keeps W a { s with par := v13 } :=
  { pending := h.pending, free_le := h.free_le, memOk := h.memOk, free := h.free, mem := h.mem, aon := h.aon, clk := h.clk,
    core := h.core, ports := h.ports, i3c := h.i3c, uart := h.uart, tenants := h.tenants, ops := h.ops, owed := h.owed,
    deferred := h.deferred, par := fun x => absurd x (by simp [h13]), nv := h.nv, fw := h.fw, log := h.log, bg := h.bg,
    rails := h.rails, eng := h.eng, sup := h.sup, cap := h.cap, tags := h.tags, msr := h.msr, fab := h.fab, inp := h.inp,
    chg := h.chg, gau := h.gau, supply := h.supply, tap := h.tap, aonK := h.aonK, clkK := h.clkK, coreK := h.coreK,
    i3cK := h.i3cK, uartK := h.uartK, parK := h.parK.trans hk13, nvK := h.nvK, fwK := h.fwK, logK := h.logK, bgK := h.bgK,
    engK := h.engK, supK := h.supK, capK := h.capK, tagsK := h.tagsK, msrK := h.msrK, fabK := h.fabK, inpK := h.inpK,
    chgK := h.chgK, gauK := h.gauK, supplyK := h.supplyK, tapK := h.tapK, held := h.held }

theorem Keeps.upd_13_19 {W : Nat} {a s : State} {v13 : ParamStore} {v19 : Engine} (h13 : W.testBit 13 = true) (h19 : W.testBit 19 = true) (hk13 : ParamStoreK W s.par v13) (hk19 : EngineK W s.eng v19)
    (h : Keeps W a s) : Keeps W a { s with par := v13, eng := v19 } :=
  { pending := h.pending, free_le := h.free_le, memOk := h.memOk, free := h.free, mem := h.mem, aon := h.aon, clk := h.clk,
    core := h.core, ports := h.ports, i3c := h.i3c, uart := h.uart, tenants := h.tenants, ops := h.ops, owed := h.owed,
    deferred := h.deferred, par := fun x => absurd x (by simp [h13]), nv := h.nv, fw := h.fw, log := h.log, bg := h.bg,
    rails := h.rails, eng := fun x => absurd x (by simp [h19]), sup := h.sup, cap := h.cap, tags := h.tags, msr := h.msr,
    fab := h.fab, inp := h.inp, chg := h.chg, gau := h.gau, supply := h.supply, tap := h.tap, aonK := h.aonK, clkK := h.clkK,
    coreK := h.coreK, i3cK := h.i3cK, uartK := h.uartK, parK := h.parK.trans hk13, nvK := h.nvK, fwK := h.fwK, logK := h.logK,
    bgK := h.bgK, engK := h.engK.trans hk19, supK := h.supK, capK := h.capK, tagsK := h.tagsK, msrK := h.msrK, fabK := h.fabK,
    inpK := h.inpK, chgK := h.chgK, gauK := h.gauK, supplyK := h.supplyK, tapK := h.tapK, held := h.held }

theorem Keeps.upd_14 {W : Nat} {a s : State} {v14 : Nv} (h14 : W.testBit 14 = true) (hk14 : NvK W s.nv v14)
    (h : Keeps W a s) : Keeps W a { s with nv := v14 } :=
  { pending := h.pending, free_le := h.free_le, memOk := h.memOk, free := h.free, mem := h.mem, aon := h.aon, clk := h.clk,
    core := h.core, ports := h.ports, i3c := h.i3c, uart := h.uart, tenants := h.tenants, ops := h.ops, owed := h.owed,
    deferred := h.deferred, par := h.par, nv := fun x => absurd x (by simp [h14]), fw := h.fw, log := h.log, bg := h.bg,
    rails := h.rails, eng := h.eng, sup := h.sup, cap := h.cap, tags := h.tags, msr := h.msr, fab := h.fab, inp := h.inp,
    chg := h.chg, gau := h.gau, supply := h.supply, tap := h.tap, aonK := h.aonK, clkK := h.clkK, coreK := h.coreK,
    i3cK := h.i3cK, uartK := h.uartK, parK := h.parK, nvK := h.nvK.trans hk14, fwK := h.fwK, logK := h.logK, bgK := h.bgK,
    engK := h.engK, supK := h.supK, capK := h.capK, tagsK := h.tagsK, msrK := h.msrK, fabK := h.fabK, inpK := h.inpK,
    chgK := h.chgK, gauK := h.gauK, supplyK := h.supplyK, tapK := h.tapK, held := h.held }

theorem Keeps.upd_14_15 {W : Nat} {a s : State} {v14 : Nv} {v15 : FwUpdate} (h14 : W.testBit 14 = true) (h15 : W.testBit 15 = true) (hk14 : NvK W s.nv v14) (hk15 : FwUpdateK W s.fw v15)
    (h : Keeps W a s) : Keeps W a { s with nv := v14, fw := v15 } :=
  { pending := h.pending, free_le := h.free_le, memOk := h.memOk, free := h.free, mem := h.mem, aon := h.aon, clk := h.clk,
    core := h.core, ports := h.ports, i3c := h.i3c, uart := h.uart, tenants := h.tenants, ops := h.ops, owed := h.owed,
    deferred := h.deferred, par := h.par, nv := fun x => absurd x (by simp [h14]), fw := fun x => absurd x (by simp [h15]),
    log := h.log, bg := h.bg, rails := h.rails, eng := h.eng, sup := h.sup, cap := h.cap, tags := h.tags, msr := h.msr,
    fab := h.fab, inp := h.inp, chg := h.chg, gau := h.gau, supply := h.supply, tap := h.tap, aonK := h.aonK, clkK := h.clkK,
    coreK := h.coreK, i3cK := h.i3cK, uartK := h.uartK, parK := h.parK, nvK := h.nvK.trans hk14, fwK := h.fwK.trans hk15,
    logK := h.logK, bgK := h.bgK, engK := h.engK, supK := h.supK, capK := h.capK, tagsK := h.tagsK, msrK := h.msrK,
    fabK := h.fabK, inpK := h.inpK, chgK := h.chgK, gauK := h.gauK, supplyK := h.supplyK, tapK := h.tapK, held := h.held }

theorem Keeps.upd_15 {W : Nat} {a s : State} {v15 : FwUpdate} (h15 : W.testBit 15 = true) (hk15 : FwUpdateK W s.fw v15)
    (h : Keeps W a s) : Keeps W a { s with fw := v15 } :=
  { pending := h.pending, free_le := h.free_le, memOk := h.memOk, free := h.free, mem := h.mem, aon := h.aon, clk := h.clk,
    core := h.core, ports := h.ports, i3c := h.i3c, uart := h.uart, tenants := h.tenants, ops := h.ops, owed := h.owed,
    deferred := h.deferred, par := h.par, nv := h.nv, fw := fun x => absurd x (by simp [h15]), log := h.log, bg := h.bg,
    rails := h.rails, eng := h.eng, sup := h.sup, cap := h.cap, tags := h.tags, msr := h.msr, fab := h.fab, inp := h.inp,
    chg := h.chg, gau := h.gau, supply := h.supply, tap := h.tap, aonK := h.aonK, clkK := h.clkK, coreK := h.coreK,
    i3cK := h.i3cK, uartK := h.uartK, parK := h.parK, nvK := h.nvK, fwK := h.fwK.trans hk15, logK := h.logK, bgK := h.bgK,
    engK := h.engK, supK := h.supK, capK := h.capK, tagsK := h.tagsK, msrK := h.msrK, fabK := h.fabK, inpK := h.inpK,
    chgK := h.chgK, gauK := h.gauK, supplyK := h.supplyK, tapK := h.tapK, held := h.held }

theorem Keeps.upd_16 {W : Nat} {a s : State} {v16 : Sinter} (h16 : W.testBit 16 = true) (hk16 : SinterK W s.log v16)
    (h : Keeps W a s) : Keeps W a { s with log := v16 } :=
  { pending := h.pending, free_le := h.free_le, memOk := h.memOk, free := h.free, mem := h.mem, aon := h.aon, clk := h.clk,
    core := h.core, ports := h.ports, i3c := h.i3c, uart := h.uart, tenants := h.tenants, ops := h.ops, owed := h.owed,
    deferred := h.deferred, par := h.par, nv := h.nv, fw := h.fw, log := fun x => absurd x (by simp [h16]), bg := h.bg,
    rails := h.rails, eng := h.eng, sup := h.sup, cap := h.cap, tags := h.tags, msr := h.msr, fab := h.fab, inp := h.inp,
    chg := h.chg, gau := h.gau, supply := h.supply, tap := h.tap, aonK := h.aonK, clkK := h.clkK, coreK := h.coreK,
    i3cK := h.i3cK, uartK := h.uartK, parK := h.parK, nvK := h.nvK, fwK := h.fwK, logK := h.logK.trans hk16, bgK := h.bgK,
    engK := h.engK, supK := h.supK, capK := h.capK, tagsK := h.tagsK, msrK := h.msrK, fabK := h.fabK, inpK := h.inpK,
    chgK := h.chgK, gauK := h.gauK, supplyK := h.supplyK, tapK := h.tapK, held := h.held }

theorem Keeps.upd_17 {W : Nat} {a s : State} {v17 : Background} (h17 : W.testBit 17 = true) (hk17 : BackgroundK W s.bg v17)
    (h : Keeps W a s) : Keeps W a { s with bg := v17 } :=
  { pending := h.pending, free_le := h.free_le, memOk := h.memOk, free := h.free, mem := h.mem, aon := h.aon, clk := h.clk,
    core := h.core, ports := h.ports, i3c := h.i3c, uart := h.uart, tenants := h.tenants, ops := h.ops, owed := h.owed,
    deferred := h.deferred, par := h.par, nv := h.nv, fw := h.fw, log := h.log, bg := fun x => absurd x (by simp [h17]),
    rails := h.rails, eng := h.eng, sup := h.sup, cap := h.cap, tags := h.tags, msr := h.msr, fab := h.fab, inp := h.inp,
    chg := h.chg, gau := h.gau, supply := h.supply, tap := h.tap, aonK := h.aonK, clkK := h.clkK, coreK := h.coreK,
    i3cK := h.i3cK, uartK := h.uartK, parK := h.parK, nvK := h.nvK, fwK := h.fwK, logK := h.logK, bgK := h.bgK.trans hk17,
    engK := h.engK, supK := h.supK, capK := h.capK, tagsK := h.tagsK, msrK := h.msrK, fabK := h.fabK, inpK := h.inpK,
    chgK := h.chgK, gauK := h.gauK, supplyK := h.supplyK, tapK := h.tapK, held := h.held }

theorem Keeps.upd_18 {W : Nat} {a s : State} {v18 : Vector Rail 24} (h18 : W.testBit 18 = true)
    (h : Keeps W a s) : Keeps W a { s with rails := v18 } :=
  { pending := h.pending, free_le := h.free_le, memOk := h.memOk, free := h.free, mem := h.mem, aon := h.aon, clk := h.clk,
    core := h.core, ports := h.ports, i3c := h.i3c, uart := h.uart, tenants := h.tenants, ops := h.ops, owed := h.owed,
    deferred := h.deferred, par := h.par, nv := h.nv, fw := h.fw, log := h.log, bg := h.bg,
    rails := fun x => absurd x (by simp [h18]), eng := h.eng, sup := h.sup, cap := h.cap, tags := h.tags, msr := h.msr,
    fab := h.fab, inp := h.inp, chg := h.chg, gau := h.gau, supply := h.supply, tap := h.tap, aonK := h.aonK, clkK := h.clkK,
    coreK := h.coreK, i3cK := h.i3cK, uartK := h.uartK, parK := h.parK, nvK := h.nvK, fwK := h.fwK, logK := h.logK,
    bgK := h.bgK, engK := h.engK, supK := h.supK, capK := h.capK, tagsK := h.tagsK, msrK := h.msrK, fabK := h.fabK,
    inpK := h.inpK, chgK := h.chgK, gauK := h.gauK, supplyK := h.supplyK, tapK := h.tapK, held := h.held }

theorem Keeps.upd_18_22 {W : Nat} {a s : State} {v18 : Vector Rail 24} {v22 : Tags} (h18 : W.testBit 18 = true) (h22 : W.testBit 22 = true) (hk22 : TagsK W s.tags v22)
    (h : Keeps W a s) : Keeps W a { s with rails := v18, tags := v22 } :=
  { pending := h.pending, free_le := h.free_le, memOk := h.memOk, free := h.free, mem := h.mem, aon := h.aon, clk := h.clk,
    core := h.core, ports := h.ports, i3c := h.i3c, uart := h.uart, tenants := h.tenants, ops := h.ops, owed := h.owed,
    deferred := h.deferred, par := h.par, nv := h.nv, fw := h.fw, log := h.log, bg := h.bg,
    rails := fun x => absurd x (by simp [h18]), eng := h.eng, sup := h.sup, cap := h.cap,
    tags := fun x => absurd x (by simp [h22]), msr := h.msr, fab := h.fab, inp := h.inp, chg := h.chg, gau := h.gau,
    supply := h.supply, tap := h.tap, aonK := h.aonK, clkK := h.clkK, coreK := h.coreK, i3cK := h.i3cK, uartK := h.uartK,
    parK := h.parK, nvK := h.nvK, fwK := h.fwK, logK := h.logK, bgK := h.bgK, engK := h.engK, supK := h.supK, capK := h.capK,
    tagsK := h.tagsK.trans hk22, msrK := h.msrK, fabK := h.fabK, inpK := h.inpK, chgK := h.chgK, gauK := h.gauK,
    supplyK := h.supplyK, tapK := h.tapK, held := h.held }

theorem Keeps.upd_19 {W : Nat} {a s : State} {v19 : Engine} (h19 : W.testBit 19 = true) (hk19 : EngineK W s.eng v19)
    (h : Keeps W a s) : Keeps W a { s with eng := v19 } :=
  { pending := h.pending, free_le := h.free_le, memOk := h.memOk, free := h.free, mem := h.mem, aon := h.aon, clk := h.clk,
    core := h.core, ports := h.ports, i3c := h.i3c, uart := h.uart, tenants := h.tenants, ops := h.ops, owed := h.owed,
    deferred := h.deferred, par := h.par, nv := h.nv, fw := h.fw, log := h.log, bg := h.bg, rails := h.rails,
    eng := fun x => absurd x (by simp [h19]), sup := h.sup, cap := h.cap, tags := h.tags, msr := h.msr, fab := h.fab,
    inp := h.inp, chg := h.chg, gau := h.gau, supply := h.supply, tap := h.tap, aonK := h.aonK, clkK := h.clkK,
    coreK := h.coreK, i3cK := h.i3cK, uartK := h.uartK, parK := h.parK, nvK := h.nvK, fwK := h.fwK, logK := h.logK,
    bgK := h.bgK, engK := h.engK.trans hk19, supK := h.supK, capK := h.capK, tagsK := h.tagsK, msrK := h.msrK, fabK := h.fabK,
    inpK := h.inpK, chgK := h.chgK, gauK := h.gauK, supplyK := h.supplyK, tapK := h.tapK, held := h.held }

theorem Keeps.upd_20 {W : Nat} {a s : State} {v20 : Sup} (h20 : W.testBit 20 = true) (hk20 : SupK W s.sup v20)
    (h : Keeps W a s) : Keeps W a { s with sup := v20 } :=
  { pending := h.pending, free_le := h.free_le, memOk := h.memOk, free := h.free, mem := h.mem, aon := h.aon, clk := h.clk,
    core := h.core, ports := h.ports, i3c := h.i3c, uart := h.uart, tenants := h.tenants, ops := h.ops, owed := h.owed,
    deferred := h.deferred, par := h.par, nv := h.nv, fw := h.fw, log := h.log, bg := h.bg, rails := h.rails, eng := h.eng,
    sup := fun x => absurd x (by simp [h20]), cap := h.cap, tags := h.tags, msr := h.msr, fab := h.fab, inp := h.inp,
    chg := h.chg, gau := h.gau, supply := h.supply, tap := h.tap, aonK := h.aonK, clkK := h.clkK, coreK := h.coreK,
    i3cK := h.i3cK, uartK := h.uartK, parK := h.parK, nvK := h.nvK, fwK := h.fwK, logK := h.logK, bgK := h.bgK, engK := h.engK,
    supK := h.supK.trans hk20, capK := h.capK, tagsK := h.tagsK, msrK := h.msrK, fabK := h.fabK, inpK := h.inpK,
    chgK := h.chgK, gauK := h.gauK, supplyK := h.supplyK, tapK := h.tapK, held := h.held }

theorem Keeps.upd_21 {W : Nat} {a s : State} {v21 : Caldera} (h21 : W.testBit 21 = true) (hk21 : CalderaK W s.cap v21)
    (h : Keeps W a s) : Keeps W a { s with cap := v21 } :=
  { pending := h.pending, free_le := h.free_le, memOk := h.memOk, free := h.free, mem := h.mem, aon := h.aon, clk := h.clk,
    core := h.core, ports := h.ports, i3c := h.i3c, uart := h.uart, tenants := h.tenants, ops := h.ops, owed := h.owed,
    deferred := h.deferred, par := h.par, nv := h.nv, fw := h.fw, log := h.log, bg := h.bg, rails := h.rails, eng := h.eng,
    sup := h.sup, cap := fun x => absurd x (by simp [h21]), tags := h.tags, msr := h.msr, fab := h.fab, inp := h.inp,
    chg := h.chg, gau := h.gau, supply := h.supply, tap := h.tap, aonK := h.aonK, clkK := h.clkK, coreK := h.coreK,
    i3cK := h.i3cK, uartK := h.uartK, parK := h.parK, nvK := h.nvK, fwK := h.fwK, logK := h.logK, bgK := h.bgK, engK := h.engK,
    supK := h.supK, capK := h.capK.trans hk21, tagsK := h.tagsK, msrK := h.msrK, fabK := h.fabK, inpK := h.inpK,
    chgK := h.chgK, gauK := h.gauK, supplyK := h.supplyK, tapK := h.tapK, held := h.held }

theorem Keeps.upd_21_23 {W : Nat} {a s : State} {v21 : Caldera} {v23 : Measure} (h21 : W.testBit 21 = true) (h23 : W.testBit 23 = true) (hk21 : CalderaK W s.cap v21) (hk23 : MeasureK W s.msr v23)
    (h : Keeps W a s) : Keeps W a { s with cap := v21, msr := v23 } :=
  { pending := h.pending, free_le := h.free_le, memOk := h.memOk, free := h.free, mem := h.mem, aon := h.aon, clk := h.clk,
    core := h.core, ports := h.ports, i3c := h.i3c, uart := h.uart, tenants := h.tenants, ops := h.ops, owed := h.owed,
    deferred := h.deferred, par := h.par, nv := h.nv, fw := h.fw, log := h.log, bg := h.bg, rails := h.rails, eng := h.eng,
    sup := h.sup, cap := fun x => absurd x (by simp [h21]), tags := h.tags, msr := fun x => absurd x (by simp [h23]),
    fab := h.fab, inp := h.inp, chg := h.chg, gau := h.gau, supply := h.supply, tap := h.tap, aonK := h.aonK, clkK := h.clkK,
    coreK := h.coreK, i3cK := h.i3cK, uartK := h.uartK, parK := h.parK, nvK := h.nvK, fwK := h.fwK, logK := h.logK,
    bgK := h.bgK, engK := h.engK, supK := h.supK, capK := h.capK.trans hk21, tagsK := h.tagsK, msrK := h.msrK.trans hk23,
    fabK := h.fabK, inpK := h.inpK, chgK := h.chgK, gauK := h.gauK, supplyK := h.supplyK, tapK := h.tapK, held := h.held }

theorem Keeps.upd_22 {W : Nat} {a s : State} {v22 : Tags} (h22 : W.testBit 22 = true) (hk22 : TagsK W s.tags v22)
    (h : Keeps W a s) : Keeps W a { s with tags := v22 } :=
  { pending := h.pending, free_le := h.free_le, memOk := h.memOk, free := h.free, mem := h.mem, aon := h.aon, clk := h.clk,
    core := h.core, ports := h.ports, i3c := h.i3c, uart := h.uart, tenants := h.tenants, ops := h.ops, owed := h.owed,
    deferred := h.deferred, par := h.par, nv := h.nv, fw := h.fw, log := h.log, bg := h.bg, rails := h.rails, eng := h.eng,
    sup := h.sup, cap := h.cap, tags := fun x => absurd x (by simp [h22]), msr := h.msr, fab := h.fab, inp := h.inp,
    chg := h.chg, gau := h.gau, supply := h.supply, tap := h.tap, aonK := h.aonK, clkK := h.clkK, coreK := h.coreK,
    i3cK := h.i3cK, uartK := h.uartK, parK := h.parK, nvK := h.nvK, fwK := h.fwK, logK := h.logK, bgK := h.bgK, engK := h.engK,
    supK := h.supK, capK := h.capK, tagsK := h.tagsK.trans hk22, msrK := h.msrK, fabK := h.fabK, inpK := h.inpK,
    chgK := h.chgK, gauK := h.gauK, supplyK := h.supplyK, tapK := h.tapK, held := h.held }

theorem Keeps.upd_23 {W : Nat} {a s : State} {v23 : Measure} (h23 : W.testBit 23 = true) (hk23 : MeasureK W s.msr v23)
    (h : Keeps W a s) : Keeps W a { s with msr := v23 } :=
  { pending := h.pending, free_le := h.free_le, memOk := h.memOk, free := h.free, mem := h.mem, aon := h.aon, clk := h.clk,
    core := h.core, ports := h.ports, i3c := h.i3c, uart := h.uart, tenants := h.tenants, ops := h.ops, owed := h.owed,
    deferred := h.deferred, par := h.par, nv := h.nv, fw := h.fw, log := h.log, bg := h.bg, rails := h.rails, eng := h.eng,
    sup := h.sup, cap := h.cap, tags := h.tags, msr := fun x => absurd x (by simp [h23]), fab := h.fab, inp := h.inp,
    chg := h.chg, gau := h.gau, supply := h.supply, tap := h.tap, aonK := h.aonK, clkK := h.clkK, coreK := h.coreK,
    i3cK := h.i3cK, uartK := h.uartK, parK := h.parK, nvK := h.nvK, fwK := h.fwK, logK := h.logK, bgK := h.bgK, engK := h.engK,
    supK := h.supK, capK := h.capK, tagsK := h.tagsK, msrK := h.msrK.trans hk23, fabK := h.fabK, inpK := h.inpK,
    chgK := h.chgK, gauK := h.gauK, supplyK := h.supplyK, tapK := h.tapK, held := h.held }

theorem Keeps.upd_24 {W : Nat} {a s : State} {v24 : Fabric} (h24 : W.testBit 24 = true) (hk24 : FabricK W s.fab v24)
    (h : Keeps W a s) : Keeps W a { s with fab := v24 } :=
  { pending := h.pending, free_le := h.free_le, memOk := h.memOk, free := h.free, mem := h.mem, aon := h.aon, clk := h.clk,
    core := h.core, ports := h.ports, i3c := h.i3c, uart := h.uart, tenants := h.tenants, ops := h.ops, owed := h.owed,
    deferred := h.deferred, par := h.par, nv := h.nv, fw := h.fw, log := h.log, bg := h.bg, rails := h.rails, eng := h.eng,
    sup := h.sup, cap := h.cap, tags := h.tags, msr := h.msr, fab := fun x => absurd x (by simp [h24]), inp := h.inp,
    chg := h.chg, gau := h.gau, supply := h.supply, tap := h.tap, aonK := h.aonK, clkK := h.clkK, coreK := h.coreK,
    i3cK := h.i3cK, uartK := h.uartK, parK := h.parK, nvK := h.nvK, fwK := h.fwK, logK := h.logK, bgK := h.bgK, engK := h.engK,
    supK := h.supK, capK := h.capK, tagsK := h.tagsK, msrK := h.msrK, fabK := h.fabK.trans hk24, inpK := h.inpK,
    chgK := h.chgK, gauK := h.gauK, supplyK := h.supplyK, tapK := h.tapK, held := h.held }

theorem Keeps.upd_25 {W : Nat} {a s : State} {v25 : Intake} (h25 : W.testBit 25 = true) (hk25 : IntakeK W s.inp v25)
    (h : Keeps W a s) : Keeps W a { s with inp := v25 } :=
  { pending := h.pending, free_le := h.free_le, memOk := h.memOk, free := h.free, mem := h.mem, aon := h.aon, clk := h.clk,
    core := h.core, ports := h.ports, i3c := h.i3c, uart := h.uart, tenants := h.tenants, ops := h.ops, owed := h.owed,
    deferred := h.deferred, par := h.par, nv := h.nv, fw := h.fw, log := h.log, bg := h.bg, rails := h.rails, eng := h.eng,
    sup := h.sup, cap := h.cap, tags := h.tags, msr := h.msr, fab := h.fab, inp := fun x => absurd x (by simp [h25]),
    chg := h.chg, gau := h.gau, supply := h.supply, tap := h.tap, aonK := h.aonK, clkK := h.clkK, coreK := h.coreK,
    i3cK := h.i3cK, uartK := h.uartK, parK := h.parK, nvK := h.nvK, fwK := h.fwK, logK := h.logK, bgK := h.bgK, engK := h.engK,
    supK := h.supK, capK := h.capK, tagsK := h.tagsK, msrK := h.msrK, fabK := h.fabK, inpK := h.inpK.trans hk25,
    chgK := h.chgK, gauK := h.gauK, supplyK := h.supplyK, tapK := h.tapK, held := h.held }

theorem Keeps.upd_26 {W : Nat} {a s : State} {v26 : Charger} (h26 : W.testBit 26 = true) (hk26 : ChargerK W s.chg v26)
    (h : Keeps W a s) : Keeps W a { s with chg := v26 } :=
  { pending := h.pending, free_le := h.free_le, memOk := h.memOk, free := h.free, mem := h.mem, aon := h.aon, clk := h.clk,
    core := h.core, ports := h.ports, i3c := h.i3c, uart := h.uart, tenants := h.tenants, ops := h.ops, owed := h.owed,
    deferred := h.deferred, par := h.par, nv := h.nv, fw := h.fw, log := h.log, bg := h.bg, rails := h.rails, eng := h.eng,
    sup := h.sup, cap := h.cap, tags := h.tags, msr := h.msr, fab := h.fab, inp := h.inp,
    chg := fun x => absurd x (by simp [h26]), gau := h.gau, supply := h.supply, tap := h.tap, aonK := h.aonK, clkK := h.clkK,
    coreK := h.coreK, i3cK := h.i3cK, uartK := h.uartK, parK := h.parK, nvK := h.nvK, fwK := h.fwK, logK := h.logK,
    bgK := h.bgK, engK := h.engK, supK := h.supK, capK := h.capK, tagsK := h.tagsK, msrK := h.msrK, fabK := h.fabK,
    inpK := h.inpK, chgK := h.chgK.trans hk26, gauK := h.gauK, supplyK := h.supplyK, tapK := h.tapK, held := h.held }

theorem Keeps.upd_27 {W : Nat} {a s : State} {v27 : Gauge} (h27 : W.testBit 27 = true) (hk27 : GaugeK W s.gau v27)
    (h : Keeps W a s) : Keeps W a { s with gau := v27 } :=
  { pending := h.pending, free_le := h.free_le, memOk := h.memOk, free := h.free, mem := h.mem, aon := h.aon, clk := h.clk,
    core := h.core, ports := h.ports, i3c := h.i3c, uart := h.uart, tenants := h.tenants, ops := h.ops, owed := h.owed,
    deferred := h.deferred, par := h.par, nv := h.nv, fw := h.fw, log := h.log, bg := h.bg, rails := h.rails, eng := h.eng,
    sup := h.sup, cap := h.cap, tags := h.tags, msr := h.msr, fab := h.fab, inp := h.inp, chg := h.chg,
    gau := fun x => absurd x (by simp [h27]), supply := h.supply, tap := h.tap, aonK := h.aonK, clkK := h.clkK,
    coreK := h.coreK, i3cK := h.i3cK, uartK := h.uartK, parK := h.parK, nvK := h.nvK, fwK := h.fwK, logK := h.logK,
    bgK := h.bgK, engK := h.engK, supK := h.supK, capK := h.capK, tagsK := h.tagsK, msrK := h.msrK, fabK := h.fabK,
    inpK := h.inpK, chgK := h.chgK, gauK := h.gauK.trans hk27, supplyK := h.supplyK, tapK := h.tapK, held := h.held }

theorem Keeps.upd_28 {W : Nat} {a s : State} {v28 : Supply} (h28 : W.testBit 28 = true) (hk28 : SupplyK W s.supply v28)
    (h : Keeps W a s) : Keeps W a { s with supply := v28 } :=
  { pending := h.pending, free_le := h.free_le, memOk := h.memOk, free := h.free, mem := h.mem, aon := h.aon, clk := h.clk,
    core := h.core, ports := h.ports, i3c := h.i3c, uart := h.uart, tenants := h.tenants, ops := h.ops, owed := h.owed,
    deferred := h.deferred, par := h.par, nv := h.nv, fw := h.fw, log := h.log, bg := h.bg, rails := h.rails, eng := h.eng,
    sup := h.sup, cap := h.cap, tags := h.tags, msr := h.msr, fab := h.fab, inp := h.inp, chg := h.chg, gau := h.gau,
    supply := fun x => absurd x (by simp [h28]), tap := h.tap, aonK := h.aonK, clkK := h.clkK, coreK := h.coreK,
    i3cK := h.i3cK, uartK := h.uartK, parK := h.parK, nvK := h.nvK, fwK := h.fwK, logK := h.logK, bgK := h.bgK, engK := h.engK,
    supK := h.supK, capK := h.capK, tagsK := h.tagsK, msrK := h.msrK, fabK := h.fabK, inpK := h.inpK, chgK := h.chgK,
    gauK := h.gauK, supplyK := h.supplyK.trans hk28, tapK := h.tapK, held := h.held }

theorem Keeps.upd_29 {W : Nat} {a s : State} {v29 : Tap} (h29 : W.testBit 29 = true) (hk29 : TapK W s.tap v29)
    (h : Keeps W a s) : Keeps W a { s with tap := v29 } :=
  { pending := h.pending, free_le := h.free_le, memOk := h.memOk, free := h.free, mem := h.mem, aon := h.aon, clk := h.clk,
    core := h.core, ports := h.ports, i3c := h.i3c, uart := h.uart, tenants := h.tenants, ops := h.ops, owed := h.owed,
    deferred := h.deferred, par := h.par, nv := h.nv, fw := h.fw, log := h.log, bg := h.bg, rails := h.rails, eng := h.eng,
    sup := h.sup, cap := h.cap, tags := h.tags, msr := h.msr, fab := h.fab, inp := h.inp, chg := h.chg, gau := h.gau,
    supply := h.supply, tap := fun x => absurd x (by simp [h29]), aonK := h.aonK, clkK := h.clkK, coreK := h.coreK,
    i3cK := h.i3cK, uartK := h.uartK, parK := h.parK, nvK := h.nvK, fwK := h.fwK, logK := h.logK, bgK := h.bgK, engK := h.engK,
    supK := h.supK, capK := h.capK, tagsK := h.tagsK, msrK := h.msrK, fabK := h.fabK, inpK := h.inpK, chgK := h.chgK,
    gauK := h.gauK, supplyK := h.supplyK, tapK := h.tapK.trans hk29, held := h.held }

end Sys2Proof.Machine
end

