-- ==== Sys2Proof/Laws/KeepsParams.lean ====
section
/-! SUPPORT. What the operations of Machine/Params.lean keep (`Keeps`): one lemma for each. -/

namespace Sys2Proof.Machine

set_option linter.unusedVariables false
set_option linter.unusedTactic false
set_option linter.unreachableTactic false

theorem keeps_takeUp {W : Nat} {a : State} {v0 : Sys2Proof.Machine.PInst → Bool} {v1 : State} (hW : Sub 154742504910672534362398720 W) (hv1 : Keeps W a v1) :
    Keeps W a (takeUp v0 v1) := by
  unfold takeUp
  refine Keeps.upd_13 (hW.bit rfl) (by constructor <;> first | exact fun h => Bool.noConfusion ((hW.bit (by rfl)).symm.trans h) | exact fun _ => rfl | (intro _; split <;> rfl)) ?_
  exact hv1

theorem keeps_takeOcc {W : Nat} {a : State} {v0 : Sys2Proof.Machine.Occ} {v1 : State} (hW : Sub 154742504910672534362398720 W) (hv1 : Keeps W a v1) :
    Keeps W a (takeOcc v0 v1) := by
  unfold takeOcc
  refine keeps_takeUp (hW.of rfl) ?_
  exact hv1

theorem keeps_strobe {W : Nat} {a : State} {v0 : List Sys2Proof.Machine.PWrite} {v1 : State} (hW : Sub 79073420009353665059181568000 W) (hv1 : Keeps W a v1) :
    Keeps W a (strobe v0 v1) := by
  unfold strobe
  extract_lets -useContext -underBinder x0 x1
  refine Keeps.upd_13 (hW.bit rfl) (by constructor <;> first | exact fun h => Bool.noConfusion ((hW.bit (by rfl)).symm.trans h) | exact fun _ => rfl | (intro _; split <;> rfl)) ?_
  exact hv1

theorem keeps_deviceCommit {W : Nat} {a : State} {v0 : List Sys2Proof.Machine.PWrite} {v1 : State} (hW : Sub 79073420009353665059181568000 W) (hv1 : Keeps W a v1) :
    Keeps W a (deviceCommit v0 v1) := by
  unfold deviceCommit
  extract_lets -useContext -underBinder x0 x1
  have hx0 : Keeps W a x0 := by
    refine keeps_strobe (hW.of rfl) ?_
    exact hv1
  try clear_value x0
  refine Keeps.upd_13 (hW.bit rfl) (by constructor <;> first | exact fun h => Bool.noConfusion ((hW.bit (by rfl)).symm.trans h) | exact fun _ => rfl | (intro _; split <;> rfl)) ?_
  exact hx0

theorem keeps_setOverlay {W : Nat} {a : State} {v0 : Sys2Proof.Machine.PWrite} {v1 : State} (hW : Sub 1237940039285380274899132416 W) (hv1 : Keeps W a v1) :
    Keeps W a (setOverlay v0 v1) := by
  unfold setOverlay
  refine Keeps.upd_13 (hW.bit rfl) (by constructor <;> first | exact fun h => Bool.noConfusion ((hW.bit (by rfl)).symm.trans h) | exact fun _ => rfl | (intro _; split <;> rfl)) ?_
  exact hv1

theorem keeps_clearOverlay {W : Nat} {a : State} {v0 : Sys2Proof.Machine.PInst} {v1 : State} (hW : Sub 1237940039285380274899132416 W) (hv1 : Keeps W a v1) :
    Keeps W a (clearOverlay v0 v1) := by
  unfold clearOverlay
  refine Keeps.upd_13 (hW.bit rfl) (by constructor <;> first | exact fun h => Bool.noConfusion ((hW.bit (by rfl)).symm.trans h) | exact fun _ => rfl | (intro _; split <;> rfl)) ?_
  exact hv1

theorem keeps_takeOccAt {W : Nat} {a : State} {v0 : Sys2Proof.Machine.Occ} {v1 : ℕ} {v2 : State} (hW : Sub 154742504910672534362398720 W) (hv2 : Keeps W a v2) :
    Keeps W a (takeOccAt v0 v1 v2) := by
  unfold takeOccAt
  refine keeps_takeUp (hW.of rfl) ?_
  exact hv2

end Sys2Proof.Machine
end

