-- ==== Sys2Proof/Laws/KeepsOps.lean ====
section
/-! SUPPORT. What the operations of Machine/Ops.lean keep (`Keeps`): one lemma for each. -/

namespace Sys2Proof.Machine

set_option linter.unusedVariables false
set_option linter.unusedTactic false
set_option linter.unreachableTactic false

theorem keeps_onTenant {W : Nat} {a : State} {v0 : ℕ} {v1 : Sys2Proof.Machine.Tenant → Sys2Proof.Machine.Tenant} {v2 : State} (hW : Sub 512 W) (hv2 : Keeps W a v2) :
    Keeps W a (onTenant v0 v1 v2) := by
  unfold onTenant
  refine Keeps.upd_9 (hW.bit rfl) ?_
  exact hv2

theorem keeps_clearBytes {W : Nat} {a : State} {v0 v1 : Nat} {v2 : State} (hW : Sub 4 W) (hv2 : Keeps W a v2) :
    Keeps W a (clearBytes v0 v1 v2) :=
  Keeps.upd_2 (hW.bit rfl) (fun h => memClear_wf h _ _) hv2

theorem keeps_onPorts {W : Nat} {a : State} {v0 : Sys2Proof.Machine.Port → Sys2Proof.Machine.Port} {v1 : State} (hW : Sub 64 W) (hv1 : Keeps W a v1) :
    Keeps W a (onPorts v0 v1) := by
  unfold onPorts
  refine Keeps.upd_6 (hW.bit rfl) ?_
  exact hv1

theorem keeps_onPort {W : Nat} {a : State} {v0 : ℕ} {v1 : Sys2Proof.Machine.Port → Sys2Proof.Machine.Port} {v2 : State} (hW : Sub 64 W) (hv2 : Keeps W a v2) :
    Keeps W a (onPort v0 v1 v2) := by
  unfold onPort
  refine Keeps.upd_6 (hW.bit rfl) ?_
  exact hv2

theorem keeps_setIrq {W : Nat} {a : State} {v0 : ℕ} {v1 : ℕ} {v2 : State} (hW : Sub 64 W) (hv2 : Keeps W a v2) :
    Keeps W a (setIrq v0 v1 v2) := by
  unfold setIrq
  refine keeps_onPort (hW.of rfl) ?_
  exact hv2

theorem keeps_queueFor {W : Nat} {a : State} {v0 : Sys2Proof.Machine.Event} {v1 : ℕ} {v2 : State} (hW : Sub 576 W) (hv2 : Keeps W a v2) :
    Keeps W a (queueFor v0 v1 v2) := by
  unfold queueFor
  extract_lets -useContext -underBinder x0 x1
  try clear_value x1
  have hx0 : Keeps W a x0 := by
    refine keeps_onTenant (hW.of rfl) ?_
    exact hv2
  split
  · refine Keeps.ite ?_ ?_
    · refine keeps_setIrq (hW.of rfl) ?_
      exact hx0
    · exact hx0
  · exact hx0

theorem keeps_queueMasked {W : Nat} {a : State} {v0 : Sys2Proof.Machine.Event} {v1 : State} (hW : Sub 154742504910672534362399296 W) (hv1 : Keeps W a v1) :
    Keeps W a (queueMasked v0 v1) := by
  unfold queueMasked
  extract_lets -useContext -underBinder x0
  have hx0 : Keeps W a x0 := by
    refine keeps_takeOcc (hW.of rfl) ?_
    exact hv1
  refine Keeps.foldl (fun t1 y2 ht1 => ?_) ?_
  · refine keeps_queueFor (hW.of rfl) ?_
    exact ht1
  · exact hx0

theorem keeps_deliver {W : Nat} {a : State} {v0 : Sys2Proof.Machine.Deferred} {v1 : State} (hW : Sub 154742504910672534362399296 W) (hv1 : Keeps W a v1) :
    Keeps W a (deliver v0 v1) := by
  unfold deliver
  split
  · refine keeps_queueFor (hW.of rfl) ?_
    exact hv1
  · refine keeps_queueMasked (hW.of rfl) ?_
    exact hv1

theorem keeps_postDeferred {W : Nat} {a : State} {v0 : Sys2Proof.Machine.Deferred} {v1 : State} (hW : Sub 154742504910672534362403392 W) (hv1 : Keeps W a v1) :
    Keeps W a (postDeferred v0 v1) := by
  unfold postDeferred
  refine Keeps.ite ?_ ?_
  · refine keeps_deliver (hW.of rfl) ?_
    exact hv1
  · refine Keeps.upd_12 (hW.bit rfl) (by first | exact fun h => Bool.noConfusion ((hW.bit (by rfl)).symm.trans h) | exact fun _ _ hd => List.mem_append_left _ hd) ?_
    exact hv1

theorem keeps_post {W : Nat} {a : State} {v0 : ℕ} {v1 : ℕ} {v2 : ℕ} {v3 : ℕ} {v4 : State} (hW : Sub 154742504910672534362403392 W) (hv4 : Keeps W a v4) :
    Keeps W a (post v0 v1 v2 v3 v4) := by
  unfold post
  refine keeps_postDeferred (hW.of rfl) ?_
  exact hv4

theorem keeps_postOwn {W : Nat} {a : State} {v0 : ℕ} {v1 : ℕ} {v2 : ℕ} {v3 : ℕ} {v4 : ℕ} {v5 : State} (hW : Sub 154742504910672534362403392 W) (hv5 : Keeps W a v5) :
    Keeps W a (postOwn v0 v1 v2 v3 v4 v5) := by
  unfold postOwn
  refine keeps_postDeferred (hW.of rfl) ?_
  exact hv5

theorem keeps_setIrqAll {W : Nat} {a : State} {v0 : ℕ} {v1 : State} (hW : Sub 64 W) (hv1 : Keeps W a v1) :
    Keeps W a (setIrqAll v0 v1) := by
  unfold setIrqAll
  refine keeps_onPorts (hW.of rfl) ?_
  exact hv1

theorem keeps_programBytes {W : Nat} {a : State} {v0 : Nat} {v1 : Bytes} {v2 : State} (hW : Sub 4 W) (hv2 : Keeps W a v2) :
    Keeps W a (programBytes v0 v1 v2) := by
  induction v1 generalizing v0 v2 with
  | nil => exact hv2
  | cons b bs ih => exact ih (Keeps.upd_2 (hW.bit rfl) (fun h => memWrite_wf h _ _) hv2)

theorem keeps_writeBytes {W : Nat} {a : State} {v0 : Nat} {v1 : Bytes} {v2 : State} (hW : Sub 4 W) (hv2 : Keeps W a v2) :
    Keeps W a (writeBytes v0 v1 v2) :=
  Keeps.upd_2 (hW.bit rfl) (fun h => memWrites_wf h _ _) hv2

theorem keeps_drawFree {W : Nat} {a : State} {v0 : State} (hW : Sub 2 W) (hv0 : Keeps W a v0) :
    Keeps W a (drawFree v0).2 := by
  unfold drawFree
  try dsimp only
  refine Keeps.upd_1 (hW.bit rfl) (Nat.le_add_right _ _) ?_
  exact hv0

end Sys2Proof.Machine
end

