-- ==== Sys2Proof/Laws/KeepsLog.lean ====
section
/-! SUPPORT. What the operations of Machine/Log.lean keep (`Keeps`): one lemma for each. -/

namespace Sys2Proof.Machine

set_option linter.unusedVariables false
set_option linter.unusedTactic false
set_option linter.unreachableTactic false

theorem keeps_putRecord {W : Nat} {a : State} {v0 : Sys2Proof.Machine.LogRec} {v1 : State} (hW : Sub 143556623544770914273611162510277279748 W) (hv1 : Keeps W a v1) :
    Keeps W a (putRecord v0 v1).2 := by
  unfold putRecord
  extract_lets -useContext -underBinder x0 x1 x2 x3 x4 x5 x6
  have hx4 : Keeps W a x4 := by
    refine keeps_programBytes (hW.of rfl) ?_
    exact hv1
  have hx5 : Keeps W a x5 := by
    refine keeps_programBytes (hW.of rfl) ?_
    exact hx4
  try clear_value x4
  try clear_value x5
  try dsimp only
  refine Keeps.upd_16 (hW.bit rfl) (by constructor <;> first | exact fun h => Bool.noConfusion ((hW.bit (by rfl)).symm.trans h) | exact fun _ => rfl | (intro _; split <;> rfl)) ?_
  exact hx5

theorem keeps_noteInterval {W : Nat} {a : State} {v0 : Sys2Proof.Machine.LogRec} {v1 : ℕ} {v2 : State} (hW : Sub 50176676696693902068455366113458813388587008 W) (hv2 : Keeps W a v2) :
    Keeps W a (noteInterval v0 v1 v2) := by
  unfold noteInterval
  extract_lets -useContext -underBinder x0 x1 x2 x3
  refine Keeps.upd_17 (hW.bit rfl) (by constructor <;> first | exact fun h => Bool.noConfusion ((hW.bit (by rfl)).symm.trans h) | exact fun _ => rfl | (intro _; split <;> rfl)) ?_
  exact hv2

theorem keeps_faWrite {W : Nat} {a : State} {v0 : ℕ} {v1 : List Sys2Proof.Byte} {v2 : State} (hW : Sub 40564819207303340847894502588420 W) (hv2 : Keeps W a v2) :
    Keeps W a (faWrite v0 v1 v2) := by
  unfold faWrite
  extract_lets -useContext -underBinder x0 x1
  have hx0 : Keeps W a x0 := by
    refine keeps_writeBytes (hW.of rfl) ?_
    exact hv2
  try clear_value x0
  refine Keeps.upd_14 (hW.bit rfl) (by constructor <;> first | exact fun h => Bool.noConfusion ((hW.bit (by rfl)).symm.trans h) | exact fun _ => rfl | (intro _; split <;> rfl)) ?_
  exact hx0

theorem keeps_writeTwo {W : Nat} {a : State} {v0 : Sys2Proof.Machine.TwoCopy} {v1 : List Sys2Proof.Byte} {v2 : State} (hW : Sub 40564819207303340847894502588420 W) (hv2 : Keeps W a v2) :
    Keeps W a (writeTwo v0 v1 v2) := by
  unfold writeTwo
  extract_lets -useContext -underBinder x0 x1 x2 x3
  have hx3 : Keeps W a x3 := by
    refine keeps_faWrite (hW.of rfl) ?_
    exact hv2
  refine keeps_faWrite (hW.of rfl) ?_
  exact hx3

theorem keeps_noteShip {W : Nat} {a : State} {v0 : State} (hW : Sub 40564819207303340847903092523020 W) (hv0 : Keeps W a v0) :
    Keeps W a (noteShip v0) := by
  unfold noteShip
  extract_lets -useContext -underBinder x0 x3
  have hx0 : Keeps W a x0 := by
    unfold x0
    split
    · refine keeps_writeTwo (hW.of rfl) ?_
      exact hv0
    · exact hv0
  try clear_value x0
  refine Keeps.upd_3 (hW.bit rfl) (by constructor <;> first | exact fun h => Bool.noConfusion ((hW.bit (by rfl)).symm.trans h) | exact fun _ => rfl | (intro _; split <;> rfl)) ?_
  exact hx0

theorem keeps_noteAppend {W : Nat} {a : State} {v0 : Sys2Proof.Machine.LogRec} {v1 : ℕ} {v2 : State} (hW : Sub 50350901268597987380955917253311781805441036 W) (hv2 : Keeps W a v2) :
    Keeps W a (noteAppend v0 v1 v2) := by
  unfold noteAppend
  refine Keeps.ite ?_ ?_
  · exact hv2
  · split
    · refine keeps_noteInterval (hW.of rfl) ?_
      exact hv2
    · refine Keeps.upd_16 (hW.bit rfl) (by constructor <;> first | exact fun h => Bool.noConfusion ((hW.bit (by rfl)).symm.trans h) | exact fun _ => rfl | (intro _; split <;> rfl)) ?_
      exact hv2
    · refine keeps_noteShip (hW.of rfl) ?_
      exact hv2
    · exact hv2

theorem keeps_eraseSector {W : Nat} {a : State} {v0 : ℕ} {v1 : State} (hW : Sub 4 W) (hv1 : Keeps W a v1) :
    Keeps W a (eraseSector v0 v1) := by
  unfold eraseSector
  refine keeps_clearBytes (hW.of rfl) ?_
  exact hv1

theorem keeps_openSector {W : Nat} {a : State} {v0 : ℕ} {v1 : State} (hW : Sub 29243015907268149203883755326167646212 W) (hv1 : Keeps W a v1) :
    Keeps W a (openSector v0 v1) := by
  unfold openSector
  extract_lets -useContext -underBinder x0 x1 x2 x3
  have hx0 : Keeps W a x0 := by
    refine keeps_eraseSector (hW.of rfl) ?_
    exact hv1
  have hx1 : Keeps W a x1 := by
    refine keeps_programBytes (hW.of rfl) ?_
    exact hx0
  have hx2 : Keeps W a x2 := by
    refine keeps_programBytes (hW.of rfl) ?_
    exact hx1
  try clear_value x0
  try clear_value x1
  try clear_value x2
  refine Keeps.upd_16 (hW.bit rfl) (by constructor <;> first | exact fun h => Bool.noConfusion ((hW.bit (by rfl)).symm.trans h) | exact fun _ => rfl | (intro _; split <;> rfl)) ?_
  exact hx2

theorem keeps_openNext {W : Nat} {a : State} {v0 : State} (hW : Sub 29243015907268149203883755326167646212 W) (hv0 : Keeps W a v0) :
    ∀ t, openNext v0 = some t → Keeps W a t := by
  intro t h
  unfold openNext at h
  split at h
  · cases h
    exact keeps_openSector (hW.of rfl) hv0
  · cases h

theorem keeps_appendRec {W : Nat} {a : State} {v0 : LogRec} {v1 : State} (hW : Sub 50351068751325456435098408043673911491256332 W) (hv1 : Keeps W a v1) :
    ∀ t, appendRec v0 v1 = some t → Keeps W a t.2 := by
  intro t h
  unfold appendRec at h
  have h0 : Keeps W a (takeOcc .append v1) := keeps_takeOcc (hW.of rfl) hv1
  simp only at h
  split at h
  · cases h
    exact keeps_noteAppend (hW.of rfl) (keeps_putRecord (hW.of rfl) h0)
  · split at h
    · rename_i s1 hs
      cases h
      exact keeps_noteAppend (hW.of rfl) (keeps_putRecord (hW.of rfl) (keeps_openNext (hW.of rfl) h0 s1 hs))
    · cases h

theorem keeps_flushRecs {W : Nat} {a : State} {v0 : List LogRec} {v1 : State} (hW : Sub 50438181037257216681745031943176444153389068 W) (hv1 : Keeps W a v1) :
    Keeps W a (flushRecs v0 v1) := by
  induction v0 generalizing v1 with
  | nil => exact Keeps.upd_16 (hW.bit rfl) (by constructor <;> first | exact fun h => Bool.noConfusion ((hW.bit (by rfl)).symm.trans h) | exact fun _ => rfl | (intro _; split <;> rfl)) hv1
  | cons r rs ih =>
    unfold flushRecs
    split
    · rename_i q t h
      exact ih (keeps_appendRec (hW.of rfl) hv1 _ h)
    · exact Keeps.upd_16 (hW.bit rfl) (by constructor <;> first | exact fun h => Bool.noConfusion ((hW.bit (by rfl)).symm.trans h) | exact fun _ => rfl | (intro _; split <;> rfl)) hv1

theorem keeps_flushLog {W : Nat} {a : State} {v0 : State} (hW : Sub 50438181037257216681745031943176444153389068 W) (hv0 : Keeps W a v0) :
    Keeps W a (flushLog v0) := by
  unfold flushLog
  refine Keeps.ite ?_ ?_
  · refine keeps_flushRecs (hW.of rfl) ?_
    exact hv0
  · exact hv0

theorem keeps_logRecordAt {W : Nat} {a : State} {v0 : ℕ} {v1 : ℕ} {v2 : List Sys2Proof.Byte} {v3 : State} (hW : Sub 50438181037257216681745031943176444153389068 W) (hv3 : Keeps W a v3) :
    Keeps W a (logRecordAt v0 v1 v2 v3) := by
  unfold logRecordAt
  refine keeps_flushLog (hW.of rfl) ?_
  refine Keeps.upd_16 (hW.bit rfl) (by constructor <;> first | exact fun h => Bool.noConfusion ((hW.bit (by rfl)).symm.trans h) | exact fun _ => rfl | (intro _; split <;> rfl)) ?_
  exact hv3

theorem keeps_logRecord {W : Nat} {a : State} {v0 : ℕ} {v1 : List Sys2Proof.Byte} {v2 : State} (hW : Sub 50438181037257216681745031943176444153389068 W) (hv2 : Keeps W a v2) :
    Keeps W a (logRecord v0 v1 v2) := by
  unfold logRecord
  refine keeps_logRecordAt (hW.of rfl) ?_
  exact hv2

theorem keeps_supersede {W : Nat} {a : State} {v0 : ℕ} {v1 : State} (hW : Sub 255211775190703847597530955573826224132 W) (hv1 : Keeps W a v1) :
    Keeps W a (supersede v0 v1) := by
  unfold supersede
  refine Keeps.ite ?_ ?_
  · extract_lets -useContext -underBinder x0 x1
    have hx0 : Keeps W a x0 := by
      refine keeps_programBytes (hW.of rfl) ?_
      exact hv1
    try clear_value x0
    refine Keeps.upd_16 (hW.bit rfl) (by constructor <;> first | exact fun h => Bool.noConfusion ((hW.bit (by rfl)).symm.trans h) | exact fun _ => rfl | (intro _; split <;> rfl)) ?_
    exact hx0
  · exact hv1

theorem keeps_onCapture {W : Nat} {a : State} {v0 : Sys2Proof.Machine.Capture → Sys2Proof.Machine.Capture} {v1 : State} (hW : Sub 12259964326927110866866776217202473468949912977470914560 W) (hv1 : Keeps W a v1) :
    Keeps W a (onCapture v0 v1) := by
  unfold onCapture
  refine Keeps.upd_21 (hW.bit rfl) (by constructor <;> first | exact fun h => Bool.noConfusion ((hW.bit (by rfl)).symm.trans h) | exact fun _ => rfl | (intro _; split <;> rfl)) ?_
  exact hv1

theorem keeps_captureMarkerCommit {W : Nat} {a : State} {v0 : State} (hW : Sub 12259964326927110866866816782021680772290760871973502980 W) (hv0 : Keeps W a v0) :
    Keeps W a (captureMarkerCommit v0) := by
  unfold captureMarkerCommit
  split
  · refine Keeps.ite ?_ ?_
    · exact hv0
    · extract_lets -useContext -underBinder x1
      refine keeps_onCapture (hW.of rfl) ?_
      refine keeps_faWrite (hW.of rfl) ?_
      refine keeps_faWrite (hW.of rfl) ?_
      exact hv0
  · exact hv0

theorem keeps_markerTry {W : Nat} {a : State} {v0 : State} (hW : Sub 12259964326927110866866816782021680772290760871973502980 W) (hv0 : Keeps W a v0) :
    Keeps W a (markerTry v0) := by
  unfold markerTry
  refine Keeps.ite ?_ ?_
  · refine keeps_captureMarkerCommit (hW.of rfl) ?_
    exact hv0
  · exact hv0

theorem keeps_writeBoot {W : Nat} {a : State} {v0 : Sys2Proof.Machine.BootCtl} {v1 : State} (hW : Sub 40564819207303340847894502588420 W) (hv1 : Keeps W a v1) :
    Keeps W a (writeBoot v0 v1) := by
  unfold writeBoot
  refine keeps_writeTwo (hW.of rfl) ?_
  exact hv1

end Sys2Proof.Machine
end

