-- ==== Sys2Proof/Laws/KeepsMailbox.lean ====
section
/-! SUPPORT. What the operations of Machine/Mailbox.lean keep (`Keeps`): one lemma for each. -/

namespace Sys2Proof.Machine

set_option linter.unusedVariables false
set_option linter.unusedTactic false
set_option linter.unreachableTactic false

theorem keeps_returnCredit {W : Nat} {a : State} {v0 : ℕ} {v1 : State} (hW : Sub 512 W) (hv1 : Keeps W a v1) :
    Keeps W a (returnCredit v0 v1) := by
  unfold returnCredit
  refine keeps_onTenant (hW.of rfl) ?_
  exact hv1

theorem keeps_returnIf {W : Nat} {a : State} {v0 : Bool} {v1 : ℕ} {v2 : State} (hW : Sub 512 W) (hv2 : Keeps W a v2) :
    Keeps W a (returnIf v0 v1 v2) := by
  unfold returnIf
  refine Keeps.ite ?_ ?_
  · refine keeps_returnCredit (hW.of rfl) ?_
    exact hv2
  · exact hv2

theorem keeps_postResponse {W : Nat} {a : State} {v0 : ℕ} {v1 : Sys2Proof.Machine.RspFrame} {v2 : Option ℕ} {v3 : Bool} {v4 : State} (hW : Sub 576 W) (hv4 : Keeps W a v4) :
    Keeps W a (postResponse v0 v1 v2 v3 v4) := by
  unfold postResponse
  refine Keeps.ite ?_ ?_
  · refine keeps_returnIf (hW.of rfl) ?_
    refine keeps_onPort (hW.of rfl) ?_
    exact hv4
  · refine keeps_onPort (hW.of rfl) ?_
    exact hv4

theorem keeps_respond {W : Nat} {a : State} {v0 : ℕ} {v1 : ℕ} {v2 : ℕ} {v3 : ℕ} {v4 : List Sys2Proof.Byte} {v5 : Option ℕ} {v6 : Bool} {v7 : State} (hW : Sub 576 W) (hv7 : Keeps W a v7) :
    Keeps W a (respond v0 v1 v2 v3 v4 v5 v6 v7) := by
  unfold respond
  refine keeps_postResponse (hW.of rfl) ?_
  exact hv7

theorem keeps_dropPart {W : Nat} {a : State} {v0 : ℕ} {v1 : ℕ} {v2 : State} (hW : Sub 512 W) (hv2 : Keeps W a v2) :
    Keeps W a (dropPart v0 v1 v2) := by
  unfold dropPart
  refine Keeps.ite ?_ ?_
  · refine keeps_onTenant (hW.of rfl) ?_
    exact hv2
  · exact hv2

theorem keeps_finish {W : Nat} {a : State} {v0 : Nat} {v1 : Req} {v2 : Reply} (hW : Sub 576 W) (hv2 : KeepsR W a v2) :
    Keeps W a (finish v0 v1 v2) := by
  cases hv2 with
  | done h => exact keeps_respond (hW.of rfl) h
  | doneThen h g => exact g _ (keeps_respond (hW.of rfl) h)
  | accepted h => exact keeps_respond (hW.of rfl) h
  | owed h => exact h

theorem keeps_runCommand {W : Nat} {a : State} {v0 : CmdDef} {v1 : Req} {v2 : Bytes} {v3 : State} (hW : Sub 576 W)
    (hv0 : KeepsC W a v0) (hv3 : Keeps W a v3) : Keeps W a (runCommand v0 v1 v2 v3) := by
  unfold runCommand
  split
  · exact keeps_respond (hW.of rfl) (keeps_dropPart (hW.of rfl) hv3)
  · exact keeps_finish (hW.of rfl) (hv0 _ _ _ hv3)

theorem keeps_onPortBus {W : Nat} {a : State} {v0 : ℕ} {v1 : State → State} {v2 : State} (hW : Sub 0 W) (hv1 : ∀ t, Keeps W a t → Keeps W a (v1 t)) (hv2 : Keeps W a v2) :
    Keeps W a (onPortBus v0 v1 v2) := by
  unfold onPortBus
  refine Keeps.ite ?_ ?_
  · refine hv1 _ ?_
    exact hv2
  · exact hv2

theorem keeps_consume {W : Nat} {a : State} {v0 : ℕ} {v1 : ℕ} {v2 : State} (hW : Sub 512 W) (hv2 : Keeps W a v2) :
    Keeps W a (consume v0 v1 v2) := by
  unfold consume
  refine Keeps.ite ?_ ?_
  · exact hv2
  · refine keeps_onTenant (hW.of rfl) ?_
    exact hv2

theorem keeps_serveChecked {W : Nat} {a : State} {v0 : CmdDef} {v1 : Sys2Proof.Req} {v2 : List Sys2Proof.Byte} {v3 : State} (hW : Sub 576 W) (hv0 : KeepsC W a v0) (hv3 : Keeps W a v3) :
    Keeps W a (serveChecked v0 v1 v2 v3) := by
  unfold serveChecked
  split
  · refine keeps_respond (hW.of rfl) ?_
    refine keeps_dropPart (hW.of rfl) ?_
    exact hv3
  · refine keeps_runCommand (hW.of rfl) ?_ ?_
    · exact hv0
    · refine keeps_consume (hW.of rfl) ?_
      exact hv3

theorem keeps_wdStart {W : Nat} {a : State} {v0 : State} (hW : Sub 154742505343018098589966368 W) (hv0 : Keeps W a v0) :
    Keeps W a (wdStart v0) := by
  unfold wdStart
  extract_lets -useContext -underBinder x0 x1
  have hx0 : Keeps W a x0 := by
    refine keeps_takeOcc (hW.of rfl) ?_
    exact hv0
  try clear_value x0
  refine Keeps.upd_5 (hW.bit rfl) (by constructor <;> first | exact fun h => Bool.noConfusion ((hW.bit (by rfl)).symm.trans h) | exact fun _ => rfl | (intro _; split <;> rfl)) ?_
  exact hx0

theorem keeps_wdKick {W : Nat} {a : State} {v0 : State} (hW : Sub 154742505343018098589966368 W) (hv0 : Keeps W a v0) :
    Keeps W a (wdKick v0) := by
  unfold wdKick
  refine Keeps.ite ?_ ?_
  · refine keeps_wdStart (hW.of rfl) ?_
    exact hv0
  · exact hv0

theorem keeps_serveUp {W : Nat} {a : State} {v0 : CmdDef} {v1 : Sys2Proof.Req} {v2 : List Sys2Proof.Byte} {v3 : State} (hW : Sub 154742505343018098589966944 W) (hv0 : KeepsC W a v0) (hv3 : Keeps W a v3) :
    Keeps W a (serveUp v0 v1 v2 v3) := by
  unfold serveUp
  refine Keeps.ite ?_ ?_
  · refine keeps_serveChecked (hW.of rfl) ?_ ?_
    · exact hv0
    · refine keeps_wdKick (hW.of rfl) ?_
      exact hv3
  · refine keeps_setIrq (hW.of rfl) ?_
    exact hv3

theorem keeps_serve {W : Nat} {a : State} {v0 : CmdDef} {v1 : Sys2Proof.Req} {v2 : List Sys2Proof.Byte} {v3 : State} (hW : Sub 154742505343018098589966944 W) (hv0 : KeepsC W a v0) (hv3 : Keeps W a v3) :
    Keeps W a (serve v0 v1 v2 v3) := by
  unfold serve
  refine keeps_onPortBus (hW.of rfl) ?_ ?_
  · intro t0 ht0
    refine keeps_serveUp (hW.of rfl) ?_ ?_
    · exact hv0
    · exact ht0
  · exact hv3

theorem keeps_onClock {W : Nat} {a : State} {v0 : State → State} {v1 : State} (hW : Sub 0 W) (hv0 : ∀ t, Keeps W a t → Keeps W a (v0 t)) (hv1 : Keeps W a v1) :
    Keeps W a (onClock v0 v1) := by
  unfold onClock
  refine Keeps.ite ?_ ?_
  · refine hv0 _ ?_
    exact hv1
  · exact hv1

theorem keeps_refuse {W : Nat} {a : State} {v0 : ℕ} {v1 : State} (hW : Sub 0 W) (hv1 : Keeps W a v1) :
    KeepsR W a (refuse v0 v1) := by
  unfold refuse
  refine KeepsR.done ?_
  exact hv1

theorem keeps_onPower {W : Nat} {a : State} {v0 : State → State} {v1 : State} (hW : Sub 0 W) (hv0 : ∀ t, Keeps W a t → Keeps W a (v0 t)) (hv1 : Keeps W a v1) :
    Keeps W a (onPower v0 v1) := by
  unfold onPower
  refine Keeps.ite ?_ ?_
  · refine hv0 _ ?_
    exact hv1
  · exact hv1

theorem keeps_onSys {W : Nat} {a : State} {v0 : State → State} {v1 : State} (hW : Sub 0 W) (hv0 : ∀ t, Keeps W a t → Keeps W a (v0 t)) (hv1 : Keeps W a v1) :
    Keeps W a (onSys v0 v1) := by
  unfold onSys
  refine Keeps.ite ?_ ?_
  · exact hv1
  · refine hv0 _ ?_
    exact hv1

theorem keeps_onLive {W : Nat} {a : State} {v0 : State → State} {v1 : State} (hW : Sub 0 W) (hv0 : ∀ t, Keeps W a t → Keeps W a (v0 t)) (hv1 : Keeps W a v1) :
    Keeps W a (onLive v0 v1) := by
  unfold onLive
  refine Keeps.ite ?_ ?_
  · refine hv0 _ ?_
    exact hv1
  · exact hv1

theorem keeps_endOp {W : Nat} {a : State} {v0 : Sys2Proof.Machine.PendOp} {v1 : ℕ} {v2 : List Sys2Proof.Byte} {v3 : State} (hW : Sub 154742504910672534362403392 W) (hv3 : Keeps W a v3) :
    Keeps W a (endOp v0 v1 v2 v3) := by
  unfold endOp
  refine Keeps.ite ?_ ?_
  · refine keeps_returnIf (hW.of rfl) ?_
    refine keeps_postOwn (hW.of rfl) ?_
    exact hv3
  · refine Keeps.ite ?_ ?_
    · exact hv3
    · refine keeps_respond (hW.of rfl) ?_
      exact hv3

theorem keeps_addOp {W : Nat} {a : State} {v0 : Sys2Proof.Machine.OpKind} {v1 : ℕ} {v2 : Sys2Proof.Req} {v3 : Bool} {v4 : State} (hW : Sub 1024 W) (hv4 : Keeps W a v4) :
    Keeps W a (addOp v0 v1 v2 v3 v4) := by
  unfold addOp
  refine Keeps.upd_10 (hW.bit rfl) ?_
  exact hv4

theorem keeps_deferOp {W : Nat} {a : State} {v0 : Sys2Proof.Machine.OpKind} {v1 : ℕ} {v2 : Sys2Proof.Req} {v3 : State} (hW : Sub 1024 W) (hv3 : Keeps W a v3) :
    KeepsR W a (deferOp v0 v1 v2 v3) := by
  unfold deferOp
  refine KeepsR.ite ?_ ?_
  · refine KeepsR.accepted ?_
    refine keeps_addOp (hW.of rfl) ?_
    exact hv3
  · refine KeepsR.owed ?_
    refine keeps_addOp (hW.of rfl) ?_
    exact hv3

theorem keeps_completeOp {W : Nat} {a : State} {v0 : Sys2Proof.Machine.OpKind} {v1 : ℕ} {v2 : List Sys2Proof.Byte} {v3 : State} (hW : Sub 154742504910672534362404416 W) (hv3 : Keeps W a v3) :
    Keeps W a (completeOp v0 v1 v2 v3) := by
  unfold completeOp
  split
  · refine keeps_endOp (hW.of rfl) ?_
    refine Keeps.upd_10 (hW.bit rfl) ?_
    exact hv3
  · exact hv3

end Sys2Proof.Machine
end

