-- ==== Sys2Proof/Laws/KeepsSched.lean ====
section
/-! SUPPORT. What the operations of Machine/Sched.lean keep (`Keeps`): one lemma for each. -/

namespace Sys2Proof.Machine

set_option linter.unusedVariables false
set_option linter.unusedTactic false
set_option linter.unreachableTactic false

theorem keeps_onConv {W : Nat} {a : State} {v0 : ℕ} {v1 : Sys2Proof.Machine.Converter → Sys2Proof.Machine.Converter} {v2 : State} (hW : Sub 39492109375708945011719260381376412119585660775205916720375005184 W) (hv2 : Keeps W a v2) :
    Keeps W a (onConv v0 v1 v2) := by
  unfold onConv
  refine Keeps.ite ?_ ?_
  · refine Keeps.upd_23 (hW.bit rfl) (by constructor <;> first | exact fun h => Bool.noConfusion ((hW.bit (by rfl)).symm.trans h) | exact fun _ => rfl | (intro _; split <;> rfl)) ?_
    exact hv2
  · refine Keeps.upd_23 (hW.bit rfl) (by constructor <;> first | exact fun h => Bool.noConfusion ((hW.bit (by rfl)).symm.trans h) | exact fun _ => rfl | (intro _; split <;> rfl)) ?_
    exact hv2

theorem keeps_countDrop {W : Nat} {a : State} {v0 : ℕ} {v1 : ℕ} {v2 : State} (hW : Sub 39492109375708945011719260381376412119585660775205916720375005184 W) (hv2 : Keeps W a v2) :
    Keeps W a (countDrop v0 v1 v2) := by
  unfold countDrop
  refine keeps_onConv (hW.of rfl) ?_
  exact hv2

theorem keeps_tagsDrop {W : Nat} {a : State} {v0 : State} (hW : Sub 154466919504395440236471106126294255167446762777370961297539072 W) (hv0 : Keeps W a v0) :
    Keeps W a (tagsDrop v0) := by
  unfold tagsDrop
  refine Keeps.upd_22 (hW.bit rfl) (by constructor <;> first | exact fun h => Bool.noConfusion ((hW.bit (by rfl)).symm.trans h) | exact fun _ => rfl | (intro _; split <;> rfl)) ?_
  exact hv0

theorem keeps_onSeq {W : Nat} {a : State} {v0 : ℕ} {v1 : Sys2Proof.Machine.Seq → Sys2Proof.Machine.Seq} {v2 : State} (hW : Sub 52656145834278593348959013841835216159447547700274555627163877376 W) (hv2 : Keeps W a v2) :
    Keeps W a (onSeq v0 v1 v2) := by
  unfold onSeq
  refine Keeps.upd_23 (hW.bit rfl) (by constructor <;> first | exact fun h => Bool.noConfusion ((hW.bit (by rfl)).symm.trans h) | exact fun _ => rfl | (intro _; split <;> rfl)) ?_
  exact hv2

theorem keeps_stopCut {W : Nat} {a : State} {v0 : State} {v1 : ℕ} (hW : Sub 92148255209987538360678274223211628279033208475480472347530493952 W) (hv0 : Keeps W a v0) :
    Keeps W a (stopCut v0 v1) := by
  unfold stopCut
  refine keeps_onSeq (hW.of rfl) ?_
  refine keeps_countDrop (hW.of rfl) ?_
  exact hv0

theorem keeps_onFrame {W : Nat} {a : State} {v0 : ℕ} {v1 : ℕ} {v2 : Sys2Proof.Machine.Frame → Sys2Proof.Machine.Frame} {v3 : State} (hW : Sub 52656145834278593348959013841835216159447547700274555627163877376 W) (hv3 : Keeps W a v3) :
    Keeps W a (onFrame v0 v1 v2 v3) := by
  unfold onFrame
  refine keeps_onSeq (hW.of rfl) ?_
  exact hv3

theorem keeps_runConv {W : Nat} {a : State} {v0 v1 : Nat} {v2 : State} (hW : Sub 92148255209987538360678274223211628279033208475480472347530493952 W) (hv2 : Keeps W a v2) :
    Keeps W a (runConv v0 v1 v2) := by
  induction v1 generalizing v2 with
  | zero => unfold runConv; exact hv2
  | succ n ih =>
    unfold runConv
    split
    · exact hv2
    · extract_lets c t g
      exact Keeps.ite hv2 (ih (keeps_onFrame (hW.of rfl) (keeps_onConv (hW.of rfl) hv2)))

theorem keeps_catchUp {W : Nat} {a : State} {v0 : State} (hW : Sub 92148255209987538360678274223211628279033208475480472347530493952 W) (hv0 : Keeps W a v0) :
    Keeps W a (catchUp v0) := by
  unfold catchUp
  refine Keeps.ite ?_ ?_
  · extract_lets -useContext -underBinder x0
    have hx0 : Keeps W a x0 := by
      refine keeps_runConv (hW.of rfl) ?_
      refine keeps_runConv (hW.of rfl) ?_
      exact hv0
    refine keeps_onConv (hW.of rfl) ?_
    refine keeps_onConv (hW.of rfl) ?_
    exact hx0
  · exact hv0

theorem keeps_shipStop {W : Nat} {a : State} {v0 : State} (hW : Sub 92302722129491933800914745329337922534355397743168515843190437440 W) (hv0 : Keeps W a v0) :
    Keeps W a (shipStop v0) := by
  unfold shipStop
  refine keeps_completeOp (hW.of rfl) ?_
  refine keeps_tagsDrop (hW.of rfl) ?_
  refine keeps_onConv (hW.of rfl) ?_
  refine keeps_onConv (hW.of rfl) ?_
  refine Keeps.foldl (fun t0 y1 ht0 => ?_) ?_
  · refine keeps_stopCut (hW.of rfl) ?_
    exact ht0
  · refine keeps_catchUp (hW.of rfl) ?_
    exact hv0

theorem keeps_countTrigger {W : Nat} {a : State} {v0 : ℕ} {v1 : State} (hW : Sub 39492109375708945011719260381376412119585660775205916720375005184 W) (hv1 : Keeps W a v1) :
    Keeps W a (countTrigger v0 v1) := by
  unfold countTrigger
  refine keeps_onConv (hW.of rfl) ?_
  exact hv1

theorem keeps_nextNumber {W : Nat} {a : State} {v0 : State} (hW : Sub 842498333348457493583344221469363458551160763204392890034496208896 W) (hv0 : Keeps W a v0) :
    Keeps W a (nextNumber v0).2 := by
  unfold nextNumber
  try dsimp only
  refine Keeps.upd_23 (hW.bit rfl) (by constructor <;> first | exact fun h => Bool.noConfusion ((hW.bit (by rfl)).symm.trans h) | exact fun _ => rfl | (intro _; split <;> rfl)) ?_
  exact hv0

theorem keeps_urgent {W : Nat} {a : State} {v0 : ℕ} {v1 : ℕ} {v2 : ℕ} {v3 : State} (hW : Sub 934646588558445031944022495692575086830193971679873362382018314240 W) (hv3 : Keeps W a v3) :
    Keeps W a (urgent v0 v1 v2 v3).2 := by
  unfold urgent
  extract_lets -useContext -underBinder x0
  have hx0 : Keeps W a x0 := by
    refine keeps_countTrigger (hW.of rfl) ?_
    refine keeps_catchUp (hW.of rfl) ?_
    exact hv3
  refine Keeps.ite2 ?_ ?_
  · split
    · rename_i p1 p2 q3
      have hp4 : Keeps W a p2 := Keeps.ofEq2 q3 (by
        refine keeps_nextNumber (hW.of rfl) ?_
        · exact hx0)
      split
      · try dsimp only
        refine keeps_onConv (hW.of rfl) ?_
        exact hp4
  · try dsimp only
    refine keeps_countDrop (hW.of rfl) ?_
    exact hx0

theorem keeps_countDone {W : Nat} {a : State} {v0 : ℕ} {v1 : State} (hW : Sub 39492109375708945011719260381376412119585660775205916720375005184 W) (hv1 : Keeps W a v1) :
    Keeps W a (countDone v0 v1) := by
  unfold countDone
  refine keeps_onConv (hW.of rfl) ?_
  exact hv1

theorem keeps_requestVerify {W : Nat} {a : State} {v0 : ℕ} {v1 : ℕ} {v2 : State} (hW : Sub 934646588558457004565435510449281011416343583470370383781411422208 W) (hv2 : Keeps W a v2) :
    Keeps W a (requestVerify v0 v1 v2) := by
  unfold requestVerify
  split
  · rename_i p0 p1 q2
    have hp3 : Keeps W a p1 := Keeps.ofEq2 q2 (by
      refine keeps_urgent (hW.of rfl) ?_
      · exact hv2)
    extract_lets -useContext -underBinder x4 x5
    refine Keeps.upd_20 (hW.bit rfl) (by constructor <;> first | exact fun h => Bool.noConfusion ((hW.bit (by rfl)).symm.trans h) | exact fun _ => rfl | (intro _; split <;> rfl)) ?_
    exact hp3
  · rename_i p6 q7
    have hp8 : Keeps W a p6 := Keeps.ofEq2 q7 (by
      refine keeps_urgent (hW.of rfl) ?_
      · exact hv2)
    exact hp8

theorem keeps_touchBank {W : Nat} {a : State} {v0 : ℕ} {v1 : State} (hW : Sub 154742504910672534362398720 W) (hv1 : Keeps W a v1) :
    Keeps W a (touchBank v0 v1) := by
  unfold touchBank
  refine keeps_takeOccAt (hW.of rfl) ?_
  exact hv1

theorem keeps_calLose {W : Nat} {a : State} {v0 : Sys2Proof.Machine.CalRun → Bool} {v1 : ℕ} {v2 : State} (hW : Sub 210624583337114373395836055367340864637790190801098222508630343680 W) (hv2 : Keeps W a v2) :
    Keeps W a (calLose v0 v1 v2) := by
  unfold calLose
  refine Keeps.upd_23 (hW.bit rfl) (by constructor <;> first | exact fun h => Bool.noConfusion ((hW.bit (by rfl)).symm.trans h) | exact fun _ => rfl | (intro _; split <;> rfl)) ?_
  exact hv2

theorem keeps_onBank {W : Nat} {a : State} {v0 : ℕ} {v1 : Sys2Proof.Machine.Bank → Sys2Proof.Machine.Bank} {v2 : State} (hW : Sub 215679573337205118357336120696157045389097155380324579848828898770944 W) (hv2 : Keeps W a v2) :
    Keeps W a (onBank v0 v1 v2) := by
  unfold onBank
  refine Keeps.upd_24 (hW.bit rfl) (by constructor <;> first | exact fun h => Bool.noConfusion ((hW.bit (by rfl)).symm.trans h) | exact fun _ => rfl | (intro _; split <;> rfl)) ?_
  exact hv2

theorem keeps_onRing {W : Nat} {a : State} {v0 : ℕ} {v1 : Sys2Proof.Machine.Ring → Sys2Proof.Machine.Ring} {v2 : State} (hW : Sub 105312291668557186697918027683670432318895095400549111254319366144 W) (hv2 : Keeps W a v2) :
    Keeps W a (onRing v0 v1 v2) := by
  unfold onRing
  refine Keeps.upd_23 (hW.bit rfl) (by constructor <;> first | exact fun h => Bool.noConfusion ((hW.bit (by rfl)).symm.trans h) | exact fun _ => rfl | (intro _; split <;> rfl)) ?_
  exact hv2

theorem keeps_detachRing {W : Nat} {a : State} {v0 : ℕ} {v1 : State} (hW : Sub 215837541774707954137382997737682551037575498023425403515710373625856 W) (hv1 : Keeps W a v1) :
    Keeps W a (detachRing v0 v1) := by
  unfold detachRing
  extract_lets -useContext -underBinder x0 x1 x4 x5 x6
  have hx1 : Keeps W a x1 := by
    refine Keeps.foldl (fun t2 y3 ht2 => ?_) ?_
    · refine keeps_onBank (hW.of rfl) ?_
      exact ht2
    · exact hv1
  have hx6 : Keeps W a x6 := by
    unfold x6
    try clear_value x1
    refine Keeps.upd_23 (hW.bit rfl) (by constructor <;> first | exact fun h => Bool.noConfusion ((hW.bit (by rfl)).symm.trans h) | exact fun _ => rfl | (intro _; split <;> rfl)) ?_
    exact hx1
  refine keeps_onRing (hW.of rfl) ?_
  exact hx6

theorem keeps_leaveService {W : Nat} {a : State} {v0 : State} (hW : Sub 216048166358045068510778833793049891902213288214226501738218995580928 W) (hv0 : Keeps W a v0) :
    Keeps W a (leaveService v0) := by
  unfold leaveService
  extract_lets -useContext -underBinder x0
  have hx0 : Keeps W a x0 := by
    refine keeps_calLose (hW.of rfl) ?_
    exact hv0
  refine Keeps.ite ?_ ?_
  · refine keeps_detachRing (hW.of rfl) ?_
    exact hx0
  · exact hx0

theorem keeps_noteSource {W : Nat} {a : State} {v0 : ℕ} {v1 : ℕ} {v2 : State} (hW : Sub 1684996666696914987166688442938726917102321526408785780068984029184 W) (hv2 : Keeps W a v2) :
    Keeps W a (noteSource v0 v1 v2) := by
  unfold noteSource
  extract_lets -useContext -underBinder x0 x1
  refine Keeps.upd_23 (hW.bit rfl) (by constructor <;> first | exact fun h => Bool.noConfusion ((hW.bit (by rfl)).symm.trans h) | exact fun _ => rfl | (intro _; split <;> rfl)) ?_
  exact hv2

theorem keeps_countGrant {W : Nat} {a : State} {v0 : ℕ} {v1 : ℕ} {v2 : Bool} {v3 : State} (hW : Sub 2588154880046461420288033448353884544669165864563894958185946600701952 W) (hv3 : Keeps W a v3) :
    Keeps W a (countGrant v0 v1 v2 v3) := by
  unfold countGrant
  refine Keeps.upd_24 (hW.bit rfl) (by constructor <;> first | exact fun h => Bool.noConfusion ((hW.bit (by rfl)).symm.trans h) | exact fun _ => rfl | (intro _; split <;> rfl)) ?_
  exact hv3

theorem keeps_arbRun {W : Nat} {a : State} {v0 v1 v2 : Nat} {v3 : List (Nat × Bool)} {v4 : State} (hW : Sub 2803834453383666538645369569050041590058263019944219538034775482695680 W)
    (hv4 : Keeps W a v4) : Keeps W a (arbRun v0 v1 v2 v3 v4) := by
  induction v1 generalizing v2 v3 v4 with
  | zero => unfold arbRun; exact hv4
  | succ n ih =>
    unfold arbRun
    extract_lets p s1
    have h1 : Keeps W a s1 := keeps_onBank (hW.of rfl) hv4
    split
    · exact ih (keeps_countGrant (hW.of rfl) h1)
    · exact h1

theorem keeps_arbitrate {W : Nat} {a : State} {v0 : ℕ} {v1 : ℕ} {v2 : Bool} {v3 : List (ℕ × Bool)} {v4 : State} (hW : Sub 2803834453383666538645369569050041590058263174686724448707309845094400 W) (hv4 : Keeps W a v4) :
    Keeps W a (arbitrate v0 v1 v2 v3 v4) := by
  unfold arbitrate
  extract_lets -useContext -underBinder x0
  refine keeps_arbRun (hW.of rfl) ?_
  refine keeps_touchBank (hW.of rfl) ?_
  exact hv4

theorem keeps_bankBytes {W : Nat} {a : State} {v0 : ℕ} {v1 : List Sys2Proof.Byte} {v2 : State} (hW : Sub 3450873173395281893717377931138512726225554486085193277581262128676868 W) (hv2 : Keeps W a v2) :
    Keeps W a (bankBytes v0 v1 v2) := by
  unfold bankBytes
  extract_lets -useContext -underBinder x0 x1
  have hx0 : Keeps W a x0 := by
    refine keeps_writeBytes (hW.of rfl) ?_
    exact hv2
  try clear_value x0
  refine Keeps.upd_24 (hW.bit rfl) (by constructor <;> first | exact fun h => Bool.noConfusion ((hW.bit (by rfl)).symm.trans h) | exact fun _ => rfl | (intro _; split <;> rfl)) ?_
  exact hx0

theorem keeps_upset {W : Nat} {a : State} {v0 : Bool} {v1 : ℕ} {v2 : State} (hW : Sub 3450873173395281893717377931138512726225554486085193277581262128676864 W) (hv2 : Keeps W a v2) :
    Keeps W a (upset v0 v1 v2) := by
  unfold upset
  refine Keeps.ite ?_ ?_
  · refine Keeps.upd_24 (hW.bit rfl) (by constructor <;> first | exact fun h => Bool.noConfusion ((hW.bit (by rfl)).symm.trans h) | exact fun _ => rfl | (intro _; split <;> rfl)) ?_
    exact hv2
  · exact hv2

theorem keeps_syncFrames {W : Nat} {a : State} {v0 : ℕ} {v1 : ℕ} {v2 : Sys2Proof.Machine.Frame} {v3 : Sys2Proof.Machine.Frame} {v4 : State} (hW : Sub 92148255209987538360678274223211628279033208475480472347530493952 W) (hv4 : Keeps W a v4) :
    Keeps W a (syncFrames v0 v1 v2 v3 v4) := by
  unfold syncFrames
  extract_lets -useContext -underBinder x0 x1 x2 x3 x4 x5 x6 x7
  have hx6 : Keeps W a x6 := by
    refine keeps_onConv (hW.of rfl) ?_
    exact hv4
  have hx7 : Keeps W a x7 := by
    refine keeps_onConv (hW.of rfl) ?_
    exact hx6
  refine keeps_onFrame (hW.of rfl) ?_
  refine keeps_onFrame (hW.of rfl) ?_
  exact hx7

end Sys2Proof.Machine
end

