-- ==== Sys2Proof/Laws/KeepsImage.lean ====
section
/-! SUPPORT. What the operations of Machine/Image.lean keep (`Keeps`): one lemma for each. -/

namespace Sys2Proof.Machine

set_option linter.unusedVariables false
set_option linter.unusedTactic false
set_option linter.unreachableTactic false

theorem keeps_configRecord {W : Nat} {a : State} {v0 : ℕ} {v1 : ℕ} {v2 : ℕ} {v3 : ℕ} {v4 : ℕ} {v5 : ℕ} {v6 : ℕ} {v7 : ℕ} {v8 : Sys2Proof.Machine.PInst} {v9 : ℕ} {v10 : State} (hW : Sub 50438181037257216681745031943176444153389068 W) (hv10 : Keeps W a v10) :
    Keeps W a (configRecord v0 v1 v2 v3 v4 v5 v6 v7 v8 v9 v10) := by
  unfold configRecord
  refine keeps_logRecord (hW.of rfl) ?_
  exact hv10

theorem keeps_configFailed {W : Nat} {a : State} {v0 : ℕ} {v1 : List Sys2Proof.Machine.PWrite} {v2 : State} (hW : Sub 50438181037257216681745031943176444153389068 W) (hv2 : Keeps W a v2) :
    Keeps W a (configFailed v0 v1 v2) := by
  unfold configFailed
  refine keeps_configRecord (hW.of rfl) ?_
  exact hv2

theorem keeps_persistFailed {W : Nat} {a : State} {v0 : ℕ} {v1 : List Sys2Proof.Machine.PWrite} {v2 : State} (hW : Sub 50438181037257216681745031943176444153389068 W) (hv2 : Keeps W a v2) :
    Keeps W a (persistFailed v0 v1 v2) := by
  unfold persistFailed
  refine keeps_configFailed (hW.of rfl) ?_
  refine keeps_faWrite (hW.of rfl) ?_
  exact hv2

theorem keeps_writeImage {W : Nat} {a : State} {v0 : List Sys2Proof.Byte} {v1 : State} (hW : Sub 40574722727617623890093695590404 W) (hv1 : Keeps W a v1) :
    Keeps W a (writeImage v0 v1) := by
  unfold writeImage
  extract_lets -useContext -underBinder x0 x1 x2 x3 x4 x5 x6 x7
  have hx3 : Keeps W a x3 := by
    refine keeps_faWrite (hW.of rfl) ?_
    exact hv1
  have hx4 : Keeps W a x4 := by
    refine keeps_faWrite (hW.of rfl) ?_
    exact hx3
  have hx5 : Keeps W a x5 := by
    refine keeps_faWrite (hW.of rfl) ?_
    exact hx4
  have hx6 : Keeps W a x6 := by
    refine keeps_faWrite (hW.of rfl) ?_
    exact hx5
  try clear_value x3
  try clear_value x4
  try clear_value x5
  try clear_value x6
  refine Keeps.upd_13 (hW.bit rfl) (by constructor <;> first | exact fun h => Bool.noConfusion ((hW.bit (by rfl)).symm.trans h) | exact fun _ => rfl | (intro _; split <;> rfl)) ?_
  exact hx6

theorem keeps_persist {W : Nat} {a : State} {v0 : ℕ} {v1 : ℕ} {v2 : List Sys2Proof.Machine.PWrite} {v3 : State} (hW : Sub 50438181037257226585265346226218643346382860 W) (hv3 : Keeps W a v3) :
    Keeps W a (persist v0 v1 v2 v3) := by
  unfold persist
  extract_lets -useContext -underBinder x0 x1 x2
  refine keeps_configRecord (hW.of rfl) ?_
  refine keeps_writeImage (hW.of rfl) ?_
  exact hv3

theorem keeps_persistWrites {W : Nat} {a : State} {v0 : ℕ} {v1 : List Sys2Proof.Machine.PWrite} {v2 : Bool} {v3 : State} (hW : Sub 50438181037257226585265346226218643346382860 W) (hv3 : Keeps W a v3) :
    Keeps W a (persistWrites v0 v1 v2 v3).2 := by
  unfold persistWrites
  refine Keeps.ite2 ?_ ?_
  · try dsimp only
    refine keeps_configFailed (hW.of rfl) ?_
    exact hv3
  · refine Keeps.ite2 ?_ ?_
    · try dsimp only
      refine keeps_persistFailed (hW.of rfl) ?_
      exact hv3
    · try dsimp only
      refine keeps_persist (hW.of rfl) ?_
      exact hv3

end Sys2Proof.Machine
end

