-- ==== Sys2Proof/Laws/KeepsRails.lean ====
section
/-! SUPPORT. What the operations of Machine/Rails.lean keep (`Keeps`): one lemma for each. -/

namespace Sys2Proof.Machine

set_option linter.unusedVariables false
set_option linter.unusedTactic false
set_option linter.unreachableTactic false

theorem keeps_onRail {W : Nat} {a : State} {v0 : ℕ} {v1 : Sys2Proof.Machine.Rail → Sys2Proof.Machine.Rail} {v2 : State} (hW : Sub 262144 W) (hv2 : Keeps W a v2) :
    Keeps W a (onRail v0 v1 v2) := by
  unfold onRail
  refine Keeps.upd_18 (hW.bit rfl) ?_
  exact hv2

theorem keeps_windowsFollow {W : Nat} {a : State} {v0 : Option ℤ} {v1 : ℕ} {v2 : State} (hW : Sub 262144 W) (hv2 : Keeps W a v2) :
    Keeps W a (windowsFollow v0 v1 v2) := by
  unfold windowsFollow
  extract_lets -useContext -underBinder x0 x1 x2
  have hx1 : Keeps W a x1 := by
    refine keeps_onRail (hW.of rfl) ?_
    exact hv2
  refine Keeps.ite ?_ ?_
  · exact hx1
  · refine keeps_onRail (hW.of rfl) ?_
    exact hx1

theorem keeps_releaseMargin {W : Nat} {a : State} {v0 : ℕ} {v1 : State} (hW : Sub 154742504910672534362660864 W) (hv1 : Keeps W a v1) :
    Keeps W a (releaseMargin v0 v1) := by
  unfold releaseMargin
  refine keeps_windowsFollow (hW.of rfl) ?_
  refine keeps_onRail (hW.of rfl) ?_
  refine Keeps.ite ?_ ?_
  · exact hv1
  · refine keeps_takeOccAt (hW.of rfl) ?_
    exact hv1

theorem keeps_seeSense {W : Nat} {a : State} {v0 : ℕ} {v1 : ℤ} {v2 : State} (hW : Sub 262144 W) (hv2 : Keeps W a v2) :
    Keeps W a (seeSense v0 v1 v2) := by
  unfold seeSense
  refine keeps_onRail (hW.of rfl) ?_
  exact hv2

theorem keeps_calWatch {W : Nat} {a : State} {v0 : ℕ} {v1 : Sys2Proof.Machine.RailSt} {v2 : State} (hW : Sub 210624583337114373395836055367340864637790190801098222508630343680 W) (hv2 : Keeps W a v2) :
    Keeps W a (calWatch v0 v1 v2) := by
  unfold calWatch
  refine keeps_calLose (hW.of rfl) ?_
  exact hv2

theorem keeps_setSt {W : Nat} {a : State} {v0 : ℕ} {v1 : Sys2Proof.Machine.RailSt} {v2 : State} (hW : Sub 210624583337114373395836055367340864637790190801098222508630605824 W) (hv2 : Keeps W a v2) :
    Keeps W a (setSt v0 v1 v2) := by
  unfold setSt
  extract_lets -useContext -underBinder x0 x1
  refine keeps_calWatch (hW.of rfl) ?_
  refine keeps_onRail (hW.of rfl) ?_
  exact hv2

theorem keeps_setMargin {W : Nat} {a : State} {v0 : ℕ} {v1 : ℕ} {v2 : State} (hW : Sub 154742504910672534362660864 W) (hv2 : Keeps W a v2) :
    Keeps W a (setMargin v0 v1 v2) := by
  unfold setMargin
  refine keeps_onRail (hW.of rfl) ?_
  refine Keeps.ite ?_ ?_
  · exact hv2
  · refine keeps_takeOccAt (hW.of rfl) ?_
    exact hv2

theorem keeps_dropJoin {W : Nat} {a : State} {v0 : ℕ} {v1 : State} (hW : Sub 5846006549323611672814739330865132078623730696192 W) (hv1 : Keeps W a v1) :
    Keeps W a (dropJoin v0 v1) := by
  unfold dropJoin
  refine Keeps.upd_19 (hW.bit rfl) (by constructor <;> first | exact fun h => Bool.noConfusion ((hW.bit (by rfl)).symm.trans h) | exact fun _ => rfl | (intro _; split <;> rfl)) ?_
  exact hv1

theorem keeps_reachOn {W : Nat} {a : State} {v0 : ℕ} {v1 : State} (hW : Sub 210624583337114379241842604690952537452684264171140973666723705408 W) (hv1 : Keeps W a v1) :
    Keeps W a (reachOn v0 v1) := by
  unfold reachOn
  extract_lets -useContext -underBinder x0 x1 x2
  have hx1 : Keeps W a x1 := by
    refine keeps_setSt (hW.of rfl) ?_
    refine keeps_setMargin (hW.of rfl) ?_
    exact hv1
  have hx2 : Keeps W a x2 := by
    refine keeps_onRail (hW.of rfl) ?_
    exact hx1
  refine Keeps.ite ?_ ?_
  · refine keeps_post (hW.of rfl) ?_
    refine keeps_dropJoin (hW.of rfl) ?_
    exact hx2
  · exact hx2

theorem keeps_restartOc {W : Nat} {a : State} {v0 : ℕ} {v1 : State} (hW : Sub 191561942608236107294793378393788647952342390273998848 W) (hv1 : Keeps W a v1) :
    Keeps W a (restartOc v0 v1) := by
  unfold restartOc
  refine Keeps.upd_20 (hW.bit rfl) (by constructor <;> first | exact fun h => Bool.noConfusion ((hW.bit (by rfl)).symm.trans h) | exact fun _ => rfl | (intro _; split <;> rfl)) ?_
  exact hv1

theorem keeps_fellBelow {W : Nat} {a : State} {v0 : ℕ} {v1 : State} (hW : Sub 210624583337114373395836055367340864637790190801098222508630605824 W) (hv1 : Keeps W a v1) :
    Keeps W a (fellBelow v0 v1) := by
  unfold fellBelow
  extract_lets -useContext -underBinder x0 x1
  have hx1 : Keeps W a x1 := by
    refine keeps_onRail (hW.of rfl) ?_
    exact hv1
  refine Keeps.ite ?_ ?_
  · refine keeps_setSt (hW.of rfl) ?_
    exact hx1
  · exact hx1

theorem keeps_deassertEn {W : Nat} {a : State} {v0 : ℕ} {v1 : Sys2Proof.Machine.RailSt} {v2 : State} (hW : Sub 210624583337305935338444291474635658016338721953961237433267003392 W) (hv2 : Keeps W a v2) :
    Keeps W a (deassertEn v0 v1 v2) := by
  unfold deassertEn
  refine Keeps.ite ?_ ?_
  · extract_lets -useContext -underBinder x0 x1 x2 x3
    have hx0 : Keeps W a x0 := by
      refine keeps_releaseMargin (hW.of rfl) ?_
      refine keeps_takeOccAt (hW.of rfl) ?_
      exact hv2
    have hx2 : Keeps W a x2 := by
      refine keeps_onRail (hW.of rfl) ?_
      exact hx0
    have hx3 : Keeps W a x3 := by
      refine keeps_setSt (hW.of rfl) ?_
      refine keeps_restartOc (hW.of rfl) ?_
      exact hx2
    refine Keeps.ite ?_ ?_
    · refine keeps_fellBelow (hW.of rfl) ?_
      exact hx3
    · exact hx3
  · refine keeps_setSt (hW.of rfl) ?_
    refine keeps_onRail (hW.of rfl) ?_
    exact hv2

theorem keeps_disableRail {W : Nat} {a : State} {v0 : ℕ} {v1 : State} (hW : Sub 210624583337305935338444291474635658016338721953961237433267003392 W) (hv1 : Keeps W a v1) :
    Keeps W a (disableRail v0 v1) := by
  unfold disableRail
  refine Keeps.ite ?_ ?_
  · refine keeps_deassertEn (hW.of rfl) ?_
    exact hv1
  · exact hv1

theorem keeps_disableAll {W : Nat} {a : State} {v0 : List ℕ} {v1 : State} (hW : Sub 210624583337305935338444291474635658016338721953961237433267003392 W) (hv1 : Keeps W a v1) :
    Keeps W a (disableAll v0 v1) := by
  unfold disableAll
  refine Keeps.foldl (fun t0 y1 ht0 => ?_) ?_
  · refine keeps_disableRail (hW.of rfl) ?_
    exact ht0
  · exact hv1

theorem keeps_seePg {W : Nat} {a : State} {v0 : ℕ} {v1 : Bool} {v2 : ℤ} {v3 : State} (hW : Sub 262144 W) (hv3 : Keeps W a v3) :
    Keeps W a (seePg v0 v1 v2 v3) := by
  unfold seePg
  extract_lets -useContext -underBinder x0
  refine keeps_onRail (hW.of rfl) ?_
  refine keeps_seeSense (hW.of rfl) ?_
  exact hv3

theorem keeps_assertEn {W : Nat} {a : State} {v0 : ℕ} {v1 : Sys2Proof.Machine.RailSt} {v2 : State} (hW : Sub 210624583337114379241842604690952537452684264171140973666723705408 W) (hv2 : Keeps W a v2) :
    Keeps W a (assertEn v0 v1 v2) := by
  unfold assertEn
  refine Keeps.ite ?_ ?_
  · exact hv2
  · extract_lets -useContext -underBinder x0 x1 x2
    have hx0 : Keeps W a x0 := by
      refine keeps_takeOccAt (hW.of rfl) ?_
      exact hv2
    have hx1 : Keeps W a x1 := by
      refine keeps_onRail (hW.of rfl) ?_
      exact hx0
    have hx2 : Keeps W a x2 := by
      refine keeps_setSt (hW.of rfl) ?_
      exact hx1
    refine Keeps.ite ?_ ?_
    · refine keeps_reachOn (hW.of rfl) ?_
      exact hx2
    · exact hx2

theorem keeps_setVaux {W : Nat} {a : State} {v0 : State} (hW : Sub 9444732965739290427424 W) (hv0 : Keeps W a v0) :
    Keeps W a (setVaux v0) := by
  unfold setVaux
  extract_lets -useContext -underBinder x0 x1
  refine Keeps.upd_5 (hW.bit rfl) (by constructor <;> first | exact fun h => Bool.noConfusion ((hW.bit (by rfl)).symm.trans h) | exact fun _ => rfl | (intro _; split <;> rfl)) ?_
  exact hv0

theorem keeps_changeMode {W : Nat} {a : State} {v0 : Sys2Proof.Machine.Mode} {v1 : ℕ} {v2 : ℕ} {v3 : ℕ} {v4 : ℕ} {v5 : State} (hW : Sub 216048166358045068510778884231230929159429969968721624624476148953708 W) (hv5 : Keeps W a v5) :
    Keeps W a (changeMode v0 v1 v2 v3 v4 v5) := by
  unfold changeMode
  extract_lets -useContext -underBinder x0 x1 x2 x3 x4
  have hx1 : Keeps W a x1 := by
    refine Keeps.ite ?_ ?_
    · refine keeps_leaveService (hW.of rfl) ?_
      exact hv5
    · exact hv5
  have hx3 : Keeps W a x3 := by
    unfold x3
    try clear_value x1
    refine keeps_post (hW.of rfl) ?_
    refine Keeps.upd_5 (hW.bit rfl) (by constructor <;> first | exact fun h => Bool.noConfusion ((hW.bit (by rfl)).symm.trans h) | exact fun _ => rfl | (intro _; split <;> rfl)) ?_
    exact hx1
  have hx4 : Keeps W a x4 := by
    refine keeps_logRecord (hW.of rfl) ?_
    exact hx3
  refine keeps_setVaux (hW.of rfl) ?_
  refine keeps_takeOcc (hW.of rfl) ?_
  exact hx4

theorem keeps_endForce {W : Nat} {a : State} {v0 : State} {v1 : ℕ} (hW : Sub 210624583337114379241842604690952537452684264171140973666723705408 W) (hv0 : Keeps W a v0) :
    Keeps W a (endForce v0 v1) := by
  unfold endForce
  extract_lets -useContext -underBinder x0
  refine Keeps.ite ?_ ?_
  · refine Keeps.ite ?_ ?_
    · refine keeps_reachOn (hW.of rfl) ?_
      exact hv0
    · refine keeps_setSt (hW.of rfl) ?_
      refine keeps_releaseMargin (hW.of rfl) ?_
      exact hv0
  · exact hv0

theorem keeps_endForced {W : Nat} {a : State} {v0 : State} (hW : Sub 210624583337114379241842604690952537452684264171140973666723705408 W) (hv0 : Keeps W a v0) :
    Keeps W a (endForced v0) := by
  unfold endForced
  refine Keeps.foldl (fun t0 y1 ht0 => ?_) ?_
  · refine keeps_endForce (hW.of rfl) ?_
    exact ht0
  · exact hv0

theorem keeps_bringLand {W : Nat} {a : State} {v0 : State} (hW : Sub 216048166358045260078567499016661835625623103088271602533637573014124 W) (hv0 : Keeps W a v0) :
    Keeps W a (bringLand v0) := by
  unfold bringLand
  refine Keeps.ite ?_ ?_
  · extract_lets -useContext -underBinder x0 x1 x2
    have hx0 : Keeps W a x0 := by
      refine keeps_endForced (hW.of rfl) ?_
      exact hv0
    have hx1 : Keeps W a x1 := by
      refine keeps_disableAll (hW.of rfl) ?_
      exact hx0
    try clear_value x0
    try clear_value x1
    refine keeps_changeMode (hW.of rfl) ?_
    refine Keeps.upd_5 (hW.bit rfl) (by constructor <;> first | exact fun h => Bool.noConfusion ((hW.bit (by rfl)).symm.trans h) | exact fun _ => rfl | (intro _; split <;> rfl)) ?_
    exact hx1
  · exact hv0

theorem keeps_bringNext {W : Nat} {a : State} {v0 : List Nat} {v1 : State} (hW : Sub 210624583337114414317881900632622574341120249361933445409104736832 W) (hv1 : Keeps W a v1) :
    Keeps W a (bringNext v0 v1) := by
  induction v0 generalizing v1 with
  | nil => exact Keeps.upd_19 (hW.bit rfl) (by constructor <;> first | exact fun h => Bool.noConfusion ((hW.bit (by rfl)).symm.trans h) | exact fun _ => rfl | (intro _; split <;> rfl)) hv1
  | cons r rs ih =>
    unfold bringNext
    refine Keeps.ite ?_ (ih hv1)
    have h1 := keeps_assertEn (v0 := r) (v1 := .enabling) (hW.of rfl)
      (Keeps.upd_19 (v19 := { v1.eng with bringWait := some r, bringUp := rs }) (hW.bit rfl) (by constructor <;> first | exact fun h => Bool.noConfusion ((hW.bit (by rfl)).symm.trans h) | exact fun _ => rfl | (intro _; split <;> rfl)) hv1)
    exact Keeps.ite h1 (ih h1)

theorem keeps_startBringUp {W : Nat} {a : State} {v0 : State} (hW : Sub 216048166358045260113643538312603505662511539073462395005379954045548 W) (hv0 : Keeps W a v0) :
    Keeps W a (startBringUp v0) := by
  unfold startBringUp
  refine Keeps.ite ?_ ?_
  · refine Keeps.upd_19 (hW.bit rfl) (by constructor <;> first | exact fun h => Bool.noConfusion ((hW.bit (by rfl)).symm.trans h) | exact fun _ => rfl | (intro _; split <;> rfl)) ?_
    exact hv0
  · refine keeps_bringLand (hW.of rfl) ?_
    refine keeps_bringNext (hW.of rfl) ?_
    exact hv0

theorem keeps_endJoin {W : Nat} {a : State} {v0 : ℕ} {v1 : State} (hW : Sub 5846006549323611672814894073370042751158093099584 W) (hv1 : Keeps W a v1) :
    Keeps W a (endJoin v0 v1) := by
  unfold endJoin
  refine Keeps.ite ?_ ?_
  · refine keeps_post (hW.of rfl) ?_
    refine keeps_dropJoin (hW.of rfl) ?_
    exact hv1
  · exact hv1

theorem keeps_bringPoll {W : Nat} {a : State} {v0 : State} (hW : Sub 216048166358045260113643538312603505662511539073462395005379954045548 W) (hv0 : Keeps W a v0) :
    Keeps W a (bringPoll v0) := by
  unfold bringPoll
  refine Keeps.ite ?_ ?_
  · refine keeps_bringLand (hW.of rfl) ?_
    refine keeps_bringNext (hW.of rfl) ?_
    exact hv0
  · exact hv0

end Sys2Proof.Machine
end

