-- ==== Sys2Proof/Laws/KeepsEngine.lean ====
section
/-! SUPPORT. What the operations of Machine/Engine.lean keep (`Keeps`): one lemma for each. -/

namespace Sys2Proof.Machine

set_option linter.unusedVariables false
set_option linter.unusedTactic false
set_option linter.unreachableTactic false

theorem keeps_cancelRetries {W : Nat} {a : State} {v0 : State} (hW : Sub 262144 W) (hv0 : Keeps W a v0) :
    Keeps W a (cancelRetries v0) := by
  unfold cancelRetries
  refine Keeps.upd_18 (hW.bit rfl) ?_
  exact hv0

theorem keeps_cancelJoin {W : Nat} {a : State} {v0 : State} {v1 : ℕ} (hW : Sub 210624583337305941184450840798247330831078052819093316056997704256 W) (hv0 : Keeps W a v0) :
    Keeps W a (cancelJoin v0 v1) := by
  unfold cancelJoin
  refine Keeps.ite ?_ ?_
  · refine keeps_setSt (hW.of rfl) ?_
    exact hv0
  · refine Keeps.ite ?_ ?_
    · refine keeps_endJoin (hW.of rfl) ?_
      refine keeps_deassertEn (hW.of rfl) ?_
      exact hv0
    · exact hv0

theorem keeps_engineStart {W : Nat} {a : State} {v0 : ℕ} {v1 : ℕ} {v2 : ℕ} {v3 : State} (hW : Sub 210624583337306315397377886759280465265192954721122114522100544064 W) (hv3 : Keeps W a v3) :
    Keeps W a (engineStart v0 v1 v2 v3) := by
  unfold engineStart
  extract_lets -useContext -underBinder x0 x1 x2 x3
  have hx2 : Keeps W a x2 := by
    unfold x2
    refine Keeps.upd_19 (hW.bit rfl) (by constructor <;> first | exact fun h => Bool.noConfusion ((hW.bit (by rfl)).symm.trans h) | exact fun _ => rfl | (intro _; split <;> rfl)) ?_
    exact hv3
  try clear_value x2
  refine Keeps.ite ?_ ?_
  · refine keeps_cancelRetries (hW.of rfl) ?_
    refine Keeps.foldl (fun t4 y5 ht4 => ?_) ?_
    · refine keeps_cancelJoin (hW.of rfl) ?_
      exact ht4
    · refine Keeps.upd_19 (hW.bit rfl) (by constructor <;> first | exact fun h => Bool.noConfusion ((hW.bit (by rfl)).symm.trans h) | exact fun _ => rfl | (intro _; split <;> rfl)) ?_
      exact hx2
  · exact hx2

theorem keeps_outsOff {W : Nat} {a : State} {v0 : State} (hW : Sub 365375409332725729550921208179070754913983660032 W) (hv0 : Keeps W a v0) :
    Keeps W a (outsOff v0) := by
  unfold outsOff
  refine Keeps.upd_19 (hW.bit rfl) (by constructor <;> first | exact fun h => Bool.noConfusion ((hW.bit (by rfl)).symm.trans h) | exact fun _ => rfl | (intro _; split <;> rfl)) ?_
  exact hv0

theorem keeps_persistTable {W : Nat} {a : State} {v0 : ℕ} {v1 : Sys2Proof.Machine.PendTable} {v2 : State} (hW : Sub 50438181037257226585265346226218643346382860 W) (hv2 : Keeps W a v2) :
    Keeps W a (persistTable v0 v1 v2).2 := by
  unfold persistTable
  refine keeps_persistWrites (hW.of rfl) ?_
  · exact hv2

theorem keeps_activate {W : Nat} {a : State} {v0 : ℕ} {v1 : Sys2Proof.Machine.PendTable} {v2 : State} (hW : Sub 274081995180581554390085656490350629897559040012 W) (hv2 : Keeps W a v2) :
    Keeps W a (activate v0 v1 v2).2 := by
  unfold activate
  extract_lets -useContext -underBinder x0 x1 x2
  have hx2 : Keeps W a x2 := by
    unfold x2
    refine Keeps.upd_13_19 (hW.bit rfl) (hW.bit rfl) (by constructor <;> first | exact fun h => Bool.noConfusion ((hW.bit (by rfl)).symm.trans h) | exact fun _ => rfl | (intro _; split <;> rfl)) (by constructor <;> first | exact fun h => Bool.noConfusion ((hW.bit (by rfl)).symm.trans h) | exact fun _ => rfl | (intro _; split <;> rfl)) ?_
    exact hv2
  refine Keeps.ite2 ?_ ?_
  · refine keeps_persistTable (hW.of rfl) ?_
    · exact hx2
  · try dsimp only
    exact hx2

theorem keeps_activatePending {W : Nat} {a : State} {v0 : State} (hW : Sub 274081995180581554390085656490350629897559040012 W) (hv0 : Keeps W a v0) :
    Keeps W a (activatePending v0) := by
  unfold activatePending
  refine Keeps.foldl (fun t0 y1 ht0 => ?_) ?_
  · split
    · refine keeps_activate (hW.of rfl) ?_
      · exact ht0
    · exact ht0
  · exact hv0

theorem keeps_modeAfter {W : Nat} {a : State} {v0 : Sys2Proof.Machine.Run} {v1 : Sys2Proof.Machine.RunEnd} {v2 : State} (hW : Sub 216048166358045284058886364342116917511683838297190963000768414577260 W) (hv2 : Keeps W a v2) :
    Keeps W a (modeAfter v0 v1 v2) := by
  unfold modeAfter
  refine Keeps.ite ?_ ?_
  · refine Keeps.ite ?_ ?_
    · refine keeps_changeMode (hW.of rfl) ?_
      exact hv2
    · exact hv2
  · refine Keeps.ite ?_ ?_
    · extract_lets -useContext -underBinder x0 x1 x2 x3
      have hx0 : Keeps W a x0 := by
        refine Keeps.ite ?_ ?_
        · exact hv2
        · refine keeps_disableAll (hW.of rfl) ?_
          exact hv2
      have hx2 : Keeps W a x2 := by
        unfold x2
        try clear_value x0
        refine Keeps.upd_20 (hW.bit rfl) (by constructor <;> first | exact fun h => Bool.noConfusion ((hW.bit (by rfl)).symm.trans h) | exact fun _ => rfl | (intro _; split <;> rfl)) ?_
        exact hx0
      try clear_value x0
      try clear_value x2
      refine Keeps.ite ?_ ?_
      · refine keeps_startBringUp (hW.of rfl) ?_
        refine keeps_disableAll (hW.of rfl) ?_
        refine Keeps.upd_5 (hW.bit rfl) (by constructor <;> first | exact fun h => Bool.noConfusion ((hW.bit (by rfl)).symm.trans h) | exact fun _ => rfl | (intro _; split <;> rfl)) ?_
        exact hx2
      · refine Keeps.ite ?_ ?_
        · refine keeps_startBringUp (hW.of rfl) ?_
          refine keeps_changeMode (hW.of rfl) ?_
          exact hx2
        · exact hx2
    · exact hv2

theorem keeps_endRun {W : Nat} {a : State} {v0 : Sys2Proof.Machine.RunEnd} {v1 : State} (hW : Sub 216048166358045284059594279197699073612698961143362016975682174677612 W) (hv1 : Keeps W a v1) :
    Keeps W a (endRun v0 v1) := by
  unfold endRun
  split
  · exact hv1
  · extract_lets -useContext -underBinder x2 x3 x4 x8 x9 x10
    have hx3 : Keeps W a x3 := by
      unfold x3
      refine Keeps.upd_19 (hW.bit rfl) (by constructor <;> first | exact fun h => Bool.noConfusion ((hW.bit (by rfl)).symm.trans h) | exact fun _ => rfl | (intro _; split <;> rfl)) ?_
      exact hv1
    have hx4 : Keeps W a x4 := by
      unfold x4
      split
      · refine keeps_post (hW.of rfl) ?_
        exact hx3
      · refine keeps_post (hW.of rfl) ?_
        exact hx3
      · refine keeps_post (hW.of rfl) ?_
        exact hx3
    have hx8 : Keeps W a x8 := by
      refine Keeps.ite ?_ ?_
      · refine keeps_outsOff (hW.of rfl) ?_
        exact hx4
      · exact hx4
    have hx10 : Keeps W a x10 := by
      unfold x10
      try clear_value x3
      try clear_value x4
      try clear_value x8
      refine Keeps.ite ?_ ?_
      · refine Keeps.upd_19 (hW.bit rfl) (by constructor <;> first | exact fun h => Bool.noConfusion ((hW.bit (by rfl)).symm.trans h) | exact fun _ => rfl | (intro _; split <;> rfl)) ?_
        exact hx8
      · exact hx8
    refine keeps_activatePending (hW.of rfl) ?_
    refine keeps_modeAfter (hW.of rfl) ?_
    exact hx10

theorem keeps_startTbl1 {W : Nat} {a : State} {v0 : ℕ} {v1 : ℕ} {v2 : ℕ} {v3 : State} (hW : Sub 216048166358045284433738698354410220672842278318730470007600905679468 W) (hv3 : Keeps W a v3) :
    Keeps W a (startTbl1 v0 v1 v2 v3) := by
  unfold startTbl1
  split
  · refine keeps_engineStart (hW.of rfl) ?_
    exact hv3
  · refine Keeps.ite ?_ ?_
    · exact hv3
    · refine keeps_engineStart (hW.of rfl) ?_
      refine keeps_endRun (hW.of rfl) ?_
      exact hv3

theorem keeps_serviceExitBy {W : Nat} {a : State} {v0 : ℕ} {v1 : ℕ} {v2 : State} (hW : Sub 216048166358045284433738698354410220672842278321165440225330566492780 W) (hv2 : Keeps W a v2) :
    Keeps W a (serviceExitBy v0 v1 v2) := by
  unfold serviceExitBy
  refine Keeps.ite ?_ ?_
  · extract_lets -useContext -underBinder x0 x1
    have hx1 : Keeps W a x1 := by
      unfold x1
      refine keeps_endForced (hW.of rfl) ?_
      refine Keeps.upd_5 (hW.bit rfl) (by constructor <;> first | exact fun h => Bool.noConfusion ((hW.bit (by rfl)).symm.trans h) | exact fun _ => rfl | (intro _; split <;> rfl)) ?_
      exact hv2
    refine keeps_startTbl1 (hW.of rfl) ?_
    exact hx1
  · exact hv2

theorem keeps_actReq {W : Nat} {a : State} {v0 : ℕ} {v1 : State} (hW : Sub 210624583337306315397377886759280465265192954721122114522100544064 W) (hv1 : Keeps W a v1) :
    Keeps W a (actReq v0 v1) := by
  unfold actReq
  refine Keeps.ite ?_ ?_
  · refine keeps_engineStart (hW.of rfl) ?_
    exact hv1
  · exact hv1

theorem keeps_takeReqList {W : Nat} {a : State} {v0 : List ReqPend} {v1 : State} (hW : Sub 210624583337306318320381161421086301672562620153688153833965630016 W) (hv1 : Keeps W a v1) :
    Keeps W a (takeReqList v0 v1) := by
  induction v0 generalizing v1 with
  | nil => exact Keeps.upd_19 (hW.bit rfl) (by constructor <;> first | exact fun h => Bool.noConfusion ((hW.bit (by rfl)).symm.trans h) | exact fun _ => rfl | (intro _; split <;> rfl)) hv1
  | cons q qs ih =>
    unfold takeReqList
    have h1 := keeps_actReq (v0 := q.table) (hW.of rfl) hv1
    exact Keeps.ite (Keeps.upd_19 (hW.bit rfl) (by constructor <;> first | exact fun h => Bool.noConfusion ((hW.bit (by rfl)).symm.trans h) | exact fun _ => rfl | (intro _; split <;> rfl)) h1) (ih h1)

theorem keeps_takeReqs {W : Nat} {a : State} {v0 : State} (hW : Sub 210624583337306318320381161421086301672562620153688153833965630016 W) (hv0 : Keeps W a v0) :
    Keeps W a (takeReqs v0) := by
  unfold takeReqs
  refine Keeps.ite ?_ ?_
  · refine keeps_takeReqList (hW.of rfl) ?_
    exact hv0
  · exact hv0

theorem keeps_finishRun {W : Nat} {a : State} {v0 : Sys2Proof.Machine.RunEnd} {v1 : State} (hW : Sub 216048166358045284436661701629072026509249647984163036046912770765420 W) (hv1 : Keeps W a v1) :
    Keeps W a (finishRun v0 v1) := by
  unfold finishRun
  refine keeps_takeReqs (hW.of rfl) ?_
  refine keeps_endRun (hW.of rfl) ?_
  exact hv1

theorem keeps_onRun {W : Nat} {a : State} {v0 : Sys2Proof.Machine.Run → Sys2Proof.Machine.Run} {v1 : State} (hW : Sub 22835963083295358096932575511191922182124470272 W) (hv1 : Keeps W a v1) :
    Keeps W a (onRun v0 v1) := by
  unfold onRun
  refine Keeps.upd_19 (hW.bit rfl) (by constructor <;> first | exact fun h => Bool.noConfusion ((hW.bit (by rfl)).symm.trans h) | exact fun _ => rfl | (intro _; split <;> rfl)) ?_
  exact hv1

theorem keeps_advance {W : Nat} {a : State} {v0 : ℕ} {v1 : State} (hW : Sub 22835963083295358096932575511191922182124470272 W) (hv1 : Keeps W a v1) :
    Keeps W a (advance v0 v1) := by
  unfold advance
  refine keeps_onRun (hW.of rfl) ?_
  exact hv1

theorem keeps_decideModule {W : Nat} {a : State} {v0 : Sys2Proof.Machine.Run} {v1 : State} (hW : Sub 93558940752261082123132761869353305180161807220736 W) (hv1 : Keeps W a v1) :
    Keeps W a (decideModule v0 v1) := by
  unfold decideModule
  extract_lets -useContext -underBinder x0 x1 x2
  have hx1 : Keeps W a x1 := by
    unfold x1
    refine Keeps.ite ?_ ?_
    · refine Keeps.upd_19 (hW.bit rfl) (by constructor <;> first | exact fun h => Bool.noConfusion ((hW.bit (by rfl)).symm.trans h) | exact fun _ => rfl | (intro _; split <;> rfl)) ?_
      exact hv1
    · exact hv1
  refine Keeps.ite ?_ ?_
  · refine keeps_advance (hW.of rfl) ?_
    exact hx1
  · refine keeps_advance (hW.of rfl) ?_
    exact hx1

theorem keeps_autostart {W : Nat} {a : State} {v0 : ℕ} {v1 : State} (hW : Sub 210624583337306315397377886759280465265192954721122114522100544064 W) (hv1 : Keeps W a v1) :
    Keeps W a (autostart v0 v1) := by
  unfold autostart
  refine Keeps.ite ?_ ?_
  · refine keeps_engineStart (hW.of rfl) ?_
    exact hv1
  · exact hv1

theorem keeps_waitStep {W : Nat} {a : State} {v0 : List ℕ} {v1 : State} (hW : Sub 22835963083295358096932575511191922182124470272 W) (hv1 : Keeps W a v1) :
    Keeps W a (waitStep v0 v1) := by
  unfold waitStep
  refine keeps_onRun (hW.of rfl) ?_
  exact hv1

theorem keeps_beginServiceExit {W : Nat} {a : State} {v0 : ℕ} {v1 : State} (hW : Sub 216048166358045284433738698354410220672842278321165440225330566492780 W) (hv1 : Keeps W a v1) :
    Keeps W a (beginServiceExit v0 v1) := by
  unfold beginServiceExit
  refine keeps_serviceExitBy (hW.of rfl) ?_
  exact hv1

theorem keeps_setOut {W : Nat} {a : State} {v0 : ℕ} {v1 : Bool} {v2 : State} (hW : Sub 365375409332725729550921208179070754913983660032 W) (hv2 : Keeps W a v2) :
    Keeps W a (setOut v0 v1 v2) := by
  unfold setOut
  refine Keeps.upd_19 (hW.bit rfl) (by constructor <;> first | exact fun h => Bool.noConfusion ((hW.bit (by rfl)).symm.trans h) | exact fun _ => rfl | (intro _; split <;> rfl)) ?_
  exact hv2

theorem keeps_unwindGo {W : Nat} {a : State} {v0 : List Nat} {v1 : State} (hW : Sub 216048166358045284436661701629072026509249647984163036046912770765420 W) (hv1 : Keeps W a v1) :
    Keeps W a (unwindGo v0 v1) := by
  induction v0 generalizing v1 with
  | nil =>
    unfold unwindGo
    split
    · exact keeps_finishRun (hW.of rfl) hv1
    · exact hv1
  | cons r rs ih =>
    unfold unwindGo
    refine Keeps.ite ?_ (ih hv1)
    have h1 := keeps_disableRail (v0 := r) (hW.of rfl) (keeps_onRun (v0 := fun x => { x with unwind := r :: rs }) (hW.of rfl) hv1)
    exact Keeps.ite h1 (ih h1)

theorem keeps_timeoutAction {W : Nat} {a : State} {v0 : ℕ} {v1 : State} (hW : Sub 216048166358045284623733911207427600039321306571847262562872136266348 W) (hv1 : Keeps W a v1) :
    Keeps W a (timeoutAction v0 v1) := by
  unfold timeoutAction
  split
  · exact hv1
  · split
    · extract_lets -useContext -underBinder x3
      have hx3 : Keeps W a x3 := by
        refine Keeps.foldl (fun t4 y5 ht4 => ?_) ?_
        · refine keeps_setOut (hW.of rfl) ?_
          exact ht4
        · exact hv1
      refine keeps_unwindGo (hW.of rfl) ?_
      refine keeps_onRun (hW.of rfl) ?_
      exact hx3
    · refine keeps_advance (hW.of rfl) ?_
      refine keeps_onRun (hW.of rfl) ?_
      refine Keeps.upd_19 (hW.bit rfl) (by constructor <;> first | exact fun h => Bool.noConfusion ((hW.bit (by rfl)).symm.trans h) | exact fun _ => rfl | (intro _; split <;> rfl)) ?_
      exact hv1
    · extract_lets -useContext -underBinder x8
      have hx8 : Keeps W a x8 := by
        refine keeps_endRun (hW.of rfl) ?_
        exact hv1
      refine Keeps.ite ?_ ?_
      · refine keeps_engineStart (hW.of rfl) ?_
        exact hx8
      · exact hx8
    · refine keeps_finishRun (hW.of rfl) ?_
      exact hv1

theorem keeps_coverFault {W : Nat} {a : State} {v0 : List ℕ} {v1 : State} (hW : Sub 216048166358045284623733911207427600039321306571847262562872136266348 W) (hv1 : Keeps W a v1) :
    Keeps W a (coverFault v0 v1) := by
  unfold coverFault
  split
  · refine Keeps.ite ?_ ?_
    · refine keeps_timeoutAction (hW.of rfl) ?_
      exact hv1
    · exact hv1
  · exact hv1

theorem keeps_unwindPoll {W : Nat} {a : State} {v0 : State} (hW : Sub 216048166358045284436661701629072026509249647984163036046912770765420 W) (hv0 : Keeps W a v0) :
    Keeps W a (unwindPoll v0) := by
  unfold unwindPoll
  split
  · refine Keeps.ite ?_ ?_
    · split
      · refine Keeps.ite ?_ ?_
        · exact hv0
        · refine keeps_unwindGo (hW.of rfl) ?_
          exact hv0
      · exact hv0
    · exact hv0
  · exact hv0

end Sys2Proof.Machine
end

