-- ==== Sys2Proof/Laws/KeepsCapture.lean ====
section
/-! SUPPORT. What the operations of Machine/Capture.lean keep (`Keeps`): one lemma for each. -/

namespace Sys2Proof.Machine

set_option linter.unusedVariables false
set_option linter.unusedTactic false
set_option linter.unreachableTactic false

theorem keeps_flushMissed {W : Nat} {a : State} {v0 : State} (hW : Sub 196159429230833773869868460040058782806539455534005764100 W) (hv0 : Keeps W a v0) :
    Keeps W a (flushMissed v0) := by
  unfold flushMissed
  refine Keeps.ite ?_ ?_
  · extract_lets -useContext -underBinder x0 x1 x2
    have hx1 : Keeps W a x1 := by
      refine keeps_writeTwo (hW.of rfl) ?_
      exact hv0
    try clear_value x1
    refine Keeps.upd_21 (hW.bit rfl) (by constructor <;> first | exact fun h => Bool.noConfusion ((hW.bit (by rfl)).symm.trans h) | exact fun _ => rfl | (intro _; split <;> rfl)) ?_
    exact hx1
  · exact hv0

theorem keeps_trigger {W : Nat} {a : State} {v0 : ℕ} {v1 : ℕ} {v2 : ℕ} {v3 : ℕ} {v4 : ℕ} {v5 : State} (hW : Sub 42909875144244888034033716760208657141324695421142958082 W) (hv5 : Keeps W a v5) :
    Keeps W a (trigger v0 v1 v2 v3 v4 v5) := by
  unfold trigger
  extract_lets -useContext -underBinder x0 x1 x2 x3
  refine Keeps.upd_1_21 (hW.bit rfl) (hW.bit rfl) (Nat.le_add_right _ _) (by constructor <;> first | exact fun h => Bool.noConfusion ((hW.bit (by rfl)).symm.trans h) | exact fun _ => rfl | (intro _; split <;> rfl)) ?_
  exact hv5

theorem keeps_countMissed {W : Nat} {a : State} {v0 : ℕ} {v1 : Sys2Proof.Machine.Setting} {v2 : State} (hW : Sub 343279001153959104272269774646488464433938411263631572996 W) (hv2 : Keeps W a v2) :
    Keeps W a (countMissed v0 v1 v2) := by
  unfold countMissed
  refine keeps_flushMissed (hW.of rfl) ?_
  refine Keeps.upd_21 (hW.bit rfl) (by constructor <;> first | exact fun h => Bool.noConfusion ((hW.bit (by rfl)).symm.trans h) | exact fun _ => rfl | (intro _; split <;> rfl)) ?_
  exact hv2

theorem keeps_captureSettings {W : Nat} {a : State} {v0 : List Sys2Proof.Machine.Setting} {v1 : State} (hW : Sub 386188876298203992306303491406851864080173779219134832646 W) (hv1 : Keeps W a v1) :
    Keeps W a (captureSettings v0 v1) := by
  unfold captureSettings
  extract_lets -useContext -underBinder x0
  have hx0 : Keeps W a x0 := by
    refine keeps_takeOcc (hW.of rfl) ?_
    exact hv1
  try clear_value x0
  split
  · exact hx0
  · refine Keeps.upd_21 (hW.bit rfl) (by constructor <;> first | exact fun h => Bool.noConfusion ((hW.bit (by rfl)).symm.trans h) | exact fun _ => rfl | (intro _; split <;> rfl)) ?_
    exact hx0
  · split
    · refine keeps_trigger (hW.of rfl) ?_
      exact hx0
    · exact hx0
  · split
    · refine keeps_countMissed (hW.of rfl) ?_
      exact hx0
    · exact hx0

end Sys2Proof.Machine
end

