-- ==== Sys2Proof/Laws/KeepsFaults.lean ====
section
/-! SUPPORT. What the operations of Machine/Faults.lean keep (`Keeps`): one lemma for each. -/

namespace Sys2Proof.Machine

set_option linter.unusedVariables false
set_option linter.unusedTactic false
set_option linter.unreachableTactic false

theorem keeps_waitsEnd {W : Nat} {a : State} {v0 : List Sys2Proof.Machine.Setting} {v1 : State} {v2 : State} (hW : Sub 216048166358045284623733911207427600039321306571847262562872136266348 W) (hv1 : Keeps W a v1) (hv2 : Keeps W a v2) :
    Keeps W a (waitsEnd v0 v1 v2) := by
  unfold waitsEnd
  refine keeps_coverFault (hW.of rfl) ?_
  exact hv2

theorem keeps_noScan {W : Nat} {a : State} {v0 : ℕ} {v1 : State} (hW : Sub 262144 W) (hv1 : Keeps W a v1) :
    Keeps W a (noScan v0 v1) := by
  unfold noScan
  refine keeps_onRail (hW.of rfl) ?_
  exact hv1

theorem keeps_planRetry {W : Nat} {a : State} {v0 : Sys2Proof.Machine.Setting} {v1 : ℕ} {v2 : Bool} {v3 : State} (hW : Sub 262144 W) (hv3 : Keeps W a v3) :
    Keeps W a (planRetry v0 v1 v2 v3) := by
  unfold planRetry
  extract_lets -useContext -underBinder x0
  refine Keeps.ite ?_ ?_
  · refine Keeps.ite ?_ ?_
    · refine keeps_onRail (hW.of rfl) ?_
      exact hv3
    · refine Keeps.ite ?_ ?_
      · refine keeps_onRail (hW.of rfl) ?_
        exact hv3
      · exact hv3
  · exact hv3

theorem keeps_faultOff {W : Nat} {a : State} {v0 : ℕ} {v1 : State} (hW : Sub 210624583337305941184450840798247330831078052819093316056997704256 W) (hv1 : Keeps W a v1) :
    Keeps W a (faultOff v0 v1) := by
  unfold faultOff
  refine Keeps.ite ?_ ?_
  · refine keeps_endJoin (hW.of rfl) ?_
    refine keeps_deassertEn (hW.of rfl) ?_
    refine keeps_noScan (hW.of rfl) ?_
    exact hv1
  · exact hv1

theorem keeps_offOne {W : Nat} {a : State} {v0 : Sys2Proof.Machine.Setting} {v1 : State} {v2 : ℕ} (hW : Sub 210624583337305941184450840798247330831078052819093316056997704256 W) (hv1 : Keeps W a v1) :
    Keeps W a (offOne v0 v1 v2) := by
  unfold offOne
  extract_lets -useContext -underBinder x0
  refine keeps_planRetry (hW.of rfl) ?_
  refine keeps_faultOff (hW.of rfl) ?_
  exact hv1

theorem keeps_noteOff {W : Nat} {a : State} {v0 : Sys2Proof.Machine.Setting} {v1 : List ℕ} {v2 : State} (hW : Sub 748288838313422294120286634350736906063837463052288 W) (hv2 : Keeps W a v2) :
    Keeps W a (noteOff v0 v1 v2) := by
  unfold noteOff
  refine Keeps.upd_20 (hW.bit rfl) (by constructor <;> first | exact fun h => Bool.noConfusion ((hW.bit (by rfl)).symm.trans h) | exact fun _ => rfl | (intro _; split <;> rfl)) ?_
  exact hv2

theorem keeps_noScanAll {W : Nat} {a : State} {v0 : State} (hW : Sub 262144 W) (hv0 : Keeps W a v0) :
    Keeps W a (noScanAll v0) := by
  unfold noScanAll
  refine Keeps.foldl (fun t0 y1 ht0 => ?_) ?_
  · refine keeps_noScan (hW.of rfl) ?_
    exact ht0
  · exact hv0

theorem keeps_railActions {W : Nat} {a : State} {v0 : State} {v1 : Sys2Proof.Machine.Setting} (hW : Sub 210624583337306689838664563553267180668633611735070134808442843712 W) (hv0 : Keeps W a v0) :
    Keeps W a (railActions v0 v1) := by
  unfold railActions
  extract_lets -useContext -underBinder x0 x1
  have hx1 : Keeps W a x1 := by
    refine Keeps.foldl (fun t2 y3 ht2 => ?_) ?_
    · refine keeps_offOne (hW.of rfl) ?_
      exact ht2
    · refine keeps_noteOff (hW.of rfl) ?_
      exact hv0
  refine Keeps.ite ?_ ?_
  · refine keeps_outsOff (hW.of rfl) ?_
    refine keeps_noScanAll (hW.of rfl) ?_
    exact hx1
  · exact hx1

theorem keeps_latchWakeVin {W : Nat} {a : State} {v0 : State} (hW : Sub 154742504910672809240305672 W) (hv0 : Keeps W a v0) :
    Keeps W a (latchWakeVin v0) := by
  unfold latchWakeVin
  extract_lets -useContext -underBinder x0 x1
  have hx0 : Keeps W a x0 := by
    refine keeps_takeOcc (hW.of rfl) ?_
    exact hv0
  try clear_value x0
  refine Keeps.upd_3 (hW.bit rfl) (by constructor <;> first | exact fun h => Bool.noConfusion ((hW.bit (by rfl)).symm.trans h) | exact fun _ => rfl | (intro _; split <;> rfl)) ?_
  exact hx0

theorem keeps_faultShip {W : Nat} {a : State} {v0 : State} (hW : Sub 92302722129491934166290154662063652085276606844576474717529585256 W) (hv0 : Keeps W a v0) :
    Keeps W a (faultShip v0) := by
  unfold faultShip
  extract_lets -useContext -underBinder x0 x1 x2 x3
  have hx1 : Keeps W a x1 := by
    refine keeps_post (hW.of rfl) ?_
    exact hv0
  have hx2 : Keeps W a x2 := by
    refine keeps_latchWakeVin (hW.of rfl) ?_
    exact hx1
  try clear_value x1
  try clear_value x2
  refine keeps_shipStop (hW.of rfl) ?_
  refine keeps_outsOff (hW.of rfl) ?_
  refine Keeps.upd_5 (hW.bit rfl) (by constructor <;> first | exact fun h => Bool.noConfusion ((hW.bit (by rfl)).symm.trans h) | exact fun _ => rfl | (intro _; split <;> rfl)) ?_
  exact hx2

theorem keeps_tableAction {W : Nat} {a : State} {v0 : ℕ} {v1 : State} (hW : Sub 216087812934340497777113657360559529215624401092586463050407371306604 W) (hv1 : Keeps W a v1) :
    Keeps W a (tableAction v0 v1) := by
  unfold tableAction
  refine Keeps.ite ?_ ?_
  · extract_lets -useContext -underBinder x0 x1
    have hx0 : Keeps W a x0 := by
      refine keeps_faultShip (hW.of rfl) ?_
      refine keeps_cancelRetries (hW.of rfl) ?_
      exact hv1
    try clear_value x0
    refine keeps_endRun (hW.of rfl) ?_
    refine Keeps.upd_20 (hW.bit rfl) (by constructor <;> first | exact fun h => Bool.noConfusion ((hW.bit (by rfl)).symm.trans h) | exact fun _ => rfl | (intro _; split <;> rfl)) ?_
    exact hx0
  · refine Keeps.ite ?_ ?_
    · extract_lets -useContext -underBinder x2 x3 x4 x5 x6 x7 x8
      have hx3 : Keeps W a x3 := by
        refine keeps_cancelRetries (hW.of rfl) ?_
        exact hv1
      have hx5 : Keeps W a x5 := by
        unfold x5
        try clear_value x3
        refine Keeps.upd_20 (hW.bit rfl) (by constructor <;> first | exact fun h => Bool.noConfusion ((hW.bit (by rfl)).symm.trans h) | exact fun _ => rfl | (intro _; split <;> rfl)) ?_
        exact hx3
      have hx6 : Keeps W a x6 := by
        refine keeps_endRun (hW.of rfl) ?_
        exact hx5
      have hx7 : Keeps W a x7 := by
        refine keeps_takeReqs (hW.of rfl) ?_
        exact hx6
      try clear_value x3
      try clear_value x5
      try clear_value x6
      try clear_value x7
      refine Keeps.ite ?_ ?_
      · refine keeps_engineStart (hW.of rfl) ?_
        exact hx6
      · refine Keeps.upd_20 (hW.bit rfl) (by constructor <;> first | exact fun h => Bool.noConfusion ((hW.bit (by rfl)).symm.trans h) | exact fun _ => rfl | (intro _; split <;> rfl)) ?_
        exact hx7
    · refine Keeps.ite ?_ ?_
      · refine Keeps.ite ?_ ?_
        · refine keeps_startTbl1 (hW.of rfl) ?_
          refine Keeps.upd_20 (hW.bit rfl) (by constructor <;> first | exact fun h => Bool.noConfusion ((hW.bit (by rfl)).symm.trans h) | exact fun _ => rfl | (intro _; split <;> rfl)) ?_
          exact hv1
        · refine Keeps.ite ?_ ?_
          · refine keeps_finishRun (hW.of rfl) ?_
            exact hv1
          · exact hv1
      · exact hv1

theorem keeps_respondTo {W : Nat} {a : State} {v0 : List Sys2Proof.Machine.Setting} {v1 : State} (hW : Sub 216087812934340498712474705252337396865982694031007595630204198811244 W) (hv1 : Keeps W a v1) :
    Keeps W a (respondTo v0 v1) := by
  unfold respondTo
  refine Keeps.ite ?_ ?_
  · exact hv1
  · extract_lets -useContext -underBinder x0 x1 x4
    have hx1 : Keeps W a x1 := by
      refine Keeps.foldl (fun t2 y3 ht2 => ?_) ?_
      · refine keeps_railActions (hW.of rfl) ?_
        exact ht2
      · exact hv1
    have hx4 : Keeps W a x4 := by
      refine Keeps.ite ?_ ?_
      · refine keeps_tableAction (hW.of rfl) ?_
        exact hx1
      · exact hx1
    refine keeps_bringPoll (hW.of rfl) ?_
    refine keeps_unwindPoll (hW.of rfl) ?_
    refine keeps_waitsEnd (hW.of rfl) ?_ ?_
    · exact hv1
    · exact hx4

theorem keeps_sideOf {W : Nat} {a : State} {v0 : State} {v1 : Sys2Proof.Machine.Setting} (hW : Sub 934646588558457004565435510449281011416343583470370383781411684352 W) (hv0 : Keeps W a v0) :
    Keeps W a (sideOf v0 v1) := by
  unfold sideOf
  split
  · refine keeps_onRail (hW.of rfl) ?_
    exact hv0
  · refine keeps_onRail (hW.of rfl) ?_
    exact hv0
  · refine keeps_requestVerify (hW.of rfl) ?_
    exact hv0
  · refine keeps_requestVerify (hW.of rfl) ?_
    exact hv0
  · exact hv0

theorem keeps_latchAll {W : Nat} {a : State} {v0 : List Sys2Proof.Machine.Setting} {v1 : ℕ} {v2 : State} (hW : Sub 1684996666696968115674208695921609457453360428729116312528787341376 W) (hv2 : Keeps W a v2) :
    Keeps W a (latchAll v0 v1 v2) := by
  unfold latchAll
  extract_lets -useContext -underBinder x0 x1 x2 x3 x4 x5
  have hx5 : Keeps W a x5 := by
    unfold x5
    refine Keeps.upd_20 (hW.bit rfl) (by constructor <;> first | exact fun h => Bool.noConfusion ((hW.bit (by rfl)).symm.trans h) | exact fun _ => rfl | (intro _; split <;> rfl)) ?_
    exact hv2
  refine keeps_setIrqAll (hW.of rfl) ?_
  refine keeps_noteSource (hW.of rfl) ?_
  exact hx5

theorem keeps_latchNow {W : Nat} {a : State} {v0 : List Sys2Proof.Machine.Setting} {v1 : State} (hW : Sub 2619643255641613996537848198677193960276555876279660475529324421190 W) (hv1 : Keeps W a v1) :
    Keeps W a (latchNow v0 v1) := by
  unfold latchNow
  refine Keeps.ite ?_ ?_
  · exact hv1
  · refine Keeps.foldl (fun t0 y1 ht0 => ?_) ?_
    · refine keeps_sideOf (hW.of rfl) ?_
      exact ht0
    · refine keeps_latchAll (hW.of rfl) ?_
      refine keeps_captureSettings (hW.of rfl) ?_
      exact hv1

theorem keeps_answer {W : Nat} {a : State} {v0 : List Sys2Proof.Machine.Setting} {v1 : State} (hW : Sub 218615307934772124422363036863369085037128608398266618049119664436846 W) (hv1 : Keeps W a v1) :
    Keeps W a (answer v0 v1) := by
  unfold answer
  refine keeps_respondTo (hW.of rfl) ?_
  refine keeps_latchNow (hW.of rfl) ?_
  exact hv1

theorem keeps_raiseFaults {W : Nat} {a : State} {v0 : List Sys2Proof.Machine.Raise} {v1 : State} (hW : Sub 218615307934772124422363036863369085037128608398266618049119664436846 W) (hv1 : Keeps W a v1) :
    Keeps W a (raiseFaults v0 v1) := by
  unfold raiseFaults
  refine keeps_answer (hW.of rfl) ?_
  exact hv1

theorem keeps_raiseGlobalChan {W : Nat} {a : State} {v0 : ℕ} {v1 : ℕ} {v2 : Option ℤ} {v3 : ℕ} {v4 : State} (hW : Sub 218615307934772124422363036863369085037128608398266618049119664436846 W) (hv4 : Keeps W a v4) :
    Keeps W a (raiseGlobalChan v0 v1 v2 v3 v4) := by
  unfold raiseGlobalChan
  refine keeps_raiseFaults (hW.of rfl) ?_
  exact hv4

theorem keeps_raiseCheck {W : Nat} {a : State} {v0 : ℕ} {v1 : ℕ} {v2 : State} (hW : Sub 218615307934772124422363036863369085037128608398266618049119664436846 W) (hv2 : Keeps W a v2) :
    Keeps W a (raiseCheck v0 v1 v2) := by
  unfold raiseCheck
  refine keeps_answer (hW.of rfl) ?_
  exact hv2

theorem keeps_raiseGlobal {W : Nat} {a : State} {v0 : ℕ} {v1 : ℕ} {v2 : Option ℤ} {v3 : State} (hW : Sub 218615307934772124422363036863369085037128608398266618049119664436846 W) (hv3 : Keeps W a v3) :
    Keeps W a (raiseGlobal v0 v1 v2 v3) := by
  unfold raiseGlobal
  refine keeps_raiseGlobalChan (hW.of rfl) ?_
  exact hv3

theorem keeps_raiseFixed {W : Nat} {a : State} {v0 : Setting → State → State} {v1 : State → State} {v2 : List Raise} {v3 : State}
    (hW : Sub 218615307934772124422363036863369085037128608398266618049119664436846 W) (hv0 : ∀ y t, Keeps W a t → Keeps W a (v0 y t)) (hv1 : ∀ t, Keeps W a t → Keeps W a (v1 t)) (hv3 : Keeps W a v3) :
    Keeps W a (raiseFixed v0 v1 v2 v3) := by
  unfold raiseFixed
  extract_lets -useContext -underBinder x0
  refine keeps_respondTo (hW.of rfl) (hv1 _ ?_)
  exact Keeps.foldl (fun t1 y2 ht1 => hv0 _ _ ht1) (keeps_latchNow (hW.of rfl) hv3)

theorem keeps_raiseRail {W : Nat} {a : State} {v0 : ℕ} {v1 : ℕ} {v2 : Option ℤ} {v3 : ℕ} {v4 : State} (hW : Sub 218615307934772124422363036863369085037128608398266618049119664436846 W) (hv4 : Keeps W a v4) :
    Keeps W a (raiseRail v0 v1 v2 v3 v4) := by
  unfold raiseRail
  refine keeps_raiseFaults (hW.of rfl) ?_
  exact hv4

end Sys2Proof.Machine
end

