-- ==== Sys2Proof/Laws/KeepsNv.lean ====
section
/-! SUPPORT. What the operations of Machine/Nv.lean keep (`Keeps`): one lemma for each. -/

namespace Sys2Proof.Machine

set_option linter.unusedVariables false
set_option linter.unusedTactic false
set_option linter.unreachableTactic false

theorem keeps_eccFound {W : Nat} {a : State} {v0 : List ℤ} {v1 : ℕ → Bool} {v2 : State} (hW : Sub 10141204801825835211973625659392 W) (hv2 : Keeps W a v2) :
    Keeps W a (eccFound v0 v1 v2).2 := by
  unfold eccFound
  extract_lets -useContext -underBinder x0 x1 x2 x3
  try dsimp only
  refine Keeps.upd_14 (hW.bit rfl) (by constructor <;> first | exact fun h => Bool.noConfusion ((hW.bit (by rfl)).symm.trans h) | exact fun _ => rfl | (intro _; split <;> rfl)) ?_
  exact hv2

theorem keeps_uncorrectable {W : Nat} {a : State} {v0 : State} {v1 : ℕ} (hW : Sub 218615307934772124422363036863369085057411018001918288473066915722862 W) (hv0 : Keeps W a v0) :
    Keeps W a (uncorrectable v0 v1) := by
  unfold uncorrectable
  extract_lets -useContext -underBinder x0 x1
  have hx1 : Keeps W a x1 := by
    unfold x1
    refine Keeps.upd_14 (hW.bit rfl) (by constructor <;> first | exact fun h => Bool.noConfusion ((hW.bit (by rfl)).symm.trans h) | exact fun _ => rfl | (intro _; split <;> rfl)) ?_
    exact hv0
  refine keeps_raiseGlobal (hW.of rfl) ?_
  exact hx1

theorem keeps_eccWords {W : Nat} {a : State} {v0 : List ℤ} {v1 : ℕ → Bool} {v2 : State} (hW : Sub 218615307934772124422363036863369085067552222803744123685040541365870 W) (hv2 : Keeps W a v2) :
    Keeps W a (eccWords v0 v1 v2).2 := by
  unfold eccWords
  split
  · rename_i p0 q1
    have hp2 : Keeps W a p0 := Keeps.ofEq2 q1 (by
      refine keeps_eccFound (hW.of rfl) ?_
      · exact hv2)
    try dsimp only
    exact hp2
  · rename_i p3 p4 p5 q6
    have hp7 : Keeps W a p5 := Keeps.ofEq2 q6 (by
      refine keeps_eccFound (hW.of rfl) ?_
      · exact hv2)
    try dsimp only
    refine keeps_uncorrectable (hW.of rfl) ?_
    exact hp7

theorem keeps_eccRead {W : Nat} {a : State} {v0 : List ℤ} {v1 : ℕ} {v2 : ℕ} {v3 : State} (hW : Sub 218615307934772124422363036863369085067552222803744123685040541365870 W) (hv3 : Keeps W a v3) :
    Keeps W a (eccRead v0 v1 v2 v3).2 := by
  unfold eccRead
  refine keeps_eccWords (hW.of rfl) ?_
  · exact hv3

theorem keeps_nvReadBody {W : Nat} {a : State} {v0 : Sys2Proof.Req} {v1 : List Sys2Proof.Byte} {v2 : State} (hW : Sub 218615307934772124422363036863369085067552222803744123685040541365870 W) (hv2 : Keeps W a v2) :
    KeepsR W a (nvReadBody v0 v1 v2) := by
  unfold nvReadBody
  extract_lets -useContext -underBinder x0 x1 x2
  try clear_value x1
  try clear_value x2
  have hx0 : Keeps W a x0 := by
    refine keeps_markerTry (hW.of rfl) ?_
    exact hv2
  refine KeepsR.ite ?_ ?_
  · refine keeps_refuse (hW.of rfl) ?_
    exact hx0
  · refine KeepsR.ite ?_ ?_
    · refine keeps_refuse (hW.of rfl) ?_
      exact hx0
    · split
      · rename_i p3 q4
        have hp5 : Keeps W a p3 := Keeps.ofEq2 q4 (by
          refine keeps_eccRead (hW.of rfl) ?_
          · exact hx0)
        refine KeepsR.done ?_
        exact hp5
      · rename_i p6 q7
        have hp8 : Keeps W a p6 := Keeps.ofEq2 q7 (by
          refine keeps_eccRead (hW.of rfl) ?_
          · exact hx0)
        refine KeepsR.done ?_
        exact hp8

theorem keeps_cmdNvRead {W : Nat} {a : State} (hW : Sub 218615307934772124422363036863369085067552222803744123685040541365870 W) :
    KeepsC W a (cmdNvRead) := by
  unfold cmdNvRead
  intro r p t ht
  dsimp only
  refine keeps_nvReadBody (hW.of rfl) ?_
  exact ht

theorem keeps_slotFree {W : Nat} {a : State} {v0 : ℕ} {v1 : State} (hW : Sub 40564819207303340847894502588420 W) (hv1 : Keeps W a v1) :
    Keeps W a (slotFree v0 v1) := by
  unfold slotFree
  refine keeps_faWrite (hW.of rfl) ?_
  exact hv1

theorem keeps_rewriteSector {W : Nat} {a : State} {v0 : ℕ} {v1 : ℕ} {v2 : List Sys2Proof.Byte} {v3 : State} (hW : Sub 4 W) (hv3 : Keeps W a v3) :
    Keeps W a (rewriteSector v0 v1 v2 v3) := by
  unfold rewriteSector
  extract_lets -useContext -underBinder x0 x1 x2
  refine keeps_programBytes (hW.of rfl) ?_
  refine keeps_clearBytes (hW.of rfl) ?_
  exact hv3

theorem keeps_slotWritten {W : Nat} {a : State} {v0 : ℕ} {v1 : State} (hW : Sub 41538374868278621028243970633777152 W) (hv1 : Keeps W a v1) :
    Keeps W a (slotWritten v0 v1) := by
  unfold slotWritten
  extract_lets -useContext -underBinder x0 x1
  refine Keeps.upd_14 (hW.bit rfl) (by constructor <;> first | exact fun h => Bool.noConfusion ((hW.bit (by rfl)).symm.trans h) | exact fun _ => rfl | (intro _; split <;> rfl)) ?_
  exact hv1

theorem keeps_commitCopy {W : Nat} {a : State} {v0 : ℕ} {v1 : List Sys2Proof.Byte} {v2 : State} (hW : Sub 41578939687485924369091865136349188 W) (hv2 : Keeps W a v2) :
    Keeps W a (commitCopy v0 v1 v2) := by
  unfold commitCopy
  refine Keeps.ite ?_ ?_
  · refine keeps_faWrite (hW.of rfl) ?_
    exact hv2
  · extract_lets -useContext -underBinder x0 x1 x2
    have hx2 : Keeps W a x2 := by
      refine keeps_rewriteSector (hW.of rfl) ?_
      refine keeps_slotWritten (hW.of rfl) ?_
      exact hv2
    refine Keeps.ite ?_ ?_
    · exact hx2
    · refine keeps_rewriteSector (hW.of rfl) ?_
      exact hx2

theorem keeps_setGather {W : Nat} {a : State} {v0 : Sys2Proof.Machine.Gather} {v1 : State} (hW : Sub 79228162514264337593543966720 W) (hv1 : Keeps W a v1) :
    Keeps W a (setGather v0 v1) := by
  unfold setGather
  refine Keeps.upd_14 (hW.bit rfl) (by constructor <;> first | exact fun h => Bool.noConfusion ((hW.bit (by rfl)).symm.trans h) | exact fun _ => rfl | (intro _; split <;> rfl)) ?_
  exact hv1

theorem keeps_turnAway {W : Nat} {a : State} {v0 : Sys2Proof.Machine.NvCommit} {v1 : ℕ} {v2 : State} (hW : Sub 237839230047703685314994271808 W) (hv2 : Keeps W a v2) :
    Keeps W a (turnAway v0 v1 v2) := by
  unfold turnAway
  extract_lets -useContext -underBinder x0 x1 x2
  have hx1 : Keeps W a x1 := by
    unfold x1
    refine Keeps.upd_14 (hW.bit rfl) (by constructor <;> first | exact fun h => Bool.noConfusion ((hW.bit (by rfl)).symm.trans h) | exact fun _ => rfl | (intro _; split <;> rfl)) ?_
    exact hv2
  have hx2 : Keeps W a x2 := by
    unfold x2
    split
    · refine keeps_setGather (hW.of rfl) ?_
      exact hx1
    · exact hx1
  refine keeps_completeOp (hW.of rfl) ?_
  exact hx2

theorem keeps_slotWrite {W : Nat} {a : State} {v0 : ℕ} {v1 : ℕ} {v2 : ℕ} {v3 : List Sys2Proof.Byte} {v4 : State} (hW : Sub 40564819207303340847894502588420 W) (hv4 : Keeps W a v4) :
    Keeps W a (slotWrite v0 v1 v2 v3 v4) := by
  unfold slotWrite
  extract_lets -useContext -underBinder x0
  refine keeps_faWrite (hW.of rfl) ?_
  refine keeps_faWrite (hW.of rfl) ?_
  refine keeps_faWrite (hW.of rfl) ?_
  exact hv4

theorem keeps_admitFrom {W : Nat} {a : State} {v0 : Nat} {v1 : List NvCommit} {v2 : State} (hW : Sub 12259964326927110866866817019860910819994446186967758404 W) (hv2 : Keeps W a v2) :
    Keeps W a (admitFrom v0 v1 v2) := by
  induction v1 generalizing v2 with
  | nil => exact hv2
  | cons c cs ih =>
    unfold admitFrom
    split
    · exact ih (keeps_turnAway (hW.of rfl) hv2)
    · exact keeps_completeOp (hW.of rfl)
        (Keeps.upd_14 (hW.bit rfl) (by constructor <;> first | exact fun h => Bool.noConfusion ((hW.bit (by rfl)).symm.trans h) | exact fun _ => rfl | (intro _; split <;> rfl)) (keeps_slotWrite (hW.of rfl) (keeps_markerTry (hW.of rfl) hv2)))

theorem keeps_admitWaiting {W : Nat} {a : State} {v0 : ℕ} {v1 : State} (hW : Sub 12259964326927110866866817019860910819994446186967758404 W) (hv1 : Keeps W a v1) :
    Keeps W a (admitWaiting v0 v1) := by
  unfold admitWaiting
  refine Keeps.ite ?_ ?_
  · exact hv1
  · refine keeps_admitFrom (hW.of rfl) ?_
    exact hv1

theorem keeps_commitRun {W : Nat} {a : State} {v0 : State} (hW : Sub 12259964326927110866908356662379789669252091654304724548 W) (hv0 : Keeps W a v0) :
    Keeps W a (commitRun v0) := by
  unfold commitRun
  split
  · exact hv0
  · split
    · exact hv0
    · extract_lets -useContext -underBinder x5 x6 x7
      have hx6 : Keeps W a x6 := by
        unfold x6
        refine keeps_slotFree (hW.of rfl) ?_
        refine keeps_commitCopy (hW.of rfl) ?_
        refine Keeps.upd_14 (hW.bit rfl) (by constructor <;> first | exact fun h => Bool.noConfusion ((hW.bit (by rfl)).symm.trans h) | exact fun _ => rfl | (intro _; split <;> rfl)) ?_
        exact hv0
      try clear_value x6
      refine Keeps.ite ?_ ?_
      · refine Keeps.upd_14 (hW.bit rfl) (by constructor <;> first | exact fun h => Bool.noConfusion ((hW.bit (by rfl)).symm.trans h) | exact fun _ => rfl | (intro _; split <;> rfl)) ?_
        exact hx6
      · refine keeps_admitWaiting (hW.of rfl) ?_
        refine keeps_postOwn (hW.of rfl) ?_
        exact hx6

theorem keeps_nvStatusBody {W : Nat} {a : State} {v0 : Sys2Proof.Req} {v1 : List Sys2Proof.Byte} {v2 : State} (hW : Sub 0 W) (hv2 : Keeps W a v2) :
    KeepsR W a (nvStatusBody v0 v1 v2) := by
  unfold nvStatusBody
  refine KeepsR.done ?_
  exact hv2

theorem keeps_replaySlot {W : Nat} {a : State} {v0 : State} {v1 : ℕ} (hW : Sub 41822328602729744414179232151781380 W) (hv0 : Keeps W a v0) :
    Keeps W a (replaySlot v0 v1) := by
  unfold replaySlot
  refine Keeps.ite ?_ ?_
  · extract_lets -useContext -underBinder x0 x1 x2
    have hx1 : Keeps W a x1 := by
      refine keeps_slotFree (hW.of rfl) ?_
      refine keeps_commitCopy (hW.of rfl) ?_
      exact hv0
    try clear_value x1
    refine Keeps.upd_14 (hW.bit rfl) (by constructor <;> first | exact fun h => Bool.noConfusion ((hW.bit (by rfl)).symm.trans h) | exact fun _ => rfl | (intro _; split <;> rfl)) ?_
    exact hx1
  · refine Keeps.ite ?_ ?_
    · refine keeps_slotFree (hW.of rfl) ?_
      exact hv0
    · exact hv0

theorem keeps_admitSlots {W : Nat} {a : State} {v0 : State} (hW : Sub 12259964326927110866866817019860910819994446186967758404 W) (hv0 : Keeps W a v0) :
    Keeps W a (admitSlots v0) := by
  unfold admitSlots
  refine Keeps.foldl (fun t0 y1 ht0 => ?_) ?_
  · refine Keeps.ite ?_ ?_
    · exact ht0
    · refine keeps_admitWaiting (hW.of rfl) ?_
      exact ht0
  · exact hv0

theorem keeps_resvDischargeTest {W : Nat} {a : State} {v0 : ℕ} {v1 : ℕ} {v2 : State} (hW : Sub 218615307934772124422363036863369093474611003517361514411176199419502 W) (hv2 : Keeps W a v2) :
    Keeps W a (resvDischargeTest v0 v1 v2) := by
  unfold resvDischargeTest
  refine Keeps.ite ?_ ?_
  · exact hv2
  · extract_lets -useContext -underBinder x0 x1 x2
    have hx1 : Keeps W a x1 := by
      unfold x1
      refine Keeps.upd_14 (hW.bit rfl) (by constructor <;> first | exact fun h => Bool.noConfusion ((hW.bit (by rfl)).symm.trans h) | exact fun _ => rfl | (intro _; split <;> rfl)) ?_
      exact hv2
    try clear_value x1
    refine Keeps.ite ?_ ?_
    · exact hx1
    · refine keeps_raiseGlobal (hW.of rfl) ?_
      refine Keeps.upd_14 (hW.bit rfl) (by constructor <;> first | exact fun h => Bool.noConfusion ((hW.bit (by rfl)).symm.trans h) | exact fun _ => rfl | (intro _; split <;> rfl)) ?_
      exact hx1

theorem keeps_eeDiscard {W : Nat} {a : State} {v0 : State} (hW : Sub 2535301200456458802993406427136 W) (hv0 : Keeps W a v0) :
    Keeps W a (eeDiscard v0) := by
  unfold eeDiscard
  refine Keeps.upd_14 (hW.bit rfl) (by constructor <;> first | exact fun h => Bool.noConfusion ((hW.bit (by rfl)).symm.trans h) | exact fun _ => rfl | (intro _; split <;> rfl)) ?_
  exact hv0

theorem keeps_eeFillRead {W : Nat} {a : State} {v0 : List ℤ} {v1 : ℕ} {v2 : ℕ} {v3 : List Sys2Proof.Byte} {v4 : State} (hW : Sub 218615307934772124422363036863369085067552222803744123685040541365870 W) (hv4 : Keeps W a v4) :
    Keeps W a (eeFillRead v0 v1 v2 v3 v4).2 := by
  unfold eeFillRead
  extract_lets -useContext -underBinder x0
  refine keeps_eccWords (hW.of rfl) ?_
  · exact hv4

theorem keeps_startCommit {W : Nat} {a : State} {v0 : ℕ} {v1 : Sys2Proof.Machine.NvCommit} {v2 : State} (hW : Sub 12259964326927110866866816940478005800819436059061403652 W) (hv2 : Keeps W a v2) :
    Keeps W a (startCommit v0 v1 v2) := by
  unfold startCommit
  extract_lets -useContext -underBinder x0 x1
  have hx0 : Keeps W a x0 := by
    refine keeps_slotWrite (hW.of rfl) ?_
    refine keeps_markerTry (hW.of rfl) ?_
    exact hv2
  try clear_value x0
  refine Keeps.upd_14 (hW.bit rfl) (by constructor <;> first | exact fun h => Bool.noConfusion ((hW.bit (by rfl)).symm.trans h) | exact fun _ => rfl | (intro _; split <;> rfl)) ?_
  exact hx0

theorem keeps_eepromWrite {W : Nat} {a : State} {v0 : ℕ} {v1 : ℕ} {v2 : List Sys2Proof.Byte} {v3 : List ℤ} {v4 : State} (hW : Sub 218615307934772124422363036863369085072464368879628512615840266286702 W) (hv4 : Keeps W a v4) :
    Keeps W a (eepromWrite v0 v1 v2 v3 v4) := by
  unfold eepromWrite
  refine Keeps.ite ?_ ?_
  · exact hv4
  · refine Keeps.ite ?_ ?_
    · refine Keeps.upd_14 (hW.bit rfl) (by constructor <;> first | exact fun h => Bool.noConfusion ((hW.bit (by rfl)).symm.trans h) | exact fun _ => rfl | (intro _; split <;> rfl)) ?_
      exact hv4
    · extract_lets -useContext -underBinder x0 x1
      try clear_value x0
      try clear_value x1
      refine Keeps.ite ?_ ?_
      · refine keeps_eeDiscard (hW.of rfl) ?_
        exact hv4
      · split
        · rename_i p2 q3
          have hp4 : Keeps W a p2 := Keeps.ofEq2 q3 (by
            refine keeps_eeFillRead (hW.of rfl) ?_
            · exact hv4)
          refine keeps_eeDiscard (hW.of rfl) ?_
          exact hp4
        · rename_i p5 q6
          have hp7 : Keeps W a p5 := Keeps.ofEq2 q6 (by
            refine keeps_eeFillRead (hW.of rfl) ?_
            · exact hv4)
          extract_lets -useContext -underBinder x8 x9 x10
          have hx9 : Keeps W a x9 := by
            refine keeps_startCommit (hW.of rfl) ?_
            exact hp7
          try clear_value x9
          refine Keeps.upd_14 (hW.bit rfl) (by constructor <;> first | exact fun h => Bool.noConfusion ((hW.bit (by rfl)).symm.trans h) | exact fun _ => rfl | (intro _; split <;> rfl)) ?_
          exact hx9

theorem keeps_dropGather {W : Nat} {a : State} {v0 : ℕ} {v1 : State} (hW : Sub 79228162514264337593543966720 W) (hv1 : Keeps W a v1) :
    Keeps W a (dropGather v0 v1) := by
  unfold dropGather
  refine Keeps.upd_14 (hW.bit rfl) (by constructor <;> first | exact fun h => Bool.noConfusion ((hW.bit (by rfl)).symm.trans h) | exact fun _ => rfl | (intro _; split <;> rfl)) ?_
  exact hv1

theorem keeps_nvDiscardBody {W : Nat} {a : State} {v0 : Sys2Proof.Req} {v1 : List Sys2Proof.Byte} {v2 : State} (hW : Sub 79228162514264337593543966720 W) (hv2 : Keeps W a v2) :
    KeepsR W a (nvDiscardBody v0 v1 v2) := by
  unfold nvDiscardBody
  refine KeepsR.done ?_
  refine keeps_dropGather (hW.of rfl) ?_
  exact hv2

theorem keeps_nvGatherBody {W : Nat} {a : State} {v0 : Sys2Proof.Req} {v1 : List Sys2Proof.Byte} {v2 : State} (hW : Sub 79228162514264337593543966720 W) (hv2 : Keeps W a v2) :
    KeepsR W a (nvGatherBody v0 v1 v2) := by
  unfold nvGatherBody
  extract_lets -useContext -underBinder x0 x1 x2 x3 x4 x5
  refine KeepsR.ite ?_ ?_
  · refine keeps_refuse (hW.of rfl) ?_
    exact hv2
  · refine KeepsR.ite ?_ ?_
    · refine keeps_refuse (hW.of rfl) ?_
      exact hv2
    · refine KeepsR.ite ?_ ?_
      · refine keeps_refuse (hW.of rfl) ?_
        exact hv2
      · refine KeepsR.ite ?_ ?_
        · refine keeps_refuse (hW.of rfl) ?_
          exact hv2
        · refine KeepsR.ite ?_ ?_
          · refine keeps_refuse (hW.of rfl) ?_
            exact hv2
          · refine KeepsR.ite ?_ ?_
            · refine keeps_refuse (hW.of rfl) ?_
              exact hv2
            · refine KeepsR.done ?_
              refine keeps_setGather (hW.of rfl) ?_
              exact hv2

theorem keeps_cmdNvGather {W : Nat} {a : State} (hW : Sub 79228162514264337593543966720 W) :
    KeepsC W a (cmdNvGather) := by
  unfold cmdNvGather
  intro r p t ht
  dsimp only
  refine keeps_nvGatherBody (hW.of rfl) ?_
  exact ht

theorem keeps_commitDone {W : Nat} {a : State} {v0 : State} (hW : Sub 12259964326927110866908356662379789669252091654304724548 W) (hv0 : Keeps W a v0) :
    Keeps W a (commitDone v0) := by
  unfold commitDone
  refine Keeps.ite ?_ ?_
  · exact hv0
  · refine keeps_commitRun (hW.of rfl) ?_
    exact hv0

theorem keeps_commitsUpTo {W : Nat} {a : State} {v0 : Sys2Proof.Machine.NvCommit → Bool} {v1 : State} (hW : Sub 12259964326927110866908356662379789669252091654304724548 W) (hv1 : Keeps W a v1) :
    Keeps W a (commitsUpTo v0 v1) := by
  unfold commitsUpTo
  refine Keeps.ite ?_ ?_
  · refine Keeps.foldl (fun t0 y1 ht0 => ?_) ?_
    · refine keeps_commitDone (hW.of rfl) ?_
      exact ht0
    · exact hv1
  · exact hv1

theorem keeps_nvCommitComplete {W : Nat} {a : State} {v0 : State} (hW : Sub 12259964326927110866908356662379789669252091654304724548 W) (hv0 : Keeps W a v0) :
    Keeps W a (nvCommitComplete v0) := by
  unfold nvCommitComplete
  refine keeps_commitsUpTo (hW.of rfl) ?_
  refine keeps_markerTry (hW.of rfl) ?_
  exact hv0

theorem keeps_eepromRead {W : Nat} {a : State} {v0 : ℕ} {v1 : Option ℕ} {v2 : ℕ} {v3 : List ℤ} {v4 : State} (hW : Sub 218615307934772124422363036863369085073573563154828213342149881591406 W) (hv4 : Keeps W a v4) :
    Keeps W a (eepromRead v0 v1 v2 v3 v4) := by
  unfold eepromRead
  refine Keeps.ite ?_ ?_
  · exact hv4
  · extract_lets -useContext -underBinder x0 x1
    try clear_value x0
    try clear_value x1
    split
    · rename_i p2 q3
      have hp4 : Keeps W a p2 := Keeps.ofEq2 q3 (by
        refine keeps_eccWords (hW.of rfl) ?_
        · refine keeps_markerTry (hW.of rfl) ?_
          exact hv4)
      refine Keeps.upd_14 (hW.bit rfl) (by constructor <;> first | exact fun h => Bool.noConfusion ((hW.bit (by rfl)).symm.trans h) | exact fun _ => rfl | (intro _; split <;> rfl)) ?_
      exact hp4
    · rename_i p5 q6
      have hp7 : Keeps W a p5 := Keeps.ofEq2 q6 (by
        refine keeps_eccWords (hW.of rfl) ?_
        · refine keeps_markerTry (hW.of rfl) ?_
          exact hv4)
      refine Keeps.upd_14 (hW.bit rfl) (by constructor <;> first | exact fun h => Bool.noConfusion ((hW.bit (by rfl)).symm.trans h) | exact fun _ => rfl | (intro _; split <;> rfl)) ?_
      exact hp7

theorem keeps_nvProtectBody {W : Nat} {a : State} {v0 : Sys2Proof.Req} {v1 : List Sys2Proof.Byte} {v2 : State} (hW : Sub 50438181037257295600422536386168968972558348 W) (hv2 : Keeps W a v2) :
    KeepsR W a (nvProtectBody v0 v1 v2) := by
  unfold nvProtectBody
  extract_lets -useContext -underBinder x0 x1 x2 x3 x4
  refine KeepsR.ite ?_ ?_
  · refine keeps_refuse (hW.of rfl) ?_
    exact hv2
  · refine KeepsR.ite ?_ ?_
    · refine keeps_refuse (hW.of rfl) ?_
      exact hv2
    · refine KeepsR.ite ?_ ?_
      · refine KeepsR.done ?_
        refine keeps_persistFailed (hW.of rfl) ?_
        refine keeps_deviceCommit (hW.of rfl) ?_
        exact hv2
      · refine KeepsR.done ?_
        refine keeps_persist (hW.of rfl) ?_
        refine keeps_deviceCommit (hW.of rfl) ?_
        exact hv2

theorem keeps_cmdNvProtect {W : Nat} {a : State} (hW : Sub 50438181037257295600422536386168968972558348 W) :
    KeepsC W a (cmdNvProtect) := by
  unfold cmdNvProtect
  intro r p t ht
  dsimp only
  refine keeps_nvProtectBody (hW.of rfl) ?_
  exact ht

theorem keeps_eepromCommitDone {W : Nat} {a : State} {v0 : State} (hW : Sub 12259964326927110866908356662379789669252091654304724548 W) (hv0 : Keeps W a v0) :
    Keeps W a (eepromCommitDone v0) := by
  unfold eepromCommitDone
  refine keeps_commitsUpTo (hW.of rfl) ?_
  refine keeps_markerTry (hW.of rfl) ?_
  exact hv0

theorem keeps_cmdNvStatus {W : Nat} {a : State} (hW : Sub 0 W) :
    KeepsC W a (cmdNvStatus) := by
  unfold cmdNvStatus
  intro r p t ht
  dsimp only
  refine keeps_nvStatusBody (hW.of rfl) ?_
  exact ht

theorem keeps_fillRead {W : Nat} {a : State} {v0 : List ℤ} {v1 : Sys2Proof.Machine.Gather} {v2 : State} (hW : Sub 218615307934772124422363036863369085067552222803744123685040541365870 W) (hv2 : Keeps W a v2) :
    Keeps W a (fillRead v0 v1 v2).2 := by
  unfold fillRead
  split
  · refine keeps_eccWords (hW.of rfl) ?_
    · exact hv2

theorem keeps_nvCommitBody {W : Nat} {a : State} {v0 : Sys2Proof.Req} {v1 : List Sys2Proof.Byte} {v2 : State} (hW : Sub 218615307934772124422363036863369085067789907291286916697821173216878 W) (hv2 : Keeps W a v2) :
    KeepsR W a (nvCommitBody v0 v1 v2) := by
  unfold nvCommitBody
  split
  · refine keeps_refuse (hW.of rfl) ?_
    exact hv2
  · split
    · refine KeepsR.ite ?_ ?_
      · refine keeps_refuse (hW.of rfl) ?_
        exact hv2
      · split
        · refine keeps_refuse (hW.of rfl) ?_
          exact hv2
        · split
          · rename_i p6 q7
            have hp8 : Keeps W a p6 := Keeps.ofEq2 q7 (by
              refine keeps_fillRead (hW.of rfl) ?_
              · exact hv2)
            refine KeepsR.done ?_
            exact hp8
          · rename_i p9 q10
            have hp11 : Keeps W a p9 := Keeps.ofEq2 q10 (by
              refine keeps_fillRead (hW.of rfl) ?_
              · exact hv2)
            extract_lets -useContext -underBinder x12 x13
            try clear_value x12
            have hx13 : Keeps W a x13 := by
              refine keeps_dropGather (hW.of rfl) ?_
              exact hp11
            try clear_value x13
            split
            · refine KeepsR.done ?_
              refine keeps_startCommit (hW.of rfl) ?_
              exact hx13
            · refine keeps_deferOp (hW.of rfl) ?_
              refine Keeps.upd_14 (hW.bit rfl) (by constructor <;> first | exact fun h => Bool.noConfusion ((hW.bit (by rfl)).symm.trans h) | exact fun _ => rfl | (intro _; split <;> rfl)) ?_
              exact hx13

theorem keeps_cmdNvCommit {W : Nat} {a : State} (hW : Sub 218615307934772124422363036863369085067789907291286916697821173216878 W) :
    KeepsC W a (cmdNvCommit) := by
  unfold cmdNvCommit
  intro r p t ht
  dsimp only
  refine keeps_nvCommitBody (hW.of rfl) ?_
  exact ht

theorem keeps_journalReplay {W : Nat} {a : State} {v0 : State} (hW : Sub 41822328602729744414179232151781380 W) (hv0 : Keeps W a v0) :
    Keeps W a (journalReplay v0) := by
  unfold journalReplay
  refine Keeps.foldl (fun t0 y1 ht0 => ?_) ?_
  · refine keeps_replaySlot (hW.of rfl) ?_
    exact ht0
  · exact hv0

theorem keeps_cmdNvDiscard {W : Nat} {a : State} (hW : Sub 79228162514264337593543966720 W) :
    KeepsC W a (cmdNvDiscard) := by
  unfold cmdNvDiscard
  intro r p t ht
  dsimp only
  refine keeps_nvDiscardBody (hW.of rfl) ?_
  exact ht

end Sys2Proof.Machine
end

