-- ==== Sys2Proof/Laws/KeepsSinter.lean ====
section
/-! SUPPORT. What the operations of Machine/Sinter.lean keep (`Keeps`): one lemma for each. -/

namespace Sys2Proof.Machine

set_option linter.unusedVariables false
set_option linter.unusedTactic false
set_option linter.unreachableTactic false

theorem keeps_withdrawPass {W : Nat} {a : State} {v0 : ℕ} {v1 : State} (hW : Sub 60144908353275873417151461863565031440388 W) (hv1 : Keeps W a v1) :
    Keeps W a (withdrawPass v0 v1) := by
  unfold withdrawPass
  extract_lets -useContext -underBinder x0 x1 x2 x5 x6
  have hx2 : Keeps W a x2 := by
    refine keeps_supersede (hW.of rfl) ?_
    refine Keeps.foldl (fun t3 y4 ht3 => ?_) ?_
    · refine keeps_supersede (hW.of rfl) ?_
      exact ht3
    · exact hv1
  try clear_value x2
  refine Keeps.upd_16 (hW.bit rfl) (by constructor <;> first | exact fun h => Bool.noConfusion ((hW.bit (by rfl)).symm.trans h) | exact fun _ => rfl | (intro _; split <;> rfl)) ?_
  exact hx2

theorem keeps_finishErases {W : Nat} {a : State} {v0 : State} {v1 : ℕ} (hW : Sub 4 W) (hv0 : Keeps W a v0) :
    Keeps W a (finishErases v0 v1) := by
  unfold finishErases
  split
  · refine Keeps.foldl (fun t1 y2 ht1 => ?_) ?_
    · refine Keeps.ite ?_ ?_
      · refine keeps_eraseSector (hW.of rfl) ?_
        exact ht1
      · exact ht1
    · exact hv0
  · exact hv0

theorem keeps_countLog {W : Nat} {a : State} {v0 : State} (hW : Sub 255211775190703847597530955573826224128 W) (hv0 : Keeps W a v0) :
    Keeps W a (countLog v0) := by
  unfold countLog
  extract_lets -useContext -underBinder x0 x1 x2
  refine Keeps.upd_16 (hW.bit rfl) (by constructor <;> first | exact fun h => Bool.noConfusion ((hW.bit (by rfl)).symm.trans h) | exact fun _ => rfl | (intro _; split <;> rfl)) ?_
  exact hv0

theorem keeps_skipTornHead {W : Nat} {a : State} {v0 : State} (hW : Sub 29243015907268149203883755326167646212 W) (hv0 : Keeps W a v0) :
    Keeps W a (skipTornHead v0) := by
  unfold skipTornHead
  split
  · refine Keeps.ite ?_ ?_
    · refine Keeps.getD (keeps_openNext (hW.of rfl) ?_) ?_
      · exact hv0
      · exact hv0
    · exact hv0
  · exact hv0

theorem keeps_bootScan {W : Nat} {a : State} {v0 : State} (hW : Sub 348446485271049416754749790396010087907332 W) (hv0 : Keeps W a v0) :
    Keeps W a (bootScan v0) := by
  unfold bootScan
  extract_lets -useContext -underBinder x0 x1 x4 x5 x8
  try clear_value x4
  have hx0 : Keeps W a x0 := by
    unfold x0
    refine Keeps.upd_16 (hW.bit rfl) (by constructor <;> first | exact fun h => Bool.noConfusion ((hW.bit (by rfl)).symm.trans h) | exact fun _ => rfl | (intro _; split <;> rfl)) ?_
    exact hv0
  have hx1 : Keeps W a x1 := by
    unfold x1
    split
    · refine keeps_withdrawPass (hW.of rfl) ?_
      exact hx0
    · exact hx0
  have hx5 : Keeps W a x5 := by
    refine Keeps.foldl (fun t6 y7 ht6 => ?_) ?_
    · refine keeps_finishErases (hW.of rfl) ?_
      exact ht6
    · exact hx1
  have hx8 : Keeps W a x8 := by
    refine Keeps.foldl (fun t9 y10 ht9 => ?_) ?_
    · refine keeps_eraseSector (hW.of rfl) ?_
      exact ht9
    · exact hx5
  refine keeps_countLog (hW.of rfl) ?_
  refine keeps_skipTornHead (hW.of rfl) ?_
  exact hx8

theorem keeps_logAppendRun {W : Nat} {a : State} {v0 : Sys2Proof.Req} {v1 : List Sys2Proof.Byte} {v2 : State} (hW : Sub 50351238892508916904330139730977627375362060 W) (hv2 : Keeps W a v2) :
    Keeps W a (logAppendRun v0 v1 v2).2.2 := by
  unfold logAppendRun
  extract_lets -useContext -underBinder x0 x1 x2 x3 x6
  try clear_value x0
  try clear_value x1
  try clear_value x2
  try clear_value x6
  have hx3 : Keeps W a x3 := by
    refine Keeps.ite ?_ ?_
    · split
      · refine keeps_supersede (hW.of rfl) ?_
        exact hv2
      · exact hv2
    · exact hv2
  refine Keeps.ite5 ?_ ?_
  · try dsimp only
    try dsimp only
    exact hv2
  · refine Keeps.ite5 ?_ ?_
    · try dsimp only
      try dsimp only
      exact hv2
    · split
      · rename_i p7 p8 q9
        have hp10 : Keeps W a p8 := by
          refine keeps_appendRec (hW.of rfl) ?_ _ q9
          · exact hx3
        try dsimp only
        try dsimp only
        exact hp10
      · try dsimp only
        try dsimp only
        exact hv2

theorem keeps_logAppendBody {W : Nat} {a : State} {v0 : Sys2Proof.Req} {v1 : List Sys2Proof.Byte} {v2 : State} (hW : Sub 50351238892508916904330139730977627375363084 W) (hv2 : Keeps W a v2) :
    KeepsR W a (logAppendBody v0 v1 v2) := by
  unfold logAppendBody
  refine KeepsR.ite ?_ ?_
  · extract_lets -useContext -underBinder x0
    have hx0 : Keeps W a x0.2.2 := by
      refine keeps_logAppendRun (hW.of rfl) ?_
      · exact hv2
    refine KeepsR.done ?_
    exact hx0
  · refine KeepsR.owed ?_
    refine keeps_addOp (hW.of rfl) ?_
    exact hv2

theorem keeps_cmdLogAppend {W : Nat} {a : State} (hW : Sub 50351238892508916904330139730977627375363084 W) :
    KeepsC W a (cmdLogAppend) := by
  unfold cmdLogAppend
  intro r p t ht
  dsimp only
  refine keeps_logAppendBody (hW.of rfl) ?_
  exact ht

theorem keeps_leaveHead {W : Nat} {a : State} {v0 : ℕ} {v1 : State} (hW : Sub 29243015907268149203883755326167646212 W) (hv1 : Keeps W a v1) :
    Keeps W a (leaveHead v0 v1) := by
  unfold leaveHead
  refine Keeps.ite ?_ ?_
  · refine Keeps.getD (keeps_openNext (hW.of rfl) ?_) ?_
    · exact hv1
    · exact hv1
  · exact hv1

theorem keeps_startPass {W : Nat} {a : State} {v0 : ℕ} {v1 : State} (hW : Sub 50421847483645011635498789962019719279239180 W) (hv1 : Keeps W a v1) :
    Keeps W a (startPass v0 v1) := by
  unfold startPass
  extract_lets -useContext -underBinder x0
  have hx0 : Keeps W a x0 := by
    refine keeps_leaveHead (hW.of rfl) ?_
    exact hv1
  try clear_value x0
  split
  · extract_lets -useContext -underBinder x3 x4 x5
    try clear_value x3
    try clear_value x4
    try clear_value x5
    split
    · rename_i p6 p7 q8
      have hp9 : Keeps W a p7 := by
        refine keeps_appendRec (hW.of rfl) ?_ _ q8
        · exact hx0
      refine Keeps.upd_16 (hW.bit rfl) (by constructor <;> first | exact fun h => Bool.noConfusion ((hW.bit (by rfl)).symm.trans h) | exact fun _ => rfl | (intro _; split <;> rfl)) ?_
      exact hp9
    · exact hx0

theorem keeps_endPass {W : Nat} {a : State} {v0 : Sys2Proof.Machine.Compact} {v1 : State} (hW : Sub 50373016963991856965991795705853260540895244 W) (hv1 : Keeps W a v1) :
    Keeps W a (endPass v0 v1) := by
  unfold endPass
  extract_lets -useContext -underBinder x0
  try clear_value x0
  split
  · rename_i p1 p2 q3
    have hp4 : Keeps W a p2 := by
      refine keeps_appendRec (hW.of rfl) ?_ _ q3
      · exact hv1
    extract_lets -useContext -underBinder x5 x8
    have hx5 : Keeps W a x5 := by
      unfold x5
      split
      · refine keeps_supersede (hW.of rfl) ?_
        exact hp4
      · exact hp4
    try clear_value x5
    refine Keeps.upd_16 (hW.bit rfl) (by constructor <;> first | exact fun h => Bool.noConfusion ((hW.bit (by rfl)).symm.trans h) | exact fun _ => rfl | (intro _; split <;> rfl)) ?_
    exact hx5
  · exact hv1

theorem keeps_copyOne {W : Nat} {a : State} {v0 : Sys2Proof.Machine.Compact} {v1 : ℕ} {v2 : List ℕ} {v3 : State} (hW : Sub 50375569081743764004467771015408998802481164 W) (hv3 : Keeps W a v3) :
    Keeps W a (copyOne v0 v1 v2 v3) := by
  unfold copyOne
  extract_lets -useContext -underBinder x0 x1
  try clear_value x0
  refine Keeps.ite ?_ ?_
  · refine Keeps.upd_16 (hW.bit rfl) (by constructor <;> first | exact fun h => Bool.noConfusion ((hW.bit (by rfl)).symm.trans h) | exact fun _ => rfl | (intro _; split <;> rfl)) ?_
    exact hv3
  · split
    · rename_i p2 p3 q4
      have hp5 : Keeps W a p3 := by
        refine keeps_appendRec (hW.of rfl) ?_ _ q4
        · exact hv3
      refine Keeps.upd_16 (hW.bit rfl) (by constructor <;> first | exact fun h => Bool.noConfusion ((hW.bit (by rfl)).symm.trans h) | exact fun _ => rfl | (intro _; split <;> rfl)) ?_
      exact hp5
    · exact hv3

theorem keeps_compactionStep {W : Nat} {a : State} {v0 : State} (hW : Sub 50424739884088358166096655372966045329612812 W) (hv0 : Keeps W a v0) :
    Keeps W a (compactionStep v0) := by
  unfold compactionStep
  split
  · split
    · refine keeps_startPass (hW.of rfl) ?_
      exact hv0
    · exact hv0
  · refine Keeps.ite ?_ ?_
    · split
      · refine Keeps.ite ?_ ?_
        · exact hv0
        · refine Keeps.upd_14 (hW.bit rfl) (by constructor <;> first | exact fun h => Bool.noConfusion ((hW.bit (by rfl)).symm.trans h) | exact fun _ => rfl | (intro _; split <;> rfl)) ?_
          exact hv0
      · exact hv0
    · split
      · refine keeps_copyOne (hW.of rfl) ?_
        exact hv0
      · refine keeps_endPass (hW.of rfl) ?_
        exact hv0

theorem keeps_passErased {W : Nat} {a : State} {v0 : ℕ} {v1 : State} (hW : Sub 21778071482940061661655974875633165598720 W) (hv1 : Keeps W a v1) :
    Keeps W a (passErased v0 v1) := by
  unfold passErased
  split
  · extract_lets -useContext -underBinder x1 x2
    refine Keeps.upd_16 (hW.bit rfl) (by constructor <;> first | exact fun h => Bool.noConfusion ((hW.bit (by rfl)).symm.trans h) | exact fun _ => rfl | (intro _; split <;> rfl)) ?_
    exact hv1
  · exact hv1

theorem keeps_reclaimSector {W : Nat} {a : State} {v0 : ℕ} {v1 : State} (hW : Sub 595494142111642311060905563005594435588 W) (hv1 : Keeps W a v1) :
    Keeps W a (reclaimSector v0 v1) := by
  unfold reclaimSector
  split
  · extract_lets -useContext -underBinder x2 x3
    have hx2 : Keeps W a x2 := by
      refine keeps_eraseSector (hW.of rfl) ?_
      exact hv1
    try clear_value x2
    refine Keeps.upd_16 (hW.bit rfl) (by constructor <;> first | exact fun h => Bool.noConfusion ((hW.bit (by rfl)).symm.trans h) | exact fun _ => rfl | (intro _; split <;> rfl)) ?_
    exact hx2

theorem keeps_logErased {W : Nat} {a : State} {v0 : State} (hW : Sub 22373565949570257631143607221794780561412 W) (hv0 : Keeps W a v0) :
    Keeps W a (logErased v0) := by
  unfold logErased
  split
  · refine keeps_passErased (hW.of rfl) ?_
    refine keeps_reclaimSector (hW.of rfl) ?_
    refine Keeps.upd_14 (hW.bit rfl) (by constructor <;> first | exact fun h => Bool.noConfusion ((hW.bit (by rfl)).symm.trans h) | exact fun _ => rfl | (intro _; split <;> rfl)) ?_
    exact hv0
  · exact hv0

theorem keeps_logReadBody {W : Nat} {a : State} {v0 : Sys2Proof.Req} {v1 : List Sys2Proof.Byte} {v2 : State} (hW : Sub 0 W) (hv2 : Keeps W a v2) :
    KeepsR W a (logReadBody v0 v1 v2) := by
  unfold logReadBody
  extract_lets -useContext -underBinder x0 x1 x2
  try clear_value x0
  try clear_value x1
  try clear_value x2
  split
  · refine KeepsR.ite ?_ ?_
    · refine KeepsR.done ?_
      exact hv2
    · refine keeps_refuse (hW.of rfl) ?_
      exact hv2
  · extract_lets -useContext -underBinder x6 x7 x8 x9 x10 x11 x12
    refine KeepsR.ite ?_ ?_
    · refine KeepsR.ite ?_ ?_
      · refine keeps_refuse (hW.of rfl) ?_
        exact hv2
      · refine KeepsR.done ?_
        exact hv2
    · refine KeepsR.ite ?_ ?_
      · refine keeps_refuse (hW.of rfl) ?_
        exact hv2
      · refine KeepsR.done ?_
        exact hv2

theorem keeps_cmdLogRead {W : Nat} {a : State} (hW : Sub 0 W) :
    KeepsC W a (cmdLogRead) := by
  unfold cmdLogRead
  intro r p t ht
  dsimp only
  refine keeps_logReadBody (hW.of rfl) ?_
  exact ht

end Sys2Proof.Machine
end

