-- ==== Sys2Proof/Laws/KeepsFirmware.lean ====
section
/-! SUPPORT. What the operations of Machine/Firmware.lean keep (`Keeps`): one lemma for each. -/

namespace Sys2Proof.Machine

set_option linter.unusedVariables false
set_option linter.unusedTactic false
set_option linter.unreachableTactic false

theorem keeps_fwChunkRun {W : Nat} {a : State} {v0 : List Sys2Proof.Byte} {v1 : State} (hW : Sub 664613997892457936451903530140205060 W) (hv1 : Keeps W a v1) :
    Keeps W a (fwChunkRun v0 v1).2 := by
  unfold fwChunkRun
  extract_lets -useContext -underBinder x0 x1 x2 x3
  have hx2 : Keeps W a x2 := by
    refine keeps_programBytes (hW.of rfl) ?_
    exact hv1
  try clear_value x2
  refine Keeps.ite2 ?_ ?_
  · try dsimp only
    exact hv1
  · try dsimp only
    refine Keeps.upd_15 (hW.bit rfl) (by constructor <;> first | exact fun h => Bool.noConfusion ((hW.bit (by rfl)).symm.trans h) | exact fun _ => rfl | (intro _; split <;> rfl)) ?_
    exact hx2

theorem keeps_fwFinishRun {W : Nat} {a : State} {v0 : State} (hW : Sub 1329227995784915872903807060280377344 W) (hv0 : Keeps W a v0) :
    Keeps W a (fwFinishRun v0).2 := by
  unfold fwFinishRun
  extract_lets -useContext -underBinder x0 x1
  refine Keeps.ite2 ?_ ?_
  · try dsimp only
    refine Keeps.upd_15 (hW.bit rfl) (by constructor <;> first | exact fun h => Bool.noConfusion ((hW.bit (by rfl)).symm.trans h) | exact fun _ => rfl | (intro _; split <;> rfl)) ?_
    exact hv0
  · refine Keeps.ite2 ?_ ?_
    · try dsimp only
      refine Keeps.upd_15 (hW.bit rfl) (by constructor <;> first | exact fun h => Bool.noConfusion ((hW.bit (by rfl)).symm.trans h) | exact fun _ => rfl | (intro _; split <;> rfl)) ?_
      exact hv0
    · try dsimp only
      refine Keeps.upd_15 (hW.bit rfl) (by constructor <;> first | exact fun h => Bool.noConfusion ((hW.bit (by rfl)).symm.trans h) | exact fun _ => rfl | (intro _; split <;> rfl)) ?_
      exact hv0

theorem keeps_fwFinishBody {W : Nat} {a : State} {v0 : Sys2Proof.Req} {v1 : List Sys2Proof.Byte} {v2 : State} (hW : Sub 1329227995784915872903807060280378368 W) (hv2 : Keeps W a v2) :
    KeepsR W a (fwFinishBody v0 v1 v2) := by
  unfold fwFinishBody
  refine KeepsR.ite ?_ ?_
  · refine KeepsR.owed ?_
    refine keeps_addOp (hW.of rfl) ?_
    exact hv2
  · extract_lets -useContext -underBinder x0
    have hx0 : Keeps W a x0.2 := by
      refine keeps_fwFinishRun (hW.of rfl) ?_
      · exact hv2
    refine KeepsR.done ?_
    exact hx0

theorem keeps_cmdFwFinish {W : Nat} {a : State} (hW : Sub 1329227995784915872903807060280378368 W) :
    KeepsC W a (cmdFwFinish) := by
  unfold cmdFwFinish
  intro r p t ht
  dsimp only
  refine keeps_fwFinishBody (hW.of rfl) ?_
  exact ht

theorem keeps_heldOp {W : Nat} {a : State} {v0 : State} {v1 : Sys2Proof.Machine.PendOp} (hW : Sub 50351240886350910581703949086688217795917388 W) (hv0 : Keeps W a v0) :
    Keeps W a (heldOp v0 v1) := by
  unfold heldOp
  split
  · extract_lets -useContext -underBinder x2
    have hx2 : Keeps W a x2.2.2 := by
      refine keeps_logAppendRun (hW.of rfl) ?_
      · exact hv0
    refine keeps_completeOp (hW.of rfl) ?_
    exact hx2
  · refine Keeps.ite ?_ ?_
    · exact hv0
    · extract_lets -useContext -underBinder x5
      have hx5 : Keeps W a x5.2 := by
        refine keeps_fwChunkRun (hW.of rfl) ?_
        · exact hv0
      refine keeps_completeOp (hW.of rfl) ?_
      exact hx5
  · refine Keeps.ite ?_ ?_
    · exact hv0
    · extract_lets -useContext -underBinder x7
      have hx7 : Keeps W a x7.2 := by
        refine keeps_fwFinishRun (hW.of rfl) ?_
        · exact hv0
      refine keeps_completeOp (hW.of rfl) ?_
      exact hx7
  · exact hv0

theorem keeps_heldGo {W : Nat} {a : State} {v0 : State} (hW : Sub 50438353172282670828350572986190750458050124 W) (hv0 : Keeps W a v0) :
    Keeps W a (heldGo v0) := by
  unfold heldGo
  extract_lets -useContext -underBinder x0
  have hx0 : Keeps W a x0 := by
    refine Keeps.ite ?_ ?_
    · refine keeps_flushRecs (hW.of rfl) ?_
      exact hv0
    · exact hv0
  refine Keeps.foldl (fun t1 y2 ht1 => ?_) ?_
  · refine keeps_heldOp (hW.of rfl) ?_
    exact ht1
  · exact hx0

theorem keeps_slotSectorErased {W : Nat} {a : State} {v0 : State} (hW : Sub 332306998946228968225951765070118916 W) (hv0 : Keeps W a v0) :
    Keeps W a (slotSectorErased v0) := by
  unfold slotSectorErased
  refine Keeps.ite ?_ ?_
  · extract_lets -useContext -underBinder x0 x1
    have hx0 : Keeps W a x0 := by
      refine keeps_clearBytes (hW.of rfl) ?_
      exact hv0
    try clear_value x0
    refine Keeps.upd_15 (hW.bit rfl) (by constructor <;> first | exact fun h => Bool.noConfusion ((hW.bit (by rfl)).symm.trans h) | exact fun _ => rfl | (intro _; split <;> rfl)) ?_
    exact hx0
  · exact hv0

theorem keeps_fwEraseDone {W : Nat} {a : State} {v0 : Bool} {v1 : State} (hW : Sub 50438353483820482340440230698020530211255884 W) (hv1 : Keeps W a v1) :
    Keeps W a (fwEraseDone v0 v1) := by
  unfold fwEraseDone
  refine Keeps.ite ?_ ?_
  · extract_lets -useContext -underBinder x0 x1 x2
    have hx0 : Keeps W a x0 := by
      refine Keeps.ite ?_ ?_
      · refine keeps_clearBytes (hW.of rfl) ?_
        exact hv1
      · exact hv1
    try clear_value x0
    refine keeps_heldGo (hW.of rfl) ?_
    refine keeps_completeOp (hW.of rfl) ?_
    refine Keeps.upd_14_15 (hW.bit rfl) (hW.bit rfl) (by constructor <;> first | exact fun h => Bool.noConfusion ((hW.bit (by rfl)).symm.trans h) | exact fun _ => rfl | (intro _; split <;> rfl)) (by constructor <;> first | exact fun h => Bool.noConfusion ((hW.bit (by rfl)).symm.trans h) | exact fun _ => rfl | (intro _; split <;> rfl)) ?_
    exact hx0
  · exact hv1

theorem keeps_eraseEnds {W : Nat} {a : State} {v0 : State} (hW : Sub 22373898256569203860111833173559850680324 W) (hv0 : Keeps W a v0) :
    Keeps W a (eraseEnds v0) := by
  unfold eraseEnds
  refine Keeps.ite ?_ ?_
  · refine keeps_logErased (hW.of rfl) ?_
    exact hv0
  · refine keeps_slotSectorErased (hW.of rfl) ?_
    exact hv0

theorem keeps_fwActivateBody {W : Nat} {a : State} {v0 : Sys2Proof.Req} {v1 : List Sys2Proof.Byte} {v2 : State} (hW : Sub 40564819207303341410844456009764 W) (hv2 : Keeps W a v2) :
    KeepsR W a (fwActivateBody v0 v1 v2) := by
  unfold fwActivateBody
  refine KeepsR.ite ?_ ?_
  · refine keeps_refuse (hW.of rfl) ?_
    exact hv2
  · extract_lets -useContext -underBinder x0 x1 x2
    have hx1 : Keeps W a x1 := by
      refine keeps_writeBoot (hW.of rfl) ?_
      exact hv2
    try clear_value x1
    refine KeepsR.done ?_
    refine Keeps.upd_5 (hW.bit rfl) (by constructor <;> first | exact fun h => Bool.noConfusion ((hW.bit (by rfl)).symm.trans h) | exact fun _ => rfl | (intro _; split <;> rfl)) ?_
    exact hx1

theorem keeps_cmdFwActivate {W : Nat} {a : State} (hW : Sub 40564819207303341410844456009764 W) :
    KeepsC W a (cmdFwActivate) := by
  unfold cmdFwActivate
  intro r p t ht
  dsimp only
  refine keeps_fwActivateBody (hW.of rfl) ?_
  exact ht

theorem keeps_fwInfoBody {W : Nat} {a : State} {v0 : Sys2Proof.Req} {v1 : List Sys2Proof.Byte} {v2 : State} (hW : Sub 0 W) (hv2 : Keeps W a v2) :
    KeepsR W a (fwInfoBody v0 v1 v2) := by
  unfold fwInfoBody
  extract_lets -useContext -underBinder x0
  refine KeepsR.done ?_
  exact hv2

theorem keeps_cmdFwInfo {W : Nat} {a : State} (hW : Sub 0 W) :
    KeepsC W a (cmdFwInfo) := by
  unfold cmdFwInfo
  intro r p t ht
  dsimp only
  refine keeps_fwInfoBody (hW.of rfl) ?_
  exact ht

theorem keeps_fwBeginBody {W : Nat} {a : State} {v0 : Sys2Proof.Req} {v1 : List Sys2Proof.Byte} {v2 : State} (hW : Sub 2575379241833274503751126179293201408 W) (hv2 : Keeps W a v2) :
    KeepsR W a (fwBeginBody v0 v1 v2) := by
  unfold fwBeginBody
  refine KeepsR.ite ?_ ?_
  · refine keeps_refuse (hW.of rfl) ?_
    exact hv2
  · refine KeepsR.accepted ?_
    refine keeps_addOp (hW.of rfl) ?_
    refine Keeps.upd_15 (hW.bit rfl) (by constructor <;> first | exact fun h => Bool.noConfusion ((hW.bit (by rfl)).symm.trans h) | exact fun _ => rfl | (intro _; split <;> rfl)) ?_
    exact hv2

theorem keeps_fwChunkBody {W : Nat} {a : State} {v0 : Sys2Proof.Req} {v1 : List Sys2Proof.Byte} {v2 : State} (hW : Sub 664613997892457936451903530140206084 W) (hv2 : Keeps W a v2) :
    KeepsR W a (fwChunkBody v0 v1 v2) := by
  unfold fwChunkBody
  refine KeepsR.ite ?_ ?_
  · refine KeepsR.owed ?_
    refine keeps_addOp (hW.of rfl) ?_
    exact hv2
  · extract_lets -useContext -underBinder x0
    have hx0 : Keeps W a x0.2 := by
      refine keeps_fwChunkRun (hW.of rfl) ?_
      · exact hv2
    refine KeepsR.done ?_
    exact hx0

theorem keeps_cmdFwChunk {W : Nat} {a : State} (hW : Sub 664613997892457936451903530140206084 W) :
    KeepsC W a (cmdFwChunk) := by
  unfold cmdFwChunk
  intro r p t ht
  dsimp only
  refine keeps_fwChunkBody (hW.of rfl) ?_
  exact ht

theorem keeps_cmdFwBegin {W : Nat} {a : State} (hW : Sub 2575379241833274503751126179293201408 W) :
    KeepsC W a (cmdFwBegin) := by
  unfold cmdFwBegin
  intro r p t ht
  dsimp only
  refine keeps_fwBeginBody (hW.of rfl) ?_
  exact ht

theorem keeps_sectorEraseDone {W : Nat} {a : State} {v0 : State} (hW : Sub 50460471858764049328363087288408736482457164 W) (hv0 : Keeps W a v0) :
    Keeps W a (sectorEraseDone v0) := by
  unfold sectorEraseDone
  refine Keeps.ite ?_ ?_
  · refine keeps_heldGo (hW.of rfl) ?_
    refine keeps_eraseEnds (hW.of rfl) ?_
    exact hv0
  · exact hv0

end Sys2Proof.Machine
end

