-- ==== Sys2Proof/Laws/KeepsSessions.lean ====
section
/-! SUPPORT. What the operations of Machine/Sessions.lean keep (`Keeps`): one lemma for each. -/

namespace Sys2Proof.Machine

set_option linter.unusedVariables false
set_option linter.unusedTactic false
set_option linter.unreachableTactic false

theorem keeps_proofAnswer {W : Nat} {a : State} {v0 : Option Bool} {v1 : ℕ} {v2 : State} (hW : Sub 512 W) (hv2 : Keeps W a v2) :
    KeepsR W a (proofAnswer v0 v1 v2) := by
  unfold proofAnswer
  split
  · refine keeps_refuse (hW.of rfl) ?_
    exact hv2
  · refine KeepsR.done ?_
    refine keeps_onTenant (hW.of rfl) ?_
    exact hv2
  · refine KeepsR.done ?_
    refine keeps_onTenant (hW.of rfl) ?_
    exact hv2

theorem keeps_authProveBody {W : Nat} {a : State} {v0 : Sys2Proof.Req} {v1 : List Sys2Proof.Byte} {v2 : State} (hW : Sub 512 W) (hv2 : Keeps W a v2) :
    KeepsR W a (authProveBody v0 v1 v2) := by
  unfold authProveBody
  refine keeps_proofAnswer (hW.of rfl) ?_
  exact hv2

theorem keeps_cmdAuthProve {W : Nat} {a : State} (hW : Sub 512 W) :
    KeepsC W a (cmdAuthProve) := by
  unfold cmdAuthProve
  intro r p t ht
  dsimp only
  refine keeps_authProveBody (hW.of rfl) ?_
  exact ht

theorem keeps_settleWaiting {W : Nat} {a : State} {v0 : ℕ} {v1 : State} (hW : Sub 512 W) (hv1 : Keeps W a v1) :
    Keeps W a (settleWaiting v0 v1) := by
  unfold settleWaiting
  extract_lets -useContext -underBinder x0
  refine keeps_onTenant (hW.of rfl) ?_
  exact hv1

theorem keeps_closeSession {W : Nat} {a : State} {v0 : ℕ} {v1 : Sys2Proof.Machine.Closing} {v2 : State} (hW : Sub 216048166358045284433738698354410220672922125453699347253061560006252 W) (hv2 : Keeps W a v2) :
    Keeps W a (closeSession v0 v1 v2) := by
  unfold closeSession
  split
  · exact hv2
  · extract_lets -useContext -underBinder x2 x3 x4 x5 x6
    have hx2 : Keeps W a x2 := by
      refine keeps_onTenant (hW.of rfl) ?_
      exact hv2
    have hx3 : Keeps W a x3 := by
      refine keeps_onPort (hW.of rfl) ?_
      exact hx2
    have hx5 : Keeps W a x5 := by
      unfold x5
      try clear_value x2
      try clear_value x3
      refine Keeps.upd_10_13 (hW.bit rfl) (hW.bit rfl) (by constructor <;> first | exact fun h => Bool.noConfusion ((hW.bit (by rfl)).symm.trans h) | exact fun _ => rfl | (intro _; split <;> rfl)) ?_
      exact hx3
    have hx6 : Keeps W a x6 := by
      refine keeps_settleWaiting (hW.of rfl) ?_
      refine Keeps.ite ?_ ?_
      · exact hx5
      · refine keeps_dropGather (hW.of rfl) ?_
        exact hx5
    refine Keeps.ite ?_ ?_
    · refine keeps_beginServiceExit (hW.of rfl) ?_
      exact hx6
    · exact hx6

theorem keeps_holdLast {W : Nat} {a : State} {v0 : ℕ} {v1 : Sys2Proof.Machine.WaitRsp → Sys2Proof.Machine.WaitRsp} {v2 : State} (hW : Sub 64 W) (hv2 : Keeps W a v2) :
    Keeps W a (holdLast v0 v1 v2) := by
  unfold holdLast
  refine keeps_onPort (hW.of rfl) ?_
  exact hv2

theorem keeps_sessionCloseBody {W : Nat} {a : State} {v0 : Sys2Proof.Req} {v1 : List Sys2Proof.Byte} {v2 : State} (hW : Sub 216048166358045284433738698354410220672922125453699347253061560006252 W) (hv2 : Keeps W a v2) :
    KeepsR W a (sessionCloseBody v0 v1 v2) := by
  unfold sessionCloseBody
  refine KeepsR.doneThen ?_ ?_
  · exact hv2
  · intro t0 ht0
    refine Keeps.ite ?_ ?_
    · refine keeps_closeSession (hW.of rfl) ?_
      exact ht0
    · refine keeps_holdLast (hW.of rfl) ?_
      exact ht0

theorem keeps_cmdSessionClose {W : Nat} {a : State} (hW : Sub 216048166358045284433738698354410220672922125453699347253061560006252 W) :
    KeepsC W a (cmdSessionClose) := by
  unfold cmdSessionClose
  intro r p t ht
  dsimp only
  refine keeps_sessionCloseBody (hW.of rfl) ?_
  exact ht

theorem keeps_creditsReadBody {W : Nat} {a : State} {v0 : Sys2Proof.Req} {v1 : List Sys2Proof.Byte} {v2 : State} (hW : Sub 0 W) (hv2 : Keeps W a v2) :
    KeepsR W a (creditsReadBody v0 v1 v2) := by
  unfold creditsReadBody
  extract_lets -useContext -underBinder x0 x1
  refine KeepsR.done ?_
  exact hv2

theorem keeps_cmdCreditsRead {W : Nat} {a : State} (hW : Sub 0 W) :
    KeepsC W a (cmdCreditsRead) := by
  unfold cmdCreditsRead
  intro r p t ht
  dsimp only
  refine keeps_creditsReadBody (hW.of rfl) ?_
  exact ht

theorem keeps_openSession {W : Nat} {a : State} {v0 : ℕ} {v1 : ℕ} {v2 : Bool} {v3 : State} (hW : Sub 154742504910672534362399296 W) (hv3 : Keeps W a v3) :
    Keeps W a (openSession v0 v1 v2 v3) := by
  unfold openSession
  extract_lets -useContext -underBinder x0 x1
  have hx0 : Keeps W a x0 := by
    refine keeps_takeOccAt (hW.of rfl) ?_
    exact hv3
  have hx1 : Keeps W a x1 := by
    refine keeps_onTenant (hW.of rfl) ?_
    exact hx0
  refine Keeps.ite ?_ ?_
  · refine keeps_onPort (hW.of rfl) ?_
    exact hx1
  · exact hx1

theorem keeps_sessionOpenBody {W : Nat} {a : State} {v0 : Sys2Proof.Req} {v1 : List Sys2Proof.Byte} {v2 : State} (hW : Sub 216048166358045284433738698354410220672922125453699347253061560006252 W) (hv2 : Keeps W a v2) :
    KeepsR W a (sessionOpenBody v0 v1 v2) := by
  unfold sessionOpenBody
  extract_lets -useContext -underBinder x0 x1 x2 x3
  have hx2 : Keeps W a x2 := by
    refine keeps_closeSession (hW.of rfl) ?_
    exact hv2
  have hx3 : Keeps W a x3 := by
    refine keeps_openSession (hW.of rfl) ?_
    exact hx2
  refine KeepsR.ite ?_ ?_
  · refine keeps_refuse (hW.of rfl) ?_
    exact hv2
  · refine KeepsR.ite ?_ ?_
    · refine keeps_refuse (hW.of rfl) ?_
      exact hv2
    · refine KeepsR.ite ?_ ?_
      · refine keeps_refuse (hW.of rfl) ?_
        exact hv2
      · refine KeepsR.done ?_
        exact hx3

theorem keeps_uartSend {W : Nat} {a : State} {v0 : List Sys2Proof.Byte} {v1 : State} (hW : Sub 77371252455336267181195520 W) (hv1 : Keeps W a v1) :
    Keeps W a (uartSend v0 v1) := by
  unfold uartSend
  refine Keeps.upd_8 (hW.bit rfl) (by constructor <;> first | exact fun h => Bool.noConfusion ((hW.bit (by rfl)).symm.trans h) | exact fun _ => rfl | (intro _; split <;> rfl)) ?_
  exact hv1

theorem keeps_nonceExpiry {W : Nat} {a : State} {v0 : ℕ} {v1 : State} (hW : Sub 512 W) (hv1 : Keeps W a v1) :
    Keeps W a (nonceExpiry v0 v1) := by
  unfold nonceExpiry
  refine keeps_onTenant (hW.of rfl) ?_
  exact hv1

theorem keeps_tenantWriteBody {W : Nat} {a : State} {v0 : Sys2Proof.Req} {v1 : List Sys2Proof.Byte} {v2 : State} (hW : Sub 12259964326927110866866816782021680772290760871973502980 W) (hv2 : Keeps W a v2) :
    KeepsR W a (tenantWriteBody v0 v1 v2) := by
  unfold tenantWriteBody
  extract_lets -useContext -underBinder x0
  refine KeepsR.ite ?_ ?_
  · refine keeps_refuse (hW.of rfl) ?_
    exact hv2
  · refine KeepsR.ite ?_ ?_
    · refine keeps_refuse (hW.of rfl) ?_
      exact hv2
    · refine KeepsR.done ?_
      refine keeps_faWrite (hW.of rfl) ?_
      refine keeps_markerTry (hW.of rfl) ?_
      exact hv2

theorem keeps_evtPop {W : Nat} {a : State} {v0 : ℕ} {v1 : ℕ} {v2 : Bool} {v3 : State} (hW : Sub 576 W) (hv3 : Keeps W a v3) :
    Keeps W a (evtPop v0 v1 v2 v3) := by
  unfold evtPop
  refine Keeps.ite ?_ ?_
  · exact hv3
  · refine Keeps.ite ?_ ?_
    · split
      · refine keeps_onPort (hW.of rfl) ?_
        refine keeps_onTenant (hW.of rfl) ?_
        exact hv3
      · refine keeps_onPort (hW.of rfl) ?_
        exact hv3
    · refine keeps_onPort (hW.of rfl) ?_
      exact hv3

theorem keeps_rspDone {W : Nat} {a : State} {v0 : ℕ} {v1 : State} (hW : Sub 64 W) (hv1 : Keeps W a v1) :
    Keeps W a (rspDone v0 v1) := by
  unfold rspDone
  refine keeps_onPort (hW.of rfl) ?_
  exact hv1

theorem keeps_uartFrameSent {W : Nat} {a : State} {v0 : State} (hW : Sub 77371252455336267181196096 W) (hv0 : Keeps W a v0) :
    Keeps W a (uartFrameSent v0) := by
  unfold uartFrameSent
  split
  · refine keeps_uartSend (hW.of rfl) ?_
    refine keeps_rspDone (hW.of rfl) ?_
    exact hv0
  · split
    · split
      · refine keeps_uartSend (hW.of rfl) ?_
        refine keeps_onTenant (hW.of rfl) ?_
        exact hv0
      · exact hv0
    · exact hv0

theorem keeps_cmdSessionOpen {W : Nat} {a : State} (hW : Sub 216048166358045284433738698354410220672922125453699347253061560006252 W) :
    KeepsC W a (cmdSessionOpen) := by
  unfold cmdSessionOpen
  intro r p t ht
  dsimp only
  refine keeps_sessionOpenBody (hW.of rfl) ?_
  exact ht

theorem keeps_eventsBody {W : Nat} {a : State} {v0 : Sys2Proof.Req} {v1 : List Sys2Proof.Byte} {v2 : State} (hW : Sub 576 W) (hv2 : Keeps W a v2) :
    KeepsR W a (eventsBody v0 v1 v2) := by
  unfold eventsBody
  extract_lets -useContext -underBinder x0 x1
  refine KeepsR.doneThen ?_ ?_
  · exact hv2
  · intro t2 ht2
    refine Keeps.ite ?_ ?_
    · refine keeps_onTenant (hW.of rfl) ?_
      exact ht2
    · refine keeps_holdLast (hW.of rfl) ?_
      exact ht2

theorem keeps_cmdEvents {W : Nat} {a : State} (hW : Sub 576 W) :
    KeepsC W a (cmdEvents) := by
  unfold cmdEvents
  intro r p t ht
  dsimp only
  refine keeps_eventsBody (hW.of rfl) ?_
  exact ht

theorem keeps_authChallengeBody {W : Nat} {a : State} {v0 : Sys2Proof.Req} {v1 : List Sys2Proof.Byte} {v2 : State} (hW : Sub 514 W) (hv2 : Keeps W a v2) :
    KeepsR W a (authChallengeBody v0 v1 v2) := by
  unfold authChallengeBody
  refine KeepsR.ite ?_ ?_
  · refine keeps_refuse (hW.of rfl) ?_
    exact hv2
  · extract_lets -useContext -underBinder x0
    refine KeepsR.done ?_
    refine keeps_onTenant (hW.of rfl) ?_
    refine Keeps.upd_1 (hW.bit rfl) (Nat.le_add_right _ _) ?_
    exact hv2

theorem keeps_cmdAuthChallenge {W : Nat} {a : State} (hW : Sub 514 W) :
    KeepsC W a (cmdAuthChallenge) := by
  unfold cmdAuthChallenge
  intro r p t ht
  dsimp only
  refine keeps_authChallengeBody (hW.of rfl) ?_
  exact ht

theorem keeps_responsePosted {W : Nat} {a : State} {v0 : ℕ} {v1 : State} (hW : Sub 216048166358045284433738698354410220672922125453699347253061560006252 W) (hv1 : Keeps W a v1) :
    Keeps W a (responsePosted v0 v1) := by
  unfold responsePosted
  split
  · refine Keeps.ite ?_ ?_
    · extract_lets -useContext -underBinder x2
      have hx2 : Keeps W a x2 := by
        refine keeps_onTenant (hW.of rfl) ?_
        refine keeps_returnIf (hW.of rfl) ?_
        refine keeps_onPort (hW.of rfl) ?_
        exact hv1
      refine Keeps.ite ?_ ?_
      · refine keeps_closeSession (hW.of rfl) ?_
        exact hx2
      · exact hx2
    · exact hv1
  · exact hv1

theorem keeps_cmdTenantWrite {W : Nat} {a : State} (hW : Sub 12259964326927110866866816782021680772290760871973502980 W) :
    KeepsC W a (cmdTenantWrite) := by
  unfold cmdTenantWrite
  intro r p t ht
  dsimp only
  refine keeps_tenantWriteBody (hW.of rfl) ?_
  exact ht

theorem keeps_authLockoutEnd {W : Nat} {a : State} {v0 : ℕ} {v1 : State} (hW : Sub 512 W) (hv1 : Keeps W a v1) :
    Keeps W a (authLockoutEnd v0 v1) := by
  unfold authLockoutEnd
  refine keeps_onTenant (hW.of rfl) ?_
  exact hv1

end Sys2Proof.Machine
end

