-- ==== Sys2Proof/Laws/KeepsSeq.lean ====
section
/-! SUPPORT. What the operations of Machine/Seq.lean keep (`Keeps`): one lemma for each. -/

namespace Sys2Proof.Machine

set_option linter.unusedVariables false
set_option linter.unusedTactic false
set_option linter.unreachableTactic false

theorem keeps_countNoEffect {W : Nat} {a : State} {v0 : List ℕ} {v1 : State} (hW : Sub 46768052394588893382517914646921056628989841899520 W) (hv1 : Keeps W a v1) :
    Keeps W a (countNoEffect v0 v1) := by
  unfold countNoEffect
  refine Keeps.ite ?_ ?_
  · refine Keeps.upd_19 (hW.bit rfl) (by constructor <;> first | exact fun h => Bool.noConfusion ((hW.bit (by rfl)).symm.trans h) | exact fun _ => rfl | (intro _; split <;> rfl)) ?_
    exact hv1
  · exact hv1

theorem keeps_seqStatusBody {W : Nat} {a : State} {v0 : Sys2Proof.Req} {v1 : List Sys2Proof.Byte} {v2 : State} (hW : Sub 0 W) (hv2 : Keeps W a v2) :
    KeepsR W a (seqStatusBody v0 v1 v2) := by
  unfold seqStatusBody
  extract_lets -useContext -underBinder x0
  refine KeepsR.done ?_
  exact hv2

theorem keeps_unparkRail {W : Nat} {a : State} {v0 : Nat} {v1 : State} (hW : Sub 210624583337114373395836055367340864637944933306008895042993004544 W) (hv1 : Keeps W a v1) :
    ∀ t, unparkRail v0 v1 = some t → Keeps W a t := by
  intro t h
  have h1 := keeps_takeOcc (v0 := .unpark) (hW.of rfl) hv1
  unfold unparkRail at h
  split at h
  · cases h; exact hv1
  · simp only at h
    split at h
    · cases h; exact keeps_setSt (hW.of rfl) h1
    · split at h
      · cases h
      · split at h <;> (cases h; exact keeps_setSt (hW.of rfl) h1)

theorem keeps_railForceBody {W : Nat} {a : State} {v0 : Sys2Proof.Req} {v1 : List Sys2Proof.Byte} {v2 : State} (hW : Sub 216048166358045260113643538312603505662511539073462395005379954045548 W) (hv2 : Keeps W a v2) :
    KeepsR W a (railForceBody v0 v1 v2) := by
  unfold railForceBody
  extract_lets -useContext -underBinder x0 x1
  refine KeepsR.ite ?_ ?_
  · refine keeps_refuse (hW.of rfl) ?_
    exact hv2
  · refine KeepsR.ite ?_ ?_
    · refine keeps_refuse (hW.of rfl) ?_
      exact hv2
    · refine KeepsR.ite ?_ ?_
      · refine KeepsR.ite ?_ ?_
        · refine keeps_refuse (hW.of rfl) ?_
          exact hv2
        · refine KeepsR.done ?_
          refine keeps_bringPoll (hW.of rfl) ?_
          refine Keeps.ite ?_ ?_
          · refine keeps_setSt (hW.of rfl) ?_
            exact hv2
          · refine keeps_assertEn (hW.of rfl) ?_
            exact hv2
      · refine KeepsR.ite ?_ ?_
        · refine KeepsR.done ?_
          exact hv2
        · refine KeepsR.done ?_
          refine keeps_bringPoll (hW.of rfl) ?_
          refine keeps_disableRail (hW.of rfl) ?_
          exact hv2

theorem keeps_setPart {W : Nat} {a : State} {v0 : ℕ} {v1 : Option (ℕ × List Sys2Proof.Bytes)} {v2 : State} (hW : Sub 512 W) (hv2 : Keeps W a v2) :
    Keeps W a (setPart v0 v1 v2) := by
  unfold setPart
  refine keeps_onTenant (hW.of rfl) ?_
  exact hv2

theorem keeps_tableWriteBody {W : Nat} {a : State} {v0 : Sys2Proof.Req} {v1 : List Sys2Proof.Byte} {v2 : State} (hW : Sub 274081995180581554390085656490350629897559040524 W) (hv2 : Keeps W a v2) :
    KeepsR W a (tableWriteBody v0 v1 v2) := by
  unfold tableWriteBody
  extract_lets -useContext -underBinder x0 x1
  try clear_value x0
  try clear_value x1
  split
  · refine KeepsR.done ?_
    refine keeps_setPart (hW.of rfl) ?_
    exact hv2
  · refine KeepsR.ite ?_ ?_
    · refine KeepsR.done ?_
      refine keeps_setPart (hW.of rfl) ?_
      exact hv2
    · split
      · refine KeepsR.done ?_
        refine keeps_setPart (hW.of rfl) ?_
        exact hv2
      · extract_lets -useContext -underBinder x6 x7 x8 x9
        have hx6 : Keeps W a x6 := by
          refine keeps_setPart (hW.of rfl) ?_
          exact hv2
        have hx8 : Keeps W a x8.2 := by
          refine keeps_activate (hW.of rfl) ?_
          · exact hx6
        try clear_value x6
        try clear_value x8
        refine KeepsR.ite ?_ ?_
        · refine KeepsR.done ?_
          exact hx8
        · refine KeepsR.done ?_
          refine Keeps.upd_19 (hW.bit rfl) (by constructor <;> first | exact fun h => Bool.noConfusion ((hW.bit (by rfl)).symm.trans h) | exact fun _ => rfl | (intro _; split <;> rfl)) ?_
          exact hx6

theorem keeps_holdMargin {W : Nat} {a : State} {v0 : ℕ} {v1 : ℕ} {v2 : State} (hW : Sub 262144 W) (hv2 : Keeps W a v2) :
    Keeps W a (holdMargin v0 v1 v2) := by
  unfold holdMargin
  refine keeps_onRail (hW.of rfl) ?_
  exact hv2

theorem keeps_marginSetBody {W : Nat} {a : State} {v0 : Sys2Proof.Req} {v1 : List Sys2Proof.Byte} {v2 : State} (hW : Sub 154742504910672534362660864 W) (hv2 : Keeps W a v2) :
    KeepsR W a (marginSetBody v0 v1 v2) := by
  unfold marginSetBody
  extract_lets -useContext -underBinder x0 x1
  try clear_value x0
  try clear_value x1
  refine KeepsR.ite ?_ ?_
  · refine keeps_refuse (hW.of rfl) ?_
    exact hv2
  · refine KeepsR.ite ?_ ?_
    · refine keeps_refuse (hW.of rfl) ?_
      exact hv2
    · split
      · refine KeepsR.done ?_
        refine keeps_setMargin (hW.of rfl) ?_
        exact hv2
      · refine KeepsR.done ?_
        refine keeps_setMargin (hW.of rfl) ?_
        exact hv2
      · refine KeepsR.done ?_
        refine keeps_holdMargin (hW.of rfl) ?_
        exact hv2
      · refine keeps_refuse (hW.of rfl) ?_
        exact hv2

theorem keeps_cmdMarginSet {W : Nat} {a : State} (hW : Sub 154742504910672534362660864 W) :
    KeepsC W a (cmdMarginSet) := by
  unfold cmdMarginSet
  intro r p t ht
  dsimp only
  refine keeps_marginSetBody (hW.of rfl) ?_
  exact ht

theorem keeps_marginStatusBody {W : Nat} {a : State} {v0 : Sys2Proof.Req} {v1 : List Sys2Proof.Byte} {v2 : State} (hW : Sub 0 W) (hv2 : Keeps W a v2) :
    KeepsR W a (marginStatusBody v0 v1 v2) := by
  unfold marginStatusBody
  extract_lets -useContext -underBinder x0 x1
  refine KeepsR.done ?_
  exact hv2

theorem keeps_cmdMarginStatus {W : Nat} {a : State} (hW : Sub 0 W) :
    KeepsC W a (cmdMarginStatus) := by
  unfold cmdMarginStatus
  intro r p t ht
  dsimp only
  refine keeps_marginStatusBody (hW.of rfl) ?_
  exact ht

theorem keeps_delayElapsed {W : Nat} {a : State} {v0 : State} (hW : Sub 22835963083295358096932575511191922182124470272 W) (hv0 : Keeps W a v0) :
    Keeps W a (delayElapsed v0) := by
  unfold delayElapsed
  split
  · refine Keeps.ite ?_ ?_
    · refine keeps_advance (hW.of rfl) ?_
      exact hv0
    · exact hv0
  · exact hv0

theorem keeps_marginTickRail {W : Nat} {a : State} {v0 : State} {v1 : State} {v2 : ℕ} (hW : Sub 154742504910672534362665536 W) (hv0 : Keeps W a v0) (hv1 : Keeps W a v1) :
    Keeps W a (marginTickRail v0 v1 v2) := by
  unfold marginTickRail
  extract_lets -useContext -underBinder x0 x1 x2 x3
  have hx1 : Keeps W a x1 := by
    refine keeps_windowsFollow (hW.of rfl) ?_
    exact hv1
  have hx3 : Keeps W a x3 := by
    refine keeps_onRail (hW.of rfl) ?_
    exact hx1
  refine Keeps.ite ?_ ?_
  · refine keeps_post (hW.of rfl) ?_
    exact hx3
  · exact hx3

theorem keeps_stepMargin {W : Nat} {a : State} {v0 : State} (hW : Sub 22835963083295358097087318016102594716487131136 W) (hv0 : Keeps W a v0) :
    Keeps W a (stepMargin v0) := by
  unfold stepMargin
  split
  · extract_lets -useContext -underBinder x1 x2 x3 x4
    have hx4 : Keeps W a x4 := by
      refine Keeps.ite ?_ ?_
      · refine Keeps.ite ?_ ?_
        · refine keeps_setMargin (hW.of rfl) ?_
          exact hv0
        · refine Keeps.ite ?_ ?_
          · refine keeps_holdMargin (hW.of rfl) ?_
            exact hv0
          · exact hv0
      · exact hv0
    refine Keeps.ite ?_ ?_
    · refine keeps_advance (hW.of rfl) ?_
      exact hv0
    · refine Keeps.ite ?_ ?_
      · refine keeps_waitStep (hW.of rfl) ?_
        exact hx4
      · refine keeps_advance (hW.of rfl) ?_
        exact hx4
  · exact hv0

theorem keeps_dischargeOne {W : Nat} {a : State} {v0 : Bool} {v1 : State} {v2 : ℕ} (hW : Sub 262144 W) (hv1 : Keeps W a v1) :
    Keeps W a (dischargeOne v0 v1 v2) := by
  unfold dischargeOne
  refine Keeps.ite ?_ ?_
  · exact hv1
  · refine keeps_onRail (hW.of rfl) ?_
    exact hv1

theorem keeps_railStateBody {W : Nat} {a : State} {v0 : Sys2Proof.Req} {v1 : List Sys2Proof.Byte} {v2 : State} (hW : Sub 0 W) (hv2 : Keeps W a v2) :
    KeepsR W a (railStateBody v0 v1 v2) := by
  unfold railStateBody
  refine KeepsR.done ?_
  exact hv2

theorem keeps_joinRun {W : Nat} {a : State} {v0 : ℕ} {v1 : State} (hW : Sub 210624583337114379241842604690952537452684264171140973666723705408 W) (hv1 : Keeps W a v1) :
    Keeps W a (joinRun v0 v1) := by
  unfold joinRun
  refine Keeps.ite ?_ ?_
  · split
    · refine keeps_setSt (hW.of rfl) ?_
      exact hv1
    · refine Keeps.ite ?_ ?_
      · refine keeps_assertEn (hW.of rfl) ?_
        refine Keeps.upd_19 (hW.bit rfl) (by constructor <;> first | exact fun h => Bool.noConfusion ((hW.bit (by rfl)).symm.trans h) | exact fun _ => rfl | (intro _; split <;> rfl)) ?_
        exact hv1
      · exact hv1
  · exact hv1

theorem keeps_stepEnd {W : Nat} {a : State} {v0 : State} (hW : Sub 216048166358045284436661701629072026509249647984163036046912770765420 W) (hv0 : Keeps W a v0) :
    Keeps W a (stepEnd v0) := by
  unfold stepEnd
  split
  · refine keeps_finishRun (hW.of rfl) ?_
    exact hv0
  · exact hv0

theorem keeps_tableAbortBody {W : Nat} {a : State} {v0 : Sys2Proof.Req} {v1 : List Sys2Proof.Byte} {v2 : State} (hW : Sub 216048166358045284436661701629072026509249647984163036046912770765420 W) (hv2 : Keeps W a v2) :
    KeepsR W a (tableAbortBody v0 v1 v2) := by
  unfold tableAbortBody
  extract_lets -useContext -underBinder x0
  refine KeepsR.ite ?_ ?_
  · refine keeps_refuse (hW.of rfl) ?_
    exact hv2
  · refine KeepsR.ite ?_ ?_
    · refine keeps_refuse (hW.of rfl) ?_
      exact hv2
    · refine KeepsR.done ?_
      refine keeps_finishRun (hW.of rfl) ?_
      exact hv2

theorem keeps_stepDischarge {W : Nat} {a : State} {v0 : State} (hW : Sub 46790888357672188740614847222432248551171966107648 W) (hv0 : Keeps W a v0) :
    Keeps W a (stepDischarge v0) := by
  unfold stepDischarge
  split
  · extract_lets -useContext -underBinder x1 x2
    refine Keeps.ite ?_ ?_
    · refine keeps_advance (hW.of rfl) ?_
      refine Keeps.foldl (fun t3 y4 ht3 => ?_) ?_
      · refine keeps_dischargeOne (hW.of rfl) ?_
        exact ht3
      · refine keeps_countNoEffect (hW.of rfl) ?_
        exact hv0
    · refine keeps_advance (hW.of rfl) ?_
      refine Keeps.foldl (fun t5 y6 ht5 => ?_) ?_
      · refine keeps_dischargeOne (hW.of rfl) ?_
        exact ht5
      · exact hv0
  · exact hv0

theorem keeps_stepDisable {W : Nat} {a : State} {v0 : State} (hW : Sub 216048166358045260113666374275686801020608471648973586927562077991532 W) (hv0 : Keeps W a v0) :
    Keeps W a (stepDisable v0) := by
  unfold stepDisable
  split
  · refine keeps_bringPoll (hW.of rfl) ?_
    refine keeps_advance (hW.of rfl) ?_
    refine keeps_disableAll (hW.of rfl) ?_
    exact hv0
  · exact hv0

theorem keeps_parkRail {W : Nat} {a : State} {v0 : ℕ} {v1 : State} (hW : Sub 216048166358045260113643538312603505662511539073462395005379954045548 W) (hv1 : Keeps W a v1) :
    Keeps W a (parkRail v0 v1) := by
  unfold parkRail
  refine Keeps.ite ?_ ?_
  · exact hv1
  · refine keeps_bringPoll (hW.of rfl) ?_
    refine keeps_endJoin (hW.of rfl) ?_
    refine keeps_deassertEn (hW.of rfl) ?_
    exact hv1

theorem keeps_railParkBody {W : Nat} {a : State} {v0 : Sys2Proof.Req} {v1 : List Sys2Proof.Byte} {v2 : State} (hW : Sub 216048166358045260113643538312603505662511539073462395005379954045548 W) (hv2 : Keeps W a v2) :
    KeepsR W a (railParkBody v0 v1 v2) := by
  unfold railParkBody
  extract_lets -useContext -underBinder x0 x1
  try clear_value x0
  have hx1 : Keeps W a x1 := by
    refine keeps_parkRail (hW.of rfl) ?_
    exact hv2
  refine KeepsR.ite ?_ ?_
  · refine keeps_refuse (hW.of rfl) ?_
    exact hv2
  · refine KeepsR.ite ?_ ?_
    · refine keeps_refuse (hW.of rfl) ?_
      exact hv2
    · refine KeepsR.ite ?_ ?_
      · refine KeepsR.done ?_
        exact hx1
      · split
        · refine keeps_refuse (hW.of rfl) ?_
          exact hv2
        · rename_i p3 q4
          have hp5 : Keeps W a p3 := by
            refine keeps_unparkRail (hW.of rfl) ?_ _ q4
            · exact hv2
          refine KeepsR.done ?_
          exact hp5

theorem keeps_waitMet {W : Nat} {a : State} {v0 : State} (hW : Sub 93558940752261082123132761869353305180161807220736 W) (hv0 : Keeps W a v0) :
    Keeps W a (waitMet v0) := by
  unfold waitMet
  split
  · refine Keeps.ite ?_ ?_
    · refine Keeps.ite ?_ ?_
      · refine keeps_decideModule (hW.of rfl) ?_
        exact hv0
      · refine keeps_advance (hW.of rfl) ?_
        exact hv0
    · exact hv0
  · exact hv0

theorem keeps_reqEdge {W : Nat} {a : State} {v0 : ℕ} {v1 : Bool} {v2 : State} (hW : Sub 210624583337306319781882798751989219876247452869971173489898172992 W) (hv2 : Keeps W a v2) :
    Keeps W a (reqEdge v0 v1 v2) := by
  unfold reqEdge
  refine Keeps.ite ?_ ?_
  · extract_lets -useContext -underBinder x0 x1
    have hx1 : Keeps W a x1 := by
      unfold x1
      refine Keeps.upd_19 (hW.bit rfl) (by constructor <;> first | exact fun h => Bool.noConfusion ((hW.bit (by rfl)).symm.trans h) | exact fun _ => rfl | (intro _; split <;> rfl)) ?_
      exact hv2
    try clear_value x1
    split
    · exact hx1
    · refine Keeps.ite ?_ ?_
      · refine Keeps.upd_19 (hW.bit rfl) (by constructor <;> first | exact fun h => Bool.noConfusion ((hW.bit (by rfl)).symm.trans h) | exact fun _ => rfl | (intro _; split <;> rfl)) ?_
        exact hx1
      · refine keeps_actReq (hW.of rfl) ?_
        exact hx1
  · exact hv2

theorem keeps_stepEvent {W : Nat} {a : State} {v0 : State} (hW : Sub 22835963083295358097087318016102594716486873664 W) (hv0 : Keeps W a v0) :
    Keeps W a (stepEvent v0) := by
  unfold stepEvent
  split
  · refine keeps_advance (hW.of rfl) ?_
    refine keeps_post (hW.of rfl) ?_
    exact hv0
  · exact hv0

theorem keeps_stepIfModule {W : Nat} {a : State} {v0 : State} (hW : Sub 93558940752261082123132761869353305180161807220736 W) (hv0 : Keeps W a v0) :
    Keeps W a (stepIfModule v0) := by
  unfold stepIfModule
  split
  · refine Keeps.ite ?_ ?_
    · refine keeps_waitStep (hW.of rfl) ?_
      exact hv0
    · refine keeps_decideModule (hW.of rfl) ?_
      exact hv0
  · exact hv0

theorem keeps_stepWaitBelow {W : Nat} {a : State} {v0 : State} (hW : Sub 22835963083295358096932575511191922182124470272 W) (hv0 : Keeps W a v0) :
    Keeps W a (stepWaitBelow v0) := by
  unfold stepWaitBelow
  split
  · extract_lets -useContext -underBinder x1
    refine Keeps.ite ?_ ?_
    · refine keeps_advance (hW.of rfl) ?_
      exact hv0
    · refine keeps_waitStep (hW.of rfl) ?_
      exact hv0
  · exact hv0

theorem keeps_stepWaitPg {W : Nat} {a : State} {v0 : State} (hW : Sub 216048166358045284623733911207427600039321306571847262562872136266348 W) (hv0 : Keeps W a v0) :
    Keeps W a (stepWaitPg v0) := by
  unfold stepWaitPg
  split
  · extract_lets -useContext -underBinder x1
    refine Keeps.ite ?_ ?_
    · refine keeps_advance (hW.of rfl) ?_
      exact hv0
    · refine Keeps.ite ?_ ?_
      · refine keeps_timeoutAction (hW.of rfl) ?_
        exact hv0
      · refine keeps_waitStep (hW.of rfl) ?_
        exact hv0
  · exact hv0

theorem keeps_waitTimeout {W : Nat} {a : State} {v0 : State} (hW : Sub 216048166358045284717270015996605386804357135865689375820851819016812 W) (hv0 : Keeps W a v0) :
    Keeps W a (waitTimeout v0) := by
  unfold waitTimeout
  split
  · split
    · refine keeps_decideModule (hW.of rfl) ?_
      exact hv0
    · exact hv0
    · refine Keeps.ite ?_ ?_
      · exact hv0
      · refine keeps_timeoutAction (hW.of rfl) ?_
        exact hv0
    · refine keeps_timeoutAction (hW.of rfl) ?_
      exact hv0
  · exact hv0

theorem keeps_enableOne {W : Nat} {a : State} {v0 : State} {v1 : ℕ} (hW : Sub 210624583337114379264678567774247895549616839682332895848847651392 W) (hv0 : Keeps W a v0) :
    Keeps W a (enableOne v0 v1) := by
  unfold enableOne
  extract_lets -useContext -underBinder x0
  refine Keeps.ite ?_ ?_
  · exact hv0
  · refine keeps_onRun (hW.of rfl) ?_
    refine keeps_assertEn (hW.of rfl) ?_
    exact hv0

theorem keeps_stepEnable {W : Nat} {a : State} {v0 : State} (hW : Sub 210624583337114379264678567774247895549616839682332895848847651392 W) (hv0 : Keeps W a v0) :
    Keeps W a (stepEnable v0) := by
  unfold stepEnable
  split
  · refine keeps_advance (hW.of rfl) ?_
    refine Keeps.foldl (fun t1 y2 ht1 => ?_) ?_
    · refine keeps_enableOne (hW.of rfl) ?_
      exact ht1
    · exact hv0
  · exact hv0

theorem keeps_tableReadBody {W : Nat} {a : State} {v0 : Sys2Proof.Req} {v1 : List Sys2Proof.Byte} {v2 : State} (hW : Sub 0 W) (hv2 : Keeps W a v2) :
    KeepsR W a (tableReadBody v0 v1 v2) := by
  unfold tableReadBody
  extract_lets -useContext -underBinder x0 x1 x2 x3
  refine KeepsR.done ?_
  exact hv2

theorem keeps_stepWaitReq {W : Nat} {a : State} {v0 : State} (hW : Sub 22835963083295358096932575511191922182124470272 W) (hv0 : Keeps W a v0) :
    Keeps W a (stepWaitReq v0) := by
  unfold stepWaitReq
  split
  · refine keeps_waitStep (hW.of rfl) ?_
    exact hv0
  · exact hv0

theorem keeps_pgGood {W : Nat} {a : State} {v0 : ℕ} {v1 : Bool} {v2 : ℤ} {v3 : State} (hW : Sub 216048166358045260113643538312603505662511539073462395005379954045548 W) (hv3 : Keeps W a v3) :
    Keeps W a (pgGood v0 v1 v2 v3) := by
  unfold pgGood
  refine Keeps.ite ?_ ?_
  · extract_lets -useContext -underBinder x0
    have hx0 : Keeps W a x0 := by
      refine keeps_onRail (hW.of rfl) ?_
      refine keeps_seePg (hW.of rfl) ?_
      exact hv3
    refine keeps_bringPoll (hW.of rfl) ?_
    refine Keeps.ite ?_ ?_
    · refine keeps_reachOn (hW.of rfl) ?_
      exact hx0
    · exact hx0
  · exact hv3

theorem keeps_cmdTableAbort {W : Nat} {a : State} (hW : Sub 216048166358045284436661701629072026509249647984163036046912770765420 W) :
    KeepsC W a (cmdTableAbort) := by
  unfold cmdTableAbort
  intro r p t ht
  dsimp only
  refine keeps_tableAbortBody (hW.of rfl) ?_
  exact ht

theorem keeps_railBelowOff {W : Nat} {a : State} {v0 : ℕ} {v1 : ℤ} {v2 : State} (hW : Sub 216048166358045284436661701629072026509249647984163036046912770765420 W) (hv2 : Keeps W a v2) :
    Keeps W a (railBelowOff v0 v1 v2) := by
  unfold railBelowOff
  extract_lets -useContext -underBinder x0 x1
  have hx1 : Keeps W a x1 := by
    refine keeps_onRail (hW.of rfl) ?_
    exact hv2
  refine Keeps.ite ?_ ?_
  · refine keeps_unwindPoll (hW.of rfl) ?_
    refine keeps_fellBelow (hW.of rfl) ?_
    exact hx1
  · refine Keeps.ite ?_ ?_
    · refine keeps_setSt (hW.of rfl) ?_
      exact hx1
    · exact hx1

theorem keeps_tableRunBody {W : Nat} {a : State} {v0 : Sys2Proof.Req} {v1 : List Sys2Proof.Byte} {v2 : State} (hW : Sub 210624583337306315397377886759280465265192954721122114522100544064 W) (hv2 : Keeps W a v2) :
    KeepsR W a (tableRunBody v0 v1 v2) := by
  unfold tableRunBody
  extract_lets -useContext -underBinder x0
  refine KeepsR.ite ?_ ?_
  · refine keeps_refuse (hW.of rfl) ?_
    exact hv2
  · refine KeepsR.ite ?_ ?_
    · refine keeps_refuse (hW.of rfl) ?_
      exact hv2
    · refine KeepsR.ite ?_ ?_
      · refine keeps_refuse (hW.of rfl) ?_
        exact hv2
      · refine KeepsR.done ?_
        refine keeps_engineStart (hW.of rfl) ?_
        exact hv2

theorem keeps_cmdTableRun {W : Nat} {a : State} (hW : Sub 210624583337306315397377886759280465265192954721122114522100544064 W) :
    KeepsC W a (cmdTableRun) := by
  unfold cmdTableRun
  intro r p t ht
  dsimp only
  refine keeps_tableRunBody (hW.of rfl) ?_
  exact ht

theorem keeps_marginLoopTick {W : Nat} {a : State} {v0 : State} (hW : Sub 154742504910672534362665536 W) (hv0 : Keeps W a v0) :
    Keeps W a (marginLoopTick v0) := by
  unfold marginLoopTick
  refine Keeps.ite ?_ ?_
  · refine Keeps.foldl (fun t0 y1 ht0 => ?_) ?_
    · refine keeps_marginTickRail (hW.of rfl) ?_ ?_
      · exact hv0
      · exact ht0
    · refine keeps_takeOcc (hW.of rfl) ?_
      exact hv0
  · exact hv0

theorem keeps_boundEnds {W : Nat} {a : State} {v0 : ℕ} {v1 : ℕ} {v2 : State} (hW : Sub 216048166358045284623733911207427600039321306571847262562872136266348 W) (hv2 : Keeps W a v2) :
    Keeps W a (boundEnds v0 v1 v2) := by
  unfold boundEnds
  split
  · refine Keeps.ite ?_ ?_
    · refine keeps_timeoutAction (hW.of rfl) ?_
      exact hv2
    · exact hv2
  · exact hv2

theorem keeps_stepSetOut {W : Nat} {a : State} {v0 : State} (hW : Sub 388211372416021087647853783690262677096107606016 W) (hv0 : Keeps W a v0) :
    Keeps W a (stepSetOut v0) := by
  unfold stepSetOut
  split
  · extract_lets -useContext -underBinder x1 x2
    refine keeps_advance (hW.of rfl) ?_
    refine keeps_onRun (hW.of rfl) ?_
    refine keeps_setOut (hW.of rfl) ?_
    exact hv0
  · exact hv0

theorem keeps_cmdSeqStatus {W : Nat} {a : State} (hW : Sub 0 W) :
    KeepsC W a (cmdSeqStatus) := by
  unfold cmdSeqStatus
  intro r p t ht
  dsimp only
  refine keeps_seqStatusBody (hW.of rfl) ?_
  exact ht

theorem keeps_cmdTableRead {W : Nat} {a : State} (hW : Sub 0 W) :
    KeepsC W a (cmdTableRead) := by
  unfold cmdTableRead
  intro r p t ht
  dsimp only
  refine keeps_tableReadBody (hW.of rfl) ?_
  exact ht

theorem keeps_cmdRailPark {W : Nat} {a : State} (hW : Sub 216048166358045260113643538312603505662511539073462395005379954045548 W) :
    KeepsC W a (cmdRailPark) := by
  unfold cmdRailPark
  intro r p t ht
  dsimp only
  refine keeps_railParkBody (hW.of rfl) ?_
  exact ht

theorem keeps_cmdRailState {W : Nat} {a : State} (hW : Sub 0 W) :
    KeepsC W a (cmdRailState) := by
  unfold cmdRailState
  intro r p t ht
  dsimp only
  refine keeps_railStateBody (hW.of rfl) ?_
  exact ht

theorem keeps_stepDelay {W : Nat} {a : State} {v0 : State} (hW : Sub 22835963083295358096932575511191922182124470272 W) (hv0 : Keeps W a v0) :
    Keeps W a (stepDelay v0) := by
  unfold stepDelay
  split
  · refine keeps_waitStep (hW.of rfl) ?_
    exact hv0
  · exact hv0

theorem keeps_cmdRailForce {W : Nat} {a : State} (hW : Sub 216048166358045260113643538312603505662511539073462395005379954045548 W) :
    KeepsC W a (cmdRailForce) := by
  unfold cmdRailForce
  intro r p t ht
  dsimp only
  refine keeps_railForceBody (hW.of rfl) ?_
  exact ht

theorem keeps_cmdTableWrite {W : Nat} {a : State} (hW : Sub 274081995180581554390085656490350629897559040524 W) :
    KeepsC W a (cmdTableWrite) := by
  unfold cmdTableWrite
  intro r p t ht
  dsimp only
  refine keeps_tableWriteBody (hW.of rfl) ?_
  exact ht

end Sys2Proof.Machine
end

