-- ==== Sys2Proof/Laws/KeepsSupervise.lean ====
section
/-! SUPPORT. What the operations of Machine/Supervise.lean keep (`Keeps`): one lemma for each. -/

namespace Sys2Proof.Machine

set_option linter.unusedVariables false
set_option linter.unusedTactic false
set_option linter.unreachableTactic false

theorem keeps_faultStatusBody {W : Nat} {a : State} {v0 : Sys2Proof.Req} {v1 : List Sys2Proof.Byte} {v2 : State} (hW : Sub 0 W) (hv2 : Keeps W a v2) :
    KeepsR W a (faultStatusBody v0 v1 v2) := by
  unfold faultStatusBody
  extract_lets -useContext -underBinder x0 x1
  refine KeepsR.done ?_
  exact hv2

theorem keeps_cmdFaultStatus {W : Nat} {a : State} (hW : Sub 0 W) :
    KeepsC W a (cmdFaultStatus) := by
  unfold cmdFaultStatus
  intro r p t ht
  dsimp only
  refine keeps_faultStatusBody (hW.of rfl) ?_
  exact ht

theorem keeps_recordVerify {W : Nat} {a : State} {v0 : Sys2Proof.Machine.Verify} {v1 : ℤ} {v2 : State} (hW : Sub 3741444191567111470601433171753684530319187311067136 W) (hv2 : Keeps W a v2) :
    Keeps W a (recordVerify v0 v1 v2) := by
  unfold recordVerify
  refine Keeps.upd_20 (hW.bit rfl) (by constructor <;> first | exact fun h => Bool.noConfusion ((hW.bit (by rfl)).symm.trans h) | exact fun _ => rfl | (intro _; split <;> rfl)) ?_
  exact hv2

theorem keeps_faultVerifyResult {W : Nat} {a : State} {v0 : ℕ} {v1 : ℤ} {v2 : State} (hW : Sub 39492109375724659077323842249552938138907026250233257307078131712 W) (hv2 : Keeps W a v2) :
    Keeps W a (faultVerifyResult v0 v1 v2) := by
  unfold faultVerifyResult
  split
  · exact hv2
  · refine Keeps.ite ?_ ?_
    · exact hv2
    · extract_lets -useContext -underBinder x3 x4
      have hx4 : Keeps W a x4 := by
        unfold x4
        refine keeps_countDone (hW.of rfl) ?_
        refine Keeps.upd_20 (hW.bit rfl) (by constructor <;> first | exact fun h => Bool.noConfusion ((hW.bit (by rfl)).symm.trans h) | exact fun _ => rfl | (intro _; split <;> rfl)) ?_
        exact hv2
      refine Keeps.ite ?_ ?_
      · refine keeps_recordVerify (hW.of rfl) ?_
        exact hx4
      · exact hx4

theorem keeps_reportOne {W : Nat} {a : State} {v0 : State} {v1 : Sys2Proof.Machine.Report} (hW : Sub 5986310756945559390219509756550927191687143850472012 W) (hv0 : Keeps W a v0) :
    Keeps W a (reportOne v0 v1) := by
  unfold reportOne
  extract_lets -useContext -underBinder x0 x1 x2 x3
  have hx0 : Keeps W a x0 := by
    refine keeps_postDeferred (hW.of rfl) ?_
    exact hv0
  try clear_value x0
  refine Keeps.ite ?_ ?_
  · refine Keeps.upd_20 (hW.bit rfl) (by constructor <;> first | exact fun h => Bool.noConfusion ((hW.bit (by rfl)).symm.trans h) | exact fun _ => rfl | (intro _; split <;> rfl)) ?_
    exact hx0
  · refine keeps_logRecordAt (hW.of rfl) ?_
    refine Keeps.upd_20 (hW.bit rfl) (by constructor <;> first | exact fun h => Bool.noConfusion ((hW.bit (by rfl)).symm.trans h) | exact fun _ => rfl | (intro _; split <;> rfl)) ?_
    exact hx0

theorem keeps_reportAll {W : Nat} {a : State} {v0 : State} (hW : Sub 8979466110199248566700656293953874815942493698486860 W) (hv0 : Keeps W a v0) :
    Keeps W a (reportAll v0) := by
  unfold reportAll
  refine Keeps.foldl (fun t0 y1 ht0 => ?_) ?_
  · refine keeps_reportOne (hW.of rfl) ?_
    exact ht0
  · refine Keeps.upd_20 (hW.bit rfl) (by constructor <;> first | exact fun h => Bool.noConfusion ((hW.bit (by rfl)).symm.trans h) | exact fun _ => rfl | (intro _; split <;> rfl)) ?_
    exact hv0

theorem keeps_takeCode {W : Nat} {a : State} {v0 : List Int} {v1 : State} (hW : Sub 2 W)
    (hv1 : Keeps W a v1) : Keeps W a (takeCode v0 v1).2.2 := by
  cases v0 with
  | nil => exact keeps_drawFree (hW.of rfl) hv1
  | cons c cs => exact hv1

theorem keeps_seeFast {W : Nat} {a : State} {v0 : ℕ} {v1 : ℤ} {v2 : State} (hW : Sub 262144 W) (hv2 : Keeps W a v2) :
    Keeps W a (seeFast v0 v1 v2) := by
  unfold seeFast
  extract_lets -useContext -underBinder x0 x1
  refine keeps_onRail (hW.of rfl) ?_
  refine keeps_seeSense (hW.of rfl) ?_
  exact hv2

theorem keeps_faultRetry {W : Nat} {a : State} {v0 : ℕ} {v1 : ℤ} {v2 : State} (hW : Sub 210624583337114379241842604690952537452684264171140973666723705408 W) (hv2 : Keeps W a v2) :
    Keeps W a (faultRetry v0 v1 v2) := by
  unfold faultRetry
  extract_lets -useContext -underBinder x0 x1
  have hx0 : Keeps W a x0 := by
    refine keeps_seeFast (hW.of rfl) ?_
    exact hv2
  refine Keeps.ite ?_ ?_
  · refine keeps_assertEn (hW.of rfl) ?_
    refine keeps_onRail (hW.of rfl) ?_
    exact hx0
  · exact hx0

theorem keeps_faultReport {W : Nat} {a : State} {v0 : State} (hW : Sub 8979466110199248566700656293953874815942493698486860 W) (hv0 : Keeps W a v0) :
    Keeps W a (faultReport v0) := by
  unfold faultReport
  split
  · exact hv0
  · refine Keeps.ite ?_ ?_
    · refine keeps_reportOne (hW.of rfl) ?_
      refine Keeps.upd_20 (hW.bit rfl) (by constructor <;> first | exact fun h => Bool.noConfusion ((hW.bit (by rfl)).symm.trans h) | exact fun _ => rfl | (intro _; split <;> rfl)) ?_
      exact hv0
    · exact hv0

theorem keeps_restartDetector {W : Nat} {a : State} {v0 : State} {v1 : Sys2Proof.Machine.Latch} (hW : Sub 32592575621351777380295131014550050578930675667345577190420974352001775923689153592005230592 W) (hv0 : Keeps W a v0) :
    Keeps W a (restartDetector v0 v1) := by
  unfold restartDetector
  extract_lets -useContext -underBinder x0 x3
  have hx0 : Keeps W a x0 := by
    refine Keeps.foldl (fun t1 y2 ht1 => ?_) ?_
    · refine keeps_onRail (hW.of rfl) ?_
      exact ht1
    · exact hv0
  have hx3 : Keeps W a x3 := by
    refine keeps_onRail (hW.of rfl) ?_
    exact hx0
  try clear_value x0
  try clear_value x3
  refine Keeps.ite ?_ ?_
  · refine Keeps.ite ?_ ?_
    · refine keeps_restartOc (hW.of rfl) ?_
      exact hx3
    · exact hx3
  · split
    · refine keeps_restartOc (hW.of rfl) ?_
      exact hx0
    · refine Keeps.upd_20 (hW.bit rfl) (by constructor <;> first | exact fun h => Bool.noConfusion ((hW.bit (by rfl)).symm.trans h) | exact fun _ => rfl | (intro _; split <;> rfl)) ?_
      exact hx0
    · refine Keeps.upd_26 (hW.bit rfl) (by constructor <;> first | exact fun h => Bool.noConfusion ((hW.bit (by rfl)).symm.trans h) | exact fun _ => rfl | (intro _; split <;> rfl)) ?_
      exact hx0
    · refine Keeps.upd_20 (hW.bit rfl) (by constructor <;> first | exact fun h => Bool.noConfusion ((hW.bit (by rfl)).symm.trans h) | exact fun _ => rfl | (intro _; split <;> rfl)) ?_
      exact hx0
    · exact hx0

theorem keeps_thawRail {W : Nat} {a : State} {v0 : State} {v1 : ℕ} (hW : Sub 262144 W) (hv0 : Keeps W a v0) :
    Keeps W a (thawRail v0 v1) := by
  unfold thawRail
  refine Keeps.ite ?_ ?_
  · refine keeps_onRail (hW.of rfl) ?_
    exact hv0
  · exact hv0

theorem keeps_releaseRail {W : Nat} {a : State} {v0 : State} {v1 : ℕ} (hW : Sub 210624583337305935338444291474635658016183979449050564898904604672 W) (hv0 : Keeps W a v0) :
    Keeps W a (releaseRail v0 v1) := by
  unfold releaseRail
  refine keeps_setSt (hW.of rfl) ?_
  refine keeps_restartOc (hW.of rfl) ?_
  refine keeps_onRail (hW.of rfl) ?_
  exact hv0

theorem keeps_clearLatches {W : Nat} {a : State} {v0 : Sys2Proof.Machine.Latch → Bool} {v1 : State} (hW : Sub 32592575621351777380295347062716408624025417477616623466926053517349336529844050892855145068 W) (hv1 : Keeps W a v1) :
    Keeps W a (clearLatches v0 v1) := by
  unfold clearLatches
  extract_lets -useContext -underBinder x0 x1 x2 x3 x4 x7 x10 x11 x14 x15
  have hx3 : Keeps W a x3 := by
    unfold x3
    refine Keeps.upd_20 (hW.bit rfl) (by constructor <;> first | exact fun h => Bool.noConfusion ((hW.bit (by rfl)).symm.trans h) | exact fun _ => rfl | (intro _; split <;> rfl)) ?_
    exact hv1
  have hx4 : Keeps W a x4 := by
    refine Keeps.foldl (fun t5 y6 ht5 => ?_) ?_
    · refine keeps_restartDetector (hW.of rfl) ?_
      exact ht5
    · exact hx3
  have hx7 : Keeps W a x7 := by
    refine Keeps.foldl (fun t8 y9 ht8 => ?_) ?_
    · refine keeps_thawRail (hW.of rfl) ?_
      exact ht8
    · exact hx4
  have hx11 : Keeps W a x11 := by
    refine Keeps.foldl (fun t12 y13 ht12 => ?_) ?_
    · refine keeps_releaseRail (hW.of rfl) ?_
      exact ht12
    · exact hx7
  have hx15 : Keeps W a x15 := by
    unfold x15
    try clear_value x3
    try clear_value x4
    try clear_value x7
    try clear_value x11
    refine Keeps.ite ?_ ?_
    · refine Keeps.upd_20 (hW.bit rfl) (by constructor <;> first | exact fun h => Bool.noConfusion ((hW.bit (by rfl)).symm.trans h) | exact fun _ => rfl | (intro _; split <;> rfl)) ?_
      exact hx11
    · exact hx11
  refine Keeps.ite ?_ ?_
  · refine keeps_startBringUp (hW.of rfl) ?_
    exact hx15
  · exact hx15

theorem keeps_faultClearBody {W : Nat} {a : State} {v0 : Sys2Proof.Req} {v1 : List Sys2Proof.Byte} {v2 : State} (hW : Sub 32592575621351777380295347062716408624025417477616623466926053517349336529844050892855145068 W) (hv2 : Keeps W a v2) :
    KeepsR W a (faultClearBody v0 v1 v2) := by
  unfold faultClearBody
  extract_lets -useContext -underBinder x0 x1
  refine KeepsR.done ?_
  refine keeps_clearLatches (hW.of rfl) ?_
  exact hv2

theorem keeps_senseConvert {W : Nat} {a : State} {v0 : ℕ} {v1 : ℤ} {v2 : State} (hW : Sub 934646588558445031944022495692575086830193971679873362382018314240 W) (hv2 : Keeps W a v2) :
    Keeps W a (senseConvert v0 v1 v2).2 := by
  unfold senseConvert
  split
  · rename_i p0 p1 q2
    have hp3 : Keeps W a p1 := Keeps.ofEq2 q2 (by
      refine keeps_urgent (hW.of rfl) ?_
      · exact hv2)
    try dsimp only
    refine keeps_countDone (hW.of rfl) ?_
    exact hp3
  · rename_i p4 q5
    have hp6 : Keeps W a p4 := Keeps.ofEq2 q5 (by
      refine keeps_urgent (hW.of rfl) ?_
      · exact hv2)
    try dsimp only
    exact hp6

theorem keeps_senseCheckRail {W : Nat} {a : State} {v0 : ℕ} {v1 : ℤ} {v2 : ℤ} {v3 : State} (hW : Sub 218615307934772124422363036863369085037128608398266618049119664436846 W) (hv3 : Keeps W a v3) :
    Keeps W a (senseCheckRail v0 v1 v2 v3).2 := by
  unfold senseCheckRail
  split
  · rename_i p0 p1 q2
    have hp3 : Keeps W a p1 := Keeps.ofEq2 q2 (by
      refine keeps_senseConvert (hW.of rfl) ?_
      · exact hv3)
    split
    · rename_i p4 p5 q6
      have hp7 : Keeps W a p5 := Keeps.ofEq2 q6 (by
        refine keeps_senseConvert (hW.of rfl) ?_
        · exact hp3)
      split
      · try dsimp only
        refine keeps_raiseRail (hW.of rfl) ?_
        exact hp7
      · try dsimp only
        exact hp7

theorem keeps_faultnPulseEnd {W : Nat} {a : State} {v0 : State} (hW : Sub 47890485652059026823698344598447161988085597569286144 W) (hv0 : Keeps W a v0) :
    Keeps W a (faultnPulseEnd v0) := by
  unfold faultnPulseEnd
  refine Keeps.upd_20 (hW.bit rfl) (by constructor <;> first | exact fun h => Bool.noConfusion ((hW.bit (by rfl)).symm.trans h) | exact fun _ => rfl | (intro _; split <;> rfl)) ?_
  exact hv0

theorem keeps_senseRound {W : Nat} {a : State} {v0 : List (ℕ × ℤ × ℤ)} {v1 : State} {v2 : ℕ} (hW : Sub 218615307934772124422363036863369085037128608398266618049119664436846 W) (hv1 : Keeps W a v1) :
    Keeps W a (senseRound v0 v1 v2) := by
  unfold senseRound
  refine Keeps.ite ?_ ?_
  · extract_lets -useContext -underBinder x0
    try clear_value x0
    split
    · rename_i p1 p2 p3 q4
      have hp5 : Keeps W a p3 := Keeps.ofEq5 q4 (by
        refine keeps_takeCode (hW.of rfl) ?_
        · exact hv1)
      split
      · rename_i p6 p7 p8 q9
        have hp10 : Keeps W a p8 := Keeps.ofEq5 q9 (by
          refine keeps_takeCode (hW.of rfl) ?_
          · exact hp5)
        refine keeps_senseCheckRail (hW.of rfl) ?_
        · exact hp10
  · exact hv1

theorem keeps_senseScan {W : Nat} {a : State} {v0 : Nat} {v1 : List Nat} {v2 : SenseScan} {v3 : State} (hW : Sub 218615307934772124422363036863369085037128608398266618049119664436846 W)
    (hv3 : Keeps W a v3) : Keeps W a (senseScan v0 v1 v2 v3).2 := by
  induction v1 generalizing v2 v3 with
  | nil => exact hv3
  | cons r rs ih =>
    unfold senseScan
    refine Keeps.ite2 (ih hv3) (Keeps.ite2 (ih hv3) ?_)
    split
    rename_i c1 e1 s1 h1
    have k1 := Keeps.ofEq5 h1 (keeps_takeCode (hW.of rfl) hv3)
    split
    rename_i c2 e2 s2 h2
    have k2 := Keeps.ofEq5 h2 (keeps_takeCode (hW.of rfl) k1)
    extract_lets p a1
    have h3 : Keeps W a p.2 := keeps_senseCheckRail (hW.of rfl) k2
    exact Keeps.ite2 h3 (ih h3)

theorem keeps_senseCheckBody {W : Nat} {a : State} {v0 : Sys2Proof.Req} {v1 : List Sys2Proof.Byte} {v2 : State} (hW : Sub 218615307934772124422363036863369085037128608398266618049119664436846 W) (hv2 : Keeps W a v2) :
    KeepsR W a (senseCheckBody v0 v1 v2) := by
  unfold senseCheckBody
  extract_lets -useContext -underBinder x0
  have hx0 : Keeps W a x0.2 := by
    refine keeps_senseScan (hW.of rfl) ?_
    · exact hv2
  refine KeepsR.ite ?_ ?_
  · refine KeepsR.done ?_
    exact hx0
  · refine KeepsR.done ?_
    exact hx0

theorem keeps_cmdSenseCheck {W : Nat} {a : State} (hW : Sub 218615307934772124422363036863369085037128608398266618049119664436846 W) :
    KeepsC W a (cmdSenseCheck) := by
  unfold cmdSenseCheck
  intro r p t ht
  dsimp only
  refine keeps_senseCheckBody (hW.of rfl) ?_
  exact ht

theorem keeps_cmdFaultClear {W : Nat} {a : State} (hW : Sub 32592575621351777380295347062716408624025417477616623466926053517349336529844050892855145068 W) :
    KeepsC W a (cmdFaultClear) := by
  unfold cmdFaultClear
  intro r p t ht
  dsimp only
  refine keeps_faultClearBody (hW.of rfl) ?_
  exact ht

theorem keeps_retryCountReset {W : Nat} {a : State} {v0 : ℕ} {v1 : State} (hW : Sub 262144 W) (hv1 : Keeps W a v1) :
    Keeps W a (retryCountReset v0 v1) := by
  unfold retryCountReset
  refine Keeps.ite ?_ ?_
  · refine keeps_onRail (hW.of rfl) ?_
    exact hv1
  · exact hv1

theorem keeps_senseCheckPeriodic {W : Nat} {a : State} {v0 : List (ℕ × ℤ × ℤ)} {v1 : State} (hW : Sub 218615307934775189413444768641085801731182909016633855527364031641198 W) (hv1 : Keeps W a v1) :
    Keeps W a (senseCheckPeriodic v0 v1) := by
  unfold senseCheckPeriodic
  refine Keeps.ite ?_ ?_
  · exact hv1
  · extract_lets -useContext -underBinder x0 x1
    have hx1 : Keeps W a x1 := by
      unfold x1
      refine keeps_takeOcc (hW.of rfl) ?_
      refine Keeps.upd_20 (hW.bit rfl) (by constructor <;> first | exact fun h => Bool.noConfusion ((hW.bit (by rfl)).symm.trans h) | exact fun _ => rfl | (intro _; split <;> rfl)) ?_
      exact hv1
    refine Keeps.ite ?_ ?_
    · exact hx1
    · refine Keeps.foldl (fun t2 y3 ht2 => ?_) ?_
      · refine keeps_senseRound (hW.of rfl) ?_
        exact ht2
      · exact hx1

end Sys2Proof.Machine
end

