-- ==== Sys2Proof/Laws/KeepsMeasure.lean ====
section
/-! SUPPORT. What the operations of Machine/Measure.lean keep (`Keeps`): one lemma for each. -/

namespace Sys2Proof.Machine

set_option linter.unusedVariables false
set_option linter.unusedTactic false
set_option linter.unreachableTactic false

theorem keeps_putControl {W : Nat} {a : State} {v0 : ℕ} {v1 : State} (hW : Sub 6254707626778948432362747500188554316283817660771917726288571956994052 W) (hv1 : Keeps W a v1) :
    Keeps W a (putControl v0 v1) := by
  unfold putControl
  extract_lets -useContext -underBinder x0
  refine keeps_bankBytes (hW.of rfl) ?_
  refine keeps_bankBytes (hW.of rfl) ?_
  refine keeps_arbitrate (hW.of rfl) ?_
  exact hv1

theorem keeps_setDropping {W : Nat} {a : State} {v0 : ℕ} {v1 : Bool} {v2 : State} (hW : Sub 6254812939070616989549445418216237986716136555867318275399826276360196 W) (hv2 : Keeps W a v2) :
    Keeps W a (setDropping v0 v1 v2) := by
  unfold setDropping
  refine Keeps.ite ?_ ?_
  · exact hv2
  · refine keeps_putControl (hW.of rfl) ?_
    refine keeps_onRing (hW.of rfl) ?_
    exact hv2

theorem keeps_calSettle {W : Nat} {a : State} {v0 : State} (hW : Sub 210624583337114373395836055367340864637944933306008895042992748096 W) (hv0 : Keeps W a v0) :
    Keeps W a (calSettle v0) := by
  unfold calSettle
  split
  · exact hv0
  · split
    · exact hv0
    · refine Keeps.ite ?_ ?_
      · exact hv0
      · refine keeps_completeOp (hW.of rfl) ?_
        refine keeps_postOwn (hW.of rfl) ?_
        refine Keeps.upd_23 (hW.bit rfl) (by constructor <;> first | exact fun h => Bool.noConfusion ((hW.bit (by rfl)).symm.trans h) | exact fun _ => rfl | (intro _; split <;> rfl)) ?_
        exact hv0

theorem keeps_settleChannels {W : Nat} {a : State} {v0 : State} (hW : Sub 210624583337114373395836055367340864637944933306008895042992748096 W) (hv0 : Keeps W a v0) :
    Keeps W a (settleChannels v0) := by
  unfold settleChannels
  extract_lets -useContext -underBinder x0
  refine keeps_calSettle (hW.of rfl) ?_
  refine keeps_takeUp (hW.of rfl) ?_
  exact hv0

theorem keeps_halt {W : Nat} {a : State} {v0 : ℕ} {v1 : State} (hW : Sub 263280729171392966744795069209176080797392481006283450670148236864 W) (hv1 : Keeps W a v1) :
    Keeps W a (halt v0 v1) := by
  unfold halt
  refine keeps_settleChannels (hW.of rfl) ?_
  refine keeps_onSeq (hW.of rfl) ?_
  exact hv1

theorem keeps_ringSync {W : Nat} {a : State} {v0 : ℕ} {v1 : State} (hW : Sub 105312291668557186697918027683670432318895095400549111254319366144 W) (hv1 : Keeps W a v1) :
    Keeps W a (ringSync v0 v1) := by
  unfold ringSync
  extract_lets -useContext -underBinder x0
  refine keeps_onRing (hW.of rfl) ?_
  exact hv1

theorem keeps_slowTake {W : Nat} {a : State} {v0 : ℕ} {v1 : State} (hW : Sub 191561942608236107294793378548531152863014924636659712 W) (hv1 : Keeps W a v1) :
    Keeps W a (slowTake v0 v1) := by
  unfold slowTake
  extract_lets -useContext -underBinder x0 x1
  have hx1 : Keeps W a x1 := by
    refine keeps_onRail (hW.of rfl) ?_
    refine keeps_takeOccAt (hW.of rfl) ?_
    exact hv1
  refine Keeps.ite ?_ ?_
  · refine keeps_restartOc (hW.of rfl) ?_
    exact hx1
  · exact hx1

theorem keeps_modeApply {W : Nat} {a : State} {v0 : ℕ} {v1 : State} (hW : Sub 263280729171392966744795069209176080797392481006283450670148236864 W) (hv1 : Keeps W a v1) :
    Keeps W a (modeApply v0 v1) := by
  unfold modeApply
  extract_lets -useContext -underBinder x0 x1 x2 x3
  have hx1 : Keeps W a x1 := by
    refine keeps_takeUp (hW.of rfl) ?_
    exact hv1
  have hx3 : Keeps W a x3 := by
    refine keeps_onSeq (hW.of rfl) ?_
    exact hx1
  refine Keeps.ite ?_ ?_
  · refine Keeps.ite ?_ ?_
    · refine keeps_halt (hW.of rfl) ?_
      exact hx3
    · exact hx3
  · exact hv1

theorem keeps_afterFrame {W : Nat} {a : State} {v0 : ℕ} {v1 : State} (hW : Sub 263280729171392966744795069209176080797392481006283450670148236864 W) (hv1 : Keeps W a v1) :
    Keeps W a (afterFrame v0 v1) := by
  unfold afterFrame
  extract_lets -useContext -underBinder x0
  refine Keeps.ite ?_ ?_
  · exact hv1
  · refine Keeps.ite ?_ ?_
    · refine keeps_halt (hW.of rfl) ?_
      exact hv1
    · refine keeps_modeApply (hW.of rfl) ?_
      exact hv1

theorem keeps_frameCut {W : Nat} {a : State} {v0 : ℕ} {v1 : State} (hW : Sub 302772838547101911756514329590552492916978141781489367390514853440 W) (hv1 : Keeps W a v1) :
    Keeps W a (frameCut v0 v1) := by
  unfold frameCut
  extract_lets -useContext -underBinder x0
  refine Keeps.ite ?_ ?_
  · exact hv1
  · refine keeps_afterFrame (hW.of rfl) ?_
    refine keeps_onSeq (hW.of rfl) ?_
    refine keeps_countDrop (hW.of rfl) ?_
    exact hv1

theorem keeps_stopSeq {W : Nat} {a : State} {v0 : State} {v1 : ℕ} (hW : Sub 263280729171392966744795069209176080797392481006283450670148236864 W) (hv0 : Keeps W a v0) :
    Keeps W a (stopSeq v0 v1) := by
  unfold stopSeq
  refine Keeps.ite ?_ ?_
  · refine keeps_halt (hW.of rfl) ?_
    exact hv0
  · refine keeps_onSeq (hW.of rfl) ?_
    exact hv0

theorem keeps_seqStopBody {W : Nat} {a : State} {v0 : Sys2Proof.Req} {v1 : List Sys2Proof.Byte} {v2 : State} (hW : Sub 263280729171392966744795069209176080797392481006283450670148236864 W) (hv2 : Keeps W a v2) :
    KeepsR W a (seqStopBody v0 v1 v2) := by
  unfold seqStopBody
  extract_lets -useContext -underBinder x0
  refine KeepsR.ite ?_ ?_
  · refine keeps_refuse (hW.of rfl) ?_
    exact hv2
  · refine KeepsR.done ?_
    refine Keeps.foldl (fun t1 y2 ht1 => ?_) ?_
    · refine keeps_stopSeq (hW.of rfl) ?_
      exact ht1
    · exact hv2

theorem keeps_overwriteOld {W : Nat} {a : State} {v0 : ℕ} {v1 : ℕ} {v2 : State} (hW : Sub 3450978485686950450904075849166196396657873381180593826692516448043012 W) (hv2 : Keeps W a v2) :
    Keeps W a (overwriteOld v0 v1 v2) := by
  unfold overwriteOld
  extract_lets -useContext -underBinder x0
  refine Keeps.ite ?_ ?_
  · refine keeps_bankBytes (hW.of rfl) ?_
    refine keeps_onRing (hW.of rfl) ?_
    exact hv2
  · exact hv2

theorem keeps_thresholdCheck {W : Nat} {a : State} {v0 : ℕ} {v1 : State} (hW : Sub 105312291668557186697918027683670432319049837905459783788681769536 W) (hv1 : Keeps W a v1) :
    Keeps W a (thresholdCheck v0 v1) := by
  unfold thresholdCheck
  extract_lets -useContext -underBinder x0 x1 x2
  have hx0 : Keeps W a x0 := by
    refine keeps_takeOccAt (hW.of rfl) ?_
    exact hv1
  refine Keeps.ite ?_ ?_
  · refine Keeps.ite ?_ ?_
    · exact hx0
    · refine keeps_postOwn (hW.of rfl) ?_
      refine keeps_onRing (hW.of rfl) ?_
      exact hx0
  · refine keeps_onRing (hW.of rfl) ?_
    exact hx0

theorem keeps_ringPut {W : Nat} {a : State} {v0 : ℕ} {v1 : List Sys2Proof.Byte} {v2 : List (ℕ × Bool)} {v3 : State} (hW : Sub 6254812939070616989549445418216237986716136555867318275399826276364868 W) (hv3 : Keeps W a v3) :
    Keeps W a (ringPut v0 v1 v2 v3) := by
  unfold ringPut
  extract_lets -useContext -underBinder x0 x1 x2 x3 x4 x5 x6 x7
  have hx0 : Keeps W a x0 := by
    refine keeps_ringSync (hW.of rfl) ?_
    exact hv3
  have hx2 : Keeps W a x2 := by
    refine Keeps.ite ?_ ?_
    · refine keeps_onRing (hW.of rfl) ?_
      exact hx0
    · exact hx0
  have hx3 : Keeps W a x3 := by
    refine keeps_overwriteOld (hW.of rfl) ?_
    exact hx2
  have hx6 : Keeps W a x6 := by
    refine keeps_bankBytes (hW.of rfl) ?_
    refine keeps_arbitrate (hW.of rfl) ?_
    exact hx3
  have hx7 : Keeps W a x7 := by
    refine keeps_onRing (hW.of rfl) ?_
    exact hx6
  refine keeps_thresholdCheck (hW.of rfl) ?_
  refine keeps_putControl (hW.of rfl) ?_
  exact hx7

theorem keeps_ringFailed {W : Nat} {a : State} {v0 : ℕ} {v1 : State} (hW : Sub 6254865595216451268142794377230079821932296003415018549955453431848964 W) (hv1 : Keeps W a v1) :
    Keeps W a (ringFailed v0 v1) := by
  unfold ringFailed
  refine keeps_detachRing (hW.of rfl) ?_
  refine keeps_putControl (hW.of rfl) ?_
  refine keeps_onRing (hW.of rfl) ?_
  exact hv1

theorem keeps_failRing {W : Nat} {a : State} {v0 : ℕ} {v1 : ℕ} {v2 : State} (hW : Sub 6254865595216451268142794377230079821932296003415018549955453431848964 W) (hv2 : Keeps W a v2) :
    Keeps W a (failRing v0 v1 v2) := by
  unfold failRing
  refine Keeps.ite ?_ ?_
  · refine keeps_ringFailed (hW.of rfl) ?_
    exact hv2
  · exact hv2

theorem keeps_delegate {W : Nat} {a : State} {v0 : ℕ} {v1 : State} {v2 : ℕ} (hW : Sub 215679573337205118357336120696157045389097155380324579848828898770944 W) (hv1 : Keeps W a v1) :
    Keeps W a (delegate v0 v1 v2) := by
  unfold delegate
  refine keeps_onBank (hW.of rfl) ?_
  exact hv1

theorem keeps_writeQueued {W : Nat} {a : State} {v0 : ℕ} {v1 : List (ℕ × Bool)} {v2 : State} (hW : Sub 6254812939070616989549445418216237986716136555867318275399826276364868 W) (hv2 : Keeps W a v2) :
    Keeps W a (writeQueued v0 v1 v2) := by
  unfold writeQueued
  extract_lets -useContext -underBinder x0
  try clear_value x0
  split
  · exact hv2
  · refine Keeps.ite ?_ ?_
    · refine keeps_ringPut (hW.of rfl) ?_
      refine keeps_onRing (hW.of rfl) ?_
      exact hv2
    · exact hv2

theorem keeps_frameTake {W : Nat} {a : State} {v0 : ℕ} {v1 : State} (hW : Sub 263280729171392966744795069209176080797392481006283450670148236864 W) (hv1 : Keeps W a v1) :
    Keeps W a (frameTake v0 v1) := by
  unfold frameTake
  extract_lets -useContext -underBinder x0 x1
  have hx1 : Keeps W a x1 := by
    refine keeps_takeUp (hW.of rfl) ?_
    exact hv1
  refine keeps_settleChannels (hW.of rfl) ?_
  refine keeps_onSeq (hW.of rfl) ?_
  exact hx1

theorem keeps_frameDrop {W : Nat} {a : State} {v0 : ℕ} {v1 : State} (hW : Sub 302772838547101911756514329590552492916978141781489367390514853440 W) (hv1 : Keeps W a v1) :
    Keeps W a (frameDrop v0 v1) := by
  unfold frameDrop
  refine keeps_afterFrame (hW.of rfl) ?_
  refine keeps_countDrop (hW.of rfl) ?_
  exact hv1

theorem keeps_frameBegin {W : Nat} {a : State} {v0 : ℕ} {v1 : State} (hW : Sub 6255958210242512548954785276767297902667604540029799246984716908246596 W) (hv1 : Keeps W a v1) :
    Keeps W a (frameBegin v0 v1) := by
  unfold frameBegin
  extract_lets -useContext -underBinder x0 x1 x2 x3
  try clear_value x0
  try clear_value x3
  have hx1 : Keeps W a x1 := by
    refine keeps_countTrigger (hW.of rfl) ?_
    exact hv1
  have hx2 : Keeps W a x2 := by
    refine keeps_frameTake (hW.of rfl) ?_
    exact hx1
  refine Keeps.ite ?_ ?_
  · refine keeps_frameDrop (hW.of rfl) ?_
    exact hx1
  · split
    · refine keeps_frameDrop (hW.of rfl) ?_
      refine keeps_setDropping (hW.of rfl) ?_
      exact hx1
    · extract_lets -useContext -underBinder x6
      have hx6 : Keeps W a x6 := by
        unfold x6
        split
        · refine keeps_setDropping (hW.of rfl) ?_
          exact hx2
        · exact hx2
      split
      · rename_i p9 p10 q11
        have hp12 : Keeps W a p10 := Keeps.ofEq2 q11 (by
          refine keeps_nextNumber (hW.of rfl) ?_
          · exact hx6)
        extract_lets -useContext -underBinder x13
        refine keeps_onSeq (hW.of rfl) ?_
        exact hp12

theorem keeps_frameStart {W : Nat} {a : State} {v0 : ℕ} {v1 : State} (hW : Sub 6255958210242512548954785276767297902667604540029799246984716908246596 W) (hv1 : Keeps W a v1) :
    Keeps W a (frameStart v0 v1) := by
  unfold frameStart
  refine keeps_frameBegin (hW.of rfl) ?_
  refine keeps_catchUp (hW.of rfl) ?_
  exact hv1

theorem keeps_seqTimer {W : Nat} {a : State} {v0 : ℕ} {v1 : State} (hW : Sub 6255958210242512548954785276767297902667604540029799246984716908246596 W) (hv1 : Keeps W a v1) :
    Keeps W a (seqTimer v0 v1) := by
  unfold seqTimer
  extract_lets -useContext -underBinder x0 x1
  refine Keeps.ite ?_ ?_
  · refine keeps_frameStart (hW.of rfl) ?_
    refine keeps_onSeq (hW.of rfl) ?_
    exact hv1
  · exact hv1

theorem keeps_keepResult {W : Nat} {a : State} {v0 : Sys2Proof.Machine.Result} {v1 : State} (hW : Sub 25274950000453724807500326644080903756534822896131786701034642997248 W) (hv1 : Keeps W a v1) :
    Keeps W a (keepResult v0 v1) := by
  unfold keepResult
  extract_lets -useContext -underBinder x0 x1 x2 x3 x4
  have hx1 : Keeps W a x1 := by
    refine Keeps.ite ?_ ?_
    · refine keeps_noteSource (hW.of rfl) ?_
      exact hv1
    · exact hv1
  have hx3 : Keeps W a x3 := by
    unfold x3
    try clear_value x1
    refine Keeps.upd_23 (hW.bit rfl) (by constructor <;> first | exact fun h => Bool.noConfusion ((hW.bit (by rfl)).symm.trans h) | exact fun _ => rfl | (intro _; split <;> rfl)) ?_
    exact hx1
  try clear_value x1
  try clear_value x3
  refine Keeps.ite ?_ ?_
  · refine Keeps.upd_23 (hW.bit rfl) (by constructor <;> first | exact fun h => Bool.noConfusion ((hW.bit (by rfl)).symm.trans h) | exact fun _ => rfl | (intro _; split <;> rfl)) ?_
    exact hx3
  · exact hx3

theorem keeps_fireNow {W : Nat} {a : State} {v0 : State} {v1 : ℕ} (hW : Sub 6255958210242512548954785276767297902667604540029799246984716908246596 W) (hv0 : Keeps W a v0) :
    Keeps W a (fireNow v0 v1) := by
  unfold fireNow
  extract_lets -useContext -underBinder x0 x1
  try clear_value x0
  have hx1 : Keeps W a x1 := by
    refine Keeps.foldl (fun t2 y3 ht2 => ?_) ?_
    · refine keeps_frameBegin (hW.of rfl) ?_
      exact ht2
    · exact hv0
  split
  · refine keeps_syncFrames (hW.of rfl) ?_
    exact hx1
  · exact hx1

theorem keeps_fireLine {W : Nat} {a : State} {v0 : State} {v1 : ℕ} (hW : Sub 6255958210242512548954785276767297902667604540029799246984716908246596 W) (hv0 : Keeps W a v0) :
    Keeps W a (fireLine v0 v1) := by
  unfold fireLine
  refine keeps_fireNow (hW.of rfl) ?_
  refine keeps_catchUp (hW.of rfl) ?_
  exact hv0

theorem keeps_stepTrigger {W : Nat} {a : State} {v0 : State} (hW : Sub 6255958210242512548954808112730381198025701472605310438906899032716868 W) (hv0 : Keeps W a v0) :
    Keeps W a (stepTrigger v0) := by
  unfold stepTrigger
  split
  · refine keeps_advance (hW.of rfl) ?_
    refine keeps_fireLine (hW.of rfl) ?_
    exact hv0
  · exact hv0

theorem keeps_startSeq {W : Nat} {a : State} {v0 : State} {v1 : ℕ} (hW : Sub 6255958210242512548954785276767297902667604540029799246984716908246596 W) (hv0 : Keeps W a v0) :
    Keeps W a (startSeq v0 v1) := by
  unfold startSeq
  refine Keeps.ite ?_ ?_
  · exact hv0
  · extract_lets -useContext -underBinder x0 x1 x2
    have hx0 : Keeps W a x0 := by
      refine keeps_takeUp (hW.of rfl) ?_
      exact hv0
    have hx2 : Keeps W a x2 := by
      refine keeps_onSeq (hW.of rfl) ?_
      exact hx0
    refine Keeps.ite ?_ ?_
    · exact hx2
    · refine keeps_frameStart (hW.of rfl) ?_
      exact hx2

theorem keeps_seqStartBody {W : Nat} {a : State} {v0 : Sys2Proof.Req} {v1 : List Sys2Proof.Byte} {v2 : State} (hW : Sub 6255958210242512548954785276767297902667604540029799246984716908246596 W) (hv2 : Keeps W a v2) :
    KeepsR W a (seqStartBody v0 v1 v2) := by
  unfold seqStartBody
  extract_lets -useContext -underBinder x0
  refine KeepsR.ite ?_ ?_
  · refine keeps_refuse (hW.of rfl) ?_
    exact hv2
  · refine KeepsR.ite ?_ ?_
    · refine keeps_refuse (hW.of rfl) ?_
      exact hv2
    · refine KeepsR.done ?_
      refine Keeps.foldl (fun t1 y2 ht1 => ?_) ?_
      · refine keeps_startSeq (hW.of rfl) ?_
        exact ht1
      · exact hv2

theorem keeps_rotate {W : Nat} {a : State} {v0 : ℕ} {v1 : Sys2Proof.Rotation} {v2 : State} (hW : Sub 39492109375708945011719260381376412119740403280116589254737408576 W) (hv2 : Keeps W a v2) :
    Keeps W a (rotate v0 v1 v2) := by
  unfold rotate
  extract_lets -useContext -underBinder x0 x1 x2 x3 x4 x5
  have hx3 : Keeps W a x3 := by
    refine keeps_onConv (hW.of rfl) ?_
    exact hv2
  refine Keeps.ite ?_ ?_
  · refine keeps_onConv (hW.of rfl) ?_
    exact hx3
  · refine keeps_post (hW.of rfl) ?_
    refine keeps_onConv (hW.of rfl) ?_
    exact hx3

theorem keeps_rotationStep {W : Nat} {a : State} {v0 : ℕ} {v1 : Sys2Proof.Rotation} {v2 : State} (hW : Sub 92148255209987538360678274223211628279187950980391144881892897344 W) (hv2 : Keeps W a v2) :
    Keeps W a (rotationStep v0 v1 v2) := by
  unfold rotationStep
  extract_lets -useContext -underBinder x0 x1
  have hx0 : Keeps W a x0 := by
    refine keeps_catchUp (hW.of rfl) ?_
    refine keeps_takeOcc (hW.of rfl) ?_
    exact hv2
  refine Keeps.ite ?_ ?_
  · exact hx0
  · refine Keeps.ite ?_ ?_
    · refine keeps_onConv (hW.of rfl) ?_
      exact hx0
    · refine keeps_rotate (hW.of rfl) ?_
      exact hx0

theorem keeps_triggerFireBody {W : Nat} {a : State} {v0 : Sys2Proof.Req} {v1 : List Sys2Proof.Byte} {v2 : State} (hW : Sub 6255958210242512548954785276767297902667604540029799246984716908246596 W) (hv2 : Keeps W a v2) :
    KeepsR W a (triggerFireBody v0 v1 v2) := by
  unfold triggerFireBody
  refine KeepsR.done ?_
  refine Keeps.foldl (fun t0 y1 ht0 => ?_) ?_
  · refine keeps_fireNow (hW.of rfl) ?_
    exact ht0
  · refine keeps_catchUp (hW.of rfl) ?_
    exact hv2

theorem keeps_cmdTriggerFire {W : Nat} {a : State} (hW : Sub 6255958210242512548954785276767297902667604540029799246984716908246596 W) :
    KeepsC W a (cmdTriggerFire) := by
  unfold cmdTriggerFire
  intro r p t ht
  dsimp only
  refine keeps_triggerFireBody (hW.of rfl) ?_
  exact ht

theorem keeps_slowLimits {W : Nat} {a : State} {v0 : Sys2Proof.Machine.Result} {v1 : ℕ} {v2 : ℤ} {v3 : State} (hW : Sub 154742504910672534362665536 W) (hv3 : Keeps W a v3) :
    Keeps W a (slowLimits v0 v1 v2 v3).2 := by
  unfold slowLimits
  extract_lets -useContext -underBinder x0 x1 x2 x3 x4 x5 x6 x7 x8 x9 x10 x11 x12
  have hx10 : Keeps W a x10 := by
    refine keeps_onRail (hW.of rfl) ?_
    exact hv3
  have hx11 : Keeps W a x11 := by
    refine Keeps.ite ?_ ?_
    · refine keeps_post (hW.of rfl) ?_
      exact hx10
    · exact hx10
  have hx12 : Keeps W a x12 := by
    refine Keeps.ite ?_ ?_
    · refine keeps_post (hW.of rfl) ?_
      exact hx11
    · exact hx11
  try dsimp only
  exact hx12

theorem keeps_slowRail {W : Nat} {a : State} {v0 : Sys2Proof.Machine.Result} {v1 : State} (hW : Sub 191561942608236107294793378548531152863014924636664384 W) (hv1 : Keeps W a v1) :
    Keeps W a (slowRail v0 v1).2 := by
  unfold slowRail
  extract_lets -useContext -underBinder x0 x1 x2 x3 x4 x5 x6
  try clear_value x0
  try clear_value x3
  try clear_value x4
  try clear_value x6
  have hx1 : Keeps W a x1 := by
    refine keeps_slowTake (hW.of rfl) ?_
    exact hv1
  have hx2 : Keeps W a x2 := by
    refine keeps_onRail (hW.of rfl) ?_
    exact hx1
  have hx5 : Keeps W a x5 := by
    refine keeps_onRail (hW.of rfl) ?_
    exact hx2
  refine Keeps.ite2 ?_ ?_
  · try dsimp only
    exact hx1
  · refine Keeps.ite2 ?_ ?_
    · try dsimp only
      exact hx2
    · split
      · try dsimp only
        exact hx5
      · extract_lets -useContext -underBinder x9
        have hx9 : Keeps W a x9.2 := by
          refine keeps_slowLimits (hW.of rfl) ?_
          · exact hx5
        try dsimp only
        exact hx9

theorem keeps_setOc {W : Nat} {a : State} {v0 : ℕ} {v1 : ℕ} {v2 : State} (hW : Sub 191561942608236107294793378393788647952342390273998848 W) (hv2 : Keeps W a v2) :
    Keeps W a (setOc v0 v1 v2) := by
  unfold setOc
  refine Keeps.upd_20 (hW.bit rfl) (by constructor <;> first | exact fun h => Bool.noConfusion ((hW.bit (by rfl)).symm.trans h) | exact fun _ => rfl | (intro _; split <;> rfl)) ?_
  exact hv2

theorem keeps_takeCodes {W : Nat} {a : State} {v0 : Nat} {v1 : List Int} {v2 : State} (hW : Sub 2 W)
    (hv2 : Keeps W a v2) : Keeps W a (takeCodes v0 v1 v2).2 := by
  induction v0 generalizing v1 v2 with
  | zero => unfold takeCodes; exact hv2
  | succ n ih =>
    unfold takeCodes
    split
    rename_i c rest s1 h
    exact ih (Keeps.ofEq5 h (keeps_takeCode (hW.of rfl) hv2))

theorem keeps_spentFresh {W : Nat} {a : State} {v0 : ℕ} {v1 : List ℕ} {v2 : State} (hW : Sub 39492109375708945011719260381376412119585660775205916720375005184 W) (hv2 : Keeps W a v2) :
    Keeps W a (spentFresh v0 v1 v2) := by
  unfold spentFresh
  refine keeps_onConv (hW.of rfl) ?_
  exact hv2

theorem keeps_convertNowBody {W : Nat} {a : State} {v0 : Sys2Proof.Req} {v1 : List Sys2Proof.Byte} {v2 : State} (hW : Sub 934646588558445031944022495692575086830348714184784034916380712962 W) (hv2 : Keeps W a v2) :
    KeepsR W a (convertNowBody v0 v1 v2) := by
  unfold convertNowBody
  extract_lets -useContext -underBinder x0 x1 x2 x3
  try clear_value x0
  try clear_value x1
  try clear_value x2
  try clear_value x3
  split
  · rename_i p4 q5
    have hp6 : Keeps W a p4 := Keeps.ofEq2 q5 (by
      refine keeps_urgent (hW.of rfl) ?_
      · exact hv2)
    refine KeepsR.done ?_
    exact hp6
  · rename_i p7 p8 q9
    have hp10 : Keeps W a p8 := Keeps.ofEq2 q9 (by
      refine keeps_urgent (hW.of rfl) ?_
      · exact hv2)
    split
    · rename_i p11 p12 q13
      have hp14 : Keeps W a p12 := Keeps.ofEq2 q13 (by
        refine keeps_takeCodes (hW.of rfl) ?_
        · refine keeps_takeOccAt (hW.of rfl) ?_
          exact hp10)
      extract_lets -useContext -underBinder x15 x16 x17 x18 x19
      refine KeepsR.done ?_
      refine keeps_countDone (hW.of rfl) ?_
      refine keeps_spentFresh (hW.of rfl) ?_
      exact hp14

theorem keeps_ringStatusBody {W : Nat} {a : State} {v0 : Sys2Proof.Req} {v1 : List Sys2Proof.Byte} {v2 : State} (hW : Sub 0 W) (hv2 : Keeps W a v2) :
    KeepsR W a (ringStatusBody v0 v1 v2) := by
  unfold ringStatusBody
  refine KeepsR.ite ?_ ?_
  · refine KeepsR.done ?_
    exact hv2
  · refine KeepsR.done ?_
    exact hv2

theorem keeps_ringAttachBody {W : Nat} {a : State} {v0 : Sys2Proof.Req} {v1 : List Sys2Proof.Byte} {v2 : State} (hW : Sub 6254865595216451268142794377230079821932296003415018549955453431853636 W) (hv2 : Keeps W a v2) :
    KeepsR W a (ringAttachBody v0 v1 v2) := by
  unfold ringAttachBody
  extract_lets -useContext -underBinder x0 x1 x2 x3 x4 x5 x6 x7 x8 x11
  have hx8 : Keeps W a x8 := by
    refine Keeps.foldl (fun t9 y10 ht9 => ?_) ?_
    · refine keeps_delegate (hW.of rfl) ?_
      exact ht9
    · exact hv2
  have hx11 : Keeps W a x11 := by
    refine keeps_onRing (hW.of rfl) ?_
    exact hx8
  refine KeepsR.ite ?_ ?_
  · refine KeepsR.ite ?_ ?_
    · refine KeepsR.done ?_
      exact hv2
    · refine KeepsR.ite ?_ ?_
      · refine keeps_refuse (hW.of rfl) ?_
        exact hv2
      · refine KeepsR.done ?_
        refine keeps_detachRing (hW.of rfl) ?_
        refine keeps_writeQueued (hW.of rfl) ?_
        exact hv2
  · refine KeepsR.ite ?_ ?_
    · refine keeps_refuse (hW.of rfl) ?_
      exact hv2
    · refine KeepsR.ite ?_ ?_
      · refine keeps_refuse (hW.of rfl) ?_
        exact hv2
      · refine KeepsR.ite ?_ ?_
        · refine keeps_refuse (hW.of rfl) ?_
          exact hv2
        · refine KeepsR.ite ?_ ?_
          · refine keeps_refuse (hW.of rfl) ?_
            exact hv2
          · refine KeepsR.ite ?_ ?_
            · refine keeps_refuse (hW.of rfl) ?_
              exact hv2
            · refine KeepsR.ite ?_ ?_
              · refine keeps_refuse (hW.of rfl) ?_
                exact hv2
              · refine KeepsR.ite ?_ ?_
                · refine keeps_refuse (hW.of rfl) ?_
                  exact hv2
                · refine KeepsR.done ?_
                  refine keeps_bankBytes (hW.of rfl) ?_
                  exact hx11

theorem keeps_cmdConvertNow {W : Nat} {a : State} (hW : Sub 934646588558445031944022495692575086830348714184784034916380712962 W) :
    KeepsC W a (cmdConvertNow) := by
  unfold cmdConvertNow
  intro r p t ht
  dsimp only
  refine keeps_convertNowBody (hW.of rfl) ?_
  exact ht

theorem keeps_slowDie {W : Nat} {a : State} {v0 : Sys2Proof.Machine.Result} {v1 : State} (hW : Sub 95780971304118053647396689351636828886843729499927104 W) (hv1 : Keeps W a v1) :
    Keeps W a (slowDie v0 v1) := by
  unfold slowDie
  extract_lets -useContext -underBinder x0 x1 x2
  have hx0 : Keeps W a x0 := by
    refine keeps_takeOcc (hW.of rfl) ?_
    exact hv1
  try clear_value x0
  refine Keeps.ite ?_ ?_
  · exact hx0
  · refine Keeps.ite ?_ ?_
    · refine Keeps.ite ?_ ?_
      · exact hx0
      · refine keeps_post (hW.of rfl) ?_
        refine Keeps.upd_20 (hW.bit rfl) (by constructor <;> first | exact fun h => Bool.noConfusion ((hW.bit (by rfl)).symm.trans h) | exact fun _ => rfl | (intro _; split <;> rfl)) ?_
        exact hx0
    · refine Keeps.ite ?_ ?_
      · refine Keeps.upd_20 (hW.bit rfl) (by constructor <;> first | exact fun h => Bool.noConfusion ((hW.bit (by rfl)).symm.trans h) | exact fun _ => rfl | (intro _; split <;> rfl)) ?_
        exact hx0
      · exact hx0

theorem keeps_frameEnd {W : Nat} {a : State} {v0 : ℕ} {v1 : State} (hW : Sub 302772838547101911756514329590552492916978141781489367390514853440 W) (hv1 : Keeps W a v1) :
    Keeps W a (frameEnd v0 v1) := by
  unfold frameEnd
  refine keeps_afterFrame (hW.of rfl) ?_
  refine keeps_onSeq (hW.of rfl) ?_
  refine keeps_countDone (hW.of rfl) ?_
  exact hv1

theorem keeps_toRing {W : Nat} {a : State} {v0 : Sys2Proof.Machine.Frame} {v1 : List Sys2Proof.Byte} {v2 : State} (hW : Sub 105312291668557186697918027683670432318895095400549111254319366144 W) (hv2 : Keeps W a v2) :
    Keeps W a (toRing v0 v1 v2) := by
  unfold toRing
  split
  · refine keeps_onRing (hW.of rfl) ?_
    exact hv2
  · exact hv2

theorem keeps_streamWord {W : Nat} {a : State} {v0 : ℕ → ℕ} {v1 : List (ℕ × ℕ × Bool)} {v2 : State} (hW : Sub 6254812939070616989549445418216237986716136555867318275399826276364868 W) (hv2 : Keeps W a v2) :
    Keeps W a (streamWord v0 v1 v2) := by
  unfold streamWord
  extract_lets -useContext -underBinder x0
  try clear_value x0
  split
  · refine Keeps.ite ?_ ?_
    · refine keeps_setDropping (hW.of rfl) ?_
      exact hv2
    · extract_lets -useContext -underBinder x2
      refine keeps_ringPut (hW.of rfl) ?_
      refine keeps_setDropping (hW.of rfl) ?_
      exact hv2
  · exact hv2

theorem keeps_cmdSeqStart {W : Nat} {a : State} (hW : Sub 6255958210242512548954785276767297902667604540029799246984716908246596 W) :
    KeepsC W a (cmdSeqStart) := by
  unfold cmdSeqStart
  intro r p t ht
  dsimp only
  refine keeps_seqStartBody (hW.of rfl) ?_
  exact ht

theorem keeps_sliceSwap {W : Nat} {a : State} {v0 : ℕ} {v1 : State} (hW : Sub 92148255209987538360678274223211628279033208475480472347530493952 W) (hv1 : Keeps W a v1) :
    Keeps W a (sliceSwap v0 v1) := by
  unfold sliceSwap
  refine Keeps.ite ?_ ?_
  · exact hv1
  · refine keeps_onConv (hW.of rfl) ?_
    refine keeps_catchUp (hW.of rfl) ?_
    exact hv1

theorem keeps_slowAux {W : Nat} {a : State} {v0 : Sys2Proof.Machine.Result} {v1 : State} (hW : Sub 191561942608236107294793378548531152863014924636397568 W) (hv1 : Keeps W a v1) :
    Keeps W a (slowAux v0 v1).2 := by
  unfold slowAux
  extract_lets -useContext -underBinder x0 x1 x2 x3 x4 x5 x6 x7 x8 x9
  have hx2 : Keeps W a x2 := by
    refine keeps_takeOccAt (hW.of rfl) ?_
    exact hv1
  have hx3 : Keeps W a x3 := by
    refine Keeps.ite ?_ ?_
    · refine keeps_setOc (hW.of rfl) ?_
      exact hx2
    · exact hx2
  refine Keeps.ite2 ?_ ?_
  · try dsimp only
    exact hx3
  · refine Keeps.ite2 ?_ ?_
    · try dsimp only
      refine keeps_setOc (hW.of rfl) ?_
      exact hx3
    · try dsimp only
      refine keeps_setOc (hW.of rfl) ?_
      exact hx3

theorem keeps_slowFound {W : Nat} {a : State} {v0 : Sys2Proof.Machine.Result} {v1 : State} (hW : Sub 287342913912354160942190067745425476839186119773139520 W) (hv1 : Keeps W a v1) :
    Keeps W a (slowFound v0 v1).2 := by
  unfold slowFound
  refine Keeps.ite2 ?_ ?_
  · refine keeps_slowRail (hW.of rfl) ?_
    · exact hv1
  · refine Keeps.ite2 ?_ ?_
    · refine keeps_slowAux (hW.of rfl) ?_
      · exact hv1
    · refine Keeps.ite2 ?_ ?_
      · try dsimp only
        refine keeps_slowDie (hW.of rfl) ?_
        exact hv1
      · try dsimp only
        exact hv1

theorem keeps_continuousFrameStart {W : Nat} {a : State} {v0 : ℕ} {v1 : State} (hW : Sub 6255958210242512548954785276767297902667604540029799246984716908246596 W) (hv1 : Keeps W a v1) :
    Keeps W a (continuousFrameStart v0 v1) := by
  unfold continuousFrameStart
  extract_lets -useContext -underBinder x0
  have hx0 : Keeps W a x0 := by
    refine keeps_catchUp (hW.of rfl) ?_
    exact hv1
  refine Keeps.ite ?_ ?_
  · refine keeps_frameStart (hW.of rfl) ?_
    exact hx0
  · exact hx0

theorem keeps_triggerLineFire {W : Nat} {a : State} {v0 : ℕ} {v1 : ℕ} {v2 : ℕ} {v3 : Bool} {v4 : State} (hW : Sub 6257643206909209463941951965210236629584706861556208032764785883887172 W) (hv4 : Keeps W a v4) :
    Keeps W a (triggerLineFire v0 v1 v2 v3 v4) := by
  unfold triggerLineFire
  extract_lets -useContext -underBinder x0 x1
  refine Keeps.ite ?_ ?_
  · exact hv4
  · refine Keeps.ite ?_ ?_
    · refine Keeps.ite ?_ ?_
      · refine keeps_fireLine (hW.of rfl) ?_
        exact hv4
      · exact hv4
    · refine Keeps.ite ?_ ?_
      · refine keeps_fireLine (hW.of rfl) ?_
        refine Keeps.upd_23 (hW.bit rfl) (by constructor <;> first | exact fun h => Bool.noConfusion ((hW.bit (by rfl)).symm.trans h) | exact fun _ => rfl | (intro _; split <;> rfl)) ?_
        exact hv4
      · exact hv4

theorem keeps_cmdRingStatus {W : Nat} {a : State} (hW : Sub 0 W) :
    KeepsC W a (cmdRingStatus) := by
  unfold cmdRingStatus
  intro r p t ht
  dsimp only
  refine keeps_ringStatusBody (hW.of rfl) ?_
  exact ht

theorem keeps_cmdRingAttach {W : Nat} {a : State} (hW : Sub 6254865595216451268142794377230079821932296003415018549955453431853636 W) :
    KeepsC W a (cmdRingAttach) := by
  unfold cmdRingAttach
  intro r p t ht
  dsimp only
  refine keeps_ringAttachBody (hW.of rfl) ?_
  exact ht

theorem keeps_failRings {W : Nat} {a : State} {v0 : ℕ} {v1 : State} (hW : Sub 6254865595216451268142794377230079821932296003415018549955453431848964 W) (hv1 : Keeps W a v1) :
    Keeps W a (failRings v0 v1) := by
  unfold failRings
  refine Keeps.foldl (fun t0 y1 ht0 => ?_) ?_
  · refine keeps_failRing (hW.of rfl) ?_
    exact ht0
  · exact hv1

theorem keeps_cmdSeqStop {W : Nat} {a : State} (hW : Sub 263280729171392966744795069209176080797392481006283450670148236864 W) :
    KeepsC W a (cmdSeqStop) := by
  unfold cmdSeqStop
  intro r p t ht
  dsimp only
  refine keeps_seqStopBody (hW.of rfl) ?_
  exact ht

end Sys2Proof.Machine
end

