-- ==== Sys2Proof/Laws/KeepsGauge.lean ====
section
/-! SUPPORT. What the operations of Machine/Gauge.lean keep (`Keeps`): one lemma for each. -/

namespace Sys2Proof.Machine

set_option linter.unusedVariables false
set_option linter.unusedTactic false
set_option linter.unreachableTactic false

theorem keeps_orFree {W : Nat} {a : State} {v0 : Option ℤ} {v1 : State} (hW : Sub 2 W) (hv1 : Keeps W a v1) :
    Keeps W a (orFree v0 v1).2 := by
  unfold orFree
  split
  · try dsimp only
    exact hv1
  · refine keeps_drawFree (hW.of rfl) ?_
    · exact hv1

theorem keeps_learnRecord {W : Nat} {a : State} {v0 : ℤ} {v1 : ℤ} {v2 : ℕ} {v3 : ℕ} {v4 : ℕ} {v5 : ℕ} {v6 : State} (hW : Sub 50438181037257216681745031943176444153389070 W) (hv6 : Keeps W a v6) :
    Keeps W a (learnRecord v0 v1 v2 v3 v4 v5 v6) := by
  unfold learnRecord
  split
  · rename_i p0 p1 q2
    have hp3 : Keeps W a p1 := Keeps.ofEq2 q2 (by
      refine keeps_orFree (hW.of rfl) ?_
      · exact hv6)
    split
    · rename_i p4 p5 q6
      have hp7 : Keeps W a p5 := Keeps.ofEq2 q6 (by
        refine keeps_orFree (hW.of rfl) ?_
        · exact hp3)
      refine keeps_logRecord (hW.of rfl) ?_
      exact hp7

theorem keeps_commitFull {W : Nat} {a : State} {v0 : State} (hW : Sub 79073420009353665059181568000 W) (hv0 : Keeps W a v0) :
    Keeps W a (commitFull v0) := by
  unfold commitFull
  extract_lets -useContext -underBinder x0
  refine keeps_takeUp (hW.of rfl) ?_
  refine keeps_deviceCommit (hW.of rfl) ?_
  exact hv0

theorem keeps_onGau {W : Nat} {a : State} {v0 : Gauge → Gauge} {v1 : State} (hW : Sub 134217728 W)
    (hv0 : ∀ c, GaugeK W c (v0 c)) (hv1 : Keeps W a v1) : Keeps W a (onGau v0 v1) :=
  Keeps.upd_27 (hW.bit rfl) (hv0 _) hv1

theorem keeps_learn {W : Nat} {a : State} {v0 : ℕ} {v1 : ℤ} {v2 : ℤ} {v3 : State} (hW : Sub 2135987035920910082395021706169552114602704522356652820385222645079515326203176936191931193712654 W) (hv3 : Keeps W a v3) :
    Keeps W a (learn v0 v1 v2 v3) := by
  unfold learn
  extract_lets -useContext -underBinder x0 x1 x2 x3 x4 x5
  refine Keeps.ite ?_ ?_
  · refine Keeps.ite ?_ ?_
    · refine keeps_learnRecord (hW.of rfl) ?_
      exact hv3
    · refine keeps_commitFull (hW.of rfl) ?_
      refine keeps_learnRecord (hW.of rfl) ?_
      refine keeps_onGau (hW.of rfl) (fun _ => (by constructor <;> first | exact fun h => Bool.noConfusion ((hW.bit (by rfl)).symm.trans h) | exact fun _ => rfl | (intro _; split <;> rfl))) ?_
      exact hv3
  · exact hv3

theorem keeps_saveGauge {W : Nat} {a : State} {v0 : State} (hW : Sub 40564819207303340847894502588420 W) (hv0 : Keeps W a v0) :
    Keeps W a (saveGauge v0) := by
  unfold saveGauge
  refine Keeps.ite ?_ ?_
  · refine keeps_writeTwo (hW.of rfl) ?_
    exact hv0
  · exact hv0

theorem keeps_keepGauge {W : Nat} {a : State} {v0 : State} (hW : Sub 40564819207303340847894502588420 W) (hv0 : Keeps W a v0) :
    Keeps W a (keepGauge v0) := by
  unfold keepGauge
  refine Keeps.ite ?_ ?_
  · refine keeps_saveGauge (hW.of rfl) ?_
    exact hv0
  · exact hv0

theorem keeps_setAnchor {W : Nat} {a : State} {v0 : ℕ} {v1 : ℤ} {v2 : State} (hW : Sub 437178874603040429294036277666840739952079342704303192383421285178834435230301465831235888188676595726 W) (hv2 : Keeps W a v2) :
    Keeps W a (setAnchor v0 v1 v2) := by
  unfold setAnchor
  extract_lets -useContext -underBinder x0 x1 x2
  have hx1 : Keeps W a x1 := by
    refine keeps_learn (hW.of rfl) ?_
    exact hv2
  have hx2 : Keeps W a x2 := by
    unfold x2
    try clear_value x1
    refine keeps_onGau (hW.of rfl) (fun _ => (by constructor <;> first | exact fun h => Bool.noConfusion ((hW.bit (by rfl)).symm.trans h) | exact fun _ => rfl | (intro _; split <;> rfl))) ?_
    exact hx1
  refine Keeps.ite ?_ ?_
  · exact hx2
  · refine keeps_keepGauge (hW.of rfl) ?_
    exact hx2

theorem keeps_setSoc {W : Nat} {a : State} {v0 : ℤ} {v1 : State} (hW : Sub 5339967589802275205987554265423880286506761305891631924867604019555549314451601375057405351559168 W) (hv1 : Keeps W a v1) :
    Keeps W a (setSoc v0 v1) := by
  unfold setSoc
  refine keeps_onGau (hW.of rfl) (fun _ => (by constructor <;> first | exact fun h => Bool.noConfusion ((hW.bit (by rfl)).symm.trans h) | exact fun _ => rfl | (intro _; split <;> rfl))) ?_
  exact hv1

theorem keeps_lastResult {W : Nat} {a : State} {v0 : ℕ} {v1 : State} (hW : Sub 2 W) (hv1 : Keeps W a v1) :
    Keeps W a (lastResult v0 v1).2 := by
  unfold lastResult
  refine keeps_orFree (hW.of rfl) ?_
  · exact hv1

theorem keeps_recallFull {W : Nat} {a : State} {v0 : State} (hW : Sub 154742504910672534362398720 W) (hv0 : Keeps W a v0) :
    Keeps W a (recallFull v0) := by
  unfold recallFull
  extract_lets -useContext -underBinder x0 x1 x2
  refine Keeps.upd_13 (hW.bit rfl) (by constructor <;> first | exact fun h => Bool.noConfusion ((hW.bit (by rfl)).symm.trans h) | exact fun _ => rfl | (intro _; split <;> rfl)) ?_
  exact hv0

theorem keeps_bootSoc {W : Nat} {a : State} {v0 : ℤ} {v1 : State} (hW : Sub 5339967589802275205987554265423880286506761305891631924867604019555549314451601375057405351559168 W) (hv1 : Keeps W a v1) :
    Keeps W a (bootSoc v0 v1) := by
  unfold bootSoc
  refine keeps_setSoc (hW.of rfl) ?_
  exact hv1

theorem keeps_dropAnchor {W : Nat} {a : State} {v0 : State} (hW : Sub 820219021793629471639688335169108012007438536584954663659663977403732374699765971208817441517862912 W) (hv0 : Keeps W a v0) :
    Keeps W a (dropAnchor v0) := by
  unfold dropAnchor
  refine keeps_onGau (hW.of rfl) (fun _ => (by constructor <;> first | exact fun h => Bool.noConfusion ((hW.bit (by rfl)).symm.trans h) | exact fun _ => rfl | (intro _; split <;> rfl))) ?_
  exact hv0

theorem keeps_bootFresh {W : Nat} {a : State} {v0 : ℤ} {v1 : State} (hW : Sub 3360470440087556719414080232024281153252252026308655785131577494568012783550690783971050413261276053504 W) (hv1 : Keeps W a v1) :
    Keeps W a (bootFresh v0 v1) := by
  unfold bootFresh
  extract_lets -useContext -underBinder x0
  have hx0 : Keeps W a x0 := by
    unfold x0
    refine keeps_bootSoc (hW.of rfl) ?_
    refine keeps_dropAnchor (hW.of rfl) ?_
    refine keeps_onGau (hW.of rfl) (fun _ => (by constructor <;> first | exact fun h => Bool.noConfusion ((hW.bit (by rfl)).symm.trans h) | exact fun _ => rfl | (intro _; split <;> rfl))) ?_
    exact hv1
  try clear_value x0
  refine keeps_onGau (hW.of rfl) (fun _ => (by constructor <;> first | exact fun h => Bool.noConfusion ((hW.bit (by rfl)).symm.trans h) | exact fun _ => rfl | (intro _; split <;> rfl))) ?_
  exact hx0

theorem keeps_bootCount {W : Nat} {a : State} {v0 : State} (hW : Sub 3359617113266706315836163420852666417182468245851974302349983651445687806770241418071316239907544891392 W) (hv0 : Keeps W a v0) :
    Keeps W a (bootCount v0) := by
  unfold bootCount
  refine keeps_onGau (hW.of rfl) (fun _ => (by constructor <;> first | exact fun h => Bool.noConfusion ((hW.bit (by rfl)).symm.trans h) | exact fun _ => rfl | (intro _; split <;> rfl))) ?_
  exact hv0

theorem keeps_shortRest {W : Nat} {a : State} {v0 : ℤ} {v1 : ℤ} {v2 : State} (hW : Sub 5339967589802275205987554265423880286506761305891631924867604019555549314451601375057405351559168 W) (hv2 : Keeps W a v2) :
    Keeps W a (shortRest v0 v1 v2) := by
  unfold shortRest
  refine Keeps.ite ?_ ?_
  · extract_lets -useContext -underBinder x0
    refine keeps_setSoc (hW.of rfl) ?_
    exact hv2
  · exact hv2

theorem keeps_bootRow {W : Nat} {a : State} {v0 : ℤ} {v1 : State} (hW : Sub 3796827026431362470854834501178674933438712909106367989843968229572885908630933133835544649263913066510 W) (hv1 : Keeps W a v1) :
    Keeps W a (bootRow v0 v1) := by
  unfold bootRow
  refine Keeps.ite ?_ ?_
  · refine keeps_onGau (hW.of rfl) (fun _ => (by constructor <;> first | exact fun h => Bool.noConfusion ((hW.bit (by rfl)).symm.trans h) | exact fun _ => rfl | (intro _; split <;> rfl))) ?_
    refine keeps_bootFresh (hW.of rfl) ?_
    exact hv1
  · extract_lets -useContext -underBinder x0 x1
    have hx0 : Keeps W a x0 := by
      unfold x0
      refine keeps_onGau (hW.of rfl) (fun _ => (by constructor <;> first | exact fun h => Bool.noConfusion ((hW.bit (by rfl)).symm.trans h) | exact fun _ => rfl | (intro _; split <;> rfl))) ?_
      exact hv1
    have hx1 : Keeps W a x1 := by
      unfold x1
      try clear_value x0
      refine keeps_onGau (hW.of rfl) (fun _ => (by constructor <;> first | exact fun h => Bool.noConfusion ((hW.bit (by rfl)).symm.trans h) | exact fun _ => rfl | (intro _; split <;> rfl))) ?_
      refine keeps_bootCount (hW.of rfl) ?_
      refine keeps_bootSoc (hW.of rfl) ?_
      exact hx0
    try clear_value x0
    try clear_value x1
    refine Keeps.ite ?_ ?_
    · refine keeps_dropAnchor (hW.of rfl) ?_
      refine keeps_onGau (hW.of rfl) (fun _ => (by constructor <;> first | exact fun h => Bool.noConfusion ((hW.bit (by rfl)).symm.trans h) | exact fun _ => rfl | (intro _; split <;> rfl))) ?_
      refine keeps_bootCount (hW.of rfl) ?_
      refine keeps_bootSoc (hW.of rfl) ?_
      exact hx0
    · refine Keeps.ite ?_ ?_
      · refine keeps_setAnchor (hW.of rfl) ?_
        exact hx1
      · refine keeps_shortRest (hW.of rfl) ?_
        exact hx0

theorem keeps_sessionRep {W : Nat} {a : State} {v0 : State} (hW : Sub 33374797436264220037422214158899251790667258161822699530422525122222183215322508594108849717248 W) (hv0 : Keeps W a v0) :
    Keeps W a (sessionRep v0) := by
  unfold sessionRep
  refine Keeps.upd_26 (hW.bit rfl) (by constructor <;> first | exact fun h => Bool.noConfusion ((hW.bit (by rfl)).symm.trans h) | exact fun _ => rfl | (intro _; split <;> rfl)) ?_
  exact hv0

theorem keeps_bootDecide {W : Nat} {a : State} {v0 : State} (hW : Sub 39632742934651027276038131027695997542284292655528018710066493375416080969735691475252093135718476636174 W) (hv0 : Keeps W a v0) :
    Keeps W a (bootDecide v0) := by
  unfold bootDecide
  split
  · refine Keeps.ite ?_ ?_
    · extract_lets -useContext -underBinder x2 x3
      have hx2 : Keeps W a x2 := by
        unfold x2
        refine keeps_bootRow (hW.of rfl) ?_
        refine keeps_onGau (hW.of rfl) (fun _ => (by constructor <;> first | exact fun h => Bool.noConfusion ((hW.bit (by rfl)).symm.trans h) | exact fun _ => rfl | (intro _; split <;> rfl))) ?_
        exact hv0
      have hx3 : Keeps W a x3 := by
        refine Keeps.ite ?_ ?_
        · exact hx2
        · refine keeps_sessionRep (hW.of rfl) ?_
          exact hx2
      try clear_value x2
      try clear_value x3
      refine Keeps.ite ?_ ?_
      · refine keeps_onGau (hW.of rfl) (fun _ => (by constructor <;> first | exact fun h => Bool.noConfusion ((hW.bit (by rfl)).symm.trans h) | exact fun _ => rfl | (intro _; split <;> rfl))) ?_
        exact hx3
      · exact hx3
    · exact hv0
  · exact hv0

theorem keeps_gaugeRestore {W : Nat} {a : State} {v0 : Option Sys2Proof.Bytes} {v1 : Bool} {v2 : Bool} {v3 : State} (hW : Sub 71671830781820609086175771892946006291814353982158298423941415286769148590617437430371716724505905946638 W) (hv3 : Keeps W a v3) :
    Keeps W a (gaugeRestore v0 v1 v2 v3) := by
  unfold gaugeRestore
  extract_lets -useContext -underBinder x0 x1
  have hx0 : Keeps W a x0 := by
    unfold x0
    refine keeps_onGau (hW.of rfl) (fun _ => (by constructor <;> first | exact fun h => Bool.noConfusion ((hW.bit (by rfl)).symm.trans h) | exact fun _ => rfl | (intro _; split <;> rfl))) ?_
    exact hv3
  have hx1 : Keeps W a x1 := by
    unfold x1
    try clear_value x0
    refine Keeps.ite ?_ ?_
    · refine keeps_onGau (hW.of rfl) (fun _ => (by constructor <;> first | exact fun h => Bool.noConfusion ((hW.bit (by rfl)).symm.trans h) | exact fun _ => rfl | (intro _; split <;> rfl))) ?_
      exact hx0
    · split
      · extract_lets -useContext -underBinder x3
        refine keeps_recallFull (hW.of rfl) ?_
        refine keeps_onGau (hW.of rfl) (fun _ => (by constructor <;> first | exact fun h => Bool.noConfusion ((hW.bit (by rfl)).symm.trans h) | exact fun _ => rfl | (intro _; split <;> rfl))) ?_
        exact hx0
      · exact hx0
  refine keeps_bootDecide (hW.of rfl) ?_
  exact hx1

theorem keeps_gaugeRelearnBody {W : Nat} {a : State} {v0 : Sys2Proof.Req} {v1 : List Sys2Proof.Byte} {v2 : State} (hW : Sub 839442905116917662381243530524633981038862877286164538639625532911389647832214272545193069272850446 W) (hv2 : Keeps W a v2) :
    KeepsR W a (gaugeRelearnBody v0 v1 v2) := by
  unfold gaugeRelearnBody
  extract_lets -useContext -underBinder x0 x1
  try clear_value x0
  try clear_value x1
  split
  · rename_i p2 p3 q4
    have hp5 : Keeps W a p3 := Keeps.ofEq2 q4 (by
      refine keeps_drawFree (hW.of rfl) ?_
      · exact hv2)
    split
    · rename_i p6 p7 q8
      have hp9 : Keeps W a p7 := Keeps.ofEq2 q8 (by
        refine keeps_drawFree (hW.of rfl) ?_
        · exact hp5)
      extract_lets -useContext -underBinder x10
      have hx10 : Keeps W a x10 := by
        unfold x10
        refine keeps_dropAnchor (hW.of rfl) ?_
        refine keeps_onGau (hW.of rfl) (fun _ => (by constructor <;> first | exact fun h => Bool.noConfusion ((hW.bit (by rfl)).symm.trans h) | exact fun _ => rfl | (intro _; split <;> rfl))) ?_
        exact hp9
      refine KeepsR.done ?_
      refine keeps_keepGauge (hW.of rfl) ?_
      refine keeps_commitFull (hW.of rfl) ?_
      refine keeps_learnRecord (hW.of rfl) ?_
      exact hx10

theorem keeps_cmdGaugeRelearn {W : Nat} {a : State} (hW : Sub 839442905116917662381243530524633981038862877286164538639625532911389647832214272545193069272850446 W) :
    KeepsC W a (cmdGaugeRelearn) := by
  unfold cmdGaugeRelearn
  intro r p t ht
  dsimp only
  refine keeps_gaugeRelearnBody (hW.of rfl) ?_
  exact ht

theorem keeps_emptyTable {W : Nat} {a : State} {v0 : State} (hW : Sub 216048166358045284433738698354410220672842278318730470007600905679468 W) (hv0 : Keeps W a v0) :
    Keeps W a (emptyTable v0) := by
  unfold emptyTable
  refine Keeps.ite ?_ ?_
  · refine keeps_startTbl1 (hW.of rfl) ?_
    exact hv0
  · exact hv0

theorem keeps_gaugeReadBody {W : Nat} {a : State} {v0 : Sys2Proof.Req} {v1 : List Sys2Proof.Byte} {v2 : State} (hW : Sub 2 W) (hv2 : Keeps W a v2) :
    KeepsR W a (gaugeReadBody v0 v1 v2) := by
  unfold gaugeReadBody
  extract_lets -useContext -underBinder x0
  split
  · rename_i p1 p2 q3
    have hp4 : Keeps W a p2 := Keeps.ofEq2 q3 (by
      refine keeps_lastResult (hW.of rfl) ?_
      · exact hv2)
    split
    · rename_i p5 p6 q7
      have hp8 : Keeps W a p6 := Keeps.ofEq2 q7 (by
        refine keeps_lastResult (hW.of rfl) ?_
        · exact hp4)
      split
      · rename_i p9 p10 q11
        have hp12 : Keeps W a p10 := Keeps.ofEq2 q11 (by
          refine keeps_orFree (hW.of rfl) ?_
          · exact hp8)
        extract_lets -useContext -underBinder x13
        refine KeepsR.done ?_
        exact hp12

theorem keeps_counterEmpty {W : Nat} {a : State} {v0 : Option ℤ} {v1 : State} (hW : Sub 136703170298938245273281389194851335334573089430825777276610662900622062604703500112142108060561984 W) (hv1 : Keeps W a v1) :
    Keeps W a (counterEmpty v0 v1) := by
  unfold counterEmpty
  split
  · refine Keeps.ite ?_ ?_
    · refine keeps_post (hW.of rfl) ?_
      refine keeps_onGau (hW.of rfl) (fun _ => (by constructor <;> first | exact fun h => Bool.noConfusion ((hW.bit (by rfl)).symm.trans h) | exact fun _ => rfl | (intro _; split <;> rfl))) ?_
      exact hv1
    · exact hv1
  · exact hv1

theorem keeps_gaugeParams {W : Nat} {a : State} {v0 : State} (hW : Sub 822355008829550381722083356875277564122041241107311316429611019011554594580289116669512937967198208 W) (hv0 : Keeps W a v0) :
    Keeps W a (gaugeParams v0) := by
  unfold gaugeParams
  extract_lets -useContext -underBinder x0 x1
  have hx1 : Keeps W a x1 := by
    refine keeps_takeOcc (hW.of rfl) ?_
    exact hv0
  try clear_value x1
  refine Keeps.ite ?_ ?_
  · refine keeps_dropAnchor (hW.of rfl) ?_
    refine keeps_onGau (hW.of rfl) (fun _ => (by constructor <;> first | exact fun h => Bool.noConfusion ((hW.bit (by rfl)).symm.trans h) | exact fun _ => rfl | (intro _; split <;> rfl))) ?_
    exact hx1
  · refine Keeps.ite ?_ ?_
    · refine keeps_onGau (hW.of rfl) (fun _ => (by constructor <;> first | exact fun h => Bool.noConfusion ((hW.bit (by rfl)).symm.trans h) | exact fun _ => rfl | (intro _; split <;> rfl))) ?_
      exact hx1
    · exact hx1

theorem keeps_emptyAt {W : Nat} {a : State} {v0 : ℤ} {v1 : State} (hW : Sub 437261110103923384332208486002528483756657904873698357253712162509919006305127588866834216117858169454 W) (hv1 : Keeps W a v1) :
    Keeps W a (emptyAt v0 v1) := by
  unfold emptyAt
  extract_lets -useContext -underBinder x0 x1 x2 x3
  have hx1 : Keeps W a x1 := by
    refine keeps_post (hW.of rfl) ?_
    exact hv1
  have hx2 : Keeps W a x2 := by
    unfold x2
    try clear_value x1
    refine keeps_setAnchor (hW.of rfl) ?_
    refine keeps_onGau (hW.of rfl) (fun _ => (by constructor <;> first | exact fun h => Bool.noConfusion ((hW.bit (by rfl)).symm.trans h) | exact fun _ => rfl | (intro _; split <;> rfl))) ?_
    refine keeps_setSoc (hW.of rfl) ?_
    exact hx1
  have hx3 : Keeps W a x3 := by
    refine Keeps.ite ?_ ?_
    · refine keeps_post (hW.of rfl) ?_
      exact hx2
    · exact hx2
  refine keeps_emptyTable (hW.of rfl) ?_
  exact hx3

theorem keeps_doneAnchor {W : Nat} {a : State} {v0 : State} (hW : Sub 437226934311348649770890165655229554874657903556056217070745093615010435174131530243611404835632668686 W) (hv0 : Keeps W a v0) :
    Keeps W a (doneAnchor v0) := by
  unfold doneAnchor
  refine Keeps.ite ?_ ?_
  · refine keeps_setAnchor (hW.of rfl) ?_
    refine keeps_onGau (hW.of rfl) (fun _ => (by constructor <;> first | exact fun h => Bool.noConfusion ((hW.bit (by rfl)).symm.trans h) | exact fun _ => rfl | (intro _; split <;> rfl))) ?_
    refine keeps_setSoc (hW.of rfl) ?_
    exact hv0
  · exact hv0

theorem keeps_qiDelivery {W : Nat} {a : State} {v0 : ℤ} {v1 : State} (hW : Sub 11420769134797495376513722225290714670612750336 W) (hv1 : Keeps W a v1) :
    Keeps W a (qiDelivery v0 v1) := by
  unfold qiDelivery
  refine Keeps.ite ?_ ?_
  · exact hv1
  · extract_lets -useContext -underBinder x0 x1
    have hx0 : Keeps W a x0 := by
      refine keeps_takeOcc (hW.of rfl) ?_
      exact hv1
    try clear_value x0
    refine Keeps.upd_17 (hW.bit rfl) (by constructor <;> first | exact fun h => Bool.noConfusion ((hW.bit (by rfl)).symm.trans h) | exact fun _ => rfl | (intro _; split <;> rfl)) ?_
    exact hx0

theorem keeps_cmdGaugeRead {W : Nat} {a : State} (hW : Sub 2 W) :
    KeepsC W a (cmdGaugeRead) := by
  unfold cmdGaugeRead
  intro r p t ht
  dsimp only
  refine keeps_gaugeReadBody (hW.of rfl) ?_
  exact ht

theorem keeps_gaugeTemp {W : Nat} {a : State} {v0 : State} (hW : Sub 428701142057470337177010436515053787609221208455069637539451038856350787843077680951808582696652767232 W) (hv0 : Keeps W a v0) :
    Keeps W a (gaugeTemp v0) := by
  unfold gaugeTemp
  split
  · refine keeps_onGau (hW.of rfl) (fun _ => (by constructor <;> first | exact fun h => Bool.noConfusion ((hW.bit (by rfl)).symm.trans h) | exact fun _ => rfl | (intro _; split <;> rfl))) ?_
    exact hv0
  · refine keeps_onGau (hW.of rfl) (fun _ => (by constructor <;> first | exact fun h => Bool.noConfusion ((hW.bit (by rfl)).symm.trans h) | exact fun _ => rfl | (intro _; split <;> rfl))) ?_
    exact hv0

theorem keeps_restAt {W : Nat} {a : State} {v0 : ℤ} {v1 : State} (hW : Sub 437201569465297088963661724772468791443296996439853231819101972495917546314887885137079882160850296846 W) (hv1 : Keeps W a v1) :
    Keeps W a (restAt v0 v1) := by
  unfold restAt
  extract_lets -useContext -underBinder x0
  refine keeps_setAnchor (hW.of rfl) ?_
  refine keeps_onGau (hW.of rfl) (fun _ => (by constructor <;> first | exact fun h => Bool.noConfusion ((hW.bit (by rfl)).symm.trans h) | exact fun _ => rfl | (intro _; split <;> rfl))) ?_
  refine keeps_setSoc (hW.of rfl) ?_
  exact hv1

theorem keeps_gaugeRep {W : Nat} {a : State} {v0 : Option ℤ} {v1 : State} (hW : Sub 559944729492594736279690150228935747738869785126751810336077063407379256673943358907419465166383742976 W) (hv1 : Keeps W a v1) :
    Keeps W a (gaugeRep v0 v1) := by
  unfold gaugeRep
  extract_lets -useContext -underBinder x0 x1
  refine keeps_onGau (hW.of rfl) (fun _ => (by constructor <;> first | exact fun h => Bool.noConfusion ((hW.bit (by rfl)).symm.trans h) | exact fun _ => rfl | (intro _; split <;> rfl))) ?_
  exact hv1

theorem keeps_gaugeCharge {W : Nat} {a : State} {v0 : State} (hW : Sub 3464610488023880690481249515308577666599706885296154390930345508157385106281125913987419929809868816384 W) (hv0 : Keeps W a v0) :
    Keeps W a (gaugeCharge v0) := by
  unfold gaugeCharge
  extract_lets -useContext -underBinder x0
  refine keeps_onGau (hW.of rfl) (fun _ => (by constructor <;> first | exact fun h => Bool.noConfusion ((hW.bit (by rfl)).symm.trans h) | exact fun _ => rfl | (intro _; split <;> rfl))) ?_
  exact hv0

theorem keeps_gaugeSecond {W : Nat} {a : State} {v0 : State} (hW : Sub 4454283902837413466744462257182091392111928942422262036079016259124578127375135045746154071405946221120 W) (hv0 : Keeps W a v0) :
    Keeps W a (gaugeSecond v0) := by
  unfold gaugeSecond
  extract_lets -useContext -underBinder x0 x1 x2
  have hx1 : Keeps W a x1 := by
    unfold x1
    refine keeps_gaugeTemp (hW.of rfl) ?_
    refine keeps_gaugeCharge (hW.of rfl) ?_
    refine keeps_gaugeParams (hW.of rfl) ?_
    refine keeps_onGau (hW.of rfl) (fun _ => (by constructor <;> first | exact fun h => Bool.noConfusion ((hW.bit (by rfl)).symm.trans h) | exact fun _ => rfl | (intro _; split <;> rfl))) ?_
    exact hv0
  have hx2 : Keeps W a x2 := by
    refine keeps_gaugeRep (hW.of rfl) ?_
    refine keeps_counterEmpty (hW.of rfl) ?_
    exact hx1
  try clear_value x1
  try clear_value x2
  refine Keeps.ite ?_ ?_
  · refine keeps_onGau (hW.of rfl) (fun _ => (by constructor <;> first | exact fun h => Bool.noConfusion ((hW.bit (by rfl)).symm.trans h) | exact fun _ => rfl | (intro _; split <;> rfl))) ?_
    exact hx2
  · exact hx2

theorem keeps_restAnchor {W : Nat} {a : State} {v0 : State} (hW : Sub 437201569465297088963661724772468791443296996439853231819101972495917546314887885137079882160850296846 W) (hv0 : Keeps W a v0) :
    Keeps W a (restAnchor v0) := by
  unfold restAnchor
  refine Keeps.ite ?_ ?_
  · split
    · refine keeps_restAt (hW.of rfl) ?_
      exact hv0
    · exact hv0
  · exact hv0

theorem keeps_gaugeSource {W : Nat} {a : State} {v0 : State} (hW : Sub 205588752207387595430520839218819391030510310276827829107402754752888648606386652939710101001863168 W) (hv0 : Keeps W a v0) :
    Keeps W a (gaugeSource v0) := by
  unfold gaugeSource
  refine keeps_onGau (hW.of rfl) (fun _ => (by constructor <;> first | exact fun h => Bool.noConfusion ((hW.bit (by rfl)).symm.trans h) | exact fun _ => rfl | (intro _; split <;> rfl))) ?_
  exact hv0

theorem keeps_gaugeWatch {W : Nat} {a : State} {v0 : Sys2Proof.Machine.Q7Pair} {v1 : State} (hW : Sub 69152580287939463917538827737239249710262558911296633427035472053244363622148237806993397698789376 W) (hv1 : Keeps W a v1) :
    Keeps W a (gaugeWatch v0 v1) := by
  unfold gaugeWatch
  extract_lets -useContext -underBinder x0 x1 x2
  refine keeps_onGau (hW.of rfl) (fun _ => (by constructor <;> first | exact fun h => Bool.noConfusion ((hW.bit (by rfl)).symm.trans h) | exact fun _ => rfl | (intro _; split <;> rfl))) ?_
  exact hv1

theorem keeps_batteryEmpty {W : Nat} {a : State} {v0 : State} (hW : Sub 437261110103923384332208486002528483756657904873698357253712162509919006305127588866834216117858169454 W) (hv0 : Keeps W a v0) :
    Keeps W a (batteryEmpty v0) := by
  unfold batteryEmpty
  refine Keeps.ite ?_ ?_
  · split
    · refine keeps_emptyAt (hW.of rfl) ?_
      exact hv0
    · exact hv0
  · exact hv0

end Sys2Proof.Machine
end

