-- ==== Sys2Proof/Laws/KeepsGeyser.lean ====
section
/-! SUPPORT. What the operations of Machine/Geyser.lean keep (`Keeps`): one lemma for each. -/

namespace Sys2Proof.Machine

set_option linter.unusedVariables false
set_option linter.unusedTactic false
set_option linter.unreachableTactic false

theorem keeps_onChg {W : Nat} {a : State} {v0 : Charger → Charger} {v1 : State} (hW : Sub 67108864 W)
    (hv0 : ∀ c, ChargerK W c (v0 c)) (hv1 : Keeps W a v1) : Keeps W a (onChg v0 v1) :=
  Keeps.upd_26 (hW.bit rfl) (hv0 _) hv1

theorem keeps_timerReset {W : Nat} {a : State} {v0 : State} (hW : Sub 195555453728110664281770786087300303460940965791929880061069483138020604777280323793673256960 W) (hv0 : Keeps W a v0) :
    Keeps W a (timerReset v0) := by
  unfold timerReset
  refine keeps_onChg (hW.of rfl) (fun _ => (by constructor <;> first | exact fun h => Bool.noConfusion ((hW.bit (by rfl)).symm.trans h) | exact fun _ => rfl | (intro _; split <;> rfl))) ?_
  exact hv0

theorem keeps_sessionEnd {W : Nat} {a : State} {v0 : ℕ} {v1 : State} (hW : Sub 33570352889992330701703984944986552094128199127614679848664631862576885565131732094346609254414 W) (hv1 : Keeps W a v1) :
    Keeps W a (sessionEnd v0 v1) := by
  unfold sessionEnd
  split
  · exact hv1
  · split
    · rename_i p2 p3 q4
      have hp5 : Keeps W a p3 := Keeps.ofEq2 q4 (by
        refine keeps_orFree (hW.of rfl) ?_
        · exact hv1)
      split
      · rename_i p6 p7 q8
        have hp9 : Keeps W a p7 := Keeps.ofEq2 q8 (by
          refine keeps_orFree (hW.of rfl) ?_
          · exact hp5)
        extract_lets -useContext -underBinder x10
        refine keeps_logRecord (hW.of rfl) ?_
        refine keeps_timerReset (hW.of rfl) ?_
        refine keeps_onChg (hW.of rfl) (fun _ => (by constructor <;> first | exact fun h => Bool.noConfusion ((hW.bit (by rfl)).symm.trans h) | exact fun _ => rfl | (intro _; split <;> rfl))) ?_
        exact hp9

theorem keeps_endIfCause {W : Nat} {a : State} {v0 : State} (hW : Sub 33570352889992330701703984944986552094128199127614679848664631862576885565131732094346609254414 W) (hv0 : Keeps W a v0) :
    Keeps W a (endIfCause v0) := by
  unfold endIfCause
  split
  · refine keeps_sessionEnd (hW.of rfl) ?_
    exact hv0
  · exact hv0

theorem keeps_timerPhase {W : Nat} {a : State} {v0 : Sys2Proof.Machine.ChgPhase} {v1 : State} (hW : Sub 195555453728110664281770786087300303460940965791929880061069483138020604777280323793673256960 W) (hv1 : Keeps W a v1) :
    Keeps W a (timerPhase v0 v1) := by
  unfold timerPhase
  refine keeps_onChg (hW.of rfl) (fun _ => (by constructor <;> first | exact fun h => Bool.noConfusion ((hW.bit (by rfl)).symm.trans h) | exact fun _ => rfl | (intro _; split <;> rfl))) ?_
  exact hv1

theorem keeps_chgSafe {W : Nat} {a : State} {v0 : State} (hW : Sub 24444431716013833035221348260912537932617620723991235007633685392407318102070713008630276096 W) (hv0 : Keeps W a v0) :
    Keeps W a (chgSafe v0) := by
  unfold chgSafe
  extract_lets -useContext -underBinder x0
  have hx0 : Keeps W a x0 := by
    refine keeps_takeOcc (hW.of rfl) ?_
    exact hv0
  try clear_value x0
  refine keeps_onChg (hW.of rfl) (fun _ => (by constructor <;> first | exact fun h => Bool.noConfusion ((hW.bit (by rfl)).symm.trans h) | exact fun _ => rfl | (intro _; split <;> rfl))) ?_
  exact hx0

theorem keeps_setPhase {W : Nat} {a : State} {v0 : Sys2Proof.Machine.ChgPhase} {v1 : ℕ} {v2 : State} (hW : Sub 34176273316717188799877594794495310124068095964412048233354740524063111808450193712575838014157376 W) (hv2 : Keeps W a v2) :
    Keeps W a (setPhase v0 v1 v2) := by
  unfold setPhase
  refine Keeps.ite ?_ ?_
  · exact hv2
  · extract_lets -useContext -underBinder x0 x1 x2
    have hx1 : Keeps W a x1 := by
      unfold x1
      refine keeps_onChg (hW.of rfl) (fun _ => (by constructor <;> first | exact fun h => Bool.noConfusion ((hW.bit (by rfl)).symm.trans h) | exact fun _ => rfl | (intro _; split <;> rfl))) ?_
      refine keeps_timerPhase (hW.of rfl) ?_
      exact hv2
    have hx2 : Keeps W a x2 := by
      unfold x2
      try clear_value x1
      refine keeps_onGau (hW.of rfl) (fun _ => (by constructor <;> first | exact fun h => Bool.noConfusion ((hW.bit (by rfl)).symm.trans h) | exact fun _ => rfl | (intro _; split <;> rfl))) ?_
      exact hx1
    refine keeps_chgSafe (hW.of rfl) ?_
    refine keeps_post (hW.of rfl) ?_
    exact hx2

theorem keeps_setPoint {W : Nat} {a : State} {v0 : ℤ} {v1 : State} (hW : Sub 971334446112864537355352203445788813883727917832137542366017922079336145180277342208 W) (hv1 : Keeps W a v1) :
    Keeps W a (setPoint v0 v1) := by
  unfold setPoint
  extract_lets -useContext -underBinder x0 x1
  have hx1 : Keeps W a x1 := by
    unfold x1
    refine keeps_onChg (hW.of rfl) (fun _ => (by constructor <;> first | exact fun h => Bool.noConfusion ((hW.bit (by rfl)).symm.trans h) | exact fun _ => rfl | (intro _; split <;> rfl))) ?_
    refine Keeps.ite ?_ ?_
    · exact hv1
    · refine keeps_noteSource (hW.of rfl) ?_
      exact hv1
  refine Keeps.ite ?_ ?_
  · refine keeps_calLose (hW.of rfl) ?_
    exact hx1
  · exact hx1

theorem keeps_suspend {W : Nat} {a : State} {v0 : ℕ} {v1 : State} (hW : Sub 34209648130150845680170839475410143934323769568407993225706256076852652871482695200270024874095182 W) (hv1 : Keeps W a v1) :
    Keeps W a (suspend v0 v1) := by
  unfold suspend
  extract_lets -useContext -underBinder x0 x1
  have hx0 : Keeps W a x0 := by
    refine keeps_endIfCause (hW.of rfl) ?_
    exact hv1
  have hx1 : Keeps W a x1 := by
    refine keeps_setPhase (hW.of rfl) ?_
    exact hx0
  try clear_value x0
  try clear_value x1
  refine keeps_setPoint (hW.of rfl) ?_
  refine keeps_onChg (hW.of rfl) (fun _ => (by constructor <;> first | exact fun h => Bool.noConfusion ((hW.bit (by rfl)).symm.trans h) | exact fun _ => rfl | (intro _; split <;> rfl))) ?_
  exact hx1

theorem keeps_sessionBegin {W : Nat} {a : State} {v0 : State} (hW : Sub 58666636118433199284531235826190091038282289737578964018320844941406181433184097138081911537664 W) (hv0 : Keeps W a v0) :
    Keeps W a (sessionBegin v0) := by
  unfold sessionBegin
  refine Keeps.ite ?_ ?_
  · exact hv0
  · extract_lets -useContext -underBinder x0
    refine keeps_onChg (hW.of rfl) (fun _ => (by constructor <;> first | exact fun h => Bool.noConfusion ((hW.bit (by rfl)).symm.trans h) | exact fun _ => rfl | (intro _; split <;> rfl))) ?_
    exact hv0

theorem keeps_enterCheck {W : Nat} {a : State} {v0 : State} (hW : Sub 34234679230465998409042946025728538489827463792481412878503956661919190877910877785768096859959872 W) (hv0 : Keeps W a v0) :
    Keeps W a (enterCheck v0) := by
  unfold enterCheck
  extract_lets -useContext -underBinder x0
  have hx0 : Keeps W a x0 := by
    refine keeps_setPhase (hW.of rfl) ?_
    refine keeps_sessionBegin (hW.of rfl) ?_
    exact hv0
  try clear_value x0
  refine keeps_setPoint (hW.of rfl) ?_
  refine keeps_onChg (hW.of rfl) (fun _ => (by constructor <;> first | exact fun h => Bool.noConfusion ((hW.bit (by rfl)).symm.trans h) | exact fun _ => rfl | (intro _; split <;> rfl))) ?_
  exact hx0

theorem keeps_recheckPoint {W : Nat} {a : State} {v0 : State} (hW : Sub 24444681348966484041406963307388814788826484835794551513629947990413686761155364455528275968 W) (hv0 : Keeps W a v0) :
    Keeps W a (recheckPoint v0) := by
  unfold recheckPoint
  extract_lets -useContext -underBinder x0 x1
  have hx1 : Keeps W a x1 := by
    unfold x1
    refine keeps_onChg (hW.of rfl) (fun _ => (by constructor <;> first | exact fun h => Bool.noConfusion ((hW.bit (by rfl)).symm.trans h) | exact fun _ => rfl | (intro _; split <;> rfl))) ?_
    exact hv0
  refine Keeps.ite ?_ ?_
  · refine keeps_setPoint (hW.of rfl) ?_
    exact hv0
  · refine keeps_setPoint (hW.of rfl) ?_
    refine Keeps.ite ?_ ?_
    · refine keeps_chgSafe (hW.of rfl) ?_
      exact hx1
    · exact hx1

theorem keeps_chgJudge {W : Nat} {a : State} {v0 : State} (hW : Sub 34234679230465998409042946025728538489827463792481412928942137699176407404913404818272006650950222 W) (hv0 : Keeps W a v0) :
    Keeps W a (chgJudge v0) := by
  unfold chgJudge
  refine Keeps.ite ?_ ?_
  · split
    · refine Keeps.ite ?_ ?_
      · refine keeps_onChg (hW.of rfl) (fun _ => (by constructor <;> first | exact fun h => Bool.noConfusion ((hW.bit (by rfl)).symm.trans h) | exact fun _ => rfl | (intro _; split <;> rfl))) ?_
        refine keeps_endIfCause (hW.of rfl) ?_
        exact hv0
      · refine keeps_suspend (hW.of rfl) ?_
        exact hv0
    · refine Keeps.ite ?_ ?_
      · refine keeps_enterCheck (hW.of rfl) ?_
        exact hv0
      · refine Keeps.ite ?_ ?_
        · refine keeps_recheckPoint (hW.of rfl) ?_
          exact hv0
        · refine keeps_setPoint (hW.of rfl) ?_
          exact hv0
  · refine keeps_setPoint (hW.of rfl) ?_
    exact hv0

theorem keeps_chgSourceCome {W : Nat} {a : State} {v0 : State} (hW : Sub 239823431819797839402279926419881496097096179266459565848707939446341390265246551463607739927982670 W) (hv0 : Keeps W a v0) :
    Keeps W a (chgSourceCome v0) := by
  unfold chgSourceCome
  refine keeps_chgJudge (hW.of rfl) ?_
  refine keeps_gaugeSource (hW.of rfl) ?_
  refine keeps_onChg (hW.of rfl) (fun _ => (by constructor <;> first | exact fun h => Bool.noConfusion ((hW.bit (by rfl)).symm.trans h) | exact fun _ => rfl | (intro _; split <;> rfl))) ?_
  exact hv0

theorem keeps_prechargeExit {W : Nat} {a : State} {v0 : State} (hW : Sub 34176273334953993025646626447753654395623913729878204959455006347596240916591367573942310396768832 W) (hv0 : Keeps W a v0) :
    Keeps W a (prechargeExit v0) := by
  unfold prechargeExit
  refine Keeps.ite ?_ ?_
  · extract_lets -useContext -underBinder x0
    refine keeps_setPoint (hW.of rfl) ?_
    refine keeps_onChg (hW.of rfl) (fun _ => (by constructor <;> first | exact fun h => Bool.noConfusion ((hW.bit (by rfl)).symm.trans h) | exact fun _ => rfl | (intro _; split <;> rfl))) ?_
    refine keeps_setPhase (hW.of rfl) ?_
    exact hv0
  · exact hv0

theorem keeps_enterTopoff {W : Nat} {a : State} {v0 : ℤ} {v1 : State} (hW : Sub 34176273332721866468479263745267192664683690506146079501384098037677908457801366550241525832364608 W) (hv1 : Keeps W a v1) :
    Keeps W a (enterTopoff v0 v1) := by
  unfold enterTopoff
  extract_lets -useContext -underBinder x0
  have hx0 : Keeps W a x0 := by
    unfold x0
    refine keeps_onChg (hW.of rfl) (fun _ => (by constructor <;> first | exact fun h => Bool.noConfusion ((hW.bit (by rfl)).symm.trans h) | exact fun _ => rfl | (intro _; split <;> rfl))) ?_
    refine keeps_setPhase (hW.of rfl) ?_
    exact hv1
  refine keeps_setPoint (hW.of rfl) ?_
  exact hx0

theorem keeps_takeChoice {W : Nat} {a : State} {v0 : Sys2Proof.Machine.StepChoice} {v1 : State} (hW : Sub 34176273332721866468479263745267192664683690506146079501384098037677908457801366550241525832364608 W) (hv1 : Keeps W a v1) :
    Keeps W a (takeChoice v0 v1) := by
  unfold takeChoice
  split
  · refine keeps_onChg (hW.of rfl) (fun _ => (by constructor <;> first | exact fun h => Bool.noConfusion ((hW.bit (by rfl)).symm.trans h) | exact fun _ => rfl | (intro _; split <;> rfl))) ?_
    exact hv1
  · refine keeps_enterTopoff (hW.of rfl) ?_
    exact hv1

theorem keeps_checkDecision {W : Nat} {a : State} {v0 : ℤ} {v1 : State} (hW : Sub 34176273332723809137371489474338112126590514025052721908223150177199160270211105454526731040862784 W) (hv1 : Keeps W a v1) :
    Keeps W a (checkDecision v0 v1) := by
  unfold checkDecision
  refine Keeps.ite ?_ ?_
  · refine keeps_setPoint (hW.of rfl) ?_
    refine keeps_onChg (hW.of rfl) (fun _ => (by constructor <;> first | exact fun h => Bool.noConfusion ((hW.bit (by rfl)).symm.trans h) | exact fun _ => rfl | (intro _; split <;> rfl))) ?_
    refine keeps_setPhase (hW.of rfl) ?_
    exact hv1
  · refine Keeps.ite ?_ ?_
    · extract_lets -useContext -underBinder x0
      have hx0 : Keeps W a x0 := by
        unfold x0
        refine keeps_onChg (hW.of rfl) (fun _ => (by constructor <;> first | exact fun h => Bool.noConfusion ((hW.bit (by rfl)).symm.trans h) | exact fun _ => rfl | (intro _; split <;> rfl))) ?_
        refine keeps_setPhase (hW.of rfl) ?_
        exact hv1
      refine keeps_setPoint (hW.of rfl) ?_
      exact hx0
    · extract_lets -useContext -underBinder x1 x2
      have hx1 : Keeps W a x1 := by
        refine keeps_setPhase (hW.of rfl) ?_
        exact hv1
      have hx2 : Keeps W a x2 := by
        unfold x2
        try clear_value x1
        refine keeps_onChg (hW.of rfl) (fun _ => (by constructor <;> first | exact fun h => Bool.noConfusion ((hW.bit (by rfl)).symm.trans h) | exact fun _ => rfl | (intro _; split <;> rfl))) ?_
        exact hx1
      refine keeps_takeChoice (hW.of rfl) ?_
      exact hx2

theorem keeps_checkRest {W : Nat} {a : State} {v0 : State} (hW : Sub 34192960731690602865595093902495252876559258074183861333387035298480503350265346457330052119933504 W) (hv0 : Keeps W a v0) :
    Keeps W a (checkRest v0) := by
  unfold checkRest
  split
  · refine keeps_checkDecision (hW.of rfl) ?_
    exact hv0
  · refine keeps_chgSafe (hW.of rfl) ?_
    refine keeps_onChg (hW.of rfl) (fun _ => (by constructor <;> first | exact fun h => Bool.noConfusion ((hW.bit (by rfl)).symm.trans h) | exact fun _ => rfl | (intro _; split <;> rfl))) ?_
    exact hv0

theorem keeps_chargeControlBody {W : Nat} {a : State} {v0 : Sys2Proof.Req} {v1 : List Sys2Proof.Byte} {v2 : State} (hW : Sub 34234679325952059799721981319561930134017065091768993882032899447745490968400028244678414753296974 W) (hv2 : Keeps W a v2) :
    KeepsR W a (chargeControlBody v0 v1 v2) := by
  unfold chargeControlBody
  refine KeepsR.done ?_
  refine keeps_chgJudge (hW.of rfl) ?_
  refine keeps_onChg (hW.of rfl) (fun _ => (by constructor <;> first | exact fun h => Bool.noConfusion ((hW.bit (by rfl)).symm.trans h) | exact fun _ => rfl | (intro _; split <;> rfl))) ?_
  exact hv2

theorem keeps_cmdChargeControl {W : Nat} {a : State} (hW : Sub 34234679325952059799721981319561930134017065091768993882032899447745490968400028244678414753296974 W) :
    KeepsC W a (cmdChargeControl) := by
  unfold cmdChargeControl
  intro r p t ht
  dsimp only
  refine keeps_chargeControlBody (hW.of rfl) ?_
  exact ht

theorem keeps_chargeStatusBody {W : Nat} {a : State} {v0 : Sys2Proof.Req} {v1 : List Sys2Proof.Byte} {v2 : State} (hW : Sub 2 W) (hv2 : Keeps W a v2) :
    KeepsR W a (chargeStatusBody v0 v1 v2) := by
  unfold chargeStatusBody
  extract_lets -useContext -underBinder x0
  split
  · rename_i p1 p2 q3
    have hp4 : Keeps W a p2 := Keeps.ofEq2 q3 (by
      refine keeps_orFree (hW.of rfl) ?_
      · exact hv2)
    refine KeepsR.done ?_
    exact hp4

theorem keeps_keepFigures {W : Nat} {a : State} {v0 : Sys2Proof.Machine.RestCalc} {v1 : State} (hW : Sub 17498046995279680783626626509986573314089284552042492991300897716584071736602413799509651269414289408 W) (hv1 : Keeps W a v1) :
    Keeps W a (keepFigures v0 v1) := by
  unfold keepFigures
  extract_lets -useContext -underBinder x0
  have hx0 : Keeps W a x0 := by
    unfold x0
    refine keeps_onChg (hW.of rfl) (fun _ => (by constructor <;> first | exact fun h => Bool.noConfusion ((hW.bit (by rfl)).symm.trans h) | exact fun _ => rfl | (intro _; split <;> rfl))) ?_
    exact hv1
  try clear_value x0
  split
  · refine keeps_onGau (hW.of rfl) (fun _ => (by constructor <;> first | exact fun h => Bool.noConfusion ((hW.bit (by rfl)).symm.trans h) | exact fun _ => rfl | (intro _; split <;> rfl))) ?_
    refine keeps_onChg (hW.of rfl) (fun _ => (by constructor <;> first | exact fun h => Bool.noConfusion ((hW.bit (by rfl)).symm.trans h) | exact fun _ => rfl | (intro _; split <;> rfl))) ?_
    exact hx0
  · exact hx0

theorem keeps_invalidRest {W : Nat} {a : State} {v0 : State} (hW : Sub 16687414636361012916335114193520490407247550108792988958442499698461977008242967268532892467200 W) (hv0 : Keeps W a v0) :
    Keeps W a (invalidRest v0) := by
  unfold invalidRest
  refine keeps_onChg (hW.of rfl) (fun _ => (by constructor <;> first | exact fun h => Bool.noConfusion ((hW.bit (by rfl)).symm.trans h) | exact fun _ => rfl | (intro _; split <;> rfl))) ?_
  exact hv0

theorem keeps_geyserDecision {W : Nat} {a : State} {v0 : Sys2Proof.Machine.RestFigures} {v1 : State} (hW : Sub 17537579923608880229193668625378829952636719470925218912489672193382913729096564980641447788662501952 W) (hv1 : Keeps W a v1) :
    Keeps W a (geyserDecision v0 v1) := by
  unfold geyserDecision
  refine Keeps.ite ?_ ?_
  · extract_lets -useContext -underBinder x0 x1 x2 x3 x4
    have hx3 : Keeps W a x3 := by
      refine keeps_shortRest (hW.of rfl) ?_
      refine keeps_keepFigures (hW.of rfl) ?_
      exact hv1
    try clear_value x3
    refine keeps_takeChoice (hW.of rfl) ?_
    refine keeps_onChg (hW.of rfl) (fun _ => (by constructor <;> first | exact fun h => Bool.noConfusion ((hW.bit (by rfl)).symm.trans h) | exact fun _ => rfl | (intro _; split <;> rfl))) ?_
    exact hx3
  · refine keeps_onChg (hW.of rfl) (fun _ => (by constructor <;> first | exact fun h => Bool.noConfusion ((hW.bit (by rfl)).symm.trans h) | exact fun _ => rfl | (intro _; split <;> rfl))) ?_
    refine keeps_invalidRest (hW.of rfl) ?_
    exact hv1

theorem keeps_stepDecision {W : Nat} {a : State} {v0 : State} (hW : Sub 17537579923609130833480765744428978563222699704864175782971909919381155212897421299294239260558766656 W) (hv0 : Keeps W a v0) :
    Keeps W a (stepDecision v0) := by
  unfold stepDecision
  refine Keeps.ite ?_ ?_
  · split
    · refine Keeps.ite ?_ ?_
      · exact hv0
      · refine keeps_checkRest (hW.of rfl) ?_
        exact hv0
    · refine Keeps.ite ?_ ?_
      · exact hv0
      · refine keeps_geyserDecision (hW.of rfl) ?_
        exact hv0
    · exact hv0
  · exact hv0

theorem keeps_bandLower {W : Nat} {a : State} {v0 : State} (hW : Sub 24444432687348279148085885616264741378406434607719152839771227758270497676496185654478110720 W) (hv0 : Keeps W a v0) :
    Keeps W a (bandLower v0) := by
  unfold bandLower
  extract_lets -useContext -underBinder x0 x1 x2
  have hx2 : Keeps W a x2 := by
    unfold x2
    refine keeps_onChg (hW.of rfl) (fun _ => (by constructor <;> first | exact fun h => Bool.noConfusion ((hW.bit (by rfl)).symm.trans h) | exact fun _ => rfl | (intro _; split <;> rfl))) ?_
    exact hv0
  refine keeps_setPoint (hW.of rfl) ?_
  exact hx2

theorem keeps_takeTemp {W : Nat} {a : State} {v0 : Option ℤ} {v1 : State} (hW : Sub 34234685341573927412501204831065603717961946946886593926750889607597755468057304108282125201142350 W) (hv1 : Keeps W a v1) :
    Keeps W a (takeTemp v0 v1) := by
  unfold takeTemp
  extract_lets -useContext -underBinder x0
  have hx0 : Keeps W a x0 := by
    unfold x0
    refine keeps_onChg (hW.of rfl) (fun _ => (by constructor <;> first | exact fun h => Bool.noConfusion ((hW.bit (by rfl)).symm.trans h) | exact fun _ => rfl | (intro _; split <;> rfl))) ?_
    exact hv1
  refine keeps_chgJudge (hW.of rfl) ?_
  refine Keeps.ite ?_ ?_
  · exact hx0
  · refine keeps_bandLower (hW.of rfl) ?_
    exact hx0

theorem keeps_bootEnd {W : Nat} {a : State} {v0 : ℤ} {v1 : ℤ} {v2 : State} (hW : Sub 39632777110924360372839695706525453496933105356157673838130514696577046249243789613722259749314985423438 W) (hv2 : Keeps W a v2) :
    Keeps W a (bootEnd v0 v1 v2) := by
  unfold bootEnd
  extract_lets -useContext -underBinder x0 x1
  have hx0 : Keeps W a x0 := by
    unfold x0
    refine keeps_onGau (hW.of rfl) (fun _ => (by constructor <;> first | exact fun h => Bool.noConfusion ((hW.bit (by rfl)).symm.trans h) | exact fun _ => rfl | (intro _; split <;> rfl))) ?_
    refine keeps_onChg (hW.of rfl) (fun _ => (by constructor <;> first | exact fun h => Bool.noConfusion ((hW.bit (by rfl)).symm.trans h) | exact fun _ => rfl | (intro _; split <;> rfl))) ?_
    exact hv2
  have hx1 : Keeps W a x1 := by
    refine keeps_bootDecide (hW.of rfl) ?_
    exact hx0
  split
  · refine Keeps.ite ?_ ?_
    · refine keeps_recheckPoint (hW.of rfl) ?_
      exact hx1
    · refine keeps_checkDecision (hW.of rfl) ?_
      exact hx1
  · refine keeps_setPoint (hW.of rfl) ?_
    exact hx1

theorem keeps_enterDone {W : Nat} {a : State} {v0 : Bool} {v1 : State} (hW : Sub 437226968166904065569584793090973984454893107347387191958999499261289994781755675223342059721526047310 W) (hv1 : Keeps W a v1) :
    Keeps W a (enterDone v0 v1) := by
  unfold enterDone
  extract_lets -useContext -underBinder x0 x1
  have hx0 : Keeps W a x0 := by
    refine Keeps.ite ?_ ?_
    · refine keeps_doneAnchor (hW.of rfl) ?_
      exact hv1
    · exact hv1
  have hx1 : Keeps W a x1 := by
    refine keeps_setPhase (hW.of rfl) ?_
    refine keeps_sessionEnd (hW.of rfl) ?_
    exact hx0
  try clear_value x0
  try clear_value x1
  refine keeps_setPoint (hW.of rfl) ?_
  refine keeps_onChg (hW.of rfl) (fun _ => (by constructor <;> first | exact fun h => Bool.noConfusion ((hW.bit (by rfl)).symm.trans h) | exact fun _ => rfl | (intro _; split <;> rfl))) ?_
  exact hx1

theorem keeps_recoveryFailed {W : Nat} {a : State} {v0 : State} (hW : Sub 34234679739724992492664467592839960592172004055348511345426200358211519743508729759106183196799566 W) (hv0 : Keeps W a v0) :
    Keeps W a (recoveryFailed v0) := by
  unfold recoveryFailed
  refine Keeps.ite ?_ ?_
  · refine keeps_chgJudge (hW.of rfl) ?_
    refine keeps_onChg (hW.of rfl) (fun _ => (by constructor <;> first | exact fun h => Bool.noConfusion ((hW.bit (by rfl)).symm.trans h) | exact fun _ => rfl | (intro _; split <;> rfl))) ?_
    exact hv0
  · exact hv0

theorem keeps_fallingEdge {W : Nat} {a : State} {v0 : Bool} {v1 : State} (hW : Sub 24444794023762233133693076636179410552923070095391216537722180595533451617603906357621170178 W) (hv1 : Keeps W a v1) :
    Keeps W a (fallingEdge v0 v1) := by
  unfold fallingEdge
  split
  · rename_i p0 p1 q2
    have hp3 : Keeps W a p1 := Keeps.ofEq2 q2 (by
      refine Keeps.ite2 ?_ ?_
      · refine keeps_orFree (hW.of rfl) ?_
        · exact hv1
      · try dsimp only
        exact hv1)
    refine keeps_setPoint (hW.of rfl) ?_
    refine keeps_chgSafe (hW.of rfl) ?_
    refine keeps_onChg (hW.of rfl) (fun _ => (by constructor <;> first | exact fun h => Bool.noConfusion ((hW.bit (by rfl)).symm.trans h) | exact fun _ => rfl | (intro _; split <;> rfl))) ?_
    exact hp3

theorem keeps_restEnd {W : Nat} {a : State} {v0 : State} (hW : Sub 437226976510609643118763817005283537377269797098221894758966187765528802388825053286586150121124360782 W) (hv0 : Keeps W a v0) :
    Keeps W a (restEnd v0) := by
  unfold restEnd
  refine Keeps.ite ?_ ?_
  · split
    · refine Keeps.ite ?_ ?_
      · refine keeps_enterDone (hW.of rfl) ?_
        exact hv0
      · extract_lets -useContext -underBinder x1
        refine keeps_setPoint (hW.of rfl) ?_
        refine keeps_onChg (hW.of rfl) (fun _ => (by constructor <;> first | exact fun h => Bool.noConfusion ((hW.bit (by rfl)).symm.trans h) | exact fun _ => rfl | (intro _; split <;> rfl))) ?_
        exact hv0
    · exact hv0
  · exact hv0

theorem keeps_bootRest {W : Nat} {a : State} {v0 : State} (hW : Sub 39632777110924360372839695706525453496933105356157673838130514696577046249243789613722259749314985423438 W) (hv0 : Keeps W a v0) :
    Keeps W a (bootRest v0) := by
  unfold bootRest
  refine Keeps.ite ?_ ?_
  · split
    · rename_i p0 p1 q2
      have hp3 : Keeps W a p1 := Keeps.ofEq2 q2 (by
        refine keeps_orFree (hW.of rfl) ?_
        · exact hv0)
      split
      · rename_i p4 p5 q6
        have hp7 : Keeps W a p5 := Keeps.ofEq2 q6 (by
          refine keeps_orFree (hW.of rfl) ?_
          · exact hp3)
        refine keeps_bootEnd (hW.of rfl) ?_
        exact hp7
  · exact hv0

theorem keeps_cmdChargeStatus {W : Nat} {a : State} (hW : Sub 2 W) :
    KeepsC W a (cmdChargeStatus) := by
  unfold cmdChargeStatus
  intro r p t ht
  dsimp only
  refine keeps_chargeStatusBody (hW.of rfl) ?_
  exact ht

theorem keeps_wholeSecond {W : Nat} {a : State} {v0 : State} (hW : Sub 437226993198004381207980888253956570579314087747490992039304444905947198849242208367686133004605026894 W) (hv0 : Keeps W a v0) :
    Keeps W a (wholeSecond v0) := by
  unfold wholeSecond
  split
  · extract_lets -useContext -underBinder x1
    have hx1 : Keeps W a x1 := by
      refine keeps_chgSafe (hW.of rfl) ?_
      exact hv0
    refine keeps_setPoint (hW.of rfl) ?_
    exact hx1
  · extract_lets -useContext -underBinder x3
    have hx3 : Keeps W a x3 := by
      refine keeps_chgSafe (hW.of rfl) ?_
      exact hv0
    refine Keeps.ite ?_ ?_
    · refine keeps_enterDone (hW.of rfl) ?_
      exact hx3
    · refine keeps_setPoint (hW.of rfl) ?_
      exact hx3
  · refine Keeps.ite ?_ ?_
    · refine keeps_enterCheck (hW.of rfl) ?_
      exact hv0
    · exact hv0
  · exact hv0

theorem keeps_pulseEnd {W : Nat} {a : State} {v0 : Bool} {v1 : State} (hW : Sub 24444794023762233133693076636179410552923070095391216537722180595533451617603906357621170178 W) (hv1 : Keeps W a v1) :
    Keeps W a (pulseEnd v0 v1) := by
  unfold pulseEnd
  refine Keeps.ite ?_ ?_
  · refine keeps_fallingEdge (hW.of rfl) ?_
    exact hv1
  · exact hv1

theorem keeps_phaseWholeSecond {W : Nat} {a : State} {v0 : State} (hW : Sub 437226993198004381207980888253956570579314087747490992039304444905947198849242208367686133004605026894 W) (hv0 : Keeps W a v0) :
    Keeps W a (phaseWholeSecond v0) := by
  unfold phaseWholeSecond
  refine Keeps.ite ?_ ?_
  · refine keeps_wholeSecond (hW.of rfl) ?_
    refine keeps_onChg (hW.of rfl) (fun _ => (by constructor <;> first | exact fun h => Bool.noConfusion ((hW.bit (by rfl)).symm.trans h) | exact fun _ => rfl | (intro _; split <;> rfl))) ?_
    exact hv0
  · exact hv0

theorem keeps_timeoutTrip {W : Nat} {a : State} {v0 : State} (hW : Sub 34234679612410243971759087201062105066585868989631736741305184693452741658859898523897639060337230 W) (hv0 : Keeps W a v0) :
    Keeps W a (timeoutTrip v0) := by
  unfold timeoutTrip
  refine keeps_chgJudge (hW.of rfl) ?_
  refine keeps_onChg (hW.of rfl) (fun _ => (by constructor <;> first | exact fun h => Bool.noConfusion ((hW.bit (by rfl)).symm.trans h) | exact fun _ => rfl | (intro _; split <;> rfl))) ?_
  exact hv0

theorem keeps_chgCoreReset {W : Nat} {a : State} {v0 : State} (hW : Sub 24078409584691798969511270604124105088379311566631743296155588912508849162975956797751296 W) (hv0 : Keeps W a v0) :
    Keeps W a (chgCoreReset v0) := by
  unfold chgCoreReset
  refine keeps_onChg (hW.of rfl) (fun _ => (by constructor <;> first | exact fun h => Bool.noConfusion ((hW.bit (by rfl)).symm.trans h) | exact fun _ => rfl | (intro _; split <;> rfl))) ?_
  exact hv0

theorem keeps_doneTimer {W : Nat} {a : State} {v0 : State} (hW : Sub 34176273316717188799877594794495310124068095964412048233354740524063111808450193712575838014157376 W) (hv0 : Keeps W a v0) :
    Keeps W a (doneTimer v0) := by
  unfold doneTimer
  refine Keeps.ite ?_ ?_
  · refine keeps_setPhase (hW.of rfl) ?_
    exact hv0
  · exact hv0

theorem keeps_chgResume {W : Nat} {a : State} {v0 : State} (hW : Sub 34234679230590329218145392686267384051864169002506526966641474628536523399136694692525139994833486 W) (hv0 : Keeps W a v0) :
    Keeps W a (chgResume v0) := by
  unfold chgResume
  refine keeps_chgJudge (hW.of rfl) ?_
  refine keeps_setPoint (hW.of rfl) ?_
  refine keeps_chgSafe (hW.of rfl) ?_
  refine keeps_onChg (hW.of rfl) (fun _ => (by constructor <;> first | exact fun h => Bool.noConfusion ((hW.bit (by rfl)).symm.trans h) | exact fun _ => rfl | (intro _; split <;> rfl))) ?_
  exact hv0

theorem keeps_gaugeUpdate {W : Nat} {a : State} {v0 : State} (hW : Sub 4454318137516643932742871300128117120650418769886054517491894763081240046565858214119029166968309559872 W) (hv0 : Keeps W a v0) :
    Keeps W a (gaugeUpdate v0) := by
  unfold gaugeUpdate
  refine Keeps.ite ?_ ?_
  · extract_lets -useContext -underBinder x0
    have hx0 : Keeps W a x0 := by
      refine keeps_gaugeSecond (hW.of rfl) ?_
      exact hv0
    refine Keeps.ite ?_ ?_
    · refine keeps_enterCheck (hW.of rfl) ?_
      exact hx0
    · exact hx0
  · exact hv0

theorem keeps_chgSourceGone {W : Nat} {a : State} {v0 : State} (hW : Sub 34234679994354489534475228376395671643344274186782060553668231687729075912806392229523271469724238 W) (hv0 : Keeps W a v0) :
    Keeps W a (chgSourceGone v0) := by
  unfold chgSourceGone
  refine keeps_chgJudge (hW.of rfl) ?_
  refine keeps_onChg (hW.of rfl) (fun _ => (by constructor <;> first | exact fun h => Bool.noConfusion ((hW.bit (by rfl)).symm.trans h) | exact fun _ => rfl | (intro _; split <;> rfl))) ?_
  exact hv0

theorem keeps_riseWatch {W : Nat} {a : State} {v0 : Sys2Proof.Machine.Q7Pair} {v1 : State} (hW : Sub 5967878836917439705864586977761850081205473809568172609285567722717913964150400573505536 W) (hv1 : Keeps W a v1) :
    Keeps W a (riseWatch v0 v1) := by
  unfold riseWatch
  refine Keeps.ite ?_ ?_
  · refine keeps_onChg (hW.of rfl) (fun _ => (by constructor <;> first | exact fun h => Bool.noConfusion ((hW.bit (by rfl)).symm.trans h) | exact fun _ => rfl | (intro _; split <;> rfl))) ?_
    exact hv1
  · exact hv1

end Sys2Proof.Machine
end

