-- ==== Sys2Proof/Laws/KeepsIntake.lean ====
section
/-! SUPPORT. What the operations of Machine/Intake.lean keep (`Keeps`): one lemma for each. -/

namespace Sys2Proof.Machine

set_option linter.unusedVariables false
set_option linter.unusedTactic false
set_option linter.unreachableTactic false

theorem keeps_onInp {W : Nat} {a : State} {v0 : Intake → Intake} {v1 : State} (hW : Sub 33554432 W)
    (hv0 : ∀ c, IntakeK W c (v0 c)) (hv1 : Keeps W a v1) : Keeps W a (onInp v0 v1) :=
  Keeps.upd_25 (hW.bit rfl) (hv0 _) hv1

theorem keeps_budgetRaise {W : Nat} {a : State} {v0 : State} (hW : Sub 14821387422376473014217086081112052205218558037201992197050570753012880627466240 W) (hv0 : Keeps W a v0) :
    Keeps W a (budgetRaise v0) := by
  unfold budgetRaise
  refine keeps_onInp (hW.of rfl) (fun _ => (by constructor <;> first | exact fun h => Bool.noConfusion ((hW.bit (by rfl)).symm.trans h) | exact fun _ => rfl | (intro _; split <;> rfl))) ?_
  exact hv0

theorem keeps_stepQuiet {W : Nat} {a : State} {v0 : State} (hW : Sub 154742504910672534362398720 W) (hv0 : Keeps W a v0) :
    Keeps W a (stepQuiet v0) := by
  unfold stepQuiet
  refine keeps_takeOcc (hW.of rfl) ?_
  refine keeps_takeOcc (hW.of rfl) ?_
  exact hv0

theorem keeps_stepSafe {W : Nat} {a : State} {v0 : State} (hW : Sub 14821387422376473014217086081112052205218558037201992351793075663685414989864960 W) (hv0 : Keeps W a v0) :
    Keeps W a (stepSafe v0) := by
  unfold stepSafe
  refine keeps_budgetRaise (hW.of rfl) ?_
  refine keeps_stepQuiet (hW.of rfl) ?_
  exact hv0

theorem keeps_onInput {W : Nat} {a : State} {v0 : ℕ} {v1 : Sys2Proof.Machine.Input → Sys2Proof.Machine.Input} {v2 : State} (hW : Sub 27606985387162255149739023449108101809804435888681546220650096928751616 W) (hv2 : Keeps W a v2) :
    Keeps W a (onInput v0 v1 v2) := by
  unfold onInput
  refine keeps_onInp (hW.of rfl) (fun _ => (by constructor <;> first | exact fun h => Bool.noConfusion ((hW.bit (by rfl)).symm.trans h) | exact fun _ => rfl | (intro _; split <;> rfl))) ?_
  exact hv2

theorem keeps_setIn {W : Nat} {a : State} {v0 : ℕ} {v1 : Sys2Proof.Machine.InSt} {v2 : State} (hW : Sub 27607196011745592264112419285163469150669073678872347318872605559095296 W) (hv2 : Keeps W a v2) :
    Keeps W a (setIn v0 v1 v2) := by
  unfold setIn
  extract_lets -useContext -underBinder x0
  have hx0 : Keeps W a x0 := by
    refine keeps_onInput (hW.of rfl) ?_
    exact hv2
  refine Keeps.ite ?_ ?_
  · refine keeps_calLose (hW.of rfl) ?_
    exact hx0
  · exact hx0

theorem keeps_onSearch {W : Nat} {a : State} {v0 : Sys2Proof.Machine.Search → Sys2Proof.Machine.Search} {v1 : State} (hW : Sub 1766847064778384329583297500742918515827483896875618958121606201326174208 W) (hv1 : Keeps W a v1) :
    Keeps W a (onSearch v0 v1) := by
  unfold onSearch
  refine keeps_onInp (hW.of rfl) (fun _ => (by constructor <;> first | exact fun h => Bool.noConfusion ((hW.bit (by rfl)).symm.trans h) | exact fun _ => rfl | (intro _; split <;> rfl))) ?_
  exact hv1

theorem keeps_startSearch {W : Nat} {a : State} {v0 : ℕ} {v1 : State} (hW : Sub 222320813130101356003386213064090703106360355536182853664992371646344550122790912 W) (hv1 : Keeps W a v1) :
    Keeps W a (startSearch v0 v1) := by
  unfold startSearch
  extract_lets -useContext -underBinder x0 x1 x2
  have hx0 : Keeps W a x0 := by
    refine keeps_stepSafe (hW.of rfl) ?_
    refine keeps_takeOcc (hW.of rfl) ?_
    exact hv1
  try clear_value x0
  refine Keeps.ite ?_ ?_
  · refine keeps_setIn (hW.of rfl) ?_
    refine keeps_onInp (hW.of rfl) (fun _ => (by constructor <;> first | exact fun h => Bool.noConfusion ((hW.bit (by rfl)).symm.trans h) | exact fun _ => rfl | (intro _; split <;> rfl))) ?_
    exact hx0
  · refine Keeps.ite ?_ ?_
    · refine keeps_setIn (hW.of rfl) ?_
      refine keeps_onSearch (hW.of rfl) ?_
      exact hx0
    · refine keeps_setIn (hW.of rfl) ?_
      refine keeps_onSearch (hW.of rfl) ?_
      exact hx0

theorem keeps_setPath {W : Nat} {a : State} {v0 : Sys2Proof.Machine.PathSt} {v1 : State} (hW : Sub 890325489360566065693456902069791650707057695200170666714188133534007296 W) (hv1 : Keeps W a v1) :
    Keeps W a (setPath v0 v1) := by
  unfold setPath
  extract_lets -useContext -underBinder x0
  have hx0 : Keeps W a x0 := by
    unfold x0
    refine keeps_onInp (hW.of rfl) (fun _ => (by constructor <;> first | exact fun h => Bool.noConfusion ((hW.bit (by rfl)).symm.trans h) | exact fun _ => rfl | (intro _; split <;> rfl))) ?_
    exact hv1
  refine Keeps.ite ?_ ?_
  · refine keeps_calLose (hW.of rfl) ?_
    exact hx0
  · exact hx0

theorem keeps_pathEval {W : Nat} {a : State} {v0 : State} (hW : Sub 34234679230465998409042946916053817225810192371564919162678421065369464814893270434237631554613838 W) (hv0 : Keeps W a v0) :
    Keeps W a (pathEval v0) := by
  unfold pathEval
  extract_lets -useContext -underBinder x0
  refine Keeps.ite ?_ ?_
  · exact hv0
  · refine keeps_chgJudge (hW.of rfl) ?_
    refine keeps_setPath (hW.of rfl) ?_
    exact hv0

theorem keeps_takeover {W : Nat} {a : State} {v0 : ℕ} {v1 : State} (hW : Sub 239823431819797841521738387609545739376793579412773066100833233350183300355536896517397015664226894 W) (hv1 : Keeps W a v1) :
    Keeps W a (takeover v0 v1) := by
  unfold takeover
  extract_lets -useContext -underBinder x0 x1
  have hx0 : Keeps W a x0 := by
    unfold x0
    refine keeps_onInp (hW.of rfl) (fun _ => (by constructor <;> first | exact fun h => Bool.noConfusion ((hW.bit (by rfl)).symm.trans h) | exact fun _ => rfl | (intro _; split <;> rfl))) ?_
    exact hv1
  have hx1 : Keeps W a x1 := by
    refine Keeps.ite ?_ ?_
    · refine keeps_startSearch (hW.of rfl) ?_
      exact hx0
    · refine keeps_setIn (hW.of rfl) ?_
      refine keeps_onSearch (hW.of rfl) ?_
      exact hx0
  refine keeps_chgSourceCome (hW.of rfl) ?_
  refine keeps_pathEval (hW.of rfl) ?_
  exact hx1

theorem keeps_lossContract {W : Nat} {a : State} {v0 : ℕ} {v1 : ℕ} {v2 : State} (hW : Sub 267429971724856252125727909712448146555647962631093685501286314627650962849792 W) (hv2 : Keeps W a v2) :
    Keeps W a (lossContract v0 v1 v2) := by
  unfold lossContract
  refine Keeps.ite ?_ ?_
  · refine keeps_onInp (hW.of rfl) (fun _ => (by constructor <;> first | exact fun h => Bool.noConfusion ((hW.bit (by rfl)).symm.trans h) | exact fun _ => rfl | (intro _; split <;> rfl))) ?_
    exact hv2
  · exact hv2

theorem keeps_energyLeave {W : Nat} {a : State} {v0 : ℕ} {v1 : State} (hW : Sub 5575186299632655785383929568162090376626176 W) (hv1 : Keeps W a v1) :
    Keeps W a (energyLeave v0 v1) := by
  unfold energyLeave
  refine Keeps.upd_17 (hW.bit rfl) (by constructor <;> first | exact fun h => Bool.noConfusion ((hW.bit (by rfl)).symm.trans h) | exact fun _ => rfl | (intro _; split <;> rfl)) ?_
  exact hv1

theorem keeps_keepHash {W : Nat} {a : State} {v0 : State} (hW : Sub 15177100720513508366558296147058741458143803430094840009779784451085189728199245824 W) (hv0 : Keeps W a v0) :
    Keeps W a (keepHash v0) := by
  unfold keepHash
  refine keeps_onInp (hW.of rfl) (fun _ => (by constructor <;> first | exact fun h => Bool.noConfusion ((hW.bit (by rfl)).symm.trans h) | exact fun _ => rfl | (intro _; split <;> rfl))) ?_
  exact hv0

theorem keeps_postDetached {W : Nat} {a : State} {v0 : ℕ} {v1 : ℕ} {v2 : State} (hW : Sub 154742504910672534362403392 W) (hv2 : Keeps W a v2) :
    Keeps W a (postDetached v0 v1 v2) := by
  unfold postDetached
  refine keeps_post (hW.of rfl) ?_
  exact hv2

theorem keeps_startCount {W : Nat} {a : State} {v0 : ℕ} {v1 : State} (hW : Sub 27606985387162255149739023449108101809804436043424051131322631291150336 W) (hv1 : Keeps W a v1) :
    Keeps W a (startCount v0 v1) := by
  unfold startCount
  refine Keeps.ite ?_ ?_
  · extract_lets -useContext -underBinder x0
    have hx0 : Keeps W a x0 := by
      refine keeps_takeOcc (hW.of rfl) ?_
      exact hv1
    refine keeps_onInput (hW.of rfl) ?_
    exact hx0
  · refine keeps_onInput (hW.of rfl) ?_
    exact hv1

theorem keeps_restartInput {W : Nat} {a : State} {v0 : ℕ} {v1 : State} (hW : Sub 27606985387162255149739023449108101809804436043424051131322631291150336 W) (hv1 : Keeps W a v1) :
    Keeps W a (restartInput v0 v1) := by
  unfold restartInput
  refine keeps_startCount (hW.of rfl) ?_
  refine keeps_onInput (hW.of rfl) ?_
  exact hv1

theorem keeps_leaveActive {W : Nat} {a : State} {v0 : ℕ} {v1 : ℕ} {v2 : Option ℕ} {v3 : State} (hW : Sub 34234679994354506608980970244050992510550850937617018806914599925216994285109018051031493364642382 W) (hv3 : Keeps W a v3) :
    Keeps W a (leaveActive v0 v1 v2 v3) := by
  unfold leaveActive
  extract_lets -useContext -underBinder x0 x1
  have hx0 : Keeps W a x0 := by
    refine keeps_lossContract (hW.of rfl) ?_
    refine keeps_energyLeave (hW.of rfl) ?_
    refine keeps_stepQuiet (hW.of rfl) ?_
    refine keeps_setIn (hW.of rfl) ?_
    refine keeps_keepHash (hW.of rfl) ?_
    exact hv3
  have hx1 : Keeps W a x1 := by
    unfold x1
    try clear_value x0
    refine keeps_onInp (hW.of rfl) (fun _ => (by constructor <;> first | exact fun h => Bool.noConfusion ((hW.bit (by rfl)).symm.trans h) | exact fun _ => rfl | (intro _; split <;> rfl))) ?_
    exact hx0
  try clear_value x0
  try clear_value x1
  refine Keeps.ite ?_ ?_
  · refine keeps_chgSourceGone (hW.of rfl) ?_
    refine keeps_onInp (hW.of rfl) (fun _ => (by constructor <;> first | exact fun h => Bool.noConfusion ((hW.bit (by rfl)).symm.trans h) | exact fun _ => rfl | (intro _; split <;> rfl))) ?_
    refine keeps_setPath (hW.of rfl) ?_
    exact hx1
  · refine keeps_postDetached (hW.of rfl) ?_
    refine keeps_restartInput (hW.of rfl) ?_
    refine keeps_chgSourceGone (hW.of rfl) ?_
    refine keeps_setPath (hW.of rfl) ?_
    exact hx1

theorem keeps_choose {W : Nat} {a : State} {v0 : State} (hW : Sub 239823432329056850782728059937960238161182546141484305298757392164733875046233421064549540257034830 W) (hv0 : Keeps W a v0) :
    Keeps W a (choose v0) := by
  unfold choose
  refine Keeps.ite ?_ ?_
  · exact hv0
  · split
    · refine keeps_takeover (hW.of rfl) ?_
      exact hv0
    · refine Keeps.ite ?_ ?_
      · exact hv0
      · refine keeps_leaveActive (hW.of rfl) ?_
        exact hv0
    · exact hv0

theorem keeps_contractSettled {W : Nat} {a : State} {v0 : State} (hW : Sub 239823432329056850782728059937960238161182546141484305298757392164733875046233421064549540257034830 W) (hv0 : Keeps W a v0) :
    Keeps W a (contractSettled v0) := by
  unfold contractSettled
  refine Keeps.ite ?_ ?_
  · extract_lets -useContext -underBinder x0
    have hx0 : Keeps W a x0 := by
      unfold x0
      refine keeps_onInp (hW.of rfl) (fun _ => (by constructor <;> first | exact fun h => Bool.noConfusion ((hW.bit (by rfl)).symm.trans h) | exact fun _ => rfl | (intro _; split <;> rfl))) ?_
      exact hv0
    refine Keeps.ite ?_ ?_
    · refine keeps_choose (hW.of rfl) ?_
      refine keeps_startSearch (hW.of rfl) ?_
      exact hx0
    · refine keeps_choose (hW.of rfl) ?_
      refine Keeps.ite ?_ ?_
      · refine keeps_setIn (hW.of rfl) ?_
        exact hx0
      · exact hx0
  · exact hv0

theorem keeps_sendRequest {W : Nat} {a : State} {v0 : Sys2Proof.Machine.Contract} {v1 : State} (hW : Sub 593886770189828767934174622329715714888060507289008049155499249228085733621760 W) (hv1 : Keeps W a v1) :
    Keeps W a (sendRequest v0 v1) := by
  unfold sendRequest
  refine keeps_onInp (hW.of rfl) (fun _ => (by constructor <;> first | exact fun h => Bool.noConfusion ((hW.bit (by rfl)).symm.trans h) | exact fun _ => rfl | (intro _; split <;> rfl))) ?_
  exact hv1

theorem keeps_requestNow {W : Nat} {a : State} {v0 : State} (hW : Sub 593886770189828767934174622329715714888060507289008203898004159900620096020480 W) (hv0 : Keeps W a v0) :
    Keeps W a (requestNow v0) := by
  unfold requestNow
  extract_lets -useContext -underBinder x0 x1
  try clear_value x1
  have hx0 : Keeps W a x0 := by
    refine keeps_takeOcc (hW.of rfl) ?_
    refine keeps_takeOcc (hW.of rfl) ?_
    exact hv0
  split
  · refine keeps_sendRequest (hW.of rfl) ?_
    exact hx0
  · exact hx0

theorem keeps_takeSourceCaps {W : Nat} {a : State} {v0 : List (BitVec 32)} {v1 : State} (hW : Sub 594098791837602174053724618029804865109959805356633278172978752644775210393600 W) (hv1 : Keeps W a v1) :
    Keeps W a (takeSourceCaps v0 v1) := by
  unfold takeSourceCaps
  refine keeps_requestNow (hW.of rfl) ?_
  refine keeps_onInp (hW.of rfl) (fun _ => (by constructor <;> first | exact fun h => Bool.noConfusion ((hW.bit (by rfl)).symm.trans h) | exact fun _ => rfl | (intro _; split <;> rfl))) ?_
  exact hv1

theorem keeps_dropStep {W : Nat} {a : State} {v0 : ℕ} {v1 : State} (hW : Sub 1766847064778384329583297500742918515827483896875618958121606201326174208 W) (hv1 : Keeps W a v1) :
    Keeps W a (dropStep v0 v1) := by
  unfold dropStep
  split
  · refine keeps_onSearch (hW.of rfl) ?_
    exact hv1
  · refine keeps_onSearch (hW.of rfl) ?_
    exact hv1
  · exact hv1

theorem keeps_clipLim {W : Nat} {a : State} {v0 : State} (hW : Sub 1766847064778384329583297500742918515827483896875618958121606201326174208 W) (hv0 : Keeps W a v0) :
    Keeps W a (clipLim v0) := by
  unfold clipLim
  split
  · refine Keeps.ite ?_ ?_
    · refine keeps_onSearch (hW.of rfl) ?_
      refine keeps_dropStep (hW.of rfl) ?_
      exact hv0
    · exact hv0
  · exact hv0

theorem keeps_takeAccept {W : Nat} {a : State} {v0 : State} (hW : Sub 5429521030063975044809473219782988599137858015098777058307695856572254126080 W) (hv0 : Keeps W a v0) :
    Keeps W a (takeAccept v0) := by
  unfold takeAccept
  split
  · refine keeps_clipLim (hW.of rfl) ?_
    refine keeps_onInp (hW.of rfl) (fun _ => (by constructor <;> first | exact fun h => Bool.noConfusion ((hW.bit (by rfl)).symm.trans h) | exact fun _ => rfl | (intro _; split <;> rfl))) ?_
    exact hv0
  · exact hv0

theorem keeps_takePsRdy {W : Nat} {a : State} {v0 : State} (hW : Sub 239823432329056850782800429993733560783322278007114735241165685905149900398758082054554485963059790 W) (hv0 : Keeps W a v0) :
    Keeps W a (takePsRdy v0) := by
  unfold takePsRdy
  split
  · extract_lets -useContext -underBinder x2 x3 x4
    refine keeps_choose (hW.of rfl) ?_
    refine keeps_clipLim (hW.of rfl) ?_
    refine keeps_onInp (hW.of rfl) (fun _ => (by constructor <;> first | exact fun h => Bool.noConfusion ((hW.bit (by rfl)).symm.trans h) | exact fun _ => rfl | (intro _; split <;> rfl))) ?_
    exact hv0
  · exact hv0

theorem keeps_takeIdentity {W : Nat} {a : State} {v0 : BitVec 32} {v1 : BitVec 32} {v2 : State} (hW : Sub 231584178474632390847141970017375815706539969331281128078915168015826292834304 W) (hv2 : Keeps W a v2) :
    Keeps W a (takeIdentity v0 v1 v2) := by
  unfold takeIdentity
  refine Keeps.ite ?_ ?_
  · refine keeps_onInp (hW.of rfl) (fun _ => (by constructor <;> first | exact fun h => Bool.noConfusion ((hW.bit (by rfl)).symm.trans h) | exact fun _ => rfl | (intro _; split <;> rfl))) ?_
    exact hv2
  · exact hv2

theorem keeps_takeOther {W : Nat} {a : State} {v0 : Bool} {v1 : State} (hW : Sub 14474011154664524427946373126085988481658748083205070504932198000989174759424 W) (hv1 : Keeps W a v1) :
    Keeps W a (takeOther v0 v1) := by
  unfold takeOther
  refine Keeps.ite ?_ ?_
  · exact hv1
  · refine keeps_onInp (hW.of rfl) (fun _ => (by constructor <;> first | exact fun h => Bool.noConfusion ((hW.bit (by rfl)).symm.trans h) | exact fun _ => rfl | (intro _; split <;> rfl))) ?_
    exact hv1

theorem keeps_takeMsg {W : Nat} {a : State} {v0 : State} {v1 : Sys2Proof.Machine.PdMsg} (hW : Sub 239823432329056850783379432844249696441664042931298192610476415688091628233810364893142882634134094 W) (hv0 : Keeps W a v0) :
    Keeps W a (takeMsg v0 v1) := by
  unfold takeMsg
  split
  · refine keeps_takeSourceCaps (hW.of rfl) ?_
    exact hv0
  · refine keeps_takeAccept (hW.of rfl) ?_
    exact hv0
  · refine keeps_takePsRdy (hW.of rfl) ?_
    exact hv0
  · refine keeps_takeIdentity (hW.of rfl) ?_
    exact hv0
  · refine keeps_takeOther (hW.of rfl) ?_
    exact hv0

theorem keeps_shipCheck {W : Nat} {a : State} {v0 : State} (hW : Sub 885443715538058477600 W) (hv0 : Keeps W a v0) :
    Keeps W a (shipCheck v0) := by
  unfold shipCheck
  refine Keeps.ite ?_ ?_
  · refine Keeps.upd_5 (hW.bit rfl) (by constructor <;> first | exact fun h => Bool.noConfusion ((hW.bit (by rfl)).symm.trans h) | exact fun _ => rfl | (intro _; split <;> rfl)) ?_
    exact hv0
  · exact hv0

theorem keeps_handoverComplete {W : Nat} {a : State} {v0 : ℕ} {v1 : State} (hW : Sub 239823432329056850782728059937960238161182546141484305298757392164733875046234306508265078315512430 W) (hv1 : Keeps W a v1) :
    Keeps W a (handoverComplete v0 v1) := by
  unfold handoverComplete
  refine Keeps.ite ?_ ?_
  · extract_lets -useContext -underBinder x0 x1 x2 x3
    try clear_value x0
    have hx1 : Keeps W a x1 := by
      refine keeps_postDetached (hW.of rfl) ?_
      refine keeps_post (hW.of rfl) ?_
      exact hv1
    have hx2 : Keeps W a x2 := by
      unfold x2
      try clear_value x1
      refine keeps_restartInput (hW.of rfl) ?_
      refine keeps_onInp (hW.of rfl) (fun _ => (by constructor <;> first | exact fun h => Bool.noConfusion ((hW.bit (by rfl)).symm.trans h) | exact fun _ => rfl | (intro _; split <;> rfl))) ?_
      refine keeps_setPath (hW.of rfl) ?_
      exact hx1
    have hx3 : Keeps W a x3 := by
      unfold x3
      try clear_value x1
      try clear_value x2
      split
      · refine Keeps.ite ?_ ?_
        · refine keeps_takeover (hW.of rfl) ?_
          exact hx2
        · refine keeps_choose (hW.of rfl) ?_
          refine keeps_onInp (hW.of rfl) (fun _ => (by constructor <;> first | exact fun h => Bool.noConfusion ((hW.bit (by rfl)).symm.trans h) | exact fun _ => rfl | (intro _; split <;> rfl))) ?_
          exact hx2
      · refine keeps_choose (hW.of rfl) ?_
        exact hx2
    refine keeps_shipCheck (hW.of rfl) ?_
    refine Keeps.ite ?_ ?_
    · refine keeps_pathEval (hW.of rfl) ?_
      refine keeps_chgJudge (hW.of rfl) ?_
      exact hx3
    · exact hx3
  · exact hv1

theorem keeps_inputWake {W : Nat} {a : State} {v0 : ℕ} {v1 : State} (hW : Sub 27606985387162255149739023449108101809804436043424051131322631291155008 W) (hv1 : Keeps W a v1) :
    Keeps W a (inputWake v0 v1) := by
  unfold inputWake
  extract_lets -useContext -underBinder x0
  try clear_value x0
  split
  · refine Keeps.ite ?_ ?_
    · extract_lets -useContext -underBinder x2
      have hx2 : Keeps W a x2 := by
        refine keeps_onInput (hW.of rfl) ?_
        exact hv1
      refine Keeps.ite ?_ ?_
      · refine keeps_postDeferred (hW.of rfl) ?_
        exact hx2
      · exact hx2
    · exact hv1
  · exact hv1

theorem keeps_vocTaken {W : Nat} {a : State} {v0 : ℕ} {v1 : State} (hW : Sub 27606985387162255149739023449108101809804435888681546220650096928751618 W) (hv1 : Keeps W a v1) :
    Keeps W a (vocTaken v0 v1) := by
  unfold vocTaken
  refine Keeps.ite ?_ ?_
  · exact hv1
  · split
    · rename_i p0 p1 q2
      have hp3 : Keeps W a p1 := Keeps.ofEq2 q2 (by
        refine keeps_orFree (hW.of rfl) ?_
        · exact hv1)
      refine keeps_onInput (hW.of rfl) ?_
      exact hp3

theorem keeps_inputQualify {W : Nat} {a : State} {v0 : ℕ} {v1 : State} (hW : Sub 239823432329056850782728059937960238161182546333426306840588784104334502294254836177769019364831822 W) (hv1 : Keeps W a v1) :
    Keeps W a (inputQualify v0 v1) := by
  unfold inputQualify
  extract_lets -useContext -underBinder x0 x1 x2 x3
  have hx0 : Keeps W a x0 := by
    refine keeps_inputWake (hW.of rfl) ?_
    exact hv1
  have hx1 : Keeps W a x1 := by
    refine keeps_onInput (hW.of rfl) ?_
    refine keeps_vocTaken (hW.of rfl) ?_
    exact hx0
  have hx2 : Keeps W a x2 := by
    refine keeps_setIn (hW.of rfl) ?_
    exact hx1
  have hx3 : Keeps W a x3 := by
    refine keeps_post (hW.of rfl) ?_
    exact hx2
  refine Keeps.ite ?_ ?_
  · refine keeps_choose (hW.of rfl) ?_
    refine keeps_autostart (hW.of rfl) ?_
    exact hx3
  · exact hx0

theorem keeps_rpChange {W : Nat} {a : State} {v0 : ℕ} {v1 : State} (hW : Sub 8834235323891921647916487503714592579137419484378094790608031006496653312 W) (hv1 : Keeps W a v1) :
    Keeps W a (rpChange v0 v1) := by
  unfold rpChange
  refine Keeps.ite ?_ ?_
  · refine keeps_clipLim (hW.of rfl) ?_
    refine keeps_onInp (hW.of rfl) (fun _ => (by constructor <;> first | exact fun h => Bool.noConfusion ((hW.bit (by rfl)).symm.trans h) | exact fun _ => rfl | (intro _; split <;> rfl))) ?_
    exact hv1
  · exact hv1

theorem keeps_enableInput {W : Nat} {a : State} {v0 : ℕ} {v1 : State} (hW : Sub 27606985387162255149739023449108101809804436043424051131322631291150336 W) (hv1 : Keeps W a v1) :
    Keeps W a (enableInput v0 v1) := by
  unfold enableInput
  refine Keeps.ite ?_ ?_
  · extract_lets -useContext -underBinder x0
    have hx0 : Keeps W a x0 := by
      refine keeps_onInput (hW.of rfl) ?_
      exact hv1
    refine Keeps.ite ?_ ?_
    · refine keeps_restartInput (hW.of rfl) ?_
      exact hx0
    · exact hx0
  · exact hv1

theorem keeps_fromNow {W : Nat} {a : State} {v0 : State} (hW : Sub 1766847064778384329583297500742918515827483896875618958121606201326174208 W) (hv0 : Keeps W a v0) :
    Keeps W a (fromNow v0) := by
  unfold fromNow
  refine keeps_onSearch (hW.of rfl) ?_
  exact hv0

theorem keeps_demandEnd {W : Nat} {a : State} {v0 : ℕ} {v1 : State} (hW : Sub 1766847064778384329583297500742918515827483896875618958121606201326174208 W) (hv1 : Keeps W a v1) :
    Keeps W a (demandEnd v0 v1) := by
  unfold demandEnd
  refine Keeps.ite ?_ ?_
  · refine keeps_onSearch (hW.of rfl) ?_
    exact hv1
  · exact hv1

theorem keeps_sigFlush {W : Nat} {a : State} {v0 : State} (hW : Sub 91062604323081050199349776882352448748862820580569080623497914009851986263530291204 W) (hv0 : Keeps W a v0) :
    Keeps W a (sigFlush v0) := by
  unfold sigFlush
  refine Keeps.ite ?_ ?_
  · refine keeps_onInp (hW.of rfl) (fun _ => (by constructor <;> first | exact fun h => Bool.noConfusion ((hW.bit (by rfl)).symm.trans h) | exact fun _ => rfl | (intro _; split <;> rfl))) ?_
    refine keeps_writeTwo (hW.of rfl) ?_
    exact hv0
  · exact hv0

theorem keeps_writeSignature {W : Nat} {a : State} {v0 : ℕ} {v1 : ℕ} {v2 : State} (hW : Sub 91062604323081050199349776882352448748862820580569080623497914009851986263530291204 W) (hv2 : Keeps W a v2) :
    Keeps W a (writeSignature v0 v1 v2) := by
  unfold writeSignature
  refine keeps_sigFlush (hW.of rfl) ?_
  refine keeps_onInp (hW.of rfl) (fun _ => (by constructor <;> first | exact fun h => Bool.noConfusion ((hW.bit (by rfl)).symm.trans h) | exact fun _ => rfl | (intro _; split <;> rfl))) ?_
  exact hv2

theorem keeps_settle {W : Nat} {a : State} {v0 : ℕ} {v1 : State} (hW : Sub 91062604323108657395361522474616561168147984049719749697331528862081531403418235460 W) (hv1 : Keeps W a v1) :
    Keeps W a (settle v0 v1) := by
  unfold settle
  extract_lets -useContext -underBinder x0
  refine keeps_writeSignature (hW.of rfl) ?_
  refine keeps_post (hW.of rfl) ?_
  refine keeps_stepQuiet (hW.of rfl) ?_
  refine keeps_setIn (hW.of rfl) ?_
  exact hv1

theorem keeps_dwellEnd {W : Nat} {a : State} {v0 : ℕ} {v1 : ℤ} {v2 : ℤ} {v3 : Bool} {v4 : State} (hW : Sub 91284925136211151555353163095416539451969180936105263477162906381498330813619532356 W) (hv4 : Keeps W a v4) :
    Keeps W a (dwellEnd v0 v1 v2 v3 v4) := by
  unfold dwellEnd
  extract_lets -useContext -underBinder x0 x1 x2
  have hx1 : Keeps W a x1 := by
    refine keeps_onSearch (hW.of rfl) ?_
    refine keeps_stepSafe (hW.of rfl) ?_
    exact hv4
  refine Keeps.ite ?_ ?_
  · refine keeps_stepQuiet (hW.of rfl) ?_
    refine keeps_onSearch (hW.of rfl) ?_
    exact hv4
  · refine Keeps.ite ?_ ?_
    · refine keeps_settle (hW.of rfl) ?_
      refine keeps_onSearch (hW.of rfl) ?_
      exact hv4
    · refine Keeps.ite ?_ ?_
      · refine keeps_startSearch (hW.of rfl) ?_
        exact hx1
      · refine Keeps.ite ?_ ?_
        · refine keeps_settle (hW.of rfl) ?_
          exact hx1
        · refine keeps_onSearch (hW.of rfl) ?_
          exact hx1

theorem keeps_searchStep {W : Nat} {a : State} {v0 : Bool} {v1 : State} (hW : Sub 91284925136211151555353163095416539451969180936105263477162906381498330813619532356 W) (hv1 : Keeps W a v1) :
    Keeps W a (searchStep v0 v1) := by
  unfold searchStep
  split
  · exact hv1
  · refine Keeps.ite ?_ ?_
    · extract_lets -useContext -underBinder x2
      try clear_value x2
      refine Keeps.ite ?_ ?_
      · refine keeps_fromNow (hW.of rfl) ?_
        refine keeps_demandEnd (hW.of rfl) ?_
        exact hv1
      · split
        · refine keeps_dwellEnd (hW.of rfl) ?_
          refine keeps_fromNow (hW.of rfl) ?_
          exact hv1
        · refine Keeps.ite ?_ ?_
          · refine keeps_dwellEnd (hW.of rfl) ?_
            refine keeps_fromNow (hW.of rfl) ?_
            exact hv1
          · refine keeps_fromNow (hW.of rfl) ?_
            exact hv1
    · exact hv1

theorem keeps_wakeCount {W : Nat} {a : State} {v0 : ℕ} {v1 : State} (hW : Sub 27606985387162255149739023449108101809804435888681546220650096928751616 W) (hv1 : Keeps W a v1) :
    Keeps W a (wakeCount v0 v1) := by
  unfold wakeCount
  refine Keeps.ite ?_ ?_
  · refine Keeps.ite ?_ ?_
    · exact hv1
    · refine keeps_onInput (hW.of rfl) ?_
      exact hv1
  · refine keeps_onInput (hW.of rfl) ?_
    exact hv1

theorem keeps_setVin {W : Nat} {a : State} {v0 : ℕ} {v1 : ℕ} {v2 : State} (hW : Sub 27606985387162255149739023449108101809804436043424051131322631291155008 W) (hv2 : Keeps W a v2) :
    Keeps W a (setVin v0 v1 v2) := by
  unfold setVin
  refine keeps_wakeCount (hW.of rfl) ?_
  refine keeps_onInput (hW.of rfl) ?_
  refine keeps_inputWake (hW.of rfl) ?_
  exact hv2

theorem keeps_blockedExit {W : Nat} {a : State} {v0 : ℕ} {v1 : ℕ} {v2 : Bool} {v3 : State} (hW : Sub 27606985387162255149739023449108101809804436043424051131322631291155008 W) (hv3 : Keeps W a v3) :
    Keeps W a (blockedExit v0 v1 v2 v3) := by
  unfold blockedExit
  refine Keeps.ite ?_ ?_
  · extract_lets -useContext -underBinder x0
    have hx0 : Keeps W a x0 := by
      refine keeps_onInput (hW.of rfl) ?_
      refine keeps_setVin (hW.of rfl) ?_
      exact hv3
    refine Keeps.ite ?_ ?_
    · refine keeps_restartInput (hW.of rfl) ?_
      exact hx0
    · exact hx0
  · exact hv3

theorem keeps_loseSource {W : Nat} {a : State} {v0 : ℕ} {v1 : State} (hW : Sub 34234679994354506608980970244050992510550850937617018806914599925216994285109018051031493364642382 W) (hv1 : Keeps W a v1) :
    Keeps W a (loseSource v0 v1) := by
  unfold loseSource
  split
  · refine keeps_leaveActive (hW.of rfl) ?_
    exact hv1
  · exact hv1

theorem keeps_recount {W : Nat} {a : State} {v0 : ℕ} {v1 : State} (hW : Sub 27606985387162255149739023449108101809804436043424051131322631291150336 W) (hv1 : Keeps W a v1) :
    Keeps W a (recount v0 v1) := by
  unfold recount
  refine Keeps.ite ?_ ?_
  · exact hv1
  · refine keeps_startCount (hW.of rfl) ?_
    exact hv1

theorem keeps_disableInput {W : Nat} {a : State} {v0 : ℕ} {v1 : State} (hW : Sub 34234679994354506608980970244050992510550850937617018806914599925216994285109903494747031423119982 W) (hv1 : Keeps W a v1) :
    KeepsR W a (disableInput v0 v1) := by
  unfold disableInput
  extract_lets -useContext -underBinder x0
  have hx0 : Keeps W a x0 := by
    refine keeps_onInput (hW.of rfl) ?_
    exact hv1
  refine KeepsR.ite ?_ ?_
  · refine KeepsR.ite ?_ ?_
    · refine KeepsR.done ?_
      refine keeps_leaveActive (hW.of rfl) ?_
      exact hx0
    · refine keeps_refuse (hW.of rfl) ?_
      exact hv1
  · refine KeepsR.done ?_
    refine keeps_shipCheck (hW.of rfl) ?_
    refine keeps_restartInput (hW.of rfl) ?_
    exact hx0

theorem keeps_rescan {W : Nat} {a : State} {v0 : ℕ} {v1 : State} (hW : Sub 222320813130101356003386213064090703106360355536182853664992371646344550122790912 W) (hv1 : Keeps W a v1) :
    Keeps W a (rescan v0 v1) := by
  unfold rescan
  refine Keeps.ite ?_ ?_
  · refine keeps_startSearch (hW.of rfl) ?_
    exact hv1
  · exact hv1

theorem keeps_forgetSources {W : Nat} {a : State} {v0 : State} (hW : Sub 91062604323081050199349776882352448748862820580569080623497914009851986263530291204 W) (hv0 : Keeps W a v0) :
    KeepsR W a (forgetSources v0) := by
  unfold forgetSources
  refine KeepsR.ite ?_ ?_
  · refine keeps_refuse (hW.of rfl) ?_
    exact hv0
  · refine KeepsR.done ?_
    refine keeps_sigFlush (hW.of rfl) ?_
    refine keeps_onInp (hW.of rfl) (fun _ => (by constructor <;> first | exact fun h => Bool.noConfusion ((hW.bit (by rfl)).symm.trans h) | exact fun _ => rfl | (intro _; split <;> rfl))) ?_
    exact hv0

theorem keeps_intakePolicyBody {W : Nat} {a : State} {v0 : Sys2Proof.Req} {v1 : List Sys2Proof.Byte} {v2 : State} (hW : Sub 34234679994354597893906106427595351851968354090044051490932066879770832795194129422684810618565230 W) (hv2 : Keeps W a v2) :
    KeepsR W a (intakePolicyBody v0 v1 v2) := by
  unfold intakePolicyBody
  extract_lets -useContext -underBinder x0
  try clear_value x0
  split
  · refine keeps_disableInput (hW.of rfl) ?_
    exact hv2
  · refine KeepsR.done ?_
    refine keeps_enableInput (hW.of rfl) ?_
    exact hv2
  · refine KeepsR.done ?_
    refine keeps_rescan (hW.of rfl) ?_
    exact hv2
  · refine keeps_forgetSources (hW.of rfl) ?_
    exact hv2

theorem keeps_ppsFollow {W : Nat} {a : State} {v0 : State} (hW : Sub 593886770189828767934174622329715714888060507289008203898004159900620096020480 W) (hv0 : Keeps W a v0) :
    Keeps W a (ppsFollow v0) := by
  unfold ppsFollow
  split
  · refine Keeps.ite ?_ ?_
    · refine keeps_requestNow (hW.of rfl) ?_
      exact hv0
    · exact hv0
  · exact hv0

theorem keeps_creepBegin {W : Nat} {a : State} {v0 : ℕ} {v1 : ℤ × ℤ} {v2 : State} (hW : Sub 1766847064778384329583297500742918515827483896875618958121606201326174208 W) (hv2 : Keeps W a v2) :
    Keeps W a (creepBegin v0 v1 v2) := by
  unfold creepBegin
  refine keeps_onSearch (hW.of rfl) ?_
  exact hv2

theorem keeps_applyBudget {W : Nat} {a : State} {v0 : State} (hW : Sub 974506224788100165463157739416414933236038706773514883986436490042875634738278976 W) (hv0 : Keeps W a v0) :
    Keeps W a (applyBudget v0) := by
  unfold applyBudget
  extract_lets -useContext -underBinder x0 x1 x2 x3 x4
  try clear_value x0
  try clear_value x1
  try clear_value x2
  have hx3 : Keeps W a x3 := by
    unfold x3
    refine keeps_onInp (hW.of rfl) (fun _ => (by constructor <;> first | exact fun h => Bool.noConfusion ((hW.bit (by rfl)).symm.trans h) | exact fun _ => rfl | (intro _; split <;> rfl))) ?_
    exact hv0
  have hx4 : Keeps W a x4 := by
    refine keeps_clipLim (hW.of rfl) ?_
    refine Keeps.ite ?_ ?_
    · exact hx3
    · split
      · refine keeps_dropStep (hW.of rfl) ?_
        exact hx3
      · exact hx3
  refine Keeps.ite ?_ ?_
  · refine keeps_post (hW.of rfl) ?_
    exact hx4
  · exact hx4

theorem keeps_closeInterval {W : Nat} {a : State} {v0 : Bool} {v1 : State} (hW : Sub 14939958521755484798330822769760948622910744682536865351308720350980160082850045964 W) (hv1 : Keeps W a v1) :
    Keeps W a (closeInterval v0 v1) := by
  unfold closeInterval
  extract_lets -useContext -underBinder x0 x1 x2
  have hx2 : Keeps W a x2 := by
    unfold x2
    refine Keeps.upd_17 (hW.bit rfl) (by constructor <;> first | exact fun h => Bool.noConfusion ((hW.bit (by rfl)).symm.trans h) | exact fun _ => rfl | (intro _; split <;> rfl)) ?_
    exact hv1
  try clear_value x2
  refine keeps_logRecord (hW.of rfl) ?_
  refine keeps_onInp (hW.of rfl) (fun _ => (by constructor <;> first | exact fun h => Bool.noConfusion ((hW.bit (by rfl)).symm.trans h) | exact fun _ => rfl | (intro _; split <;> rfl))) ?_
  exact hx2

theorem keeps_intervalClose {W : Nat} {a : State} {v0 : State} (hW : Sub 14939958521755484798330822769760948622910744682536865351308720350980160082850045964 W) (hv0 : Keeps W a v0) :
    Keeps W a (intervalClose v0) := by
  unfold intervalClose
  refine Keeps.ite ?_ ?_
  · refine keeps_takeOcc (hW.of rfl) ?_
    refine keeps_closeInterval (hW.of rfl) ?_
    exact hv0
  · exact hv0

theorem keeps_rebudget {W : Nat} {a : State} {v0 : State} (hW : Sub 14965895951511490690884086999986192215012795674929452734529177807919538825182016076 W) (hv0 : Keeps W a v0) :
    Keeps W a (rebudget v0) := by
  unfold rebudget
  refine keeps_applyBudget (hW.of rfl) ?_
  refine keeps_intervalClose (hW.of rfl) ?_
  exact hv0

theorem keeps_budgetWindowBody {W : Nat} {a : State} {v0 : Sys2Proof.Req} {v1 : List Sys2Proof.Byte} {v2 : State} (hW : Sub 14966822288225389220447475567866261718275621834806777859041493468591602130219135564 W) (hv2 : Keeps W a v2) :
    KeepsR W a (budgetWindowBody v0 v1 v2) := by
  unfold budgetWindowBody
  extract_lets -useContext -underBinder x0
  have hx0 : Keeps W a x0 := by
    unfold x0
    split
    · refine keeps_rebudget (hW.of rfl) ?_
      refine keeps_onInp (hW.of rfl) (fun _ => (by constructor <;> first | exact fun h => Bool.noConfusion ((hW.bit (by rfl)).symm.trans h) | exact fun _ => rfl | (intro _; split <;> rfl))) ?_
      exact hv2
    · refine keeps_rebudget (hW.of rfl) ?_
      refine keeps_onInp (hW.of rfl) (fun _ => (by constructor <;> first | exact fun h => Bool.noConfusion ((hW.bit (by rfl)).symm.trans h) | exact fun _ => rfl | (intro _; split <;> rfl))) ?_
      exact hv2
    · exact hv2
  refine KeepsR.done ?_
  exact hx0

theorem keeps_cmdBudgetWindow {W : Nat} {a : State} {v0 : List Sys2Proof.Byte} (hW : Sub 14966822288225389220447475567866261718275621834806777859041493468591602130219135564 W) :
    KeepsC W a (cmdBudgetWindow v0) := by
  unfold cmdBudgetWindow
  intro r p t ht
  dsimp only
  refine keeps_budgetWindowBody (hW.of rfl) ?_
  exact ht

theorem keeps_hardReset {W : Nat} {a : State} {v0 : State} (hW : Sub 15177368434947610652130298937879351525900240126282378500439937994978415787240325120 W) (hv0 : Keeps W a v0) :
    Keeps W a (hardReset v0) := by
  unfold hardReset
  refine Keeps.ite ?_ ?_
  · refine keeps_clipLim (hW.of rfl) ?_
    refine keeps_onInp (hW.of rfl) (fun _ => (by constructor <;> first | exact fun h => Bool.noConfusion ((hW.bit (by rfl)).symm.trans h) | exact fun _ => rfl | (intro _; split <;> rfl))) ?_
    refine keeps_keepHash (hW.of rfl) ?_
    exact hv0
  · exact hv0

theorem keeps_budgetPinsChange {W : Nat} {a : State} {v0 : ℕ} {v1 : State} (hW : Sub 14967748624939287750010864135746331221538447994684102983553809129263665435256255052 W) (hv1 : Keeps W a v1) :
    Keeps W a (budgetPinsChange v0 v1) := by
  unfold budgetPinsChange
  extract_lets -useContext -underBinder x0
  have hx0 : Keeps W a x0 := by
    unfold x0
    refine keeps_onInp (hW.of rfl) (fun _ => (by constructor <;> first | exact fun h => Bool.noConfusion ((hW.bit (by rfl)).symm.trans h) | exact fun _ => rfl | (intro _; split <;> rfl))) ?_
    exact hv1
  refine Keeps.ite ?_ ?_
  · refine keeps_rebudget (hW.of rfl) ?_
    exact hx0
  · exact hx0

theorem keeps_queueMsg {W : Nat} {a : State} {v0 : Sys2Proof.Machine.PdMsg} {v1 : State} (hW : Sub 7237005577332262213973186563042994240829374041602535252466099000494604156928 W) (hv1 : Keeps W a v1) :
    Keeps W a (queueMsg v0 v1) := by
  unfold queueMsg
  refine keeps_onInp (hW.of rfl) (fun _ => (by constructor <;> first | exact fun h => Bool.noConfusion ((hW.bit (by rfl)).symm.trans h) | exact fun _ => rfl | (intro _; split <;> rfl))) ?_
  exact hv1

theorem keeps_ppsRequestRepeat {W : Nat} {a : State} {v0 : State} (hW : Sub 593886770189828767934174622329715714888060507289008049155499249228085733621760 W) (hv0 : Keeps W a v0) :
    Keeps W a (ppsRequestRepeat v0) := by
  unfold ppsRequestRepeat
  split
  · refine Keeps.ite ?_ ?_
    · refine keeps_sendRequest (hW.of rfl) ?_
      exact hv0
    · exact hv0
  · exact hv0

theorem keeps_cmdIntakePolicy {W : Nat} {a : State} (hW : Sub 34234679994354597893906106427595351851968354090044051490932066879770832795194129422684810618565230 W) :
    KeepsC W a (cmdIntakePolicy) := by
  unfold cmdIntakePolicy
  intro r p t ht
  dsimp only
  refine keeps_intakePolicyBody (hW.of rfl) ?_
  exact ht

theorem keeps_tcAttach {W : Nat} {a : State} {v0 : ℕ} {v1 : Bool} {v2 : State} (hW : Sub 54772259008129914217082222523030473990652000803144187701769792240104767488 W) (hv2 : Keeps W a v2) :
    Keeps W a (tcAttach v0 v1 v2) := by
  unfold tcAttach
  refine Keeps.ite ?_ ?_
  · refine keeps_clipLim (hW.of rfl) ?_
    refine keeps_onInp (hW.of rfl) (fun _ => (by constructor <;> first | exact fun h => Bool.noConfusion ((hW.bit (by rfl)).symm.trans h) | exact fun _ => rfl | (intro _; split <;> rfl))) ?_
    exact hv2
  · exact hv2

theorem keeps_budgetOverrideExpiry {W : Nat} {a : State} {v0 : State} (hW : Sub 14966822288225389220447475567866261718275621834806777859041493468591602130219135564 W) (hv0 : Keeps W a v0) :
    Keeps W a (budgetOverrideExpiry v0) := by
  unfold budgetOverrideExpiry
  refine Keeps.ite ?_ ?_
  · refine keeps_rebudget (hW.of rfl) ?_
    refine keeps_onInp (hW.of rfl) (fun _ => (by constructor <;> first | exact fun h => Bool.noConfusion ((hW.bit (by rfl)).symm.trans h) | exact fun _ => rfl | (intro _; split <;> rfl))) ?_
    exact hv0
  · exact hv0

theorem keeps_pdRequestBody {W : Nat} {a : State} {v0 : Sys2Proof.Req} {v1 : List Sys2Proof.Byte} {v2 : State} (hW : Sub 594112926614120401128361284409810808458086425227808283124643725494385551351808 W) (hv2 : Keeps W a v2) :
    KeepsR W a (pdRequestBody v0 v1 v2) := by
  unfold pdRequestBody
  extract_lets -useContext -underBinder x0 x1
  refine KeepsR.ite ?_ ?_
  · refine keeps_refuse (hW.of rfl) ?_
    exact hv2
  · refine KeepsR.ite ?_ ?_
    · refine KeepsR.done ?_
      refine keeps_requestNow (hW.of rfl) ?_
      refine keeps_onInp (hW.of rfl) (fun _ => (by constructor <;> first | exact fun h => Bool.noConfusion ((hW.bit (by rfl)).symm.trans h) | exact fun _ => rfl | (intro _; split <;> rfl))) ?_
      exact hv2
    · refine KeepsR.ite ?_ ?_
      · refine keeps_refuse (hW.of rfl) ?_
        exact hv2
      · refine KeepsR.done ?_
        refine keeps_requestNow (hW.of rfl) ?_
        refine keeps_onInp (hW.of rfl) (fun _ => (by constructor <;> first | exact fun h => Bool.noConfusion ((hW.bit (by rfl)).symm.trans h) | exact fun _ => rfl | (intro _; split <;> rfl))) ?_
        exact hv2

theorem keeps_cmdPdRequest {W : Nat} {a : State} (hW : Sub 594112926614120401128361284409810808458086425227808283124643725494385551351808 W) :
    KeepsC W a (cmdPdRequest) := by
  unfold cmdPdRequest
  intro r p t ht
  dsimp only
  refine keeps_pdRequestBody (hW.of rfl) ?_
  exact ht

theorem keeps_creepEnd {W : Nat} {a : State} {v0 : ℕ} {v1 : ℤ} {v2 : ℤ} {v3 : ℤ} {v4 : ℤ} {v5 : Bool} {v6 : State} (hW : Sub 91062604324847897264128161211935746249605739096396564520373532967973592464822910980 W) (hv6 : Keeps W a v6) :
    Keeps W a (creepEnd v0 v1 v2 v3 v4 v5 v6) := by
  unfold creepEnd
  extract_lets -useContext -underBinder x0 x1
  have hx0 : Keeps W a x0 := by
    refine keeps_onSearch (hW.of rfl) ?_
    exact hv6
  refine Keeps.ite ?_ ?_
  · refine keeps_writeSignature (hW.of rfl) ?_
    refine keeps_onSearch (hW.of rfl) ?_
    exact hx0
  · exact hx0

theorem keeps_sourceLoss {W : Nat} {a : State} {v0 : ℤ} {v1 : ℤ} {v2 : State} (hW : Sub 34234679994354506608980970244050992510550850937617018806914599925216994285109018051031493364642382 W) (hv2 : Keeps W a v2) :
    Keeps W a (sourceLoss v0 v1 v2) := by
  unfold sourceLoss
  split
  · refine Keeps.ite ?_ ?_
    · refine keeps_loseSource (hW.of rfl) ?_
      exact hv2
    · refine Keeps.ite ?_ ?_
      · refine keeps_loseSource (hW.of rfl) ?_
        exact hv2
      · exact hv2
  · exact hv2

theorem keeps_tryEnd {W : Nat} {a : State} {v0 : ℕ} {v1 : ℕ × ℤ × ℤ} {v2 : Bool} {v3 : State} (hW : Sub 91062604324847897264128161211935746249605739096396564520528275472884264999185309700 W) (hv3 : Keeps W a v3) :
    Keeps W a (tryEnd v0 v1 v2 v3) := by
  unfold tryEnd
  extract_lets -useContext -underBinder x0
  try clear_value x0
  refine keeps_stepQuiet (hW.of rfl) ?_
  split
  · refine keeps_creepEnd (hW.of rfl) ?_
    exact hv3
  · refine Keeps.ite ?_ ?_
    · refine keeps_creepEnd (hW.of rfl) ?_
      exact hv3
    · refine keeps_onSearch (hW.of rfl) ?_
      exact hv3

theorem keeps_creepTry {W : Nat} {a : State} {v0 : Bool} {v1 : State} (hW : Sub 91284925136211151555353163095416539451969180936105263477162906381498330813619527684 W) (hv1 : Keeps W a v1) :
    Keeps W a (creepTry v0 v1) := by
  unfold creepTry
  split
  · exact hv1
  · refine Keeps.ite ?_ ?_
    · split
      · refine keeps_tryEnd (hW.of rfl) ?_
        refine keeps_fromNow (hW.of rfl) ?_
        exact hv1
      · extract_lets -useContext -underBinder x4 x5
        try clear_value x4
        have hx5 : Keeps W a x5 := by
          refine keeps_stepSafe (hW.of rfl) ?_
          refine keeps_takeOcc (hW.of rfl) ?_
          refine keeps_fromNow (hW.of rfl) ?_
          exact hv1
        refine Keeps.ite ?_ ?_
        · refine keeps_startSearch (hW.of rfl) ?_
          exact hx5
        · split
          · refine keeps_creepBegin (hW.of rfl) ?_
            exact hx5
          · exact hx5
    · exact hv1

theorem keeps_setTime {W : Nat} {a : State} {v0 : ℕ} {v1 : State} (hW : Sub 14939958521755484798330822769760948622910744682536865351308720350980160090366238732 W) (hv1 : Keeps W a v1) :
    Keeps W a (setTime v0 v1) := by
  unfold setTime
  extract_lets -useContext -underBinder x0 x1
  have hx0 : Keeps W a x0 := by
    refine Keeps.ite ?_ ?_
    · refine keeps_takeOcc (hW.of rfl) ?_
      refine keeps_closeInterval (hW.of rfl) ?_
      exact hv1
    · exact hv1
  try clear_value x0
  refine keeps_onInp (hW.of rfl) (fun _ => (by constructor <;> first | exact fun h => Bool.noConfusion ((hW.bit (by rfl)).symm.trans h) | exact fun _ => rfl | (intro _; split <;> rfl))) ?_
  refine Keeps.upd_3 (hW.bit rfl) (by constructor <;> first | exact fun h => Bool.noConfusion ((hW.bit (by rfl)).symm.trans h) | exact fun _ => rfl | (intro _; split <;> rfl)) ?_
  exact hx0

theorem keeps_blockInput {W : Nat} {a : State} {v0 : ℕ} {v1 : State} (hW : Sub 34234679994354506608980970244050992510550850937617018806914599925216994285109903494747031423119982 W) (hv1 : Keeps W a v1) :
    Keeps W a (blockInput v0 v1) := by
  unfold blockInput
  extract_lets -useContext -underBinder x0
  have hx0 : Keeps W a x0 := by
    refine keeps_onInput (hW.of rfl) ?_
    exact hv1
  refine Keeps.ite ?_ ?_
  · refine keeps_loseSource (hW.of rfl) ?_
    exact hx0
  · refine keeps_shipCheck (hW.of rfl) ?_
    refine keeps_restartInput (hW.of rfl) ?_
    exact hx0

theorem keeps_intakeStatusBody {W : Nat} {a : State} {v0 : Sys2Proof.Req} {v1 : List Sys2Proof.Byte} {v2 : State} (hW : Sub 2 W) (hv2 : Keeps W a v2) :
    KeepsR W a (intakeStatusBody v0 v1 v2) := by
  unfold intakeStatusBody
  extract_lets -useContext -underBinder x0 x1
  try clear_value x1
  split
  · rename_i p2 p3 q4
    have hp5 : Keeps W a p3 := Keeps.ofEq2 q4 (by
      refine keeps_orFree (hW.of rfl) ?_
      · exact hv2)
    split
    · rename_i p6 p7 q8
      have hp9 : Keeps W a p7 := Keeps.ofEq2 q8 (by
        refine keeps_orFree (hW.of rfl) ?_
        · exact hp5)
      split
      · rename_i p10 p11 q12
        have hp13 : Keeps W a p11 := Keeps.ofEq2 q12 (by
          refine keeps_orFree (hW.of rfl) ?_
          · exact hp9)
        split
        · rename_i p14 p15 q16
          have hp17 : Keeps W a p15 := Keeps.ofEq2 q16 (by
            refine keeps_orFree (hW.of rfl) ?_
            · exact hp13)
          split
          · rename_i p18 p19 q20
            have hp21 : Keeps W a p19 := Keeps.ofEq2 q20 (by
              refine keeps_orFree (hW.of rfl) ?_
              · exact hp17)
            split
            · rename_i p22 p23 q24
              have hp25 : Keeps W a p23 := Keeps.ofEq2 q24 (by
                refine keeps_orFree (hW.of rfl) ?_
                · exact hp21)
              split
              · rename_i p26 p27 q28
                have hp29 : Keeps W a p27 := Keeps.ofEq2 q28 (by
                  refine keeps_orFree (hW.of rfl) ?_
                  · exact hp25)
                refine KeepsR.done ?_
                exact hp29

theorem keeps_cmdIntakeStatus {W : Nat} {a : State} (hW : Sub 2 W) :
    KeepsC W a (cmdIntakeStatus) := by
  unfold cmdIntakeStatus
  intro r p t ht
  dsimp only
  refine keeps_intakeStatusBody (hW.of rfl) ?_
  exact ht

theorem keeps_panelFollow {W : Nat} {a : State} {v0 : State} (hW : Sub 222320813130101356003386213064090703106360355536182853664992371646344550122790912 W) (hv0 : Keeps W a v0) :
    Keeps W a (panelFollow v0) := by
  unfold panelFollow
  refine Keeps.ite ?_ ?_
  · refine keeps_startSearch (hW.of rfl) ?_
    exact hv0
  · exact hv0

theorem keeps_panelMove {W : Nat} {a : State} {v0 : ℕ} {v1 : ℤ} {v2 : State} (hW : Sub 222320813130101356003386213064090703106360355536182853664992371646344550122790912 W) (hv2 : Keeps W a v2) :
    Keeps W a (panelMove v0 v1 v2) := by
  unfold panelMove
  extract_lets -useContext -underBinder x0 x1 x2
  have hx0 : Keeps W a x0 := by
    refine keeps_stepSafe (hW.of rfl) ?_
    exact hv2
  try clear_value x0
  refine Keeps.ite ?_ ?_
  · refine keeps_startSearch (hW.of rfl) ?_
    exact hx0
  · refine keeps_onInp (hW.of rfl) (fun _ => (by constructor <;> first | exact fun h => Bool.noConfusion ((hW.bit (by rfl)).symm.trans h) | exact fun _ => rfl | (intro _; split <;> rfl))) ?_
    exact hx0

theorem keeps_panelPeriod {W : Nat} {a : State} {v0 : State} (hW : Sub 222320813130101356003386213064090703106360355536182853664992371646344550122790912 W) (hv0 : Keeps W a v0) :
    Keeps W a (panelPeriod v0) := by
  unfold panelPeriod
  split
  · exact hv0
  · refine Keeps.ite ?_ ?_
    · split
      · refine keeps_panelMove (hW.of rfl) ?_
        refine keeps_fromNow (hW.of rfl) ?_
        exact hv0
      · refine keeps_fromNow (hW.of rfl) ?_
        exact hv0
    · exact hv0

theorem keeps_sinkWaitCapTimer {W : Nat} {a : State} {v0 : State} (hW : Sub 239823432329056850782742802509868749000028589175830504210853456690369405210819987746693125876445774 W) (hv0 : Keeps W a v0) :
    Keeps W a (sinkWaitCapTimer v0) := by
  unfold sinkWaitCapTimer
  refine Keeps.ite ?_ ?_
  · refine Keeps.ite ?_ ?_
    · refine keeps_hardReset (hW.of rfl) ?_
      refine keeps_onInp (hW.of rfl) (fun _ => (by constructor <;> first | exact fun h => Bool.noConfusion ((hW.bit (by rfl)).symm.trans h) | exact fun _ => rfl | (intro _; split <;> rfl))) ?_
      exact hv0
    · extract_lets -useContext -underBinder x0
      have hx0 : Keeps W a x0 := by
        unfold x0
        refine keeps_onInp (hW.of rfl) (fun _ => (by constructor <;> first | exact fun h => Bool.noConfusion ((hW.bit (by rfl)).symm.trans h) | exact fun _ => rfl | (intro _; split <;> rfl))) ?_
        exact hv0
      refine Keeps.ite ?_ ?_
      · refine keeps_choose (hW.of rfl) ?_
        refine keeps_setIn (hW.of rfl) ?_
        exact hx0
      · exact hx0
  · exact hv0

theorem keeps_debugGone {W : Nat} {a : State} {v0 : State} (hW : Sub 216048166358045284433738698354410220672922125453699347253061560006252 W) (hv0 : Keeps W a v0) :
    Keeps W a (debugGone v0) := by
  unfold debugGone
  refine Keeps.ite ?_ ?_
  · refine Keeps.foldl (fun t0 y1 ht0 => ?_) ?_
    · refine Keeps.ite ?_ ?_
      · refine keeps_closeSession (hW.of rfl) ?_
        exact ht0
      · exact ht0
    · exact hv0
  · exact hv0

theorem keeps_tcDetach {W : Nat} {a : State} {v0 : State} (hW : Sub 239823432329056850782728332032624051574144010139359762520069691439805061545070838097758648096749166 W) (hv0 : Keeps W a v0) :
    Keeps W a (tcDetach v0) := by
  unfold tcDetach
  extract_lets -useContext -underBinder x0 x1
  have hx0 : Keeps W a x0 := by
    refine keeps_debugGone (hW.of rfl) ?_
    exact hv0
  have hx1 : Keeps W a x1 := by
    unfold x1
    try clear_value x0
    refine keeps_onInp (hW.of rfl) (fun _ => (by constructor <;> first | exact fun h => Bool.noConfusion ((hW.bit (by rfl)).symm.trans h) | exact fun _ => rfl | (intro _; split <;> rfl))) ?_
    refine Keeps.ite ?_ ?_
    · refine keeps_loseSource (hW.of rfl) ?_
      exact hx0
    · exact hx0
  refine Keeps.ite ?_ ?_
  · refine keeps_choose (hW.of rfl) ?_
    refine keeps_setIn (hW.of rfl) ?_
    exact hx1
  · exact hx1

theorem keeps_detectAt {W : Nat} {a : State} {v0 : ℕ} {v1 : Bool} {v2 : State} (hW : Sub 239823432329056850782728332032624051574144010139359762520069691439805061545071723541474186155226734 W) (hv2 : Keeps W a v2) :
    Keeps W a (detectAt v0 v1 v2) := by
  unfold detectAt
  refine Keeps.ite ?_ ?_
  · refine keeps_recount (hW.of rfl) ?_
    exact hv2
  · refine Keeps.ite ?_ ?_
    · extract_lets -useContext -underBinder x0 x1
      have hx0 : Keeps W a x0 := by
        refine keeps_onInput (hW.of rfl) ?_
        exact hv2
      have hx1 : Keeps W a x1 := by
        refine Keeps.ite ?_ ?_
        · refine keeps_restartInput (hW.of rfl) ?_
          exact hx0
        · exact hx0
      try clear_value x0
      try clear_value x1
      refine Keeps.ite ?_ ?_
      · refine keeps_onInp (hW.of rfl) (fun _ => (by constructor <;> first | exact fun h => Bool.noConfusion ((hW.bit (by rfl)).symm.trans h) | exact fun _ => rfl | (intro _; split <;> rfl))) ?_
        exact hx1
      · exact hx1
    · extract_lets -useContext -underBinder x2 x3
      have hx2 : Keeps W a x2 := by
        refine keeps_onInput (hW.of rfl) ?_
        exact hv2
      have hx3 : Keeps W a x3 := by
        refine Keeps.ite ?_ ?_
        · refine keeps_loseSource (hW.of rfl) ?_
          exact hx2
        · refine keeps_restartInput (hW.of rfl) ?_
          exact hx2
      refine keeps_shipCheck (hW.of rfl) ?_
      refine Keeps.ite ?_ ?_
      · refine keeps_tcDetach (hW.of rfl) ?_
        exact hx3
      · exact hx3

theorem keeps_inputDetect {W : Nat} {a : State} {v0 : ℕ} {v1 : ℕ} {v2 : State} (hW : Sub 239823432329056850782728332032624051574144010139359762520069691439805061545071723541474186155226734 W) (hv2 : Keeps W a v2) :
    Keeps W a (inputDetect v0 v1 v2) := by
  unfold inputDetect
  refine keeps_detectAt (hW.of rfl) ?_
  refine keeps_setVin (hW.of rfl) ?_
  exact hv2

theorem keeps_pdMessage {W : Nat} {a : State} {v0 : Sys2Proof.Machine.PdMsg} {v1 : State} (hW : Sub 239823432329056972200192433957893961170247192587792900755144685820853309007338439673661202530267726 W) (hv1 : Keeps W a v1) :
    Keeps W a (pdMessage v0 v1) := by
  unfold pdMessage
  refine Keeps.ite ?_ ?_
  · extract_lets -useContext -underBinder x0
    have hx0 : Keeps W a x0 := by
      unfold x0
      refine keeps_onInp (hW.of rfl) (fun _ => (by constructor <;> first | exact fun h => Bool.noConfusion ((hW.bit (by rfl)).symm.trans h) | exact fun _ => rfl | (intro _; split <;> rfl))) ?_
      exact hv1
    refine Keeps.ite ?_ ?_
    · refine keeps_takeMsg (hW.of rfl) ?_
      exact hx0
    · refine keeps_queueMsg (hW.of rfl) ?_
      exact hx0
  · exact hv1

theorem keeps_intakeResume {W : Nat} {a : State} {v0 : Bool} {v1 : State} (hW : Sub 239823432329056850783386669849827028703878016117861235604717245062133230769062830992143377204736590 W) (hv1 : Keeps W a v1) :
    Keeps W a (intakeResume v0 v1) := by
  unfold intakeResume
  extract_lets -useContext -underBinder x0
  have hx0 : Keeps W a x0 := by
    unfold x0
    refine Keeps.foldl (fun t1 y2 ht1 => ?_) ?_
    · refine keeps_takeMsg (hW.of rfl) ?_
      exact ht1
    · refine keeps_onInp (hW.of rfl) (fun _ => (by constructor <;> first | exact fun h => Bool.noConfusion ((hW.bit (by rfl)).symm.trans h) | exact fun _ => rfl | (intro _; split <;> rfl))) ?_
      exact hv1
  refine Keeps.ite ?_ ?_
  · split
    · refine keeps_choose (hW.of rfl) ?_
      refine keeps_startSearch (hW.of rfl) ?_
      exact hx0
    · refine keeps_choose (hW.of rfl) ?_
      exact hx0
  · exact hx0

theorem keeps_budgetWindowEdge {W : Nat} {a : State} {v0 : State} (hW : Sub 14965895951511490690884086999986192215012795674929452734529177807919538825182016076 W) (hv0 : Keeps W a v0) :
    Keeps W a (budgetWindowEdge v0) := by
  unfold budgetWindowEdge
  refine Keeps.ite ?_ ?_
  · refine keeps_rebudget (hW.of rfl) ?_
    exact hv0
  · exact hv0

theorem keeps_vocRemeasure {W : Nat} {a : State} {v0 : State} (hW : Sub 118571099406618769500898943798635441090856566107420373465086112244753141680046080 W) (hv0 : Keeps W a v0) :
    Keeps W a (vocRemeasure v0) := by
  unfold vocRemeasure
  split
  · refine Keeps.ite ?_ ?_
    · extract_lets -useContext -underBinder x1
      have hx1 : Keeps W a x1 := by
        unfold x1
        refine keeps_onInp (hW.of rfl) (fun _ => (by constructor <;> first | exact fun h => Bool.noConfusion ((hW.bit (by rfl)).symm.trans h) | exact fun _ => rfl | (intro _; split <;> rfl))) ?_
        exact hv0
      split
      · refine keeps_onInput (hW.of rfl) ?_
        exact hx1
      · exact hx1
    · exact hv0
  · exact hv0

theorem keeps_intakeParams {W : Nat} {a : State} {v0 : State} (hW : Sub 239823432329056863836665032196038845432881112080924285045002383430388502598523611780644123344859726 W) (hv0 : Keeps W a v0) :
    Keeps W a (intakeParams v0) := by
  unfold intakeParams
  refine keeps_choose (hW.of rfl) ?_
  refine keeps_panelFollow (hW.of rfl) ?_
  refine keeps_clipLim (hW.of rfl) ?_
  refine keeps_rebudget (hW.of rfl) ?_
  exact hv0

end Sys2Proof.Machine
end

