-- ==== Sys2Proof/Laws/KeepsDetect.lean ====
section
/-! SUPPORT. What the operations of Machine/Detect.lean keep (`Keeps`): one lemma for each. -/

namespace Sys2Proof.Machine

set_option linter.unusedVariables false
set_option linter.unusedTactic false
set_option linter.unreachableTactic false

theorem keeps_losePg {W : Nat} {a : State} {v0 : ℕ} {v1 : Bool} {v2 : ℤ} {v3 : State} (hW : Sub 262144 W) (hv3 : Keeps W a v3) :
    Keeps W a (losePg v0 v1 v2 v3).2 := by
  unfold losePg
  refine Keeps.ite2 ?_ ?_
  · extract_lets -useContext -underBinder x0 x1
    have hx1 : Keeps W a x1 := by
      refine keeps_onRail (hW.of rfl) ?_
      refine keeps_seePg (hW.of rfl) ?_
      exact hv3
    refine Keeps.ite2 ?_ ?_
    · try dsimp only
      refine keeps_onRail (hW.of rfl) ?_
      exact hx1
    · try dsimp only
      exact hx1
  · try dsimp only
    exact hv3

theorem keeps_joinFails {W : Nat} {a : State} {v0 : ℕ} {v1 : State} (hW : Sub 210624583337305941184450840798247330831078052819093316056997704256 W) (hv1 : Keeps W a v1) :
    Keeps W a (joinFails v0 v1).2 := by
  unfold joinFails
  extract_lets -useContext -underBinder x0 x1
  have hx1 : Keeps W a x1 := by
    refine keeps_post (hW.of rfl) ?_
    refine keeps_deassertEn (hW.of rfl) ?_
    refine keeps_dropJoin (hW.of rfl) ?_
    refine keeps_onRail (hW.of rfl) ?_
    exact hv1
  try dsimp only
  exact hx1

theorem keeps_tonFound {W : Nat} {a : State} {v0 : ℕ} {v1 : State} (hW : Sub 210624583337305941184450840798247330831078052819093316056997704256 W) (hv1 : Keeps W a v1) :
    Keeps W a (tonFound v0 v1).2 := by
  unfold tonFound
  refine Keeps.ite2 ?_ ?_
  · try dsimp only
    exact hv1
  · refine Keeps.ite2 ?_ ?_
    · refine keeps_joinFails (hW.of rfl) ?_
      · exact hv1
    · try dsimp only
      refine keeps_onRail (hW.of rfl) ?_
      exact hv1

theorem keeps_toffFound {W : Nat} {a : State} {v0 : ℕ} {v1 : State} (hW : Sub 262144 W) (hv1 : Keeps W a v1) :
    Keeps W a (toffFound v0 v1).2 := by
  unfold toffFound
  refine Keeps.ite2 ?_ ?_
  · try dsimp only
    refine keeps_onRail (hW.of rfl) ?_
    exact hv1
  · try dsimp only
    exact hv1

theorem keeps_detectRail {W : Nat} {a : State} {v0 : ℕ} {v1 : ℕ} {v2 : ℤ} {v3 : State} (hW : Sub 210624583337305941184450840798247330831078052819093316056997704256 W) (hv3 : Keeps W a v3) :
    Keeps W a (detectRail v0 v1 v2 v3).2 := by
  unfold detectRail
  split
  · try dsimp only
    refine keeps_seeFast (hW.of rfl) ?_
    exact hv3
  · try dsimp only
    refine keeps_seeFast (hW.of rfl) ?_
    exact hv3
  · refine keeps_losePg (hW.of rfl) ?_
    · exact hv3
  · refine keeps_tonFound (hW.of rfl) ?_
    · exact hv3
  · refine keeps_toffFound (hW.of rfl) ?_
    · exact hv3
  · try dsimp only
    exact hv3
  · try dsimp only
    exact hv3
  · try dsimp only
    exact hv3

theorem keeps_setTripped {W : Nat} {a : State} {v0 : ℕ} {v1 : State} (hW : Sub 80879840001451919384001045261058892020911433267621717443310839136256 W) (hv1 : Keeps W a v1) :
    Keeps W a (setTripped v0 v1) := by
  unfold setTripped
  refine Keeps.upd_23 (hW.bit rfl) (by constructor <;> first | exact fun h => Bool.noConfusion ((hW.bit (by rfl)).symm.trans h) | exact fun _ => rfl | (intro _; split <;> rfl)) ?_
  exact hv1

theorem keeps_tripFound {W : Nat} {a : State} {v0 : ℕ} {v1 : State} (hW : Sub 80971988256661906922361723535282103649190466476097197915658361241600 W) (hv1 : Keeps W a v1) :
    Keeps W a (tripFound v0 v1).2 := by
  unfold tripFound
  refine Keeps.ite2 ?_ ?_
  · try dsimp only
    exact hv1
  · extract_lets -useContext -underBinder x0 x1
    have hx1 : Keeps W a x1 := by
      refine Keeps.ite ?_ ?_
      · exact hv1
      · refine keeps_setTripped (hW.of rfl) ?_
        refine keeps_catchUp (hW.of rfl) ?_
        exact hv1
    try dsimp only
    exact hx1

theorem keeps_dieFound {W : Nat} {a : State} {v0 : ℤ} {v1 : State} (hW : Sub 2298743311298833287537520540725463775428108683276451840 W) (hv1 : Keeps W a v1) :
    Keeps W a (dieFound v0 v1).2 := by
  unfold dieFound
  extract_lets -useContext -underBinder x0 x1
  try dsimp only
  refine Keeps.upd_20 (hW.bit rfl) (by constructor <;> first | exact fun h => Bool.noConfusion ((hW.bit (by rfl)).symm.trans h) | exact fun _ => rfl | (intro _; split <;> rfl)) ?_
  exact hv1

theorem keeps_detectGlobal {W : Nat} {a : State} {v0 : ℕ} {v1 : ℕ} {v2 : ℤ} {v3 : State} (hW : Sub 27687957375418919355404696471476671450974167235363923757346972928848448 W) (hv3 : Keeps W a v3) :
    Keeps W a (detectGlobal v0 v1 v2 v3).2 := by
  unfold detectGlobal
  split
  · refine Keeps.ite2 ?_ ?_
    · try dsimp only
      refine keeps_setVin (hW.of rfl) ?_
      exact hv3
    · try dsimp only
      exact hv3
  · try dsimp only
    exact hv3
  · try dsimp only
    exact hv3
  · refine keeps_tripFound (hW.of rfl) ?_
    · exact hv3
  · try dsimp only
    exact hv3
  · try dsimp only
    exact hv3
  · refine keeps_dieFound (hW.of rfl) ?_
    · exact hv3
  · try dsimp only
    exact hv3
  · try dsimp only
    exact hv3

theorem keeps_detect {W : Nat} {a : State} {v0 : ℕ × ℕ × ℤ} {v1 : State} (hW : Sub 27688168000002256661345880922317469698304998158674237939990495554712128 W) (hv1 : Keeps W a v1) :
    Keeps W a (detect v0 v1).2 := by
  unfold detect
  refine Keeps.ite2 ?_ ?_
  · try dsimp only
    exact hv1
  · refine Keeps.ite2 ?_ ?_
    · refine keeps_detectGlobal (hW.of rfl) ?_
      · exact hv1
    · refine Keeps.ite2 ?_ ?_
      · refine keeps_detectRail (hW.of rfl) ?_
        · exact hv1
      · try dsimp only
        exact hv1

theorem keeps_detectAll {W : Nat} {a : State} {v0 : List (Nat × Nat × Int)} {v1 : State} (hW : Sub 27688168000002256661345880922317469698304998158674237939990495554712128 W)
    (hv1 : Keeps W a v1) : Keeps W a (detectAll v0 v1).2 := by
  induction v0 generalizing v1 with
  | nil => exact hv1
  | cons x xs ih => exact ih (keeps_detect (hW.of rfl) hv1)

theorem keeps_checkEnds {W : Nat} {a : State} {v0 : State} {v1 : ℕ × ℕ × ℤ} (hW : Sub 216048166358045284623733911207427600039321306571847262562872136266348 W) (hv0 : Keeps W a v0) :
    Keeps W a (checkEnds v0 v1) := by
  unfold checkEnds
  refine Keeps.ite ?_ ?_
  · refine keeps_bringPoll (hW.of rfl) ?_
    refine keeps_boundEnds (hW.of rfl) ?_
    exact hv0
  · refine keeps_unwindPoll (hW.of rfl) ?_
    refine keeps_boundEnds (hW.of rfl) ?_
    exact hv0

theorem keeps_holdBattery {W : Nat} {a : State} {v0 : State} (hW : Sub 34234679230465998409042946916053817225810192371564919162678421065369464815044386161689460201452142 W) (hv0 : Keeps W a v0) :
    Keeps W a (holdBattery v0) := by
  unfold holdBattery
  refine keeps_chgJudge (hW.of rfl) ?_
  refine keeps_pathEval (hW.of rfl) ?_
  refine Keeps.upd_5 (hW.bit rfl) (by constructor <;> first | exact fun h => Bool.noConfusion ((hW.bit (by rfl)).symm.trans h) | exact fun _ => rfl | (intro _; split <;> rfl)) ?_
  exact hv0

theorem keeps_dieOff {W : Nat} {a : State} {v0 : State} (hW : Sub 34234679230465998409042946025728538489827463984049201543727568605642600538032917902693020655907406 W) (hv0 : Keeps W a v0) :
    Keeps W a (dieOff v0) := by
  unfold dieOff
  refine keeps_noScanAll (hW.of rfl) ?_
  refine keeps_chgJudge (hW.of rfl) ?_
  refine Keeps.foldl (fun t0 y1 ht0 => ?_) ?_
  · refine Keeps.ite ?_ ?_
    · refine keeps_faultOff (hW.of rfl) ?_
      exact ht0
    · exact ht0
  · exact hv0

theorem keeps_refFallback {W : Nat} {a : State} {v0 : State} (hW : Sub 1099511627792 W) (hv0 : Keeps W a v0) :
    Keeps W a (refFallback v0) := by
  unfold refFallback
  refine Keeps.upd_4 (hW.bit rfl) (by constructor <;> first | exact fun h => Bool.noConfusion ((hW.bit (by rfl)).symm.trans h) | exact fun _ => rfl | (intro _; split <;> rfl)) ?_
  exact hv0

theorem keeps_fixedOf {W : Nat} {a : State} {v0 : Sys2Proof.Machine.Setting} {v1 : State} (hW : Sub 34234687251295172300587652575388757468960549875040959856597923722933538243363912713507989364896382 W) (hv1 : Keeps W a v1) :
    Keeps W a (fixedOf v0 v1) := by
  unfold fixedOf
  split
  · refine keeps_blockInput (hW.of rfl) ?_
    exact hv1
  · refine keeps_blockInput (hW.of rfl) ?_
    exact hv1
  · refine keeps_holdBattery (hW.of rfl) ?_
    exact hv1
  · refine keeps_chgJudge (hW.of rfl) ?_
    exact hv1
  · refine keeps_takeTemp (hW.of rfl) ?_
    refine Keeps.ite ?_ ?_
    · refine keeps_onChg (hW.of rfl) (fun _ => (by constructor <;> first | exact fun h => Bool.noConfusion ((hW.bit (by rfl)).symm.trans h) | exact fun _ => rfl | (intro _; split <;> rfl))) ?_
      exact hv1
    · exact hv1
  · refine keeps_chgJudge (hW.of rfl) ?_
    exact hv1
  · refine keeps_timeoutTrip (hW.of rfl) ?_
    exact hv1
  · refine keeps_dieOff (hW.of rfl) ?_
    exact hv1
  · refine keeps_refFallback (hW.of rfl) ?_
    exact hv1
  · exact hv1

theorem keeps_raiseThen {W : Nat} {a : State} {v0 : State → State} {v1 : List Raise} {v2 : List (Nat × Nat × Int)} {v3 : State}
    (hW : Sub 34234687251295172300587652575686356995646741996662284047833721226006969083910936121793529312671358 W) (hv0 : ∀ t, Keeps W a t → Keeps W a (v0 t)) (hv3 : Keeps W a v3) : Keeps W a (raiseThen v0 v1 v2 v3) := by
  unfold raiseThen
  extract_lets x0 x1
  have hx1 : Keeps W a x1.2 := keeps_detectAll (hW.of rfl) hv3
  exact Keeps.foldl (fun t2 y3 ht2 => keeps_checkEnds (hW.of rfl) ht2)
    (keeps_raiseFixed (hW.of rfl) (fun y t ht => keeps_fixedOf (hW.of rfl) ht) hv0 hx1)

theorem keeps_raiseTogether {W : Nat} {a : State} {v0 : List Raise} {v1 : List (Nat × Nat × Int)} {v2 : State} (hW : Sub 34234687251295172300587652575686356995646741996662284047833721226006969083910936121793529312671358 W)
    (hv2 : Keeps W a v2) : Keeps W a (raiseTogether v0 v1 v2) :=
  keeps_raiseThen (hW.of rfl) (fun _ ht => ht) hv2

theorem keeps_detectTogether {W : Nat} {a : State} {v0 : List (ℕ × ℕ × ℤ)} {v1 : State} (hW : Sub 34234687251295172300587652575686356995646741996662284047833721226006969083910936121793529312671358 W) (hv1 : Keeps W a v1) :
    Keeps W a (detectTogether v0 v1) := by
  unfold detectTogether
  refine keeps_raiseTogether (hW.of rfl) ?_
  exact hv1

theorem keeps_resvLow {W : Nat} {a : State} {v0 : State} (hW : Sub 34234687251295172300587652575686356995646741996662284047833721226006969083910936121793529312671358 W) (hv0 : Keeps W a v0) :
    Keeps W a (resvLow v0) := by
  unfold resvLow
  refine keeps_detectTogether (hW.of rfl) ?_
  exact hv0

theorem keeps_tonMax {W : Nat} {a : State} {v0 : ℕ} {v1 : List (ℕ × ℕ × ℤ)} {v2 : State} (hW : Sub 34234687251295172300587652575686356995646741996662284047833721226006969083910936121793529312671358 W) (hv2 : Keeps W a v2) :
    Keeps W a (tonMax v0 v1 v2) := by
  unfold tonMax
  refine keeps_detectTogether (hW.of rfl) ?_
  exact hv2

theorem keeps_dieOt {W : Nat} {a : State} {v0 : ℕ} {v1 : List (ℕ × ℕ × ℤ)} {v2 : State} (hW : Sub 34234687251295172300587652575686356995646741996662284047833721226006969083910936121793529312671358 W) (hv2 : Keeps W a v2) :
    Keeps W a (dieOt v0 v1 v2) := by
  unfold dieOt
  refine keeps_detectTogether (hW.of rfl) ?_
  exact hv2

theorem keeps_joinTimeout {W : Nat} {a : State} {v0 : ℕ} {v1 : State} (hW : Sub 34234687251295172300587652575686356995646741996662284047833721226006969083910936121793529312671358 W) (hv1 : Keeps W a v1) :
    Keeps W a (joinTimeout v0 v1) := by
  unfold joinTimeout
  refine Keeps.ite ?_ ?_
  · extract_lets -useContext -underBinder x0
    have hx0 : Keeps W a x0.2 := by
      refine keeps_joinFails (hW.of rfl) ?_
      · exact hv1
    refine keeps_raiseTogether (hW.of rfl) ?_
    exact hx0
  · exact hv1

theorem keeps_vinOv {W : Nat} {a : State} {v0 : ℕ} {v1 : ℕ} {v2 : List (ℕ × ℕ × ℤ)} {v3 : State} (hW : Sub 34234687251295172300587652575686356995646741996662284047833721226006969083910936121793529312671358 W) (hv3 : Keeps W a v3) :
    Keeps W a (vinOv v0 v1 v2 v3) := by
  unfold vinOv
  refine keeps_detectTogether (hW.of rfl) ?_
  exact hv3

theorem keeps_uvFast {W : Nat} {a : State} {v0 : ℕ} {v1 : ℤ} {v2 : List (ℕ × ℕ × ℤ)} {v3 : State} (hW : Sub 34234687251295172300587652575686356995646741996662284047833721226006969083910936121793529312671358 W) (hv3 : Keeps W a v3) :
    Keeps W a (uvFast v0 v1 v2 v3) := by
  unfold uvFast
  refine keeps_detectTogether (hW.of rfl) ?_
  exact hv3

theorem keeps_pgLoss {W : Nat} {a : State} {v0 : ℕ} {v1 : Bool} {v2 : ℤ} {v3 : List (ℕ × ℕ × ℤ)} {v4 : State} (hW : Sub 34234687251295172300587652575686356995646741996662284047833721226006969083910936121793529312671358 W) (hv4 : Keeps W a v4) :
    Keeps W a (pgLoss v0 v1 v2 v3 v4) := by
  unfold pgLoss
  extract_lets -useContext -underBinder x0
  have hx0 : Keeps W a x0.2 := by
    refine keeps_losePg (hW.of rfl) ?_
    · exact hv4
  refine keeps_raiseTogether (hW.of rfl) ?_
  exact hx0

theorem keeps_toffMax {W : Nat} {a : State} {v0 : ℕ} {v1 : List (ℕ × ℕ × ℤ)} {v2 : State} (hW : Sub 34234687251295172300587652575686356995646741996662284047833721226006969083910936121793529312671358 W) (hv2 : Keeps W a v2) :
    Keeps W a (toffMax v0 v1 v2) := by
  unfold toffMax
  refine keeps_detectTogether (hW.of rfl) ?_
  exact hv2

theorem keeps_batReverse {W : Nat} {a : State} {v0 : List (ℕ × ℕ × ℤ)} {v1 : State} (hW : Sub 34234687251295172300587652575686356995646741996662284047833721226006969083910936121793529312671358 W) (hv1 : Keeps W a v1) :
    Keeps W a (batReverse v0 v1) := by
  unfold batReverse
  refine keeps_detectTogether (hW.of rfl) ?_
  exact hv1

theorem keeps_dropTripped {W : Nat} {a : State} {v0 : ℕ} {v1 : State} (hW : Sub 80879840001451919384001045261058892020911433267621717443310839136256 W) (hv1 : Keeps W a v1) :
    Keeps W a (dropTripped v0 v1) := by
  unfold dropTripped
  refine Keeps.upd_23 (hW.bit rfl) (by constructor <;> first | exact fun h => Bool.noConfusion ((hW.bit (by rfl)).symm.trans h) | exact fun _ => rfl | (intro _; split <;> rfl)) ?_
  exact hv1

theorem keeps_chgTimeout {W : Nat} {a : State} {v0 : State} (hW : Sub 34234687251295172300587652575686356995646741996662284047833721226006969083910936121793529312671358 W) (hv0 : Keeps W a v0) :
    Keeps W a (chgTimeout v0) := by
  unfold chgTimeout
  refine keeps_detectTogether (hW.of rfl) ?_
  exact hv0

theorem keeps_enShort {W : Nat} {a : State} {v0 : ℕ} {v1 : Bool} {v2 : List (ℕ × ℕ × ℤ)} {v3 : State} (hW : Sub 34234687251295172300587652575686356995646741996662284047833721226006969083910936121793529312671358 W) (hv3 : Keeps W a v3) :
    Keeps W a (enShort v0 v1 v2 v3) := by
  unfold enShort
  refine keeps_raiseTogether (hW.of rfl) ?_
  exact hv3

theorem keeps_ovFast {W : Nat} {a : State} {v0 : ℕ} {v1 : ℤ} {v2 : List (ℕ × ℕ × ℤ)} {v3 : State} (hW : Sub 34234687251295172300587652575686356995646741996662284047833721226006969083910936121793529312671358 W) (hv3 : Keeps W a v3) :
    Keeps W a (ovFast v0 v1 v2 v3) := by
  unfold ovFast
  refine keeps_detectTogether (hW.of rfl) ?_
  exact hv3

theorem keeps_vinReverse {W : Nat} {a : State} {v0 : ℕ} {v1 : List (ℕ × ℕ × ℤ)} {v2 : State} (hW : Sub 34234687251295172300587652575686356995646741996662284047833721226006969083910936121793529312671358 W) (hv2 : Keeps W a v2) :
    Keeps W a (vinReverse v0 v1 v2) := by
  unfold vinReverse
  refine keeps_detectTogether (hW.of rfl) ?_
  exact hv2

theorem keeps_sysUv {W : Nat} {a : State} {v0 : ℕ} {v1 : List (ℕ × ℕ × ℤ)} {v2 : State} (hW : Sub 34234687251295172300587652575686356995646741996662284047833721226006969083910936121793529312671358 W) (hv2 : Keeps W a v2) :
    Keeps W a (sysUv v0 v1 v2) := by
  unfold sysUv
  refine keeps_detectTogether (hW.of rfl) ?_
  exact hv2

theorem keeps_thermistorOpenTrip {W : Nat} {a : State} {v0 : ℕ} {v1 : State} (hW : Sub 34234687251295172300587652575686356995646741996662284047833721226006969083910936121793529312671358 W) (hv1 : Keeps W a v1) :
    Keeps W a (thermistorOpenTrip v0 v1) := by
  unfold thermistorOpenTrip
  refine keeps_detectTogether (hW.of rfl) ?_
  exact hv1

end Sys2Proof.Machine
end

