-- ==== Sys2Proof/Laws/KeepsCaldera.lean ====
section
/-! SUPPORT. What the operations of Machine/Caldera.lean keep (`Keeps`): one lemma for each. -/

namespace Sys2Proof.Machine

set_option linter.unusedVariables false
set_option linter.unusedTactic false
set_option linter.unreachableTactic false

theorem keeps_recordStart {W : Nat} {a : State} {v0 : Bool} {v1 : State} (hW : Sub 6289361699713607874702656239989688096874646205336008015876 W) (hv1 : Keeps W a v1) :
    Keeps W a (recordStart v0 v1) := by
  unfold recordStart
  extract_lets -useContext -underBinder x0 x1
  have hx0 : Keeps W a x0 := by
    refine keeps_onCapture (hW.of rfl) ?_
    exact hv1
  try clear_value x0
  refine keeps_faWrite (hW.of rfl) ?_
  refine Keeps.upd_21 (hW.bit rfl) (by constructor <;> first | exact fun h => Bool.noConfusion ((hW.bit (by rfl)).symm.trans h) | exact fun _ => rfl | (intro _; split <;> rfl)) ?_
  exact hx0

theorem keeps_recordTry {W : Nat} {a : State} {v0 : State} (hW : Sub 6289361699713607874702656239989688096874646205336008015876 W) (hv0 : Keeps W a v0) :
    Keeps W a (recordTry v0) := by
  unfold recordTry
  refine Keeps.ite ?_ ?_
  · refine keeps_recordStart (hW.of rfl) ?_
    exact hv0
  · exact hv0

theorem keeps_frameArb {W : Nat} {a : State} {v0 : List (ℕ × ℕ × Bool)} {v1 : State} (hW : Sub 2803834453383666538645369569050041590058263174686724448707309845094400 W) (hv1 : Keeps W a v1) :
    Keeps W a (frameArb v0 v1) := by
  unfold frameArb
  refine Keeps.foldl (fun t0 y1 ht0 => ?_) ?_
  · extract_lets -useContext -underBinder x2
    refine Keeps.ite ?_ ?_
    · exact ht0
    · refine keeps_arbitrate (hW.of rfl) ?_
      exact ht0
  · exact hv1

theorem keeps_writeFrame {W : Nat} {a : State} {v0 : List ℕ} {v1 : Bool} {v2 : List (ℕ × ℕ × Bool)} {v3 : State} (hW : Sub 6254707626778948432362747500188554316283817660771917726288571956994052 W) (hv3 : Keeps W a v3) :
    Keeps W a (writeFrame v0 v1 v2 v3) := by
  unfold writeFrame
  refine Keeps.foldl (fun t0 y1 ht0 => ?_) ?_
  · refine keeps_bankBytes (hW.of rfl) ?_
    exact ht0
  · refine keeps_frameArb (hW.of rfl) ?_
    exact hv3

theorem keeps_pipeStart {W : Nat} {a : State} {v0 : State} (hW : Sub 3530869726155007929657631550554312359057574937511021510656 W) (hv0 : Keeps W a v0) :
    Keeps W a (pipeStart v0) := by
  unfold pipeStart
  refine Keeps.upd_21 (hW.bit rfl) (by constructor <;> first | exact fun h => Bool.noConfusion ((hW.bit (by rfl)).symm.trans h) | exact fun _ => rfl | (intro _; split <;> rfl)) ?_
  exact hv0

theorem keeps_captureTestBody {W : Nat} {a : State} {v0 : Sys2Proof.Req} {v1 : List Sys2Proof.Byte} {v2 : State} (hW : Sub 42909875144244888034033716760363399646235367955505356802 W) (hv2 : Keeps W a v2) :
    KeepsR W a (captureTestBody v0 v1 v2) := by
  unfold captureTestBody
  refine KeepsR.ite ?_ ?_
  · extract_lets -useContext -underBinder x0
    have hx0 : Keeps W a x0 := by
      refine keeps_trigger (hW.of rfl) ?_
      refine keeps_takeOcc (hW.of rfl) ?_
      exact hv2
    refine KeepsR.done ?_
    exact hx0
  · refine keeps_refuse (hW.of rfl) ?_
    exact hv2

theorem keeps_cmdCaptureTest {W : Nat} {a : State} (hW : Sub 42909875144244888034033716760363399646235367955505356802 W) :
    KeepsC W a (cmdCaptureTest) := by
  unfold cmdCaptureTest
  intro r p t ht
  dsimp only
  refine keeps_captureTestBody (hW.of rfl) ?_
  exact ht

theorem keeps_clearMarker {W : Nat} {a : State} {v0 : State} (hW : Sub 40564819207303340847894502588420 W) (hv0 : Keeps W a v0) :
    Keeps W a (clearMarker v0) := by
  unfold clearMarker
  refine keeps_faWrite (hW.of rfl) ?_
  exact hv0

theorem keeps_postCommitted {W : Nat} {a : State} {v0 : ℕ} {v1 : ℕ} {v2 : ℕ} {v3 : ℕ} {v4 : State} (hW : Sub 154742504910672534362403392 W) (hv4 : Keeps W a v4) :
    Keeps W a (postCommitted v0 v1 v2 v3 v4) := by
  unfold postCommitted
  refine keeps_post (hW.of rfl) ?_
  exact hv4

theorem keeps_resolveMarker {W : Nat} {a : State} {v0 : State} (hW : Sub 6283231717550194757450260068532949397868773577396924412492 W) (hv0 : Keeps W a v0) :
    Keeps W a (resolveMarker v0) := by
  unfold resolveMarker
  refine Keeps.ite ?_ hv0
  extract_lets m serial next
  have hn : ∀ st t, Keeps W a t → Keeps W a (next st t) := fun st t h => Keeps.ite (Keeps.upd_21 (hW.bit rfl) (by constructor <;> first | exact fun h => Bool.noConfusion ((hW.bit (by rfl)).symm.trans h) | exact fun _ => rfl | (intro _; split <;> rfl)) h) h
  clear_value next
  refine Keeps.ite (keeps_clearMarker (hW.of rfl) (hn _ _ (keeps_postCommitted (hW.of rfl) hv0))) ?_
  exact keeps_clearMarker (hW.of rfl)
    (hn _ _ (Keeps.upd_21 (hW.bit rfl) (by constructor <;> first | exact fun h => Bool.noConfusion ((hW.bit (by rfl)).symm.trans h) | exact fun _ => rfl | (intro _; split <;> rfl)) (keeps_post (hW.of rfl) (keeps_logRecord (hW.of rfl) hv0))))

theorem keeps_captureStatusBody {W : Nat} {a : State} {v0 : Sys2Proof.Req} {v1 : List Sys2Proof.Byte} {v2 : State} (hW : Sub 0 W) (hv2 : Keeps W a v2) :
    KeepsR W a (captureStatusBody v0 v1 v2) := by
  unfold captureStatusBody
  extract_lets -useContext -underBinder x0
  refine KeepsR.done ?_
  exact hv2

theorem keeps_calSample {W : Nat} {a : State} {v0 : List ℕ} {v1 : State} (hW : Sub 210624583337114373395836055367340864637790190801098222508630343680 W) (hv1 : Keeps W a v1) :
    Keeps W a (calSample v0 v1) := by
  unfold calSample
  refine Keeps.upd_23 (hW.bit rfl) (by constructor <;> first | exact fun h => Bool.noConfusion ((hW.bit (by rfl)).symm.trans h) | exact fun _ => rfl | (intro _; split <;> rfl)) ?_
  exact hv1

theorem keeps_postFrame {W : Nat} {a : State} {v0 : ℕ} {v1 : State} (hW : Sub 12259964326927110866866776217202473468949912977470914560 W) (hv1 : Keeps W a v1) :
    Keeps W a (postFrame v0 v1) := by
  unfold postFrame
  split
  · extract_lets -useContext -underBinder x1 x2
    refine Keeps.upd_21 (hW.bit rfl) (by constructor <;> first | exact fun h => Bool.noConfusion ((hW.bit (by rfl)).symm.trans h) | exact fun _ => rfl | (intro _; split <;> rfl)) ?_
    exact hv1
  · exact hv1

theorem keeps_pipeFrame {W : Nat} {a : State} {v0 : List ℕ} {v1 : Bool} {v2 : ℕ} {v3 : List (ℕ × ℕ × Bool)} {v4 : State} (hW : Sub 6255023563656712595896399854216650352229644902588633104042265384334916 W) (hv4 : Keeps W a v4) :
    Keeps W a (pipeFrame v0 v1 v2 v3 v4) := by
  unfold pipeFrame
  refine Keeps.ite ?_ ?_
  · extract_lets -useContext -underBinder x0 x1 x2 x3
    have hx0 : Keeps W a x0 := by
      refine keeps_calSample (hW.of rfl) ?_
      refine keeps_calSettle (hW.of rfl) ?_
      refine keeps_takeUp (hW.of rfl) ?_
      exact hv4
    have hx1 : Keeps W a x1 := by
      refine Keeps.ite ?_ ?_
      · refine keeps_streamWord (hW.of rfl) ?_
        exact hx0
      · exact hx0
    have hx2 : Keeps W a x2 := by
      refine keeps_writeFrame (hW.of rfl) ?_
      refine Keeps.ite ?_ ?_
      · refine keeps_postFrame (hW.of rfl) ?_
        exact hx1
      · exact hx1
    try clear_value x0
    try clear_value x1
    try clear_value x2
    refine Keeps.ite ?_ ?_
    · refine Keeps.upd_21 (hW.bit rfl) (by constructor <;> first | exact fun h => Bool.noConfusion ((hW.bit (by rfl)).symm.trans h) | exact fun _ => rfl | (intro _; split <;> rfl)) ?_
      exact hx2
    · exact hx1
  · exact hv4

theorem keeps_writeRecord {W : Nat} {a : State} {v0 : Sys2Proof.Machine.Capture} {v1 : List (ℕ × ℕ)} {v2 : State} (hW : Sub 40564819207303340847894502588420 W) (hv2 : Keeps W a v2) :
    Keeps W a (writeRecord v0 v1 v2) := by
  unfold writeRecord
  extract_lets -useContext -underBinder x0 x1 x2 x3 x4 x5 x6
  have hx5 : Keeps W a x5 := by
    refine keeps_faWrite (hW.of rfl) ?_
    refine keeps_faWrite (hW.of rfl) ?_
    exact hv2
  have hx6 : Keeps W a x6 := by
    refine keeps_faWrite (hW.of rfl) ?_
    exact hx5
  refine keeps_faWrite (hW.of rfl) ?_
  exact hx6

theorem keeps_captureClearBody {W : Nat} {a : State} {v0 : Sys2Proof.Req} {v1 : List Sys2Proof.Byte} {v2 : State} (hW : Sub 349408983317422659705703162755089701168413367752365981700 W) (hv2 : Keeps W a v2) :
    KeepsR W a (captureClearBody v0 v1 v2) := by
  unfold captureClearBody
  split
  · refine keeps_refuse (hW.of rfl) ?_
    exact hv2
  · refine keeps_refuse (hW.of rfl) ?_
    exact hv2
  · refine keeps_refuse (hW.of rfl) ?_
    exact hv2
  · refine KeepsR.ite ?_ ?_
    · refine keeps_refuse (hW.of rfl) ?_
      exact hv2
    · extract_lets -useContext -underBinder x4 x5 x6
      have hx4 : Keeps W a x4 := by
        refine keeps_faWrite (hW.of rfl) ?_
        exact hv2
      have hx6 : Keeps W a x6 := by
        unfold x6
        try clear_value x4
        refine Keeps.upd_21 (hW.bit rfl) (by constructor <;> first | exact fun h => Bool.noConfusion ((hW.bit (by rfl)).symm.trans h) | exact fun _ => rfl | (intro _; split <;> rfl)) ?_
        exact hx4
      refine KeepsR.done ?_
      refine keeps_flushMissed (hW.of rfl) ?_
      exact hx6

theorem keeps_cmdCaptureClear {W : Nat} {a : State} (hW : Sub 349408983317422659705703162755089701168413367752365981700 W) :
    KeepsC W a (cmdCaptureClear) := by
  unfold cmdCaptureClear
  intro r p t ht
  dsimp only
  refine keeps_captureClearBody (hW.of rfl) ?_
  exact ht

theorem keeps_captureReadBody {W : Nat} {a : State} {v0 : Sys2Proof.Req} {v1 : List Sys2Proof.Byte} {v2 : State} (hW : Sub 218615307934772124422363036863369085067552222803744123685040541365870 W) (hv2 : Keeps W a v2) :
    KeepsR W a (captureReadBody v0 v1 v2) := by
  unfold captureReadBody
  split
  · rename_i p0 q1
    have hp2 : Keeps W a p0 := Keeps.ofEq2 q1 (by
      refine keeps_eccRead (hW.of rfl) ?_
      · refine keeps_markerTry (hW.of rfl) ?_
        exact hv2)
    refine KeepsR.done ?_
    exact hp2
  · rename_i p3 q4
    have hp5 : Keeps W a p3 := Keeps.ofEq2 q4 (by
      refine keeps_eccRead (hW.of rfl) ?_
      · refine keeps_markerTry (hW.of rfl) ?_
        exact hv2)
    refine KeepsR.done ?_
    exact hp5

theorem keeps_recordTurn {W : Nat} {a : State} {v0 : State} (hW : Sub 6289361699713607874702656239989688096874646205336008015876 W) (hv0 : Keeps W a v0) :
    Keeps W a (recordTurn v0) := by
  unfold recordTurn
  refine Keeps.ite ?_ ?_
  · refine keeps_recordStart (hW.of rfl) ?_
    exact hv0
  · refine keeps_onCapture (hW.of rfl) ?_
    exact hv0

theorem keeps_recordFrozen {W : Nat} {a : State} {v0 : State} (hW : Sub 6289361699713607874702656239989688096874646205336008015876 W) (hv0 : Keeps W a v0) :
    Keeps W a (recordFrozen v0) := by
  unfold recordFrozen
  refine Keeps.ite ?_ ?_
  · refine keeps_recordTry (hW.of rfl) ?_
    exact hv0
  · refine keeps_recordTurn (hW.of rfl) ?_
    exact hv0

theorem keeps_captureFreeze {W : Nat} {a : State} {v0 : State} (hW : Sub 6295491681877071430136089628098289333609121161824742424582 W) (hv0 : Keeps W a v0) :
    Keeps W a (captureFreeze v0) := by
  unfold captureFreeze
  split
  · refine Keeps.ite ?_ ?_
    · extract_lets -useContext -underBinder x1 x2 x3 x4
      have hx1 : Keeps W a x1.2 := by
        refine keeps_drawFree (hW.of rfl) ?_
        · exact hv0
      have hx2 : Keeps W a x2 := by
        refine Keeps.ite ?_ ?_
        · exact hv0
        · exact hx1
      try clear_value x1
      try clear_value x2
      refine keeps_recordFrozen (hW.of rfl) ?_
      refine keeps_onCapture (hW.of rfl) ?_
      refine Keeps.upd_21 (hW.bit rfl) (by constructor <;> first | exact fun h => Bool.noConfusion ((hW.bit (by rfl)).symm.trans h) | exact fun _ => rfl | (intro _; split <;> rfl)) ?_
      exact hx2
    · exact hv0
  · exact hv0

theorem keeps_countRecordErrors {W : Nat} {a : State} {v0 : Sys2Proof.Machine.Capture} {v1 : List (ℕ × ℕ)} {v2 : State} (hW : Sub 215679573337205118357336120696157045389097155380324579848828898770944 W) (hv2 : Keeps W a v2) :
    Keeps W a (countRecordErrors v0 v1 v2) := by
  unfold countRecordErrors
  refine Keeps.foldl (fun t0 y1 ht0 => ?_) ?_
  · refine keeps_onBank (hW.of rfl) ?_
    exact ht0
  · exact hv2

theorem keeps_recordComplete {W : Nat} {a : State} {v0 : List (ℕ × ℕ)} {v1 : State} (hW : Sub 215679573343500610039213192126293135017195599456438611683188003598916 W) (hv1 : Keeps W a v1) :
    Keeps W a (recordComplete v0 v1) := by
  unfold recordComplete
  split
  · refine Keeps.ite ?_ ?_
    · extract_lets -useContext -underBinder x1 x2 x3 x4
      have hx2 : Keeps W a x2 := by
        refine keeps_countRecordErrors (hW.of rfl) ?_
        refine keeps_clearMarker (hW.of rfl) ?_
        refine keeps_writeRecord (hW.of rfl) ?_
        refine keeps_captureMarkerCommit (hW.of rfl) ?_
        exact hv1
      have hx4 : Keeps W a x4 := by
        unfold x4
        try clear_value x2
        refine Keeps.upd_21 (hW.bit rfl) (by constructor <;> first | exact fun h => Bool.noConfusion ((hW.bit (by rfl)).symm.trans h) | exact fun _ => rfl | (intro _; split <;> rfl)) ?_
        exact hx2
      refine keeps_postCommitted (hW.of rfl) ?_
      exact hx4
    · exact hv1
  · exact hv1

theorem keeps_captureRecordCommit {W : Nat} {a : State} {v0 : List (ℕ × ℕ)} {v1 : State} (hW : Sub 215679573343500610039213192126293135017195599456438611683188003598916 W) (hv1 : Keeps W a v1) :
    Keeps W a (captureRecordCommit v0 v1) := by
  unfold captureRecordCommit
  refine keeps_recordComplete (hW.of rfl) ?_
  exact hv1

theorem keeps_pipeStop {W : Nat} {a : State} {v0 : State} (hW : Sub 210624586487925205416103548152102352458825872321225857718118514688 W) (hv0 : Keeps W a v0) :
    Keeps W a (pipeStop v0) := by
  unfold pipeStop
  extract_lets -useContext -underBinder x0 x1 x2
  refine Keeps.upd_21_23 (hW.bit rfl) (hW.bit rfl) (by constructor <;> first | exact fun h => Bool.noConfusion ((hW.bit (by rfl)).symm.trans h) | exact fun _ => rfl | (intro _; split <;> rfl)) (by constructor <;> first | exact fun h => Bool.noConfusion ((hW.bit (by rfl)).symm.trans h) | exact fun _ => rfl | (intro _; split <;> rfl)) ?_
  exact hv0

theorem keeps_capParams {W : Nat} {a : State} {v0 : State} (hW : Sub 210624586886374046041234651325272579517906260062098029485855080448 W) (hv0 : Keeps W a v0) :
    Keeps W a (capParams v0) := by
  unfold capParams
  extract_lets -useContext -underBinder x0 x1 x2
  have hx1 : Keeps W a x1 := by
    refine Keeps.ite ?_ ?_
    · refine Keeps.ite ?_ ?_
      · refine keeps_pipeStop (hW.of rfl) ?_
        exact hv0
      · exact hv0
    · refine Keeps.ite ?_ ?_
      · refine keeps_pipeStart (hW.of rfl) ?_
        exact hv0
      · exact hv0
  try clear_value x1
  refine Keeps.ite ?_ ?_
  · refine Keeps.ite ?_ ?_
    · refine Keeps.upd_21 (hW.bit rfl) (by constructor <;> first | exact fun h => Bool.noConfusion ((hW.bit (by rfl)).symm.trans h) | exact fun _ => rfl | (intro _; split <;> rfl)) ?_
      exact hx1
    · exact hx1
  · refine Keeps.ite ?_ ?_
    · refine Keeps.upd_21 (hW.bit rfl) (by constructor <;> first | exact fun h => Bool.noConfusion ((hW.bit (by rfl)).symm.trans h) | exact fun _ => rfl | (intro _; split <;> rfl)) ?_
      exact hx1
    · exact hx1

theorem keeps_cmdCaptureStatus {W : Nat} {a : State} (hW : Sub 0 W) :
    KeepsC W a (cmdCaptureStatus) := by
  unfold cmdCaptureStatus
  intro r p t ht
  dsimp only
  refine keeps_captureStatusBody (hW.of rfl) ?_
  exact ht

theorem keeps_capRecall {W : Nat} {a : State} {v0 : State} (hW : Sub 386188876298203992306303450841877914271922258790269845504 W) (hv0 : Keeps W a v0) :
    Keeps W a (capRecall v0) := by
  unfold capRecall
  extract_lets -useContext -underBinder x0 x1
  refine Keeps.upd_21 (hW.bit rfl) (by constructor <;> first | exact fun h => Bool.noConfusion ((hW.bit (by rfl)).symm.trans h) | exact fun _ => rfl | (intro _; split <;> rfl)) ?_
  exact hv0

theorem keeps_cmdCaptureRead {W : Nat} {a : State} (hW : Sub 218615307934772124422363036863369085067552222803744123685040541365870 W) :
    KeepsC W a (cmdCaptureRead) := by
  unfold cmdCaptureRead
  intro r p t ht
  dsimp only
  refine keeps_captureReadBody (hW.of rfl) ?_
  exact ht

end Sys2Proof.Machine
end

