-- ==== Sys2Proof/Laws/KeepsBanks.lean ====
section
/-! SUPPORT. What the operations of Machine/Banks.lean keep (`Keeps`): one lemma for each. -/

namespace Sys2Proof.Machine

set_option linter.unusedVariables false
set_option linter.unusedTactic false
set_option linter.unreachableTactic false

theorem keeps_denyBank {W : Nat} {a : State} {v0 : ℕ} {v1 : State} (hW : Sub 215679573337205118357336120696157045389097155380324579848828898770944 W) (hv1 : Keeps W a v1) :
    Keeps W a (denyBank v0 v1) := by
  unfold denyBank
  refine keeps_onBank (hW.of rfl) ?_
  exact hv1

theorem keeps_gate {W : Nat} {a : State} {v0 : Bool} {v1 : ℕ} {v2 : Bool} {v3 : ℕ} {v4 : State} (hW : Sub 215679573337205118357336120696157045389097310122829490521363261169664 W) (hv4 : Keeps W a v4) :
    Keeps W a (gate v0 v1 v2 v3 v4).2 := by
  unfold gate
  extract_lets -useContext -underBinder x0 x1
  have hx0 : Keeps W a x0 := by
    refine keeps_touchBank (hW.of rfl) ?_
    exact hv4
  refine Keeps.ite2 ?_ ?_
  · try dsimp only
    refine keeps_denyBank (hW.of rfl) ?_
    exact hx0
  · refine Keeps.ite2 ?_ ?_
    · try dsimp only
      exact hx0
    · try dsimp only
      refine keeps_denyBank (hW.of rfl) ?_
      exact hx0

theorem keeps_parityError {W : Nat} {a : State} {v0 : ℕ} {v1 : State} (hW : Sub 6257643361376515438427774416355766355931848959047354854379278313682542 W) (hv1 : Keeps W a v1) :
    Keeps W a (parityError v0 v1) := by
  unfold parityError
  extract_lets -useContext -underBinder x0 x1 x2 x3
  have hx0 : Keeps W a x0 := by
    refine keeps_onBank (hW.of rfl) ?_
    exact hv1
  have hx1 : Keeps W a x1 := by
    refine keeps_raiseGlobal (hW.of rfl) ?_
    exact hx0
  have hx3 : Keeps W a x3 := by
    refine keeps_onBank (hW.of rfl) ?_
    refine keeps_failRings (hW.of rfl) ?_
    exact hx0
  try clear_value x0
  try clear_value x1
  try clear_value x3
  refine Keeps.ite ?_ ?_
  · refine Keeps.upd_5 (hW.bit rfl) (by constructor <;> first | exact fun h => Bool.noConfusion ((hW.bit (by rfl)).symm.trans h) | exact fun _ => rfl | (intro _; split <;> rfl)) ?_
    exact hx1
  · refine Keeps.ite ?_ ?_
    · refine keeps_raiseGlobal (hW.of rfl) ?_
      exact hx3
    · exact hx0

theorem keeps_access {W : Nat} {a : State} {v0 : Option (List (Nat × Bool))} {v1 : Bool} {v2 : Nat} {v3 : Bool} {v4 : Nat} {v5 : Bool}
    {v6 : Nat} {v7 : State} (hW : Sub 2803834453383666538645369569050041590058263174686724448707309845094400 W) (hv7 : Keeps W a v7) : Keeps W a (access v0 v1 v2 v3 v4 v5 v6 v7).2 := by
  have h0 : Keeps W a (gate v1 v4 v5 v6 v7).2 := keeps_gate (hW.of rfl) hv7
  unfold access
  split
  · rename_i h
    have h1 := Keeps.ofEq2 h h0
    dsimp only
    split
    · exact keeps_arbitrate (hW.of rfl) h1
    · exact h1
  · exact h0

theorem keeps_followRd {W : Nat} {a : State} {v0 : ℕ} {v1 : ℕ} {v2 : State} (hW : Sub 6254812939070616989549445418216237986716136555867318275399826276360196 W) (hv2 : Keeps W a v2) :
    Keeps W a (followRd v0 v1 v2) := by
  unfold followRd
  refine Keeps.foldl (fun t0 y1 ht0 => ?_) ?_
  · extract_lets -useContext -underBinder x2
    refine Keeps.ite ?_ ?_
    · refine keeps_putControl (hW.of rfl) ?_
      refine keeps_ringSync (hW.of rfl) ?_
      exact ht0
    · exact ht0
  · exact hv2

theorem keeps_bankPut {W : Nat} {a : State} {v0 : ℕ} {v1 : List Sys2Proof.Byte} {v2 : State} (hW : Sub 6254812939070616989549445418216237986716136555867318275399826276360196 W) (hv2 : Keeps W a v2) :
    Keeps W a (bankPut v0 v1 v2) := by
  unfold bankPut
  refine keeps_followRd (hW.of rfl) ?_
  refine keeps_bankBytes (hW.of rfl) ?_
  exact hv2

theorem keeps_bankWrites {W : Nat} {a : State} {v0 v1 v2 : Nat} {v3 : Bytes} {v4 : Option (List (Nat × Bool))} {v5 : State}
    (hW : Sub 6254812939070616989549445418216237986716136555867318275399826276360196 W) (hv5 : Keeps W a v5) : Keeps W a (bankWrites v0 v1 v2 v3 v4 v5).2 := by
  induction v1 generalizing v2 v3 v4 v5 with
  | zero => exact hv5
  | succ m ih =>
    unfold bankWrites
    split
    · rename_i h
      exact Keeps.ofEq2 h (keeps_access (hW.of rfl) hv5)
    · rename_i h
      exact ih (keeps_bankPut (hW.of rfl) (Keeps.ofEq2 h (keeps_access (hW.of rfl) hv5)))

theorem keeps_parityRead {W : Nat} {a : State} {v0 : Bool} {v1 : ℕ} {v2 : ℕ} {v3 : State} (hW : Sub 6257643361376515438427774416355766355931848959047354854379278313682542 W) (hv3 : Keeps W a v3) :
    Keeps W a (parityRead v0 v1 v2 v3).2 := by
  unfold parityRead
  extract_lets -useContext -underBinder x0
  have hx0 : Keeps W a x0 := by
    refine keeps_upset (hW.of rfl) ?_
    exact hv3
  refine Keeps.ite2 ?_ ?_
  · try dsimp only
    refine keeps_parityError (hW.of rfl) ?_
    exact hx0
  · try dsimp only
    exact hx0

theorem keeps_winError {W : Nat} {a : State} {v0 : ℕ} {v1 : Sys2Proof.Machine.Port → Sys2Proof.Machine.Port} {v2 : State} (hW : Sub 64 W) (hv2 : Keeps W a v2) :
    Keeps W a (winError v0 v1 v2) := by
  unfold winError
  refine keeps_setIrq (hW.of rfl) ?_
  refine keeps_onPort (hW.of rfl) ?_
  exact hv2

theorem keeps_windowGate {W : Nat} {a : State} {v0 : ℕ} {v1 : Option (List (ℕ × Bool))} {v2 : Bool} {v3 : Option ℕ} {v4 : Bool} {v5 : ℕ} {v6 : State} (hW : Sub 2803834453383666538645369569050041590058263174686724448707309845094464 W) (hv6 : Keeps W a v6) :
    Keeps W a (windowGate v0 v1 v2 v3 v4 v5 v6).2 := by
  unfold windowGate
  split
  · try dsimp only
    refine keeps_winError (hW.of rfl) ?_
    exact hv6
  · split
    · rename_i p2 q3
      have hp4 : Keeps W a p2 := Keeps.ofEq2 q3 (by
        refine keeps_access (hW.of rfl) ?_
        · exact hv6)
      try dsimp only
      exact hp4
    · rename_i p5 p6 q7
      have hp8 : Keeps W a p6 := Keeps.ofEq2 q7 (by
        refine keeps_access (hW.of rfl) ?_
        · exact hv6)
      try dsimp only
      refine keeps_winError (hW.of rfl) ?_
      exact hp8

theorem keeps_windowPut {W : Nat} {a : State} {v0 : ℕ} {v1 : Option (List (ℕ × Bool))} {v2 : Bool} {v3 : Option ℕ} {v4 : ℕ} {v5 : List Sys2Proof.Byte} {v6 : State} (hW : Sub 6254812939070616989549445418216237986716136555867318275399826276360260 W) (hv6 : Keeps W a v6) :
    Keeps W a (windowPut v0 v1 v2 v3 v4 v5 v6) := by
  unfold windowPut
  split
  · rename_i p0 q1
    have hp2 : Keeps W a p0 := Keeps.ofEq2 q1 (by
      refine keeps_windowGate (hW.of rfl) ?_
      · exact hv6)
    refine keeps_bankPut (hW.of rfl) ?_
    exact hp2
  · rename_i p3 q4
    have hp5 : Keeps W a p3 := Keeps.ofEq2 q4 (by
      refine keeps_windowGate (hW.of rfl) ?_
      · exact hv6)
    exact hp5

theorem keeps_bankReads {W : Nat} {a : State} {v0 v1 : Nat} {v2 : List Int} {v3 v4 : Nat} {v5 : Option (List (Nat × Bool))} {v6 : State}
    (hW : Sub 6257643361376515438427774416355766355931848959047354854379278313682542 W) (hv6 : Keeps W a v6) : Keeps W a (bankReads v0 v1 v2 v3 v4 v5 v6).2 := by
  induction v3 generalizing v4 v5 v6 with
  | zero => exact hv6
  | succ m ih =>
    unfold bankReads
    split
    · rename_i h
      exact Keeps.ofEq2 h (keeps_access (hW.of rfl) hv6)
    · rename_i h
      extract_lets p
      have h1 : Keeps W a p.2 := keeps_parityRead (hW.of rfl) (Keeps.ofEq2 h (keeps_access (hW.of rfl) hv6))
      exact Keeps.ite2 h1 (ih h1)

theorem keeps_bankReadRun {W : Nat} {a : State} {v0 : Option (List (ℕ × Bool))} {v1 : Sys2Proof.Req} {v2 : List Sys2Proof.Byte} {v3 : State} (hW : Sub 6257643361376515438427774416355766355931848959047354854379278313682542 W) (hv3 : Keeps W a v3) :
    Keeps W a (bankReadRun v0 v1 v2 v3).2.2 := by
  unfold bankReadRun
  extract_lets -useContext -underBinder x0 x1
  try clear_value x0
  try clear_value x1
  split
  · rename_i p2 q3
    have hp4 : Keeps W a p2 := Keeps.ofEq2 q3 (by
      refine keeps_bankReads (hW.of rfl) ?_
      · exact hv3)
    try dsimp only
    try dsimp only
    exact hp4
  · rename_i p5 p6 _ q7
    have hp8 : Keeps W a p6 := Keeps.ofEq2 q7 (by
      refine keeps_bankReads (hW.of rfl) ?_
      · exact hv3)
    try dsimp only
    try dsimp only
    exact hp8

theorem keeps_bankWriteRun {W : Nat} {a : State} {v0 : Option (List (ℕ × Bool))} {v1 : Sys2Proof.Req} {v2 : List Sys2Proof.Byte} {v3 : State} (hW : Sub 6254812939070616989549445418216237986716136555867318275399826276360196 W) (hv3 : Keeps W a v3) :
    Keeps W a (bankWriteRun v0 v1 v2 v3).2.2 := by
  unfold bankWriteRun
  extract_lets -useContext -underBinder x0
  have hx0 : Keeps W a x0.2 := by
    refine keeps_bankWrites (hW.of rfl) ?_
    · exact hv3
  try dsimp only
  try dsimp only
  exact hx0

theorem keeps_putWord {W : Nat} {a : State} {v0 : ℕ} {v1 : ℕ} {v2 : State} (hW : Sub 6254812939070616989549445418216237986716136555867318275399826276360196 W) (hv2 : Keeps W a v2) :
    Keeps W a (putWord v0 v1 v2) := by
  unfold putWord
  refine keeps_bankPut (hW.of rfl) ?_
  exact hv2

theorem keeps_atomicDo {W : Nat} {a : State} {v0 : ℕ} {v1 : ℕ} {v2 : ℕ} {v3 : Bool} {v4 : State} (hW : Sub 6257643361376515438427774416355766355931848959047354854379278313682542 W) (hv4 : Keeps W a v4) :
    Keeps W a (atomicDo v0 v1 v2 v3 v4).2 := by
  unfold atomicDo
  extract_lets -useContext -underBinder x0
  have hx0 : Keeps W a x0.2 := by
    refine keeps_parityRead (hW.of rfl) ?_
    · exact hv4
  refine Keeps.ite2 ?_ ?_
  · try dsimp only
    exact hx0
  · try dsimp only
    refine keeps_putWord (hW.of rfl) ?_
    exact hx0

theorem keeps_bankAtomicRun {W : Nat} {a : State} {v0 : Option (List (ℕ × Bool))} {v1 : Sys2Proof.Req} {v2 : List Sys2Proof.Byte} {v3 : State} (hW : Sub 6257643361376515438427774416355766355931848959047354854379278313682542 W) (hv3 : Keeps W a v3) :
    Keeps W a (bankAtomicRun v0 v1 v2 v3).2.2 := by
  unfold bankAtomicRun
  extract_lets -useContext -underBinder x0
  try clear_value x0
  split
  · rename_i p1 p2 q3
    have hp4 : Keeps W a p2 := Keeps.ofEq2 q3 (by
      refine keeps_access (hW.of rfl) ?_
      · exact hv3)
    try dsimp only
    try dsimp only
    exact hp4
  · rename_i p5 q6
    have hp7 : Keeps W a p5 := Keeps.ofEq2 q6 (by
      refine keeps_access (hW.of rfl) ?_
      · exact hv3)
    split
    · rename_i p8 p9 q10
      have hp11 : Keeps W a p9 := Keeps.ofEq2 q10 (by
        refine keeps_atomicDo (hW.of rfl) ?_
        · exact hp7)
      try dsimp only
      try dsimp only
      exact hp11
    · rename_i p12 q13
      have hp14 : Keeps W a p12 := Keeps.ofEq2 q13 (by
        refine keeps_atomicDo (hW.of rfl) ?_
        · exact hp7)
      try dsimp only
      try dsimp only
      exact hp14

theorem keeps_bankRun {W : Nat} {a : State} {v0 : Option (List (ℕ × Bool))} {v1 : ℕ} {v2 : Sys2Proof.Req} {v3 : List Sys2Proof.Byte} {v4 : State} (hW : Sub 6257643361376515438427774416355766355931848959047354854379278313682542 W) (hv4 : Keeps W a v4) :
    Keeps W a (bankRun v0 v1 v2 v3 v4).2.2 := by
  unfold bankRun
  refine Keeps.ite5 ?_ ?_
  · refine keeps_bankReadRun (hW.of rfl) ?_
    · exact hv4
  · refine Keeps.ite5 ?_ ?_
    · refine keeps_bankWriteRun (hW.of rfl) ?_
      · exact hv4
    · refine keeps_bankAtomicRun (hW.of rfl) ?_
      · exact hv4

theorem keeps_fabricError {W : Nat} {a : State} {v0 : State} (hW : Sub 431359146674410236714672241392314090778194310760649159697657780764672 W) (hv0 : Keeps W a v0) :
    Keeps W a (fabricError v0) := by
  unfold fabricError
  refine Keeps.upd_24 (hW.bit rfl) (by constructor <;> first | exact fun h => Bool.noConfusion ((hW.bit (by rfl)).symm.trans h) | exact fun _ => rfl | (intro _; split <;> rfl)) ?_
  exact hv0

theorem keeps_holdAccess {W : Nat} {a : State} {v0 : ℕ} {v1 : ℕ} {v2 : Sys2Proof.Machine.Access} {v3 : State} (hW : Sub 215679573337205118357336120696157045389097155380324579848828898770944 W) (hv3 : Keeps W a v3) :
    Keeps W a (holdAccess v0 v1 v2 v3) := by
  unfold holdAccess
  extract_lets -useContext -underBinder x0
  refine keeps_onBank (hW.of rfl) ?_
  exact hv3

theorem keeps_aliasRun {W : Nat} {a : State} {v0 : Option (List (ℕ × Bool))} {v1 : Bool} {v2 : ℕ} {v3 : ℕ} {v4 : ℕ} {v5 : ℕ} {v6 : Bool} {v7 : State} (hW : Sub 6257643361376515438427774416355766355931848959047354854379278313682542 W) (hv7 : Keeps W a v7) :
    Keeps W a (aliasRun v0 v1 v2 v3 v4 v5 v6 v7) := by
  unfold aliasRun
  split
  · rename_i p0 q1
    have hp2 : Keeps W a p0 := Keeps.ofEq2 q1 (by
      refine keeps_access (hW.of rfl) ?_
      · exact hv7)
    refine keeps_atomicDo (hW.of rfl) ?_
    · exact hp2
  · rename_i p3 p4 q5
    have hp6 : Keeps W a p4 := Keeps.ofEq2 q5 (by
      refine keeps_access (hW.of rfl) ?_
      · exact hv7)
    exact hp6

theorem keeps_aliasWrite {W : Nat} {a : State} {v0 : ℕ} {v1 : ℕ} {v2 : ℕ} {v3 : ℕ} {v4 : ℕ} {v5 : Bool} {v6 : Bool} {v7 : List (ℕ × Bool)} {v8 : State} (hW : Sub 6689002508050925675142446657748080446710043269808004014076936077669998 W) (hv8 : Keeps W a v8) :
    Keeps W a (aliasWrite v0 v1 v2 v3 v4 v5 v6 v7 v8) := by
  unfold aliasWrite
  refine Keeps.ite ?_ ?_
  · exact hv8
  · refine Keeps.ite ?_ ?_
    · refine keeps_fabricError (hW.of rfl) ?_
      exact hv8
    · extract_lets -useContext -underBinder x0
      refine Keeps.ite ?_ ?_
      · refine keeps_holdAccess (hW.of rfl) ?_
        exact hv8
      · refine keeps_aliasRun (hW.of rfl) ?_
        exact hv8

theorem keeps_aliasAtomicAdd {W : Nat} {a : State} {v0 : ℕ} {v1 : ℕ} {v2 : ℕ} {v3 : Bool} {v4 : Bool} {v5 : List (ℕ × Bool)} {v6 : State} (hW : Sub 6689002508050925675142446657748080446710043269808004014076936077669998 W) (hv6 : Keeps W a v6) :
    Keeps W a (aliasAtomicAdd v0 v1 v2 v3 v4 v5 v6) := by
  unfold aliasAtomicAdd
  refine keeps_aliasWrite (hW.of rfl) ?_
  exact hv6

theorem keeps_handOver {W : Nat} {a : State} {v0 : ℕ} {v1 : ℕ} {v2 : ℕ} {v3 : State} (hW : Sub 215679573337205118357336120696157045389097155380324579848828898770944 W) (hv3 : Keeps W a v3) :
    Keeps W a (handOver v0 v1 v2 v3) := by
  unfold handOver
  refine keeps_onBank (hW.of rfl) ?_
  exact hv3

theorem keeps_defaultClaims {W : Nat} {a : State} {v0 : State} (hW : Sub 215679573337205118357336120696157045389097310122829490521363261169664 W) (hv0 : Keeps W a v0) :
    Keeps W a (defaultClaims v0) := by
  unfold defaultClaims
  refine Keeps.foldl (fun t0 y1 ht0 => ?_) ?_
  · refine Keeps.foldl (fun t2 y3 ht2 => ?_) ?_
    · refine Keeps.ite ?_ ?_
      · refine keeps_handOver (hW.of rfl) ?_
        exact ht2
      · exact ht2
    · exact ht0
  · refine keeps_takeOcc (hW.of rfl) ?_
    exact hv0

theorem keeps_atopFail {W : Nat} {a : State} {v0 : Sys2Proof.Machine.Port → Sys2Proof.Machine.Port} {v1 : ℕ} {v2 : State} (hW : Sub 64 W) (hv2 : Keeps W a v2) :
    Keeps W a (atopFail v0 v1 v2) := by
  unfold atopFail
  refine keeps_winError (hW.of rfl) ?_
  exact hv2

theorem keeps_atopRun {W : Nat} {a : State} {v0 : Option (List (ℕ × Bool))} {v1 : Bool} {v2 : ℕ} {v3 : ℕ} {v4 : ℕ} {v5 : ℕ} {v6 : ℕ} {v7 : Bool} {v8 : State} (hW : Sub 6257643361376515438427774416355766355931848959047354854379278313682542 W) (hv8 : Keeps W a v8) :
    Keeps W a (atopRun v0 v1 v2 v3 v4 v5 v6 v7 v8) := by
  unfold atopRun
  split
  · rename_i p0 p1 q2
    have hp3 : Keeps W a p1 := Keeps.ofEq2 q2 (by
      refine keeps_access (hW.of rfl) ?_
      · exact hv8)
    refine keeps_atopFail (hW.of rfl) ?_
    exact hp3
  · rename_i p4 q5
    have hp6 : Keeps W a p4 := Keeps.ofEq2 q5 (by
      refine keeps_access (hW.of rfl) ?_
      · exact hv8)
    split
    · rename_i p7 p8 q9
      have hp10 : Keeps W a p8 := Keeps.ofEq2 q9 (by
        refine keeps_atomicDo (hW.of rfl) ?_
        · exact hp6)
      refine keeps_onPort (hW.of rfl) ?_
      exact hp10
    · rename_i p11 q12
      have hp13 : Keeps W a p11 := Keeps.ofEq2 q12 (by
        refine keeps_atomicDo (hW.of rfl) ?_
        · exact hp6)
      refine keeps_atopFail (hW.of rfl) ?_
      exact hp13

theorem keeps_atop {W : Nat} {a : State} {v0 : ℕ} {v1 : ℕ} {v2 : Bool} {v3 : Bool} {v4 : List (ℕ × Bool)} {v5 : State} (hW : Sub 6689002508050925675142446657748080446710043269808004014076936077669998 W) (hv5 : Keeps W a v5) :
    Keeps W a (atop v0 v1 v2 v3 v4 v5) := by
  unfold atop
  extract_lets -useContext -underBinder x0
  try clear_value x0
  refine Keeps.ite ?_ ?_
  · exact hv5
  · split
    · refine keeps_atopFail (hW.of rfl) ?_
      exact hv5
    · refine Keeps.ite ?_ ?_
      · refine keeps_atopFail (hW.of rfl) ?_
        exact hv5
      · refine Keeps.ite ?_ ?_
        · refine keeps_atopFail (hW.of rfl) ?_
          refine keeps_fabricError (hW.of rfl) ?_
          exact hv5
        · refine Keeps.ite ?_ ?_
          · refine keeps_holdAccess (hW.of rfl) ?_
            refine keeps_onPort (hW.of rfl) ?_
            exact hv5
          · refine keeps_atopRun (hW.of rfl) ?_
            exact hv5

theorem keeps_atopOr {W : Nat} {a : State} {v0 : ℕ} {v1 : Bool} {v2 : Bool} {v3 : List (ℕ × Bool)} {v4 : State} (hW : Sub 6689002508050925675142446657748080446710043269808004014076936077669998 W) (hv4 : Keeps W a v4) :
    Keeps W a (atopOr v0 v1 v2 v3 v4) := by
  unfold atopOr
  refine keeps_atop (hW.of rfl) ?_
  exact hv4

theorem keeps_windowWrites {W : Nat} {a : State} {v0 : Nat} {v1 : Bool} {v2 : Option Nat} {v3 : Nat} {v4 : Option (List (Nat × Bool))}
    {v5 : Nat} {v6 : Bytes} {v7 : State} (hW : Sub 6254812939070616989549445418216237986716136555867318275399826276360260 W) (hv7 : Keeps W a v7) : Keeps W a (windowWrites v0 v1 v2 v3 v4 v5 v6 v7) := by
  induction v3 generalizing v4 v5 v6 v7 with
  | zero => unfold windowWrites; exact hv7
  | succ m ih =>
    cases v6 with
    | nil => unfold windowWrites; exact hv7
    | cons b bs =>
      unfold windowWrites
      exact Keeps.ite (ih (keeps_windowPut (hW.of rfl) hv7)) (ih (keeps_windowPut (hW.of rfl) hv7))

theorem keeps_windowWord {W : Nat} {a : State} {v0 : ℕ} {v1 : Option (List (ℕ × Bool))} {v2 : Bool} {v3 : Option ℕ} {v4 : ℕ} {v5 : Bool} {v6 : State} (hW : Sub 6257643361376515438427774416355766355931848959047354854379278313682542 W) (hv6 : Keeps W a v6) :
    Keeps W a (windowWord v0 v1 v2 v3 v4 v5 v6).2 := by
  unfold windowWord
  split
  · rename_i p0 q1
    have hp2 : Keeps W a p0 := Keeps.ofEq2 q1 (by
      refine keeps_windowGate (hW.of rfl) ?_
      · exact hv6)
    try dsimp only
    exact hp2
  · rename_i p3 q4
    have hp5 : Keeps W a p3 := Keeps.ofEq2 q4 (by
      refine keeps_windowGate (hW.of rfl) ?_
      · exact hv6)
    extract_lets -useContext -underBinder x6 x7
    have hx6 : Keeps W a x6.2 := by
      refine keeps_parityRead (hW.of rfl) ?_
      · exact hp5
    have hx7 : Keeps W a x7.2 := by
      refine keeps_drawFree (hW.of rfl) ?_
      · exact hx6
    refine Keeps.ite2 ?_ ?_
    · try dsimp only
      refine keeps_winError (hW.of rfl) ?_
      exact hx7
    · try dsimp only
      exact hx6

theorem keeps_windowWords {W : Nat} {a : State} {v0 : Nat} {v1 : Bool} {v2 : Option Nat} {v3 v4 : List Nat} {v5 : Nat}
    {v6 : Option (List (Nat × Bool))} {v7 : State} (hW : Sub 6257643361376515438427774416355766355931848959047354854379278313682542 W) (hv7 : Keeps W a v7) :
    Keeps W a (windowWords v0 v1 v2 v3 v4 v5 v6 v7).2 := by
  induction v4 generalizing v5 v6 v7 with
  | nil => exact hv7
  | cons x xs ih => exact ih (keeps_windowWord (hW.of rfl) hv7)

theorem keeps_windowRun {W : Nat} {a : State} {v0 : ℕ} {v1 : Option (List (ℕ × Bool))} {v2 : Bool} {v3 : Option ℕ} {v4 : Bool} {v5 : ℕ} {v6 : ℕ} {v7 : List Sys2Proof.Byte} {v8 : List ℕ} {v9 : State} (hW : Sub 6257643361376515438427774416355766355931848959047354854379278313682542 W) (hv9 : Keeps W a v9) :
    Keeps W a (windowRun v0 v1 v2 v3 v4 v5 v6 v7 v8 v9) := by
  unfold windowRun
  refine Keeps.ite ?_ ?_
  · refine keeps_windowWrites (hW.of rfl) ?_
    exact hv9
  · extract_lets -useContext -underBinder x0 x1 x2
    have hx2 : Keeps W a x2.2 := by
      refine keeps_windowWords (hW.of rfl) ?_
      · exact hv9
    refine keeps_onPort (hW.of rfl) ?_
    exact hx2

theorem keeps_bankRetireBody {W : Nat} {a : State} {v0 : Sys2Proof.Req} {v1 : List Sys2Proof.Byte} {v2 : State} (hW : Sub 215679573337205118357336120696157045389097155380324579848828898771968 W) (hv2 : Keeps W a v2) :
    KeepsR W a (bankRetireBody v0 v1 v2) := by
  unfold bankRetireBody
  extract_lets -useContext -underBinder x0 x1
  refine KeepsR.ite ?_ ?_
  · refine keeps_refuse (hW.of rfl) ?_
    exact hv2
  · refine KeepsR.ite ?_ ?_
    · refine KeepsR.ite ?_ ?_
      · refine KeepsR.accepted ?_
        refine keeps_addOp (hW.of rfl) ?_
        refine keeps_onBank (hW.of rfl) ?_
        exact hv2
      · refine keeps_refuse (hW.of rfl) ?_
        exact hv2
    · refine KeepsR.ite ?_ ?_
      · refine keeps_refuse (hW.of rfl) ?_
        exact hv2
      · refine KeepsR.ite ?_ ?_
        · refine keeps_refuse (hW.of rfl) ?_
          exact hv2
        · refine KeepsR.ite ?_ ?_
          · refine KeepsR.done ?_
            refine keeps_onBank (hW.of rfl) ?_
            exact hv2
          · refine KeepsR.ite ?_ ?_
            · refine keeps_refuse (hW.of rfl) ?_
              exact hv2
            · refine KeepsR.done ?_
              refine keeps_onBank (hW.of rfl) ?_
              exact hv2

theorem keeps_cmdBankRetire {W : Nat} {a : State} (hW : Sub 215679573337205118357336120696157045389097155380324579848828898771968 W) :
    KeepsC W a (cmdBankRetire) := by
  unfold cmdBankRetire
  intro r p t ht
  dsimp only
  refine keeps_bankRetireBody (hW.of rfl) ?_
  exact ht

theorem keeps_atopAdd {W : Nat} {a : State} {v0 : ℕ} {v1 : Bool} {v2 : Bool} {v3 : List (ℕ × Bool)} {v4 : State} (hW : Sub 6689002508050925675142446657748080446710043269808004014076936077669998 W) (hv4 : Keeps W a v4) :
    Keeps W a (atopAdd v0 v1 v2 v3 v4) := by
  unfold atopAdd
  refine keeps_atop (hW.of rfl) ?_
  exact hv4

theorem keeps_loseBridge {W : Nat} {a : State} {v0 : ℕ} {v1 : State} (hW : Sub 215679573337205118357336120696157045389097155380324579848828898770944 W) (hv1 : Keeps W a v1) :
    Keeps W a (loseBridge v0 v1) := by
  unfold loseBridge
  refine Keeps.upd_24 (hW.bit rfl) (by constructor <;> first | exact fun h => Bool.noConfusion ((hW.bit (by rfl)).symm.trans h) | exact fun _ => rfl | (intro _; split <;> rfl)) ?_
  exact hv1

theorem keeps_loseHeld {W : Nat} {a : State} {v0 : State} (hW : Sub 215679573337205118357336120696157045389097155380324579848828898770944 W) (hv0 : Keeps W a v0) :
    Keeps W a (loseHeld v0) := by
  unfold loseHeld
  extract_lets -useContext -underBinder x0 x3
  have hx0 : Keeps W a x0 := by
    refine Keeps.foldl (fun t1 y2 ht1 => ?_) ?_
    · refine keeps_loseBridge (hW.of rfl) ?_
      exact ht1
    · exact hv0
  try clear_value x0
  refine Keeps.upd_24 (hW.bit rfl) (by constructor <;> first | exact fun h => Bool.noConfusion ((hW.bit (by rfl)).symm.trans h) | exact fun _ => rfl | (intro _; split <;> rfl)) ?_
  exact hx0

theorem keeps_postHanded {W : Nat} {a : State} {v0 : ℕ} {v1 : ℕ} {v2 : ℕ} {v3 : ℕ} {v4 : State} (hW : Sub 154742504910672534362403392 W) (hv4 : Keeps W a v4) :
    Keeps W a (postHanded v0 v1 v2 v3 v4) := by
  unfold postHanded
  extract_lets -useContext -underBinder x0 x1
  refine Keeps.foldl (fun t2 y3 ht2 => ?_) ?_
  · refine keeps_postOwn (hW.of rfl) ?_
    exact ht2
  · exact hv4

theorem keeps_zeroBank {W : Nat} {a : State} {v0 : ℕ} {v1 : State} (hW : Sub 3450873173395281893717377931138512726225554486085193277581262128676868 W) (hv1 : Keeps W a v1) :
    Keeps W a (zeroBank v0 v1) := by
  unfold zeroBank
  extract_lets -useContext -underBinder x0 x1
  have hx0 : Keeps W a x0 := by
    refine keeps_clearBytes (hW.of rfl) ?_
    exact hv1
  try clear_value x0
  refine Keeps.upd_24 (hW.bit rfl) (by constructor <;> first | exact fun h => Bool.noConfusion ((hW.bit (by rfl)).symm.trans h) | exact fun _ => rfl | (intro _; split <;> rfl)) ?_
  exact hx0

theorem keeps_bankZeroingDone {W : Nat} {a : State} {v0 : ℕ} {v1 : State} (hW : Sub 3666552746732487012074714051834669771614651796208022768102625373073988 W) (hv1 : Keeps W a v1) :
    Keeps W a (bankZeroingDone v0 v1) := by
  unfold bankZeroingDone
  extract_lets -useContext -underBinder x0
  refine Keeps.ite ?_ ?_
  · refine keeps_postHanded (hW.of rfl) ?_
    refine keeps_zeroBank (hW.of rfl) ?_
    refine keeps_onBank (hW.of rfl) ?_
    exact hv1
  · exact hv1

theorem keeps_memoryWindowAccess {W : Nat} {a : State} {v0 : ℕ} {v1 : Bool} {v2 : ℕ} {v3 : ℕ} {v4 : List Sys2Proof.Byte} {v5 : List ℕ} {v6 : Bool} {v7 : List (ℕ × Bool)} {v8 : State} (hW : Sub 6257643361376515438427774416355766355931848959047354854379278313682542 W) (hv8 : Keeps W a v8) :
    Keeps W a (memoryWindowAccess v0 v1 v2 v3 v4 v5 v6 v7 v8) := by
  unfold memoryWindowAccess
  refine Keeps.ite ?_ ?_
  · exact hv8
  · extract_lets -useContext -underBinder x0 x1
    try clear_value x0
    try clear_value x1
    refine Keeps.ite ?_ ?_
    · refine Keeps.ite ?_ ?_
      · exact hv8
      · refine keeps_onPort (hW.of rfl) ?_
        exact hv8
    · split
      · refine keeps_holdAccess (hW.of rfl) ?_
        exact hv8
      · refine keeps_windowRun (hW.of rfl) ?_
        exact hv8

theorem keeps_bistMap {W : Nat} {a : State} {v0 : ℕ} {v1 : List ℕ} {v2 : State} (hW : Sub 215679573337205118357336120696157045389097155380324579848828898770944 W) (hv2 : Keeps W a v2) :
    Keeps W a (bistMap v0 v1 v2) := by
  unfold bistMap
  refine keeps_onBank (hW.of rfl) ?_
  exact hv2

theorem keeps_bankBistDone {W : Nat} {a : State} {v0 : ℕ} {v1 : List ℕ} {v2 : State} (hW : Sub 3669488481330054018139740968001881811262683094483459895630381776336494 W) (hv2 : Keeps W a v2) :
    Keeps W a (bankBistDone v0 v1 v2) := by
  unfold bankBistDone
  extract_lets -useContext -underBinder x0
  have hx0 : Keeps W a x0 := by
    refine keeps_bistMap (hW.of rfl) ?_
    exact hv2
  refine Keeps.ite ?_ ?_
  · exact hv2
  · refine Keeps.ite ?_ ?_
    · refine keeps_completeOp (hW.of rfl) ?_
      refine keeps_zeroBank (hW.of rfl) ?_
      refine keeps_onBank (hW.of rfl) ?_
      exact hx0
    · refine keeps_completeOp (hW.of rfl) ?_
      refine keeps_raiseGlobal (hW.of rfl) ?_
      refine keeps_zeroBank (hW.of rfl) ?_
      refine keeps_onBank (hW.of rfl) ?_
      exact hx0

theorem keeps_clearCounts {W : Nat} {a : State} {v0 : ℕ} {v1 : ℕ} {v2 : State} (hW : Sub 3235193600058076775360041810442355680836457330704868697732433246683136 W) (hv2 : Keeps W a v2) :
    Keeps W a (clearCounts v0 v1 v2) := by
  unfold clearCounts
  refine Keeps.ite ?_ ?_
  · refine keeps_onBank (hW.of rfl) ?_
    exact hv2
  · refine Keeps.upd_24 (hW.bit rfl) (by constructor <;> first | exact fun h => Bool.noConfusion ((hW.bit (by rfl)).symm.trans h) | exact fun _ => rfl | (intro _; split <;> rfl)) ?_
    exact hv2

theorem keeps_bankStatusBody {W : Nat} {a : State} {v0 : Sys2Proof.Req} {v1 : List Sys2Proof.Byte} {v2 : State} (hW : Sub 3235193600058076775360041810442355680836457330704868697732433246683136 W) (hv2 : Keeps W a v2) :
    KeepsR W a (bankStatusBody v0 v1 v2) := by
  unfold bankStatusBody
  extract_lets -useContext -underBinder x0 x1 x2
  refine KeepsR.done ?_
  refine Keeps.ite ?_ ?_
  · refine keeps_clearCounts (hW.of rfl) ?_
    exact hv2
  · exact hv2

theorem keeps_ringRecordWrite {W : Nat} {a : State} {v0 : ℕ} {v1 : Bool} {v2 : List (ℕ × Bool)} {v3 : State} (hW : Sub 6257643361376515438427774416355766355931848959047354854379278313682542 W) (hv3 : Keeps W a v3) :
    Keeps W a (ringRecordWrite v0 v1 v2 v3) := by
  unfold ringRecordWrite
  extract_lets -useContext -underBinder x0 x1
  have hx1 : Keeps W a x1.2 := by
    refine keeps_parityRead (hW.of rfl) ?_
    · exact hv3
  refine Keeps.ite ?_ ?_
  · refine Keeps.ite ?_ ?_
    · refine keeps_ringFailed (hW.of rfl) ?_
      exact hx1
    · refine keeps_writeQueued (hW.of rfl) ?_
      exact hx1
  · refine keeps_writeQueued (hW.of rfl) ?_
    exact hv3

theorem keeps_bankCommand {W : Nat} {a : State} {v0 : ℕ} {v1 : Sys2Proof.Req} {v2 : List Sys2Proof.Byte} {v3 : State} (hW : Sub 6257643361376515438427774416355766355931848959047354854379278313682542 W) (hv3 : Keeps W a v3) :
    KeepsR W a (bankCommand v0 v1 v2 v3) := by
  unfold bankCommand
  extract_lets -useContext -underBinder x0 x1
  have hx1 : Keeps W a x1.2.2 := by
    refine keeps_bankRun (hW.of rfl) ?_
    · exact hv3
  refine KeepsR.ite ?_ ?_
  · refine KeepsR.owed ?_
    refine keeps_addOp (hW.of rfl) ?_
    refine keeps_holdAccess (hW.of rfl) ?_
    exact hv3
  · refine KeepsR.done ?_
    exact hx1

theorem keeps_runHeld {W : Nat} {a : State} {v0 : ℕ} {v1 : Sys2Proof.Machine.Access} {v2 : State} (hW : Sub 6257643361376515438427774416355766355931848959047354854379278313682542 W) (hv2 : Keeps W a v2) :
    Keeps W a (runHeld v0 v1 v2) := by
  unfold runHeld
  split
  · refine keeps_windowRun (hW.of rfl) ?_
    exact hv2
  · refine keeps_aliasRun (hW.of rfl) ?_
    exact hv2
  · refine keeps_atopRun (hW.of rfl) ?_
    exact hv2
  · extract_lets -useContext -underBinder x21
    have hx21 : Keeps W a x21.2.2 := by
      refine keeps_bankRun (hW.of rfl) ?_
      · exact hv2
    refine keeps_completeOp (hW.of rfl) ?_
    exact hx21

theorem keeps_cmdBankAtomic {W : Nat} {a : State} (hW : Sub 6257643361376515438427774416355766355931848959047354854379278313682542 W) :
    KeepsC W a (cmdBankAtomic) := by
  unfold cmdBankAtomic
  intro r p t ht
  dsimp only
  refine keeps_bankCommand (hW.of rfl) ?_
  exact ht

theorem keeps_bankHandoverBody {W : Nat} {a : State} {v0 : Sys2Proof.Req} {v1 : List Sys2Proof.Byte} {v2 : State} (hW : Sub 215679573337205118357336120696157045389097310122829490521363261169664 W) (hv2 : Keeps W a v2) :
    KeepsR W a (bankHandoverBody v0 v1 v2) := by
  unfold bankHandoverBody
  extract_lets -useContext -underBinder x0 x1 x2 x3 x4 x5
  have hx0 : Keeps W a x0 := by
    refine keeps_takeOcc (hW.of rfl) ?_
    exact hv2
  refine KeepsR.ite ?_ ?_
  · refine keeps_refuse (hW.of rfl) ?_
    exact hv2
  · refine KeepsR.ite ?_ ?_
    · refine keeps_refuse (hW.of rfl) ?_
      exact hv2
    · refine KeepsR.ite ?_ ?_
      · refine keeps_refuse (hW.of rfl) ?_
        exact hv2
      · refine KeepsR.ite ?_ ?_
        · refine KeepsR.ite ?_ ?_
          · refine keeps_refuse (hW.of rfl) ?_
            exact hv2
          · refine KeepsR.ite ?_ ?_
            · refine keeps_refuse (hW.of rfl) ?_
              exact hv2
            · refine KeepsR.done ?_
              refine keeps_handOver (hW.of rfl) ?_
              exact hx0
        · refine KeepsR.ite ?_ ?_
          · refine keeps_refuse (hW.of rfl) ?_
            exact hv2
          · refine KeepsR.ite ?_ ?_
            · refine keeps_refuse (hW.of rfl) ?_
              exact hv2
            · refine KeepsR.ite ?_ ?_
              · refine KeepsR.ite ?_ ?_
                · refine keeps_refuse (hW.of rfl) ?_
                  exact hv2
                · refine KeepsR.done ?_
                  refine keeps_handOver (hW.of rfl) ?_
                  exact hx0
              · refine KeepsR.ite ?_ ?_
                · refine KeepsR.done ?_
                  refine keeps_handOver (hW.of rfl) ?_
                  exact hx0
                · refine KeepsR.ite ?_ ?_
                  · refine keeps_refuse (hW.of rfl) ?_
                    exact hv2
                  · refine KeepsR.ite ?_ ?_
                    · refine KeepsR.ite ?_ ?_
                      · refine keeps_refuse (hW.of rfl) ?_
                        exact hv2
                      · refine KeepsR.done ?_
                        refine keeps_delegate (hW.of rfl) ?_
                        exact hx0
                    · refine KeepsR.done ?_
                      refine keeps_onBank (hW.of rfl) ?_
                      exact hx0

theorem keeps_cmdBankHandover {W : Nat} {a : State} (hW : Sub 215679573337205118357336120696157045389097310122829490521363261169664 W) :
    KeepsC W a (cmdBankHandover) := by
  unfold cmdBankHandover
  intro r p t ht
  dsimp only
  refine keeps_bankHandoverBody (hW.of rfl) ?_
  exact ht

theorem keeps_cmdBankRead {W : Nat} {a : State} (hW : Sub 6257643361376515438427774416355766355931848959047354854379278313682542 W) :
    KeepsC W a (cmdBankRead) := by
  unfold cmdBankRead
  intro r p t ht
  dsimp only
  refine keeps_bankCommand (hW.of rfl) ?_
  exact ht

theorem keeps_aliasBitClear {W : Nat} {a : State} {v0 : ℕ} {v1 : ℕ} {v2 : ℕ} {v3 : Bool} {v4 : Bool} {v5 : List (ℕ × Bool)} {v6 : State} (hW : Sub 6689002508050925675142446657748080446710043269808004014076936077669998 W) (hv6 : Keeps W a v6) :
    Keeps W a (aliasBitClear v0 v1 v2 v3 v4 v5 v6) := by
  unfold aliasBitClear
  refine keeps_aliasWrite (hW.of rfl) ?_
  exact hv6

theorem keeps_drainHeld {W : Nat} {a : State} {v0 v1 v2 : Nat} {v3 : State} (hW : Sub 6257643361376515438427774416355766355931848959047354854379278313682542 W)
    (hv3 : Keeps W a v3) : Keeps W a (drainHeld v0 v1 v2 v3) := by
  induction v1 generalizing v2 v3 with
  | zero => unfold drainHeld; exact hv3
  | succ n ih =>
    unfold drainHeld
    extract_lets p s1
    have h1 : Keeps W a s1 := keeps_onBank (hW.of rfl) hv3
    split
    · exact ih (keeps_runHeld (hW.of rfl) (keeps_countGrant (hW.of rfl) (keeps_onBank (hW.of rfl) h1)))
    · exact h1

theorem keeps_drainAll {W : Nat} {a : State} {v0 : ℕ} {v1 : State} (hW : Sub 6257643361376515438427774416355766355931848959047354854379278313682542 W) (hv1 : Keeps W a v1) :
    Keeps W a (drainAll v0 v1) := by
  unfold drainAll
  refine keeps_drainHeld (hW.of rfl) ?_
  exact hv1

theorem keeps_atopAndNot {W : Nat} {a : State} {v0 : ℕ} {v1 : Bool} {v2 : Bool} {v3 : List (ℕ × Bool)} {v4 : State} (hW : Sub 6689002508050925675142446657748080446710043269808004014076936077669998 W) (hv4 : Keeps W a v4) :
    Keeps W a (atopAndNot v0 v1 v2 v3 v4) := by
  unfold atopAndNot
  refine keeps_atop (hW.of rfl) ?_
  exact hv4

theorem keeps_cmdBankWrite {W : Nat} {a : State} (hW : Sub 6257643361376515438427774416355766355931848959047354854379278313682542 W) :
    KeepsC W a (cmdBankWrite) := by
  unfold cmdBankWrite
  intro r p t ht
  dsimp only
  refine keeps_bankCommand (hW.of rfl) ?_
  exact ht

theorem keeps_aliasRead {W : Nat} {a : State} {v0 : ℕ} {v1 : State} (hW : Sub 0 W) (hv1 : Keeps W a v1) :
    Keeps W a (aliasRead v0 v1).2 := by
  unfold aliasRead
  try dsimp only
  exact hv1

theorem keeps_cmdBankStatus {W : Nat} {a : State} (hW : Sub 3235193600058076775360041810442355680836457330704868697732433246683136 W) :
    KeepsC W a (cmdBankStatus) := by
  unfold cmdBankStatus
  intro r p t ht
  dsimp only
  refine keeps_bankStatusBody (hW.of rfl) ?_
  exact ht

theorem keeps_handoverDrainEnd {W : Nat} {a : State} {v0 : ℕ} {v1 : State} (hW : Sub 6257643361376515438427774416355766355931848959047354854379278313682542 W) (hv1 : Keeps W a v1) :
    Keeps W a (handoverDrainEnd v0 v1) := by
  unfold handoverDrainEnd
  extract_lets -useContext -underBinder x0
  refine Keeps.ite ?_ ?_
  · refine Keeps.ite ?_ ?_
    · refine keeps_onBank (hW.of rfl) ?_
      exact hv1
    · refine Keeps.ite ?_ ?_
      · refine keeps_onBank (hW.of rfl) ?_
        exact hv1
      · refine keeps_drainAll (hW.of rfl) ?_
        refine keeps_postHanded (hW.of rfl) ?_
        refine keeps_onBank (hW.of rfl) ?_
        exact hv1
  · refine keeps_drainAll (hW.of rfl) ?_
    exact hv1

theorem keeps_aliasBitSet {W : Nat} {a : State} {v0 : ℕ} {v1 : ℕ} {v2 : ℕ} {v3 : Bool} {v4 : Bool} {v5 : List (ℕ × Bool)} {v6 : State} (hW : Sub 6689002508050925675142446657748080446710043269808004014076936077669998 W) (hv6 : Keeps W a v6) :
    Keeps W a (aliasBitSet v0 v1 v2 v3 v4 v5 v6) := by
  unfold aliasBitSet
  refine keeps_aliasWrite (hW.of rfl) ?_
  exact hv6

theorem keeps_atopSwap {W : Nat} {a : State} {v0 : ℕ} {v1 : Bool} {v2 : Bool} {v3 : List (ℕ × Bool)} {v4 : State} (hW : Sub 6689002508050925675142446657748080446710043269808004014076936077669998 W) (hv4 : Keeps W a v4) :
    Keeps W a (atopSwap v0 v1 v2 v3 v4) := by
  unfold atopSwap
  refine keeps_atop (hW.of rfl) ?_
  exact hv4

end Sys2Proof.Machine
end

