-- ==== Sys2Proof/Laws/KeepsTags.lean ====
section
/-! SUPPORT. What the operations of Machine/Tags.lean keep (`Keeps`): one lemma for each. -/

namespace Sys2Proof.Machine

set_option linter.unusedVariables false
set_option linter.unusedTactic false
set_option linter.unreachableTactic false

theorem keeps_noteHot {W : Nat} {a : State} {v0 : List ℕ} {v1 : Bool} {v2 : State} (hW : Sub 262144 W) (hv2 : Keeps W a v2) :
    Keeps W a (noteHot v0 v1 v2) := by
  unfold noteHot
  refine Keeps.foldl (fun t0 y1 ht0 => ?_) ?_
  · refine keeps_onRail (hW.of rfl) ?_
    exact ht0
  · exact hv2

theorem keeps_hotFound {W : Nat} {a : State} {v0 : ℕ} {v1 : List Sys2Proof.Byte} {v2 : State} (hW : Sub 262144 W) (hv2 : Keeps W a v2) :
    Keeps W a (hotFound v0 v1 v2).2 := by
  unfold hotFound
  split
  · try dsimp only
    exact hv2
  · refine Keeps.ite2 ?_ ?_
    · extract_lets -useContext -underBinder x2 x3 x4
      try dsimp only
      refine keeps_noteHot (hW.of rfl) ?_
      exact hv2
    · try dsimp only
      exact hv2

theorem keeps_onTag {W : Nat} {a : State} {v0 : ℕ} {v1 : Sys2Proof.Machine.TagPos → Sys2Proof.Machine.TagPos} {v2 : State} (hW : Sub 12554203470773361527671578846415332832204710888928073220096 W) (hv2 : Keeps W a v2) :
    Keeps W a (onTag v0 v1 v2) := by
  unfold onTag
  refine Keeps.upd_22 (hW.bit rfl) (by constructor <;> first | exact fun h => Bool.noConfusion ((hW.bit (by rfl)).symm.trans h) | exact fun _ => rfl | (intro _; split <;> rfl)) ?_
  exact hv2

theorem keeps_takeExt {W : Nat} {a : State} {v0 : ℕ} {v1 : List Sys2Proof.Byte} {v2 : State} (hW : Sub 12554203470773361527671578846415332832204710888928073220096 W) (hv2 : Keeps W a v2) :
    Keeps W a (takeExt v0 v1 v2) := by
  unfold takeExt
  refine Keeps.ite ?_ ?_
  · refine keeps_onTag (hW.of rfl) ?_
    exact hv2
  · exact hv2

theorem keeps_takeRecord {W : Nat} {a : State} {v0 : ℕ} {v1 : List Sys2Proof.Byte} {v2 : Bool} {v3 : Bool} {v4 : State} (hW : Sub 12554203470773361527671578846415332832204710888928073220096 W) (hv4 : Keeps W a v4) :
    Keeps W a (takeRecord v0 v1 v2 v3 v4) := by
  unfold takeRecord
  refine Keeps.ite ?_ ?_
  · refine keeps_onTag (hW.of rfl) ?_
    exact hv4
  · refine keeps_onTag (hW.of rfl) ?_
    exact hv4

theorem keeps_pollRecord {W : Nat} {a : State} {v0 : ℕ} {v1 : List Sys2Proof.Byte} {v2 : List (ℕ × ℕ × ℤ)} {v3 : State} (hW : Sub 34234687251295172300587652575686356995659296200133057409361392804853384416743140832682457381697150 W) (hv3 : Keeps W a v3) :
    Keeps W a (pollRecord v0 v1 v2 v3) := by
  unfold pollRecord
  extract_lets -useContext -underBinder x0
  have hx0 : Keeps W a x0.2 := by
    refine keeps_hotFound (hW.of rfl) ?_
    · refine keeps_takeExt (hW.of rfl) ?_
      refine keeps_takeRecord (hW.of rfl) ?_
      exact hv3
  refine keeps_raiseTogether (hW.of rfl) ?_
  exact hx0

theorem keeps_onTags {W : Nat} {a : State} {v0 : Tags → Tags} {v1 : State} (hW : Sub 4194304 W)
    (hv0 : ∀ c, TagsK W c (v0 c)) (hv1 : Keeps W a v1) : Keeps W a (onTags v0 v1) :=
  Keeps.upd_22 (hW.bit rfl) (hv0 _) hv1

theorem keeps_writeModules {W : Nat} {a : State} {v0 : State} (hW : Sub 100433627766186892221372630811887481864941027959319058989060 W) (hv0 : Keeps W a v0) :
    Keeps W a (writeModules v0) := by
  unfold writeModules
  refine Keeps.ite ?_ ?_
  · extract_lets -useContext -underBinder x0
    refine keeps_onTags (hW.of rfl) (fun _ => (by constructor <;> first | exact fun h => Bool.noConfusion ((hW.bit (by rfl)).symm.trans h) | exact fun _ => rfl | (intro _; split <;> rfl))) ?_
    refine keeps_writeTwo (hW.of rfl) ?_
    exact hv0
  · refine keeps_onTags (hW.of rfl) (fun _ => (by constructor <;> first | exact fun h => Bool.noConfusion ((hW.bit (by rfl)).symm.trans h) | exact fun _ => rfl | (intro _; split <;> rfl))) ?_
    exact hv0

theorem keeps_tagChange {W : Nat} {a : State} {v0 : ℕ} {v1 : ℕ} {v2 : Sys2Proof.Machine.TagId} {v3 : Sys2Proof.Machine.TagId} {v4 : State} (hW : Sub 100433627766186942659553668028539344402669630287868709794380 W) (hv4 : Keeps W a v4) :
    Keeps W a (tagChange v0 v1 v2 v3 v4) := by
  unfold tagChange
  extract_lets -useContext -underBinder x0 x1 x2 x3 x4
  have hx3 : Keeps W a x3 := by
    refine keeps_post (hW.of rfl) ?_
    exact hv4
  refine keeps_writeModules (hW.of rfl) ?_
  refine keeps_logRecord (hW.of rfl) ?_
  exact hx3

theorem keeps_profilePark {W : Nat} {a : State} {v0 : Bool} {v1 : State} {v2 : ℕ} (hW : Sub 216054748376274544937812158189333735064531470016924929324833352675948 W) (hv1 : Keeps W a v1) :
    Keeps W a (profilePark v0 v1 v2) := by
  unfold profilePark
  refine Keeps.ite ?_ ?_
  · exact hv1
  · refine Keeps.ite ?_ ?_
    · refine keeps_onTags (hW.of rfl) (fun _ => (by constructor <;> first | exact fun h => Bool.noConfusion ((hW.bit (by rfl)).symm.trans h) | exact fun _ => rfl | (intro _; split <;> rfl))) ?_
      exact hv1
    · refine Keeps.ite ?_ ?_
      · refine keeps_parkRail (hW.of rfl) ?_
        exact hv1
      · refine Keeps.getD (keeps_unparkRail (hW.of rfl) ?_) ?_
        · exact hv1
        · exact hv1

theorem keeps_profileParkHeld {W : Nat} {a : State} {v0 : State} (hW : Sub 216054748376274544937812158189333735064531470016924929324833352675948 W) (hv0 : Keeps W a v0) :
    Keeps W a (profileParkHeld v0) := by
  unfold profileParkHeld
  refine Keeps.ite ?_ ?_
  · exact hv0
  · refine Keeps.foldl (fun t0 y1 ht0 => ?_) ?_
    · refine keeps_profilePark (hW.of rfl) ?_
      exact ht0
    · refine keeps_onTags (hW.of rfl) (fun _ => (by constructor <;> first | exact fun h => Bool.noConfusion ((hW.bit (by rfl)).symm.trans h) | exact fun _ => rfl | (intro _; split <;> rfl))) ?_
      exact hv0

theorem keeps_ocRestart {W : Nat} {a : State} {v0 : Sys2Proof.Machine.PInst} {v1 : State} (hW : Sub 191561942608236107294793378393788647952342390273998848 W) (hv1 : Keeps W a v1) :
    Keeps W a (ocRestart v0 v1) := by
  unfold ocRestart
  refine Keeps.ite ?_ ?_
  · refine keeps_setOc (hW.of rfl) ?_
    exact hv1
  · exact hv1

theorem keeps_holdOverlays {W : Nat} {a : State} {v0 : ℕ} {v1 : ℕ} {v2 : State} (hW : Sub 12554395032715969763778873639794964560891948611593246351360 W) (hv2 : Keeps W a v2) :
    Keeps W a (holdOverlays v0 v1 v2) := by
  unfold holdOverlays
  extract_lets -useContext -underBinder x0
  refine keeps_onTag (hW.of rfl) ?_
  refine Keeps.foldl (fun t1 y2 ht1 => ?_) ?_
  · refine keeps_ocRestart (hW.of rfl) ?_
    refine keeps_setOverlay (hW.of rfl) ?_
    exact ht1
  · exact hv2

theorem keeps_applyProfile {W : Nat} {a : State} {v0 : ℕ} {v1 : State} (hW : Sub 216054748388828748408585519717005313910948040789168925594036320825964 W) (hv1 : Keeps W a v1) :
    Keeps W a (applyProfile v0 v1) := by
  unfold applyProfile
  split
  · exact hv1
  · extract_lets -useContext -underBinder x2
    have hx2 : Keeps W a x2 := by
      refine keeps_holdOverlays (hW.of rfl) ?_
      refine keeps_onTag (hW.of rfl) ?_
      exact hv1
    refine Keeps.foldl (fun t3 y4 ht3 => ?_) ?_
    · refine keeps_profilePark (hW.of rfl) ?_
      exact ht3
    · exact hx2

theorem keeps_holdB {W : Nat} {a : State} {v0 : ℕ} {v1 : List Sys2Proof.Byte} {v2 : State} (hW : Sub 51422017416287688817342786954917203280710495801049370734100480 W) (hv2 : Keeps W a v2) :
    Keeps W a (holdB v0 v1 v2).2 := by
  unfold holdB
  refine keeps_hotFound (hW.of rfl) ?_
  · refine keeps_onTags (hW.of rfl) (fun _ => (by constructor <;> first | exact fun h => Bool.noConfusion ((hW.bit (by rfl)).symm.trans h) | exact fun _ => rfl | (intro _; split <;> rfl))) ?_
    exact hv2

theorem keeps_launch {W : Nat} {a : State} {v0 : Sys2Proof.Machine.TagFlight} {v1 : State} (hW : Sub 602601766597121353328235784627935975945826122668547317432320 W) (hv1 : Keeps W a v1) :
    Keeps W a (launch v0 v1) := by
  unfold launch
  refine keeps_onTags (hW.of rfl) (fun _ => (by constructor <;> first | exact fun h => Bool.noConfusion ((hW.bit (by rfl)).symm.trans h) | exact fun _ => rfl | (intro _; split <;> rfl))) ?_
  exact hv1

theorem keeps_stubB {W : Nat} {a : State} {v0 : ℕ} {v1 : State} (hW : Sub 602601766597121353328235784627935975945826122668547317432320 W) (hv1 : Keeps W a v1) :
    Keeps W a (stubB v0 v1) := by
  unfold stubB
  refine Keeps.ite ?_ ?_
  · refine keeps_launch (hW.of rfl) ?_
    exact hv1
  · refine keeps_launch (hW.of rfl) ?_
    exact hv1

theorem keeps_stubA {W : Nat} {a : State} {v0 : ℕ} {v1 : State} (hW : Sub 602601766597121353328235784627935975945826122668547317432320 W) (hv1 : Keeps W a v1) :
    Keeps W a (stubA v0 v1) := by
  unfold stubA
  refine Keeps.ite ?_ ?_
  · refine keeps_launch (hW.of rfl) ?_
    exact hv1
  · refine keeps_stubB (hW.of rfl) ?_
    exact hv1

theorem keeps_dropOverlays {W : Nat} {a : State} {v0 : ℕ} {v1 : State} (hW : Sub 12554395032715969763778873639794964560891948611593246351360 W) (hv1 : Keeps W a v1) :
    Keeps W a (dropOverlays v0 v1) := by
  unfold dropOverlays
  refine keeps_onTag (hW.of rfl) ?_
  refine Keeps.foldl (fun t0 y1 ht0 => ?_) ?_
  · refine keeps_ocRestart (hW.of rfl) ?_
    refine keeps_clearOverlay (hW.of rfl) ?_
    exact ht0
  · exact hv1

theorem keeps_withdraw {W : Nat} {a : State} {v0 : ℕ} {v1 : Bool} {v2 : State} (hW : Sub 216054748388828748408585519717005313910948040789168925594036320825964 W) (hv2 : Keeps W a v2) :
    Keeps W a (withdraw v0 v1 v2) := by
  unfold withdraw
  split
  · exact hv2
  · extract_lets -useContext -underBinder x2 x3
    have hx3 : Keeps W a x3 := by
      refine keeps_onTag (hW.of rfl) ?_
      refine keeps_noteHot (hW.of rfl) ?_
      refine keeps_dropOverlays (hW.of rfl) ?_
      exact hv2
    refine Keeps.ite ?_ ?_
    · refine Keeps.foldl (fun t4 y5 ht4 => ?_) ?_
      · refine keeps_profilePark (hW.of rfl) ?_
        exact ht4
      · exact hx3
    · exact hx3

theorem keeps_removeChange {W : Nat} {a : State} {v0 : ℕ} {v1 : State} (hW : Sub 216054748489262376174772411938377944682270703446806612705460873032300 W) (hv1 : Keeps W a v1) :
    Keeps W a (removeChange v0 v1) := by
  unfold removeChange
  extract_lets -useContext -underBinder x0 x1
  have hx1 : Keeps W a x1 := by
    refine keeps_withdraw (hW.of rfl) ?_
    exact hv1
  refine keeps_tagChange (hW.of rfl) ?_
  refine keeps_onTag (hW.of rfl) ?_
  exact hx1

theorem keeps_parkLast {W : Nat} {a : State} {v0 : ℕ} {v1 : State} (hW : Sub 216054748376274544937812158189333735064531470016924929324833352675948 W) (hv1 : Keeps W a v1) :
    Keeps W a (parkLast v0 v1) := by
  unfold parkLast
  split
  · refine Keeps.foldl (fun t1 y2 ht1 => ?_) ?_
    · refine keeps_profilePark (hW.of rfl) ?_
      exact ht1
    · exact hv1
  · exact hv1

theorem keeps_mismatchChange {W : Nat} {a : State} {v0 : ℕ} {v1 : State} (hW : Sub 216054748489262376174772411938377944682270703446806612705460873032300 W) (hv1 : Keeps W a v1) :
    Keeps W a (mismatchChange v0 v1) := by
  unfold mismatchChange
  extract_lets -useContext -underBinder x0 x1 x2
  have hx1 : Keeps W a x1 := by
    refine keeps_withdraw (hW.of rfl) ?_
    refine keeps_parkLast (hW.of rfl) ?_
    exact hv1
  have hx2 : Keeps W a x2 := by
    refine keeps_onTag (hW.of rfl) ?_
    exact hx1
  refine keeps_tagChange (hW.of rfl) ?_
  exact hx2

theorem keeps_classify {W : Nat} {a : State} {v0 : State} {v1 : ℕ} (hW : Sub 216054748489262376174772411938377944682270703446806612705460873032300 W) (hv0 : Keeps W a v0) :
    Keeps W a (classify v0 v1) := by
  unfold classify
  extract_lets -useContext -underBinder x0 x1
  refine Keeps.ite ?_ ?_
  · refine Keeps.ite ?_ ?_
    · refine keeps_removeChange (hW.of rfl) ?_
      exact hv0
    · exact hv0
  · refine Keeps.ite ?_ ?_
    · exact hv0
    · refine Keeps.ite ?_ ?_
      · refine Keeps.ite ?_ ?_
        · exact hv0
        · refine keeps_mismatchChange (hW.of rfl) ?_
          exact hv0
      · refine keeps_onTag (hW.of rfl) ?_
        exact hv0

theorem keeps_classifyAll {W : Nat} {a : State} {v0 : State} (hW : Sub 216054748489262376174772411938377944682270703446806612705460873032300 W) (hv0 : Keeps W a v0) :
    Keeps W a (classifyAll v0) := by
  unfold classifyAll
  refine Keeps.foldl (fun t0 y1 ht0 => ?_) ?_
  · refine keeps_classify (hW.of rfl) ?_
    exact ht0
  · exact hv0

theorem keeps_extNext {W : Nat} {a : State} {v0 : State} (hW : Sub 103446636599172498988013809694462342537366817724767288776720384 W) (hv0 : Keeps W a v0) :
    Keeps W a (extNext v0) := by
  unfold extNext
  split
  · refine keeps_onTags (hW.of rfl) (fun _ => (by constructor <;> first | exact fun h => Bool.noConfusion ((hW.bit (by rfl)).symm.trans h) | exact fun _ => rfl | (intro _; split <;> rfl))) ?_
    exact hv0
  · refine keeps_launch (hW.of rfl) ?_
    refine keeps_onTags (hW.of rfl) (fun _ => (by constructor <;> first | exact fun h => Bool.noConfusion ((hW.bit (by rfl)).symm.trans h) | exact fun _ => rfl | (intro _; split <;> rfl))) ?_
    exact hv0

theorem keeps_periodEnd {W : Nat} {a : State} {v0 : State} (hW : Sub 216054851935898975347271399952187639144613240813624337472749645558380 W) (hv0 : Keeps W a v0) :
    Keeps W a (periodEnd v0) := by
  unfold periodEnd
  extract_lets -useContext -underBinder x0 x1
  have hx1 : Keeps W a x1 := by
    refine keeps_classifyAll (hW.of rfl) ?_
    exact hv0
  try clear_value x1
  refine keeps_extNext (hW.of rfl) ?_
  refine keeps_onTags (hW.of rfl) (fun _ => (by constructor <;> first | exact fun h => Bool.noConfusion ((hW.bit (by rfl)).symm.trans h) | exact fun _ => rfl | (intro _; split <;> rfl))) ?_
  exact hx1

theorem keeps_tagsStatusBody {W : Nat} {a : State} {v0 : Sys2Proof.Req} {v1 : List Sys2Proof.Byte} {v2 : State} (hW : Sub 0 W) (hv2 : Keeps W a v2) :
    KeepsR W a (tagsStatusBody v0 v1 v2) := by
  unfold tagsStatusBody
  extract_lets -useContext -underBinder x0
  refine KeepsR.done ?_
  exact hv2

theorem keeps_startSweep {W : Nat} {a : State} {v0 : State} (hW : Sub 602601766597121353328235784627936130688331033341081679831040 W) (hv0 : Keeps W a v0) :
    Keeps W a (startSweep v0) := by
  unfold startSweep
  refine keeps_launch (hW.of rfl) ?_
  refine keeps_takeOcc (hW.of rfl) ?_
  exact hv0

theorem keeps_tagsSweepBody {W : Nat} {a : State} {v0 : Sys2Proof.Req} {v1 : List Sys2Proof.Byte} {v2 : State} (hW : Sub 602601766597121353328235784627936130688331033341081679832064 W) (hv2 : Keeps W a v2) :
    KeepsR W a (tagsSweepBody v0 v1 v2) := by
  unfold tagsSweepBody
  refine KeepsR.ite ?_ ?_
  · refine keeps_refuse (hW.of rfl) ?_
    exact hv2
  · refine KeepsR.ite ?_ ?_
    · refine keeps_refuse (hW.of rfl) ?_
      exact hv2
    · refine KeepsR.owed ?_
      refine keeps_addOp (hW.of rfl) ?_
      refine keeps_startSweep (hW.of rfl) ?_
      exact hv2

theorem keeps_cmdTagsSweep {W : Nat} {a : State} (hW : Sub 602601766597121353328235784627936130688331033341081679832064 W) :
    KeepsC W a (cmdTagsSweep) := by
  unfold cmdTagsSweep
  intro r p t ht
  dsimp only
  refine keeps_tagsSweepBody (hW.of rfl) ?_
  exact ht

theorem keeps_confirmChange {W : Nat} {a : State} {v0 : ℕ} {v1 : List Sys2Proof.Byte} {v2 : State} (hW : Sub 216054748489262376174772411938377944682270703446806612705460873032300 W) (hv2 : Keeps W a v2) :
    Keeps W a (confirmChange v0 v1 v2) := by
  unfold confirmChange
  refine Keeps.ite ?_ ?_
  · refine keeps_takeExt (hW.of rfl) ?_
    refine keeps_mismatchChange (hW.of rfl) ?_
    exact hv2
  · extract_lets -useContext -underBinder x0
    try clear_value x0
    split
    · refine keeps_takeExt (hW.of rfl) ?_
      refine keeps_onTag (hW.of rfl) ?_
      exact hv2
    · extract_lets -useContext -underBinder x3 x4
      have hx3 : Keeps W a x3 := by
        refine keeps_takeExt (hW.of rfl) ?_
        refine keeps_withdraw (hW.of rfl) ?_
        exact hv2
      have hx4 : Keeps W a x4 := by
        refine keeps_onTag (hW.of rfl) ?_
        exact hx3
      refine keeps_tagChange (hW.of rfl) ?_
      refine keeps_applyProfile (hW.of rfl) ?_
      exact hx4

theorem keeps_takeRecords {W : Nat} {a : State} {v0 : Bool} {v1 : Nat} {v2 : List Bytes} {v3 : State} (hW : Sub 12554203470773361527671578846415332832204710888928073220096 W)
    (hv3 : Keeps W a v3) : Keeps W a (takeRecords v0 v1 v2 v3) := by
  induction v2 generalizing v1 v3 with
  | nil => exact hv3
  | cons b bs ih => exact ih (keeps_takeRecord (hW.of rfl) hv3)

theorem keeps_hotAll {W : Nat} {a : State} {v0 : Nat} {v1 : List Bytes} {v2 : State} (hW : Sub 262144 W)
    (hv2 : Keeps W a v2) : Keeps W a (hotAll v0 v1 v2).2 := by
  induction v1 generalizing v0 v2 with
  | nil => exact hv2
  | cons b bs ih => exact ih (keeps_hotFound (hW.of rfl) hv2)

theorem keeps_postBreak {W : Nat} {a : State} {v0 : Bool} {v1 : State} (hW : Sub 154742504910672534362403392 W) (hv1 : Keeps W a v1) :
    Keeps W a (postBreak v0 v1) := by
  unfold postBreak
  refine keeps_post (hW.of rfl) ?_
  exact hv1

theorem keeps_markMissing {W : Nat} {a : State} {v0 : List ℕ} {v1 : State} (hW : Sub 12554203470773361527671578846415332832204710888928073220096 W) (hv1 : Keeps W a v1) :
    Keeps W a (markMissing v0 v1) := by
  unfold markMissing
  refine Keeps.foldl (fun t0 y1 ht0 => ?_) ?_
  · refine keeps_onTag (hW.of rfl) ?_
    exact ht0
  · exact hv1

theorem keeps_sweepAnswer {W : Nat} {a : State} {v0 : ℕ} {v1 : ℕ} {v2 : State} (hW : Sub 154742504910672534362404416 W) (hv2 : Keeps W a v2) :
    Keeps W a (sweepAnswer v0 v1 v2) := by
  unfold sweepAnswer
  refine keeps_completeOp (hW.of rfl) ?_
  exact hv2

theorem keeps_sweepComplete {W : Nat} {a : State} {v0 : List Sys2Proof.Bytes} {v1 : List (ℕ × ℕ × ℤ)} {v2 : State} (hW : Sub 34234687251295172300587652575686364198507995521641500295653040147186444803814005531653055138723454 W) (hv2 : Keeps W a v2) :
    Keeps W a (sweepComplete v0 v1 v2) := by
  unfold sweepComplete
  refine Keeps.ite ?_ ?_
  · extract_lets -useContext -underBinder x0 x1 x2 x3 x4 x5 x6 x7 x8
    have hx2 : Keeps W a x2 := by
      refine keeps_takeRecords (hW.of rfl) ?_
      exact hv2
    have hx3 : Keeps W a x3.2 := by
      refine keeps_hotAll (hW.of rfl) ?_
      · exact hx2
    have hx5 : Keeps W a x5 := by
      unfold x5
      try clear_value x2
      try clear_value x3
      refine keeps_onTags (hW.of rfl) (fun _ => (by constructor <;> first | exact fun h => Bool.noConfusion ((hW.bit (by rfl)).symm.trans h) | exact fun _ => rfl | (intro _; split <;> rfl))) ?_
      exact hx3
    have hx6 : Keeps W a x6 := by
      unfold x6
      try clear_value x2
      try clear_value x3
      try clear_value x5
      refine Keeps.ite ?_ ?_
      · refine keeps_onTags (hW.of rfl) (fun _ => (by constructor <;> first | exact fun h => Bool.noConfusion ((hW.bit (by rfl)).symm.trans h) | exact fun _ => rfl | (intro _; split <;> rfl))) ?_
        refine keeps_postBreak (hW.of rfl) ?_
        exact hx5
      · exact hx5
    have hx8 : Keeps W a x8 := by
      refine keeps_raiseThen (hW.of rfl) ?_ ?_
      · intro t9 ht9
        refine keeps_periodEnd (hW.of rfl) ?_
        exact ht9
      · refine keeps_markMissing (hW.of rfl) ?_
        exact hx6
    refine Keeps.ite ?_ ?_
    · refine keeps_sweepAnswer (hW.of rfl) ?_
      refine Keeps.ite ?_ ?_
      · refine keeps_writeModules (hW.of rfl) ?_
        exact hx8
      · exact hx8
    · refine keeps_raiseTogether (hW.of rfl) ?_
      exact hx3
  · refine keeps_detectTogether (hW.of rfl) ?_
    exact hv2

theorem keeps_takePartial {W : Nat} {a : State} {v0 : Nat} {v1 : List Bytes} {v2 : State} (hW : Sub 12554203470773361527671578846415332832204710888928073220096 W)
    (hv2 : Keeps W a v2) : Keeps W a (takePartial v0 v1 v2) := by
  induction v1 generalizing v0 v2 with
  | nil => exact hv2
  | cons b bs ih => exact ih (Keeps.ite (keeps_takeRecord (hW.of rfl) hv2) hv2)

theorem keeps_sweepAbort {W : Nat} {a : State} {v0 : List Sys2Proof.Bytes} {v1 : List (ℕ × ℕ × ℤ)} {v2 : State} (hW : Sub 34234687251295172300587652575686357818813309371800826055731474606613927558741624397918087264827006 W) (hv2 : Keeps W a v2) :
    Keeps W a (sweepAbort v0 v1 v2) := by
  unfold sweepAbort
  refine Keeps.ite ?_ ?_
  · extract_lets -useContext -underBinder x0
    have hx0 : Keeps W a x0.2 := by
      refine keeps_hotAll (hW.of rfl) ?_
      · refine keeps_takePartial (hW.of rfl) ?_
        exact hv2
    try clear_value x0
    refine keeps_launch (hW.of rfl) ?_
    refine keeps_raiseTogether (hW.of rfl) ?_
    refine keeps_onTags (hW.of rfl) (fun _ => (by constructor <;> first | exact fun h => Bool.noConfusion ((hW.bit (by rfl)).symm.trans h) | exact fun _ => rfl | (intro _; split <;> rfl))) ?_
    exact hx0
  · refine keeps_detectTogether (hW.of rfl) ?_
    exact hv2

theorem keeps_ringDiagnoseBody {W : Nat} {a : State} {v0 : Sys2Proof.Req} {v1 : List Sys2Proof.Byte} {v2 : State} (hW : Sub 0 W) (hv2 : Keeps W a v2) :
    KeepsR W a (ringDiagnoseBody v0 v1 v2) := by
  unfold ringDiagnoseBody
  refine KeepsR.done ?_
  exact hv2

theorem keeps_cmdRingDiagnose {W : Nat} {a : State} (hW : Sub 0 W) :
    KeepsC W a (cmdRingDiagnose) := by
  unfold cmdRingDiagnose
  intro r p t ht
  dsimp only
  refine keeps_ringDiagnoseBody (hW.of rfl) ?_
  exact ht

theorem keeps_cmdTagsStatus {W : Nat} {a : State} (hW : Sub 0 W) :
    KeepsC W a (cmdTagsStatus) := by
  unfold cmdTagsStatus
  intro r p t ht
  dsimp only
  refine keeps_tagsStatusBody (hW.of rfl) ?_
  exact ht

theorem keeps_nextPeriod {W : Nat} {a : State} {v0 : State} (hW : Sub 803469022129495137770981046170581301261101496891396421844992 W) (hv0 : Keeps W a v0) :
    Keeps W a (nextPeriod v0) := by
  unfold nextPeriod
  refine keeps_onTags (hW.of rfl) (fun _ => (by constructor <;> first | exact fun h => Bool.noConfusion ((hW.bit (by rfl)).symm.trans h) | exact fun _ => rfl | (intro _; split <;> rfl))) ?_
  exact hv0

theorem keeps_sweep {W : Nat} {a : State} {v0 : State} (hW : Sub 1406070788726616491099216830798517431949432530232478097481728 W) (hv0 : Keeps W a v0) :
    Keeps W a (sweep v0) := by
  unfold sweep
  refine Keeps.ite ?_ ?_
  · refine keeps_nextPeriod (hW.of rfl) ?_
    refine keeps_startSweep (hW.of rfl) ?_
    exact hv0
  · exact hv0

theorem keeps_takeStubB {W : Nat} {a : State} {v0 v1 v2 : Nat} {v3 : List Bytes} {v4 : State} (hW : Sub 12554203470773361527671578846415332832204710888928073482240 W)
    (hv4 : Keeps W a v4) : Keeps W a (takeStubB v0 v1 v2 v3 v4).2 := by
  induction v3 generalizing v2 v4 with
  | nil => exact hv4
  | cons b bs ih =>
    unfold takeStubB
    extract_lets t s1 p q
    have h1 : Keeps W a s1 := keeps_takeExt (hW.of rfl) (keeps_takeRecord (hW.of rfl) hv4)
    have h2 : Keeps W a p.2 := Keeps.ite2 h1 (keeps_hotFound (hW.of rfl) h1)
    exact ih h2

theorem keeps_locEnd {W : Nat} {a : State} {v0 : ℕ} {v1 : List Sys2Proof.Machine.Raise} {v2 : List (ℕ × ℕ × ℤ)} {v3 : State} (hW : Sub 34234687251295172300587652575686368562901506915175995221511396630398411922788517802162683541157502 W) (hv3 : Keeps W a v3) :
    Keeps W a (locEnd v0 v1 v2 v3) := by
  unfold locEnd
  extract_lets -useContext -underBinder x0 x1 x2 x3 x4 x5 x6
  have hx2 : Keeps W a x2.2 := by
    refine keeps_takeStubB (hW.of rfl) ?_
    · exact hv3
  have hx4 : Keeps W a x4 := by
    refine keeps_markMissing (hW.of rfl) ?_
    exact hx2
  have hx6 : Keeps W a x6 := by
    unfold x6
    try clear_value x2
    try clear_value x4
    refine keeps_onTags (hW.of rfl) (fun _ => (by constructor <;> first | exact fun h => Bool.noConfusion ((hW.bit (by rfl)).symm.trans h) | exact fun _ => rfl | (intro _; split <;> rfl))) ?_
    exact hx4
  refine keeps_sweepAnswer (hW.of rfl) ?_
  refine keeps_raiseThen (hW.of rfl) ?_ ?_
  · intro t7 ht7
    refine keeps_periodEnd (hW.of rfl) ?_
    refine keeps_postBreak (hW.of rfl) ?_
    exact ht7
  · exact hx6

theorem keeps_pollEmerged {W : Nat} {a : State} {v0 : ℕ} {v1 : List (ℕ × ℕ × ℤ)} {v2 : State} (hW : Sub 34234687251295172300587652575686368564508444959434985497053358722739574525310720795945476376458878 W) (hv2 : Keeps W a v2) :
    Keeps W a (pollEmerged v0 v1 v2) := by
  unfold pollEmerged
  extract_lets -useContext -underBinder x0
  have hx0 : Keeps W a x0 := by
    unfold x0
    refine Keeps.ite ?_ ?_
    · exact hv2
    · refine keeps_onTags (hW.of rfl) (fun _ => (by constructor <;> first | exact fun h => Bool.noConfusion ((hW.bit (by rfl)).symm.trans h) | exact fun _ => rfl | (intro _; split <;> rfl))) ?_
      exact hv2
  split
  · refine keeps_sweepAnswer (hW.of rfl) ?_
    refine keeps_periodEnd (hW.of rfl) ?_
    refine keeps_detectTogether (hW.of rfl) ?_
    exact hx0
  · refine keeps_locEnd (hW.of rfl) ?_
    exact hx0
  · refine keeps_startSweep (hW.of rfl) ?_
    refine keeps_detectTogether (hW.of rfl) ?_
    exact hx0
  · refine keeps_startSweep (hW.of rfl) ?_
    refine keeps_detectTogether (hW.of rfl) ?_
    exact hx0
  · refine keeps_startSweep (hW.of rfl) ?_
    refine keeps_detectTogether (hW.of rfl) ?_
    exact hx0
  · refine Keeps.ite ?_ ?_
    · refine keeps_startSweep (hW.of rfl) ?_
      refine keeps_detectTogether (hW.of rfl) ?_
      exact hx0
    · refine keeps_extNext (hW.of rfl) ?_
      refine keeps_detectTogether (hW.of rfl) ?_
      exact hx0
  · refine keeps_detectTogether (hW.of rfl) ?_
    exact hx0

theorem keeps_locB {W : Nat} {a : State} {v0 : ℕ} {v1 : List (ℕ × ℕ × ℤ)} {v2 : State} (hW : Sub 34234687251295172300587652575686368562901506915175995221511396630398411922788517802162683541157502 W) (hv2 : Keeps W a v2) :
    Keeps W a (locB v0 v1 v2) := by
  unfold locB
  extract_lets -useContext -underBinder x0
  have hx0 : Keeps W a x0 := by
    unfold x0
    refine keeps_onTags (hW.of rfl) (fun _ => (by constructor <;> first | exact fun h => Bool.noConfusion ((hW.bit (by rfl)).symm.trans h) | exact fun _ => rfl | (intro _; split <;> rfl))) ?_
    exact hv2
  refine Keeps.ite ?_ ?_
  · refine keeps_launch (hW.of rfl) ?_
    refine keeps_detectTogether (hW.of rfl) ?_
    exact hx0
  · refine keeps_locEnd (hW.of rfl) ?_
    exact hx0

theorem keeps_stubPollRound {W : Nat} {a : State} {v0 : State} (hW : Sub 1406070788726616491099216830798517431949432530232478097481728 W) (hv0 : Keeps W a v0) :
    Keeps W a (stubPollRound v0) := by
  unfold stubPollRound
  refine Keeps.ite ?_ ?_
  · refine keeps_stubA (hW.of rfl) ?_
    refine keeps_nextPeriod (hW.of rfl) ?_
    refine keeps_takeOcc (hW.of rfl) ?_
    exact hv0
  · exact hv0

theorem keeps_extReply {W : Nat} {a : State} {v0 : ℕ} {v1 : List Sys2Proof.Byte} {v2 : State} (hW : Sub 216054748489262376174772411938377944682270703446806612705460873032300 W) (hv2 : Keeps W a v2) :
    Keeps W a (extReply v0 v1 v2) := by
  unfold extReply
  extract_lets -useContext -underBinder x0
  have hx0 : Keeps W a x0 := by
    refine keeps_takeRecord (hW.of rfl) ?_
    exact hv2
  refine Keeps.ite ?_ ?_
  · refine keeps_confirmChange (hW.of rfl) ?_
    exact hx0
  · refine keeps_takeExt (hW.of rfl) ?_
    exact hx0

theorem keeps_pollReply {W : Nat} {a : State} {v0 : List Sys2Proof.Byte} {v1 : List (ℕ × ℕ × ℤ)} {v2 : State} (hW : Sub 34234687251295172300587652575686368562901506915175995221511396630398411922788517802162683541157502 W) (hv2 : Keeps W a v2) :
    Keeps W a (pollReply v0 v1 v2) := by
  unfold pollReply
  split
  · refine Keeps.ite ?_ ?_
    · refine keeps_launch (hW.of rfl) ?_
      refine keeps_pollRecord (hW.of rfl) ?_
      exact hv2
    · refine keeps_locB (hW.of rfl) ?_
      refine keeps_pollRecord (hW.of rfl) ?_
      exact hv2
  · extract_lets -useContext -underBinder x2
    have hx2 : Keeps W a x2.2 := by
      refine keeps_holdB (hW.of rfl) ?_
      · exact hv2
    refine Keeps.ite ?_ ?_
    · refine keeps_launch (hW.of rfl) ?_
      refine keeps_raiseTogether (hW.of rfl) ?_
      exact hx2
    · refine keeps_locEnd (hW.of rfl) ?_
      exact hx2
  · refine keeps_stubA (hW.of rfl) ?_
    refine keeps_pollRecord (hW.of rfl) ?_
    exact hv2
  · refine keeps_stubB (hW.of rfl) ?_
    refine keeps_pollRecord (hW.of rfl) ?_
    exact hv2
  · refine keeps_startSweep (hW.of rfl) ?_
    refine keeps_pollRecord (hW.of rfl) ?_
    exact hv2
  · extract_lets -useContext -underBinder x7
    have hx7 : Keeps W a x7.2 := by
      refine keeps_hotFound (hW.of rfl) ?_
      · refine keeps_extReply (hW.of rfl) ?_
        exact hv2
    refine keeps_extNext (hW.of rfl) ?_
    refine keeps_raiseTogether (hW.of rfl) ?_
    exact hx7
  · refine keeps_detectTogether (hW.of rfl) ?_
    exact hv2

theorem keeps_unanswered {W : Nat} {a : State} {v0 : ℕ} {v1 : State} (hW : Sub 12554203470773361527671578846415332832204710888928073220096 W) (hv1 : Keeps W a v1) :
    Keeps W a (unanswered v0 v1) := by
  unfold unanswered
  refine keeps_onTag (hW.of rfl) ?_
  exact hv1

theorem keeps_pollTimeout {W : Nat} {a : State} {v0 : List (ℕ × ℕ × ℤ)} {v1 : State} (hW : Sub 34234687251295172300587652575686368562901506915175995221511396630398411922788517802162683541157502 W) (hv1 : Keeps W a v1) :
    Keeps W a (pollTimeout v0 v1) := by
  unfold pollTimeout
  refine Keeps.ite ?_ ?_
  · refine keeps_detectTogether (hW.of rfl) ?_
    exact hv1
  · split
    · refine keeps_locB (hW.of rfl) ?_
      exact hv1
    · refine keeps_locEnd (hW.of rfl) ?_
      exact hv1
    · refine keeps_stubA (hW.of rfl) ?_
      refine keeps_detectTogether (hW.of rfl) ?_
      refine keeps_unanswered (hW.of rfl) ?_
      exact hv1
    · refine keeps_stubB (hW.of rfl) ?_
      refine keeps_detectTogether (hW.of rfl) ?_
      refine keeps_unanswered (hW.of rfl) ?_
      exact hv1
    · refine keeps_periodEnd (hW.of rfl) ?_
      refine keeps_detectTogether (hW.of rfl) ?_
      exact hv1
    · refine keeps_extNext (hW.of rfl) ?_
      refine keeps_detectTogether (hW.of rfl) ?_
      exact hv1
    · refine keeps_detectTogether (hW.of rfl) ?_
      exact hv1

theorem keeps_recallModules {W : Nat} {a : State} {v0 : State} (hW : Sub 188313243623543031151180977489609624211757901056586212712448 W) (hv0 : Keeps W a v0) :
    Keeps W a (recallModules v0) := by
  unfold recallModules
  extract_lets -useContext -underBinder x0 x1 x2 x3
  try clear_value x0
  try clear_value x1
  try clear_value x2
  have hx3 : Keeps W a x3 := by
    unfold x3
    refine keeps_onTags (hW.of rfl) (fun _ => (by constructor <;> first | exact fun h => Bool.noConfusion ((hW.bit (by rfl)).symm.trans h) | exact fun _ => rfl | (intro _; split <;> rfl))) ?_
    exact hv0
  refine Keeps.foldl (fun t4 y5 ht4 => ?_) ?_
  · split
    · refine keeps_holdOverlays (hW.of rfl) ?_
      exact ht4
    · exact ht4
  · exact hx3

end Sys2Proof.Machine
end

