-- ==== Sys2Proof/Laws/KeepsResults.lean ====
section
/-! SUPPORT. What the operations of Machine/Results.lean keep (`Keeps`): one lemma for each. -/

namespace Sys2Proof.Machine

set_option linter.unusedVariables false
set_option linter.unusedTactic false
set_option linter.unreachableTactic false

theorem keeps_nextEntry {W : Nat} {a : State} {v0 : ℕ} {v1 : Sys2Proof.Machine.Frame} {v2 : State} (hW : Sub 302772838547101911756514329590552492916978141781489367390514853440 W) (hv2 : Keeps W a v2) :
    Keeps W a (nextEntry v0 v1 v2) := by
  unfold nextEntry
  refine Keeps.ite ?_ ?_
  · refine keeps_frameEnd (hW.of rfl) ?_
    exact hv2
  · refine keeps_onFrame (hW.of rfl) ?_
    exact hv2

theorem keeps_batOtFound {W : Nat} {a : State} {v0 : ℤ} {v1 : ℕ} {v2 : State} (hW : Sub 32592575621351777380295131014550050576823494298654980010178247189670100796213387299001466880 W) (hv2 : Keeps W a v2) :
    Keeps W a (batOtFound v0 v1 v2).2 := by
  unfold batOtFound
  refine Keeps.ite2 ?_ ?_
  · try dsimp only
    refine keeps_onChg (hW.of rfl) (fun _ => (by constructor <;> first | exact fun h => Bool.noConfusion ((hW.bit (by rfl)).symm.trans h) | exact fun _ => rfl | (intro _; split <;> rfl))) ?_
    exact hv2
  · refine Keeps.ite2 ?_ ?_
    · try dsimp only
      refine keeps_onChg (hW.of rfl) (fun _ => (by constructor <;> first | exact fun h => Bool.noConfusion ((hW.bit (by rfl)).symm.trans h) | exact fun _ => rfl | (intro _; split <;> rfl))) ?_
      exact hv2
    · try dsimp only
      exact hv2

theorem keeps_tempFound {W : Nat} {a : State} {v0 : Sys2Proof.Machine.Result} {v1 : State} (hW : Sub 34234717934149548764278585126196618268012523770380892581730899785844945138158100321669424135500366 W) (hv1 : Keeps W a v1) :
    Keeps W a (tempFound v0 v1).2 := by
  unfold tempFound
  refine Keeps.ite2 ?_ ?_
  · try dsimp only
    refine keeps_takeTemp (hW.of rfl) ?_
    exact hv1
  · split
    · rename_i p0 p1 q2
      have hp3 : Keeps W a p1 := Keeps.ofEq2 q2 (by
        refine keeps_orFree (hW.of rfl) ?_
        · exact hv1)
      refine keeps_batOtFound (hW.of rfl) ?_
      · refine keeps_takeTemp (hW.of rfl) ?_
        exact hp3

theorem keeps_supplementCheck {W : Nat} {a : State} {v0 : Sys2Proof.Machine.Result} {v1 : State} (hW : Sub 6901746346790563787434755862277025452451108972170386555162524257353728 W) (hv1 : Keeps W a v1) :
    Keeps W a (supplementCheck v0 v1) := by
  unfold supplementCheck
  refine Keeps.ite ?_ ?_
  · refine keeps_onInp (hW.of rfl) (fun _ => (by constructor <;> first | exact fun h => Bool.noConfusion ((hW.bit (by rfl)).symm.trans h) | exact fun _ => rfl | (intro _; split <;> rfl))) ?_
    exact hv1
  · refine Keeps.ite ?_ ?_
    · refine keeps_onInp (hW.of rfl) (fun _ => (by constructor <;> first | exact fun h => Bool.noConfusion ((hW.bit (by rfl)).symm.trans h) | exact fun _ => rfl | (intro _; split <;> rfl))) ?_
      exact hv1
    · exact hv1

theorem keeps_resvResult {W : Nat} {a : State} {v0 : Sys2Proof.Machine.Result} {v1 : State} (hW : Sub 91062604323081050199349783367873577693304469153094348560713695937809517656577949700 W) (hv1 : Keeps W a v1) :
    Keeps W a (resvResult v0 v1) := by
  unfold resvResult
  refine keeps_sigFlush (hW.of rfl) ?_
  refine keeps_flushMissed (hW.of rfl) ?_
  refine keeps_recordTry (hW.of rfl) ?_
  refine Keeps.upd_14 (hW.bit rfl) (by constructor <;> first | exact fun h => Bool.noConfusion ((hW.bit (by rfl)).symm.trans h) | exact fun _ => rfl | (intro _; split <;> rfl)) ?_
  exact hv1

theorem keeps_consumers {W : Nat} {a : State} {v0 : ℕ} {v1 : Sys2Proof.Machine.Result} {v2 : State} (hW : Sub 239823432329056941845925817476351683012511715313231524130974553930453278831424275651259857088246350 W) (hv2 : Keeps W a v2) :
    Keeps W a (consumers v0 v1 v2) := by
  unfold consumers
  refine Keeps.ite ?_ ?_
  · exact hv2
  · refine Keeps.ite ?_ ?_
    · refine keeps_ppsFollow (hW.of rfl) ?_
      refine keeps_choose (hW.of rfl) ?_
      refine keeps_pathEval (hW.of rfl) ?_
      exact hv2
    · refine Keeps.ite ?_ ?_
      · refine keeps_supplementCheck (hW.of rfl) ?_
        exact hv2
      · refine Keeps.ite ?_ ?_
        · refine keeps_resvResult (hW.of rfl) ?_
          exact hv2
        · exact hv2

theorem keeps_keepPair {W : Nat} {a : State} {v0 : ℕ} {v1 : Sys2Proof.Machine.Result} {v2 : Sys2Proof.Machine.Result} {v3 : State} (hW : Sub 69152580293907342754456267443211676474693011551680775296951723185224479922556314061068212721680384 W) (hv3 : Keeps W a v3) :
    Keeps W a (keepPair v0 v1 v2 v3) := by
  unfold keepPair
  refine Keeps.ite ?_ ?_
  · extract_lets -useContext -underBinder x0 x1 x2
    have hx2 : Keeps W a x2 := by
      unfold x2
      refine Keeps.upd_23 (hW.bit rfl) (by constructor <;> first | exact fun h => Bool.noConfusion ((hW.bit (by rfl)).symm.trans h) | exact fun _ => rfl | (intro _; split <;> rfl)) ?_
      exact hv3
    refine Keeps.ite ?_ ?_
    · refine keeps_riseWatch (hW.of rfl) ?_
      refine keeps_gaugeWatch (hW.of rfl) ?_
      exact hx2
    · exact hx2
  · exact hv3

theorem keeps_batOvFound {W : Nat} {a : State} {v0 : Sys2Proof.Machine.Result} {v1 : State} (hW : Sub 383123885216472214589586756787577295904684780546949120 W) (hv1 : Keeps W a v1) :
    Keeps W a (batOvFound v0 v1).2 := by
  unfold batOvFound
  extract_lets -useContext -underBinder x0 x1
  try dsimp only
  refine Keeps.upd_20 (hW.bit rfl) (by constructor <;> first | exact fun h => Bool.noConfusion ((hW.bit (by rfl)).symm.trans h) | exact fun _ => rfl | (intro _; split <;> rfl)) ?_
  exact hv1

theorem keeps_resultFound {W : Nat} {a : State} {v0 : ℕ} {v1 : Sys2Proof.Machine.Result} {v2 : State} (hW : Sub 34234717934149548764278585126220208221346281250668025348758417494461202017788091155788755751105102 W) (hv2 : Keeps W a v2) :
    Keeps W a (resultFound v0 v1 v2).2 := by
  unfold resultFound
  extract_lets -useContext -underBinder x0
  have hx0 : Keeps W a x0.2 := by
    refine keeps_slowFound (hW.of rfl) ?_
    · refine keeps_keepResult (hW.of rfl) ?_
      exact hv2
  refine Keeps.ite2 ?_ ?_
  · refine keeps_tempFound (hW.of rfl) ?_
    · exact hx0
  · refine Keeps.ite2 ?_ ?_
    · refine keeps_batOvFound (hW.of rfl) ?_
      · exact hx0
    · exact hx0

theorem keeps_slowCheck {W : Nat} {a : State} {v0 : List (ℕ × ℕ × ℤ)} {v1 : ℕ} {v2 : Sys2Proof.Machine.Result} {v3 : State} (hW : Sub 34234719843870793652365032870840961499031076108881772861605141818077037239853075216957769588373118 W) (hv3 : Keeps W a v3) :
    Keeps W a (slowCheck v0 v1 v2 v3) := by
  unfold slowCheck
  extract_lets -useContext -underBinder x0
  have hx0 : Keeps W a x0.2 := by
    refine keeps_resultFound (hW.of rfl) ?_
    · exact hv3
  refine keeps_raiseTogether (hW.of rfl) ?_
  exact hx0

theorem keeps_takeResult {W : Nat} {a : State} {v0 : List (ℕ × ℕ × ℤ)} {v1 : ℕ} {v2 : Sys2Proof.Machine.Frame} {v3 : Sys2Proof.Machine.Result} {v4 : State} (hW : Sub 239823472051258480368404499711363796475405596999385945820659343423358851259470529433456972203521662 W) (hv4 : Keeps W a v4) :
    Keeps W a (takeResult v0 v1 v2 v3 v4) := by
  unfold takeResult
  extract_lets -useContext -underBinder x0
  have hx0 : Keeps W a x0 := by
    refine keeps_onFrame (hW.of rfl) ?_
    exact hv4
  refine keeps_consumers (hW.of rfl) ?_
  refine keeps_slowCheck (hW.of rfl) ?_
  refine keeps_toRing (hW.of rfl) ?_
  exact hx0

theorem keeps_freshResult {W : Nat} {a : State} {v0 : ℕ} {v1 : ℕ} {v2 : ℕ} {v3 : Sys2Proof.Machine.Frame} {v4 : List Sys2Proof.Machine.Job} {v5 : List ℤ} {v6 : State} (hW : Sub 154742504910672534362398720 W) (hv6 : Keeps W a v6) :
    Keeps W a (freshResult v0 v1 v2 v3 v4 v5 v6).2 := by
  unfold freshResult
  extract_lets -useContext -underBinder x0
  have hx0 : Keeps W a x0 := by
    refine keeps_takeOccAt (hW.of rfl) ?_
    exact hv6
  try dsimp only
  exact hx0

theorem keeps_dropJobs {W : Nat} {a : State} {v0 : ℕ} {v1 : ℕ} {v2 : Sys2Proof.Machine.Frame} {v3 : State} (hW : Sub 39492109375708945011719260381376412119585660775205916720375005184 W) (hv3 : Keeps W a v3) :
    Keeps W a (dropJobs v0 v1 v2 v3) := by
  unfold dropJobs
  refine keeps_onConv (hW.of rfl) ?_
  exact hv3

theorem keeps_energyPair {W : Nat} {a : State} {v0 : ℕ} {v1 : Sys2Proof.Machine.Result} {v2 : Sys2Proof.Machine.Result} {v3 : State} (hW : Sub 5575186299632655785383929568162090376626176 W) (hv3 : Keeps W a v3) :
    Keeps W a (energyPair v0 v1 v2 v3) := by
  unfold energyPair
  refine Keeps.ite ?_ ?_
  · refine Keeps.upd_17 (hW.bit rfl) (by constructor <;> first | exact fun h => Bool.noConfusion ((hW.bit (by rfl)).symm.trans h) | exact fun _ => rfl | (intro _; split <;> rfl)) ?_
    exact hv3
  · exact hv3

theorem keeps_entryRecords {W : Nat} {a : State} {v0 : ℕ} {v1 : ℕ} {v2 : Sys2Proof.Machine.Frame} {v3 : List Sys2Proof.Machine.Job} {v4 : List ℤ} {v5 : List ℤ} {v6 : List (ℕ × ℕ × ℤ)} {v7 : State} (hW : Sub 240090470434727180019982170561985888261574104344662844683629583886554889118028547768234523909650046 W) (hv7 : Keeps W a v7) :
    Keeps W a (entryRecords v0 v1 v2 v3 v4 v5 v6 v7) := by
  unfold entryRecords
  extract_lets -useContext -underBinder x0
  try clear_value x0
  split
  · rename_i p1 p2 q3
    have hp4 : Keeps W a p2 := Keeps.ofEq2 q3 (by
      refine keeps_freshResult (hW.of rfl) ?_
      · refine keeps_dropJobs (hW.of rfl) ?_
        exact hv7)
    refine Keeps.ite ?_ ?_
    · refine keeps_takeResult (hW.of rfl) ?_
      refine keeps_spentFresh (hW.of rfl) ?_
      exact hp4
    · split
      · rename_i p5 p6 q7
        have hp8 : Keeps W a p6 := Keeps.ofEq2 q7 (by
          refine keeps_freshResult (hW.of rfl) ?_
          · exact hp4)
        extract_lets -useContext -underBinder x9
        have hx9 : Keeps W a x9 := by
          refine keeps_spentFresh (hW.of rfl) ?_
          exact hp8
        refine keeps_keepPair (hW.of rfl) ?_
        refine keeps_energyPair (hW.of rfl) ?_
        refine keeps_takeResult (hW.of rfl) ?_
        refine keeps_takeResult (hW.of rfl) ?_
        exact hx9

theorem keeps_resultRecord {W : Nat} {a : State} {v0 : ℕ} {v1 : List ℤ} {v2 : List ℤ} {v3 : List (ℕ × ℕ × ℤ)} {v4 : State} (hW : Sub 240090470434727180019982170561985888261574104344662844683629583886554889118028547768234523909650046 W) (hv4 : Keeps W a v4) :
    Keeps W a (resultRecord v0 v1 v2 v3 v4) := by
  unfold resultRecord
  extract_lets -useContext -underBinder x0
  have hx0 : Keeps W a x0 := by
    refine keeps_catchUp (hW.of rfl) ?_
    exact hv4
  split
  · exact hx0
  · extract_lets -useContext -underBinder x4 x5
    refine Keeps.ite ?_ ?_
    · refine keeps_nextEntry (hW.of rfl) ?_
      refine keeps_entryRecords (hW.of rfl) ?_
      exact hx0
    · exact hx0

end Sys2Proof.Machine
end

