-- ==== Sys2Proof/Laws/KeepsFixed.lean ====
section
/-! SUPPORT. What the operations of Machine/Fixed.lean keep (`Keeps`): one lemma for each. -/

namespace Sys2Proof.Machine

set_option linter.unusedVariables false
set_option linter.unusedTactic false
set_option linter.unreachableTactic false

theorem keeps_releaseHeld {W : Nat} {a : State} {v0 : State} (hW : Sub 34234680248983986576285990050276661430499272897299115995646546383439689492235036043357813293150830 W) (hv0 : Keeps W a v0) :
    Keeps W a (releaseHeld v0) := by
  unfold releaseHeld
  extract_lets -useContext -underBinder x0 x1 x2 x3
  have hx1 : Keeps W a x1 := by
    unfold x1
    refine Keeps.upd_5 (hW.bit rfl) (by constructor <;> first | exact fun h => Bool.noConfusion ((hW.bit (by rfl)).symm.trans h) | exact fun _ => rfl | (intro _; split <;> rfl)) ?_
    exact hv0
  have hx2 : Keeps W a x2 := by
    refine Keeps.ite ?_ ?_
    · exact hv0
    · refine Keeps.ite ?_ ?_
      · refine keeps_calLose (hW.of rfl) ?_
        exact hx1
      · exact hx1
  have hx3 : Keeps W a x3 := by
    unfold x3
    try clear_value x1
    try clear_value x2
    refine Keeps.ite ?_ ?_
    · exact hx2
    · refine keeps_onChg (hW.of rfl) (fun _ => (by constructor <;> first | exact fun h => Bool.noConfusion ((hW.bit (by rfl)).symm.trans h) | exact fun _ => rfl | (intro _; split <;> rfl))) ?_
      exact hx2
  refine keeps_chgJudge (hW.of rfl) ?_
  refine keeps_pathEval (hW.of rfl) ?_
  exact hx3

theorem keeps_faultClearAll {W : Nat} {a : State} {v0 : Req} {v1 : Bytes} {v2 : State} (hW : Sub 34234712841559607928063370345623513522324559808343197725776464931371352369635732846009753297449582 W)
    (hv2 : Keeps W a v2) : KeepsR W a (faultClearAll v0 v1 v2) := by
  have h := keeps_faultClearBody (v0 := v0) (v1 := v1) (hW.of rfl) hv2
  unfold faultClearAll
  revert h
  generalize faultClearBody v0 v1 v2 = x
  intro h
  cases h with
  | done g => exact .done (keeps_releaseHeld (hW.of rfl) g)
  | doneThen g k => exact .doneThen g k
  | accepted g => exact .accepted g
  | owed g => exact .owed g

theorem keeps_locateBreak {W : Nat} {a : State} {v0 : State} (hW : Sub 52024619182884810170671022739545139256656321923717918047076352 W) (hv0 : Keeps W a v0) :
    Keeps W a (locateBreak v0) := by
  unfold locateBreak
  refine Keeps.ite ?_ ?_
  · refine keeps_launch (hW.of rfl) ?_
    refine keeps_onTags (hW.of rfl) (fun _ => (by constructor <;> first | exact fun h => Bool.noConfusion ((hW.bit (by rfl)).symm.trans h) | exact fun _ => rfl | (intro _; split <;> rfl))) ?_
    exact hv0
  · exact hv0

theorem keeps_injectedAction {W : Nat} {a : State} {v0 : Sys2Proof.Machine.Setting} {v1 : State} (hW : Sub 34234687251295172300587652575388757520985169057925770027268946462478677500020234637225907411972734 W) (hv1 : Keeps W a v1) :
    Keeps W a (injectedAction v0 v1) := by
  unfold injectedAction
  refine Keeps.ite ?_ ?_
  · refine keeps_locateBreak (hW.of rfl) ?_
    exact hv1
  · refine keeps_fixedOf (hW.of rfl) ?_
    exact hv1

theorem keeps_thermistorRelease {W : Nat} {a : State} {v0 : ℕ} {v1 : State} (hW : Sub 34234680248983986576285989160032354682773206225137971485445545120895822548580151897856018095501902 W) (hv1 : Keeps W a v1) :
    Keeps W a (thermistorRelease v0 v1) := by
  unfold thermistorRelease
  extract_lets -useContext -underBinder x0
  have hx0 : Keeps W a x0 := by
    refine keeps_dropTripped (hW.of rfl) ?_
    refine keeps_catchUp (hW.of rfl) ?_
    exact hv1
  try clear_value x0
  refine Keeps.ite ?_ ?_
  · refine keeps_chgJudge (hW.of rfl) ?_
    refine keeps_onChg (hW.of rfl) (fun _ => (by constructor <;> first | exact fun h => Bool.noConfusion ((hW.bit (by rfl)).symm.trans h) | exact fun _ => rfl | (intro _; split <;> rfl))) ?_
    exact hx0
  · exact hx0

theorem keeps_cmdFaultClearAll {W : Nat} {a : State} (hW : Sub 34234712841559607928063370345623513522324559808343197725776464931371352369635732846009753297449582 W) :
    KeepsC W a (cmdFaultClearAll) := by
  unfold cmdFaultClearAll
  intro r p t ht
  dsimp only
  refine keeps_faultClearAll (hW.of rfl) ?_
  exact ht

end Sys2Proof.Machine
end

