-- ==== Sys2Proof/Laws/KeepsCalib.lean ====
section
/-! SUPPORT. What the operations of Machine/Calib.lean keep (`Keeps`): one lemma for each. -/

namespace Sys2Proof.Machine

set_option linter.unusedVariables false
set_option linter.unusedTactic false
set_option linter.unreachableTactic false

theorem keeps_setShort {W : Nat} {a : State} {v0 : Option ℕ} {v1 : State} (hW : Sub 421249166674228746791672110734681729275580381602196445017252298752 W) (hv1 : Keeps W a v1) :
    Keeps W a (setShort v0 v1) := by
  unfold setShort
  refine Keeps.upd_23 (hW.bit rfl) (by constructor <;> first | exact fun h => Bool.noConfusion ((hW.bit (by rfl)).symm.trans h) | exact fun _ => rfl | (intro _; split <;> rfl)) ?_
  exact hv1

theorem keeps_calFree {W : Nat} {a : State} {v0 : Sys2Proof.Machine.CalRun} {v1 : State} (hW : Sub 460741276049937691803391371116058141395320784882313034271981318720 W) (hv1 : Keeps W a v1) :
    Keeps W a (calFree v0 v1) := by
  unfold calFree
  extract_lets -useContext -underBinder x0 x1 x2
  try clear_value x1
  have hx0 : Keeps W a x0 := by
    refine keeps_setShort (hW.of rfl) ?_
    exact hv1
  have hx2 : Keeps W a x2 := by
    refine keeps_onConv (hW.of rfl) ?_
    exact hx0
  refine Keeps.ite ?_ ?_
  · exact hx0
  · split
    · refine Keeps.ite ?_ ?_
      · refine keeps_rotate (hW.of rfl) ?_
        exact hx2
      · exact hx2
    · exact hx2

theorem keeps_calOver {W : Nat} {a : State} {v0 : Sys2Proof.Machine.CalRun} {v1 : State} (hW : Sub 671365859387052065199227426483399006033110975683411256780603273792 W) (hv1 : Keeps W a v1) :
    Keeps W a (calOver v0 v1) := by
  unfold calOver
  refine keeps_calFree (hW.of rfl) ?_
  refine Keeps.upd_23 (hW.bit rfl) (by constructor <;> first | exact fun h => Bool.noConfusion ((hW.bit (by rfl)).symm.trans h) | exact fun _ => rfl | (intro _; split <;> rfl)) ?_
  exact hv1

theorem keeps_calRefuse {W : Nat} {a : State} {v0 : Sys2Proof.Machine.CalRun} {v1 : ℕ} {v2 : ℕ} {v3 : State} (hW : Sub 671365859387052065199227426483399006033110975683411256780603274816 W) (hv3 : Keeps W a v3) :
    Keeps W a (calRefuse v0 v1 v2 v3) := by
  unfold calRefuse
  refine keeps_completeOp (hW.of rfl) ?_
  refine keeps_postOwn (hW.of rfl) ?_
  refine keeps_calOver (hW.of rfl) ?_
  exact hv3

theorem keeps_calReset {W : Nat} {a : State} {v0 : State} (hW : Sub 671365859387052065199227426483399006033110975683411256780603274816 W) (hv0 : Keeps W a v0) :
    Keeps W a (calReset v0) := by
  unfold calReset
  split
  · exact hv0
  · refine Keeps.ite ?_ ?_
    · refine keeps_completeOp (hW.of rfl) ?_
      refine keeps_calOver (hW.of rfl) ?_
      exact hv0
    · refine keeps_calRefuse (hW.of rfl) ?_
      exact hv0

theorem keeps_calComplete {W : Nat} {a : State} {v0 : Sys2Proof.Machine.CalRun} {v1 : ℤ} {v2 : Bool} {v3 : State} (hW : Sub 671365859387052065199277864664436263328556655714886753215213434444 W) (hv3 : Keeps W a v3) :
    Keeps W a (calComplete v0 v1 v2 v3) := by
  unfold calComplete
  extract_lets -useContext -underBinder x0 x1 x2 x3 x4
  have hx1 : Keeps W a x1 := by
    refine keeps_deviceCommit (hW.of rfl) ?_
    refine keeps_calFree (hW.of rfl) ?_
    exact hv3
  have hx2 : Keeps W a x2.2 := by
    refine Keeps.ite2 ?_ ?_
    · refine keeps_persistWrites (hW.of rfl) ?_
      · exact hx1
    · try dsimp only
      exact hx1
  have hx3 : Keeps W a x3 := by
    exact hx2
  try clear_value x1
  try clear_value x2
  try clear_value x3
  refine keeps_settleChannels (hW.of rfl) ?_
  refine Keeps.upd_23 (hW.bit rfl) (by constructor <;> first | exact fun h => Bool.noConfusion ((hW.bit (by rfl)).symm.trans h) | exact fun _ => rfl | (intro _; split <;> rfl)) ?_
  exact hx3

theorem keeps_calibrationEnd {W : Nat} {a : State} {v0 : List ℤ} {v1 : Bool} {v2 : State} (hW : Sub 724022005221330658548236878506271479488004203415161308842368923212 W) (hv2 : Keeps W a v2) :
    Keeps W a (calibrationEnd v0 v1 v2) := by
  unfold calibrationEnd
  extract_lets -useContext -underBinder x0
  have hx0 : Keeps W a x0 := by
    refine keeps_catchUp (hW.of rfl) ?_
    exact hv2
  split
  · exact hx0
  · extract_lets -useContext -underBinder x3 x4
    try clear_value x3
    try clear_value x4
    refine Keeps.ite ?_ ?_
    · exact hx0
    · split
      · refine keeps_calRefuse (hW.of rfl) ?_
        exact hx0
      · refine keeps_calRefuse (hW.of rfl) ?_
        exact hx0
      · refine keeps_calComplete (hW.of rfl) ?_
        exact hx0

theorem keeps_calSystemBody {W : Nat} {a : State} {v0 : Sys2Proof.Req} {v1 : List Sys2Proof.Byte} {v2 : State} (hW : Sub 724022005221330658548186440325234222192403780878775139873396360194 W) (hv2 : Keeps W a v2) :
    KeepsR W a (calSystemBody v0 v1 v2) := by
  unfold calSystemBody
  extract_lets -useContext -underBinder x0 x1 x2
  try clear_value x0
  try clear_value x1
  try clear_value x2
  split
  · rename_i p3 p4 q5
    have hp6 : Keeps W a p4 := Keeps.ofEq2 q5 (by
      refine keeps_takeCodes (hW.of rfl) ?_
      · refine keeps_catchUp (hW.of rfl) ?_
        exact hv2)
    refine KeepsR.ite ?_ ?_
    · refine keeps_refuse (hW.of rfl) ?_
      exact hp6
    · refine KeepsR.ite ?_ ?_
      · refine keeps_refuse (hW.of rfl) ?_
        exact hp6
      · extract_lets -useContext -underBinder x7 x8 x9 x10
        have hx9 : Keeps W a x9 := by
          unfold x9
          refine keeps_setShort (hW.of rfl) ?_
          refine Keeps.upd_23 (hW.bit rfl) (by constructor <;> first | exact fun h => Bool.noConfusion ((hW.bit (by rfl)).symm.trans h) | exact fun _ => rfl | (intro _; split <;> rfl)) ?_
          exact hp6
        have hx10 : Keeps W a x10 := by
          refine Keeps.ite ?_ ?_
          · exact hx9
          · refine keeps_onConv (hW.of rfl) ?_
            exact hx9
        refine KeepsR.accepted ?_
        refine keeps_addOp (hW.of rfl) ?_
        exact hx10

theorem keeps_cmdCalSystem {W : Nat} {a : State} (hW : Sub 724022005221330658548186440325234222192403780878775139873396360194 W) :
    KeepsC W a (cmdCalSystem) := by
  unfold cmdCalSystem
  intro r p t ht
  dsimp only
  refine keeps_calSystemBody (hW.of rfl) ?_
  exact ht

end Sys2Proof.Machine
end

