-- ==== Sys2Proof/Laws/KeepsBackground.lean ====
section
/-! SUPPORT. What the operations of Machine/Background.lean keep (`Keeps`): one lemma for each. -/

namespace Sys2Proof.Machine

set_option linter.unusedVariables false
set_option linter.unusedTactic false
set_option linter.unreachableTactic false

theorem keeps_ledgerReadBody {W : Nat} {a : State} {v0 : Sys2Proof.Req} {v1 : List Sys2Proof.Byte} {v2 : State} (hW : Sub 0 W) (hv2 : Keeps W a v2) :
    KeepsR W a (ledgerReadBody v0 v1 v2) := by
  unfold ledgerReadBody
  extract_lets -useContext -underBinder x0 x1 x2 x3
  refine KeepsR.done ?_
  exact hv2

theorem keeps_onBg {W : Nat} {a : State} {v0 : Background → Background} {v1 : State} (hW : Sub 131072 W)
    (hv0 : ∀ c, BackgroundK W c (v0 c)) (hv1 : Keeps W a v1) : Keeps W a (onBg v0 v1) :=
  Keeps.upd_17 (hW.bit rfl) (hv0 _) hv1

theorem keeps_onTask {W : Nat} {a : State} {v0 : ℕ} {v1 : Sys2Proof.Machine.Task → Sys2Proof.Machine.Task} {v2 : State} (hW : Sub 348449143727040986586495598010130648662016 W) (hv2 : Keeps W a v2) :
    Keeps W a (onTask v0 v1 v2) := by
  unfold onTask
  refine keeps_onBg (hW.of rfl) (fun _ => (by constructor <;> first | exact fun h => Bool.noConfusion ((hW.bit (by rfl)).symm.trans h) | exact fun _ => rfl | (intro _; split <;> rfl))) ?_
  exact hv2

theorem keeps_fallDue {W : Nat} {a : State} {v0 : ℕ} {v1 : State} (hW : Sub 348449143727040986586495598010130648662016 W) (hv1 : Keeps W a v1) :
    Keeps W a (fallDue v0 v1) := by
  unfold fallDue
  extract_lets -useContext -underBinder x0
  refine Keeps.ite ?_ ?_
  · exact hv1
  · refine keeps_onTask (hW.of rfl) ?_
    exact hv1

theorem keeps_restoreScrub {W : Nat} {a : State} {v0 : List Sys2Proof.Byte} {v1 : State} (hW : Sub 4282091527261606684161444403946495539796901888 W) (hv1 : Keeps W a v1) :
    Keeps W a (restoreScrub v0 v1) := by
  unfold restoreScrub
  refine keeps_onTask (hW.of rfl) ?_
  refine keeps_onTask (hW.of rfl) ?_
  refine keeps_onBg (hW.of rfl) (fun _ => (by constructor <;> first | exact fun h => Bool.noConfusion ((hW.bit (by rfl)).symm.trans h) | exact fun _ => rfl | (intro _; split <;> rfl))) ?_
  exact hv1

theorem keeps_onEnergy {W : Nat} {a : State} {v0 : ℕ → Sys2Proof.Machine.Energy → Sys2Proof.Machine.Energy} {v1 : State} (hW : Sub 5575186299632655785383929568162090376626176 W) (hv1 : Keeps W a v1) :
    Keeps W a (onEnergy v0 v1) := by
  unfold onEnergy
  refine keeps_onBg (hW.of rfl) (fun _ => (by constructor <;> first | exact fun h => Bool.noConfusion ((hW.bit (by rfl)).symm.trans h) | exact fun _ => rfl | (intro _; split <;> rfl))) ?_
  exact hv1

theorem keeps_appendRestored {W : Nat} {a : State} {v0 : LogRec} {v1 : State} (hW : Sub 50438181037257216681745031943176444153389068 W) (hv1 : Keeps W a v1) :
    Keeps W a (appendRestored v0 v1) := by
  unfold appendRestored
  split
  · rename_i q
    exact keeps_appendRec (hW.of rfl) hv1 _ q
  · exact Keeps.upd_16 (hW.bit rfl) (by constructor <;> first | exact fun h => Bool.noConfusion ((hW.bit (by rfl)).symm.trans h) | exact fun _ => rfl | (intro _; split <;> rfl)) hv1

theorem keeps_declareGap {W : Nat} {a : State} {v0 v1 v2 : Nat} {v3 : Option Bytes} {v4 : State} (hW : Sub 83889298835053151394048609352148986412364366 W)
    (hv4 : Keeps W a v4) : Keeps W a (declareGap v0 v1 v2 v3 v4) := by
  unfold declareGap
  extract_lets x0 x1
  split
  rename_i p2 p3 q4
  have hp5 : Keeps W a p3 := Keeps.ofEq2 q4 (keeps_orFree (hW.of rfl) hv4)
  split
  rename_i p6 p7 q8
  have hp9 : Keeps W a p7 := Keeps.ofEq2 q8 (keeps_orFree (hW.of rfl) hp5)
  exact keeps_onBg (hW.of rfl) (fun _ => (by constructor <;> first | exact fun h => Bool.noConfusion ((hW.bit (by rfl)).symm.trans h) | exact fun _ => rfl | (intro _; split <;> rfl))) (keeps_post (hW.of rfl) (keeps_appendRestored (hW.of rfl) hp9))

theorem keeps_energyGaps {W : Nat} {a : State} {v0 : ℕ} {v1 : Option Sys2Proof.Bytes} {v2 : State} (hW : Sub 83889298835053151394048609352148986412364366 W) (hv2 : Keeps W a v2) :
    Keeps W a (energyGaps v0 v1 v2) := by
  unfold energyGaps
  refine keeps_declareGap (hW.of rfl) ?_
  refine keeps_declareGap (hW.of rfl) ?_
  exact hv2

theorem keeps_openInterval {W : Nat} {a : State} {v0 : List Sys2Proof.Byte} {v1 : State} (hW : Sub 50438181037257216681745031943176444153389070 W) (hv1 : Keeps W a v1) :
    Keeps W a (openInterval v0 v1) := by
  unfold openInterval
  extract_lets -useContext -underBinder x0 x1
  try clear_value x0
  try clear_value x1
  split
  · rename_i p2 p3 q4
    have hp5 : Keeps W a p3 := Keeps.ofEq2 q4 (by
      refine keeps_drawFree (hW.of rfl) ?_
      · exact hv1)
    split
    · rename_i p6 p7 q8
      have hp9 : Keeps W a p7 := Keeps.ofEq2 q8 (by
        refine keeps_drawFree (hW.of rfl) ?_
        · exact hp5)
      split
      · rename_i p10 p11 q12
        have hp13 : Keeps W a p11 := Keeps.ofEq2 q12 (by
          refine keeps_drawFree (hW.of rfl) ?_
          · exact hp9)
        split
        · rename_i p14 p15 q16
          have hp17 : Keeps W a p15 := Keeps.ofEq2 q16 (by
            refine keeps_drawFree (hW.of rfl) ?_
            · exact hp13)
          extract_lets -useContext -underBinder x18 x19
          have hx19 : Keeps W a x19 := by
            refine keeps_onEnergy (hW.of rfl) ?_
            exact hp17
          refine keeps_appendRestored (hW.of rfl) ?_
          exact hx19

theorem keeps_restoreFrom {W : Nat} {a : State} {v0 : List Sys2Proof.Byte} {v1 : State} (hW : Sub 33374797436264220037422214158899251790667258161822786207314509991701469955896644824140450329166 W) (hv1 : Keeps W a v1) :
    Keeps W a (restoreFrom v0 v1) := by
  unfold restoreFrom
  extract_lets -useContext -underBinder x0 x1 x2 x3 x4 x5 x6 x7
  have hx5 : Keeps W a x5 := by
    unfold x5
    refine keeps_onBg (hW.of rfl) (fun _ => (by constructor <;> first | exact fun h => Bool.noConfusion ((hW.bit (by rfl)).symm.trans h) | exact fun _ => rfl | (intro _; split <;> rfl))) ?_
    refine Keeps.upd_26 (hW.bit rfl) (by constructor <;> first | exact fun h => Bool.noConfusion ((hW.bit (by rfl)).symm.trans h) | exact fun _ => rfl | (intro _; split <;> rfl)) ?_
    exact hv1
  have hx6 : Keeps W a x6 := by
    refine keeps_onEnergy (hW.of rfl) ?_
    exact hx5
  have hx7 : Keeps W a x7 := by
    refine Keeps.ite ?_ ?_
    · exact hx6
    · refine keeps_declareGap (hW.of rfl) ?_
      exact hx6
  refine Keeps.ite ?_ ?_
  · exact hx7
  · refine keeps_energyGaps (hW.of rfl) ?_
    refine keeps_openInterval (hW.of rfl) ?_
    exact hx7

theorem keeps_restoreNone {W : Nat} {a : State} {v0 : State} (hW : Sub 83889298835053151394048609352148986412364366 W) (hv0 : Keeps W a v0) :
    Keeps W a (restoreNone v0) := by
  unfold restoreNone
  extract_lets -useContext -underBinder x0 x1 x2
  have hx1 : Keeps W a x1 := by
    refine keeps_onEnergy (hW.of rfl) ?_
    exact hv0
  have hx2 : Keeps W a x2 := by
    unfold x2
    try clear_value x1
    refine keeps_onBg (hW.of rfl) (fun _ => (by constructor <;> first | exact fun h => Bool.noConfusion ((hW.bit (by rfl)).symm.trans h) | exact fun _ => rfl | (intro _; split <;> rfl))) ?_
    exact hx1
  refine keeps_energyGaps (hW.of rfl) ?_
  refine keeps_declareGap (hW.of rfl) ?_
  exact hx2

theorem keeps_restoreLedgers {W : Nat} {a : State} {v0 : Option (Bool × Bool)} {v1 : State} (hW : Sub 33374797436264220037422214158899251790667258161832777289612595437909864544178389300225778086478 W) (hv1 : Keeps W a v1) :
    Keeps W a (restoreLedgers v0 v1) := by
  unfold restoreLedgers
  extract_lets -useContext -underBinder x0 x1 x4
  try clear_value x0
  have hx1 : Keeps W a x1 := by
    unfold x1
    split
    · refine keeps_restoreScrub (hW.of rfl) ?_
      refine keeps_restoreFrom (hW.of rfl) ?_
      exact hv1
    · refine keeps_restoreNone (hW.of rfl) ?_
      exact hv1
  have hx4 : Keeps W a x4 := by
    unfold x4
    split
    · extract_lets -useContext -underBinder x7
      have hx7 : Keeps W a x7 := by
        refine Keeps.ite ?_ ?_
        · refine keeps_declareGap (hW.of rfl) ?_
          exact hx1
        · exact hx1
      refine Keeps.ite ?_ ?_
      · refine keeps_declareGap (hW.of rfl) ?_
        exact hx7
      · exact hx7
    · exact hx1
  try clear_value x1
  try clear_value x4
  refine keeps_onBg (hW.of rfl) (fun _ => (by constructor <;> first | exact fun h => Bool.noConfusion ((hW.bit (by rfl)).symm.trans h) | exact fun _ => rfl | (intro _; split <;> rfl))) ?_
  exact hx4

theorem keeps_fallAll {W : Nat} {a : State} {v0 : State} (hW : Sub 348449143727040986586495598010130648662016 W) (hv0 : Keeps W a v0) :
    Keeps W a (fallAll v0) := by
  unfold fallAll
  refine Keeps.foldl (fun t0 y1 ht0 => ?_) ?_
  · refine keeps_fallDue (hW.of rfl) ?_
    exact ht0
  · exact hv0

theorem keeps_backgroundWindow {W : Nat} {a : State} {v0 : State} (hW : Sub 2090694862362246074261478498733318253715456 W) (hv0 : Keeps W a v0) :
    Keeps W a (backgroundWindow v0) := by
  unfold backgroundWindow
  refine Keeps.ite ?_ ?_
  · exact hv0
  · refine keeps_onBg (hW.of rfl) (fun _ => (by constructor <;> first | exact fun h => Bool.noConfusion ((hW.bit (by rfl)).symm.trans h) | exact fun _ => rfl | (intro _; split <;> rfl))) ?_
    refine keeps_takeOcc (hW.of rfl) ?_
    exact hv0

theorem keeps_dispatch {W : Nat} {a : State} {v0 : State} (hW : Sub 2439144006089287060847974096743448902246400 W) (hv0 : Keeps W a v0) :
    Keeps W a (dispatch v0) := by
  unfold dispatch
  refine keeps_fallAll (hW.of rfl) ?_
  refine keeps_takeOcc (hW.of rfl) ?_
  refine keeps_backgroundWindow (hW.of rfl) ?_
  exact hv0

theorem keeps_backgroundBody {W : Nat} {a : State} {v0 : Sys2Proof.Req} {v1 : List Sys2Proof.Byte} {v2 : State} (hW : Sub 2439144006089287060847974096743448902246400 W) (hv2 : Keeps W a v2) :
    KeepsR W a (backgroundBody v0 v1 v2) := by
  unfold backgroundBody
  extract_lets -useContext -underBinder x0 x1 x2
  have hx0 : Keeps W a x0 := by
    refine Keeps.ite ?_ ?_
    · refine keeps_dispatch (hW.of rfl) ?_
      exact hv2
    · exact hv2
  have hx2 : Keeps W a x2 := by
    refine keeps_onTask (hW.of rfl) ?_
    exact hx0
  refine KeepsR.ite ?_ ?_
  · refine KeepsR.done ?_
    exact hx0
  · refine KeepsR.ite ?_ ?_
    · refine keeps_refuse (hW.of rfl) ?_
      exact hx0
    · refine KeepsR.ite ?_ ?_
      · refine keeps_refuse (hW.of rfl) ?_
        exact hx0
      · refine KeepsR.done ?_
        exact hx2

theorem keeps_restoreCounts {W : Nat} {a : State} {v0 : Option Sys2Proof.Bytes} {v1 : State} (hW : Sub 382817662786055771396296433360739303424 W) (hv1 : Keeps W a v1) :
    Keeps W a (restoreCounts v0 v1) := by
  unfold restoreCounts
  extract_lets -useContext -underBinder x0 x1 x2 x3
  refine Keeps.upd_16 (hW.bit rfl) (by constructor <;> first | exact fun h => Bool.noConfusion ((hW.bit (by rfl)).symm.trans h) | exact fun _ => rfl | (intro _; split <;> rfl)) ?_
  exact hv1

theorem keeps_writeCheckpoint {W : Nat} {a : State} {v0 : ℕ} {v1 : State} (hW : Sub 40564973949808251520428864987140 W) (hv1 : Keeps W a v1) :
    Keeps W a (writeCheckpoint v0 v1) := by
  unfold writeCheckpoint
  refine keeps_writeTwo (hW.of rfl) ?_
  refine keeps_takeOcc (hW.of rfl) ?_
  exact hv1

theorem keeps_fullCheckpoint {W : Nat} {a : State} {v0 : ℕ} {v1 : State} (hW : Sub 40564973949808251520428864987140 W) (hv1 : Keeps W a v1) :
    Keeps W a (fullCheckpoint v0 v1) := by
  unfold fullCheckpoint
  refine keeps_saveGauge (hW.of rfl) ?_
  refine keeps_writeCheckpoint (hW.of rfl) ?_
  exact hv1

theorem keeps_joinTelemetry {W : Nat} {a : State} {v0 : State} (hW : Sub 215679573337205118357337191131926574859007949094801666970181185961984 W) (hv0 : Keeps W a v0) :
    Keeps W a (joinTelemetry v0) := by
  unfold joinTelemetry
  extract_lets -useContext -underBinder x0 x1
  refine Keeps.ite ?_ ?_
  · exact hv0
  · refine Keeps.ite ?_ ?_
    · refine keeps_onBg (hW.of rfl) (fun _ => (by constructor <;> first | exact fun h => Bool.noConfusion ((hW.bit (by rfl)).symm.trans h) | exact fun _ => rfl | (intro _; split <;> rfl))) ?_
      refine keeps_onBank (hW.of rfl) ?_
      exact hv0
    · refine keeps_onBg (hW.of rfl) (fun _ => (by constructor <;> first | exact fun h => Bool.noConfusion ((hW.bit (by rfl)).symm.trans h) | exact fun _ => rfl | (intro _; split <;> rfl))) ?_
      exact hv0

theorem keeps_leaveTelemetry {W : Nat} {a : State} {v0 : State} (hW : Sub 215679573337205118357336477508080221879067419951816942222612994588672 W) (hv0 : Keeps W a v0) :
    Keeps W a (leaveTelemetry v0) := by
  unfold leaveTelemetry
  split
  · refine Keeps.ite ?_ ?_
    · exact hv0
    · refine keeps_onBg (hW.of rfl) (fun _ => (by constructor <;> first | exact fun h => Bool.noConfusion ((hW.bit (by rfl)).symm.trans h) | exact fun _ => rfl | (intro _; split <;> rfl))) ?_
      refine keeps_onBank (hW.of rfl) ?_
      exact hv0
  · exact hv0

theorem keeps_snapshot {W : Nat} {a : State} {v0 : ℕ} {v1 : State} (hW : Sub 2 W) (hv1 : Keeps W a v1) :
    Keeps W a (snapshot v0 v1).2 := by
  unfold snapshot
  split
  · rename_i p0 p1 q2
    have hp3 : Keeps W a p1 := Keeps.ofEq2 q2 (by
      refine keeps_lastResult (hW.of rfl) ?_
      · exact hv1)
    split
    · rename_i p4 p5 q6
      have hp7 : Keeps W a p5 := Keeps.ofEq2 q6 (by
        refine keeps_lastResult (hW.of rfl) ?_
        · exact hp3)
      split
      · rename_i p8 p9 q10
        have hp11 : Keeps W a p9 := Keeps.ofEq2 q10 (by
          refine keeps_lastResult (hW.of rfl) ?_
          · exact hp7)
        split
        · rename_i p12 p13 q14
          have hp15 : Keeps W a p13 := Keeps.ofEq2 q14 (by
            refine keeps_lastResult (hW.of rfl) ?_
            · exact hp11)
          split
          · rename_i p16 p17 q18
            have hp19 : Keeps W a p17 := Keeps.ofEq2 q18 (by
              refine keeps_lastResult (hW.of rfl) ?_
              · exact hp15)
            split
            · rename_i p20 p21 q22
              have hp23 : Keeps W a p21 := Keeps.ofEq2 q22 (by
                refine keeps_lastResult (hW.of rfl) ?_
                · exact hp19)
              split
              · rename_i p24 p25 q26
                have hp27 : Keeps W a p25 := Keeps.ofEq2 q26 (by
                  refine keeps_orFree (hW.of rfl) ?_
                  · exact hp23)
                split
                · rename_i p28 p29 q30
                  have hp31 : Keeps W a p29 := Keeps.ofEq2 q30 (by
                    refine keeps_lastResult (hW.of rfl) ?_
                    · exact hp27)
                  try dsimp only
                  exact hp31

theorem keeps_putTelemetry {W : Nat} {a : State} {v0 : List Sys2Proof.Byte} {v1 : List (ℕ × Bool)} {v2 : State} (hW : Sub 6254707626778948432362748213812400669263758189914902451036140148498436 W) (hv2 : Keeps W a v2) :
    Keeps W a (putTelemetry v0 v1 v2) := by
  unfold putTelemetry
  split
  · extract_lets -useContext -underBinder x1 x2 x3 x4
    have hx3 : Keeps W a x3 := by
      refine keeps_bankBytes (hW.of rfl) ?_
      refine keeps_arbitrate (hW.of rfl) ?_
      exact hv2
    have hx4 : Keeps W a x4 := by
      refine keeps_bankBytes (hW.of rfl) ?_
      refine keeps_arbitrate (hW.of rfl) ?_
      exact hx3
    try clear_value x3
    try clear_value x4
    refine keeps_onBg (hW.of rfl) (fun _ => (by constructor <;> first | exact fun h => Bool.noConfusion ((hW.bit (by rfl)).symm.trans h) | exact fun _ => rfl | (intro _; split <;> rfl))) ?_
    exact hx4
  · exact hv2

theorem keeps_telemetryStep {W : Nat} {a : State} {v0 : List (ℕ × Bool)} {v1 : State} (hW : Sub 6254707626778948432362748838233266228121206152915014085190262315950086 W) (hv1 : Keeps W a v1) :
    Keeps W a (telemetryStep v0 v1) := by
  unfold telemetryStep
  extract_lets -useContext -underBinder x0 x1
  try clear_value x1
  have hx0 : Keeps W a x0 := by
    refine keeps_joinTelemetry (hW.of rfl) ?_
    refine keeps_leaveTelemetry (hW.of rfl) ?_
    refine keeps_takeOcc (hW.of rfl) ?_
    exact hv1
  try clear_value x0
  split
  · rename_i p2 p3 q4
    have hp5 : Keeps W a p3 := Keeps.ofEq2 q4 (by
      refine keeps_snapshot (hW.of rfl) ?_
      · exact hx0)
    refine keeps_putTelemetry (hW.of rfl) ?_
    refine keeps_onBg (hW.of rfl) (fun _ => (by constructor <;> first | exact fun h => Bool.noConfusion ((hW.bit (by rfl)).symm.trans h) | exact fun _ => rfl | (intro _; split <;> rfl))) ?_
    exact hp5

theorem keeps_scrubBegin {W : Nat} {a : State} {v0 : ℕ} {v1 : State} (hW : Sub 348449143727041141329000508682665011060736 W) (hv1 : Keeps W a v1) :
    Keeps W a (scrubBegin v0 v1) := by
  unfold scrubBegin
  refine Keeps.ite ?_ ?_
  · refine keeps_onTask (hW.of rfl) ?_
    refine keeps_takeOcc (hW.of rfl) ?_
    exact hv1
  · exact hv1

theorem keeps_scrubNote {W : Nat} {a : State} {v0 : ℕ} {v1 : ℕ} {v2 : ℕ} {v3 : Bool} {v4 : State} (hW : Sub 348449143727040986586495598010130648662016 W) (hv4 : Keeps W a v4) :
    Keeps W a (scrubNote v0 v1 v2 v3 v4) := by
  unfold scrubNote
  refine keeps_onTask (hW.of rfl) ?_
  exact hv4

theorem keeps_nextStep {W : Nat} {a : State} {v0 : ℕ} {v1 : ℕ} {v2 : State} (hW : Sub 348449143727040986586495598010130648662016 W) (hv2 : Keeps W a v2) :
    Keeps W a (nextStep v0 v1 v2) := by
  unfold nextStep
  refine keeps_onTask (hW.of rfl) ?_
  exact hv2

theorem keeps_scrubRecord {W : Nat} {a : State} {v0 : ℕ} {v1 : ℕ} {v2 : ℕ} {v3 : ℕ} {v4 : ℕ} {v5 : State} (hW : Sub 50438181037257216681745031943176444153389068 W) (hv5 : Keeps W a v5) :
    Keeps W a (scrubRecord v0 v1 v2 v3 v4 v5) := by
  unfold scrubRecord
  refine keeps_logRecord (hW.of rfl) ?_
  exact hv5

theorem keeps_faStep {W : Nat} {a : State} {v0 : List ℕ} {v1 : List ℕ} {v2 : State} (hW : Sub 218615307934772124422364464459510934754474267676209171190307572643438 W) (hv2 : Keeps W a v2) :
    Keeps W a (faStep v0 v1 v2) := by
  unfold faStep
  extract_lets -useContext -underBinder x0 x1 x2 x3 x4 x5 x6 x7 x8 x11 x12
  have hx0 : Keeps W a x0 := by
    refine keeps_scrubBegin (hW.of rfl) ?_
    exact hv2
  have hx6 : Keeps W a x6 := by
    unfold x6
    try clear_value x0
    refine Keeps.upd_14 (hW.bit rfl) (by constructor <;> first | exact fun h => Bool.noConfusion ((hW.bit (by rfl)).symm.trans h) | exact fun _ => rfl | (intro _; split <;> rfl)) ?_
    exact hx0
  have hx8 : Keeps W a x8 := by
    refine keeps_scrubNote (hW.of rfl) ?_
    refine Keeps.foldl (fun t9 y10 ht9 => ?_) ?_
    · refine keeps_uncorrectable (hW.of rfl) ?_
      exact ht9
    · exact hx6
  have hx11 : Keeps W a x11 := by
    refine keeps_nextStep (hW.of rfl) ?_
    exact hx8
  try clear_value x0
  try clear_value x6
  try clear_value x8
  try clear_value x11
  refine Keeps.ite ?_ ?_
  · refine keeps_onBg (hW.of rfl) (fun _ => (by constructor <;> first | exact fun h => Bool.noConfusion ((hW.bit (by rfl)).symm.trans h) | exact fun _ => rfl | (intro _; split <;> rfl))) ?_
    refine keeps_scrubRecord (hW.of rfl) ?_
    exact hx11
  · exact hx11

theorem keeps_weakSector {W : Nat} {a : State} {v0 : ℕ} {v1 : State} (hW : Sub 43556174119661274532277720934244306468864 W) (hv1 : Keeps W a v1) :
    Keeps W a (weakSector v0 v1) := by
  unfold weakSector
  refine Keeps.ite ?_ ?_
  · refine Keeps.upd_16 (hW.bit rfl) (by constructor <;> first | exact fun h => Bool.noConfusion ((hW.bit (by rfl)).symm.trans h) | exact fun _ => rfl | (intro _; split <;> rfl)) ?_
    exact hv1
  · refine Keeps.ite ?_ ?_
    · refine Keeps.upd_14 (hW.bit rfl) (by constructor <;> first | exact fun h => Bool.noConfusion ((hW.bit (by rfl)).symm.trans h) | exact fun _ => rfl | (intro _; split <;> rfl)) ?_
      exact hv1
    · refine Keeps.upd_14 (hW.bit rfl) (by constructor <;> first | exact fun h => Bool.noConfusion ((hW.bit (by rfl)).symm.trans h) | exact fun _ => rfl | (intro _; split <;> rfl)) ?_
      exact hv1

theorem keeps_saStep {W : Nat} {a : State} {v0 : List ℕ} {v1 : State} (hW : Sub 2905325571767023681059435744161111091873800204 W) (hv1 : Keeps W a v1) :
    Keeps W a (saStep v0 v1) := by
  unfold saStep
  extract_lets -useContext -underBinder x0 x1 x2 x3 x4 x5
  have hx0 : Keeps W a x0 := by
    refine keeps_scrubBegin (hW.of rfl) ?_
    exact hv1
  have hx3 : Keeps W a x3 := by
    refine Keeps.ite ?_ ?_
    · exact hx0
    · refine keeps_scrubRecord (hW.of rfl) ?_
      refine keeps_weakSector (hW.of rfl) ?_
      exact hx0
  have hx4 : Keeps W a x4 := by
    refine keeps_nextStep (hW.of rfl) ?_
    refine keeps_scrubNote (hW.of rfl) ?_
    exact hx3
  try clear_value x0
  try clear_value x3
  try clear_value x4
  refine Keeps.ite ?_ ?_
  · refine keeps_onBg (hW.of rfl) (fun _ => (by constructor <;> first | exact fun h => Bool.noConfusion ((hW.bit (by rfl)).symm.trans h) | exact fun _ => rfl | (intro _; split <;> rfl))) ?_
    refine keeps_scrubRecord (hW.of rfl) ?_
    exact hx4
  · exact hx4

theorem keeps_bankScrubStep {W : Nat} {a : State} {v0 : Bool} {v1 : List (ℕ × Bool)} {v2 : State} (hW : Sub 6257643361376515438427774416704215499658889945633850452389408962213486 W) (hv2 : Keeps W a v2) :
    Keeps W a (bankScrubStep v0 v1 v2) := by
  unfold bankScrubStep
  extract_lets -useContext -underBinder x0 x1 x2
  try clear_value x1
  try clear_value x2
  have hx0 : Keeps W a x0 := by
    refine keeps_scrubBegin (hW.of rfl) ?_
    exact hv2
  split
  · rename_i p3 p4 q5
    have hp6 : Keeps W a p4 := Keeps.ofEq2 q5 (by
      refine keeps_gate (hW.of rfl) ?_
      · exact hx0)
    refine keeps_nextStep (hW.of rfl) ?_
    refine keeps_onBank (hW.of rfl) ?_
    exact hp6
  · rename_i p7 q8
    have hp9 : Keeps W a p7 := Keeps.ofEq2 q8 (by
      refine keeps_gate (hW.of rfl) ?_
      · exact hx0)
    refine keeps_nextStep (hW.of rfl) ?_
    refine keeps_parityRead (hW.of rfl) ?_
    · refine keeps_arbitrate (hW.of rfl) ?_
      exact hp9

theorem keeps_taskBody {W : Nat} {a : State} {v0 : ℕ} {v1 : List ℕ} {v2 : List ℕ} {v3 : List ℕ} {v4 : Bool} {v5 : List (ℕ × Bool)} {v6 : State} (hW : Sub 6257643361376515438427780036565676693323028109247545765887541159884398 W) (hv6 : Keeps W a v6) :
    Keeps W a (taskBody v0 v1 v2 v3 v4 v5 v6) := by
  unfold taskBody
  split
  · refine keeps_fullCheckpoint (hW.of rfl) ?_
    exact hv6
  · refine keeps_telemetryStep (hW.of rfl) ?_
    exact hv6
  · refine keeps_faStep (hW.of rfl) ?_
    exact hv6
  · refine keeps_saStep (hW.of rfl) ?_
    exact hv6
  · refine keeps_bankScrubStep (hW.of rfl) ?_
    exact hv6
  · refine keeps_compactionStep (hW.of rfl) ?_
    exact hv6

theorem keeps_chargeStep {W : Nat} {a : State} {v0 : ℕ} {v1 : ℕ} {v2 : Bool} {v3 : State} (hW : Sub 1045347431181122959759486794030391945723904 W) (hv3 : Keeps W a v3) :
    Keeps W a (chargeStep v0 v1 v2 v3) := by
  unfold chargeStep
  extract_lets -useContext -underBinder x0
  have hx0 : Keeps W a x0 := by
    refine keeps_onTask (hW.of rfl) ?_
    exact hv3
  try clear_value x0
  refine Keeps.ite ?_ ?_
  · refine keeps_onBg (hW.of rfl) (fun _ => (by constructor <;> first | exact fun h => Bool.noConfusion ((hW.bit (by rfl)).symm.trans h) | exact fun _ => rfl | (intro _; split <;> rfl))) ?_
    exact hx0
  · exact hx0

theorem keeps_runTask {W : Nat} {a : State} {v0 : ℕ} {v1 : ℕ} {v2 : State → State} {v3 : State} (hW : Sub 1045347431181122959759486794030391945723904 W) (hv2 : ∀ t, Keeps W a t → Keeps W a (v2 t)) (hv3 : Keeps W a v3) :
    Keeps W a (runTask v0 v1 v2 v3) := by
  unfold runTask
  extract_lets -useContext -underBinder x0
  have hx0 : Keeps W a x0 := by
    refine hv2 _ ?_
    exact hv3
  refine keeps_chargeStep (hW.of rfl) ?_
  exact hx0

theorem keeps_fumaroleStep {W : Nat} {a : State} {v0 : ℕ} {v1 : List ℕ} {v2 : List ℕ} {v3 : List ℕ} {v4 : Bool} {v5 : List (ℕ × Bool)} {v6 : State} (hW : Sub 6257643361376515438427780038656371555685274028766519353948325051070062 W) (hv6 : Keeps W a v6) :
    Keeps W a (fumaroleStep v0 v1 v2 v3 v4 v5 v6) := by
  unfold fumaroleStep
  refine Keeps.ite ?_ ?_
  · extract_lets -useContext -underBinder x0
    have hx0 : Keeps W a x0 := by
      refine keeps_dispatch (hW.of rfl) ?_
      exact hv6
    split
    · refine keeps_runTask (hW.of rfl) ?_ ?_
      · intro t2 ht2
        refine keeps_taskBody (hW.of rfl) ?_
        exact ht2
      · exact hx0
    · exact hx0
  · exact hv6

theorem keeps_freeStepTime {W : Nat} {a : State} {v0 : State} (hW : Sub 2 W) (hv0 : Keeps W a v0) :
    Keeps W a (freeStepTime v0).2 := by
  unfold freeStepTime
  split
  · rename_i p0 p1 q2
    have hp3 : Keeps W a p1 := Keeps.ofEq2 q2 (by
      refine keeps_drawFree (hW.of rfl) ?_
      · exact hv0)
    try dsimp only
    exact hp3

theorem keeps_dueAndRun {W : Nat} {a : State} {v0 : ℕ} {v1 : State → State} {v2 : State} (hW : Sub 2439144006089287060847974096743448902246402 W) (hv1 : ∀ t, Keeps W a t → Keeps W a (v1 t)) (hv2 : Keeps W a v2) :
    Keeps W a (dueAndRun v0 v1 v2) := by
  unfold dueAndRun
  extract_lets -useContext -underBinder x0
  have hx0 : Keeps W a x0 := by
    refine Keeps.ite ?_ ?_
    · refine keeps_dispatch (hW.of rfl) ?_
      exact hv2
    · exact hv2
  refine Keeps.ite ?_ ?_
  · split
    · rename_i p1 p2 q3
      have hp4 : Keeps W a p2 := Keeps.ofEq2 q3 (by
        refine keeps_freeStepTime (hW.of rfl) ?_
        · exact hx0)
      refine keeps_runTask (hW.of rfl) ?_ ?_
      · exact hv1
      · exact hp4
  · exact hx0

theorem keeps_compaction {W : Nat} {a : State} {v0 : State} (hW : Sub 52863883890177645072202124559036959869329422 W) (hv0 : Keeps W a v0) :
    Keeps W a (compaction v0) := by
  unfold compaction
  refine keeps_dueAndRun (hW.of rfl) ?_ ?_
  · intro t0 ht0
    refine keeps_compactionStep (hW.of rfl) ?_
    exact ht0
  · exact hv0

theorem keeps_openBytes {W : Nat} {a : State} {v0 : Nat} {v1 : State} (hW : Sub 2 W) (hv1 : Keeps W a v1) :
    Keeps W a (openBytes v0 v1).2 := by
  induction v0 generalizing v1 with
  | zero => exact hv1
  | succ n ih => exact ih (keeps_drawFree (hW.of rfl) hv1)

theorem keeps_telemetryReadBody {W : Nat} {a : State} {v0 : Sys2Proof.Req} {v1 : List Sys2Proof.Byte} {v2 : State} (hW : Sub 2 W) (hv2 : Keeps W a v2) :
    KeepsR W a (telemetryReadBody v0 v1 v2) := by
  unfold telemetryReadBody
  refine KeepsR.ite ?_ ?_
  · extract_lets -useContext -underBinder x0
    have hx0 : Keeps W a x0.2 := by
      refine keeps_openBytes (hW.of rfl) ?_
      · exact hv2
    refine KeepsR.done ?_
    exact hx0
  · refine KeepsR.done ?_
    exact hv2

theorem keeps_fumaroleReset {W : Nat} {a : State} {v0 : State} (hW : Sub 4284182222123968930080963377534556323688087552 W) (hv0 : Keeps W a v0) :
    Keeps W a (fumaroleReset v0) := by
  unfold fumaroleReset
  extract_lets -useContext -underBinder x0 x1 x2 x3
  refine keeps_onBg (hW.of rfl) (fun _ => (by constructor <;> first | exact fun h => Bool.noConfusion ((hW.bit (by rfl)).symm.trans h) | exact fun _ => rfl | (intro _; split <;> rfl))) ?_
  exact hv0

theorem keeps_cmdLedgerRead {W : Nat} {a : State} (hW : Sub 0 W) :
    KeepsC W a (cmdLedgerRead) := by
  unfold cmdLedgerRead
  intro r p t ht
  dsimp only
  refine keeps_ledgerReadBody (hW.of rfl) ?_
  exact ht

theorem keeps_checkpoint {W : Nat} {a : State} {v0 : State} (hW : Sub 2439144006129851880055277437591343404834822 W) (hv0 : Keeps W a v0) :
    Keeps W a (checkpoint v0) := by
  unfold checkpoint
  refine keeps_dueAndRun (hW.of rfl) ?_ ?_
  · intro t0 ht0
    refine keeps_fullCheckpoint (hW.of rfl) ?_
    exact ht0
  · exact hv0

theorem keeps_checkpointStep {W : Nat} {a : State} {v0 : State} (hW : Sub 40564973949808251520428864987140 W) (hv0 : Keeps W a v0) :
    ∀ t, checkpointStep v0 = some t → Keeps W a t := by
  intro t h
  unfold checkpointStep at h
  split at h
  · cases h
    exact keeps_fullCheckpoint (hW.of rfl) hv0
  · cases h

theorem keeps_cmdBackground {W : Nat} {a : State} {v0 : List Sys2Proof.Byte} (hW : Sub 2439144006089287060847974096743448902246400 W) :
    KeepsC W a (cmdBackground v0) := by
  unfold cmdBackground
  intro r p t ht
  dsimp only
  refine keeps_backgroundBody (hW.of rfl) ?_
  exact ht

theorem keeps_faScrub {W : Nat} {a : State} {v0 : List ℕ} {v1 : List ℕ} {v2 : State} (hW : Sub 218615307934772124422364466550205797116720187195182759251091463829102 W) (hv2 : Keeps W a v2) :
    Keeps W a (faScrub v0 v1 v2) := by
  unfold faScrub
  refine keeps_dueAndRun (hW.of rfl) ?_ ?_
  · intro t0 ht0
    refine keeps_faStep (hW.of rfl) ?_
    exact ht0
  · exact hv2

theorem keeps_checkpointDue {W : Nat} {a : State} {v0 : State} (hW : Sub 348449143727040986586495598010130648662016 W) (hv0 : Keeps W a v0) :
    Keeps W a (checkpointDue v0) := by
  unfold checkpointDue
  refine keeps_fallDue (hW.of rfl) ?_
  refine keeps_onTask (hW.of rfl) ?_
  exact hv0

theorem keeps_telemetry {W : Nat} {a : State} {v0 : List (ℕ × Bool)} {v1 : State} (hW : Sub 6254707626778948432362748840672410234210493059020483271261176855666694 W) (hv1 : Keeps W a v1) :
    Keeps W a (telemetry v0 v1) := by
  unfold telemetry
  refine keeps_dueAndRun (hW.of rfl) ?_ ?_
  · intro t0 ht0
    refine keeps_telemetryStep (hW.of rfl) ?_
    exact ht0
  · exact hv1

theorem keeps_bankScrub {W : Nat} {a : State} {v0 : Bool} {v1 : List (ℕ × Bool)} {v2 : State} (hW : Sub 6257643361376515438427774418794910362021135865152824040450192853399150 W) (hv2 : Keeps W a v2) :
    Keeps W a (bankScrub v0 v1 v2) := by
  unfold bankScrub
  refine keeps_dueAndRun (hW.of rfl) ?_ ?_
  · intro t0 ht0
    refine keeps_bankScrubStep (hW.of rfl) ?_
    exact ht0
  · exact hv2

theorem keeps_cmdTelemetryRead {W : Nat} {a : State} (hW : Sub 2 W) :
    KeepsC W a (cmdTelemetryRead) := by
  unfold cmdTelemetryRead
  intro r p t ht
  dsimp only
  refine keeps_telemetryReadBody (hW.of rfl) ?_
  exact ht

theorem keeps_saScrub {W : Nat} {a : State} {v0 : List ℕ} {v1 : State} (hW : Sub 2907416266629385926978954717749171875764985870 W) (hv1 : Keeps W a v1) :
    Keeps W a (saScrub v0 v1) := by
  unfold saScrub
  refine keeps_dueAndRun (hW.of rfl) ?_ ?_
  · intro t0 ht0
    refine keeps_saStep (hW.of rfl) ?_
    exact ht0
  · exact hv1

end Sys2Proof.Machine
end

