-- ==== Sys2Proof/Laws/KeepsCommits.lean ====
section
/-! SUPPORT. What the operations of Machine/Commits.lean keep (`Keeps`): one lemma for each. -/

namespace Sys2Proof.Machine

set_option linter.unusedVariables false
set_option linter.unusedTactic false
set_option linter.unreachableTactic false

theorem keeps_noteWake {W : Nat} {a : State} {v0 : List Sys2Proof.Machine.PWrite} {v1 : State} (hW : Sub 4722366482869645213728 W) (hv1 : Keeps W a v1) :
    Keeps W a (noteWake v0 v1) := by
  unfold noteWake
  refine Keeps.ite ?_ ?_
  · refine Keeps.upd_5 (hW.bit rfl) (by constructor <;> first | exact fun h => Bool.noConfusion ((hW.bit (by rfl)).symm.trans h) | exact fun _ => rfl | (intro _; split <;> rfl)) ?_
    exact hv1
  · exact hv1

theorem keeps_blockTake {W : Nat} {a : State} {v0 : State} {v1 : Sys2Proof.Machine.PInst} (hW : Sub 81143120730623503912688448566375362895087219537275953236371253245504 W) (hv0 : Keeps W a v0) :
    Keeps W a (blockTake v0 v1) := by
  unfold blockTake
  split
  · refine keeps_setSt (hW.of rfl) ?_
    exact hv0
  · refine keeps_onRail (hW.of rfl) ?_
    exact hv0
  · refine Keeps.ite ?_ ?_
    · refine keeps_setSt (hW.of rfl) ?_
      exact hv0
    · exact hv0
  · refine keeps_setOc (hW.of rfl) ?_
    exact hv0
  · refine keeps_setOc (hW.of rfl) ?_
    exact hv0
  · refine keeps_modeApply (hW.of rfl) ?_
    exact hv0
  · refine Keeps.ite ?_ ?_
    · refine keeps_dropTripped (hW.of rfl) ?_
      exact hv0
    · exact hv0
  · exact hv0

theorem keeps_blocksTake {W : Nat} {a : State} {v0 : List Sys2Proof.Machine.PWrite} {v1 : State} (hW : Sub 239823432329056863836665032196119777929031947730136223056109349384133831989196842724792428830094926 W) (hv1 : Keeps W a v1) :
    Keeps W a (blocksTake v0 v1) := by
  unfold blocksTake
  extract_lets -useContext -underBinder x0 x3 x4
  have hx0 : Keeps W a x0 := by
    refine keeps_settleChannels (hW.of rfl) ?_
    refine Keeps.foldl (fun t1 y2 ht1 => ?_) ?_
    · refine keeps_blockTake (hW.of rfl) ?_
      exact ht1
    · exact hv1
  have hx3 : Keeps W a x3 := by
    refine Keeps.ite ?_ ?_
    · refine keeps_capParams (hW.of rfl) ?_
      exact hx0
    · exact hx0
  have hx4 : Keeps W a x4 := by
    refine Keeps.ite ?_ ?_
    · refine keeps_intakeParams (hW.of rfl) ?_
      refine Keeps.ite ?_ ?_
      · refine keeps_stepQuiet (hW.of rfl) ?_
        exact hx3
      · exact hx3
    · exact hx3
  refine Keeps.ite ?_ ?_
  · refine keeps_chgJudge (hW.of rfl) ?_
    exact hx4
  · exact hx4

theorem keeps_wakeOnNow {W : Nat} {a : State} {v0 : State} (hW : Sub 27606985387162255149739023449108101809804435888681546220650096928751616 W) (hv0 : Keeps W a v0) :
    Keeps W a (wakeOnNow v0) := by
  unfold wakeOnNow
  refine Keeps.ite ?_ ?_
  · refine Keeps.upd_25 (hW.bit rfl) (by constructor <;> first | exact fun h => Bool.noConfusion ((hW.bit (by rfl)).symm.trans h) | exact fun _ => rfl | (intro _; split <;> rfl)) ?_
    exact hv0
  · exact hv0

theorem keeps_gaugePersist {W : Nat} {a : State} {v0 : List Sys2Proof.Machine.PWrite} {v1 : State} (hW : Sub 822355008829550381722083356875277564122041241107311316429611019011595159244753915099688298107387908 W) (hv1 : Keeps W a v1) :
    Keeps W a (gaugePersist v0 v1) := by
  unfold gaugePersist
  split
  · refine Keeps.ite ?_ ?_
    · refine keeps_writeTwo (hW.of rfl) ?_
      exact hv1
    · exact hv1
  · exact hv1

theorem keeps_persistCommit {W : Nat} {a : State} {v0 : ℕ} {v1 : Bool} {v2 : List Sys2Proof.Machine.PWrite} {v3 : State} (hW : Sub 822355008829550381722083356875277564122041241107311316480049200048811821010811957985059046951182348 W) (hv3 : Keeps W a v3) :
    Keeps W a (persistCommit v0 v1 v2 v3).2 := by
  unfold persistCommit
  extract_lets -useContext -underBinder x0 x1
  have hx0 : Keeps W a x0 := by
    refine keeps_gaugePersist (hW.of rfl) ?_
    exact hv3
  refine Keeps.ite2 ?_ ?_
  · try dsimp only
    exact hx0
  · refine Keeps.ite2 ?_ ?_
    · try dsimp only
      refine keeps_persistFailed (hW.of rfl) ?_
      exact hx0
    · try dsimp only
      refine keeps_persist (hW.of rfl) ?_
      exact hx0

theorem keeps_applyCommit {W : Nat} {a : State} {v0 : ℕ} {v1 : Bool} {v2 : Bool} {v3 : List Sys2Proof.Machine.PWrite} {v4 : State} (hW : Sub 1062178441158607245558748389071397342051073188837447539485720368395688505333425681293108226765059694 W) (hv4 : Keeps W a v4) :
    Keeps W a (applyCommit v0 v1 v2 v3 v4).2 := by
  unfold applyCommit
  extract_lets -useContext -underBinder x0 x1
  have hx1 : Keeps W a x1 := by
    refine keeps_blocksTake (hW.of rfl) ?_
    refine keeps_wakeOnNow (hW.of rfl) ?_
    refine keeps_strobe (hW.of rfl) ?_
    refine keeps_noteWake (hW.of rfl) ?_
    exact hv4
  refine Keeps.ite2 ?_ ?_
  · refine keeps_persistCommit (hW.of rfl) ?_
    · exact hx1
  · try dsimp only
    exact hx1

theorem keeps_commitCheck {W : Nat} {a : State} {v0 v1 : Bool} {v2 : WaitCommit} {v3 : State} (hW : Sub 1062178441158607245558748389071397342051073188837447539485720368395688505333425681293108226765059694 W)
    (hv3 : Keeps W a v3) : ∀ t, commitCheck v0 v1 v2 v3 = some t → Keeps W a t.2.2 := by
  intro t h
  unfold commitCheck at h
  split at h
  · cases h; exact hv3
  split at h
  · cases h; exact hv3
  split at h
  · cases h; exact hv3
  split at h
  · split at h
    · cases h; exact hv3
    · split at h
      · cases h; exact hv3
      · cases h; exact keeps_applyCommit (hW.of rfl) hv3
  split at h
  · cases h; exact hv3
  · cases h

theorem keeps_settleTxn {W : Nat} {a : State} {v0 : ℕ} {v1 : ℕ} {v2 : Sys2Proof.Machine.PInst} {v3 : State} (hW : Sub 512 W) (hv3 : Keeps W a v3) :
    Keeps W a (settleTxn v0 v1 v2 v3) := by
  unfold settleTxn
  refine keeps_onTenant (hW.of rfl) ?_
  exact hv3

theorem keeps_endCommit {W : Nat} {a : State} {v0 : Sys2Proof.Machine.WaitCommit} {v1 : ℕ} {v2 : Sys2Proof.Machine.PInst} {v3 : State} (hW : Sub 154742504910672534362403392 W) (hv3 : Keeps W a v3) :
    Keeps W a (endCommit v0 v1 v2 v3) := by
  unfold endCommit
  extract_lets -useContext -underBinder x0 x1
  have hx0 : Keeps W a x0 := by
    refine Keeps.ite ?_ ?_
    · exact hv3
    · refine keeps_settleTxn (hW.of rfl) ?_
      exact hv3
  refine Keeps.ite ?_ ?_
  · refine keeps_returnIf (hW.of rfl) ?_
    refine keeps_postOwn (hW.of rfl) ?_
    exact hx0
  · refine keeps_respond (hW.of rfl) ?_
    exact hx0

theorem keeps_commitPollList {W : Nat} {a : State} {v0 v1 : Bool} {v2 : List WaitCommit} {v3 : State} (hW : Sub 1062178441158607245558748389071397342051073188837447539485720368395688505333425681293108226765059694 W)
    (hv3 : Keeps W a v3) : Keeps W a (commitPollList v0 v1 v2 v3) := by
  induction v2 generalizing v3 with
  | nil => exact hv3
  | cons c cs ih =>
    unfold commitPollList
    split
    · exact ih hv3
    · rename_i q
      exact ih (keeps_endCommit (hW.of rfl) (keeps_commitCheck (hW.of rfl) (Keeps.upd_13 (hW.bit rfl) (by constructor <;> first | exact fun h => Bool.noConfusion ((hW.bit (by rfl)).symm.trans h) | exact fun _ => rfl | (intro _; split <;> rfl)) hv3) _ q))

theorem keeps_commitPoll {W : Nat} {a : State} {v0 : Bool} {v1 : Bool} {v2 : State} (hW : Sub 1062178441158607245558748389071397342051073188837447539485720368395688505333425681293108226765059694 W) (hv2 : Keeps W a v2) :
    Keeps W a (commitPoll v0 v1 v2) := by
  unfold commitPoll
  refine Keeps.ite ?_ ?_
  · refine keeps_commitPollList (hW.of rfl) ?_
    exact hv2
  · exact hv2

theorem keeps_commitBegin {W : Nat} {a : State} {v0 : Bool} {v1 : Nat} {v2 : List PWrite} {v3 : Req} {v4 : State}
    (hW : Sub 1062178441158607245558748389071397342051073188837447539485720368395688505333425681293108226765059694 W) (hv4 : Keeps W a v4) : KeepsR W a (commitBegin v0 v1 v2 v3 v4) := by
  unfold commitBegin
  extract_lets +onlyGivenNames close
  have hc : ∀ st i t, Keeps W a t → Keeps W a (close st i t) := fun st i t h => Keeps.ite h (keeps_settleTxn (hW.of rfl) h)
  clear_value close
  split
  · exact .done (hc _ _ _ hv4)
  · refine KeepsR.ite (.done (hc _ _ _ hv4)) ?_
    extract_lets +onlyGivenNames s1 c
    have h1 : Keeps W a s1 := keeps_takeOcc (hW.of rfl) hv4
    clear_value c s1
    split
    · rename_i q
      exact .done (hc _ _ _ (keeps_commitCheck (hW.of rfl) h1 _ q))
    · extract_lets -useContext -underBinder p2 s2 s3
      have h2 : Keeps W a s2 := Keeps.upd_13 (hW.bit rfl) (by constructor <;> first | exact fun h => Bool.noConfusion ((hW.bit (by rfl)).symm.trans h) | exact fun _ => rfl | (intro _; split <;> rfl)) h1
      have h3 : Keeps W a s3 := Keeps.ite h2 (keeps_onTenant (hW.of rfl) h2)
      exact KeepsR.ite (.accepted h3) (.owed h3)

theorem keeps_atBoundary {W : Nat} {a : State} {v0 : State} (hW : Sub 1062178441158607245558748389071397342051073188837447539485720368395688505333425681293108226765059694 W) (hv0 : Keeps W a v0) :
    Keeps W a (atBoundary v0) := by
  unfold atBoundary
  refine Keeps.ite ?_ ?_
  · exact hv0
  · refine keeps_commitPoll (hW.of rfl) ?_
    exact hv0

end Sys2Proof.Machine
end

