-- ==== Sys2Proof/Laws/KeepsTransactions.lean ====
section
/-! SUPPORT. What the operations of Machine/Transactions.lean keep (`Keeps`): one lemma for each. -/

namespace Sys2Proof.Machine

set_option linter.unusedVariables false
set_option linter.unusedTactic false
set_option linter.unreachableTactic false

theorem keeps_useTxn {W : Nat} {a : State} {v0 : ℕ} {v1 : State} (hW : Sub 512 W) (hv1 : Keeps W a v1) :
    Keeps W a (useTxn v0 v1) := by
  unfold useTxn
  refine keeps_onTenant (hW.of rfl) ?_
  exact hv1

theorem keeps_txnCommitBody {W : Nat} {a : State} {v0 : Sys2Proof.Req} {v1 : List Sys2Proof.Byte} {v2 : State} (hW : Sub 1062178441158607245558748389071397342051073188837447539485720368395688505333425681293108226765059694 W) (hv2 : Keeps W a v2) :
    KeepsR W a (txnCommitBody v0 v1 v2) := by
  unfold txnCommitBody
  extract_lets -useContext -underBinder x0
  have hx0 : Keeps W a x0 := by
    refine keeps_useTxn (hW.of rfl) ?_
    exact hv2
  split
  · refine keeps_refuse (hW.of rfl) ?_
    exact hx0
  · refine KeepsR.ite ?_ ?_
    · refine keeps_refuse (hW.of rfl) ?_
      exact hx0
    · refine keeps_commitBegin (hW.of rfl) ?_
      exact hx0

theorem keeps_cmdTxnCommit {W : Nat} {a : State} {v0 : State} (hW : Sub 1062178441158607245558748389071397342051073188837447539485720368395688505333425681293108226765059694 W) :
    KeepsC W a (cmdTxnCommit v0) := by
  unfold cmdTxnCommit
  intro r p t ht
  dsimp only
  refine keeps_txnCommitBody (hW.of rfl) ?_
  exact ht

theorem keeps_txnBeginBody {W : Nat} {a : State} {v0 : Sys2Proof.Req} {v1 : List Sys2Proof.Byte} {v2 : State} (hW : Sub 512 W) (hv2 : Keeps W a v2) :
    KeepsR W a (txnBeginBody v0 v1 v2) := by
  unfold txnBeginBody
  refine KeepsR.ite ?_ ?_
  · refine keeps_refuse (hW.of rfl) ?_
    exact hv2
  · refine KeepsR.done ?_
    refine keeps_onTenant (hW.of rfl) ?_
    exact hv2

theorem keeps_paramGetBody {W : Nat} {a : State} {v0 : Sys2Proof.Req} {v1 : List Sys2Proof.Byte} {v2 : State} (hW : Sub 0 W) (hv2 : Keeps W a v2) :
    KeepsR W a (paramGetBody v0 v1 v2) := by
  unfold paramGetBody
  extract_lets -useContext -underBinder x0
  try clear_value x0
  split
  · refine keeps_refuse (hW.of rfl) ?_
    exact hv2
  · refine KeepsR.done ?_
    exact hv2

theorem keeps_cmdParamGet {W : Nat} {a : State} (hW : Sub 0 W) :
    KeepsC W a (cmdParamGet) := by
  unfold cmdParamGet
  intro r p t ht
  dsimp only
  refine keeps_paramGetBody (hW.of rfl) ?_
  exact ht

theorem keeps_txnRollbackBody {W : Nat} {a : State} {v0 : Sys2Proof.Req} {v1 : List Sys2Proof.Byte} {v2 : State} (hW : Sub 512 W) (hv2 : Keeps W a v2) :
    KeepsR W a (txnRollbackBody v0 v1 v2) := by
  unfold txnRollbackBody
  split
  · refine keeps_refuse (hW.of rfl) ?_
    exact hv2
  · refine KeepsR.ite ?_ ?_
    · refine keeps_refuse (hW.of rfl) ?_
      exact hv2
    · refine KeepsR.done ?_
      refine keeps_onTenant (hW.of rfl) ?_
      exact hv2

theorem keeps_cmdTxnRollback {W : Nat} {a : State} (hW : Sub 512 W) :
    KeepsC W a (cmdTxnRollback) := by
  unfold cmdTxnRollback
  intro r p t ht
  dsimp only
  refine keeps_txnRollbackBody (hW.of rfl) ?_
  exact ht

theorem keeps_stageWrite {W : Nat} {a : State} {v0 : ℕ} {v1 : Sys2Proof.Machine.Txn} {v2 : Sys2Proof.Machine.PWrite} {v3 : State} (hW : Sub 512 W) (hv3 : Keeps W a v3) :
    KeepsR W a (stageWrite v0 v1 v2 v3) := by
  unfold stageWrite
  refine KeepsR.ite ?_ ?_
  · refine keeps_refuse (hW.of rfl) ?_
    exact hv3
  · extract_lets -useContext -underBinder x0
    refine KeepsR.ite ?_ ?_
    · refine keeps_refuse (hW.of rfl) ?_
      exact hv3
    · refine KeepsR.done ?_
      refine keeps_onTenant (hW.of rfl) ?_
      exact hv3

theorem keeps_paramSetBody {W : Nat} {a : State} {v0 : Sys2Proof.Req} {v1 : List Sys2Proof.Byte} {v2 : State} (hW : Sub 1062178441158607245558748389071397342051073188837447539485720368395688505333425681293108226765059694 W) (hv2 : Keeps W a v2) :
    KeepsR W a (paramSetBody v0 v1 v2) := by
  unfold paramSetBody
  extract_lets -useContext -underBinder x0 x1
  try clear_value x1
  have hx0 : Keeps W a x0 := by
    refine keeps_useTxn (hW.of rfl) ?_
    exact hv2
  split
  · refine keeps_refuse (hW.of rfl) ?_
    exact hx0
  · refine KeepsR.ite ?_ ?_
    · refine keeps_refuse (hW.of rfl) ?_
      exact hx0
    · refine KeepsR.ite ?_ ?_
      · refine keeps_refuse (hW.of rfl) ?_
        exact hx0
      · refine KeepsR.ite ?_ ?_
        · refine keeps_refuse (hW.of rfl) ?_
          exact hx0
        · extract_lets -useContext -underBinder x4
          try clear_value x4
          split
          · refine keeps_stageWrite (hW.of rfl) ?_
            exact hx0
          · refine keeps_commitBegin (hW.of rfl) ?_
            exact hx0

theorem keeps_txnStatusBody {W : Nat} {a : State} {v0 : Sys2Proof.Req} {v1 : List Sys2Proof.Byte} {v2 : State} (hW : Sub 512 W) (hv2 : Keeps W a v2) :
    KeepsR W a (txnStatusBody v0 v1 v2) := by
  unfold txnStatusBody
  extract_lets -useContext -underBinder x0
  have hx0 : Keeps W a x0 := by
    refine keeps_useTxn (hW.of rfl) ?_
    exact hv2
  split
  · refine keeps_refuse (hW.of rfl) ?_
    exact hx0
  · refine KeepsR.done ?_
    exact hx0

theorem keeps_cmdTxnStatus {W : Nat} {a : State} (hW : Sub 512 W) :
    KeepsC W a (cmdTxnStatus) := by
  unfold cmdTxnStatus
  intro r p t ht
  dsimp only
  refine keeps_txnStatusBody (hW.of rfl) ?_
  exact ht

theorem keeps_cmdParamSet {W : Nat} {a : State} {v0 : State} (hW : Sub 1062178441158607245558748389071397342051073188837447539485720368395688505333425681293108226765059694 W) :
    KeepsC W a (cmdParamSet v0) := by
  unfold cmdParamSet
  intro r p t ht
  dsimp only
  refine keeps_paramSetBody (hW.of rfl) ?_
  exact ht

theorem keeps_paramInfoBody {W : Nat} {a : State} {v0 : Sys2Proof.Req} {v1 : List Sys2Proof.Byte} {v2 : State} (hW : Sub 0 W) (hv2 : Keeps W a v2) :
    KeepsR W a (paramInfoBody v0 v1 v2) := by
  unfold paramInfoBody
  split
  · refine keeps_refuse (hW.of rfl) ?_
    exact hv2
  · refine KeepsR.done ?_
    exact hv2

theorem keeps_cmdParamInfo {W : Nat} {a : State} (hW : Sub 0 W) :
    KeepsC W a (cmdParamInfo) := by
  unfold cmdParamInfo
  intro r p t ht
  dsimp only
  refine keeps_paramInfoBody (hW.of rfl) ?_
  exact ht

theorem keeps_txnIdleTimeout {W : Nat} {a : State} {v0 : ℕ} {v1 : State} (hW : Sub 512 W) (hv1 : Keeps W a v1) :
    Keeps W a (txnIdleTimeout v0 v1) := by
  unfold txnIdleTimeout
  refine Keeps.ite ?_ ?_
  · refine keeps_onTenant (hW.of rfl) ?_
    exact hv1
  · exact hv1

theorem keeps_cmdTxnBegin {W : Nat} {a : State} (hW : Sub 512 W) :
    KeepsC W a (cmdTxnBegin) := by
  unfold cmdTxnBegin
  intro r p t ht
  dsimp only
  refine keeps_txnBeginBody (hW.of rfl) ?_
  exact ht

theorem keeps_configFactoryBody {W : Nat} {a : State} {v0 : Sys2Proof.Req} {v1 : List Sys2Proof.Byte} {v2 : State} (hW : Sub 50438181037257226585265346226218643346382860 W) (hv2 : Keeps W a v2) :
    KeepsR W a (configFactoryBody v0 v1 v2) := by
  unfold configFactoryBody
  refine KeepsR.ite ?_ ?_
  · refine keeps_refuse (hW.of rfl) ?_
    exact hv2
  · refine KeepsR.ite ?_ ?_
    · refine keeps_refuse (hW.of rfl) ?_
      exact hv2
    · extract_lets -useContext -underBinder x0
      refine KeepsR.ite ?_ ?_
      · refine KeepsR.done ?_
        refine keeps_configRecord (hW.of rfl) ?_
        refine keeps_faWrite (hW.of rfl) ?_
        exact hv2
      · refine KeepsR.done ?_
        refine keeps_configRecord (hW.of rfl) ?_
        refine keeps_writeImage (hW.of rfl) ?_
        exact hv2

theorem keeps_cmdConfigFactory {W : Nat} {a : State} (hW : Sub 50438181037257226585265346226218643346382860 W) :
    KeepsC W a (cmdConfigFactory) := by
  unfold cmdConfigFactory
  intro r p t ht
  dsimp only
  refine keeps_configFactoryBody (hW.of rfl) ?_
  exact ht

end Sys2Proof.Machine
end

