-- ==== Sys2Proof/Laws/KeepsModes.lean ====
section
/-! SUPPORT. What the operations of Machine/Modes.lean keep (`Keeps`): one lemma for each. -/

namespace Sys2Proof.Machine

set_option linter.unusedVariables false
set_option linter.unusedTactic false
set_option linter.unreachableTactic false

theorem keeps_timeSetBody {W : Nat} {a : State} {v0 : Sys2Proof.Req} {v1 : List Sys2Proof.Byte} {v2 : State} (hW : Sub 14939958521755484798330822769760948622910744682536865351308720350980160090366238732 W) (hv2 : Keeps W a v2) :
    KeepsR W a (timeSetBody v0 v1 v2) := by
  unfold timeSetBody
  refine KeepsR.done ?_
  refine keeps_setTime (hW.of rfl) ?_
  exact hv2

theorem keeps_cutVerify {W : Nat} {a : State} {v0 : State} (hW : Sub 39492109375720917633132275138082336705735272565702938119768113152 W) (hv0 : Keeps W a v0) :
    Keeps W a (cutVerify v0) := by
  unfold cutVerify
  extract_lets -useContext -underBinder x0 x1
  refine keeps_countDrop (hW.of rfl) ?_
  refine Keeps.upd_20 (hW.bit rfl) (by constructor <;> first | exact fun h => Bool.noConfusion ((hW.bit (by rfl)).symm.trans h) | exact fun _ => rfl | (intro _; split <;> rfl)) ?_
  exact hv0

theorem keeps_modeRequestBody {W : Nat} {a : State} {v0 : Sys2Proof.Req} {v1 : List Sys2Proof.Byte} {v2 : State} (hW : Sub 216048166358045284433738698354410220672842278321165440225330566492780 W) (hv2 : Keeps W a v2) :
    KeepsR W a (modeRequestBody v0 v1 v2) := by
  unfold modeRequestBody
  split
  · refine keeps_refuse (hW.of rfl) ?_
    exact hv2
  · refine keeps_refuse (hW.of rfl) ?_
    exact hv2
  · refine KeepsR.done ?_
    exact hv2
  · refine KeepsR.done ?_
    refine keeps_engineStart (hW.of rfl) ?_
    exact hv2
  · refine KeepsR.done ?_
    refine keeps_changeMode (hW.of rfl) ?_
    exact hv2
  · refine KeepsR.done ?_
    refine keeps_serviceExitBy (hW.of rfl) ?_
    exact hv2

theorem keeps_cmdModeRequest {W : Nat} {a : State} (hW : Sub 216048166358045284433738698354410220672842278321165440225330566492780 W) :
    KeepsC W a (cmdModeRequest) := by
  unfold cmdModeRequest
  intro r p t ht
  dsimp only
  refine keeps_modeRequestBody (hW.of rfl) ?_
  exact ht

theorem keeps_shipMarker {W : Nat} {a : State} {v0 : State} (hW : Sub 2 W) (hv0 : Keeps W a v0) :
    Keeps W a (shipMarker v0).2 := by
  unfold shipMarker
  split
  · rename_i p0 p1 q2
    have hp3 : Keeps W a p1 := Keeps.ofEq2 q2 (by
      refine keeps_lastResult (hW.of rfl) ?_
      · exact hv0)
    try dsimp only
    exact hp3

theorem keeps_statusBody {W : Nat} {a : State} {v0 : Sys2Proof.Req} {v1 : List Sys2Proof.Byte} {v2 : State} (hW : Sub 2 W) (hv2 : Keeps W a v2) :
    KeepsR W a (statusBody v0 v1 v2) := by
  unfold statusBody
  split
  · rename_i p0 p1 q2
    have hp3 : Keeps W a p1 := Keeps.ofEq2 q2 (by
      refine keeps_lastResult (hW.of rfl) ?_
      · exact hv2)
    split
    · rename_i p4 p5 q6
      have hp7 : Keeps W a p5 := Keeps.ofEq2 q6 (by
        refine keeps_lastResult (hW.of rfl) ?_
        · exact hp3)
      split
      · rename_i p8 p9 q10
        have hp11 : Keeps W a p9 := Keeps.ofEq2 q10 (by
          refine keeps_lastResult (hW.of rfl) ?_
          · exact hp7)
        refine KeepsR.done ?_
        exact hp11

theorem keeps_cmdStatus {W : Nat} {a : State} (hW : Sub 2 W) :
    KeepsC W a (cmdStatus) := by
  unfold cmdStatus
  intro r p t ht
  dsimp only
  refine keeps_statusBody (hW.of rfl) ?_
  exact ht

theorem keeps_shipCommits {W : Nat} {a : State} {v0 : State} (hW : Sub 14939958521755484798330822769760948622910766973524525683428452890438368257714157134 W) (hv0 : Keeps W a v0) :
    Keeps W a (shipCommits v0) := by
  unfold shipCommits
  refine Keeps.ite ?_ ?_
  · extract_lets -useContext -underBinder x0 x1 x2 x3 x4 x5
    have hx0 : Keeps W a x0 := by
      refine keeps_eraseEnds (hW.of rfl) ?_
      exact hv0
    have hx2 : Keeps W a x2 := by
      unfold x2
      try clear_value x0
      refine keeps_heldGo (hW.of rfl) ?_
      refine Keeps.upd_15 (hW.bit rfl) (by constructor <;> first | exact fun h => Bool.noConfusion ((hW.bit (by rfl)).symm.trans h) | exact fun _ => rfl | (intro _; split <;> rfl)) ?_
      exact hx0
    have hx3 : Keeps W a x3 := by
      refine Keeps.ite ?_ ?_
      · refine keeps_closeInterval (hW.of rfl) ?_
        exact hx2
      · exact hx2
    have hx4 : Keeps W a x4 := by
      refine Keeps.ite ?_ ?_
      · refine keeps_fullCheckpoint (hW.of rfl) ?_
        exact hx3
      · exact hx3
    have hx5 : Keeps W a x5.2 := by
      refine keeps_shipMarker (hW.of rfl) ?_
      · exact hx4
    refine Keeps.ite ?_ ?_
    · refine keeps_writeTwo (hW.of rfl) ?_
      exact hx5
    · exact hx4
  · exact hv0

theorem keeps_shipRailDown {W : Nat} {a : State} {v0 : List ℕ} {v1 : State} {v2 : ℕ} (hW : Sub 34234687251295172300587652575686356995646741996662284047833721226006969083910936121793529312671358 W) (hv1 : Keeps W a v1) :
    Keeps W a (shipRailDown v0 v1 v2) := by
  unfold shipRailDown
  extract_lets -useContext -underBinder x0
  have hx0 : Keeps W a x0 := by
    refine keeps_disableRail (hW.of rfl) ?_
    exact hv1
  refine Keeps.ite ?_ ?_
  · refine keeps_toffMax (hW.of rfl) ?_
    exact hx0
  · refine keeps_fellBelow (hW.of rfl) ?_
    exact hx0

theorem keeps_identifyBody {W : Nat} {a : State} {v0 : Sys2Proof.Req} {v1 : List Sys2Proof.Byte} {v2 : State} (hW : Sub 0 W) (hv2 : Keeps W a v2) :
    KeepsR W a (identifyBody v0 v1 v2) := by
  unfold identifyBody
  extract_lets -useContext -underBinder x0
  refine KeepsR.done ?_
  exact hv2

theorem keeps_cmdIdentify {W : Nat} {a : State} (hW : Sub 0 W) :
    KeepsC W a (cmdIdentify) := by
  unfold cmdIdentify
  intro r p t ht
  dsimp only
  refine keeps_identifyBody (hW.of rfl) ?_
  exact ht

theorem keeps_onCore {W : Nat} {a : State} {v0 : CoreBlk → CoreBlk} {v1 : State} (hW : Sub 32 W)
    (hv0 : ∀ c, CoreBlkK W c (v0 c)) (hv1 : Keeps W a v1) : Keeps W a (onCore v0 v1) :=
  Keeps.upd_5 (hW.bit rfl) (hv0 _) hv1

theorem keeps_coreResetBody {W : Nat} {a : State} {v0 : Sys2Proof.Req} {v1 : List Sys2Proof.Byte} {v2 : State} (hW : Sub 562949953421344 W) (hv2 : Keeps W a v2) :
    KeepsR W a (coreResetBody v0 v1 v2) := by
  unfold coreResetBody
  refine KeepsR.doneThen ?_ ?_
  · exact hv2
  · intro t0 ht0
    refine keeps_onCore (hW.of rfl) (fun _ => (by constructor <;> first | exact fun h => Bool.noConfusion ((hW.bit (by rfl)).symm.trans h) | exact fun _ => rfl | (intro _; split <;> rfl))) ?_
    exact ht0

theorem keeps_cmdCoreReset {W : Nat} {a : State} (hW : Sub 562949953421344 W) :
    KeepsC W a (cmdCoreReset) := by
  unfold cmdCoreReset
  intro r p t ht
  dsimp only
  refine keeps_coreResetBody (hW.of rfl) ?_
  exact ht

theorem keeps_postWake {W : Nat} {a : State} {v0 : ℕ} {v1 : ℕ} {v2 : State} (hW : Sub 154742504910672534362403392 W) (hv2 : Keeps W a v2) :
    Keeps W a (postWake v0 v1 v2) := by
  unfold postWake
  refine keeps_post (hW.of rfl) ?_
  exact hv2

theorem keeps_wakeInQualified {W : Nat} {a : State} {v0 : ℕ} {v1 : ℕ} {v2 : State} (hW : Sub 210624583337306315397377886759280465265192954721122114522100544064 W) (hv2 : Keeps W a v2) :
    Keeps W a (wakeInQualified v0 v1 v2) := by
  unfold wakeInQualified
  refine Keeps.ite ?_ ?_
  · refine keeps_autostart (hW.of rfl) ?_
    refine keeps_postWake (hW.of rfl) ?_
    exact hv2
  · exact hv2

theorem keeps_onAon {W : Nat} {a : State} {v0 : Aon → Aon} {v1 : State} (hW : Sub 8 W)
    (hv0 : ∀ c, AonK W c (v0 c)) (hv1 : Keeps W a v1) : Keeps W a (onAon v0 v1) :=
  Keeps.upd_3 (hW.bit rfl) (hv0 _) hv1

theorem keeps_disarm {W : Nat} {a : State} {v0 : State} (hW : Sub 295147905196532695080 W) (hv0 : Keeps W a v0) :
    Keeps W a (disarm v0) := by
  unfold disarm
  extract_lets -useContext -underBinder x0
  have hx0 : Keeps W a x0 := by
    unfold x0
    refine keeps_onAon (hW.of rfl) (fun _ => (by constructor <;> first | exact fun h => Bool.noConfusion ((hW.bit (by rfl)).symm.trans h) | exact fun _ => rfl | (intro _; split <;> rfl))) ?_
    exact hv0
  try clear_value x0
  refine Keeps.ite ?_ ?_
  · refine keeps_onCore (hW.of rfl) (fun _ => (by constructor <;> first | exact fun h => Bool.noConfusion ((hW.bit (by rfl)).symm.trans h) | exact fun _ => rfl | (intro _; split <;> rfl))) ?_
    exact hx0
  · exact hx0

theorem keeps_shipArmBody {W : Nat} {a : State} {v0 : Sys2Proof.Req} {v1 : List Sys2Proof.Byte} {v2 : State} (hW : Sub 2066035336272649650216 W) (hv2 : Keeps W a v2) :
    KeepsR W a (shipArmBody v0 v1 v2) := by
  unfold shipArmBody
  refine KeepsR.ite ?_ ?_
  · refine KeepsR.ite ?_ ?_
    · refine KeepsR.done ?_
      refine keeps_disarm (hW.of rfl) ?_
      exact hv2
    · refine KeepsR.done ?_
      exact hv2
  · refine KeepsR.ite ?_ ?_
    · refine KeepsR.done ?_
      exact hv2
    · extract_lets -useContext -underBinder x0
      have hx0 : Keeps W a x0 := by
        unfold x0
        refine keeps_onCore (hW.of rfl) (fun _ => (by constructor <;> first | exact fun h => Bool.noConfusion ((hW.bit (by rfl)).symm.trans h) | exact fun _ => rfl | (intro _; split <;> rfl))) ?_
        exact hv2
      try clear_value x0
      refine KeepsR.ite ?_ ?_
      · refine KeepsR.done ?_
        refine keeps_onAon (hW.of rfl) (fun _ => (by constructor <;> first | exact fun h => Bool.noConfusion ((hW.bit (by rfl)).symm.trans h) | exact fun _ => rfl | (intro _; split <;> rfl))) ?_
        exact hx0
      · refine KeepsR.done ?_
        refine keeps_onCore (hW.of rfl) (fun _ => (by constructor <;> first | exact fun h => Bool.noConfusion ((hW.bit (by rfl)).symm.trans h) | exact fun _ => rfl | (intro _; split <;> rfl))) ?_
        exact hx0

theorem keeps_cmdShipArm {W : Nat} {a : State} (hW : Sub 2066035336272649650216 W) :
    KeepsC W a (cmdShipArm) := by
  unfold cmdShipArm
  intro r p t ht
  dsimp only
  refine keeps_shipArmBody (hW.of rfl) ?_
  exact ht

theorem keeps_cutFrames {W : Nat} {a : State} {v0 : State} (hW : Sub 302772838547101911756514329590552492916978141781489367390514853440 W) (hv0 : Keeps W a v0) :
    Keeps W a (cutFrames v0) := by
  unfold cutFrames
  refine Keeps.foldl (fun t0 y1 ht0 => ?_) ?_
  · refine keeps_frameCut (hW.of rfl) ?_
    exact ht0
  · exact hv0

theorem keeps_stopConverters {W : Nat} {a : State} {v0 : State} (hW : Sub 302772838547113884377927344347258417503127753571986388789907961408 W) (hv0 : Keeps W a v0) :
    Keeps W a (stopConverters v0) := by
  unfold stopConverters
  refine keeps_onConv (hW.of rfl) ?_
  refine keeps_onConv (hW.of rfl) ?_
  refine keeps_cutVerify (hW.of rfl) ?_
  refine keeps_cutFrames (hW.of rfl) ?_
  refine keeps_catchUp (hW.of rfl) ?_
  exact hv0

theorem keeps_supplyOff {W : Nat} {a : State} {v0 : State} (hW : Sub 215015495249069204213514458934570671621004821043708822311635136783677417494344727120016864334052587239016 W) (hv0 : Keeps W a v0) :
    Keeps W a (supplyOff v0) := by
  unfold supplyOff
  extract_lets -useContext -underBinder x0 x1 x2 x3 x4 x5 x6
  have hx0 : Keeps W a x0 := by
    refine keeps_pipeStop (hW.of rfl) ?_
    refine keeps_stopConverters (hW.of rfl) ?_
    refine keeps_shipStop (hW.of rfl) ?_
    refine keeps_leaveService (hW.of rfl) ?_
    refine keeps_outsOff (hW.of rfl) ?_
    exact hv0
  try clear_value x0
  refine Keeps.upd_3_5_6_14_18_19_22_25_28 (hW.bit rfl) (hW.bit rfl) (hW.bit rfl) (hW.bit rfl) (hW.bit rfl) (hW.bit rfl) (hW.bit rfl) (hW.bit rfl) (hW.bit rfl) (by constructor <;> first | exact fun h => Bool.noConfusion ((hW.bit (by rfl)).symm.trans h) | exact fun _ => rfl | (intro _; split <;> rfl)) (by constructor <;> first | exact fun h => Bool.noConfusion ((hW.bit (by rfl)).symm.trans h) | exact fun _ => rfl | (intro _; split <;> rfl)) (by constructor <;> first | exact fun h => Bool.noConfusion ((hW.bit (by rfl)).symm.trans h) | exact fun _ => rfl | (intro _; split <;> rfl)) (by constructor <;> first | exact fun h => Bool.noConfusion ((hW.bit (by rfl)).symm.trans h) | exact fun _ => rfl | (intro _; split <;> rfl)) (by constructor <;> first | exact fun h => Bool.noConfusion ((hW.bit (by rfl)).symm.trans h) | exact fun _ => rfl | (intro _; split <;> rfl)) (by constructor <;> first | exact fun h => Bool.noConfusion ((hW.bit (by rfl)).symm.trans h) | exact fun _ => rfl | (intro _; split <;> rfl)) (by constructor <;> first | exact fun h => Bool.noConfusion ((hW.bit (by rfl)).symm.trans h) | exact fun _ => rfl | (intro _; split <;> rfl)) ?_
  exact hx0

theorem keeps_shipEntryFinish {W : Nat} {a : State} {v0 : List ℕ} {v1 : State} (hW : Sub 215015529483756455508699802343154917682287474420158281487047685080192318522509949235976568240403822671486 W) (hv1 : Keeps W a v1) :
    Keeps W a (shipEntryFinish v0 v1) := by
  unfold shipEntryFinish
  refine Keeps.ite ?_ ?_
  · refine keeps_supplyOff (hW.of rfl) ?_
    refine keeps_shipCommits (hW.of rfl) ?_
    refine keeps_setPoint (hW.of rfl) ?_
    refine Keeps.foldl (fun t0 y1 ht0 => ?_) ?_
    · refine keeps_shipRailDown (hW.of rfl) ?_
      exact ht0
    · exact hv1
  · exact hv1

theorem keeps_forcedPowerDown {W : Nat} {a : State} {v0 : ℕ} {v1 : State} (hW : Sub 216048166358045284433738698354410220672842278321165440225330566492780 W) (hv1 : Keeps W a v1) :
    Keeps W a (forcedPowerDown v0 v1) := by
  unfold forcedPowerDown
  refine Keeps.ite ?_ ?_
  · exact hv1
  · split
    · refine keeps_startTbl1 (hW.of rfl) ?_
      exact hv1
    · refine keeps_beginServiceExit (hW.of rfl) ?_
      exact hv1
    · refine Keeps.ite ?_ ?_
      · refine keeps_startTbl1 (hW.of rfl) ?_
        exact hv1
      · exact hv1
    · exact hv1

theorem keeps_stopStarts {W : Nat} {a : State} {v0 : State} (hW : Sub 210624583337305979183493411401723204126883703442451827111243821632 W) (hv0 : Keeps W a v0) :
    Keeps W a (stopStarts v0) := by
  unfold stopStarts
  refine keeps_cancelRetries (hW.of rfl) ?_
  refine Keeps.foldl (fun t0 y1 ht0 => ?_) ?_
  · refine keeps_cancelJoin (hW.of rfl) ?_
    exact ht0
  · refine Keeps.upd_19 (hW.bit rfl) (by constructor <;> first | exact fun h => Bool.noConfusion ((hW.bit (by rfl)).symm.trans h) | exact fun _ => rfl | (intro _; split <;> rfl)) ?_
    exact hv0

theorem keeps_shipEntryBegin {W : Nat} {a : State} {v0 : State} (hW : Sub 216087812934340497777113657360559529215624401092586463050424551175790 W) (hv0 : Keeps W a v0) :
    Keeps W a (shipEntryBegin v0) := by
  unfold shipEntryBegin
  extract_lets -useContext -underBinder x0 x1 x2 x3 x4 x5
  have hx0 : Keeps W a x0 := by
    refine keeps_shipCheck (hW.of rfl) ?_
    exact hv0
  have hx1 : Keeps W a x1.2 := by
    refine keeps_drawFree (hW.of rfl) ?_
    · exact hx0
  have hx2 : Keeps W a x2 := by
    refine keeps_post (hW.of rfl) ?_
    exact hx1
  have hx3 : Keeps W a x3 := by
    unfold x3
    try clear_value x0
    try clear_value x1
    try clear_value x2
    refine keeps_onAon (hW.of rfl) (fun _ => (by constructor <;> first | exact fun h => Bool.noConfusion ((hW.bit (by rfl)).symm.trans h) | exact fun _ => rfl | (intro _; split <;> rfl))) ?_
    refine keeps_latchWakeVin (hW.of rfl) ?_
    exact hx2
  have hx4 : Keeps W a x4 := by
    unfold x4
    try clear_value x0
    try clear_value x1
    try clear_value x2
    try clear_value x3
    refine keeps_shipStop (hW.of rfl) ?_
    refine keeps_outsOff (hW.of rfl) ?_
    refine keeps_stopStarts (hW.of rfl) ?_
    refine keeps_onCore (hW.of rfl) (fun _ => (by constructor <;> first | exact fun h => Bool.noConfusion ((hW.bit (by rfl)).symm.trans h) | exact fun _ => rfl | (intro _; split <;> rfl))) ?_
    exact hx3
  have hx5 : Keeps W a x5 := by
    refine Keeps.ite ?_ ?_
    · exact hx4
    · refine keeps_endRun (hW.of rfl) ?_
      exact hx4
  refine Keeps.ite ?_ ?_
  · refine Keeps.ite ?_ ?_
    · refine keeps_engineStart (hW.of rfl) ?_
      exact hx5
    · exact hx5
  · exact hx0

theorem keeps_pwrbtnPress {W : Nat} {a : State} {v0 : Bool} {v1 : State} (hW : Sub 210624583337306315397377886759280465265192955016270019752992977512 W) (hv1 : Keeps W a v1) :
    Keeps W a (pwrbtnPress v0 v1) := by
  unfold pwrbtnPress
  refine Keeps.ite ?_ ?_
  · extract_lets -useContext -underBinder x0
    have hx0 : Keeps W a x0 := by
      unfold x0
      refine keeps_onAon (hW.of rfl) (fun _ => (by constructor <;> first | exact fun h => Bool.noConfusion ((hW.bit (by rfl)).symm.trans h) | exact fun _ => rfl | (intro _; split <;> rfl))) ?_
      exact hv1
    refine Keeps.ite ?_ ?_
    · exact hx0
    · refine keeps_autostart (hW.of rfl) ?_
      refine keeps_postWake (hW.of rfl) ?_
      refine keeps_disarm (hW.of rfl) ?_
      refine keeps_takeOcc (hW.of rfl) ?_
      exact hx0
  · exact hv1

theorem keeps_cmdTimeSet {W : Nat} {a : State} (hW : Sub 14939958521755484798330822769760948622910744682536865351308720350980160090366238732 W) :
    KeepsC W a (cmdTimeSet) := by
  unfold cmdTimeSet
  intro r p t ht
  dsimp only
  refine keeps_timeSetBody (hW.of rfl) ?_
  exact ht

theorem keeps_cmdModeRequestFor {W : Nat} {a : State} {v0 : Bytes} (hW : Sub 216048166358045284433738698354410220672842278321165440225330566492780 W) : KeepsC W a (cmdModeRequestFor v0) := by
  unfold cmdModeRequestFor
  split <;> exact keeps_cmdModeRequest (hW.of rfl)

end Sys2Proof.Machine
end

