-- ==== Sys2Proof/Laws/KeepsResets.lean ====
section
/-! SUPPORT. What the operations of Machine/Resets.lean keep (`Keeps`): one lemma for each. -/

namespace Sys2Proof.Machine

set_option linter.unusedVariables false
set_option linter.unusedTactic false
set_option linter.unreachableTactic false

theorem keeps_resetBridges {W : Nat} {a : State} {v0 : State} (hW : Sub 215679573337205118357336120696157045389097309820598035617705967485376 W) (hv0 : Keeps W a v0) :
    Keeps W a (resetBridges v0) := by
  unfold resetBridges
  extract_lets -useContext -underBinder x0
  have hx0 : Keeps W a x0 := by
    refine keeps_loseHeld (hW.of rfl) ?_
    exact hv0
  try clear_value x0
  refine Keeps.upd_6_7_8 (hW.bit rfl) (hW.bit rfl) (hW.bit rfl) (by constructor <;> first | exact fun h => Bool.noConfusion ((hW.bit (by rfl)).symm.trans h) | exact fun _ => rfl | (intro _; split <;> rfl)) (by constructor <;> first | exact fun h => Bool.noConfusion ((hW.bit (by rfl)).symm.trans h) | exact fun _ => rfl | (intro _; split <;> rfl)) ?_
  exact hx0

theorem keeps_por {W : Nat} {a : State} {v0 : StartCause} {v1 : State} (hW : Sub 18347988927920572092886567162416695526372519913346248989900710715095383008707878464560148424881005492436990 W) (hv1 : Keeps W a v1) :
    Keeps W a (por v0 v1) := by
  unfold por
  refine keeps_writeBoot (hW.of rfl) ?_
  constructor
  · exact hv1.pending
  · exact hv1.free_le
  · exact fun h => memFilter_wf (hv1.memOk h) _
  all_goals first
    | exact fun h => Bool.noConfusion ((hW.bit (by rfl)).symm.trans h)
    | (constructor <;> exact fun h => Bool.noConfusion ((hW.bit (by rfl)).symm.trans h))

theorem keeps_porFrom {W : Nat} {a : State} {v0 : Sys2Proof.Machine.StartCause} {v1 : ℕ} {v2 : State} (hW : Sub 18347988927920572092886567162416695526372519913346248989900710715095383008707878464560148424881005492436990 W) (hv2 : Keeps W a v2) :
    Keeps W a (porFrom v0 v1 v2) := by
  unfold porFrom
  extract_lets -useContext -underBinder x0 x1
  have hx0 : Keeps W a x0 := by
    refine keeps_por (hW.of rfl) ?_
    exact hv2
  try clear_value x0
  refine Keeps.upd_25 (hW.bit rfl) (by constructor <;> first | exact fun h => Bool.noConfusion ((hW.bit (by rfl)).symm.trans h) | exact fun _ => rfl | (intro _; split <;> rfl)) ?_
  exact hx0

theorem keeps_clockBackstop {W : Nat} {a : State} {v0 : State} (hW : Sub 18347988927920572092886567162416695526372519913346248989900710715095383008707878464560148424881005492436990 W) (hv0 : Keeps W a v0) :
    Keeps W a (clockBackstop v0) := by
  unfold clockBackstop
  refine Keeps.ite ?_ ?_
  · extract_lets -useContext -underBinder x0 x5
    have hx0 : Keeps W a x0 := by
      unfold x0
      split
      · refine keeps_porFrom (hW.of rfl) ?_
        exact hv0
      · extract_lets -useContext -underBinder x3 x4
        have hx3 : Keeps W a x3 := by
          refine keeps_por (hW.of rfl) ?_
          exact hv0
        try clear_value x3
        refine Keeps.upd_25 (hW.bit rfl) (by constructor <;> first | exact fun h => Bool.noConfusion ((hW.bit (by rfl)).symm.trans h) | exact fun _ => rfl | (intro _; split <;> rfl)) ?_
        exact hx3
    try clear_value x0
    refine Keeps.upd_5 (hW.bit rfl) (by constructor <;> first | exact fun h => Bool.noConfusion ((hW.bit (by rfl)).symm.trans h) | exact fun _ => rfl | (intro _; split <;> rfl)) ?_
    exact hx0
  · exact hv0

theorem keeps_recallTable {W : Nat} {a : State} {v0 : State} {v1 : ℕ × Sys2Proof.Bytes} (hW : Sub 91343852333181432447151423930465941923654279168 W) (hv0 : Keeps W a v0) :
    Keeps W a (recallTable v0 v1) := by
  unfold recallTable
  split
  · refine Keeps.ite ?_ ?_
    · refine Keeps.upd_19 (hW.bit rfl) (by constructor <;> first | exact fun h => Bool.noConfusion ((hW.bit (by rfl)).symm.trans h) | exact fun _ => rfl | (intro _; split <;> rfl)) ?_
      exact hv0
    · exact hv0
  · refine Keeps.upd_13 (hW.bit rfl) (by constructor <;> first | exact fun h => Bool.noConfusion ((hW.bit (by rfl)).symm.trans h) | exact fun _ => rfl | (intro _; split <;> rfl)) ?_
    exact hv0

theorem keeps_recallConfig {W : Nat} {a : State} {v0 : State} (hW : Sub 91394290514218689683330724581153857697468866572 W) (hv0 : Keeps W a v0) :
    Keeps W a (recallConfig v0) := by
  unfold recallConfig
  extract_lets -useContext -underBinder x0 x1 x2
  have hx1 : Keeps W a x1 := by
    unfold x1
    refine Keeps.upd_13 (hW.bit rfl) (by constructor <;> first | exact fun h => Bool.noConfusion ((hW.bit (by rfl)).symm.trans h) | exact fun _ => rfl | (intro _; split <;> rfl)) ?_
    exact hv0
  have hx2 : Keeps W a x2 := by
    refine Keeps.foldl (fun t3 y4 ht3 => ?_) ?_
    · refine keeps_recallTable (hW.of rfl) ?_
      exact ht3
    · exact hx1
  refine Keeps.ite ?_ ?_
  · exact hx2
  · refine keeps_configRecord (hW.of rfl) ?_
    exact hx2

theorem keeps_waitFirst {W : Nat} {a : State} {v0 : Sys2Proof.Machine.LogRec} {v1 : State} (hW : Sub 87112285931760246646623899502532662198272 W) (hv1 : Keeps W a v1) :
    Keeps W a (waitFirst v0 v1) := by
  unfold waitFirst
  extract_lets -useContext -underBinder x0 x1
  refine Keeps.upd_16 (hW.bit rfl) (by constructor <;> first | exact fun h => Bool.noConfusion ((hW.bit (by rfl)).symm.trans h) | exact fun _ => rfl | (intro _; split <;> rfl)) ?_
  exact hv1

theorem keeps_appendNow {W : Nat} {a : State} {v0 : Nat} {v1 : Bytes} {v2 : State} (hW : Sub 50438181037257216681745031943176444153389068 W) (hv2 : Keeps W a v2) :
    Keeps W a (appendNow v0 v1 v2) := by
  unfold appendNow
  extract_lets x0
  split
  · rename_i q
    exact keeps_appendRec (hW.of rfl) hv2 _ q
  · exact keeps_waitFirst (hW.of rfl) hv2

theorem keeps_bootRecord {W : Nat} {a : State} {v0 : State} (hW : Sub 50438181037257216681745031943176444153389070 W) (hv0 : Keeps W a v0) :
    Keeps W a (bootRecord v0) := by
  unfold bootRecord
  extract_lets -useContext -underBinder x0
  have hx0 : Keeps W a x0.2 := by
    refine Keeps.ite2 ?_ ?_
    · refine keeps_drawFree (hW.of rfl) ?_
      · exact hv0
    · try dsimp only
      exact hv0
  refine keeps_appendNow (hW.of rfl) ?_
  exact hx0

theorem keeps_refreshSector {W : Nat} {a : State} {v0 : State} {v1 : ℕ} (hW : Sub 3450873173395281893717377931138512726225554486085193277581262128676868 W) (hv0 : Keeps W a v0) :
    Keeps W a (refreshSector v0 v1) := by
  unfold refreshSector
  extract_lets -useContext -underBinder x0 x1
  refine keeps_programBytes (hW.of rfl) ?_
  refine keeps_clearBytes (hW.of rfl) ?_
  refine keeps_bankBytes (hW.of rfl) ?_
  exact hv0

theorem keeps_emptyQueue {W : Nat} {a : State} {v0 : State} {v1 : ℕ} (hW : Sub 512 W) (hv0 : Keeps W a v0) :
    Keeps W a (emptyQueue v0 v1) := by
  unfold emptyQueue
  refine keeps_onTenant (hW.of rfl) ?_
  exact hv0

theorem keeps_bistFail {W : Nat} {a : State} {v0 : State} {v1 : ℕ} (hW : Sub 218615307934772124422363036863369085037128608398266618049119664436846 W) (hv0 : Keeps W a v0) :
    Keeps W a (bistFail v0 v1) := by
  unfold bistFail
  extract_lets -useContext -underBinder x0
  have hx0 : Keeps W a x0 := by
    refine keeps_onBank (hW.of rfl) ?_
    exact hv0
  refine keeps_raiseGlobal (hW.of rfl) ?_
  exact hx0

theorem keeps_bistOutcome {W : Nat} {a : State} {v0 : State} {v1 : ℕ × List ℕ} (hW : Sub 218615307934772124422363036863369085037128608398266618049119664436846 W) (hv0 : Keeps W a v0) :
    Keeps W a (bistOutcome v0 v1) := by
  unfold bistOutcome
  refine Keeps.ite ?_ ?_
  · extract_lets -useContext -underBinder x0
    have hx0 : Keeps W a x0 := by
      refine keeps_bistMap (hW.of rfl) ?_
      exact hv0
    refine Keeps.ite ?_ ?_
    · exact hx0
    · refine keeps_bistFail (hW.of rfl) ?_
      exact hx0
  · exact hv0

theorem keeps_atExpiry {W : Nat} {a : State} {v0 : State} (hW : Sub 549755813904 W) (hv0 : Keeps W a v0) :
    Keeps W a (atExpiry v0) := by
  unfold atExpiry
  refine Keeps.upd_4 (hW.bit rfl) (by constructor <;> first | exact fun h => Bool.noConfusion ((hW.bit (by rfl)).symm.trans h) | exact fun _ => rfl | (intro _; split <;> rfl)) ?_
  exact hv0

theorem keeps_countReset {W : Nat} {a : State} {v0 : Sys2Proof.Machine.StartCause} {v1 : State} (hW : Sub 40564819207303340847894502588420 W) (hv1 : Keeps W a v1) :
    Keeps W a (countReset v0 v1) := by
  unfold countReset
  extract_lets -useContext -underBinder x0
  refine keeps_writeBoot (hW.of rfl) ?_
  exact hv1

theorem keeps_abortOps {W : Nat} {a : State} {v0 : State} (hW : Sub 83076908347624775495835662717875776 W) (hv0 : Keeps W a v0) :
    Keeps W a (abortOps v0) := by
  unfold abortOps
  extract_lets -useContext -underBinder x0 x1 x2 x3
  have hx3 : Keeps W a x3 := by
    unfold x3
    refine Keeps.upd_10_14_15 (hW.bit rfl) (hW.bit rfl) (hW.bit rfl) (by constructor <;> first | exact fun h => Bool.noConfusion ((hW.bit (by rfl)).symm.trans h) | exact fun _ => rfl | (intro _; split <;> rfl)) (by constructor <;> first | exact fun h => Bool.noConfusion ((hW.bit (by rfl)).symm.trans h) | exact fun _ => rfl | (intro _; split <;> rfl)) ?_
    exact hv0
  refine Keeps.foldl (fun t4 y5 ht4 => ?_) ?_
  · refine keeps_endOp (hW.of rfl) ?_
    exact ht4
  · exact hx3

theorem keeps_abortCommits {W : Nat} {a : State} {v0 : State} (hW : Sub 773712524553362671811965504 W) (hv0 : Keeps W a v0) :
    Keeps W a (abortCommits v0) := by
  unfold abortCommits
  extract_lets -useContext -underBinder x0 x1
  refine Keeps.foldl (fun t2 y3 ht2 => ?_) ?_
  · refine Keeps.ite ?_ ?_
    · refine keeps_postOwn (hW.of rfl) ?_
      exact ht2
    · exact ht2
  · refine Keeps.upd_13 (hW.bit rfl) (by constructor <;> first | exact fun h => Bool.noConfusion ((hW.bit (by rfl)).symm.trans h) | exact fun _ => rfl | (intro _; split <;> rfl)) ?_
    exact hv0

theorem keeps_closeAll {W : Nat} {a : State} {v0 : State} (hW : Sub 216048166358045284433738698354410220672922125453699347253061560006252 W) (hv0 : Keeps W a v0) :
    Keeps W a (closeAll v0) := by
  unfold closeAll
  extract_lets -useContext -underBinder x0 x3
  have hx0 : Keeps W a x0 := by
    refine Keeps.foldl (fun t1 y2 ht1 => ?_) ?_
    · refine keeps_closeSession (hW.of rfl) ?_
      exact ht1
    · exact hv0
  try clear_value x0
  refine Keeps.upd_9_14 (hW.bit rfl) (hW.bit rfl) (by constructor <;> first | exact fun h => Bool.noConfusion ((hW.bit (by rfl)).symm.trans h) | exact fun _ => rfl | (intro _; split <;> rfl)) ?_
  exact hx0

theorem keeps_coreResetStart {W : Nat} {a : State} {v0 : Sys2Proof.Machine.StartCause} {v1 : State} (hW : Sub 24078409584691798969727779666225119814900298177010597908309999799737610921427479602135020 W) (hv1 : Keeps W a v1) :
    Keeps W a (coreResetStart v0 v1) := by
  unfold coreResetStart
  extract_lets -useContext -underBinder x0 x1 x2 x3 x4
  have hx0 : Keeps W a x0 := by
    refine keeps_countReset (hW.of rfl) ?_
    exact hv1
  have hx1 : Keeps W a x1 := by
    unfold x1
    try clear_value x0
    refine keeps_onCore (hW.of rfl) (fun _ => (by constructor <;> first | exact fun h => Bool.noConfusion ((hW.bit (by rfl)).symm.trans h) | exact fun _ => rfl | (intro _; split <;> rfl))) ?_
    exact hx0
  have hx2 : Keeps W a x2 := by
    refine keeps_beginServiceExit (hW.of rfl) ?_
    exact hx1
  have hx3 : Keeps W a x3 := by
    refine Keeps.upd_11 (hW.bit rfl) ?_
    exact hx2
  have hx4 : Keeps W a x4 := by
    refine keeps_abortOps (hW.of rfl) ?_
    refine keeps_abortCommits (hW.of rfl) ?_
    refine keeps_closeAll (hW.of rfl) ?_
    refine keeps_calReset (hW.of rfl) ?_
    exact hx3
  refine keeps_chgCoreReset (hW.of rfl) ?_
  refine keeps_fumaroleReset (hW.of rfl) ?_
  refine keeps_tagsDrop (hW.of rfl) ?_
  refine keeps_resetBridges (hW.of rfl) ?_
  exact hx4

theorem keeps_watchdog {W : Nat} {a : State} {v0 : State} (hW : Sub 24078409584691798969730307161225551441548470559788069269967911376709609086181866452549630 W) (hv0 : Keeps W a v0) :
    Keeps W a (watchdog v0) := by
  unfold watchdog
  refine Keeps.ite ?_ ?_
  · extract_lets -useContext -underBinder x0 x1 x2
    have hx0 : Keeps W a x0 := by
      refine keeps_atExpiry (hW.of rfl) ?_
      exact hv0
    have hx2 : Keeps W a x2 := by
      refine keeps_latchNow (hW.of rfl) ?_
      exact hx0
    refine keeps_respondTo (hW.of rfl) ?_
    refine Keeps.ite ?_ ?_
    · refine keeps_coreResetStart (hW.of rfl) ?_
      exact hx2
    · exact hx2
  · exact hv0

theorem keeps_eccAll {W : Nat} {a : State} {v0 : List ℤ} {v1 : ℕ → Bool} {v2 : State} (hW : Sub 218615307934772124422363036863369085067552222803744123685040541365870 W) (hv2 : Keeps W a v2) :
    Keeps W a (eccAll v0 v1 v2) := by
  unfold eccAll
  extract_lets -useContext -underBinder x0
  have hx0 : Keeps W a x0.2 := by
    refine keeps_eccFound (hW.of rfl) ?_
    · exact hv2
  refine Keeps.foldl (fun t1 y2 ht1 => ?_) ?_
  · refine keeps_uncorrectable (hW.of rfl) ?_
    exact ht1
  · exact hx0

theorem keeps_eccReady {W : Nat} {a : State} {v0 : List ℤ} {v1 : State} (hW : Sub 218615307934772124422363036863369085067552222803744123685040541365870 W) (hv1 : Keeps W a v1) :
    Keeps W a (eccReady v0 v1) := by
  unfold eccReady
  refine keeps_eccAll (hW.of rfl) ?_
  exact hv1

theorem keeps_shipPayload {W : Nat} {a : State} {v0 : State} (hW : Sub 2 W) (hv0 : Keeps W a v0) :
    Keeps W a (shipPayload v0).2 := by
  unfold shipPayload
  extract_lets -useContext -underBinder x0 x1 x2 x3 x4 x5
  try clear_value x0
  try clear_value x1
  try clear_value x2
  try clear_value x3
  try clear_value x4
  try clear_value x5
  split
  · rename_i p6 p7 q8
    have hp9 : Keeps W a p7 := Keeps.ofEq2 q8 (by
      refine keeps_orFree (hW.of rfl) ?_
      · exact hv0)
    split
    · rename_i p10 p11 q12
      have hp13 : Keeps W a p11 := Keeps.ofEq2 q12 (by
        refine keeps_orFree (hW.of rfl) ?_
        · exact hp9)
      split
      · rename_i p14 p15 q16
        have hp17 : Keeps W a p15 := Keeps.ofEq2 q16 (by
          refine keeps_orFree (hW.of rfl) ?_
          · exact hp13)
        split
        · rename_i p18 p19 q20
          have hp21 : Keeps W a p19 := Keeps.ofEq2 q20 (by
            refine keeps_orFree (hW.of rfl) ?_
            · exact hp17)
          try dsimp only
          exact hp21

theorem keeps_shipRecord {W : Nat} {a : State} {v0 : State} (hW : Sub 50438181037257216681745031943176444153389070 W) (hv0 : Keeps W a v0) :
    Keeps W a (shipRecord v0).2 := by
  unfold shipRecord
  refine Keeps.ite2 ?_ ?_
  · extract_lets -useContext -underBinder x0
    have hx0 : Keeps W a x0.2 := by
      refine keeps_shipPayload (hW.of rfl) ?_
      · exact hv0
    try dsimp only
    refine keeps_appendNow (hW.of rfl) ?_
    exact hx0
  · try dsimp only
    exact hv0

theorem keeps_restoreOnce {W : Nat} {a : State} {v0 : Option (Bool × Bool)} {v1 : State} (hW : Sub 33374797436268725739198616606695573784835916225703163731255904843537767917687305215926360830542 W) (hv1 : Keeps W a v1) :
    Keeps W a (restoreOnce v0 v1) := by
  unfold restoreOnce
  refine Keeps.ite ?_ ?_
  · exact hv1
  · refine keeps_onInp (hW.of rfl) (fun _ => (by constructor <;> first | exact fun h => Bool.noConfusion ((hW.bit (by rfl)).symm.trans h) | exact fun _ => rfl | (intro _; split <;> rfl))) ?_
    refine keeps_restoreLedgers (hW.of rfl) ?_
    exact hv1

theorem keeps_nvReady {W : Nat} {a : State} {v0 : List ℤ} {v1 : State} (hW : Sub 71671830781820609086271340199045490008425333694258535094320359145968042401126344637220456359613188503150 W) (hv1 : Keeps W a v1) :
    Keeps W a (nvReady v0 v1) := by
  unfold nvReady
  refine Keeps.ite ?_ ?_
  · extract_lets -useContext -underBinder x0 x1 x2 x3 x4 x5 x6 x7 x8 x9
    have hx0 : Keeps W a x0 := by
      refine keeps_bootScan (hW.of rfl) ?_
      refine keeps_eccReady (hW.of rfl) ?_
      refine keeps_logErased (hW.of rfl) ?_
      exact hv1
    have hx1 : Keeps W a x1 := by
      refine keeps_setIrqAll (hW.of rfl) ?_
      refine keeps_post (hW.of rfl) ?_
      exact hx0
    have hx2 : Keeps W a x2 := by
      refine keeps_bootRecord (hW.of rfl) ?_
      refine keeps_restoreCounts (hW.of rfl) ?_
      exact hx1
    have hx5 : Keeps W a x5.2 := by
      refine keeps_shipRecord (hW.of rfl) ?_
      · exact hx2
    have hx7 : Keeps W a x7 := by
      refine keeps_restoreOnce (hW.of rfl) ?_
      exact hx5
    have hx9 : Keeps W a x9 := by
      unfold x9
      try clear_value x0
      try clear_value x1
      try clear_value x2
      try clear_value x5
      try clear_value x7
      refine keeps_flushLog (hW.of rfl) ?_
      refine keeps_onCore (hW.of rfl) (fun _ => (by constructor <;> first | exact fun h => Bool.noConfusion ((hW.bit (by rfl)).symm.trans h) | exact fun _ => rfl | (intro _; split <;> rfl))) ?_
      exact hx7
    refine keeps_checkpointDue (hW.of rfl) ?_
    refine keeps_gaugeRestore (hW.of rfl) ?_
    refine keeps_sigFlush (hW.of rfl) ?_
    refine keeps_flushMissed (hW.of rfl) ?_
    refine keeps_resolveMarker (hW.of rfl) ?_
    exact hx9
  · exact hv1

theorem keeps_autoSequences {W : Nat} {a : State} {v0 : State} (hW : Sub 6255958210242512548954785276767297902667604540029799246984716908246596 W) (hv0 : Keeps W a v0) :
    Keeps W a (autoSequences v0) := by
  unfold autoSequences
  refine Keeps.foldl (fun t0 y1 ht0 => ?_) ?_
  · extract_lets -useContext -underBinder x2
    refine Keeps.ite ?_ ?_
    · refine keeps_startSeq (hW.of rfl) ?_
      exact ht0
    · exact ht0
  · exact hv0

theorem keeps_holdOff {W : Nat} {a : State} {v0 : State} (hW : Sub 210624583337114373395836055367340864637790190801098222508630605824 W) (hv0 : Keeps W a v0) :
    Keeps W a (holdOff v0) := by
  unfold holdOff
  refine Keeps.foldl (fun t0 y1 ht0 => ?_) ?_
  · refine keeps_setSt (hW.of rfl) ?_
    exact ht0
  · exact hv0

theorem keeps_startInputs {W : Nat} {a : State} {v0 : State} (hW : Sub 974506224815707150850319994566153956685146808583319319875118036263525731633476160 W) (hv0 : Keeps W a v0) :
    Keeps W a (startInputs v0) := by
  unfold startInputs
  refine keeps_applyBudget (hW.of rfl) ?_
  refine Keeps.foldl (fun t0 y1 ht0 => ?_) ?_
  · refine keeps_startCount (hW.of rfl) ?_
    refine keeps_wakeCount (hW.of rfl) ?_
    exact ht0
  · exact hv0

theorem keeps_promoteTrial {W : Nat} {a : State} {v0 : State} (hW : Sub 40564819207303340847894502588420 W) (hv0 : Keeps W a v0) :
    Keeps W a (promoteTrial v0) := by
  unfold promoteTrial
  extract_lets -useContext -underBinder x0
  refine Keeps.ite ?_ ?_
  · refine keeps_writeBoot (hW.of rfl) ?_
    exact hv0
  · refine keeps_writeBoot (hW.of rfl) ?_
    exact hv0

theorem keeps_replay {W : Nat} {a : State} {v0 : Nat} {v1 : List Report} {v2 : List Deferred} {v3 : State} (hW : Sub 5986310756945559390219509756550927191687143850472012 W)
    (hv3 : Keeps W a v3) : Keeps W a (replay v0 v1 v2 v3) := by
  induction v0 generalizing v1 v2 v3 with
  | zero => unfold replay; exact hv3
  | succ n ih =>
    cases v1 with
    | nil =>
      cases v2 with
      | nil => unfold replay; exact hv3
      | cons d ds => unfold replay; exact ih (keeps_deliver (hW.of rfl) hv3)
    | cons q qs =>
      cases v2 with
      | nil => unfold replay; exact ih (keeps_reportOne (hW.of rfl) hv3)
      | cons d ds =>
        unfold replay
        exact Keeps.ite (ih (keeps_reportOne (hW.of rfl) hv3)) (ih (keeps_deliver (hW.of rfl) hv3))

theorem keeps_postHeld {W : Nat} {a : State} {v0 : State} (hW : Sub 9173994463960286046443283581208347763186259956673124503929821467746940071054595526233949028382996444705356 W) (hv0 : Keeps W a v0) :
    Keeps W a (postHeld v0) := by
  unfold postHeld
  refine keeps_replay (hW.of rfl) ?_
  refine Keeps.upd_12_20 (hW.bit rfl) (hW.bit rfl) (by constructor <;> first | exact fun h => Bool.noConfusion ((hW.bit (by rfl)).symm.trans h) | exact fun _ => rfl | (intro _; split <;> rfl)) (by first | exact fun h => Bool.noConfusion ((hW.bit (by rfl)).symm.trans h) | exact fun _ _ hd => List.mem_append_left _ hd) ?_
  exact hv0

theorem keeps_rewriteBanks {W : Nat} {a : State} {v0 : State} (hW : Sub 3450873173395281893717377931138512726225554486085193277581262128676864 W) (hv0 : Keeps W a v0) :
    Keeps W a (rewriteBanks v0) := by
  unfold rewriteBanks
  split
  · refine Keeps.upd_24 (hW.bit rfl) (by constructor <;> first | exact fun h => Bool.noConfusion ((hW.bit (by rfl)).symm.trans h) | exact fun _ => rfl | (intro _; split <;> rfl)) ?_
    exact hv0
  · exact hv0

theorem keeps_finishCommits {W : Nat} {a : State} {v0 : State} (hW : Sub 12259964326927133240806613231583649781085265214155388484 W) (hv0 : Keeps W a v0) :
    Keeps W a (finishCommits v0) := by
  unfold finishCommits
  refine Keeps.foldl (fun t0 y1 ht0 => ?_) ?_
  · refine keeps_commitRun (hW.of rfl) ?_
    refine Keeps.ite ?_ ?_
    · refine keeps_eraseEnds (hW.of rfl) ?_
      exact ht0
    · exact ht0
  · refine keeps_markerTry (hW.of rfl) ?_
    exact hv0

theorem keeps_answerOwed {W : Nat} {a : State} {v0 : State} (hW : Sub 2624 W) (hv0 : Keeps W a v0) :
    Keeps W a (answerOwed v0) := by
  unfold answerOwed
  refine Keeps.foldl (fun t0 y1 ht0 => ?_) ?_
  · refine keeps_respond (hW.of rfl) ?_
    exact ht0
  · refine Keeps.upd_11 (hW.bit rfl) ?_
    exact hv0

theorem keeps_ready {W : Nat} {a : State} {v0 : List ℕ} {v1 : State} (hW : Sub 9173994703783718375624478227634436535297294241822380065424686922709138844711522477875955068547793539300974 W) (hv1 : Keeps W a v1) :
    Keeps W a (ready v0 v1) := by
  unfold ready
  refine Keeps.ite ?_ ?_
  · extract_lets -useContext -underBinder x0 x3 x4 x5 x6 x7 x8 x9 x10 x11 x12
    have hx0 : Keeps W a x0 := by
      refine keeps_rewriteBanks (hW.of rfl) ?_
      refine Keeps.ite ?_ ?_
      · refine Keeps.foldl (fun t1 y2 ht1 => ?_) ?_
        · refine keeps_emptyQueue (hW.of rfl) ?_
          exact ht1
        · exact hv1
      · exact hv1
    have hx5 : Keeps W a x5 := by
      refine keeps_promoteTrial (hW.of rfl) ?_
      refine keeps_finishCommits (hW.of rfl) ?_
      exact hx0
    have hx6 : Keeps W a x6 := by
      unfold x6
      try clear_value x0
      try clear_value x5
      refine keeps_onCore (hW.of rfl) (fun _ => (by constructor <;> first | exact fun h => Bool.noConfusion ((hW.bit (by rfl)).symm.trans h) | exact fun _ => rfl | (intro _; split <;> rfl))) ?_
      exact hx5
    have hx7 : Keeps W a x7 := by
      refine keeps_postHeld (hW.of rfl) ?_
      refine keeps_answerOwed (hW.of rfl) ?_
      refine keeps_onPorts (hW.of rfl) ?_
      exact hx6
    have hx8 : Keeps W a x8 := by
      refine keeps_post (hW.of rfl) ?_
      exact hx7
    have hx9 : Keeps W a x9 := by
      refine Keeps.ite ?_ ?_
      · refine keeps_postWake (hW.of rfl) ?_
        exact hx8
      · exact hx8
    have hx10 : Keeps W a x10 := by
      refine Keeps.ite ?_ ?_
      · refine keeps_defaultClaims (hW.of rfl) ?_
        exact hx9
      · refine keeps_takeOcc (hW.of rfl) ?_
        exact hx9
    have hx12 : Keeps W a x12 := by
      unfold x12
      try clear_value x0
      try clear_value x5
      try clear_value x6
      try clear_value x7
      try clear_value x8
      try clear_value x9
      try clear_value x10
      refine Keeps.upd_18_22 (hW.bit rfl) (hW.bit rfl) (by constructor <;> first | exact fun h => Bool.noConfusion ((hW.bit (by rfl)).symm.trans h) | exact fun _ => rfl | (intro _; split <;> rfl)) ?_
      exact hx10
    refine keeps_chgResume (hW.of rfl) ?_
    refine keeps_intakeResume (hW.of rfl) ?_
    refine keeps_rebudget (hW.of rfl) ?_
    exact hx12
  · exact hv1

theorem keeps_eccRecall {W : Nat} {a : State} {v0 : List ℤ} {v1 : State} (hW : Sub 218615307934772124422363036863369085067552222803744123685040541365870 W) (hv1 : Keeps W a v1) :
    Keeps W a (eccRecall v0 v1) := by
  unfold eccRecall
  refine keeps_eccAll (hW.of rfl) ?_
  exact hv1

theorem keeps_startBlocks {W : Nat} {a : State} {v0 : State} (hW : Sub 34234679230465999383549171738016715661793279622879796081586457756428737219439553135850438633944686 W) (hv0 : Keeps W a v0) :
    Keeps W a (startBlocks v0) := by
  unfold startBlocks
  extract_lets -useContext -underBinder x0 x1 x2 x3
  have hx0 : Keeps W a x0 := by
    refine keeps_autoSequences (hW.of rfl) ?_
    refine keeps_capParams (hW.of rfl) ?_
    refine keeps_capRecall (hW.of rfl) ?_
    exact hv0
  have hx3 : Keeps W a x3 := by
    unfold x3
    try clear_value x0
    refine keeps_chgJudge (hW.of rfl) ?_
    refine keeps_pathEval (hW.of rfl) ?_
    refine Keeps.upd_5_14 (hW.bit rfl) (hW.bit rfl) (by constructor <;> first | exact fun h => Bool.noConfusion ((hW.bit (by rfl)).symm.trans h) | exact fun _ => rfl | (intro _; split <;> rfl)) (by constructor <;> first | exact fun h => Bool.noConfusion ((hW.bit (by rfl)).symm.trans h) | exact fun _ => rfl | (intro _; split <;> rfl)) ?_
    exact hx0
  refine keeps_autostart (hW.of rfl) ?_
  refine keeps_startBringUp (hW.of rfl) ?_
  refine keeps_holdOff (hW.of rfl) ?_
  refine keeps_startInputs (hW.of rfl) ?_
  exact hx3

theorem keeps_bootCore {W : Nat} {a : State} {v0 : State} (hW : Sub 3450873173395281893717377931138512736650713177104665289099517615956004 W) (hv0 : Keeps W a v0) :
    Keeps W a (bootCore v0) := by
  unfold bootCore
  extract_lets -useContext -underBinder x0
  have hx0 : Keeps W a x0 := by
    refine Keeps.foldl (fun t1 y2 ht1 => ?_) ?_
    · refine keeps_refreshSector (hW.of rfl) ?_
      exact ht1
    · exact hv0
  try clear_value x0
  split
  · refine keeps_onCore (hW.of rfl) (fun _ => (by constructor <;> first | exact fun h => Bool.noConfusion ((hW.bit (by rfl)).symm.trans h) | exact fun _ => rfl | (intro _; split <;> rfl))) ?_
    exact hx0
  · extract_lets -useContext -underBinder x7 x8 x9
    have hx8 : Keeps W a x8 := by
      refine Keeps.ite ?_ ?_
      · refine keeps_writeBoot (hW.of rfl) ?_
        exact hx0
      · exact hx0
    try clear_value x8
    refine keeps_wdStart (hW.of rfl) ?_
    refine keeps_onCore (hW.of rfl) (fun _ => (by constructor <;> first | exact fun h => Bool.noConfusion ((hW.bit (by rfl)).symm.trans h) | exact fun _ => rfl | (intro _; split <;> rfl))) ?_
    refine Keeps.upd_14 (hW.bit rfl) (by constructor <;> first | exact fun h => Bool.noConfusion ((hW.bit (by rfl)).symm.trans h) | exact fun _ => rfl | (intro _; split <;> rfl)) ?_
    exact hx8

theorem keeps_configurationRecall {W : Nat} {a : State} {v0 : List (ℕ × List ℕ)} {v1 : ℕ} {v2 : List ℤ} {v3 : State} (hW : Sub 34234679230465999383549171738016715816448512268576035372545236621700690568475260662542859610584686 W) (hv3 : Keeps W a v3) :
    Keeps W a (configurationRecall v0 v1 v2 v3) := by
  unfold configurationRecall
  refine Keeps.ite ?_ ?_
  · extract_lets -useContext -underBinder x0 x1 x2 x3 x4
    have hx0 : Keeps W a x0 := by
      refine keeps_recallModules (hW.of rfl) ?_
      refine keeps_recallConfig (hW.of rfl) ?_
      refine keeps_journalReplay (hW.of rfl) ?_
      refine keeps_eccRecall (hW.of rfl) ?_
      exact hv3
    have hx1 : Keeps W a x1 := by
      unfold x1
      try clear_value x0
      refine keeps_setVaux (hW.of rfl) ?_
      refine keeps_onCore (hW.of rfl) (fun _ => (by constructor <;> first | exact fun h => Bool.noConfusion ((hW.bit (by rfl)).symm.trans h) | exact fun _ => rfl | (intro _; split <;> rfl))) ?_
      exact hx0
    have hx3 : Keeps W a x3 := by
      unfold x3
      try clear_value x0
      try clear_value x1
      refine Keeps.upd_19 (hW.bit rfl) (by constructor <;> first | exact fun h => Bool.noConfusion ((hW.bit (by rfl)).symm.trans h) | exact fun _ => rfl | (intro _; split <;> rfl)) ?_
      exact hx1
    have hx4 : Keeps W a x4 := by
      refine keeps_startBlocks (hW.of rfl) ?_
      refine Keeps.foldl (fun t5 y6 ht5 => ?_) ?_
      · refine keeps_bistOutcome (hW.of rfl) ?_
        exact ht5
      · exact hx3
    try clear_value x0
    try clear_value x1
    try clear_value x3
    try clear_value x4
    refine Keeps.ite ?_ ?_
    · refine keeps_onCore (hW.of rfl) (fun _ => (by constructor <;> first | exact fun h => Bool.noConfusion ((hW.bit (by rfl)).symm.trans h) | exact fun _ => rfl | (intro _; split <;> rfl))) ?_
      exact hx4
    · refine Keeps.ite ?_ ?_
      · refine keeps_onCore (hW.of rfl) (fun _ => (by constructor <;> first | exact fun h => Bool.noConfusion ((hW.bit (by rfl)).symm.trans h) | exact fun _ => rfl | (intro _; split <;> rfl))) ?_
        exact hx4
      · refine keeps_bootCore (hW.of rfl) ?_
        exact hx4
  · exact hv3

theorem keeps_aonPor {W : Nat} {a : State} {v0 : ℕ} {v1 : State} (hW : Sub 18347988927920572092886567162416695526372519913346248989900710715095383008707878464560148424881005492436990 W) (hv1 : Keeps W a v1) :
    Keeps W a (aonPor v0 v1) := by
  unfold aonPor
  refine Keeps.ite ?_ ?_
  · refine keeps_por (hW.of rfl) ?_
    refine Keeps.upd_3 (hW.bit rfl) (by constructor <;> first | exact fun h => Bool.noConfusion ((hW.bit (by rfl)).symm.trans h) | exact fun _ => rfl | (intro _; split <;> rfl)) ?_
    exact hv1
  · exact hv1

theorem keeps_coreResetBegin {W : Nat} {a : State} {v0 : State} (hW : Sub 24078409584691798969727779666225119814900298177010597908309999799737610921427479602135020 W) (hv0 : Keeps W a v0) :
    Keeps W a (coreResetBegin v0) := by
  unfold coreResetBegin
  split
  · refine Keeps.ite ?_ ?_
    · refine keeps_coreResetStart (hW.of rfl) ?_
      exact hv0
    · exact hv0
  · exact hv0

theorem keeps_nresetRelease {W : Nat} {a : State} {v0 : State} (hW : Sub 3450873173395281893717377931138512736650713177104665289380992592666660 W) (hv0 : Keeps W a v0) :
    Keeps W a (nresetRelease v0) := by
  unfold nresetRelease
  extract_lets -useContext -underBinder x0
  have hx0 : Keeps W a x0 := by
    unfold x0
    refine keeps_onCore (hW.of rfl) (fun _ => (by constructor <;> first | exact fun h => Bool.noConfusion ((hW.bit (by rfl)).symm.trans h) | exact fun _ => rfl | (intro _; split <;> rfl))) ?_
    exact hv0
  refine Keeps.ite ?_ ?_
  · refine keeps_bootCore (hW.of rfl) ?_
    exact hx0
  · exact hx0

theorem keeps_coreResetRelease {W : Nat} {a : State} {v0 : State} (hW : Sub 3450873173395281893717377931138512736650713177104665289099517615956004 W) (hv0 : Keeps W a v0) :
    Keeps W a (coreResetRelease v0) := by
  unfold coreResetRelease
  refine Keeps.ite ?_ ?_
  · refine Keeps.ite ?_ ?_
    · refine keeps_onCore (hW.of rfl) (fun _ => (by constructor <;> first | exact fun h => Bool.noConfusion ((hW.bit (by rfl)).symm.trans h) | exact fun _ => rfl | (intro _; split <;> rfl))) ?_
      exact hv0
    · refine keeps_bootCore (hW.of rfl) ?_
      exact hv0
  · exact hv0

theorem keeps_shipWake {W : Nat} {a : State} {v0 : ℕ} {v1 : ℕ} {v2 : ℕ} {v3 : State} (hW : Sub 18347988927920572092886567162416695526372519913346248989900710715095383008707878464560148424881005492436990 W) (hv3 : Keeps W a v3) :
    Keeps W a (shipWake v0 v1 v2 v3) := by
  unfold shipWake
  refine Keeps.ite ?_ ?_
  · extract_lets -useContext -underBinder x0 x1
    have hx1 : Keeps W a x1 := by
      unfold x1
      refine Keeps.upd_3 (hW.bit rfl) (by constructor <;> first | exact fun h => Bool.noConfusion ((hW.bit (by rfl)).symm.trans h) | exact fun _ => rfl | (intro _; split <;> rfl)) ?_
      exact hv3
    refine Keeps.ite ?_ ?_
    · refine keeps_porFrom (hW.of rfl) ?_
      exact hx1
    · refine keeps_por (hW.of rfl) ?_
      exact hx1
  · exact hv3

theorem keeps_nresetAssert {W : Nat} {a : State} {v0 : State} (hW : Sub 24078409584691798969727779666225119814900298177010597908309999799737610921708954578845676 W) (hv0 : Keeps W a v0) :
    Keeps W a (nresetAssert v0) := by
  unfold nresetAssert
  extract_lets -useContext -underBinder x0
  have hx0 : Keeps W a x0 := by
    unfold x0
    refine keeps_onCore (hW.of rfl) (fun _ => (by constructor <;> first | exact fun h => Bool.noConfusion ((hW.bit (by rfl)).symm.trans h) | exact fun _ => rfl | (intro _; split <;> rfl))) ?_
    exact hv0
  try clear_value x0
  refine Keeps.ite ?_ ?_
  · refine keeps_coreResetStart (hW.of rfl) ?_
    exact hx0
  · refine Keeps.ite ?_ ?_
    · refine keeps_onCore (hW.of rfl) (fun _ => (by constructor <;> first | exact fun h => Bool.noConfusion ((hW.bit (by rfl)).symm.trans h) | exact fun _ => rfl | (intro _; split <;> rfl))) ?_
      exact hx0
    · exact hx0

end Sys2Proof.Machine
end

