-- ==== Sys2Proof/Laws/KeepsPower.lean ====
section
/-! SUPPORT. What the operations of Machine/Power.lean keep (`Keeps`): one lemma for each. -/

namespace Sys2Proof.Machine

set_option linter.unusedVariables false
set_option linter.unusedTactic false
set_option linter.unreachableTactic false

theorem keeps_crystalQualifyTimeout {W : Nat} {a : State} {v0 : State} (hW : Sub 218615307934772124422363036863369085037128608398266618050219176064638 W) (hv0 : Keeps W a v0) :
    Keeps W a (crystalQualifyTimeout v0) := by
  unfold crystalQualifyTimeout
  refine Keeps.ite ?_ ?_
  · refine keeps_raiseGlobal (hW.of rfl) ?_
    refine keeps_refFallback (hW.of rfl) ?_
    exact hv0
  · exact hv0

theorem keeps_crystalFailure {W : Nat} {a : State} {v0 : State} (hW : Sub 218615307934772124422363036863369085037128608398266618050219176064638 W) (hv0 : Keeps W a v0) :
    Keeps W a (crystalFailure v0) := by
  unfold crystalFailure
  refine Keeps.ite ?_ ?_
  · refine keeps_raiseGlobal (hW.of rfl) ?_
    refine keeps_refFallback (hW.of rfl) ?_
    exact hv0
  · exact hv0

theorem keeps_faultInjectBody {W : Nat} {a : State} {v0 : Sys2Proof.Req} {v1 : List Sys2Proof.Byte} {v2 : State} (hW : Sub 34234687259376674892246685510630859937599535169978927679374722616733541056126424856297141002305534 W) (hv2 : Keeps W a v2) :
    KeepsR W a (faultInjectBody v0 v1 v2) := by
  unfold faultInjectBody
  extract_lets -useContext -underBinder x0 x1 x2 x3
  have hx3 : Keeps W a x3 := by
    refine keeps_latchNow (hW.of rfl) ?_
    exact hv2
  refine KeepsR.ite ?_ ?_
  · refine keeps_refuse (hW.of rfl) ?_
    exact hv2
  · refine KeepsR.ite ?_ ?_
    · refine keeps_refuse (hW.of rfl) ?_
      exact hv2
    · refine KeepsR.ite ?_ ?_
      · refine KeepsR.owed ?_
        refine keeps_respondTo (hW.of rfl) ?_
        refine keeps_coreResetStart (hW.of rfl) ?_
        refine Keeps.upd_11 (hW.bit rfl) ?_
        exact hx3
      · refine KeepsR.done ?_
        refine keeps_respondTo (hW.of rfl) ?_
        refine Keeps.foldl (fun t4 y5 ht4 => ?_) ?_
        · refine keeps_injectedAction (hW.of rfl) ?_
          exact ht4
        · exact hx3

theorem keeps_cmdFaultInject {W : Nat} {a : State} (hW : Sub 34234687259376674892246685510630859937599535169978927679374722616733541056126424856297141002305534 W) :
    KeepsC W a (cmdFaultInject) := by
  unfold cmdFaultInject
  intro r p t ht
  dsimp only
  refine keeps_faultInjectBody (hW.of rfl) ?_
  exact ht

theorem keeps_onClk {W : Nat} {a : State} {v0 : Clocks → Clocks} {v1 : State} (hW : Sub 16 W)
    (hv0 : ∀ c, ClocksK W c (v0 c)) (hv1 : Keeps W a v1) : Keeps W a (onClk v0 v1) :=
  Keeps.upd_4 (hW.bit rfl) (hv0 _) hv1

theorem keeps_setResv {W : Nat} {a : State} {v0 : ℤ} {v1 : State} (hW : Sub 649037107316853453566312041168896 W) (hv1 : Keeps W a v1) :
    Keeps W a (setResv v0 v1) := by
  unfold setResv
  refine Keeps.upd_14 (hW.bit rfl) (by constructor <;> first | exact fun h => Bool.noConfusion ((hW.bit (by rfl)).symm.trans h) | exact fun _ => rfl | (intro _; split <;> rfl)) ?_
  exact hv1

theorem keeps_holdErase {W : Nat} {a : State} {v0 : State} (hW : Sub 22373898256569203860111833173559850680324 W) (hv0 : Keeps W a v0) :
    Keeps W a (holdErase v0) := by
  unfold holdErase
  refine keeps_eraseEnds (hW.of rfl) ?_
  exact hv0

theorem keeps_resumeFirmware {W : Nat} {a : State} {v0 : State} (hW : Sub 9173994703783718375500134364595017613013288660551140612811590962264936566487170001342905204583879950955086 W) (hv0 : Keeps W a v0) :
    Keeps W a (resumeFirmware v0) := by
  unfold resumeFirmware
  refine Keeps.ite ?_ ?_
  · refine keeps_flushLog (hW.of rfl) ?_
    refine keeps_intakeResume (hW.of rfl) ?_
    refine Keeps.foldl (fun t0 y1 ht0 => ?_) ?_
    · refine keeps_deliver (hW.of rfl) ?_
      exact ht0
    · refine Keeps.upd_12 (hW.bit rfl) (by first | exact fun h => Bool.noConfusion ((hW.bit (by rfl)).symm.trans h) | exact fun _ _ hd => List.mem_append_left _ hd) ?_
      exact hv0
  · exact hv0

theorem keeps_sysValidRestored {W : Nat} {a : State} {v0 : ℕ} {v1 : State} (hW : Sub 9173994703783718375500134364595017613013288660557429974511304570139811359010360916025380383861207508186734 W) (hv1 : Keeps W a v1) :
    Keeps W a (sysValidRestored v0 v1) := by
  unfold sysValidRestored
  refine Keeps.ite ?_ ?_
  · extract_lets -useContext -underBinder x0 x1 x2 x3 x4
    have hx2 : Keeps W a x2 := by
      unfold x2
      refine Keeps.upd_5_14 (hW.bit rfl) (hW.bit rfl) (by constructor <;> first | exact fun h => Bool.noConfusion ((hW.bit (by rfl)).symm.trans h) | exact fun _ => rfl | (intro _; split <;> rfl)) (by constructor <;> first | exact fun h => Bool.noConfusion ((hW.bit (by rfl)).symm.trans h) | exact fun _ => rfl | (intro _; split <;> rfl)) ?_
      exact hv1
    have hx3 : Keeps W a x3 := by
      refine keeps_resumeFirmware (hW.of rfl) ?_
      refine keeps_chgJudge (hW.of rfl) ?_
      refine keeps_setVaux (hW.of rfl) ?_
      exact hx2
    have hx4 : Keeps W a x4 := by
      refine keeps_admitSlots (hW.of rfl) ?_
      exact hx3
    refine keeps_recordTry (hW.of rfl) ?_
    refine Keeps.ite ?_ ?_
    · refine keeps_heldGo (hW.of rfl) ?_
      exact hx4
    · exact hx4
  · exact hv1

theorem keeps_holdStep {W : Nat} {a : State} {v0 : Int} {v1 : State → State} {v2 : List Nat × State} (hW : Sub 649037107316853453566312041168896 W)
    (hv1 : ∀ t, Keeps W a t → Keeps W a (v1 t)) (hv2 : Keeps W a v2.2) : Keeps W a (holdStep v0 v1 v2).2 := by
  unfold holdStep
  split
  · exact Keeps.ite (hv1 _ hv2) hv2
  · rename_i r rs _
    have h := keeps_setResv (v0 := (r : Int)) (hW.of rfl) hv2
    exact Keeps.ite (hv1 _ h) h

theorem keeps_holdStepIf {W : Nat} {a : State} {v0 : State → Bool} {v1 : State → Int} {v2 : State → State}
    {v3 : List Nat × State} (hW : Sub 649037107316853453566312041168896 W) (hv2 : ∀ t, Keeps W a t → Keeps W a (v2 t)) (hv3 : Keeps W a v3.2) :
    Keeps W a (holdStepIf v0 v1 v2 v3).2 := by
  unfold holdStepIf
  exact Keeps.ite2 (keeps_holdStep (hW.of rfl) hv2 hv3) hv3

theorem keeps_holdCommit {W : Nat} {a : State} {v0 : State} (hW : Sub 12259964326927133240806613231583668670551196692736243300 W) (hv0 : Keeps W a v0) :
    Keeps W a (holdCommit v0) := by
  unfold holdCommit
  refine keeps_commitRun (hW.of rfl) ?_
  refine Keeps.ite ?_ ?_
  · refine keeps_holdErase (hW.of rfl) ?_
    exact hv0
  · exact hv0

theorem keeps_appendWaiting {W : Nat} {a : State} {v0 : LogRec} {v1 : State} (hW : Sub 50438181037257216681745031943176444153389068 W) (hv1 : Keeps W a v1) :
    Keeps W a (appendWaiting v0 v1) := by
  unfold appendWaiting
  split
  · rename_i q
    exact keeps_appendRec (hW.of rfl) (Keeps.upd_16 (hW.bit rfl) (by constructor <;> first | exact fun h => Bool.noConfusion ((hW.bit (by rfl)).symm.trans h) | exact fun _ => rfl | (intro _; split <;> rfl)) hv1) _ q
  · exact hv1

theorem keeps_holdRecords {W : Nat} {a : State} {v0 : LogRec → Bool} {v1 : List Nat × State} (hW : Sub 50438181037906253789061885396742756194541580 W)
    (hv1 : Keeps W a v1.2) : Keeps W a (holdRecords v0 v1).2 := by
  unfold holdRecords
  generalize List.filter v0 v1.2.log.waiting = l
  induction l generalizing v1 with
  | nil => exact hv1
  | cons x xs ih => exact ih (keeps_holdStepIf (hW.of rfl) (fun t h => keeps_appendWaiting (hW.of rfl) h) hv1)

theorem keeps_holdBoundary {W : Nat} {a : State} {v0 : State} (hW : Sub 14965895951511490690884086999986192215012795674929452734529177807919538825182016076 W) (hv0 : Keeps W a v0) :
    Keeps W a (holdBoundary v0) := by
  unfold holdBoundary
  refine Keeps.ite ?_ ?_
  · refine keeps_applyBudget (hW.of rfl) ?_
    refine keeps_closeInterval (hW.of rfl) ?_
    exact hv0
  · exact hv0

theorem keeps_holdCaldera {W : Nat} {a : State} {v0 : List Nat × State} (hW : Sub 6289361699713607874702656889026795413728099771648049168388 W) (hv0 : Keeps W a v0.2) :
    Keeps W a (holdCaldera v0).2 := by
  unfold holdCaldera
  refine Keeps.ite2 ?_ hv0
  split
  · exact keeps_recordTurn (hW.of rfl) hv0
  · exact keeps_recordTurn (hW.of rfl) (keeps_setResv (hW.of rfl) hv0)

theorem keeps_reportOldest {W : Nat} {a : State} {v0 : State} (hW : Sub 8979466110199248566700656293953874815942493698486860 W) (hv0 : Keeps W a v0) :
    Keeps W a (reportOldest v0) := by
  unfold reportOldest
  split
  · exact hv0
  · refine keeps_reportOne (hW.of rfl) ?_
    refine Keeps.upd_20 (hW.bit rfl) (by constructor <;> first | exact fun h => Bool.noConfusion ((hW.bit (by rfl)).symm.trans h) | exact fun _ => rfl | (intro _; split <;> rfl)) ?_
    exact hv0

theorem keeps_holdReports {W : Nat} {a : State} {v0 : State} (hW : Sub 8979466110199248566700656293953874815942493698486860 W) (hv0 : Keeps W a v0) :
    Keeps W a (holdReports v0) := by
  unfold holdReports
  refine Keeps.ite ?_ hv0
  generalize v0.sup.reports = l
  induction l generalizing v0 with
  | nil => exact hv0
  | cons x xs ih => exact ih (keeps_reportOldest (hW.of rfl) hv0)

theorem keeps_holdupCommits {W : Nat} {a : State} {v0 : List Nat} {v1 : State} (hW : Sub 14965895951511490690884093289356871394680453733984949355290222603057340056731907692 W) (hv1 : Keeps W a v1) :
    Keeps W a (holdupCommits v0 v1) := by
  unfold holdupCommits
  extract_lets big small p1 p2 p3 p4 p5 p6 p7
  have h1 : Keeps W a p1.2 :=
    keeps_holdStepIf (hW.of rfl) (fun t h => keeps_captureMarkerCommit (hW.of rfl) h) (keeps_holdCommit (hW.of rfl) hv1)
  have h2 : Keeps W a p2.2 := keeps_holdRecords (hW.of rfl) (keeps_holdBoundary (hW.of rfl) (keeps_holdErase (hW.of rfl) h1))
  have h3 : Keeps W a p3.2 := keeps_holdRecords (hW.of rfl) (keeps_holdStepIf (hW.of rfl) (fun t h => keeps_closeInterval (hW.of rfl) h) h2)
  have h4 : Keeps W a p4.2 := keeps_holdStepIf (hW.of rfl) (fun t h => keeps_writeCheckpoint (hW.of rfl) h) h3
  have h5 : Keeps W a p5.2 := keeps_holdStepIf (hW.of rfl) (fun t h => keeps_saveGauge (hW.of rfl) h) h4
  have h6 : Keeps W a p6.2 := keeps_holdCaldera (hW.of rfl) h5
  have h7 : Keeps W a p7.2 := keeps_holdRecords (hW.of rfl) (keeps_holdReports (hW.of rfl) h6)
  exact keeps_holdRecords (hW.of rfl) h7

theorem keeps_pllLossOfLock {W : Nat} {a : State} {v0 : State} (hW : Sub 218615307937910675290056377245286979748732441606317795839521402615422 W) (hv0 : Keeps W a v0) :
    Keeps W a (pllLossOfLock v0) := by
  unfold pllLossOfLock
  refine Keeps.ite ?_ ?_
  · extract_lets -useContext -underBinder x0
    have hx0 : Keeps W a x0 := by
      unfold x0
      refine keeps_onClk (hW.of rfl) (fun _ => (by constructor <;> first | exact fun h => Bool.noConfusion ((hW.bit (by rfl)).symm.trans h) | exact fun _ => rfl | (intro _; split <;> rfl))) ?_
      refine keeps_stopConverters (hW.of rfl) ?_
      exact hv0
    refine keeps_raiseGlobal (hW.of rfl) ?_
    refine keeps_pipeStop (hW.of rfl) ?_
    exact hx0
  · exact hv0

theorem keeps_restartPipe {W : Nat} {a : State} {v0 : State} (hW : Sub 3530869726155007929657631550554312359057574937511021510656 W) (hv0 : Keeps W a v0) :
    Keeps W a (restartPipe v0) := by
  unfold restartPipe
  refine Keeps.ite ?_ ?_
  · refine keeps_pipeStart (hW.of rfl) ?_
    exact hv0
  · exact hv0

theorem keeps_pllRelock {W : Nat} {a : State} {v0 : State} (hW : Sub 9173994703783718375500134364595017613013288660560960844237459578069296854237149182591534084947002196718174 W) (hv0 : Keeps W a v0) :
    Keeps W a (pllRelock v0) := by
  unfold pllRelock
  refine Keeps.ite ?_ ?_
  · exact hv0
  · extract_lets -useContext -underBinder x0
    have hx0 : Keeps W a x0 := by
      unfold x0
      refine keeps_onClk (hW.of rfl) (fun _ => (by constructor <;> first | exact fun h => Bool.noConfusion ((hW.bit (by rfl)).symm.trans h) | exact fun _ => rfl | (intro _; split <;> rfl))) ?_
      exact hv0
    refine keeps_recordTry (hW.of rfl) ?_
    refine keeps_resumeFirmware (hW.of rfl) ?_
    refine keeps_restartPipe (hW.of rfl) ?_
    exact hx0

theorem keeps_foldbackRetry {W : Nat} {a : State} {v0 : ℕ} {v1 : State} (hW : Sub 215015495249069204213514458934570650699677967734526355350398953692524019633295450756564239354074551549952 W) (hv1 : Keeps W a v1) :
    Keeps W a (foldbackRetry v0 v1) := by
  unfold foldbackRetry
  refine Keeps.ite ?_ ?_
  · refine Keeps.upd_28 (hW.bit rfl) (by constructor <;> first | exact fun h => Bool.noConfusion ((hW.bit (by rfl)).symm.trans h) | exact fun _ => rfl | (intro _; split <;> rfl)) ?_
    exact hv1
  · refine Keeps.ite ?_ ?_
    · refine Keeps.upd_28 (hW.bit rfl) (by constructor <;> first | exact fun h => Bool.noConfusion ((hW.bit (by rfl)).symm.trans h) | exact fun _ => rfl | (intro _; split <;> rfl)) ?_
      exact hv1
    · exact hv1

theorem keeps_crystalQualified {W : Nat} {a : State} {v0 : State} (hW : Sub 1099511627792 W) (hv0 : Keeps W a v0) :
    Keeps W a (crystalQualified v0) := by
  unfold crystalQualified
  refine Keeps.ite ?_ ?_
  · refine keeps_onClk (hW.of rfl) (fun _ => (by constructor <;> first | exact fun h => Bool.noConfusion ((hW.bit (by rfl)).symm.trans h) | exact fun _ => rfl | (intro _; split <;> rfl))) ?_
    exact hv0
  · exact hv0

theorem keeps_outputFoldback {W : Nat} {a : State} {v0 : ℕ} {v1 : State} (hW : Sub 215015495249069204213514458934570650699677967734526355350398953692524019633295450756564239354074551549952 W) (hv1 : Keeps W a v1) :
    Keeps W a (outputFoldback v0 v1) := by
  unfold outputFoldback
  refine Keeps.ite ?_ ?_
  · refine Keeps.upd_28 (hW.bit rfl) (by constructor <;> first | exact fun h => Bool.noConfusion ((hW.bit (by rfl)).symm.trans h) | exact fun _ => rfl | (intro _; split <;> rfl)) ?_
    exact hv1
  · refine Keeps.ite ?_ ?_
    · refine Keeps.upd_28 (hW.bit rfl) (by constructor <;> first | exact fun h => Bool.noConfusion ((hW.bit (by rfl)).symm.trans h) | exact fun _ => rfl | (intro _; split <;> rfl)) ?_
      exact hv1
    · exact hv1

theorem keeps_holdup {W : Nat} {a : State} {v0 : ℕ} {v1 : List ℕ} {v2 : State} (hW : Sub 215015495249069204214500759276635026727816506753391004942099689824176187270211323811427027802383145236076 W) (hv2 : Keeps W a v2) :
    Keeps W a (holdup v0 v1 v2) := by
  unfold holdup
  refine Keeps.ite ?_ ?_
  · exact hv2
  · extract_lets -useContext -underBinder x0 x1 x2 x3 x4
    have hx0 : Keeps W a x0 := by
      refine keeps_stopConverters (hW.of rfl) ?_
      exact hv2
    have hx3 : Keeps W a x3 := by
      unfold x3
      try clear_value x0
      refine Keeps.upd_5_14_28 (hW.bit rfl) (hW.bit rfl) (hW.bit rfl) (by constructor <;> first | exact fun h => Bool.noConfusion ((hW.bit (by rfl)).symm.trans h) | exact fun _ => rfl | (intro _; split <;> rfl)) (by constructor <;> first | exact fun h => Bool.noConfusion ((hW.bit (by rfl)).symm.trans h) | exact fun _ => rfl | (intro _; split <;> rfl)) (by constructor <;> first | exact fun h => Bool.noConfusion ((hW.bit (by rfl)).symm.trans h) | exact fun _ => rfl | (intro _; split <;> rfl)) ?_
      exact hx0
    have hx4 : Keeps W a x4 := by
      refine keeps_completeOp (hW.of rfl) ?_
      refine keeps_tagsDrop (hW.of rfl) ?_
      exact hx3
    refine keeps_holdupCommits (hW.of rfl) ?_
    refine keeps_setPoint (hW.of rfl) ?_
    exact hx4

end Sys2Proof.Machine
end

