-- ==== Sys2Proof/Laws/KeepsHostPorts.lean ====
section
/-! SUPPORT. What the operations of Machine/HostPorts.lean keep (`Keeps`): one lemma for each. -/

namespace Sys2Proof.Machine

set_option linter.unusedVariables false
set_option linter.unusedTactic false
set_option linter.unreachableTactic false

theorem keeps_readEffect {W : Nat} {a : State} {v0 : ℕ} {v1 : ℕ} {v2 : State} (hW : Sub 64 W) (hv2 : Keeps W a v2) :
    Keeps W a (readEffect v0 v1 v2) := by
  unfold readEffect
  refine Keeps.ite ?_ ?_
  · refine keeps_onPort (hW.of rfl) ?_
    exact hv2
  · exact hv2

theorem keeps_readWindow {W : Nat} {a : State} {v0 v1 v2 : Nat} {v3 : Option Nat} {v4 : State} (hW : Sub 64 W)
    (hv4 : Keeps W a v4) : Keeps W a (readWindow v0 v1 v2 v3 v4).2 := by
  induction v1 generalizing v2 v3 v4 with
  | zero => exact hv4
  | succ m ih => exact ih (Keeps.ite (keeps_readEffect (hW.of rfl) hv4) hv4)

theorem keeps_readSpan {W : Nat} {a : State} {v0 v1 v2 v3 : Nat} {v4 : State} (hW : Sub 6257643361376515438427774416355766355931848959047354854379278313682542 W)
    (hv4 : Keeps W a v4) : Keeps W a (readSpan v0 v1 v2 v3 v4).2 := by
  induction v1 generalizing v2 v3 v4 with
  | zero => unfold readSpan; exact hv4
  | succ n ih =>
    unfold readSpan
    refine Keeps.ite2 hv4 (Keeps.ite2 ?_ ?_)
    · exact ih (keeps_memoryWindowAccess (hW.of rfl) hv4)
    · exact ih (keeps_readWindow (hW.of rfl) hv4)

theorem keeps_directedGet {W : Nat} {a : State} {v0 : List Sys2Proof.Byte} {v1 : State} (hW : Sub 64 W) (hv1 : Keeps W a v1) :
    Keeps W a (directedGet v0 v1) := by
  unfold directedGet
  refine Keeps.ite ?_ ?_
  · refine keeps_onPort (hW.of rfl) ?_
    exact hv1
  · exact hv1

theorem keeps_getpid {W : Nat} {a : State} {v0 : State} (hW : Sub 64 W) (hv0 : Keeps W a v0) :
    Keeps W a (getpid v0) := by
  unfold getpid
  refine keeps_directedGet (hW.of rfl) ?_
  exact hv0

theorem keeps_uartDiscard {W : Nat} {a : State} {v0 : State} (hW : Sub 38685626227668133590597888 W) (hv0 : Keeps W a v0) :
    Keeps W a (uartDiscard v0) := by
  unfold uartDiscard
  refine Keeps.upd_8 (hW.bit rfl) (by constructor <;> first | exact fun h => Bool.noConfusion ((hW.bit (by rfl)).symm.trans h) | exact fun _ => rfl | (intro _; split <;> rfl)) ?_
  exact hv0

theorem keeps_putReq {W : Nat} {a : State} {v0 : ℕ} {v1 : ℕ} {v2 : BitVec 8} {v3 : State} (hW : Sub 64 W) (hv3 : Keeps W a v3) :
    Keeps W a (putReq v0 v1 v2 v3) := by
  unfold putReq
  refine Keeps.ite ?_ ?_
  · refine keeps_onPort (hW.of rfl) ?_
    exact hv3
  · exact hv3

theorem keeps_portReset {W : Nat} {a : State} {v0 : ℕ} {v1 : State} (hW : Sub 216048166358045284433738698354410220672922279893972803021938628722668 W) (hv1 : Keeps W a v1) :
    Keeps W a (portReset v0 v1) := by
  unfold portReset
  extract_lets -useContext -underBinder x0 x3 x4
  have hx0 : Keeps W a x0 := by
    refine Keeps.foldl (fun t1 y2 ht1 => ?_) ?_
    · refine Keeps.ite ?_ ?_
      · refine keeps_closeSession (hW.of rfl) ?_
        exact ht1
      · exact ht1
    · exact hv1
  have hx3 : Keeps W a x3 := by
    refine keeps_loseBridge (hW.of rfl) ?_
    refine keeps_onPort (hW.of rfl) ?_
    exact hx0
  have hx4 : Keeps W a x4 := by
    refine Keeps.upd_11 (hW.bit rfl) ?_
    exact hx3
  try clear_value x0
  try clear_value x3
  try clear_value x4
  refine Keeps.ite ?_ ?_
  · refine Keeps.upd_7 (hW.bit rfl) (by constructor <;> first | exact fun h => Bool.noConfusion ((hW.bit (by rfl)).symm.trans h) | exact fun _ => rfl | (intro _; split <;> rfl)) ?_
    exact hx4
  · refine Keeps.ite ?_ ?_
    · refine Keeps.upd_8 (hW.bit rfl) (by constructor <;> first | exact fun h => Bool.noConfusion ((hW.bit (by rfl)).symm.trans h) | exact fun _ => rfl | (intro _; split <;> rfl)) ?_
      exact hx4
    · exact hx4

theorem keeps_unknownCommand {W : Nat} {a : State} {v0 : ℕ} {v1 : Sys2Proof.Req} {v2 : State} (hW : Sub 576 W) (hv2 : Keeps W a v2) :
    Keeps W a (unknownCommand v0 v1 v2) := by
  unfold unknownCommand
  split
  · refine keeps_respond (hW.of rfl) ?_
    exact hv2
  · refine keeps_respond (hW.of rfl) ?_
    refine keeps_consume (hW.of rfl) ?_
    exact hv2

theorem keeps_commandOf {W : Nat} {a : State} {c : Nat} {pl : Bytes} {s : State} {d : CmdDef} (hW : Sub 1079266377271743719786849633599704777655473293104733376014001062760504896523208001201566789582979070 W)
    (h : commandOf c pl s = some d) : KeepsC W a d := by
  have hm : d ∈ commandList pl s := List.mem_of_find?_eq_some h
  unfold commandList at hm
  exact (KeepsL.append (KeepsL.append
    (.cons (keeps_cmdIdentify (hW.of rfl)) <| .cons (keeps_cmdStatus (hW.of rfl)) <| .cons (keeps_cmdModeRequestFor (hW.of rfl)) <|
      .cons (keeps_cmdShipArm (hW.of rfl)) <| .cons (keeps_cmdCoreReset (hW.of rfl)) <| .cons (keeps_cmdTimeSet (hW.of rfl)) <|
      .cons (keeps_cmdEvents (hW.of rfl)) <| .cons (keeps_cmdSessionOpen (hW.of rfl)) <| .cons (keeps_cmdSessionClose (hW.of rfl)) <|
      .cons (keeps_cmdAuthChallenge (hW.of rfl)) <| .cons (keeps_cmdAuthProve (hW.of rfl)) <|
      .cons (keeps_cmdTenantWrite (hW.of rfl)) <| .cons (keeps_cmdCreditsRead (hW.of rfl)) <| .cons (keeps_cmdParamGet (hW.of rfl)) <|
      .cons (keeps_cmdParamSet (hW.of rfl)) <| .cons (keeps_cmdParamInfo (hW.of rfl)) <| .cons (keeps_cmdTxnBegin (hW.of rfl)) <|
      .cons (keeps_cmdTxnCommit (hW.of rfl)) <| .cons (keeps_cmdTxnRollback (hW.of rfl)) <| .cons (keeps_cmdTxnStatus (hW.of rfl)) <|
      .cons (keeps_cmdConfigFactory (hW.of rfl)) <| .nil)
    (.cons (keeps_cmdRailState (hW.of rfl)) <| .cons (keeps_cmdRailForce (hW.of rfl)) <| .cons (keeps_cmdTableRun (hW.of rfl)) <|
      .cons (keeps_cmdTableAbort (hW.of rfl)) <| .cons (keeps_cmdTableRead (hW.of rfl)) <| .cons (keeps_cmdTableWrite (hW.of rfl)) <|
      .cons (keeps_cmdSeqStatus (hW.of rfl)) <| .cons (keeps_cmdRailPark (hW.of rfl)) <| .cons (keeps_cmdFaultStatus (hW.of rfl)) <|
      .cons (keeps_cmdFaultClearAll (hW.of rfl)) <| .cons (keeps_cmdFaultInject (hW.of rfl)) <|
      .cons (keeps_cmdSenseCheck (hW.of rfl)) <| .cons (keeps_cmdMarginSet (hW.of rfl)) <| .cons (keeps_cmdMarginStatus (hW.of rfl)) <|
      .cons (keeps_cmdConvertNow (hW.of rfl)) <| .cons (keeps_cmdSeqStart (hW.of rfl)) <| .cons (keeps_cmdSeqStop (hW.of rfl)) <|
      .cons (keeps_cmdRingAttach (hW.of rfl)) <| .cons (keeps_cmdRingStatus (hW.of rfl)) <| .cons (keeps_cmdCalSystem (hW.of rfl)) <|
      .cons (keeps_cmdTriggerFire (hW.of rfl)) <| .cons (keeps_cmdCaptureStatus (hW.of rfl)) <|
      .cons (keeps_cmdCaptureRead (hW.of rfl)) <| .cons (keeps_cmdCaptureClear (hW.of rfl)) <|
      .cons (keeps_cmdCaptureTest (hW.of rfl)) <| .nil))
    (.cons (keeps_cmdTagsStatus (hW.of rfl)) <| .cons (keeps_cmdTagsSweep (hW.of rfl)) <| .cons (keeps_cmdRingDiagnose (hW.of rfl)) <|
      .cons (keeps_cmdIntakeStatus (hW.of rfl)) <| .cons (keeps_cmdIntakePolicy (hW.of rfl)) <|
      .cons (keeps_cmdPdRequest (hW.of rfl)) <| .cons (keeps_cmdBudgetWindow (hW.of rfl)) <|
      .cons (keeps_cmdChargeStatus (hW.of rfl)) <| .cons (keeps_cmdChargeControl (hW.of rfl)) <|
      .cons (keeps_cmdGaugeRead (hW.of rfl)) <| .cons (keeps_cmdGaugeRelearn (hW.of rfl)) <| .cons (keeps_cmdBankStatus (hW.of rfl)) <|
      .cons (keeps_cmdBankHandover (hW.of rfl)) <| .cons (keeps_cmdBankRead (hW.of rfl)) <| .cons (keeps_cmdBankWrite (hW.of rfl)) <|
      .cons (keeps_cmdBankAtomic (hW.of rfl)) <| .cons (keeps_cmdBankRetire (hW.of rfl)) <| .cons (keeps_cmdNvStatus (hW.of rfl)) <|
      .cons (keeps_cmdNvRead (hW.of rfl)) <| .cons (keeps_cmdNvGather (hW.of rfl)) <| .cons (keeps_cmdNvCommit (hW.of rfl)) <|
      .cons (keeps_cmdNvDiscard (hW.of rfl)) <| .cons (keeps_cmdNvProtect (hW.of rfl)) <| .cons (keeps_cmdLogAppend (hW.of rfl)) <|
      .cons (keeps_cmdLogRead (hW.of rfl)) <| .cons (keeps_cmdFwInfo (hW.of rfl)) <| .cons (keeps_cmdFwBegin (hW.of rfl)) <|
      .cons (keeps_cmdFwChunk (hW.of rfl)) <| .cons (keeps_cmdFwFinish (hW.of rfl)) <| .cons (keeps_cmdFwActivate (hW.of rfl)) <|
      .cons (keeps_cmdLedgerRead (hW.of rfl)) <| .cons (keeps_cmdBackground (hW.of rfl)) <|
      .cons (keeps_cmdTelemetryRead (hW.of rfl)) <| .nil)) d hm

theorem keeps_takeFrame {W : Nat} {a : State} {v0 : Nat} {v1 : Bytes} {v2 : List Int} {v3 : State} (hW : Sub 1079266377271743719786849633599704777655473293104733376014001062760504896523208001201566789582979070 W)
    (hv3 : Keeps W a v3) : Keeps W a (takeFrame v0 v1 v2 v3) := by
  unfold takeFrame
  split
  · exact keeps_respond (hW.of rfl) hv3
  · extract_lets r pl
    split
    · rename_i h
      exact keeps_serveUp (hW.of rfl) (keeps_commandOf (hW.of rfl) h) hv3
    · exact keeps_unknownCommand (hW.of rfl) hv3

theorem keeps_submit {W : Nat} {a : State} {v0 : ℕ} {v1 : List ℤ} {v2 : State} (hW : Sub 1079266377271743719786849633599704777655473293104733376014001062760504896523208001201566789582979070 W) (hv2 : Keeps W a v2) :
    Keeps W a (submit v0 v1 v2) := by
  unfold submit
  refine Keeps.ite ?_ ?_
  · refine keeps_takeFrame (hW.of rfl) ?_
    exact hv2
  · refine keeps_setIrq (hW.of rfl) ?_
    exact hv2

theorem keeps_irqStatusClear {W : Nat} {a : State} {v0 : ℕ} {v1 : BitVec 32} {v2 : State} (hW : Sub 64 W) (hv2 : Keeps W a v2) :
    Keeps W a (irqStatusClear v0 v1 v2) := by
  unfold irqStatusClear
  refine keeps_onPort (hW.of rfl) ?_
  exact hv2

theorem keeps_writeReg {W : Nat} {a : State} {v0 : ℕ} {v1 : List ℤ} {v2 : ℕ} {v3 : ℕ} {v4 : State} (hW : Sub 1079266377271743719786849633599704777655473293104733376014001062760504896523208001201566789582979070 W) (hv4 : Keeps W a v4) :
    Keeps W a (writeReg v0 v1 v2 v3 v4) := by
  unfold writeReg
  refine Keeps.ite ?_ ?_
  · exact hv4
  · split
    · refine Keeps.ite ?_ ?_
      · refine keeps_portReset (hW.of rfl) ?_
        exact hv4
      · exact hv4
    · refine Keeps.ite ?_ ?_
      · refine keeps_submit (hW.of rfl) ?_
        exact hv4
      · refine Keeps.ite ?_ ?_
        · refine keeps_rspDone (hW.of rfl) ?_
          exact hv4
        · exact hv4
    · refine keeps_onPort (hW.of rfl) ?_
      exact hv4
    · refine keeps_evtPop (hW.of rfl) ?_
      exact hv4
    · refine keeps_irqStatusClear (hW.of rfl) ?_
      exact hv4
    · refine keeps_onPort (hW.of rfl) ?_
      exact hv4
    · refine keeps_onPort (hW.of rfl) ?_
      exact hv4
    · refine keeps_onPort (hW.of rfl) ?_
      exact hv4
    · refine keeps_onPort (hW.of rfl) ?_
      exact hv4
    · refine keeps_atop (hW.of rfl) ?_
      exact hv4
    · refine keeps_onPort (hW.of rfl) ?_
      exact hv4
    · exact hv4

theorem keeps_writeWindow {W : Nat} {a : State} {v0 : Nat} {v1 : List Int} {v2 v3 : Nat} {v4 : Bytes} {v5 : State} (hW : Sub 1079266377271743719786849633599704777655473293104733376014001062760504896523208001201566789582979070 W)
    (hv5 : Keeps W a v5) : Keeps W a (writeWindow v0 v1 v2 v3 v4 v5) := by
  induction v2 generalizing v3 v4 v5 with
  | zero => unfold writeWindow; exact hv5
  | succ m ih =>
    cases v4 with
    | nil => unfold writeWindow; exact hv5
    | cons b bs =>
      unfold writeWindow
      refine Keeps.ite hv5 (Keeps.ite (ih (keeps_memoryWindowAccess (hW.of rfl) hv5)) ?_)
      exact Keeps.ite (ih (keeps_putReq (hW.of rfl) hv5)) (Keeps.ite (ih (keeps_writeReg (hW.of rfl) hv5)) (ih hv5))

theorem keeps_noteOffset {W : Nat} {a : State} {v0 : ℕ} {v1 : ℕ} {v2 : State} (hW : Sub 19342813113834066795298944 W) (hv2 : Keeps W a v2) :
    Keeps W a (noteOffset v0 v1 v2) := by
  unfold noteOffset
  refine Keeps.ite ?_ ?_
  · refine Keeps.upd_7 (hW.bit rfl) (by constructor <;> first | exact fun h => Bool.noConfusion ((hW.bit (by rfl)).symm.trans h) | exact fun _ => rfl | (intro _; split <;> rfl)) ?_
    exact hv2
  · exact hv2

theorem keeps_putTransfer {W : Nat} {a : State} {v0 : ℕ} {v1 : List ℤ} {v2 : ℕ} {v3 : List Sys2Proof.Byte} {v4 : State} (hW : Sub 1079266377271743719786849633599704777655473293104733376014001062760504896523208001201566789582979070 W) (hv4 : Keeps W a v4) :
    Keeps W a (putTransfer v0 v1 v2 v3 v4) := by
  unfold putTransfer
  refine keeps_writeWindow (hW.of rfl) ?_
  refine keeps_noteOffset (hW.of rfl) ?_
  exact hv4

theorem keeps_uartWrite {W : Nat} {a : State} {v0 : List Sys2Proof.Byte} {v1 : List ℤ} {v2 : State} (hW : Sub 1079266377271743719786849633599704777655473293104733376014001062760504896523208001201566789582979070 W) (hv2 : Keeps W a v2) :
    Keeps W a (uartWrite v0 v1 v2) := by
  unfold uartWrite
  refine Keeps.ite ?_ ?_
  · refine keeps_uartDiscard (hW.of rfl) ?_
    exact hv2
  · refine keeps_putTransfer (hW.of rfl) ?_
    exact hv2

theorem keeps_onI3c {W : Nat} {a : State} {v0 : I3cBus → I3cBus} {v1 : State} (hW : Sub 128 W)
    (hv0 : ∀ c, I3cBusK W c (v0 c)) (hv1 : Keeps W a v1) : Keeps W a (onI3c v0 v1) :=
  Keeps.upd_7 (hW.bit rfl) (hv0 _) hv1

theorem keeps_setnewda {W : Nat} {a : State} {v0 : ℕ} {v1 : State} (hW : Sub 302231454903657293676672 W) (hv1 : Keeps W a v1) :
    Keeps W a (setnewda v0 v1) := by
  unfold setnewda
  refine Keeps.ite ?_ ?_
  · refine keeps_onI3c (hW.of rfl) (fun _ => (by constructor <;> first | exact fun h => Bool.noConfusion ((hW.bit (by rfl)).symm.trans h) | exact fun _ => rfl | (intro _; split <;> rfl))) ?_
    exact hv1
  · exact hv1

theorem keeps_spiStatus {W : Nat} {a : State} {v0 : State} (hW : Sub 64 W) (hv0 : Keeps W a v0) :
    Keeps W a (spiStatus v0) := by
  unfold spiStatus
  refine keeps_onPort (hW.of rfl) ?_
  exact hv0

theorem keeps_setmrl {W : Nat} {a : State} {v0 : ℕ} {v1 : State} (hW : Sub 2417851639229258349412480 W) (hv1 : Keeps W a v1) :
    Keeps W a (setmrl v0 v1) := by
  unfold setmrl
  refine keeps_onI3c (hW.of rfl) (fun _ => (by constructor <;> first | exact fun h => Bool.noConfusion ((hW.bit (by rfl)).symm.trans h) | exact fun _ => rfl | (intro _; split <;> rfl))) ?_
  exact hv1

theorem keeps_disec {W : Nat} {a : State} {v0 : ℕ} {v1 : State} (hW : Sub 604462909807314587353216 W) (hv1 : Keeps W a v1) :
    Keeps W a (disec v0 v1) := by
  unfold disec
  refine keeps_onI3c (hW.of rfl) (fun _ => (by constructor <;> first | exact fun h => Bool.noConfusion ((hW.bit (by rfl)).symm.trans h) | exact fun _ => rfl | (intro _; split <;> rfl))) ?_
  exact hv1

theorem keeps_getmrl {W : Nat} {a : State} {v0 : State} (hW : Sub 64 W) (hv0 : Keeps W a v0) :
    Keeps W a (getmrl v0) := by
  unfold getmrl
  refine keeps_directedGet (hW.of rfl) ?_
  exact hv0

theorem keeps_setdasa {W : Nat} {a : State} {v0 : ℕ} {v1 : State} (hW : Sub 302231454903657293676672 W) (hv1 : Keeps W a v1) :
    Keeps W a (setdasa v0 v1) := by
  unfold setdasa
  refine Keeps.ite ?_ ?_
  · refine keeps_onI3c (hW.of rfl) (fun _ => (by constructor <;> first | exact fun h => Bool.noConfusion ((hW.bit (by rfl)).symm.trans h) | exact fun _ => rfl | (intro _; split <;> rfl))) ?_
    exact hv1
  · exact hv1

theorem keeps_windowTransfer {W : Nat} {a : State} {v0 : ℕ} {v1 : Bool} {v2 : ℕ} {v3 : ℕ} {v4 : List Sys2Proof.Byte} {v5 : List ℕ} {v6 : Bool} {v7 : List (ℕ × Bool)} {v8 : State} (hW : Sub 6257643361376515438427774416355766355931848978390167968213345108981486 W) (hv8 : Keeps W a v8) :
    Keeps W a (windowTransfer v0 v1 v2 v3 v4 v5 v6 v7 v8) := by
  unfold windowTransfer
  refine keeps_memoryWindowAccess (hW.of rfl) ?_
  refine keeps_noteOffset (hW.of rfl) ?_
  exact hv8

theorem keeps_getTransfer {W : Nat} {a : State} {v0 : ℕ} {v1 : ℕ} {v2 : ℕ} {v3 : State} (hW : Sub 6257643361376515438427774416355766355931848959047354854379278313682542 W) (hv3 : Keeps W a v3) :
    Keeps W a (getTransfer v0 v1 v2 v3) := by
  unfold getTransfer
  extract_lets -useContext -underBinder x0
  have hx0 : Keeps W a x0.2 := by
    refine keeps_readSpan (hW.of rfl) ?_
    · exact hv3
  refine keeps_onPort (hW.of rfl) ?_
  exact hx0

theorem keeps_uartRead {W : Nat} {a : State} {v0 : List Sys2Proof.Byte} {v1 : State} (hW : Sub 6257643361376515438427774416355766355931849075104233537383679085475694 W) (hv1 : Keeps W a v1) :
    Keeps W a (uartRead v0 v1) := by
  unfold uartRead
  extract_lets -useContext -underBinder x0 x1
  have hx1 : Keeps W a x1 := by
    refine keeps_getTransfer (hW.of rfl) ?_
    exact hv1
  refine Keeps.ite ?_ ?_
  · refine keeps_uartDiscard (hW.of rfl) ?_
    exact hv1
  · refine keeps_uartSend (hW.of rfl) ?_
    exact hx1

theorem keeps_smbusClockLowTimeout {W : Nat} {a : State} {v0 : State} (hW : Sub 0 W) (hv0 : Keeps W a v0) :
    Keeps W a (smbusClockLowTimeout v0) := by
  unfold smbusClockLowTimeout
  exact hv0

theorem keeps_getmwl {W : Nat} {a : State} {v0 : State} (hW : Sub 64 W) (hv0 : Keeps W a v0) :
    Keeps W a (getmwl v0) := by
  unfold getmwl
  refine keeps_directedGet (hW.of rfl) ?_
  exact hv0

theorem keeps_i3cTransfer {W : Nat} {a : State} {v0 : List Sys2Proof.Byte} {v1 : ℕ} {v2 : List ℤ} {v3 : State} (hW : Sub 1079266377271743719786849633599704777655473293104733376014001062760504896523208001201566789582979070 W) (hv3 : Keeps W a v3) :
    Keeps W a (i3cTransfer v0 v1 v2 v3) := by
  unfold i3cTransfer
  extract_lets -useContext -underBinder x0
  have hx0 : Keeps W a x0 := by
    refine Keeps.ite ?_ ?_
    · refine keeps_putTransfer (hW.of rfl) ?_
      exact hv3
    · exact hv3
  refine Keeps.ite ?_ ?_
  · exact hx0
  · refine keeps_noteOffset (hW.of rfl) ?_
    refine keeps_getTransfer (hW.of rfl) ?_
    exact hx0

theorem keeps_smbusTransfer {W : Nat} {a : State} {v0 : List Sys2Proof.Byte} {v1 : ℕ} {v2 : List ℤ} {v3 : State} (hW : Sub 1079266377271743719786849633599704777655473293104733376014001062760504896523208001201566789582979070 W) (hv3 : Keeps W a v3) :
    Keeps W a (smbusTransfer v0 v1 v2 v3) := by
  unfold smbusTransfer
  extract_lets -useContext -underBinder x0 x1 x2 x3 x4
  have hx0 : Keeps W a x0 := by
    refine keeps_onPort (hW.of rfl) ?_
    exact hv3
  have hx3 : Keeps W a x3 := by
    refine keeps_getTransfer (hW.of rfl) ?_
    exact hx0
  refine Keeps.ite ?_ ?_
  · exact hx0
  · refine Keeps.ite ?_ ?_
    · refine Keeps.ite ?_ ?_
      · exact hx0
      · refine Keeps.ite ?_ ?_
        · refine keeps_onPort (hW.of rfl) ?_
          exact hx0
        · refine keeps_putTransfer (hW.of rfl) ?_
          exact hx0
    · refine Keeps.ite ?_ ?_
      · exact hx0
      · refine keeps_onPort (hW.of rfl) ?_
        exact hx3

theorem keeps_spiTransfer {W : Nat} {a : State} {v0 : List Sys2Proof.Byte} {v1 : ℕ} {v2 : List ℤ} {v3 : State} (hW : Sub 1079266377271743719786849633599704777655473293104733376014001062760504896523208001201566789582979070 W) (hv3 : Keeps W a v3) :
    Keeps W a (spiTransfer v0 v1 v2 v3) := by
  unfold spiTransfer
  extract_lets -useContext -underBinder x0
  try clear_value x0
  split
  · refine Keeps.ite ?_ ?_
    · refine keeps_putTransfer (hW.of rfl) ?_
      exact hv3
    · exact hv3
  · refine Keeps.ite ?_ ?_
    · refine keeps_getTransfer (hW.of rfl) ?_
      exact hv3
    · exact hv3
  · refine keeps_onPort (hW.of rfl) ?_
    exact hv3
  · exact hv3

theorem keeps_winStatusRead {W : Nat} {a : State} {v0 : ℕ} {v1 : State} (hW : Sub 1079266377271743719786849633599704777655473293104733376014001062760504896523208001201566789582979070 W) (hv1 : Keeps W a v1) :
    Keeps W a (winStatusRead v0 v1) := by
  unfold winStatusRead
  split
  · refine keeps_i3cTransfer (hW.of rfl) ?_
    exact hv1
  · refine keeps_smbusTransfer (hW.of rfl) ?_
    exact hv1
  · refine keeps_spiTransfer (hW.of rfl) ?_
    exact hv1
  · refine keeps_uartRead (hW.of rfl) ?_
    exact hv1

theorem keeps_getbcr {W : Nat} {a : State} {v0 : State} (hW : Sub 64 W) (hv0 : Keeps W a v0) :
    Keeps W a (getbcr v0) := by
  unfold getbcr
  refine keeps_directedGet (hW.of rfl) ?_
  exact hv0

theorem keeps_uartRequest {W : Nat} {a : State} {v0 : List Sys2Proof.Byte} {v1 : List ℤ} {v2 : State} (hW : Sub 1079266377271743719786849633599704777655473293104733376014001062760504896523208001201566789582979070 W) (hv2 : Keeps W a v2) :
    Keeps W a (uartRequest v0 v1 v2) := by
  unfold uartRequest
  refine Keeps.ite ?_ ?_
  · refine keeps_uartDiscard (hW.of rfl) ?_
    exact hv2
  · refine Keeps.ite ?_ ?_
    · refine keeps_submit (hW.of rfl) ?_
      refine keeps_onPort (hW.of rfl) ?_
      exact hv2
    · refine keeps_setIrq (hW.of rfl) ?_
      exact hv2

theorem keeps_uartFrame {W : Nat} {a : State} {v0 : List Sys2Proof.Byte} {v1 : List ℤ} {v2 : State} (hW : Sub 1079266377271743719786849633599704777655473293104733376014001062760504896523208001201566789582979070 W) (hv2 : Keeps W a v2) :
    Keeps W a (uartFrame v0 v1 v2) := by
  unfold uartFrame
  split
  · exact hv2
  · extract_lets -useContext -underBinder x2
    try clear_value x2
    refine Keeps.ite ?_ ?_
    · exact hv2
    · refine Keeps.ite ?_ ?_
      · refine keeps_uartDiscard (hW.of rfl) ?_
        exact hv2
      · split
        · refine keeps_uartRequest (hW.of rfl) ?_
          exact hv2
        · refine keeps_uartRead (hW.of rfl) ?_
          exact hv2
        · refine keeps_uartWrite (hW.of rfl) ?_
          exact hv2
        · refine keeps_uartDiscard (hW.of rfl) ?_
          exact hv2

theorem keeps_uartRegRead {W : Nat} {a : State} {v0 : List Sys2Proof.Byte} {v1 : State} (hW : Sub 1079266377271743719786849633599704777655473293104733376014001062760504896523208001201566789582979070 W) (hv1 : Keeps W a v1) :
    Keeps W a (uartRegRead v0 v1) := by
  unfold uartRegRead
  refine keeps_uartFrame (hW.of rfl) ?_
  exact hv1

theorem keeps_smbusAlertResponse {W : Nat} {a : State} {v0 : State} (hW : Sub 64 W) (hv0 : Keeps W a v0) :
    Keeps W a (smbusAlertResponse v0) := by
  unfold smbusAlertResponse
  refine keeps_onPort (hW.of rfl) ?_
  exact hv0

theorem keeps_portResetEnd {W : Nat} {a : State} {v0 : ℕ} {v1 : State} (hW : Sub 64 W) (hv1 : Keeps W a v1) :
    Keeps W a (portResetEnd v0 v1) := by
  unfold portResetEnd
  refine Keeps.ite ?_ ?_
  · refine keeps_onPort (hW.of rfl) ?_
    exact hv1
  · exact hv1

theorem keeps_onI3cBus {W : Nat} {a : State} {v0 : State → State} {v1 : State} (hW : Sub 0 W) (hv0 : ∀ t, Keeps W a t → Keeps W a (v0 t)) (hv1 : Keeps W a v1) :
    Keeps W a (onI3cBus v0 v1) := by
  unfold onI3cBus
  refine Keeps.ite ?_ ?_
  · refine hv0 _ ?_
    exact hv1
  · exact hv1

theorem keeps_registerWrite {W : Nat} {a : State} {v0 : ℕ} {v1 : List Sys2Proof.Byte} {v2 : ℕ} {v3 : List ℤ} {v4 : State} (hW : Sub 1079266377271743719786849633599704777655473293104733376014001062760504896523208001201566789582979070 W) (hv4 : Keeps W a v4) :
    Keeps W a (registerWrite v0 v1 v2 v3 v4) := by
  unfold registerWrite
  split
  · refine keeps_i3cTransfer (hW.of rfl) ?_
    exact hv4
  · refine keeps_smbusTransfer (hW.of rfl) ?_
    exact hv4
  · refine keeps_spiTransfer (hW.of rfl) ?_
    exact hv4
  · refine keeps_uartFrame (hW.of rfl) ?_
    exact hv4

theorem keeps_rstdaa {W : Nat} {a : State} {v0 : State} (hW : Sub 302231454903657293676672 W) (hv0 : Keeps W a v0) :
    Keeps W a (rstdaa v0) := by
  unfold rstdaa
  refine keeps_onI3c (hW.of rfl) (fun _ => (by constructor <;> first | exact fun h => Bool.noConfusion ((hW.bit (by rfl)).symm.trans h) | exact fun _ => rfl | (intro _; split <;> rfl))) ?_
  exact hv0

theorem keeps_setmwl {W : Nat} {a : State} {v0 : ℕ} {v1 : State} (hW : Sub 1208925819614629174706304 W) (hv1 : Keeps W a v1) :
    Keeps W a (setmwl v0 v1) := by
  unfold setmwl
  refine keeps_onI3c (hW.of rfl) (fun _ => (by constructor <;> first | exact fun h => Bool.noConfusion ((hW.bit (by rfl)).symm.trans h) | exact fun _ => rfl | (intro _; split <;> rfl))) ?_
  exact hv1

theorem keeps_ibiRequest {W : Nat} {a : State} {v0 : Bool} {v1 : State} (hW : Sub 14507109835375550096474304 W) (hv1 : Keeps W a v1) :
    Keeps W a (ibiRequest v0 v1) := by
  unfold ibiRequest
  refine Keeps.ite ?_ ?_
  · refine keeps_onPort (hW.of rfl) ?_
    refine keeps_onI3c (hW.of rfl) (fun _ => (by constructor <;> first | exact fun h => Bool.noConfusion ((hW.bit (by rfl)).symm.trans h) | exact fun _ => rfl | (intro _; split <;> rfl))) ?_
    exact hv1
  · refine keeps_onI3c (hW.of rfl) (fun _ => (by constructor <;> first | exact fun h => Bool.noConfusion ((hW.bit (by rfl)).symm.trans h) | exact fun _ => rfl | (intro _; split <;> rfl))) ?_
    exact hv1

theorem keeps_getstatus {W : Nat} {a : State} {v0 : State} (hW : Sub 66 W) (hv0 : Keeps W a v0) :
    Keeps W a (getstatus v0) := by
  unfold getstatus
  refine Keeps.ite ?_ ?_
  · extract_lets -useContext -underBinder x0
    have hx0 : Keeps W a x0.2 := by
      refine keeps_drawFree (hW.of rfl) ?_
      · exact hv0
    refine keeps_directedGet (hW.of rfl) ?_
    exact hx0
  · exact hv0

theorem keeps_uartMailbox {W : Nat} {a : State} {v0 : List Sys2Proof.Byte} {v1 : List ℤ} {v2 : State} (hW : Sub 1079266377271743719786849633599704777655473293104733376014001062760504896523208001201566789582979070 W) (hv2 : Keeps W a v2) :
    Keeps W a (uartMailbox v0 v1 v2) := by
  unfold uartMailbox
  refine keeps_uartFrame (hW.of rfl) ?_
  exact hv2

theorem keeps_entdaa {W : Nat} {a : State} {v0 : ℕ} {v1 : State} (hW : Sub 302231454903657293676672 W) (hv1 : Keeps W a v1) :
    Keeps W a (entdaa v0 v1) := by
  unfold entdaa
  refine Keeps.ite ?_ ?_
  · refine keeps_onI3c (hW.of rfl) (fun _ => (by constructor <;> first | exact fun h => Bool.noConfusion ((hW.bit (by rfl)).symm.trans h) | exact fun _ => rfl | (intro _; split <;> rfl))) ?_
    exact hv1
  · exact hv1

theorem keeps_enec {W : Nat} {a : State} {v0 : ℕ} {v1 : State} (hW : Sub 604462909807314587353216 W) (hv1 : Keeps W a v1) :
    Keeps W a (enec v0 v1) := by
  unfold enec
  refine keeps_onI3c (hW.of rfl) (fun _ => (by constructor <;> first | exact fun h => Bool.noConfusion ((hW.bit (by rfl)).symm.trans h) | exact fun _ => rfl | (intro _; split <;> rfl))) ?_
  exact hv1

theorem keeps_getdcr {W : Nat} {a : State} {v0 : State} (hW : Sub 64 W) (hv0 : Keeps W a v0) :
    Keeps W a (getdcr v0) := by
  unfold getdcr
  refine keeps_directedGet (hW.of rfl) ?_
  exact hv0

theorem keeps_uartRegWrite {W : Nat} {a : State} {v0 : List Sys2Proof.Byte} {v1 : List ℤ} {v2 : State} (hW : Sub 1079266377271743719786849633599704777655473293104733376014001062760504896523208001201566789582979070 W) (hv2 : Keeps W a v2) :
    Keeps W a (uartRegWrite v0 v1 v2) := by
  unfold uartRegWrite
  refine keeps_uartFrame (hW.of rfl) ?_
  exact hv2

end Sys2Proof.Machine
end

