-- ==== Sys2Proof/Laws/KeepsOutputs.lean ====
section
/-! SUPPORT. What the operations of Machine/Outputs.lean keep (`Keeps`): one lemma for each. -/

namespace Sys2Proof.Machine

set_option linter.unusedVariables false
set_option linter.unusedTactic false
set_option linter.unreachableTactic false

theorem keeps_onTap {W : Nat} {a : State} {v0 : Tap → Tap} {v1 : State} (hW : Sub 536870912 W)
    (hv0 : ∀ c, TapK W c (v0 c)) (hv1 : Keeps W a v1) : Keeps W a (onTap v0 v1) :=
  Keeps.upd_29 (hW.bit rfl) (hv0 _) hv1

theorem keeps_shiftedOut {W : Nat} {a : State} {v0 : ℕ} {v1 : State} (hW : Sub 2580185942988830450562173507214847808396135612814316264204787444310288235599545409078770872248891934244864 W) (hv1 : Keeps W a v1) :
    Keeps W a (shiftedOut v0 v1) := by
  unfold shiftedOut
  refine keeps_onTap (hW.of rfl) (fun _ => (by constructor <;> first | exact fun h => Bool.noConfusion ((hW.bit (by rfl)).symm.trans h) | exact fun _ => rfl | (intro _; split <;> rfl))) ?_
  exact hv1

theorem keeps_captureDrScan {W : Nat} {a : State} {v0 : ℕ} {v1 : ℕ} {v2 : State} (hW : Sub 3726935250983866206367583954865891278794418107398456826073581864003749673643787813113780148803954777522176 W) (hv2 : Keeps W a v2) :
    Keeps W a (captureDrScan v0 v1 v2) := by
  unfold captureDrScan
  split
  · refine keeps_onTap (hW.of rfl) (fun _ => (by constructor <;> first | exact fun h => Bool.noConfusion ((hW.bit (by rfl)).symm.trans h) | exact fun _ => rfl | (intro _; split <;> rfl))) ?_
    refine keeps_shiftedOut (hW.of rfl) ?_
    exact hv2
  · refine keeps_onTap (hW.of rfl) (fun _ => (by constructor <;> first | exact fun h => Bool.noConfusion ((hW.bit (by rfl)).symm.trans h) | exact fun _ => rfl | (intro _; split <;> rfl))) ?_
    refine keeps_shiftedOut (hW.of rfl) ?_
    exact hv2
  · refine keeps_shiftedOut (hW.of rfl) ?_
    exact hv2
  · refine keeps_shiftedOut (hW.of rfl) ?_
    exact hv2
  · refine keeps_shiftedOut (hW.of rfl) ?_
    exact hv2
  · refine keeps_shiftedOut (hW.of rfl) ?_
    exact hv2

theorem keeps_testEnChange {W : Nat} {a : State} {v0 : Bool} {v1 : State} (hW : Sub 4586997231980143023221641790604173881593129978336562247475177678773845752176969616140037106220251909980160 W) (hv1 : Keeps W a v1) :
    Keeps W a (testEnChange v0 v1) := by
  unfold testEnChange
  refine keeps_onTap (hW.of rfl) (fun _ => (by constructor <;> first | exact fun h => Bool.noConfusion ((hW.bit (by rfl)).symm.trans h) | exact fun _ => rfl | (intro _; split <;> rfl))) ?_
  exact hv1

theorem keeps_tapLoad {W : Nat} {a : State} {v0 : BitVec 4} {v1 : State} (hW : Sub 3153560596986348328464878731040369543595276860106386545139184654157018954621666611096275510526423355883520 W) (hv1 : Keeps W a v1) :
    Keeps W a (tapLoad v0 v1) := by
  unfold tapLoad
  refine keeps_onTap (hW.of rfl) (fun _ => (by constructor <;> first | exact fun h => Bool.noConfusion ((hW.bit (by rfl)).symm.trans h) | exact fun _ => rfl | (intro _; split <;> rfl))) ?_
  exact hv1

theorem keeps_samplePreload {W : Nat} {a : State} {v0 : State} (hW : Sub 3153560596986348328464878731040369543595276860106386545139184654157018954621666611096275510526423355883520 W) (hv0 : Keeps W a v0) :
    Keeps W a (samplePreload v0) := by
  unfold samplePreload
  refine keeps_tapLoad (hW.of rfl) ?_
  exact hv0

theorem keeps_bypass {W : Nat} {a : State} {v0 : State} (hW : Sub 3153560596986348328464878731040369543595276860106386545139184654157018954621666611096275510526423355883520 W) (hv0 : Keeps W a v0) :
    Keeps W a (bypass v0) := by
  unfold bypass
  refine keeps_tapLoad (hW.of rfl) ?_
  exact hv0

theorem keeps_highz {W : Nat} {a : State} {v0 : State} (hW : Sub 3153560596986348328464878731040369543595276860106386545139184654157018954621666611096275510526423355883520 W) (hv0 : Keeps W a v0) :
    Keeps W a (highz v0) := by
  unfold highz
  refine keeps_tapLoad (hW.of rfl) ?_
  exact hv0

theorem keeps_idcode {W : Nat} {a : State} {v0 : State} (hW : Sub 3153560596986348328464878731040369543595276860106386545139184654157018954621666611096275510526423355883520 W) (hv0 : Keeps W a v0) :
    Keeps W a (idcode v0) := by
  unfold idcode
  refine keeps_tapLoad (hW.of rfl) ?_
  exact hv0

theorem keeps_tapReset {W : Nat} {a : State} {v0 : State} (hW : Sub 860061980996276816854057835738282602798711870938105421401595814770096078533181803026256957416297669328896 W) (hv0 : Keeps W a v0) :
    Keeps W a (tapReset v0) := by
  unfold tapReset
  refine keeps_onTap (hW.of rfl) (fun _ => (by constructor <;> first | exact fun h => Bool.noConfusion ((hW.bit (by rfl)).symm.trans h) | exact fun _ => rfl | (intro _; split <;> rfl))) ?_
  exact hv0

theorem keeps_extest {W : Nat} {a : State} {v0 : State} (hW : Sub 3153560596986348328464878731040369543595276860106386545139184654157018954621666611096275510526423355883520 W) (hv0 : Keeps W a v0) :
    Keeps W a (extest v0) := by
  unfold extest
  refine keeps_tapLoad (hW.of rfl) ?_
  exact hv0

theorem keeps_clamp {W : Nat} {a : State} {v0 : State} (hW : Sub 3153560596986348328464878731040369543595276860106386545139184654157018954621666611096275510526423355883520 W) (hv0 : Keeps W a v0) :
    Keeps W a (clamp v0) := by
  unfold clamp
  refine keeps_tapLoad (hW.of rfl) ?_
  exact hv0

end Sys2Proof.Machine
end

