-- ==== Sys2Proof/Laws/KeepsExecBackground.lean ====
section
/-! SUPPORT. What the operations of Machine/ExecBackground.lean keep (`Keeps`): one lemma for each. -/

namespace Sys2Proof.Machine

set_option linter.unusedVariables false
set_option linter.unusedTactic false
set_option linter.unreachableTactic false

theorem keeps_execTelemetryRead {W : Nat} {a : State} {v0 : Sys2Proof.Req} {v1 : State} (hW : Sub 154742505343018098589966946 W) (hv1 : Keeps W a v1) :
    ∃ t, execTelemetryRead v0 v1 = .next t ∧ Keeps W a t := by
  refine ⟨_, rfl, ?_⟩
  refine keeps_serve (hW.of rfl) ?_ ?_
  · exact keeps_cmdTelemetryRead (hW.of rfl)
  · exact hv1

theorem keeps_execBackgroundWindow {W : Nat} {a : State} {v0 : State} (hW : Sub 2090694862362246074261478498733318253715456 W) (hv0 : Keeps W a v0) :
    ∃ t, execBackgroundWindow v0 = .next t ∧ Keeps W a t := by
  refine ⟨_, rfl, ?_⟩
  refine keeps_onLive (hW.of rfl) ?_ ?_
  · intro t0 ht0
    refine keeps_backgroundWindow (hW.of rfl) ?_
    exact ht0
  · exact hv0

theorem keeps_execBankScrub {W : Nat} {a : State} {v0 : Bool} {v1 : List (ℕ × Bool)} {v2 : State} (hW : Sub 6257643361376515438427774418794910362021135865152824040450192853399150 W) (hv2 : Keeps W a v2) :
    ∃ t, execBankScrub v0 v1 v2 = .next t ∧ Keeps W a t := by
  refine ⟨_, rfl, ?_⟩
  refine keeps_onClock (hW.of rfl) ?_ ?_
  · intro t0 ht0
    refine keeps_bankScrub (hW.of rfl) ?_
    exact ht0
  · exact hv2

theorem keeps_execTelemetry {W : Nat} {a : State} {v0 : List (ℕ × Bool)} {v1 : State} (hW : Sub 6254707626778948432362748840672410234210493059020483271261176855666694 W) (hv1 : Keeps W a v1) :
    ∃ t, execTelemetry v0 v1 = .next t ∧ Keeps W a t := by
  refine ⟨_, rfl, ?_⟩
  refine keeps_onClock (hW.of rfl) ?_ ?_
  · intro t0 ht0
    refine keeps_telemetry (hW.of rfl) ?_
    exact ht0
  · exact hv1

theorem keeps_execCompaction {W : Nat} {a : State} {v0 : State} (hW : Sub 52863883890177645072202124559036959869329422 W) (hv0 : Keeps W a v0) :
    ∃ t, execCompaction v0 = .next t ∧ Keeps W a t := by
  refine ⟨_, rfl, ?_⟩
  refine keeps_onClock (hW.of rfl) ?_ ?_
  · intro t0 ht0
    refine keeps_compaction (hW.of rfl) ?_
    exact ht0
  · exact hv0

theorem keeps_execCheckpoint {W : Nat} {a : State} {v0 : State} (hW : Sub 2439144006129851880055277437591343404834822 W) (hv0 : Keeps W a v0) :
    ∃ t, execCheckpoint v0 = .next t ∧ Keeps W a t := by
  refine ⟨_, rfl, ?_⟩
  refine keeps_onClock (hW.of rfl) ?_ ?_
  · intro t0 ht0
    refine keeps_checkpoint (hW.of rfl) ?_
    exact ht0
  · exact hv0

theorem keeps_execBackground {W : Nat} {a : State} {v0 : Sys2Proof.Req} {v1 : ℕ} {v2 : ℕ} {v3 : State} (hW : Sub 2439144006089287060847974529089013129814624 W) (hv3 : Keeps W a v3) :
    ∃ t, execBackground v0 v1 v2 v3 = .next t ∧ Keeps W a t := by
  refine ⟨_, rfl, ?_⟩
  refine keeps_serve (hW.of rfl) ?_ ?_
  · exact keeps_cmdBackground (hW.of rfl)
  · exact hv3

theorem keeps_execLedgerRead {W : Nat} {a : State} {v0 : Sys2Proof.Req} {v1 : ℕ} {v2 : ℕ} {v3 : State} (hW : Sub 154742505343018098589966944 W) (hv3 : Keeps W a v3) :
    ∃ t, execLedgerRead v0 v1 v2 v3 = .next t ∧ Keeps W a t := by
  refine ⟨_, rfl, ?_⟩
  refine keeps_serve (hW.of rfl) ?_ ?_
  · exact keeps_cmdLedgerRead (hW.of rfl)
  · exact hv3

theorem keeps_execFaScrub {W : Nat} {a : State} {v0 : List ℕ} {v1 : List ℕ} {v2 : State} (hW : Sub 218615307934772124422364466550205797116720187195182759251091463829102 W) (hv2 : Keeps W a v2) :
    ∃ t, execFaScrub v0 v1 v2 = .next t ∧ Keeps W a t := by
  refine ⟨_, rfl, ?_⟩
  refine keeps_onClock (hW.of rfl) ?_ ?_
  · intro t0 ht0
    refine keeps_faScrub (hW.of rfl) ?_
    exact ht0
  · exact hv2

theorem keeps_execFumaroleStep {W : Nat} {a : State} {v0 : ℕ} {v1 : List ℕ} {v2 : List ℕ} {v3 : List ℕ} {v4 : Bool} {v5 : List (ℕ × Bool)} {v6 : State} (hW : Sub 24078409584691798975769335214667294755553883277398849616647126716114484286961798197805054 W) (hv6 : Keeps W a v6) :
    ∃ t, execFumaroleStep v0 v1 v2 v3 v4 v5 v6 = .next t ∧ Keeps W a t := by
  refine ⟨_, rfl, ?_⟩
  refine keeps_onClock (hW.of rfl) ?_ ?_
  · intro t0 ht0
    refine Keeps.ite ?_ ?_
    · refine keeps_watchdog (hW.of rfl) ?_
      exact ht0
    · refine keeps_fumaroleStep (hW.of rfl) ?_
      exact ht0
  · exact hv6

theorem keeps_execSaScrub {W : Nat} {a : State} {v0 : List ℕ} {v1 : State} (hW : Sub 2907416266629385926978954717749171875764985870 W) (hv1 : Keeps W a v1) :
    ∃ t, execSaScrub v0 v1 = .next t ∧ Keeps W a t := by
  refine ⟨_, rfl, ?_⟩
  refine keeps_onClock (hW.of rfl) ?_ ?_
  · intro t0 ht0
    refine keeps_saScrub (hW.of rfl) ?_
    exact ht0
  · exact hv1

end Sys2Proof.Machine
end

