-- ==== Sys2Proof/Laws/KeepsExecCharger.lean ====
section
/-! SUPPORT. What the operations of Machine/ExecCharger.lean keep (`Keeps`): one lemma for each. -/

namespace Sys2Proof.Machine

set_option linter.unusedVariables false
set_option linter.unusedTactic false
set_option linter.unreachableTactic false

theorem keeps_execGaugeUpdate {W : Nat} {a : State} {v0 : State} (hW : Sub 4454318137516643932742871300128117120650418769886054517491894763081240046565858214119029166968309559872 W) (hv0 : Keeps W a v0) :
    ∃ t, execGaugeUpdate v0 = .next t ∧ Keeps W a t := by
  refine ⟨_, rfl, ?_⟩
  refine keeps_onLive (hW.of rfl) ?_ ?_
  · intro t0 ht0
    refine keeps_gaugeUpdate (hW.of rfl) ?_
    exact ht0
  · exact hv0

theorem keeps_execGaugeRead {W : Nat} {a : State} {v0 : Sys2Proof.Req} {v1 : State} (hW : Sub 154742505343018098589966946 W) (hv1 : Keeps W a v1) :
    ∃ t, execGaugeRead v0 v1 = .next t ∧ Keeps W a t := by
  refine ⟨_, rfl, ?_⟩
  refine keeps_serve (hW.of rfl) ?_ ?_
  · exact keeps_cmdGaugeRead (hW.of rfl)
  · exact hv1

theorem keeps_execRestEnd {W : Nat} {a : State} {v0 : State} (hW : Sub 437226976510609643118763817005283537377269797098221894758966187765528802388825053286586150121124360782 W) (hv0 : Keeps W a v0) :
    ∃ t, execRestEnd v0 = .next t ∧ Keeps W a t := by
  refine ⟨_, rfl, ?_⟩
  refine keeps_onLive (hW.of rfl) ?_ ?_
  · intro t0 ht0
    refine keeps_restEnd (hW.of rfl) ?_
    exact ht0
  · exact hv0

theorem keeps_execRecoveryFailed {W : Nat} {a : State} {v0 : State} (hW : Sub 34234679739724992492664467592839960592172004055348511345426200358211519743508729759106183196799566 W) (hv0 : Keeps W a v0) :
    ∃ t, execRecoveryFailed v0 = .next t ∧ Keeps W a t := by
  refine ⟨_, rfl, ?_⟩
  refine keeps_onLive (hW.of rfl) ?_ ?_
  · intro t0 ht0
    refine keeps_recoveryFailed (hW.of rfl) ?_
    exact ht0
  · exact hv0

theorem keeps_execChgTimeout {W : Nat} {a : State} {v0 : State} (hW : Sub 34234687251295172300587652575686356995646741996662284047833721226006969083910936121793529312671358 W) (hv0 : Keeps W a v0) :
    ∃ t, execChgTimeout v0 = .next t ∧ Keeps W a t := by
  refine ⟨_, rfl, ?_⟩
  refine keeps_onLive (hW.of rfl) ?_ ?_
  · intro t0 ht0
    refine keeps_chgTimeout (hW.of rfl) ?_
    exact ht0
  · exact hv0

theorem keeps_execPrechargeExit {W : Nat} {a : State} {v0 : State} (hW : Sub 34176273334953993025646626447753654395623913729878204959455006347596240916591367573942310396768832 W) (hv0 : Keeps W a v0) :
    ∃ t, execPrechargeExit v0 = .next t ∧ Keeps W a t := by
  refine ⟨_, rfl, ?_⟩
  refine keeps_onLive (hW.of rfl) ?_ ?_
  · intro t0 ht0
    refine keeps_prechargeExit (hW.of rfl) ?_
    exact ht0
  · exact hv0

theorem keeps_execQiDelivery {W : Nat} {a : State} {v0 : ℤ} {v1 : State} (hW : Sub 11420769134797495376513722225290714670612750336 W) (hv1 : Keeps W a v1) :
    ∃ t, execQiDelivery v0 v1 = .next t ∧ Keeps W a t := by
  refine ⟨_, rfl, ?_⟩
  refine keeps_onLive (hW.of rfl) ?_ ?_
  · intro t0 ht0
    refine keeps_qiDelivery (hW.of rfl) ?_
    exact ht0
  · exact hv1

theorem keeps_execBatteryEmpty {W : Nat} {a : State} {v0 : State} (hW : Sub 437261110103923384332208486002528483756657904873698357253712162509919006305127588866834216117858169454 W) (hv0 : Keeps W a v0) :
    ∃ t, execBatteryEmpty v0 = .next t ∧ Keeps W a t := by
  refine ⟨_, rfl, ?_⟩
  refine keeps_onLive (hW.of rfl) ?_ ?_
  · intro t0 ht0
    refine keeps_batteryEmpty (hW.of rfl) ?_
    exact ht0
  · exact hv0

theorem keeps_execDoneTimer {W : Nat} {a : State} {v0 : State} (hW : Sub 34176273316717188799877594794495310124068095964412048233354740524063111808450193712575838014157376 W) (hv0 : Keeps W a v0) :
    ∃ t, execDoneTimer v0 = .next t ∧ Keeps W a t := by
  refine ⟨_, rfl, ?_⟩
  refine keeps_onLive (hW.of rfl) ?_ ?_
  · intro t0 ht0
    refine keeps_doneTimer (hW.of rfl) ?_
    exact ht0
  · exact hv0

theorem keeps_execStepDecision {W : Nat} {a : State} {v0 : State} (hW : Sub 17537579923609130833480765744428978563222699704864175782971909919381155212897421299294239260558766656 W) (hv0 : Keeps W a v0) :
    ∃ t, execStepDecision v0 = .next t ∧ Keeps W a t := by
  refine ⟨_, rfl, ?_⟩
  refine keeps_onLive (hW.of rfl) ?_ ?_
  · intro t0 ht0
    refine keeps_stepDecision (hW.of rfl) ?_
    exact ht0
  · exact hv0

theorem keeps_execChargeControl {W : Nat} {a : State} {v0 : Sys2Proof.Req} {v1 : ℕ} {v2 : ℕ} {v3 : State} (hW : Sub 34234679325952059799721981319561930134017065091768993882032899447745490968400028677023978980864622 W) (hv3 : Keeps W a v3) :
    ∃ t, execChargeControl v0 v1 v2 v3 = .next t ∧ Keeps W a t := by
  refine ⟨_, rfl, ?_⟩
  refine keeps_serve (hW.of rfl) ?_ ?_
  · exact keeps_cmdChargeControl (hW.of rfl)
  · exact hv3

theorem keeps_execPhaseWholeSecond {W : Nat} {a : State} {v0 : State} (hW : Sub 437226993198004381207980888253956570579314087747490992039304444905947198849242208367686133004605026894 W) (hv0 : Keeps W a v0) :
    ∃ t, execPhaseWholeSecond v0 = .next t ∧ Keeps W a t := by
  refine ⟨_, rfl, ?_⟩
  refine keeps_onLive (hW.of rfl) ?_ ?_
  · intro t0 ht0
    refine keeps_phaseWholeSecond (hW.of rfl) ?_
    exact ht0
  · exact hv0

theorem keeps_execRestAnchor {W : Nat} {a : State} {v0 : State} (hW : Sub 437201569465297088963661724772468791443296996439853231819101972495917546314887885137079882160850296846 W) (hv0 : Keeps W a v0) :
    ∃ t, execRestAnchor v0 = .next t ∧ Keeps W a t := by
  refine ⟨_, rfl, ?_⟩
  refine keeps_onLive (hW.of rfl) ?_ ?_
  · intro t0 ht0
    refine keeps_restAnchor (hW.of rfl) ?_
    exact ht0
  · exact hv0

theorem keeps_execBootRest {W : Nat} {a : State} {v0 : State} (hW : Sub 39632777110924360372839695706525453496933105356157673838130514696577046249243789613722259749314985423438 W) (hv0 : Keeps W a v0) :
    ∃ t, execBootRest v0 = .next t ∧ Keeps W a t := by
  refine ⟨_, rfl, ?_⟩
  refine keeps_onLive (hW.of rfl) ?_ ?_
  · intro t0 ht0
    refine keeps_bootRest (hW.of rfl) ?_
    exact ht0
  · exact hv0

theorem keeps_execGaugeRelearn {W : Nat} {a : State} {v0 : Sys2Proof.Req} {v1 : State} (hW : Sub 839442905116917662381243530524633981038862877286164538639625532911389647832214272977538633500418670 W) (hv1 : Keeps W a v1) :
    ∃ t, execGaugeRelearn v0 v1 = .next t ∧ Keeps W a t := by
  refine ⟨_, rfl, ?_⟩
  refine keeps_serve (hW.of rfl) ?_ ?_
  · exact keeps_cmdGaugeRelearn (hW.of rfl)
  · exact hv1

theorem keeps_execPulseEnd {W : Nat} {a : State} {v0 : Bool} {v1 : State} (hW : Sub 24444794023762233133693076636179410552923070095391216537722180595533451617603906357621170178 W) (hv1 : Keeps W a v1) :
    ∃ t, execPulseEnd v0 v1 = .next t ∧ Keeps W a t := by
  refine ⟨_, rfl, ?_⟩
  refine keeps_onLive (hW.of rfl) ?_ ?_
  · intro t0 ht0
    refine keeps_pulseEnd (hW.of rfl) ?_
    exact ht0
  · exact hv1

theorem keeps_execChargeStatus {W : Nat} {a : State} {v0 : Sys2Proof.Req} {v1 : State} (hW : Sub 154742505343018098589966946 W) (hv1 : Keeps W a v1) :
    ∃ t, execChargeStatus v0 v1 = .next t ∧ Keeps W a t := by
  refine ⟨_, rfl, ?_⟩
  refine keeps_serve (hW.of rfl) ?_ ?_
  · exact keeps_cmdChargeStatus (hW.of rfl)
  · exact hv1

end Sys2Proof.Machine
end

