-- ==== Sys2Proof/Laws/KeepsExecFaults.lean ====
section
/-! SUPPORT. What the operations of Machine/ExecFaults.lean keep (`Keeps`): one lemma for each. -/

namespace Sys2Proof.Machine

set_option linter.unusedVariables false
set_option linter.unusedTactic false
set_option linter.unreachableTactic false

theorem keeps_execCaptureStatus {W : Nat} {a : State} {v0 : Sys2Proof.Req} {v1 : State} (hW : Sub 154742505343018098589966944 W) (hv1 : Keeps W a v1) :
    ∃ t, execCaptureStatus v0 v1 = .next t ∧ Keeps W a t := by
  refine ⟨_, rfl, ?_⟩
  refine keeps_serve (hW.of rfl) ?_ ?_
  · exact keeps_cmdCaptureStatus (hW.of rfl)
  · exact hv1

theorem keeps_execSenseCheck {W : Nat} {a : State} {v0 : Sys2Proof.Req} {v1 : ℕ} {v2 : State} (hW : Sub 218615307934772124422363036863369085037128608398267050394683892004462 W) (hv2 : Keeps W a v2) :
    ∃ t, execSenseCheck v0 v1 v2 = .next t ∧ Keeps W a t := by
  refine ⟨_, rfl, ?_⟩
  refine keeps_serve (hW.of rfl) ?_ ?_
  · exact keeps_cmdSenseCheck (hW.of rfl)
  · exact hv2

theorem keeps_execPipeFrame {W : Nat} {a : State} {v0 : List ℕ} {v1 : Bool} {v2 : ℕ} {v3 : List (ℕ × ℕ × Bool)} {v4 : State} (hW : Sub 6255023563656712595896399854216650352229644902588633104042265384334916 W) (hv4 : Keeps W a v4) :
    ∃ t, execPipeFrame v0 v1 v2 v3 v4 = .next t ∧ Keeps W a t := by
  refine ⟨_, rfl, ?_⟩
  refine keeps_onClock (hW.of rfl) ?_ ?_
  · intro t0 ht0
    refine keeps_pipeFrame (hW.of rfl) ?_
    exact ht0
  · exact hv4

theorem keeps_execDieOt {W : Nat} {a : State} {v0 : ℕ} {v1 : List (ℕ × ℕ × ℤ)} {v2 : State} (hW : Sub 34234687251295172300587652575686356995646741996662284047833721226006969083910936121793529312671358 W) (hv2 : Keeps W a v2) :
    ∃ t, execDieOt v0 v1 v2 = .next t ∧ Keeps W a t := by
  refine ⟨_, rfl, ?_⟩
  refine keeps_onPower (hW.of rfl) ?_ ?_
  · intro t0 ht0
    refine keeps_dieOt (hW.of rfl) ?_
    exact ht0
  · exact hv2

theorem keeps_execSysUv {W : Nat} {a : State} {v0 : ℕ} {v1 : List (ℕ × ℕ × ℤ)} {v2 : State} (hW : Sub 34234687251295172300587652575686356995646741996662284047833721226006969083910936121793529312671358 W) (hv2 : Keeps W a v2) :
    ∃ t, execSysUv v0 v1 v2 = .next t ∧ Keeps W a t := by
  refine ⟨_, rfl, ?_⟩
  refine keeps_onLive (hW.of rfl) ?_ ?_
  · intro t0 ht0
    refine keeps_sysUv (hW.of rfl) ?_
    exact ht0
  · exact hv2

theorem keeps_execCaptureRead {W : Nat} {a : State} {v0 : Sys2Proof.Req} {v1 : ℕ} {v2 : ℕ} {v3 : State} (hW : Sub 218615307934772124422363036863369085067552222803744556030604768933486 W) (hv3 : Keeps W a v3) :
    ∃ t, execCaptureRead v0 v1 v2 v3 = .next t ∧ Keeps W a t := by
  refine ⟨_, rfl, ?_⟩
  refine keeps_serve (hW.of rfl) ?_ ?_
  · exact keeps_cmdCaptureRead (hW.of rfl)
  · exact hv3

theorem keeps_execUvFast {W : Nat} {a : State} {v0 : ℕ} {v1 : ℤ} {v2 : List (ℕ × ℕ × ℤ)} {v3 : State} (hW : Sub 34234687251295172300587652575686356995646741996662284047833721226006969083910936121793529312671358 W) (hv3 : Keeps W a v3) :
    ∃ t, execUvFast v0 v1 v2 v3 = .next t ∧ Keeps W a t := by
  refine ⟨_, rfl, ?_⟩
  refine keeps_onLive (hW.of rfl) ?_ ?_
  · intro t0 ht0
    refine keeps_uvFast (hW.of rfl) ?_
    exact ht0
  · exact hv3

theorem keeps_execSenseCheckPeriodic {W : Nat} {a : State} {v0 : List (ℕ × ℤ × ℤ)} {v1 : State} (hW : Sub 218615307934775189413444768641085801731182909016633855527364031641198 W) (hv1 : Keeps W a v1) :
    ∃ t, execSenseCheckPeriodic v0 v1 = .next t ∧ Keeps W a t := by
  refine ⟨_, rfl, ?_⟩
  refine keeps_onClock (hW.of rfl) ?_ ?_
  · intro t0 ht0
    refine keeps_senseCheckPeriodic (hW.of rfl) ?_
    exact ht0
  · exact hv1

theorem keeps_execFaultnPulseEnd {W : Nat} {a : State} {v0 : State} (hW : Sub 47890485652059026823698344598447161988085597569286144 W) (hv0 : Keeps W a v0) :
    ∃ t, execFaultnPulseEnd v0 = .next t ∧ Keeps W a t := by
  refine ⟨_, rfl, ?_⟩
  refine keeps_onLive (hW.of rfl) ?_ ?_
  · intro t0 ht0
    refine keeps_faultnPulseEnd (hW.of rfl) ?_
    exact ht0
  · exact hv0

theorem keeps_execVinOv {W : Nat} {a : State} {v0 : ℕ} {v1 : ℕ} {v2 : List (ℕ × ℕ × ℤ)} {v3 : State} (hW : Sub 34234687251295172300587652575686356995646741996662284047833721226006969083910936121793529312671358 W) (hv3 : Keeps W a v3) :
    ∃ t, execVinOv v0 v1 v2 v3 = .next t ∧ Keeps W a t := by
  refine ⟨_, rfl, ?_⟩
  refine keeps_onPower (hW.of rfl) ?_ ?_
  · intro t0 ht0
    refine keeps_vinOv (hW.of rfl) ?_
    exact ht0
  · exact hv3

theorem keeps_execFaultVerifyResult {W : Nat} {a : State} {v0 : ℕ} {v1 : ℤ} {v2 : State} (hW : Sub 39492109375724659077323842249552938138907026250233257307078131712 W) (hv2 : Keeps W a v2) :
    ∃ t, execFaultVerifyResult v0 v1 v2 = .next t ∧ Keeps W a t := by
  refine ⟨_, rfl, ?_⟩
  refine keeps_onLive (hW.of rfl) ?_ ?_
  · intro t0 ht0
    refine keeps_faultVerifyResult (hW.of rfl) ?_
    exact ht0
  · exact hv2

theorem keeps_execFaultClear {W : Nat} {a : State} {v0 : Sys2Proof.Req} {v1 : List (ℕ × ℕ)} {v2 : State} (hW : Sub 34234712841559607928063370345623513522324559808343197725776464931371352369635733278355317525017198 W) (hv2 : Keeps W a v2) :
    ∃ t, execFaultClear v0 v1 v2 = .next t ∧ Keeps W a t := by
  refine ⟨_, rfl, ?_⟩
  refine keeps_serve (hW.of rfl) ?_ ?_
  · exact keeps_cmdFaultClearAll (hW.of rfl)
  · exact hv2

theorem keeps_execOvFast {W : Nat} {a : State} {v0 : ℕ} {v1 : ℤ} {v2 : List (ℕ × ℕ × ℤ)} {v3 : State} (hW : Sub 34234687251295172300587652575686356995646741996662284047833721226006969083910936121793529312671358 W) (hv3 : Keeps W a v3) :
    ∃ t, execOvFast v0 v1 v2 v3 = .next t ∧ Keeps W a t := by
  refine ⟨_, rfl, ?_⟩
  refine keeps_onLive (hW.of rfl) ?_ ?_
  · intro t0 ht0
    refine keeps_ovFast (hW.of rfl) ?_
    exact ht0
  · exact hv3

theorem keeps_execBatReverse {W : Nat} {a : State} {v0 : List (ℕ × ℕ × ℤ)} {v1 : State} (hW : Sub 34234687251295172300587652575686356995646741996662284047833721226006969083910936121793529312671358 W) (hv1 : Keeps W a v1) :
    ∃ t, execBatReverse v0 v1 = .next t ∧ Keeps W a t := by
  refine ⟨_, rfl, ?_⟩
  refine keeps_onPower (hW.of rfl) ?_ ?_
  · intro t0 ht0
    refine keeps_batReverse (hW.of rfl) ?_
    exact ht0
  · exact hv1

theorem keeps_execFaultReport {W : Nat} {a : State} {v0 : State} (hW : Sub 8979466110199248566700656293953874815942493698486860 W) (hv0 : Keeps W a v0) :
    ∃ t, execFaultReport v0 = .next t ∧ Keeps W a t := by
  refine ⟨_, rfl, ?_⟩
  refine keeps_onLive (hW.of rfl) ?_ ?_
  · intro t0 ht0
    refine keeps_faultReport (hW.of rfl) ?_
    exact ht0
  · exact hv0

theorem keeps_execCaptureFreeze {W : Nat} {a : State} {v0 : State} (hW : Sub 6295491681877071430136089628098289333609121161824742424582 W) (hv0 : Keeps W a v0) :
    ∃ t, execCaptureFreeze v0 = .next t ∧ Keeps W a t := by
  refine ⟨_, rfl, ?_⟩
  refine keeps_onClock (hW.of rfl) ?_ ?_
  · intro t0 ht0
    refine keeps_captureFreeze (hW.of rfl) ?_
    exact ht0
  · exact hv0

theorem keeps_execRetryCountReset {W : Nat} {a : State} {v0 : ℕ} {v1 : State} (hW : Sub 262144 W) (hv1 : Keeps W a v1) :
    ∃ t, execRetryCountReset v0 v1 = .next t ∧ Keeps W a t := by
  refine ⟨_, rfl, ?_⟩
  refine keeps_onLive (hW.of rfl) ?_ ?_
  · intro t0 ht0
    refine keeps_retryCountReset (hW.of rfl) ?_
    exact ht0
  · exact hv1

theorem keeps_execCaptureRecordCommit {W : Nat} {a : State} {v0 : List (ℕ × ℕ)} {v1 : State} (hW : Sub 215679573343500610039213192126293135017195599456438611683188003598916 W) (hv1 : Keeps W a v1) :
    ∃ t, execCaptureRecordCommit v0 v1 = .next t ∧ Keeps W a t := by
  refine ⟨_, rfl, ?_⟩
  refine keeps_onClock (hW.of rfl) ?_ ?_
  · intro t0 ht0
    refine keeps_captureRecordCommit (hW.of rfl) ?_
    exact ht0
  · exact hv1

theorem keeps_execFaultInject {W : Nat} {a : State} {v0 : Sys2Proof.Req} {v1 : ℕ} {v2 : ℕ} {v3 : State} (hW : Sub 34234687259376674892246685510630859937599535169978927679374722616733541056126425288642705229873150 W) (hv3 : Keeps W a v3) :
    ∃ t, execFaultInject v0 v1 v2 v3 = .next t ∧ Keeps W a t := by
  refine ⟨_, rfl, ?_⟩
  refine keeps_serve (hW.of rfl) ?_ ?_
  · exact keeps_cmdFaultInject (hW.of rfl)
  · exact hv3

theorem keeps_execFaultStatus {W : Nat} {a : State} {v0 : Sys2Proof.Req} {v1 : ℕ} {v2 : State} (hW : Sub 154742505343018098589966944 W) (hv2 : Keeps W a v2) :
    ∃ t, execFaultStatus v0 v1 v2 = .next t ∧ Keeps W a t := by
  refine ⟨_, rfl, ?_⟩
  refine keeps_serve (hW.of rfl) ?_ ?_
  · exact keeps_cmdFaultStatus (hW.of rfl)
  · exact hv2

theorem keeps_execPgLoss {W : Nat} {a : State} {v0 : ℕ} {v1 : Bool} {v2 : ℤ} {v3 : List (ℕ × ℕ × ℤ)} {v4 : State} (hW : Sub 34234687251295172300587652575686356995646741996662284047833721226006969083910936121793529312671358 W) (hv4 : Keeps W a v4) :
    ∃ t, execPgLoss v0 v1 v2 v3 v4 = .next t ∧ Keeps W a t := by
  refine ⟨_, rfl, ?_⟩
  refine keeps_onLive (hW.of rfl) ?_ ?_
  · intro t0 ht0
    refine keeps_pgLoss (hW.of rfl) ?_
    exact ht0
  · exact hv4

theorem keeps_execResvLow {W : Nat} {a : State} {v0 : State} (hW : Sub 34234687251295172300587652575686356995646741996662284047833721226006969083910936121793529312671358 W) (hv0 : Keeps W a v0) :
    ∃ t, execResvLow v0 = .next t ∧ Keeps W a t := by
  refine ⟨_, rfl, ?_⟩
  refine keeps_onLive (hW.of rfl) ?_ ?_
  · intro t0 ht0
    refine keeps_resvLow (hW.of rfl) ?_
    exact ht0
  · exact hv0

theorem keeps_execCaptureMarkerCommit {W : Nat} {a : State} {v0 : State} (hW : Sub 12259964326927110866866816782021680772290760871973502980 W) (hv0 : Keeps W a v0) :
    ∃ t, execCaptureMarkerCommit v0 = .next t ∧ Keeps W a t := by
  refine ⟨_, rfl, ?_⟩
  refine keeps_onClock (hW.of rfl) ?_ ?_
  · intro t0 ht0
    refine keeps_markerTry (hW.of rfl) ?_
    exact ht0
  · exact hv0

theorem keeps_execCaptureClear {W : Nat} {a : State} {v0 : Sys2Proof.Req} {v1 : State} (hW : Sub 349408983317422659705703162755244443673756385850955948644 W) (hv1 : Keeps W a v1) :
    ∃ t, execCaptureClear v0 v1 = .next t ∧ Keeps W a t := by
  refine ⟨_, rfl, ?_⟩
  refine keeps_serve (hW.of rfl) ?_ ?_
  · exact keeps_cmdCaptureClear (hW.of rfl)
  · exact hv1

theorem keeps_execCaptureTest {W : Nat} {a : State} {v0 : Sys2Proof.Req} {v1 : State} (hW : Sub 42909875144244888034033716760363399646667713519732925026 W) (hv1 : Keeps W a v1) :
    ∃ t, execCaptureTest v0 v1 = .next t ∧ Keeps W a t := by
  refine ⟨_, rfl, ?_⟩
  refine keeps_serve (hW.of rfl) ?_ ?_
  · exact keeps_cmdCaptureTest (hW.of rfl)
  · exact hv1

theorem keeps_execEnShort {W : Nat} {a : State} {v0 : ℕ} {v1 : Bool} {v2 : List (ℕ × ℕ × ℤ)} {v3 : State} (hW : Sub 34234687251295172300587652575686356995646741996662284047833721226006969083910936121793529312671358 W) (hv3 : Keeps W a v3) :
    ∃ t, execEnShort v0 v1 v2 v3 = .next t ∧ Keeps W a t := by
  refine ⟨_, rfl, ?_⟩
  refine keeps_onLive (hW.of rfl) ?_ ?_
  · intro t0 ht0
    refine keeps_enShort (hW.of rfl) ?_
    exact ht0
  · exact hv3

theorem keeps_execVinReverse {W : Nat} {a : State} {v0 : ℕ} {v1 : List (ℕ × ℕ × ℤ)} {v2 : State} (hW : Sub 34234687251295172300587652575686356995646741996662284047833721226006969083910936121793529312671358 W) (hv2 : Keeps W a v2) :
    ∃ t, execVinReverse v0 v1 v2 = .next t ∧ Keeps W a t := by
  refine ⟨_, rfl, ?_⟩
  refine keeps_onPower (hW.of rfl) ?_ ?_
  · intro t0 ht0
    refine keeps_vinReverse (hW.of rfl) ?_
    exact ht0
  · exact hv2

theorem keeps_execFaultRetry {W : Nat} {a : State} {v0 : ℕ} {v1 : ℤ} {v2 : State} (hW : Sub 210624583337114379241842604690952537452684264171140973666723705408 W) (hv2 : Keeps W a v2) :
    ∃ t, execFaultRetry v0 v1 v2 = .next t ∧ Keeps W a t := by
  refine ⟨_, rfl, ?_⟩
  refine keeps_onLive (hW.of rfl) ?_ ?_
  · intro t0 ht0
    refine keeps_faultRetry (hW.of rfl) ?_
    exact ht0
  · exact hv2

end Sys2Proof.Machine
end

