-- ==== Sys2Proof/Laws/KeepsExecIntake.lean ====
section
/-! SUPPORT. What the operations of Machine/ExecIntake.lean keep (`Keeps`): one lemma for each. -/

namespace Sys2Proof.Machine

set_option linter.unusedVariables false
set_option linter.unusedTactic false
set_option linter.unreachableTactic false

theorem keeps_execRpChange {W : Nat} {a : State} {v0 : ℕ} {v1 : State} (hW : Sub 8834235323891921647916487503714592579137419484378094790608031006496653312 W) (hv1 : Keeps W a v1) :
    ∃ t, execRpChange v0 v1 = .next t ∧ Keeps W a t := by
  refine ⟨_, rfl, ?_⟩
  refine keeps_onPower (hW.of rfl) ?_ ?_
  · intro t0 ht0
    refine keeps_rpChange (hW.of rfl) ?_
    exact ht0
  · exact hv1

theorem keeps_execAccept {W : Nat} {a : State} {v0 : State} (hW : Sub 239823432329056972200192433957893961170247192587792900755144685820853309007338439673661202530267726 W) (hv0 : Keeps W a v0) :
    ∃ t, execAccept v0 = .next t ∧ Keeps W a t := by
  refine ⟨_, rfl, ?_⟩
  refine keeps_onPower (hW.of rfl) ?_ ?_
  · intro t0 ht0
    refine keeps_pdMessage (hW.of rfl) ?_
    exact ht0
  · exact hv0

theorem keeps_execPpsRequestRepeat {W : Nat} {a : State} {v0 : State} (hW : Sub 593886770189828767934174622329715714888060507289008049155499249228085733621760 W) (hv0 : Keeps W a v0) :
    ∃ t, execPpsRequestRepeat v0 = .next t ∧ Keeps W a t := by
  refine ⟨_, rfl, ?_⟩
  refine keeps_onLive (hW.of rfl) ?_ ?_
  · intro t0 ht0
    refine keeps_ppsRequestRepeat (hW.of rfl) ?_
    exact ht0
  · exact hv0

theorem keeps_execPanelPeriod {W : Nat} {a : State} {v0 : State} (hW : Sub 222320813130101356003386213064090703106360355536182853664992371646344550122790912 W) (hv0 : Keeps W a v0) :
    ∃ t, execPanelPeriod v0 = .next t ∧ Keeps W a t := by
  refine ⟨_, rfl, ?_⟩
  refine keeps_onLive (hW.of rfl) ?_ ?_
  · intro t0 ht0
    refine keeps_panelPeriod (hW.of rfl) ?_
    exact ht0
  · exact hv0

theorem keeps_execVocRemeasure {W : Nat} {a : State} {v0 : State} (hW : Sub 118571099406618769500898943798635441090856566107420373465086112244753141680046080 W) (hv0 : Keeps W a v0) :
    ∃ t, execVocRemeasure v0 = .next t ∧ Keeps W a t := by
  refine ⟨_, rfl, ?_⟩
  refine keeps_onLive (hW.of rfl) ?_ ?_
  · intro t0 ht0
    refine keeps_vocRemeasure (hW.of rfl) ?_
    exact ht0
  · exact hv0

theorem keeps_execIntakePolicy {W : Nat} {a : State} {v0 : Sys2Proof.Req} {v1 : ℕ} {v2 : ℕ} {v3 : State} (hW : Sub 34234679994354597893906106427595351851968354090044051490932066879770832795194129855030374846132846 W) (hv3 : Keeps W a v3) :
    ∃ t, execIntakePolicy v0 v1 v2 v3 = .next t ∧ Keeps W a t := by
  refine ⟨_, rfl, ?_⟩
  refine keeps_serve (hW.of rfl) ?_ ?_
  · exact keeps_cmdIntakePolicy (hW.of rfl)
  · exact hv3

theorem keeps_execSourceLoss {W : Nat} {a : State} {v0 : ℤ} {v1 : ℤ} {v2 : State} (hW : Sub 34234679994354506608980970244050992510550850937617018806914599925216994285109018051031493364642382 W) (hv2 : Keeps W a v2) :
    ∃ t, execSourceLoss v0 v1 v2 = .next t ∧ Keeps W a t := by
  refine ⟨_, rfl, ?_⟩
  refine keeps_onLive (hW.of rfl) ?_ ?_
  · intro t0 ht0
    refine keeps_sourceLoss (hW.of rfl) ?_
    exact ht0
  · exact hv2

theorem keeps_execBudgetPinsChange {W : Nat} {a : State} {v0 : ℕ} {v1 : State} (hW : Sub 14967748624939287750010864135746331221538447994684102983553809129263665435256255052 W) (hv1 : Keeps W a v1) :
    ∃ t, execBudgetPinsChange v0 v1 = .next t ∧ Keeps W a t := by
  refine ⟨_, rfl, ?_⟩
  refine keeps_onPower (hW.of rfl) ?_ ?_
  · intro t0 ht0
    refine keeps_budgetPinsChange (hW.of rfl) ?_
    exact ht0
  · exact hv1

theorem keeps_execPsRdy {W : Nat} {a : State} {v0 : State} (hW : Sub 239823432329056972200192433957893961170247192587792900755144685820853309007338439673661202530267726 W) (hv0 : Keeps W a v0) :
    ∃ t, execPsRdy v0 = .next t ∧ Keeps W a t := by
  refine ⟨_, rfl, ?_⟩
  refine keeps_onPower (hW.of rfl) ?_ ?_
  · intro t0 ht0
    refine keeps_pdMessage (hW.of rfl) ?_
    exact ht0
  · exact hv0

theorem keeps_execHandoverComplete {W : Nat} {a : State} {v0 : ℕ} {v1 : State} (hW : Sub 239823432329056850782728059937960238161182546141484305298757392164733875046234306508265078315512430 W) (hv1 : Keeps W a v1) :
    ∃ t, execHandoverComplete v0 v1 = .next t ∧ Keeps W a t := by
  refine ⟨_, rfl, ?_⟩
  refine keeps_onLive (hW.of rfl) ?_ ?_
  · intro t0 ht0
    refine keeps_handoverComplete (hW.of rfl) ?_
    exact ht0
  · exact hv1

theorem keeps_execHardReset {W : Nat} {a : State} {v0 : State} (hW : Sub 15177368434947610652130298937879351525900240126282378500439937994978415787240325120 W) (hv0 : Keeps W a v0) :
    ∃ t, execHardReset v0 = .next t ∧ Keeps W a t := by
  refine ⟨_, rfl, ?_⟩
  refine keeps_onPower (hW.of rfl) ?_ ?_
  · intro t0 ht0
    refine keeps_hardReset (hW.of rfl) ?_
    exact ht0
  · exact hv0

theorem keeps_execCreepTry {W : Nat} {a : State} {v0 : Bool} {v1 : State} (hW : Sub 1062178441158607336621352712152447541400850071189896288348540948964728564012132387804246595759208046 W) (hv1 : Keeps W a v1) :
    ∃ t, execCreepTry v0 v1 = .next t ∧ Keeps W a t := by
  refine ⟨_, rfl, ?_⟩
  refine keeps_onLive (hW.of rfl) ?_ ?_
  · intro t0 ht0
    refine keeps_creepTry (hW.of rfl) ?_
    refine keeps_atBoundary (hW.of rfl) ?_
    exact ht0
  · exact hv1

theorem keeps_execDiscoverIdentityAck {W : Nat} {a : State} {v0 : BitVec 32} {v1 : BitVec 32} {v2 : State} (hW : Sub 239823432329056972200192433957893961170247192587792900755144685820853309007338439673661202530267726 W) (hv2 : Keeps W a v2) :
    ∃ t, execDiscoverIdentityAck v0 v1 v2 = .next t ∧ Keeps W a t := by
  refine ⟨_, rfl, ?_⟩
  refine keeps_onPower (hW.of rfl) ?_ ?_
  · intro t0 ht0
    refine keeps_pdMessage (hW.of rfl) ?_
    exact ht0
  · exact hv2

theorem keeps_execTypecAttach {W : Nat} {a : State} {v0 : ℕ} {v1 : Bool} {v2 : State} (hW : Sub 54772259008129914217082222523030473990652000803144187701769792240104767488 W) (hv2 : Keeps W a v2) :
    ∃ t, execTypecAttach v0 v1 v2 = .next t ∧ Keeps W a t := by
  refine ⟨_, rfl, ?_⟩
  refine keeps_onPower (hW.of rfl) ?_ ?_
  · intro t0 ht0
    refine keeps_tcAttach (hW.of rfl) ?_
    exact ht0
  · exact hv2

theorem keeps_execInputDetect {W : Nat} {a : State} {v0 : ℕ} {v1 : ℕ} {v2 : State} (hW : Sub 239823432329056850782728332032624051574144010139359762520069691439805061545071723541474186155226734 W) (hv2 : Keeps W a v2) :
    ∃ t, execInputDetect v0 v1 v2 = .next t ∧ Keeps W a t := by
  refine ⟨_, rfl, ?_⟩
  refine keeps_onPower (hW.of rfl) ?_ ?_
  · intro t0 ht0
    refine keeps_inputDetect (hW.of rfl) ?_
    exact ht0
  · exact hv2

theorem keeps_execBudgetWindow {W : Nat} {a : State} {v0 : Sys2Proof.Req} {v1 : ℕ} {v2 : ℕ} {v3 : ℕ} {v4 : State} (hW : Sub 14966822288225389220447475567866261718275621834806777859041493469023947694446703212 W) (hv4 : Keeps W a v4) :
    ∃ t, execBudgetWindow v0 v1 v2 v3 v4 = .next t ∧ Keeps W a t := by
  refine ⟨_, rfl, ?_⟩
  refine keeps_serve (hW.of rfl) ?_ ?_
  · exact keeps_cmdBudgetWindow (hW.of rfl)
  · exact hv4

theorem keeps_execIntakeStatus {W : Nat} {a : State} {v0 : Sys2Proof.Req} {v1 : State} (hW : Sub 154742505343018098589966946 W) (hv1 : Keeps W a v1) :
    ∃ t, execIntakeStatus v0 v1 = .next t ∧ Keeps W a t := by
  refine ⟨_, rfl, ?_⟩
  refine keeps_serve (hW.of rfl) ?_ ?_
  · exact keeps_cmdIntakeStatus (hW.of rfl)
  · exact hv1

theorem keeps_execContractSettled {W : Nat} {a : State} {v0 : State} (hW : Sub 239823432329056850782728059937960238161182546141484305298757392164733875046233421064549540257034830 W) (hv0 : Keeps W a v0) :
    ∃ t, execContractSettled v0 = .next t ∧ Keeps W a t := by
  refine ⟨_, rfl, ?_⟩
  refine keeps_onLive (hW.of rfl) ?_ ?_
  · intro t0 ht0
    refine keeps_contractSettled (hW.of rfl) ?_
    exact ht0
  · exact hv0

theorem keeps_execBudgetOverrideExpiry {W : Nat} {a : State} {v0 : State} (hW : Sub 14966822288225389220447475567866261718275621834806777859041493468591602130219135564 W) (hv0 : Keeps W a v0) :
    ∃ t, execBudgetOverrideExpiry v0 = .next t ∧ Keeps W a t := by
  refine ⟨_, rfl, ?_⟩
  refine keeps_onLive (hW.of rfl) ?_ ?_
  · intro t0 ht0
    refine keeps_budgetOverrideExpiry (hW.of rfl) ?_
    exact ht0
  · exact hv0

theorem keeps_execSourceCapabilities {W : Nat} {a : State} {v0 : List (BitVec 32)} {v1 : State} (hW : Sub 239823432329056972200192433957893961170247192587792900755144685820853309007338439673661202530267726 W) (hv1 : Keeps W a v1) :
    ∃ t, execSourceCapabilities v0 v1 = .next t ∧ Keeps W a t := by
  refine ⟨_, rfl, ?_⟩
  refine keeps_onPower (hW.of rfl) ?_ ?_
  · intro t0 ht0
    refine keeps_pdMessage (hW.of rfl) ?_
    exact ht0
  · exact hv1

theorem keeps_execPdRequest {W : Nat} {a : State} {v0 : Sys2Proof.Req} {v1 : ℕ} {v2 : ℕ} {v3 : State} (hW : Sub 594112926614120401128361284409810808458086425227808283124644157839949778920032 W) (hv3 : Keeps W a v3) :
    ∃ t, execPdRequest v0 v1 v2 v3 = .next t ∧ Keeps W a t := by
  refine ⟨_, rfl, ?_⟩
  refine keeps_serve (hW.of rfl) ?_ ?_
  · exact keeps_cmdPdRequest (hW.of rfl)
  · exact hv3

theorem keeps_execTypecDetach {W : Nat} {a : State} {v0 : State} (hW : Sub 239823432329056850782728332032624051574144010139359762520069691439805061545070838097758648096749166 W) (hv0 : Keeps W a v0) :
    ∃ t, execTypecDetach v0 = .next t ∧ Keeps W a t := by
  refine ⟨_, rfl, ?_⟩
  refine keeps_onPower (hW.of rfl) ?_ ?_
  · intro t0 ht0
    refine keeps_tcDetach (hW.of rfl) ?_
    exact ht0
  · exact hv0

theorem keeps_execIntervalClose {W : Nat} {a : State} {v0 : State} (hW : Sub 14939958521755484798330822769760948622910744682536865351308720350980160082850045964 W) (hv0 : Keeps W a v0) :
    ∃ t, execIntervalClose v0 = .next t ∧ Keeps W a t := by
  refine ⟨_, rfl, ?_⟩
  refine keeps_onLive (hW.of rfl) ?_ ?_
  · intro t0 ht0
    refine keeps_intervalClose (hW.of rfl) ?_
    exact ht0
  · exact hv0

theorem keeps_execSearchStep {W : Nat} {a : State} {v0 : Bool} {v1 : State} (hW : Sub 1062178441158607336621352712152447541400850071189896288348540948964728564012132387804246595759208046 W) (hv1 : Keeps W a v1) :
    ∃ t, execSearchStep v0 v1 = .next t ∧ Keeps W a t := by
  refine ⟨_, rfl, ?_⟩
  refine keeps_onLive (hW.of rfl) ?_ ?_
  · intro t0 ht0
    refine keeps_searchStep (hW.of rfl) ?_
    refine keeps_atBoundary (hW.of rfl) ?_
    exact ht0
  · exact hv1

theorem keeps_execInputQualify {W : Nat} {a : State} {v0 : ℕ} {v1 : State} (hW : Sub 239823432329056850782728059937960238161182546333426306840588784104334502294254836177769019364831822 W) (hv1 : Keeps W a v1) :
    ∃ t, execInputQualify v0 v1 = .next t ∧ Keeps W a t := by
  refine ⟨_, rfl, ?_⟩
  refine keeps_onPower (hW.of rfl) ?_ ?_
  · intro t0 ht0
    refine keeps_inputQualify (hW.of rfl) ?_
    exact ht0
  · exact hv1

theorem keeps_execBlockedExit {W : Nat} {a : State} {v0 : ℕ} {v1 : ℕ} {v2 : Bool} {v3 : State} (hW : Sub 27606985387162255149739023449108101809804436043424051131322631291155008 W) (hv3 : Keeps W a v3) :
    ∃ t, execBlockedExit v0 v1 v2 v3 = .next t ∧ Keeps W a t := by
  refine ⟨_, rfl, ?_⟩
  refine keeps_onPower (hW.of rfl) ?_ ?_
  · intro t0 ht0
    refine keeps_blockedExit (hW.of rfl) ?_
    exact ht0
  · exact hv3

theorem keeps_execUnsupportedPdMessage {W : Nat} {a : State} {v0 : Bool} {v1 : State} (hW : Sub 239823432329056972200192433957893961170247192587792900755144685820853309007338439673661202530267726 W) (hv1 : Keeps W a v1) :
    ∃ t, execUnsupportedPdMessage v0 v1 = .next t ∧ Keeps W a t := by
  refine ⟨_, rfl, ?_⟩
  refine keeps_onPower (hW.of rfl) ?_ ?_
  · intro t0 ht0
    refine keeps_pdMessage (hW.of rfl) ?_
    exact ht0
  · exact hv1

theorem keeps_execSinkWaitCapTimer {W : Nat} {a : State} {v0 : State} (hW : Sub 239823432329056850782742802509868749000028589175830504210853456690369405210819987746693125876445774 W) (hv0 : Keeps W a v0) :
    ∃ t, execSinkWaitCapTimer v0 = .next t ∧ Keeps W a t := by
  refine ⟨_, rfl, ?_⟩
  refine keeps_onLive (hW.of rfl) ?_ ?_
  · intro t0 ht0
    refine keeps_sinkWaitCapTimer (hW.of rfl) ?_
    exact ht0
  · exact hv0

theorem keeps_execBudgetWindowEdge {W : Nat} {a : State} {v0 : State} (hW : Sub 14965895951511490690884086999986192215012795674929452734529177807919538825182016076 W) (hv0 : Keeps W a v0) :
    ∃ t, execBudgetWindowEdge v0 = .next t ∧ Keeps W a t := by
  refine ⟨_, rfl, ?_⟩
  refine keeps_onLive (hW.of rfl) ?_ ?_
  · intro t0 ht0
    refine keeps_budgetWindowEdge (hW.of rfl) ?_
    exact ht0
  · exact hv0

end Sys2Proof.Machine
end

