-- ==== Sys2Proof/Laws/KeepsExecMeasure.lean ====
section
/-! SUPPORT. What the operations of Machine/ExecMeasure.lean keep (`Keeps`): one lemma for each. -/

namespace Sys2Proof.Machine

set_option linter.unusedVariables false
set_option linter.unusedTactic false
set_option linter.unreachableTactic false

theorem keeps_execPollTimeout {W : Nat} {a : State} {v0 : List (ℕ × ℕ × ℤ)} {v1 : State} (hW : Sub 34234687251295172300587652575686368562901506915175995221511396630398411922788517802162683541157502 W) (hv1 : Keeps W a v1) :
    ∃ t, execPollTimeout v0 v1 = .next t ∧ Keeps W a t := by
  refine ⟨_, rfl, ?_⟩
  refine keeps_onClock (hW.of rfl) ?_ ?_
  · intro t0 ht0
    refine keeps_pollTimeout (hW.of rfl) ?_
    exact ht0
  · exact hv1

theorem keeps_execSliceSwap {W : Nat} {a : State} {v0 : ℕ} {v1 : State} (hW : Sub 92148255209987538360678274223211628279033208475480472347530493952 W) (hv1 : Keeps W a v1) :
    ∃ t, execSliceSwap v0 v1 = .next t ∧ Keeps W a t := by
  refine ⟨_, rfl, ?_⟩
  refine keeps_onClock (hW.of rfl) ?_ ?_
  · intro t0 ht0
    refine keeps_sliceSwap (hW.of rfl) ?_
    exact ht0
  · exact hv1

theorem keeps_execConvertNow {W : Nat} {a : State} {v0 : Sys2Proof.Req} {v1 : ℕ} {v2 : ℕ} {v3 : ℕ} {v4 : State} (hW : Sub 934646588558445031944022495692575086830348714185216380480608281186 W) (hv4 : Keeps W a v4) :
    ∃ t, execConvertNow v0 v1 v2 v3 v4 = .next t ∧ Keeps W a t := by
  refine ⟨_, rfl, ?_⟩
  refine keeps_serve (hW.of rfl) ?_ ?_
  · exact keeps_cmdConvertNow (hW.of rfl)
  · exact hv4

theorem keeps_execThermistorOpenTrip {W : Nat} {a : State} {v0 : ℕ} {v1 : State} (hW : Sub 34234687251295172300587652575686356995646741996662284047833721226006969083910936121793529312671358 W) (hv1 : Keeps W a v1) :
    ∃ t, execThermistorOpenTrip v0 v1 = .next t ∧ Keeps W a t := by
  refine ⟨_, rfl, ?_⟩
  refine keeps_onLive (hW.of rfl) ?_ ?_
  · intro t0 ht0
    refine keeps_thermistorOpenTrip (hW.of rfl) ?_
    exact ht0
  · exact hv1

theorem keeps_execResultRecord {W : Nat} {a : State} {v0 : ℕ} {v1 : List ℤ} {v2 : List ℤ} {v3 : List (ℕ × ℕ × ℤ)} {v4 : State} (hW : Sub 240090470434727180019982170561985888261574104344662844683629583886554889118028547768234523909650046 W) (hv4 : Keeps W a v4) :
    ∃ t, execResultRecord v0 v1 v2 v3 v4 = .next t ∧ Keeps W a t := by
  refine ⟨_, rfl, ?_⟩
  refine keeps_onClock (hW.of rfl) ?_ ?_
  · intro t0 ht0
    refine keeps_resultRecord (hW.of rfl) ?_
    exact ht0
  · exact hv4

theorem keeps_execPollReply {W : Nat} {a : State} {v0 : List Sys2Proof.Byte} {v1 : List (ℕ × ℕ × ℤ)} {v2 : State} (hW : Sub 34234687251295172300587652575686368562901506915175995221511396630398411922788517802162683541157502 W) (hv2 : Keeps W a v2) :
    ∃ t, execPollReply v0 v1 v2 = .next t ∧ Keeps W a t := by
  refine ⟨_, rfl, ?_⟩
  refine keeps_onClock (hW.of rfl) ?_ ?_
  · intro t0 ht0
    refine keeps_pollReply (hW.of rfl) ?_
    exact ht0
  · exact hv2

theorem keeps_execRingStatus {W : Nat} {a : State} {v0 : Sys2Proof.Req} {v1 : ℕ} {v2 : ℕ} {v3 : State} (hW : Sub 154742505343018098589966944 W) (hv3 : Keeps W a v3) :
    ∃ t, execRingStatus v0 v1 v2 v3 = .next t ∧ Keeps W a t := by
  refine ⟨_, rfl, ?_⟩
  refine keeps_serve (hW.of rfl) ?_ ?_
  · exact keeps_cmdRingStatus (hW.of rfl)
  · exact hv3

theorem keeps_execContinuousFrameStart {W : Nat} {a : State} {v0 : ℕ} {v1 : State} (hW : Sub 6255958210242512548954785276767297902667604540029799246984716908246596 W) (hv1 : Keeps W a v1) :
    ∃ t, execContinuousFrameStart v0 v1 = .next t ∧ Keeps W a t := by
  refine ⟨_, rfl, ?_⟩
  refine keeps_onLive (hW.of rfl) ?_ ?_
  · intro t0 ht0
    refine keeps_continuousFrameStart (hW.of rfl) ?_
    exact ht0
  · exact hv1

theorem keeps_execTriggerLineFire {W : Nat} {a : State} {v0 : ℕ} {v1 : ℕ} {v2 : ℕ} {v3 : Bool} {v4 : State} (hW : Sub 6257643206909209463941951965210236629584706861556208032764785883887172 W) (hv4 : Keeps W a v4) :
    ∃ t, execTriggerLineFire v0 v1 v2 v3 v4 = .next t ∧ Keeps W a t := by
  refine ⟨_, rfl, ?_⟩
  refine keeps_onLive (hW.of rfl) ?_ ?_
  · intro t0 ht0
    refine keeps_triggerLineFire (hW.of rfl) ?_
    exact ht0
  · exact hv4

theorem keeps_execSweepAbort {W : Nat} {a : State} {v0 : List Sys2Proof.Bytes} {v1 : List (ℕ × ℕ × ℤ)} {v2 : State} (hW : Sub 34234687251295172300587652575686357818813309371800826055731474606613927558741624397918087264827006 W) (hv2 : Keeps W a v2) :
    ∃ t, execSweepAbort v0 v1 v2 = .next t ∧ Keeps W a t := by
  refine ⟨_, rfl, ?_⟩
  refine keeps_onClock (hW.of rfl) ?_ ?_
  · intro t0 ht0
    refine keeps_sweepAbort (hW.of rfl) ?_
    exact ht0
  · exact hv2

theorem keeps_execTagsStatus {W : Nat} {a : State} {v0 : Sys2Proof.Req} {v1 : State} (hW : Sub 154742505343018098589966944 W) (hv1 : Keeps W a v1) :
    ∃ t, execTagsStatus v0 v1 = .next t ∧ Keeps W a t := by
  refine ⟨_, rfl, ?_⟩
  refine keeps_serve (hW.of rfl) ?_ ?_
  · exact keeps_cmdTagsStatus (hW.of rfl)
  · exact hv1

theorem keeps_execTagsSweep {W : Nat} {a : State} {v0 : Sys2Proof.Req} {v1 : State} (hW : Sub 602601766597121353328235784627936130688331465686645907400288 W) (hv1 : Keeps W a v1) :
    ∃ t, execTagsSweep v0 v1 = .next t ∧ Keeps W a t := by
  refine ⟨_, rfl, ?_⟩
  refine keeps_serve (hW.of rfl) ?_ ?_
  · exact keeps_cmdTagsSweep (hW.of rfl)
  · exact hv1

theorem keeps_execStubPollRound {W : Nat} {a : State} {v0 : State} (hW : Sub 1406070788726616491099216830798517431949432530232478097481728 W) (hv0 : Keeps W a v0) :
    ∃ t, execStubPollRound v0 = .next t ∧ Keeps W a t := by
  refine ⟨_, rfl, ?_⟩
  refine keeps_onClock (hW.of rfl) ?_ ?_
  · intro t0 ht0
    refine keeps_stubPollRound (hW.of rfl) ?_
    exact ht0
  · exact hv0

theorem keeps_execPollEmerged {W : Nat} {a : State} {v0 : ℕ} {v1 : List (ℕ × ℕ × ℤ)} {v2 : State} (hW : Sub 34234687251295172300587652575686368564508444959434985497053358722739574525310720795945476376458878 W) (hv2 : Keeps W a v2) :
    ∃ t, execPollEmerged v0 v1 v2 = .next t ∧ Keeps W a t := by
  refine ⟨_, rfl, ?_⟩
  refine keeps_onClock (hW.of rfl) ?_ ?_
  · intro t0 ht0
    refine keeps_pollEmerged (hW.of rfl) ?_
    exact ht0
  · exact hv2

theorem keeps_execRotationStep {W : Nat} {a : State} {v0 : ℕ} {v1 : Sys2Proof.Rotation} {v2 : State} (hW : Sub 92148255209987538360678274223211628279187950980391144881892897344 W) (hv2 : Keeps W a v2) :
    ∃ t, execRotationStep v0 v1 v2 = .next t ∧ Keeps W a t := by
  refine ⟨_, rfl, ?_⟩
  refine keeps_onClock (hW.of rfl) ?_ ?_
  · intro t0 ht0
    refine keeps_rotationStep (hW.of rfl) ?_
    exact ht0
  · exact hv2

theorem keeps_execThermistorRelease {W : Nat} {a : State} {v0 : ℕ} {v1 : State} (hW : Sub 34234680248983986576285989160032354682773206225137971485445545120895822548580151897856018095501902 W) (hv1 : Keeps W a v1) :
    ∃ t, execThermistorRelease v0 v1 = .next t ∧ Keeps W a t := by
  refine ⟨_, rfl, ?_⟩
  refine keeps_onLive (hW.of rfl) ?_ ?_
  · intro t0 ht0
    refine keeps_thermistorRelease (hW.of rfl) ?_
    exact ht0
  · exact hv1

theorem keeps_execTriggerFire {W : Nat} {a : State} {v0 : Sys2Proof.Req} {v1 : ℕ} {v2 : State} (hW : Sub 6255958210242512548954785276767297902667604540029799679330281135814244 W) (hv2 : Keeps W a v2) :
    ∃ t, execTriggerFire v0 v1 v2 = .next t ∧ Keeps W a t := by
  refine ⟨_, rfl, ?_⟩
  refine keeps_serve (hW.of rfl) ?_ ?_
  · exact keeps_cmdTriggerFire (hW.of rfl)
  · exact hv2

theorem keeps_execRingRecordWrite {W : Nat} {a : State} {v0 : ℕ} {v1 : Bool} {v2 : List (ℕ × Bool)} {v3 : State} (hW : Sub 6257643361376515438427774416355766355931848959047354854379278313682542 W) (hv3 : Keeps W a v3) :
    ∃ t, execRingRecordWrite v0 v1 v2 v3 = .next t ∧ Keeps W a t := by
  refine ⟨_, rfl, ?_⟩
  refine keeps_onClock (hW.of rfl) ?_ ?_
  · intro t0 ht0
    refine keeps_onSys (hW.of rfl) ?_ ?_
    · intro t1 ht1
      refine keeps_ringRecordWrite (hW.of rfl) ?_
      exact ht1
    · exact ht0
  · exact hv3

theorem keeps_execSweep {W : Nat} {a : State} {v0 : State} (hW : Sub 1406070788726616491099216830798517431949432530232478097481728 W) (hv0 : Keeps W a v0) :
    ∃ t, execSweep v0 = .next t ∧ Keeps W a t := by
  refine ⟨_, rfl, ?_⟩
  refine keeps_onClock (hW.of rfl) ?_ ?_
  · intro t0 ht0
    refine keeps_sweep (hW.of rfl) ?_
    exact ht0
  · exact hv0

theorem keeps_execSweepComplete {W : Nat} {a : State} {v0 : List Sys2Proof.Bytes} {v1 : List (ℕ × ℕ × ℤ)} {v2 : State} (hW : Sub 34234687251295172300587652575686364198507995521641500295653040147186444803814005531653055138723454 W) (hv2 : Keeps W a v2) :
    ∃ t, execSweepComplete v0 v1 v2 = .next t ∧ Keeps W a t := by
  refine ⟨_, rfl, ?_⟩
  refine keeps_onClock (hW.of rfl) ?_ ?_
  · intro t0 ht0
    refine keeps_sweepComplete (hW.of rfl) ?_
    exact ht0
  · exact hv2

theorem keeps_execCalibrationEnd {W : Nat} {a : State} {v0 : List ℤ} {v1 : Bool} {v2 : State} (hW : Sub 724022005221330658548236878506271479488004203415161308842368923212 W) (hv2 : Keeps W a v2) :
    ∃ t, execCalibrationEnd v0 v1 v2 = .next t ∧ Keeps W a t := by
  refine ⟨_, rfl, ?_⟩
  refine keeps_onClock (hW.of rfl) ?_ ?_
  · intro t0 ht0
    refine keeps_calibrationEnd (hW.of rfl) ?_
    exact ht0
  · exact hv2

theorem keeps_execCalSystem {W : Nat} {a : State} {v0 : Sys2Proof.Req} {v1 : ℕ} {v2 : ℕ} {v3 : ℤ} {v4 : State} (hW : Sub 724022005221330658548186440325234222192558523384118157971986327138 W) (hv4 : Keeps W a v4) :
    ∃ t, execCalSystem v0 v1 v2 v3 v4 = .next t ∧ Keeps W a t := by
  refine ⟨_, rfl, ?_⟩
  refine keeps_serve (hW.of rfl) ?_ ?_
  · exact keeps_cmdCalSystem (hW.of rfl)
  · exact hv4

theorem keeps_execSeqTimer {W : Nat} {a : State} {v0 : ℕ} {v1 : State} (hW : Sub 6255958210242512548954785276767297902667604540029799246984716908246596 W) (hv1 : Keeps W a v1) :
    ∃ t, execSeqTimer v0 v1 = .next t ∧ Keeps W a t := by
  refine ⟨_, rfl, ?_⟩
  refine keeps_onLive (hW.of rfl) ?_ ?_
  · intro t0 ht0
    refine keeps_seqTimer (hW.of rfl) ?_
    exact ht0
  · exact hv1

theorem keeps_execRingAttach {W : Nat} {a : State} {v0 : Sys2Proof.Req} {v1 : ℕ} {v2 : ℕ} {v3 : ℕ} {v4 : ℕ} {v5 : State} (hW : Sub 6254865595216451268142794377230079821932296003415018982301017659421284 W) (hv5 : Keeps W a v5) :
    ∃ t, execRingAttach v0 v1 v2 v3 v4 v5 = .next t ∧ Keeps W a t := by
  refine ⟨_, rfl, ?_⟩
  refine keeps_serve (hW.of rfl) ?_ ?_
  · exact keeps_cmdRingAttach (hW.of rfl)
  · exact hv5

theorem keeps_execSeqStop {W : Nat} {a : State} {v0 : Sys2Proof.Req} {v1 : ℕ} {v2 : State} (hW : Sub 263280729171392966744795069209176080797392481006715796234375804512 W) (hv2 : Keeps W a v2) :
    ∃ t, execSeqStop v0 v1 v2 = .next t ∧ Keeps W a t := by
  refine ⟨_, rfl, ?_⟩
  refine keeps_serve (hW.of rfl) ?_ ?_
  · exact keeps_cmdSeqStop (hW.of rfl)
  · exact hv2

theorem keeps_execRingDiagnose {W : Nat} {a : State} {v0 : Sys2Proof.Req} {v1 : State} (hW : Sub 154742505343018098589966944 W) (hv1 : Keeps W a v1) :
    ∃ t, execRingDiagnose v0 v1 = .next t ∧ Keeps W a t := by
  refine ⟨_, rfl, ?_⟩
  refine keeps_serve (hW.of rfl) ?_ ?_
  · exact keeps_cmdRingDiagnose (hW.of rfl)
  · exact hv1

theorem keeps_execProfileParkHeld {W : Nat} {a : State} {v0 : State} (hW : Sub 216054748376274544937812158189333735064531470016924929324833352675948 W) (hv0 : Keeps W a v0) :
    ∃ t, execProfileParkHeld v0 = .next t ∧ Keeps W a t := by
  refine ⟨_, rfl, ?_⟩
  refine keeps_onLive (hW.of rfl) ?_ ?_
  · intro t0 ht0
    refine keeps_profileParkHeld (hW.of rfl) ?_
    exact ht0
  · exact hv0

theorem keeps_execSeqStart {W : Nat} {a : State} {v0 : Sys2Proof.Req} {v1 : ℕ} {v2 : State} (hW : Sub 6255958210242512548954785276767297902667604540029799679330281135814244 W) (hv2 : Keeps W a v2) :
    ∃ t, execSeqStart v0 v1 v2 = .next t ∧ Keeps W a t := by
  refine ⟨_, rfl, ?_⟩
  refine keeps_serve (hW.of rfl) ?_ ?_
  · exact keeps_cmdSeqStart (hW.of rfl)
  · exact hv2

end Sys2Proof.Machine
end

