-- ==== Sys2Proof/Laws/KeepsExecModes.lean ====
section
/-! SUPPORT. What the operations of Machine/ExecModes.lean keep (`Keeps`): one lemma for each. -/

namespace Sys2Proof.Machine

set_option linter.unusedVariables false
set_option linter.unusedTactic false
set_option linter.unreachableTactic false

theorem keeps_execPor {W : Nat} {a : State} {v0 : State} (hW : Sub 18347988927920572092886567162416695526372519913346248989900710715095383008707878464560148424881005492436990 W) (hv0 : Keeps W a v0) :
    ∃ t, execPor v0 = .next t ∧ Keeps W a t := by
  refine ⟨_, rfl, ?_⟩
  refine keeps_por (hW.of rfl) ?_
  exact hv0

theorem keeps_execNresetAssert {W : Nat} {a : State} {v0 : State} (hW : Sub 24078409584691798969727779666225119814900298177010597908309999799737610921708954578845676 W) (hv0 : Keeps W a v0) :
    ∃ t, execNresetAssert v0 = .next t ∧ Keeps W a t := by
  refine ⟨_, rfl, ?_⟩
  refine keeps_nresetAssert (hW.of rfl) ?_
  exact hv0

theorem keeps_execShipEntryBegin {W : Nat} {a : State} {v0 : State} (hW : Sub 216087812934340497777113657360559529215624401092586463050424551175790 W) (hv0 : Keeps W a v0) :
    ∃ t, execShipEntryBegin v0 = .next t ∧ Keeps W a t := by
  refine ⟨_, rfl, ?_⟩
  refine keeps_shipEntryBegin (hW.of rfl) ?_
  exact hv0

theorem keeps_execStatus {W : Nat} {a : State} {v0 : Sys2Proof.Req} {v1 : State} (hW : Sub 154742505343018098589966946 W) (hv1 : Keeps W a v1) :
    ∃ t, execStatus v0 v1 = .next t ∧ Keeps W a t := by
  refine ⟨_, rfl, ?_⟩
  refine keeps_serve (hW.of rfl) ?_ ?_
  · exact keeps_cmdStatus (hW.of rfl)
  · exact hv1

theorem keeps_execAonPor {W : Nat} {a : State} {v0 : ℕ} {v1 : State} (hW : Sub 18347988927920572092886567162416695526372519913346248989900710715095383008707878464560148424881005492436990 W) (hv1 : Keeps W a v1) :
    ∃ t, execAonPor v0 v1 = .next t ∧ Keeps W a t := by
  refine ⟨_, rfl, ?_⟩
  refine keeps_aonPor (hW.of rfl) ?_
  exact hv1

theorem keeps_execCoreResetRelease {W : Nat} {a : State} {v0 : State} (hW : Sub 3450873173395281893717377931138512736650713177104665289099517615956004 W) (hv0 : Keeps W a v0) :
    ∃ t, execCoreResetRelease v0 = .next t ∧ Keeps W a t := by
  refine ⟨_, rfl, ?_⟩
  refine keeps_coreResetRelease (hW.of rfl) ?_
  exact hv0

theorem keeps_execConfigurationRecall {W : Nat} {a : State} {v0 : List (ℕ × List ℕ)} {v1 : ℕ} {v2 : List ℤ} {v3 : State} (hW : Sub 34234679230465999383549171738016715816448512268576035372545236621700690568475260662542859610584686 W) (hv3 : Keeps W a v3) :
    ∃ t, execConfigurationRecall v0 v1 v2 v3 = .next t ∧ Keeps W a t := by
  refine ⟨_, rfl, ?_⟩
  refine keeps_configurationRecall (hW.of rfl) ?_
  exact hv3

theorem keeps_execCrystalFailure {W : Nat} {a : State} {v0 : State} (hW : Sub 218615307934772124422363036863369085037128608398266618050219176064638 W) (hv0 : Keeps W a v0) :
    ∃ t, execCrystalFailure v0 = .next t ∧ Keeps W a t := by
  refine ⟨_, rfl, ?_⟩
  refine keeps_onPower (hW.of rfl) ?_ ?_
  · intro t0 ht0
    refine keeps_crystalFailure (hW.of rfl) ?_
    exact ht0
  · exact hv0

theorem keeps_execTimeSet {W : Nat} {a : State} {v0 : Sys2Proof.Req} {v1 : ℕ} {v2 : State} (hW : Sub 14939958521755484798330822769760948622910744682536865351308720351412505654593806956 W) (hv2 : Keeps W a v2) :
    ∃ t, execTimeSet v0 v1 v2 = .next t ∧ Keeps W a t := by
  refine ⟨_, rfl, ?_⟩
  refine keeps_serve (hW.of rfl) ?_ ?_
  · exact keeps_cmdTimeSet (hW.of rfl)
  · exact hv2

theorem keeps_execShipArm {W : Nat} {a : State} {v0 : Sys2Proof.Req} {v1 : ℕ} {v2 : State} (hW : Sub 154744571378354371239617128 W) (hv2 : Keeps W a v2) :
    ∃ t, execShipArm v0 v1 v2 = .next t ∧ Keeps W a t := by
  refine ⟨_, rfl, ?_⟩
  refine keeps_serve (hW.of rfl) ?_ ?_
  · exact keeps_cmdShipArm (hW.of rfl)
  · exact hv2

theorem keeps_execCoreResetBegin {W : Nat} {a : State} {v0 : State} (hW : Sub 24078409584691798969727779666225119814900298177010597908309999799737610921427479602135020 W) (hv0 : Keeps W a v0) :
    ∃ t, execCoreResetBegin v0 = .next t ∧ Keeps W a t := by
  refine ⟨_, rfl, ?_⟩
  refine keeps_coreResetBegin (hW.of rfl) ?_
  exact hv0

theorem keeps_execPwrbtnPress {W : Nat} {a : State} {v0 : Bool} {v1 : State} (hW : Sub 210624583337306315397377886759280465265192955016270019752992977512 W) (hv1 : Keeps W a v1) :
    ∃ t, execPwrbtnPress v0 v1 = .next t ∧ Keeps W a t := by
  refine ⟨_, rfl, ?_⟩
  refine keeps_onPower (hW.of rfl) ?_ ?_
  · intro t0 ht0
    refine keeps_pwrbtnPress (hW.of rfl) ?_
    exact ht0
  · exact hv1

theorem keeps_execShipWake {W : Nat} {a : State} {v0 : ℕ} {v1 : ℕ} {v2 : ℕ} {v3 : State} (hW : Sub 18347988927920572092886567162416695526372519913346248989900710715095383008707878464560148424881005492436990 W) (hv3 : Keeps W a v3) :
    ∃ t, execShipWake v0 v1 v2 v3 = .next t ∧ Keeps W a t := by
  refine ⟨_, rfl, ?_⟩
  refine keeps_shipWake (hW.of rfl) ?_
  exact hv3

theorem keeps_execReady {W : Nat} {a : State} {v0 : List ℕ} {v1 : State} (hW : Sub 9173994703783718375624478227634436535297294241822380065424686922709138844711522477875955068547793539300974 W) (hv1 : Keeps W a v1) :
    ∃ t, execReady v0 v1 = .next t ∧ Keeps W a t := by
  refine ⟨_, rfl, ?_⟩
  refine keeps_ready (hW.of rfl) ?_
  exact hv1

theorem keeps_execOutputFoldback {W : Nat} {a : State} {v0 : ℕ} {v1 : State} (hW : Sub 215015495249069204213514458934570650699677967734526355350398953692524019633295450756564239354074551549952 W) (hv1 : Keeps W a v1) :
    ∃ t, execOutputFoldback v0 v1 = .next t ∧ Keeps W a t := by
  refine ⟨_, rfl, ?_⟩
  refine keeps_onPower (hW.of rfl) ?_ ?_
  · intro t0 ht0
    refine keeps_outputFoldback (hW.of rfl) ?_
    exact ht0
  · exact hv1

theorem keeps_execShipEntryFinish {W : Nat} {a : State} {v0 : List ℕ} {v1 : State} (hW : Sub 215015529483756455508699802343154917682287474420158281487047685080192318522509949235976568240403822671486 W) (hv1 : Keeps W a v1) :
    ∃ t, execShipEntryFinish v0 v1 = .next t ∧ Keeps W a t := by
  refine ⟨_, rfl, ?_⟩
  refine keeps_shipEntryFinish (hW.of rfl) ?_
  exact hv1

theorem keeps_execModeRequest {W : Nat} {a : State} {v0 : Sys2Proof.Req} {v1 : ℕ} {v2 : State} (hW : Sub 216048166358045284433738698354410220672842278321165872570894794060396 W) (hv2 : Keeps W a v2) :
    ∃ t, execModeRequest v0 v1 v2 = .next t ∧ Keeps W a t := by
  refine ⟨_, rfl, ?_⟩
  refine keeps_serve (hW.of rfl) ?_ ?_
  · exact keeps_cmdModeRequestFor (hW.of rfl)
  · exact hv2

theorem keeps_execEvents {W : Nat} {a : State} {v0 : Sys2Proof.Req} {v1 : ℕ} {v2 : State} (hW : Sub 154742505343018098589966944 W) (hv2 : Keeps W a v2) :
    ∃ t, execEvents v0 v1 v2 = .next t ∧ Keeps W a t := by
  refine ⟨_, rfl, ?_⟩
  refine keeps_serve (hW.of rfl) ?_ ?_
  · exact keeps_cmdEvents (hW.of rfl)
  · exact hv2

theorem keeps_execCrystalQualified {W : Nat} {a : State} {v0 : State} (hW : Sub 1099511627792 W) (hv0 : Keeps W a v0) :
    ∃ t, execCrystalQualified v0 = .next t ∧ Keeps W a t := by
  refine ⟨_, rfl, ?_⟩
  refine keeps_onPower (hW.of rfl) ?_ ?_
  · intro t0 ht0
    refine keeps_crystalQualified (hW.of rfl) ?_
    exact ht0
  · exact hv0

theorem keeps_execWatchdog {W : Nat} {a : State} {v0 : State} (hW : Sub 24078409584691798969730307161225551441548470559788069269967911376709609086181866452549630 W) (hv0 : Keeps W a v0) :
    ∃ t, execWatchdog v0 = .next t ∧ Keeps W a t := by
  refine ⟨_, rfl, ?_⟩
  refine keeps_watchdog (hW.of rfl) ?_
  exact hv0

theorem keeps_execHoldup {W : Nat} {a : State} {v0 : ℕ} {v1 : List ℕ} {v2 : State} (hW : Sub 215015495249069204214500759276635026727816506753391004942099689824176187270211323811427027802383145236076 W) (hv2 : Keeps W a v2) :
    ∃ t, execHoldup v0 v1 v2 = .next t ∧ Keeps W a t := by
  refine ⟨_, rfl, ?_⟩
  refine keeps_onPower (hW.of rfl) ?_ ?_
  · intro t0 ht0
    refine keeps_holdup (hW.of rfl) ?_
    exact ht0
  · exact hv2

theorem keeps_execPllLossOfLock {W : Nat} {a : State} {v0 : State} (hW : Sub 218615307937910675290056377245286979748732441606317795839521402615422 W) (hv0 : Keeps W a v0) :
    ∃ t, execPllLossOfLock v0 = .next t ∧ Keeps W a t := by
  refine ⟨_, rfl, ?_⟩
  refine keeps_onPower (hW.of rfl) ?_ ?_
  · intro t0 ht0
    refine keeps_pllLossOfLock (hW.of rfl) ?_
    exact ht0
  · exact hv0

theorem keeps_execFoldbackRetry {W : Nat} {a : State} {v0 : ℕ} {v1 : State} (hW : Sub 215015495249069204213514458934570650699677967734526355350398953692524019633295450756564239354074551549952 W) (hv1 : Keeps W a v1) :
    ∃ t, execFoldbackRetry v0 v1 = .next t ∧ Keeps W a t := by
  refine ⟨_, rfl, ?_⟩
  refine keeps_onPower (hW.of rfl) ?_ ?_
  · intro t0 ht0
    refine keeps_foldbackRetry (hW.of rfl) ?_
    exact ht0
  · exact hv1

theorem keeps_execWakeInQualified {W : Nat} {a : State} {v0 : ℕ} {v1 : ℕ} {v2 : State} (hW : Sub 210624583337306315397377886759280465265192954721122114522100544064 W) (hv2 : Keeps W a v2) :
    ∃ t, execWakeInQualified v0 v1 v2 = .next t ∧ Keeps W a t := by
  refine ⟨_, rfl, ?_⟩
  refine keeps_onPower (hW.of rfl) ?_ ?_
  · intro t0 ht0
    refine keeps_wakeInQualified (hW.of rfl) ?_
    exact ht0
  · exact hv2

theorem keeps_execCrystalQualifyTimeout {W : Nat} {a : State} {v0 : State} (hW : Sub 218615307934772124422363036863369085037128608398266618050219176064638 W) (hv0 : Keeps W a v0) :
    ∃ t, execCrystalQualifyTimeout v0 = .next t ∧ Keeps W a t := by
  refine ⟨_, rfl, ?_⟩
  refine keeps_onPower (hW.of rfl) ?_ ?_
  · intro t0 ht0
    refine keeps_crystalQualifyTimeout (hW.of rfl) ?_
    exact ht0
  · exact hv0

theorem keeps_execClockBackstop {W : Nat} {a : State} {v0 : State} (hW : Sub 18347988927920572092886567162416695526372519913346248989900710715095383008707878464560148424881005492436990 W) (hv0 : Keeps W a v0) :
    ∃ t, execClockBackstop v0 = .next t ∧ Keeps W a t := by
  refine ⟨_, rfl, ?_⟩
  refine keeps_clockBackstop (hW.of rfl) ?_
  exact hv0

theorem keeps_execCoreReset {W : Nat} {a : State} {v0 : Sys2Proof.Req} {v1 : State} (hW : Sub 154742505343581048543388256 W) (hv1 : Keeps W a v1) :
    ∃ t, execCoreReset v0 v1 = .next t ∧ Keeps W a t := by
  refine ⟨_, rfl, ?_⟩
  refine keeps_serve (hW.of rfl) ?_ ?_
  · exact keeps_cmdCoreReset (hW.of rfl)
  · exact hv1

theorem keeps_execNvReady {W : Nat} {a : State} {v0 : List ℤ} {v1 : State} (hW : Sub 71671830781820609086271340199045490008425333694258535094320359145968042401126344637220456359613188503150 W) (hv1 : Keeps W a v1) :
    ∃ t, execNvReady v0 v1 = .next t ∧ Keeps W a t := by
  refine ⟨_, rfl, ?_⟩
  refine keeps_nvReady (hW.of rfl) ?_
  exact hv1

theorem keeps_execPllRelock {W : Nat} {a : State} {v0 : State} (hW : Sub 9173994703783718375500134364595017613013288660560960844237459578069296854237149182591534084947002196718174 W) (hv0 : Keeps W a v0) :
    ∃ t, execPllRelock v0 = .next t ∧ Keeps W a t := by
  refine ⟨_, rfl, ?_⟩
  refine keeps_onPower (hW.of rfl) ?_ ?_
  · intro t0 ht0
    refine keeps_pllRelock (hW.of rfl) ?_
    exact ht0
  · exact hv0

theorem keeps_execNresetRelease {W : Nat} {a : State} {v0 : State} (hW : Sub 3450873173395281893717377931138512736650713177104665289380992592666660 W) (hv0 : Keeps W a v0) :
    ∃ t, execNresetRelease v0 = .next t ∧ Keeps W a t := by
  refine ⟨_, rfl, ?_⟩
  refine keeps_nresetRelease (hW.of rfl) ?_
  exact hv0

theorem keeps_execSysValidRestored {W : Nat} {a : State} {v0 : ℕ} {v1 : State} (hW : Sub 9173994703783718375500134364595017613013288660557429974511304570139811359010360916025380383861207508186734 W) (hv1 : Keeps W a v1) :
    ∃ t, execSysValidRestored v0 v1 = .next t ∧ Keeps W a t := by
  refine ⟨_, rfl, ?_⟩
  refine keeps_onPower (hW.of rfl) ?_ ?_
  · intro t0 ht0
    refine keeps_sysValidRestored (hW.of rfl) ?_
    exact ht0
  · exact hv1

theorem keeps_execForcedPowerDown {W : Nat} {a : State} {v0 : ℕ} {v1 : State} (hW : Sub 216048166358045284433738698354410220672842278321165440225330566492780 W) (hv1 : Keeps W a v1) :
    ∃ t, execForcedPowerDown v0 v1 = .next t ∧ Keeps W a t := by
  refine ⟨_, rfl, ?_⟩
  refine keeps_onPower (hW.of rfl) ?_ ?_
  · intro t0 ht0
    refine keeps_forcedPowerDown (hW.of rfl) ?_
    exact ht0
  · exact hv1

theorem keeps_execIdentify {W : Nat} {a : State} {v0 : Sys2Proof.Req} {v1 : State} (hW : Sub 154742505343018098589966944 W) (hv1 : Keeps W a v1) :
    ∃ t, execIdentify v0 v1 = .next t ∧ Keeps W a t := by
  refine ⟨_, rfl, ?_⟩
  refine keeps_serve (hW.of rfl) ?_ ?_
  · exact keeps_cmdIdentify (hW.of rfl)
  · exact hv1

end Sys2Proof.Machine
end

