-- ==== Sys2Proof/Laws/KeepsExecPorts.lean ====
section
/-! SUPPORT. What the operations of Machine/ExecPorts.lean keep (`Keeps`): one lemma for each. -/

namespace Sys2Proof.Machine

set_option linter.unusedVariables false
set_option linter.unusedTactic false
set_option linter.unreachableTactic false

theorem keeps_execResponsePosted {W : Nat} {a : State} {v0 : ℕ} {v1 : State} (hW : Sub 216048166358045284433738698354410220672922125453699347253061560006252 W) (hv1 : Keeps W a v1) :
    ∃ t, execResponsePosted v0 v1 = .next t ∧ Keeps W a t := by
  refine ⟨_, rfl, ?_⟩
  refine keeps_onClock (hW.of rfl) ?_ ?_
  · intro t0 ht0
    refine keeps_responsePosted (hW.of rfl) ?_
    exact ht0
  · exact hv1

theorem keeps_execUartFrameSent {W : Nat} {a : State} {v0 : State} (hW : Sub 77371252455336267181196096 W) (hv0 : Keeps W a v0) :
    ∃ t, execUartFrameSent v0 = .next t ∧ Keeps W a t := by
  refine ⟨_, rfl, ?_⟩
  refine keeps_onPortBus (hW.of rfl) ?_ ?_
  · intro t0 ht0
    refine keeps_uartFrameSent (hW.of rfl) ?_
    exact ht0
  · exact hv0

theorem keeps_execIbiRequest {W : Nat} {a : State} {v0 : Bool} {v1 : State} (hW : Sub 14507109835375550096474304 W) (hv1 : Keeps W a v1) :
    ∃ t, execIbiRequest v0 v1 = .next t ∧ Keeps W a t := by
  refine ⟨_, rfl, ?_⟩
  refine keeps_onI3cBus (hW.of rfl) ?_ ?_
  · intro t0 ht0
    refine keeps_ibiRequest (hW.of rfl) ?_
    exact ht0
  · exact hv1

theorem keeps_execSetmrl {W : Nat} {a : State} {v0 : ℕ} {v1 : State} (hW : Sub 2417851639229258349412480 W) (hv1 : Keeps W a v1) :
    ∃ t, execSetmrl v0 v1 = .next t ∧ Keeps W a t := by
  refine ⟨_, rfl, ?_⟩
  refine keeps_onI3cBus (hW.of rfl) ?_ ?_
  · intro t0 ht0
    refine keeps_setmrl (hW.of rfl) ?_
    exact ht0
  · exact hv1

theorem keeps_execBypass {W : Nat} {a : State} {v0 : State} (hW : Sub 3153560596986348328464878731040369543595276860106386545139184654157018954621666611096275510526423355883520 W) (hv0 : Keeps W a v0) :
    ∃ t, execBypass v0 = .next t ∧ Keeps W a t := by
  refine ⟨_, rfl, ?_⟩
  refine keeps_onPower (hW.of rfl) ?_ ?_
  · intro t0 ht0
    refine keeps_bypass (hW.of rfl) ?_
    exact ht0
  · exact hv0

theorem keeps_execSamplePreload {W : Nat} {a : State} {v0 : State} (hW : Sub 3153560596986348328464878731040369543595276860106386545139184654157018954621666611096275510526423355883520 W) (hv0 : Keeps W a v0) :
    ∃ t, execSamplePreload v0 = .next t ∧ Keeps W a t := by
  refine ⟨_, rfl, ?_⟩
  refine keeps_onPower (hW.of rfl) ?_ ?_
  · intro t0 ht0
    refine keeps_samplePreload (hW.of rfl) ?_
    exact ht0
  · exact hv0

theorem keeps_execPortReset {W : Nat} {a : State} {v0 : ℕ} {v1 : State} (hW : Sub 216048166358045284433738698354410220672922279893972803021938628722668 W) (hv1 : Keeps W a v1) :
    ∃ t, execPortReset v0 v1 = .next t ∧ Keeps W a t := by
  refine ⟨_, rfl, ?_⟩
  refine keeps_onPortBus (hW.of rfl) ?_ ?_
  · intro t0 ht0
    refine keeps_portReset (hW.of rfl) ?_
    exact ht0
  · exact hv1

theorem keeps_execDisec {W : Nat} {a : State} {v0 : ℕ} {v1 : State} (hW : Sub 604462909807314587353216 W) (hv1 : Keeps W a v1) :
    ∃ t, execDisec v0 v1 = .next t ∧ Keeps W a t := by
  refine ⟨_, rfl, ?_⟩
  refine keeps_onI3cBus (hW.of rfl) ?_ ?_
  · intro t0 ht0
    refine keeps_disec (hW.of rfl) ?_
    exact ht0
  · exact hv1

theorem keeps_execSpiStatus {W : Nat} {a : State} {v0 : State} (hW : Sub 64 W) (hv0 : Keeps W a v0) :
    ∃ t, execSpiStatus v0 = .next t ∧ Keeps W a t := by
  refine ⟨_, rfl, ?_⟩
  refine keeps_onPortBus (hW.of rfl) ?_ ?_
  · intro t0 ht0
    refine keeps_spiStatus (hW.of rfl) ?_
    exact ht0
  · exact hv0

theorem keeps_execGetmwl {W : Nat} {a : State} {v0 : State} (hW : Sub 64 W) (hv0 : Keeps W a v0) :
    ∃ t, execGetmwl v0 = .next t ∧ Keeps W a t := by
  refine ⟨_, rfl, ?_⟩
  refine keeps_onI3cBus (hW.of rfl) ?_ ?_
  · intro t0 ht0
    refine keeps_getmwl (hW.of rfl) ?_
    exact ht0
  · exact hv0

theorem keeps_execEvtPop {W : Nat} {a : State} {v0 : ℕ} {v1 : ℕ} {v2 : Bool} {v3 : State} (hW : Sub 576 W) (hv3 : Keeps W a v3) :
    ∃ t, execEvtPop v0 v1 v2 v3 = .next t ∧ Keeps W a t := by
  refine ⟨_, rfl, ?_⟩
  refine keeps_onPortBus (hW.of rfl) ?_ ?_
  · intro t0 ht0
    refine keeps_evtPop (hW.of rfl) ?_
    exact ht0
  · exact hv3

theorem keeps_execSetnewda {W : Nat} {a : State} {v0 : ℕ} {v1 : State} (hW : Sub 302231454903657293676672 W) (hv1 : Keeps W a v1) :
    ∃ t, execSetnewda v0 v1 = .next t ∧ Keeps W a t := by
  refine ⟨_, rfl, ?_⟩
  refine keeps_onI3cBus (hW.of rfl) ?_ ?_
  · intro t0 ht0
    refine keeps_setnewda (hW.of rfl) ?_
    exact ht0
  · exact hv1

theorem keeps_execTapReset {W : Nat} {a : State} {v0 : State} (hW : Sub 860061980996276816854057835738282602798711870938105421401595814770096078533181803026256957416297669328896 W) (hv0 : Keeps W a v0) :
    ∃ t, execTapReset v0 = .next t ∧ Keeps W a t := by
  refine ⟨_, rfl, ?_⟩
  refine keeps_onPower (hW.of rfl) ?_ ?_
  · intro t0 ht0
    refine keeps_tapReset (hW.of rfl) ?_
    exact ht0
  · exact hv0

theorem keeps_execClamp {W : Nat} {a : State} {v0 : State} (hW : Sub 3153560596986348328464878731040369543595276860106386545139184654157018954621666611096275510526423355883520 W) (hv0 : Keeps W a v0) :
    ∃ t, execClamp v0 = .next t ∧ Keeps W a t := by
  refine ⟨_, rfl, ?_⟩
  refine keeps_onPower (hW.of rfl) ?_ ?_
  · intro t0 ht0
    refine keeps_clamp (hW.of rfl) ?_
    exact ht0
  · exact hv0

theorem keeps_execEntdaa {W : Nat} {a : State} {v0 : ℕ} {v1 : State} (hW : Sub 302231454903657293676672 W) (hv1 : Keeps W a v1) :
    ∃ t, execEntdaa v0 v1 = .next t ∧ Keeps W a t := by
  refine ⟨_, rfl, ?_⟩
  refine keeps_onI3cBus (hW.of rfl) ?_ ?_
  · intro t0 ht0
    refine keeps_entdaa (hW.of rfl) ?_
    exact ht0
  · exact hv1

theorem keeps_execPortResetEnd {W : Nat} {a : State} {v0 : ℕ} {v1 : State} (hW : Sub 64 W) (hv1 : Keeps W a v1) :
    ∃ t, execPortResetEnd v0 v1 = .next t ∧ Keeps W a t := by
  refine ⟨_, rfl, ?_⟩
  refine keeps_onPower (hW.of rfl) ?_ ?_
  · intro t0 ht0
    refine keeps_portResetEnd (hW.of rfl) ?_
    exact ht0
  · exact hv1

theorem keeps_execUartRegRead {W : Nat} {a : State} {v0 : List Sys2Proof.Byte} {v1 : State} (hW : Sub 1079266377271743719786849633599704777655473293104733376014001062760504896523208001201566789582979070 W) (hv1 : Keeps W a v1) :
    ∃ t, execUartRegRead v0 v1 = .next t ∧ Keeps W a t := by
  refine ⟨_, rfl, ?_⟩
  refine keeps_onPortBus (hW.of rfl) ?_ ?_
  · intro t0 ht0
    refine keeps_uartRegRead (hW.of rfl) ?_
    exact ht0
  · exact hv1

theorem keeps_execGetpid {W : Nat} {a : State} {v0 : State} (hW : Sub 64 W) (hv0 : Keeps W a v0) :
    ∃ t, execGetpid v0 = .next t ∧ Keeps W a t := by
  refine ⟨_, rfl, ?_⟩
  refine keeps_onI3cBus (hW.of rfl) ?_ ?_
  · intro t0 ht0
    refine keeps_getpid (hW.of rfl) ?_
    exact ht0
  · exact hv0

theorem keeps_execGetstatus {W : Nat} {a : State} {v0 : State} (hW : Sub 66 W) (hv0 : Keeps W a v0) :
    ∃ t, execGetstatus v0 = .next t ∧ Keeps W a t := by
  refine ⟨_, rfl, ?_⟩
  refine keeps_onI3cBus (hW.of rfl) ?_ ?_
  · intro t0 ht0
    refine keeps_getstatus (hW.of rfl) ?_
    exact ht0
  · exact hv0

theorem keeps_execSetdasa {W : Nat} {a : State} {v0 : ℕ} {v1 : State} (hW : Sub 302231454903657293676672 W) (hv1 : Keeps W a v1) :
    ∃ t, execSetdasa v0 v1 = .next t ∧ Keeps W a t := by
  refine ⟨_, rfl, ?_⟩
  refine keeps_onI3cBus (hW.of rfl) ?_ ?_
  · intro t0 ht0
    refine keeps_setdasa (hW.of rfl) ?_
    exact ht0
  · exact hv1

theorem keeps_execTestEnChange {W : Nat} {a : State} {v0 : Bool} {v1 : State} (hW : Sub 4586997231980143023221641790604173881593129978336562247475177678773845752176969616140037106220251909980160 W) (hv1 : Keeps W a v1) :
    ∃ t, execTestEnChange v0 v1 = .next t ∧ Keeps W a t := by
  refine ⟨_, rfl, ?_⟩
  refine keeps_testEnChange (hW.of rfl) ?_
  exact hv1

theorem keeps_execRspDone {W : Nat} {a : State} {v0 : ℕ} {v1 : State} (hW : Sub 64 W) (hv1 : Keeps W a v1) :
    ∃ t, execRspDone v0 v1 = .next t ∧ Keeps W a t := by
  refine ⟨_, rfl, ?_⟩
  refine keeps_onPortBus (hW.of rfl) ?_ ?_
  · intro t0 ht0
    refine keeps_rspDone (hW.of rfl) ?_
    exact ht0
  · exact hv1

theorem keeps_execRstdaa {W : Nat} {a : State} {v0 : State} (hW : Sub 302231454903657293676672 W) (hv0 : Keeps W a v0) :
    ∃ t, execRstdaa v0 = .next t ∧ Keeps W a t := by
  refine ⟨_, rfl, ?_⟩
  refine keeps_onI3cBus (hW.of rfl) ?_ ?_
  · intro t0 ht0
    refine keeps_rstdaa (hW.of rfl) ?_
    exact ht0
  · exact hv0

theorem keeps_execGetmrl {W : Nat} {a : State} {v0 : State} (hW : Sub 64 W) (hv0 : Keeps W a v0) :
    ∃ t, execGetmrl v0 = .next t ∧ Keeps W a t := by
  refine ⟨_, rfl, ?_⟩
  refine keeps_onI3cBus (hW.of rfl) ?_ ?_
  · intro t0 ht0
    refine keeps_getmrl (hW.of rfl) ?_
    exact ht0
  · exact hv0

theorem keeps_execCaptureDrScan {W : Nat} {a : State} {v0 : ℕ} {v1 : ℕ} {v2 : State} (hW : Sub 3726935250983866206367583954865891278794418107398456826073581864003749673643787813113780148803954777522176 W) (hv2 : Keeps W a v2) :
    ∃ t, execCaptureDrScan v0 v1 v2 = .next t ∧ Keeps W a t := by
  refine ⟨_, rfl, ?_⟩
  refine keeps_onPower (hW.of rfl) ?_ ?_
  · intro t0 ht0
    refine keeps_captureDrScan (hW.of rfl) ?_
    exact ht0
  · exact hv2

theorem keeps_execHighz {W : Nat} {a : State} {v0 : State} (hW : Sub 3153560596986348328464878731040369543595276860106386545139184654157018954621666611096275510526423355883520 W) (hv0 : Keeps W a v0) :
    ∃ t, execHighz v0 = .next t ∧ Keeps W a t := by
  refine ⟨_, rfl, ?_⟩
  refine keeps_onPower (hW.of rfl) ?_ ?_
  · intro t0 ht0
    refine keeps_highz (hW.of rfl) ?_
    exact ht0
  · exact hv0

theorem keeps_execWinStatusRead {W : Nat} {a : State} {v0 : ℕ} {v1 : State} (hW : Sub 1079266377271743719786849633599704777655473293104733376014001062760504896523208001201566789582979070 W) (hv1 : Keeps W a v1) :
    ∃ t, execWinStatusRead v0 v1 = .next t ∧ Keeps W a t := by
  refine ⟨_, rfl, ?_⟩
  refine keeps_onPortBus (hW.of rfl) ?_ ?_
  · intro t0 ht0
    refine keeps_winStatusRead (hW.of rfl) ?_
    exact ht0
  · exact hv1

theorem keeps_execEnec {W : Nat} {a : State} {v0 : ℕ} {v1 : State} (hW : Sub 604462909807314587353216 W) (hv1 : Keeps W a v1) :
    ∃ t, execEnec v0 v1 = .next t ∧ Keeps W a t := by
  refine ⟨_, rfl, ?_⟩
  refine keeps_onI3cBus (hW.of rfl) ?_ ?_
  · intro t0 ht0
    refine keeps_enec (hW.of rfl) ?_
    exact ht0
  · exact hv1

theorem keeps_execIdcode {W : Nat} {a : State} {v0 : State} (hW : Sub 3153560596986348328464878731040369543595276860106386545139184654157018954621666611096275510526423355883520 W) (hv0 : Keeps W a v0) :
    ∃ t, execIdcode v0 = .next t ∧ Keeps W a t := by
  refine ⟨_, rfl, ?_⟩
  refine keeps_onPower (hW.of rfl) ?_ ?_
  · intro t0 ht0
    refine keeps_idcode (hW.of rfl) ?_
    exact ht0
  · exact hv0

theorem keeps_execRegisterWrite {W : Nat} {a : State} {v0 : ℕ} {v1 : List Sys2Proof.Byte} {v2 : ℕ} {v3 : List ℤ} {v4 : State} (hW : Sub 1079266377271743719786849633599704777655473293104733376014001062760504896523208001201566789582979070 W) (hv4 : Keeps W a v4) :
    ∃ t, execRegisterWrite v0 v1 v2 v3 v4 = .next t ∧ Keeps W a t := by
  refine ⟨_, rfl, ?_⟩
  refine keeps_onPortBus (hW.of rfl) ?_ ?_
  · intro t0 ht0
    refine keeps_registerWrite (hW.of rfl) ?_
    exact ht0
  · exact hv4

theorem keeps_execGetbcr {W : Nat} {a : State} {v0 : State} (hW : Sub 64 W) (hv0 : Keeps W a v0) :
    ∃ t, execGetbcr v0 = .next t ∧ Keeps W a t := by
  refine ⟨_, rfl, ?_⟩
  refine keeps_onI3cBus (hW.of rfl) ?_ ?_
  · intro t0 ht0
    refine keeps_getbcr (hW.of rfl) ?_
    exact ht0
  · exact hv0

theorem keeps_execSmbusClockLowTimeout {W : Nat} {a : State} {v0 : State} (hW : Sub 0 W) (hv0 : Keeps W a v0) :
    ∃ t, execSmbusClockLowTimeout v0 = .next t ∧ Keeps W a t := by
  refine ⟨_, rfl, ?_⟩
  refine keeps_onPortBus (hW.of rfl) ?_ ?_
  · intro t0 ht0
    refine keeps_smbusClockLowTimeout (hW.of rfl) ?_
    exact ht0
  · exact hv0

theorem keeps_execIrqStatusClear {W : Nat} {a : State} {v0 : ℕ} {v1 : BitVec 32} {v2 : State} (hW : Sub 64 W) (hv2 : Keeps W a v2) :
    ∃ t, execIrqStatusClear v0 v1 v2 = .next t ∧ Keeps W a t := by
  refine ⟨_, rfl, ?_⟩
  refine keeps_onPortBus (hW.of rfl) ?_ ?_
  · intro t0 ht0
    refine keeps_irqStatusClear (hW.of rfl) ?_
    exact ht0
  · exact hv2

theorem keeps_execUartRegWrite {W : Nat} {a : State} {v0 : List Sys2Proof.Byte} {v1 : List ℤ} {v2 : State} (hW : Sub 1079266377271743719786849633599704777655473293104733376014001062760504896523208001201566789582979070 W) (hv2 : Keeps W a v2) :
    ∃ t, execUartRegWrite v0 v1 v2 = .next t ∧ Keeps W a t := by
  refine ⟨_, rfl, ?_⟩
  refine keeps_onPortBus (hW.of rfl) ?_ ?_
  · intro t0 ht0
    refine keeps_uartRegWrite (hW.of rfl) ?_
    exact ht0
  · exact hv2

theorem keeps_execSubmit {W : Nat} {a : State} {v0 : ℕ} {v1 : List ℤ} {v2 : State} (hW : Sub 1079266377271743719786849633599704777655473293104733376014001062760504896523208001201566789582979070 W) (hv2 : Keeps W a v2) :
    ∃ t, execSubmit v0 v1 v2 = .next t ∧ Keeps W a t := by
  refine ⟨_, rfl, ?_⟩
  refine keeps_onPortBus (hW.of rfl) ?_ ?_
  · intro t0 ht0
    refine keeps_submit (hW.of rfl) ?_
    exact ht0
  · exact hv2

theorem keeps_execGetdcr {W : Nat} {a : State} {v0 : State} (hW : Sub 64 W) (hv0 : Keeps W a v0) :
    ∃ t, execGetdcr v0 = .next t ∧ Keeps W a t := by
  refine ⟨_, rfl, ?_⟩
  refine keeps_onI3cBus (hW.of rfl) ?_ ?_
  · intro t0 ht0
    refine keeps_getdcr (hW.of rfl) ?_
    exact ht0
  · exact hv0

theorem keeps_execExtest {W : Nat} {a : State} {v0 : State} (hW : Sub 3153560596986348328464878731040369543595276860106386545139184654157018954621666611096275510526423355883520 W) (hv0 : Keeps W a v0) :
    ∃ t, execExtest v0 = .next t ∧ Keeps W a t := by
  refine ⟨_, rfl, ?_⟩
  refine keeps_onPower (hW.of rfl) ?_ ?_
  · intro t0 ht0
    refine keeps_extest (hW.of rfl) ?_
    exact ht0
  · exact hv0

theorem keeps_execUartMailbox {W : Nat} {a : State} {v0 : List Sys2Proof.Byte} {v1 : List ℤ} {v2 : State} (hW : Sub 1079266377271743719786849633599704777655473293104733376014001062760504896523208001201566789582979070 W) (hv2 : Keeps W a v2) :
    ∃ t, execUartMailbox v0 v1 v2 = .next t ∧ Keeps W a t := by
  refine ⟨_, rfl, ?_⟩
  refine keeps_onPortBus (hW.of rfl) ?_ ?_
  · intro t0 ht0
    refine keeps_uartMailbox (hW.of rfl) ?_
    exact ht0
  · exact hv2

theorem keeps_execSmbusAlertResponse {W : Nat} {a : State} {v0 : State} (hW : Sub 64 W) (hv0 : Keeps W a v0) :
    ∃ t, execSmbusAlertResponse v0 = .next t ∧ Keeps W a t := by
  refine ⟨_, rfl, ?_⟩
  refine keeps_onPortBus (hW.of rfl) ?_ ?_
  · intro t0 ht0
    refine keeps_smbusAlertResponse (hW.of rfl) ?_
    exact ht0
  · exact hv0

theorem keeps_execSetmwl {W : Nat} {a : State} {v0 : ℕ} {v1 : State} (hW : Sub 1208925819614629174706304 W) (hv1 : Keeps W a v1) :
    ∃ t, execSetmwl v0 v1 = .next t ∧ Keeps W a t := by
  refine ⟨_, rfl, ?_⟩
  refine keeps_onI3cBus (hW.of rfl) ?_ ?_
  · intro t0 ht0
    refine keeps_setmwl (hW.of rfl) ?_
    exact ht0
  · exact hv1

end Sys2Proof.Machine
end

