-- ==== Sys2Proof/Laws/KeepsExecRails.lean ====
section
/-! SUPPORT. What the operations of Machine/ExecRails.lean keep (`Keeps`): one lemma for each. -/

namespace Sys2Proof.Machine

set_option linter.unusedVariables false
set_option linter.unusedTactic false
set_option linter.unreachableTactic false

theorem keeps_execSeqStatus {W : Nat} {a : State} {v0 : Sys2Proof.Req} {v1 : State} (hW : Sub 154742505343018098589966944 W) (hv1 : Keeps W a v1) :
    ∃ t, execSeqStatus v0 v1 = .next t ∧ Keeps W a t := by
  refine ⟨_, rfl, ?_⟩
  refine keeps_serve (hW.of rfl) ?_ ?_
  · exact keeps_cmdSeqStatus (hW.of rfl)
  · exact hv1

theorem keeps_execStepEnable {W : Nat} {a : State} {v0 : State} (hW : Sub 210624583337114379264678567774247895549616839682332895848847651392 W) (hv0 : Keeps W a v0) :
    ∃ t, execStepEnable v0 = .next t ∧ Keeps W a t := by
  refine ⟨_, rfl, ?_⟩
  refine keeps_onLive (hW.of rfl) ?_ ?_
  · intro t0 ht0
    refine keeps_stepEnable (hW.of rfl) ?_
    exact ht0
  · exact hv0

theorem keeps_execRailBelowOff {W : Nat} {a : State} {v0 : ℕ} {v1 : ℤ} {v2 : State} (hW : Sub 216048166358045284436661701629072026509249647984163036046912770765420 W) (hv2 : Keeps W a v2) :
    ∃ t, execRailBelowOff v0 v1 v2 = .next t ∧ Keeps W a t := by
  refine ⟨_, rfl, ?_⟩
  refine keeps_onPower (hW.of rfl) ?_ ?_
  · intro t0 ht0
    refine keeps_railBelowOff (hW.of rfl) ?_
    exact ht0
  · exact hv2

theorem keeps_execMarginSet {W : Nat} {a : State} {v0 : Sys2Proof.Req} {v1 : ℕ} {v2 : ℕ} {v3 : State} (hW : Sub 154742505343018098590229088 W) (hv3 : Keeps W a v3) :
    ∃ t, execMarginSet v0 v1 v2 v3 = .next t ∧ Keeps W a t := by
  refine ⟨_, rfl, ?_⟩
  refine keeps_serve (hW.of rfl) ?_ ?_
  · exact keeps_cmdMarginSet (hW.of rfl)
  · exact hv3

theorem keeps_execDelayElapsed {W : Nat} {a : State} {v0 : State} (hW : Sub 22835963083295358096932575511191922182124470272 W) (hv0 : Keeps W a v0) :
    ∃ t, execDelayElapsed v0 = .next t ∧ Keeps W a t := by
  refine ⟨_, rfl, ?_⟩
  refine keeps_onLive (hW.of rfl) ?_ ?_
  · intro t0 ht0
    refine keeps_delayElapsed (hW.of rfl) ?_
    exact ht0
  · exact hv0

theorem keeps_execPgGood {W : Nat} {a : State} {v0 : ℕ} {v1 : Bool} {v2 : ℤ} {v3 : State} (hW : Sub 216048166358045260113643538312603505662511539073462395005379954045548 W) (hv3 : Keeps W a v3) :
    ∃ t, execPgGood v0 v1 v2 v3 = .next t ∧ Keeps W a t := by
  refine ⟨_, rfl, ?_⟩
  refine keeps_onLive (hW.of rfl) ?_ ?_
  · intro t0 ht0
    refine keeps_pgGood (hW.of rfl) ?_
    exact ht0
  · exact hv3

theorem keeps_execRailPark {W : Nat} {a : State} {v0 : Sys2Proof.Req} {v1 : ℕ} {v2 : ℕ} {v3 : State} (hW : Sub 216048166358045260113643538312603505662511539073462827350944181613164 W) (hv3 : Keeps W a v3) :
    ∃ t, execRailPark v0 v1 v2 v3 = .next t ∧ Keeps W a t := by
  refine ⟨_, rfl, ?_⟩
  refine keeps_serve (hW.of rfl) ?_ ?_
  · exact keeps_cmdRailPark (hW.of rfl)
  · exact hv3

theorem keeps_execJoinRun {W : Nat} {a : State} {v0 : ℕ} {v1 : State} (hW : Sub 210624583337114379241842604690952537452684264171140973666723705408 W) (hv1 : Keeps W a v1) :
    ∃ t, execJoinRun v0 v1 = .next t ∧ Keeps W a t := by
  refine ⟨_, rfl, ?_⟩
  refine keeps_onLive (hW.of rfl) ?_ ?_
  · intro t0 ht0
    refine keeps_joinRun (hW.of rfl) ?_
    exact ht0
  · exact hv1

theorem keeps_execMarginStatus {W : Nat} {a : State} {v0 : Sys2Proof.Req} {v1 : ℕ} {v2 : State} (hW : Sub 154742505343018098589966944 W) (hv2 : Keeps W a v2) :
    ∃ t, execMarginStatus v0 v1 v2 = .next t ∧ Keeps W a t := by
  refine ⟨_, rfl, ?_⟩
  refine keeps_serve (hW.of rfl) ?_ ?_
  · exact keeps_cmdMarginStatus (hW.of rfl)
  · exact hv2

theorem keeps_execRailForce {W : Nat} {a : State} {v0 : Sys2Proof.Req} {v1 : ℕ} {v2 : ℕ} {v3 : State} (hW : Sub 216048166358045260113643538312603505662511539073462827350944181613164 W) (hv3 : Keeps W a v3) :
    ∃ t, execRailForce v0 v1 v2 v3 = .next t ∧ Keeps W a t := by
  refine ⟨_, rfl, ?_⟩
  refine keeps_serve (hW.of rfl) ?_ ?_
  · exact keeps_cmdRailForce (hW.of rfl)
  · exact hv3

theorem keeps_execStepIfModule {W : Nat} {a : State} {v0 : State} (hW : Sub 93558940752261082123132761869353305180161807220736 W) (hv0 : Keeps W a v0) :
    ∃ t, execStepIfModule v0 = .next t ∧ Keeps W a t := by
  refine ⟨_, rfl, ?_⟩
  refine keeps_onLive (hW.of rfl) ?_ ?_
  · intro t0 ht0
    refine keeps_stepIfModule (hW.of rfl) ?_
    exact ht0
  · exact hv0

theorem keeps_execToffMax {W : Nat} {a : State} {v0 : ℕ} {v1 : List (ℕ × ℕ × ℤ)} {v2 : State} (hW : Sub 34234687251295172300587652575686356995646741996662284047833721226006969083910936121793529312671358 W) (hv2 : Keeps W a v2) :
    ∃ t, execToffMax v0 v1 v2 = .next t ∧ Keeps W a t := by
  refine ⟨_, rfl, ?_⟩
  refine keeps_onLive (hW.of rfl) ?_ ?_
  · intro t0 ht0
    refine keeps_toffMax (hW.of rfl) ?_
    exact ht0
  · exact hv2

theorem keeps_execStepWaitReq {W : Nat} {a : State} {v0 : State} (hW : Sub 22835963083295358096932575511191922182124470272 W) (hv0 : Keeps W a v0) :
    ∃ t, execStepWaitReq v0 = .next t ∧ Keeps W a t := by
  refine ⟨_, rfl, ?_⟩
  refine keeps_onLive (hW.of rfl) ?_ ?_
  · intro t0 ht0
    refine keeps_stepWaitReq (hW.of rfl) ?_
    exact ht0
  · exact hv0

theorem keeps_execStepWaitPg {W : Nat} {a : State} {v0 : State} (hW : Sub 216048166358045284623733911207427600039321306571847262562872136266348 W) (hv0 : Keeps W a v0) :
    ∃ t, execStepWaitPg v0 = .next t ∧ Keeps W a t := by
  refine ⟨_, rfl, ?_⟩
  refine keeps_onLive (hW.of rfl) ?_ ?_
  · intro t0 ht0
    refine keeps_stepWaitPg (hW.of rfl) ?_
    exact ht0
  · exact hv0

theorem keeps_execReqEdge {W : Nat} {a : State} {v0 : ℕ} {v1 : Bool} {v2 : State} (hW : Sub 210624583337306319781882798751989219876247452869971173489898172992 W) (hv2 : Keeps W a v2) :
    ∃ t, execReqEdge v0 v1 v2 = .next t ∧ Keeps W a t := by
  refine ⟨_, rfl, ?_⟩
  refine keeps_onLive (hW.of rfl) ?_ ?_
  · intro t0 ht0
    refine keeps_reqEdge (hW.of rfl) ?_
    exact ht0
  · exact hv2

theorem keeps_execTableRead {W : Nat} {a : State} {v0 : Sys2Proof.Req} {v1 : ℕ} {v2 : ℕ} {v3 : ℕ} {v4 : State} (hW : Sub 154742505343018098589966944 W) (hv4 : Keeps W a v4) :
    ∃ t, execTableRead v0 v1 v2 v3 v4 = .next t ∧ Keeps W a t := by
  refine ⟨_, rfl, ?_⟩
  refine keeps_serve (hW.of rfl) ?_ ?_
  · exact keeps_cmdTableRead (hW.of rfl)
  · exact hv4

theorem keeps_execStepDelay {W : Nat} {a : State} {v0 : State} (hW : Sub 22835963083295358096932575511191922182124470272 W) (hv0 : Keeps W a v0) :
    ∃ t, execStepDelay v0 = .next t ∧ Keeps W a t := by
  refine ⟨_, rfl, ?_⟩
  refine keeps_onLive (hW.of rfl) ?_ ?_
  · intro t0 ht0
    refine keeps_stepDelay (hW.of rfl) ?_
    exact ht0
  · exact hv0

theorem keeps_execStepDischarge {W : Nat} {a : State} {v0 : State} (hW : Sub 46790888357672188740614847222432248551171966107648 W) (hv0 : Keeps W a v0) :
    ∃ t, execStepDischarge v0 = .next t ∧ Keeps W a t := by
  refine ⟨_, rfl, ?_⟩
  refine keeps_onLive (hW.of rfl) ?_ ?_
  · intro t0 ht0
    refine keeps_stepDischarge (hW.of rfl) ?_
    exact ht0
  · exact hv0

theorem keeps_execRailState {W : Nat} {a : State} {v0 : Sys2Proof.Req} {v1 : State} (hW : Sub 154742505343018098589966944 W) (hv1 : Keeps W a v1) :
    ∃ t, execRailState v0 v1 = .next t ∧ Keeps W a t := by
  refine ⟨_, rfl, ?_⟩
  refine keeps_serve (hW.of rfl) ?_ ?_
  · exact keeps_cmdRailState (hW.of rfl)
  · exact hv1

theorem keeps_execStepMargin {W : Nat} {a : State} {v0 : State} (hW : Sub 22835963083295358097087318016102594716487131136 W) (hv0 : Keeps W a v0) :
    ∃ t, execStepMargin v0 = .next t ∧ Keeps W a t := by
  refine ⟨_, rfl, ?_⟩
  refine keeps_onLive (hW.of rfl) ?_ ?_
  · intro t0 ht0
    refine keeps_stepMargin (hW.of rfl) ?_
    exact ht0
  · exact hv0

theorem keeps_execStepEnd {W : Nat} {a : State} {v0 : State} (hW : Sub 216048166358045284436661701629072026509249647984163036046912770765420 W) (hv0 : Keeps W a v0) :
    ∃ t, execStepEnd v0 = .next t ∧ Keeps W a t := by
  refine ⟨_, rfl, ?_⟩
  refine keeps_onLive (hW.of rfl) ?_ ?_
  · intro t0 ht0
    refine keeps_stepEnd (hW.of rfl) ?_
    exact ht0
  · exact hv0

theorem keeps_execStepSetOut {W : Nat} {a : State} {v0 : State} (hW : Sub 388211372416021087647853783690262677096107606016 W) (hv0 : Keeps W a v0) :
    ∃ t, execStepSetOut v0 = .next t ∧ Keeps W a t := by
  refine ⟨_, rfl, ?_⟩
  refine keeps_onLive (hW.of rfl) ?_ ?_
  · intro t0 ht0
    refine keeps_stepSetOut (hW.of rfl) ?_
    exact ht0
  · exact hv0

theorem keeps_execMarginLoopTick {W : Nat} {a : State} {v0 : State} (hW : Sub 154742504910672534362665536 W) (hv0 : Keeps W a v0) :
    ∃ t, execMarginLoopTick v0 = .next t ∧ Keeps W a t := by
  refine ⟨_, rfl, ?_⟩
  refine keeps_onLive (hW.of rfl) ?_ ?_
  · intro t0 ht0
    refine keeps_marginLoopTick (hW.of rfl) ?_
    exact ht0
  · exact hv0

theorem keeps_execTonMax {W : Nat} {a : State} {v0 : ℕ} {v1 : List (ℕ × ℕ × ℤ)} {v2 : State} (hW : Sub 34234687251295172300587652575686356995646741996662284047833721226006969083910936121793529312671358 W) (hv2 : Keeps W a v2) :
    ∃ t, execTonMax v0 v1 v2 = .next t ∧ Keeps W a t := by
  refine ⟨_, rfl, ?_⟩
  refine keeps_onLive (hW.of rfl) ?_ ?_
  · intro t0 ht0
    refine keeps_tonMax (hW.of rfl) ?_
    exact ht0
  · exact hv2

theorem keeps_execWaitTimeout {W : Nat} {a : State} {v0 : State} (hW : Sub 216048166358045284717270015996605386804357135865689375820851819016812 W) (hv0 : Keeps W a v0) :
    ∃ t, execWaitTimeout v0 = .next t ∧ Keeps W a t := by
  refine ⟨_, rfl, ?_⟩
  refine keeps_onLive (hW.of rfl) ?_ ?_
  · intro t0 ht0
    refine keeps_waitTimeout (hW.of rfl) ?_
    exact ht0
  · exact hv0

theorem keeps_execStepDisable {W : Nat} {a : State} {v0 : State} (hW : Sub 216048166358045260113666374275686801020608471648973586927562077991532 W) (hv0 : Keeps W a v0) :
    ∃ t, execStepDisable v0 = .next t ∧ Keeps W a t := by
  refine ⟨_, rfl, ?_⟩
  refine keeps_onLive (hW.of rfl) ?_ ?_
  · intro t0 ht0
    refine keeps_stepDisable (hW.of rfl) ?_
    exact ht0
  · exact hv0

theorem keeps_execWaitMet {W : Nat} {a : State} {v0 : State} (hW : Sub 93558940752261082123132761869353305180161807220736 W) (hv0 : Keeps W a v0) :
    ∃ t, execWaitMet v0 = .next t ∧ Keeps W a t := by
  refine ⟨_, rfl, ?_⟩
  refine keeps_onLive (hW.of rfl) ?_ ?_
  · intro t0 ht0
    refine keeps_waitMet (hW.of rfl) ?_
    exact ht0
  · exact hv0

theorem keeps_execTableRun {W : Nat} {a : State} {v0 : Sys2Proof.Req} {v1 : ℕ} {v2 : State} (hW : Sub 210624583337306315397377886759280465265192954721554460086328111712 W) (hv2 : Keeps W a v2) :
    ∃ t, execTableRun v0 v1 v2 = .next t ∧ Keeps W a t := by
  refine ⟨_, rfl, ?_⟩
  refine keeps_serve (hW.of rfl) ?_ ?_
  · exact keeps_cmdTableRun (hW.of rfl)
  · exact hv2

theorem keeps_execTableWrite {W : Nat} {a : State} {v0 : Sys2Proof.Req} {v1 : ℕ} {v2 : ℕ} {v3 : ℕ} {v4 : List Sys2Proof.Bytes} {v5 : State} (hW : Sub 274081995180581554390085656490782975461786608236 W) (hv5 : Keeps W a v5) :
    ∃ t, execTableWrite v0 v1 v2 v3 v4 v5 = .next t ∧ Keeps W a t := by
  refine ⟨_, rfl, ?_⟩
  refine keeps_serve (hW.of rfl) ?_ ?_
  · exact keeps_cmdTableWrite (hW.of rfl)
  · exact hv5

theorem keeps_execStepWaitBelow {W : Nat} {a : State} {v0 : State} (hW : Sub 22835963083295358096932575511191922182124470272 W) (hv0 : Keeps W a v0) :
    ∃ t, execStepWaitBelow v0 = .next t ∧ Keeps W a t := by
  refine ⟨_, rfl, ?_⟩
  refine keeps_onLive (hW.of rfl) ?_ ?_
  · intro t0 ht0
    refine keeps_stepWaitBelow (hW.of rfl) ?_
    exact ht0
  · exact hv0

theorem keeps_execStepEvent {W : Nat} {a : State} {v0 : State} (hW : Sub 22835963083295358097087318016102594716486873664 W) (hv0 : Keeps W a v0) :
    ∃ t, execStepEvent v0 = .next t ∧ Keeps W a t := by
  refine ⟨_, rfl, ?_⟩
  refine keeps_onLive (hW.of rfl) ?_ ?_
  · intro t0 ht0
    refine keeps_stepEvent (hW.of rfl) ?_
    exact ht0
  · exact hv0

theorem keeps_execStepTrigger {W : Nat} {a : State} {v0 : State} (hW : Sub 6255958210242512548954808112730381198025701472605310438906899032716868 W) (hv0 : Keeps W a v0) :
    ∃ t, execStepTrigger v0 = .next t ∧ Keeps W a t := by
  refine ⟨_, rfl, ?_⟩
  refine keeps_onLive (hW.of rfl) ?_ ?_
  · intro t0 ht0
    refine keeps_stepTrigger (hW.of rfl) ?_
    exact ht0
  · exact hv0

theorem keeps_execTableAbort {W : Nat} {a : State} {v0 : Sys2Proof.Req} {v1 : ℕ} {v2 : State} (hW : Sub 216048166358045284436661701629072026509249647984163468392476998333036 W) (hv2 : Keeps W a v2) :
    ∃ t, execTableAbort v0 v1 v2 = .next t ∧ Keeps W a t := by
  refine ⟨_, rfl, ?_⟩
  refine keeps_serve (hW.of rfl) ?_ ?_
  · exact keeps_cmdTableAbort (hW.of rfl)
  · exact hv2

theorem keeps_execJoinTimeout {W : Nat} {a : State} {v0 : ℕ} {v1 : State} (hW : Sub 34234687251295172300587652575686356995646741996662284047833721226006969083910936121793529312671358 W) (hv1 : Keeps W a v1) :
    ∃ t, execJoinTimeout v0 v1 = .next t ∧ Keeps W a t := by
  refine ⟨_, rfl, ?_⟩
  refine keeps_onLive (hW.of rfl) ?_ ?_
  · intro t0 ht0
    refine keeps_joinTimeout (hW.of rfl) ?_
    exact ht0
  · exact hv1

end Sys2Proof.Machine
end

