-- ==== Sys2Proof/Laws/KeepsExecStore.lean ====
section
/-! SUPPORT. What the operations of Machine/ExecStore.lean keep (`Keeps`): one lemma for each. -/

namespace Sys2Proof.Machine

set_option linter.unusedVariables false
set_option linter.unusedTactic false
set_option linter.unreachableTactic false

theorem keeps_execAtopSwap {W : Nat} {a : State} {v0 : ℕ} {v1 : Bool} {v2 : Bool} {v3 : List (ℕ × Bool)} {v4 : State} (hW : Sub 6689002508050925675142446657748080446710043269808004014076936077669998 W) (hv4 : Keeps W a v4) :
    ∃ t, execAtopSwap v0 v1 v2 v3 v4 = .next t ∧ Keeps W a t := by
  refine ⟨_, rfl, ?_⟩
  refine keeps_onPortBus (hW.of rfl) ?_ ?_
  · intro t0 ht0
    refine keeps_atopSwap (hW.of rfl) ?_
    exact ht0
  · exact hv4

theorem keeps_execLogRead {W : Nat} {a : State} {v0 : Sys2Proof.Req} {v1 : ℕ} {v2 : ℕ} {v3 : ℕ} {v4 : State} (hW : Sub 154742505343018098589966944 W) (hv4 : Keeps W a v4) :
    ∃ t, execLogRead v0 v1 v2 v3 v4 = .next t ∧ Keeps W a t := by
  refine ⟨_, rfl, ?_⟩
  refine keeps_serve (hW.of rfl) ?_ ?_
  · exact keeps_cmdLogRead (hW.of rfl)
  · exact hv4

theorem keeps_execHandoverDrainEnd {W : Nat} {a : State} {v0 : ℕ} {v1 : State} (hW : Sub 6257643361376515438427774416355766355931848959047354854379278313682542 W) (hv1 : Keeps W a v1) :
    ∃ t, execHandoverDrainEnd v0 v1 = .next t ∧ Keeps W a t := by
  refine ⟨_, rfl, ?_⟩
  refine keeps_onClock (hW.of rfl) ?_ ?_
  · intro t0 ht0
    refine keeps_handoverDrainEnd (hW.of rfl) ?_
    exact ht0
  · exact hv1

theorem keeps_execNvCommitComplete {W : Nat} {a : State} {v0 : State} (hW : Sub 12259964326927110866908356662379789669252091654304724548 W) (hv0 : Keeps W a v0) :
    ∃ t, execNvCommitComplete v0 = .next t ∧ Keeps W a t := by
  refine ⟨_, rfl, ?_⟩
  refine keeps_onClock (hW.of rfl) ?_ ?_
  · intro t0 ht0
    refine keeps_nvCommitComplete (hW.of rfl) ?_
    exact ht0
  · exact hv0

theorem keeps_execNvStatus {W : Nat} {a : State} {v0 : Sys2Proof.Req} {v1 : State} (hW : Sub 154742505343018098589966944 W) (hv1 : Keeps W a v1) :
    ∃ t, execNvStatus v0 v1 = .next t ∧ Keeps W a t := by
  refine ⟨_, rfl, ?_⟩
  refine keeps_serve (hW.of rfl) ?_ ?_
  · exact keeps_cmdNvStatus (hW.of rfl)
  · exact hv1

theorem keeps_execFwFinish {W : Nat} {a : State} {v0 : Sys2Proof.Req} {v1 : State} (hW : Sub 1329227995939658378246825158870345312 W) (hv1 : Keeps W a v1) :
    ∃ t, execFwFinish v0 v1 = .next t ∧ Keeps W a t := by
  refine ⟨_, rfl, ?_⟩
  refine keeps_serve (hW.of rfl) ?_ ?_
  · exact keeps_cmdFwFinish (hW.of rfl)
  · exact hv1

theorem keeps_execSectorEraseDone {W : Nat} {a : State} {v0 : State} (hW : Sub 50460471858764049328363087288408736482457164 W) (hv0 : Keeps W a v0) :
    ∃ t, execSectorEraseDone v0 = .next t ∧ Keeps W a t := by
  refine ⟨_, rfl, ?_⟩
  refine keeps_onClock (hW.of rfl) ?_ ?_
  · intro t0 ht0
    refine keeps_sectorEraseDone (hW.of rfl) ?_
    exact ht0
  · exact hv0

theorem keeps_execBankStatus {W : Nat} {a : State} {v0 : Sys2Proof.Req} {v1 : ℕ} {v2 : ℕ} {v3 : ℕ} {v4 : State} (hW : Sub 3235193600058076775360041810442355680836457485447374040750531836650080 W) (hv4 : Keeps W a v4) :
    ∃ t, execBankStatus v0 v1 v2 v3 v4 = .next t ∧ Keeps W a t := by
  refine ⟨_, rfl, ?_⟩
  refine keeps_serve (hW.of rfl) ?_ ?_
  · exact keeps_cmdBankStatus (hW.of rfl)
  · exact hv4

theorem keeps_execBankRetire {W : Nat} {a : State} {v0 : Sys2Proof.Req} {v1 : ℕ} {v2 : ℕ} {v3 : State} (hW : Sub 215679573337205118357336120696157045389097310122829922866927488738912 W) (hv3 : Keeps W a v3) :
    ∃ t, execBankRetire v0 v1 v2 v3 = .next t ∧ Keeps W a t := by
  refine ⟨_, rfl, ?_⟩
  refine keeps_serve (hW.of rfl) ?_ ?_
  · exact keeps_cmdBankRetire (hW.of rfl)
  · exact hv3

theorem keeps_execNvRead {W : Nat} {a : State} {v0 : Sys2Proof.Req} {v1 : ℕ} {v2 : ℕ} {v3 : State} (hW : Sub 218615307934772124422363036863369085067552222803744556030604768933486 W) (hv3 : Keeps W a v3) :
    ∃ t, execNvRead v0 v1 v2 v3 = .next t ∧ Keeps W a t := by
  refine ⟨_, rfl, ?_⟩
  refine keeps_serve (hW.of rfl) ?_ ?_
  · exact keeps_cmdNvRead (hW.of rfl)
  · exact hv3

theorem keeps_execAtopAndNot {W : Nat} {a : State} {v0 : ℕ} {v1 : Bool} {v2 : Bool} {v3 : List (ℕ × Bool)} {v4 : State} (hW : Sub 6689002508050925675142446657748080446710043269808004014076936077669998 W) (hv4 : Keeps W a v4) :
    ∃ t, execAtopAndNot v0 v1 v2 v3 v4 = .next t ∧ Keeps W a t := by
  refine ⟨_, rfl, ?_⟩
  refine keeps_onPortBus (hW.of rfl) ?_ ?_
  · intro t0 ht0
    refine keeps_atopAndNot (hW.of rfl) ?_
    exact ht0
  · exact hv4

theorem keeps_execBankAtomic {W : Nat} {a : State} {v0 : Sys2Proof.Req} {v1 : ℕ} {v2 : ℕ} {v3 : ℕ} {v4 : State} (hW : Sub 6257643361376515438427774416355766355931848959047355286724842541250158 W) (hv4 : Keeps W a v4) :
    ∃ t, execBankAtomic v0 v1 v2 v3 v4 = .next t ∧ Keeps W a t := by
  refine ⟨_, rfl, ?_⟩
  refine keeps_serve (hW.of rfl) ?_ ?_
  · exact keeps_cmdBankAtomic (hW.of rfl)
  · exact hv4

theorem keeps_execEepromRead {W : Nat} {a : State} {v0 : ℕ} {v1 : Option ℕ} {v2 : ℕ} {v3 : List ℤ} {v4 : State} (hW : Sub 218615307934772124422363036863369085073573563154828213342149881591406 W) (hv4 : Keeps W a v4) :
    ∃ t, execEepromRead v0 v1 v2 v3 v4 = .next t ∧ Keeps W a t := by
  refine ⟨_, rfl, ?_⟩
  refine keeps_onPortBus (hW.of rfl) ?_ ?_
  · intro t0 ht0
    refine keeps_eepromRead (hW.of rfl) ?_
    exact ht0
  · exact hv4

theorem keeps_execNvDiscard {W : Nat} {a : State} {v0 : Sys2Proof.Req} {v1 : State} (hW : Sub 79382905019607355692133933664 W) (hv1 : Keeps W a v1) :
    ∃ t, execNvDiscard v0 v1 = .next t ∧ Keeps W a t := by
  refine ⟨_, rfl, ?_⟩
  refine keeps_serve (hW.of rfl) ?_ ?_
  · exact keeps_cmdNvDiscard (hW.of rfl)
  · exact hv1

theorem keeps_execBankWrite {W : Nat} {a : State} {v0 : Sys2Proof.Req} {v1 : ℕ} {v2 : List Sys2Proof.Byte} {v3 : State} (hW : Sub 6257643361376515438427774416355766355931848959047355286724842541250158 W) (hv3 : Keeps W a v3) :
    ∃ t, execBankWrite v0 v1 v2 v3 = .next t ∧ Keeps W a t := by
  refine ⟨_, rfl, ?_⟩
  refine keeps_serve (hW.of rfl) ?_ ?_
  · exact keeps_cmdBankWrite (hW.of rfl)
  · exact hv3

theorem keeps_execEepromWrite {W : Nat} {a : State} {v0 : ℕ} {v1 : ℕ} {v2 : List Sys2Proof.Byte} {v3 : List ℤ} {v4 : State} (hW : Sub 218615307934772124422363036863369085072464368879628512615840266286702 W) (hv4 : Keeps W a v4) :
    ∃ t, execEepromWrite v0 v1 v2 v3 v4 = .next t ∧ Keeps W a t := by
  refine ⟨_, rfl, ?_⟩
  refine keeps_onPortBus (hW.of rfl) ?_ ?_
  · intro t0 ht0
    refine keeps_eepromWrite (hW.of rfl) ?_
    exact ht0
  · exact hv4

theorem keeps_execFwEraseDone {W : Nat} {a : State} {v0 : Bool} {v1 : State} (hW : Sub 50438353483820482340440230698020530211255884 W) (hv1 : Keeps W a v1) :
    ∃ t, execFwEraseDone v0 v1 = .next t ∧ Keeps W a t := by
  refine ⟨_, rfl, ?_⟩
  refine keeps_onClock (hW.of rfl) ?_ ?_
  · intro t0 ht0
    refine keeps_fwEraseDone (hW.of rfl) ?_
    exact ht0
  · exact hv1

theorem keeps_execNvGather {W : Nat} {a : State} {v0 : Sys2Proof.Req} {v1 : ℕ} {v2 : List Sys2Proof.Byte} {v3 : State} (hW : Sub 79382905019607355692133933664 W) (hv3 : Keeps W a v3) :
    ∃ t, execNvGather v0 v1 v2 v3 = .next t ∧ Keeps W a t := by
  refine ⟨_, rfl, ?_⟩
  refine keeps_serve (hW.of rfl) ?_ ?_
  · exact keeps_cmdNvGather (hW.of rfl)
  · exact hv3

theorem keeps_execAliasBitClear {W : Nat} {a : State} {v0 : ℕ} {v1 : ℕ} {v2 : ℕ} {v3 : Bool} {v4 : Bool} {v5 : List (ℕ × Bool)} {v6 : State} (hW : Sub 6689002508050925675142446657748080446710043269808004014076936077669998 W) (hv6 : Keeps W a v6) :
    ∃ t, execAliasBitClear v0 v1 v2 v3 v4 v5 v6 = .next t ∧ Keeps W a t := by
  refine ⟨_, rfl, ?_⟩
  refine keeps_onClock (hW.of rfl) ?_ ?_
  · intro t0 ht0
    refine keeps_aliasBitClear (hW.of rfl) ?_
    exact ht0
  · exact hv6

theorem keeps_execNvProtect {W : Nat} {a : State} {v0 : Sys2Proof.Req} {v1 : ℕ} {v2 : ℕ} {v3 : State} (hW : Sub 50438181037257295600422536818514533200126572 W) (hv3 : Keeps W a v3) :
    ∃ t, execNvProtect v0 v1 v2 v3 = .next t ∧ Keeps W a t := by
  refine ⟨_, rfl, ?_⟩
  refine keeps_serve (hW.of rfl) ?_ ?_
  · exact keeps_cmdNvProtect (hW.of rfl)
  · exact hv3

theorem keeps_execAtopOr {W : Nat} {a : State} {v0 : ℕ} {v1 : Bool} {v2 : Bool} {v3 : List (ℕ × Bool)} {v4 : State} (hW : Sub 6689002508050925675142446657748080446710043269808004014076936077669998 W) (hv4 : Keeps W a v4) :
    ∃ t, execAtopOr v0 v1 v2 v3 v4 = .next t ∧ Keeps W a t := by
  refine ⟨_, rfl, ?_⟩
  refine keeps_onPortBus (hW.of rfl) ?_ ?_
  · intro t0 ht0
    refine keeps_atopOr (hW.of rfl) ?_
    exact ht0
  · exact hv4

theorem keeps_execFwChunk {W : Nat} {a : State} {v0 : Sys2Proof.Req} {v1 : ℕ} {v2 : List Sys2Proof.Byte} {v3 : State} (hW : Sub 664613998047200441794921628730173028 W) (hv3 : Keeps W a v3) :
    ∃ t, execFwChunk v0 v1 v2 v3 = .next t ∧ Keeps W a t := by
  refine ⟨_, rfl, ?_⟩
  refine keeps_serve (hW.of rfl) ?_ ?_
  · exact keeps_cmdFwChunk (hW.of rfl)
  · exact hv3

theorem keeps_execBankBistDone {W : Nat} {a : State} {v0 : ℕ} {v1 : List ℕ} {v2 : State} (hW : Sub 3669488481330054018139740968001881811262683094483459895630381776336494 W) (hv2 : Keeps W a v2) :
    ∃ t, execBankBistDone v0 v1 v2 = .next t ∧ Keeps W a t := by
  refine ⟨_, rfl, ?_⟩
  refine keeps_onClock (hW.of rfl) ?_ ?_
  · intro t0 ht0
    refine keeps_bankBistDone (hW.of rfl) ?_
    exact ht0
  · exact hv2

theorem keeps_execAtopAdd {W : Nat} {a : State} {v0 : ℕ} {v1 : Bool} {v2 : Bool} {v3 : List (ℕ × Bool)} {v4 : State} (hW : Sub 6689002508050925675142446657748080446710043269808004014076936077669998 W) (hv4 : Keeps W a v4) :
    ∃ t, execAtopAdd v0 v1 v2 v3 v4 = .next t ∧ Keeps W a t := by
  refine ⟨_, rfl, ?_⟩
  refine keeps_onPortBus (hW.of rfl) ?_ ?_
  · intro t0 ht0
    refine keeps_atopAdd (hW.of rfl) ?_
    exact ht0
  · exact hv4

theorem keeps_execFwActivate {W : Nat} {a : State} {v0 : Sys2Proof.Req} {v1 : State} (hW : Sub 40564973949808684428943045976676 W) (hv1 : Keeps W a v1) :
    ∃ t, execFwActivate v0 v1 = .next t ∧ Keeps W a t := by
  refine ⟨_, rfl, ?_⟩
  refine keeps_serve (hW.of rfl) ?_ ?_
  · exact keeps_cmdFwActivate (hW.of rfl)
  · exact hv1

theorem keeps_execResvDischargeTest {W : Nat} {a : State} {v0 : ℕ} {v1 : ℕ} {v2 : State} (hW : Sub 218615307934772124422363036863369093474611003517361514411176199419502 W) (hv2 : Keeps W a v2) :
    ∃ t, execResvDischargeTest v0 v1 v2 = .next t ∧ Keeps W a t := by
  refine ⟨_, rfl, ?_⟩
  refine keeps_onLive (hW.of rfl) ?_ ?_
  · intro t0 ht0
    refine keeps_resvDischargeTest (hW.of rfl) ?_
    exact ht0
  · exact hv2

theorem keeps_execNvCommit {W : Nat} {a : State} {v0 : Sys2Proof.Req} {v1 : State} (hW : Sub 218615307934772124422363036863369085067789907291287349043385400784494 W) (hv1 : Keeps W a v1) :
    ∃ t, execNvCommit v0 v1 = .next t ∧ Keeps W a t := by
  refine ⟨_, rfl, ?_⟩
  refine keeps_serve (hW.of rfl) ?_ ?_
  · exact keeps_cmdNvCommit (hW.of rfl)
  · exact hv1

theorem keeps_execBankRead {W : Nat} {a : State} {v0 : Sys2Proof.Req} {v1 : ℕ} {v2 : ℕ} {v3 : State} (hW : Sub 6257643361376515438427774416355766355931848959047355286724842541250158 W) (hv3 : Keeps W a v3) :
    ∃ t, execBankRead v0 v1 v2 v3 = .next t ∧ Keeps W a t := by
  refine ⟨_, rfl, ?_⟩
  refine keeps_serve (hW.of rfl) ?_ ?_
  · exact keeps_cmdBankRead (hW.of rfl)
  · exact hv3

theorem keeps_execMemoryWindowAccess {W : Nat} {a : State} {v0 : ℕ} {v1 : Bool} {v2 : ℕ} {v3 : ℕ} {v4 : List Sys2Proof.Byte} {v5 : List ℕ} {v6 : Bool} {v7 : List (ℕ × Bool)} {v8 : State} (hW : Sub 6257643361376515438427774416355766355931848978390167968213345108981486 W) (hv8 : Keeps W a v8) :
    ∃ t, execMemoryWindowAccess v0 v1 v2 v3 v4 v5 v6 v7 v8 = .next t ∧ Keeps W a t := by
  refine ⟨_, rfl, ?_⟩
  refine keeps_onPortBus (hW.of rfl) ?_ ?_
  · intro t0 ht0
    refine keeps_windowTransfer (hW.of rfl) ?_
    exact ht0
  · exact hv8

theorem keeps_execFwInfo {W : Nat} {a : State} {v0 : Sys2Proof.Req} {v1 : State} (hW : Sub 154742505343018098589966944 W) (hv1 : Keeps W a v1) :
    ∃ t, execFwInfo v0 v1 = .next t ∧ Keeps W a t := by
  refine ⟨_, rfl, ?_⟩
  refine keeps_serve (hW.of rfl) ?_ ?_
  · exact keeps_cmdFwInfo (hW.of rfl)
  · exact hv1

theorem keeps_execBankZeroingDone {W : Nat} {a : State} {v0 : ℕ} {v1 : State} (hW : Sub 3666552746732487012074714051834669771614651796208022768102625373073988 W) (hv1 : Keeps W a v1) :
    ∃ t, execBankZeroingDone v0 v1 = .next t ∧ Keeps W a t := by
  refine ⟨_, rfl, ?_⟩
  refine keeps_onClock (hW.of rfl) ?_ ?_
  · intro t0 ht0
    refine keeps_bankZeroingDone (hW.of rfl) ?_
    exact ht0
  · exact hv1

theorem keeps_execLogAppend {W : Nat} {a : State} {v0 : Sys2Proof.Req} {v1 : ℕ} {v2 : ℕ} {v3 : List Sys2Proof.Byte} {v4 : State} (hW : Sub 50351238892508916904330140163323191602931308 W) (hv4 : Keeps W a v4) :
    ∃ t, execLogAppend v0 v1 v2 v3 v4 = .next t ∧ Keeps W a t := by
  refine ⟨_, rfl, ?_⟩
  refine keeps_serve (hW.of rfl) ?_ ?_
  · exact keeps_cmdLogAppend (hW.of rfl)
  · exact hv4

theorem keeps_execBankHandover {W : Nat} {a : State} {v0 : Sys2Proof.Req} {v1 : ℕ} {v2 : ℕ} {v3 : ℕ} {v4 : State} (hW : Sub 215679573337205118357336120696157045389097310122829922866927488737888 W) (hv4 : Keeps W a v4) :
    ∃ t, execBankHandover v0 v1 v2 v3 v4 = .next t ∧ Keeps W a t := by
  refine ⟨_, rfl, ?_⟩
  refine keeps_serve (hW.of rfl) ?_ ?_
  · exact keeps_cmdBankHandover (hW.of rfl)
  · exact hv4

theorem keeps_execAliasBitSet {W : Nat} {a : State} {v0 : ℕ} {v1 : ℕ} {v2 : ℕ} {v3 : Bool} {v4 : Bool} {v5 : List (ℕ × Bool)} {v6 : State} (hW : Sub 6689002508050925675142446657748080446710043269808004014076936077669998 W) (hv6 : Keeps W a v6) :
    ∃ t, execAliasBitSet v0 v1 v2 v3 v4 v5 v6 = .next t ∧ Keeps W a t := by
  refine ⟨_, rfl, ?_⟩
  refine keeps_onClock (hW.of rfl) ?_ ?_
  · intro t0 ht0
    refine keeps_aliasBitSet (hW.of rfl) ?_
    exact ht0
  · exact hv6

theorem keeps_execAliasAtomicAdd {W : Nat} {a : State} {v0 : ℕ} {v1 : ℕ} {v2 : ℕ} {v3 : Bool} {v4 : Bool} {v5 : List (ℕ × Bool)} {v6 : State} (hW : Sub 6689002508050925675142446657748080446710043269808004014076936077669998 W) (hv6 : Keeps W a v6) :
    ∃ t, execAliasAtomicAdd v0 v1 v2 v3 v4 v5 v6 = .next t ∧ Keeps W a t := by
  refine ⟨_, rfl, ?_⟩
  refine keeps_onClock (hW.of rfl) ?_ ?_
  · intro t0 ht0
    refine keeps_aliasAtomicAdd (hW.of rfl) ?_
    exact ht0
  · exact hv6

theorem keeps_execFwBegin {W : Nat} {a : State} {v0 : Sys2Proof.Req} {v1 : State} (hW : Sub 2575379241988017009094144277883168352 W) (hv1 : Keeps W a v1) :
    ∃ t, execFwBegin v0 v1 = .next t ∧ Keeps W a t := by
  refine ⟨_, rfl, ?_⟩
  refine keeps_serve (hW.of rfl) ?_ ?_
  · exact keeps_cmdFwBegin (hW.of rfl)
  · exact hv1

theorem keeps_execEepromCommitDone {W : Nat} {a : State} {v0 : State} (hW : Sub 12259964326927110866908356662379789669252091654304724548 W) (hv0 : Keeps W a v0) :
    ∃ t, execEepromCommitDone v0 = .next t ∧ Keeps W a t := by
  refine ⟨_, rfl, ?_⟩
  refine keeps_onClock (hW.of rfl) ?_ ?_
  · intro t0 ht0
    refine keeps_eepromCommitDone (hW.of rfl) ?_
    exact ht0
  · exact hv0

end Sys2Proof.Machine
end

