-- ==== Sys2Proof/Laws/KeepsExecTenants.lean ====
section
/-! SUPPORT. What the operations of Machine/ExecTenants.lean keep (`Keeps`): one lemma for each. -/

namespace Sys2Proof.Machine

set_option linter.unusedVariables false
set_option linter.unusedTactic false
set_option linter.unreachableTactic false

theorem keeps_execSessionClose {W : Nat} {a : State} {v0 : Sys2Proof.Req} {v1 : State} (hW : Sub 216048166358045284433738698354410220672922125453699779598625787573868 W) (hv1 : Keeps W a v1) :
    ∃ t, execSessionClose v0 v1 = .next t ∧ Keeps W a t := by
  refine ⟨_, rfl, ?_⟩
  refine keeps_serve (hW.of rfl) ?_ ?_
  · exact keeps_cmdSessionClose (hW.of rfl)
  · exact hv1

theorem keeps_execTxnCommit {W : Nat} {a : State} {v0 : Sys2Proof.Req} {v1 : State} (hW : Sub 1062178441158607245558748389071397342051073188837447539485720368395688505333425681725453790992627310 W) (hv1 : Keeps W a v1) :
    ∃ t, execTxnCommit v0 v1 = .next t ∧ Keeps W a t := by
  refine ⟨_, rfl, ?_⟩
  refine keeps_serve (hW.of rfl) ?_ ?_
  · exact keeps_cmdTxnCommit (hW.of rfl)
  · exact hv1

theorem keeps_execAuthLockoutEnd {W : Nat} {a : State} {v0 : ℕ} {v1 : State} (hW : Sub 512 W) (hv1 : Keeps W a v1) :
    ∃ t, execAuthLockoutEnd v0 v1 = .next t ∧ Keeps W a t := by
  refine ⟨_, rfl, ?_⟩
  refine keeps_onPower (hW.of rfl) ?_ ?_
  · intro t0 ht0
    refine keeps_authLockoutEnd (hW.of rfl) ?_
    exact ht0
  · exact hv1

theorem keeps_execAuthProve {W : Nat} {a : State} {v0 : Sys2Proof.Req} {v1 : List Sys2Proof.Byte} {v2 : State} (hW : Sub 154742505343018098589966944 W) (hv2 : Keeps W a v2) :
    ∃ t, execAuthProve v0 v1 v2 = .next t ∧ Keeps W a t := by
  refine ⟨_, rfl, ?_⟩
  refine keeps_serve (hW.of rfl) ?_ ?_
  · exact keeps_cmdAuthProve (hW.of rfl)
  · exact hv2

theorem keeps_execTenantWrite {W : Nat} {a : State} {v0 : Sys2Proof.Req} {v1 : ℕ} {v2 : List Sys2Proof.Byte} {v3 : State} (hW : Sub 12259964326927110866866816782176423277633778970563469924 W) (hv3 : Keeps W a v3) :
    ∃ t, execTenantWrite v0 v1 v2 v3 = .next t ∧ Keeps W a t := by
  refine ⟨_, rfl, ?_⟩
  refine keeps_serve (hW.of rfl) ?_ ?_
  · exact keeps_cmdTenantWrite (hW.of rfl)
  · exact hv3

theorem keeps_execCreditsRead {W : Nat} {a : State} {v0 : Sys2Proof.Req} {v1 : State} (hW : Sub 154742505343018098589966944 W) (hv1 : Keeps W a v1) :
    ∃ t, execCreditsRead v0 v1 = .next t ∧ Keeps W a t := by
  refine ⟨_, rfl, ?_⟩
  refine keeps_serve (hW.of rfl) ?_ ?_
  · exact keeps_cmdCreditsRead (hW.of rfl)
  · exact hv1

theorem keeps_execParamInfo {W : Nat} {a : State} {v0 : Sys2Proof.Req} {v1 : ℕ} {v2 : State} (hW : Sub 154742505343018098589966944 W) (hv2 : Keeps W a v2) :
    ∃ t, execParamInfo v0 v1 v2 = .next t ∧ Keeps W a t := by
  refine ⟨_, rfl, ?_⟩
  refine keeps_serve (hW.of rfl) ?_ ?_
  · exact keeps_cmdParamInfo (hW.of rfl)
  · exact hv2

theorem keeps_execTxnIdleTimeout {W : Nat} {a : State} {v0 : ℕ} {v1 : State} (hW : Sub 512 W) (hv1 : Keeps W a v1) :
    ∃ t, execTxnIdleTimeout v0 v1 = .next t ∧ Keeps W a t := by
  refine ⟨_, rfl, ?_⟩
  refine keeps_onLive (hW.of rfl) ?_ ?_
  · intro t0 ht0
    refine keeps_txnIdleTimeout (hW.of rfl) ?_
    exact ht0
  · exact hv1

theorem keeps_execCommitWaitCheck {W : Nat} {a : State} {v0 : Bool} {v1 : State} (hW : Sub 1062178441158607245558748389071397342051073188837447539485720368395688505333425681293108226765059694 W) (hv1 : Keeps W a v1) :
    ∃ t, execCommitWaitCheck v0 v1 = .next t ∧ Keeps W a t := by
  refine ⟨_, rfl, ?_⟩
  refine keeps_onLive (hW.of rfl) ?_ ?_
  · intro t0 ht0
    refine keeps_commitPoll (hW.of rfl) ?_
    exact ht0
  · exact hv1

theorem keeps_execParamSet {W : Nat} {a : State} {v0 : Sys2Proof.Req} {v1 : ℕ} {v2 : ℕ} {v3 : ℕ} {v4 : List Sys2Proof.Byte} {v5 : State} (hW : Sub 1062178441158607245558748389071397342051073188837447539485720368395688505333425681725453790992627310 W) (hv5 : Keeps W a v5) :
    ∃ t, execParamSet v0 v1 v2 v3 v4 v5 = .next t ∧ Keeps W a t := by
  refine ⟨_, rfl, ?_⟩
  refine keeps_serve (hW.of rfl) ?_ ?_
  · exact keeps_cmdParamSet (hW.of rfl)
  · exact hv5

theorem keeps_execTxnStatus {W : Nat} {a : State} {v0 : Sys2Proof.Req} {v1 : State} (hW : Sub 154742505343018098589966944 W) (hv1 : Keeps W a v1) :
    ∃ t, execTxnStatus v0 v1 = .next t ∧ Keeps W a t := by
  refine ⟨_, rfl, ?_⟩
  refine keeps_serve (hW.of rfl) ?_ ?_
  · exact keeps_cmdTxnStatus (hW.of rfl)
  · exact hv1

theorem keeps_execNonceExpiry {W : Nat} {a : State} {v0 : ℕ} {v1 : State} (hW : Sub 512 W) (hv1 : Keeps W a v1) :
    ∃ t, execNonceExpiry v0 v1 = .next t ∧ Keeps W a t := by
  refine ⟨_, rfl, ?_⟩
  refine keeps_onPower (hW.of rfl) ?_ ?_
  · intro t0 ht0
    refine keeps_nonceExpiry (hW.of rfl) ?_
    exact ht0
  · exact hv1

theorem keeps_execTxnBegin {W : Nat} {a : State} {v0 : Sys2Proof.Req} {v1 : State} (hW : Sub 154742505343018098589966944 W) (hv1 : Keeps W a v1) :
    ∃ t, execTxnBegin v0 v1 = .next t ∧ Keeps W a t := by
  refine ⟨_, rfl, ?_⟩
  refine keeps_serve (hW.of rfl) ?_ ?_
  · exact keeps_cmdTxnBegin (hW.of rfl)
  · exact hv1

theorem keeps_execConfigFactory {W : Nat} {a : State} {v0 : Sys2Proof.Req} {v1 : ℕ} {v2 : State} (hW : Sub 50438181037257226585265346658564207573951084 W) (hv2 : Keeps W a v2) :
    ∃ t, execConfigFactory v0 v1 v2 = .next t ∧ Keeps W a t := by
  refine ⟨_, rfl, ?_⟩
  refine keeps_serve (hW.of rfl) ?_ ?_
  · exact keeps_cmdConfigFactory (hW.of rfl)
  · exact hv2

theorem keeps_execTxnRollback {W : Nat} {a : State} {v0 : Sys2Proof.Req} {v1 : State} (hW : Sub 154742505343018098589966944 W) (hv1 : Keeps W a v1) :
    ∃ t, execTxnRollback v0 v1 = .next t ∧ Keeps W a t := by
  refine ⟨_, rfl, ?_⟩
  refine keeps_serve (hW.of rfl) ?_ ?_
  · exact keeps_cmdTxnRollback (hW.of rfl)
  · exact hv1

theorem keeps_execParamGet {W : Nat} {a : State} {v0 : Sys2Proof.Req} {v1 : ℕ} {v2 : ℕ} {v3 : ℕ} {v4 : State} (hW : Sub 154742505343018098589966944 W) (hv4 : Keeps W a v4) :
    ∃ t, execParamGet v0 v1 v2 v3 v4 = .next t ∧ Keeps W a t := by
  refine ⟨_, rfl, ?_⟩
  refine keeps_serve (hW.of rfl) ?_ ?_
  · exact keeps_cmdParamGet (hW.of rfl)
  · exact hv4

theorem keeps_execSessionOpen {W : Nat} {a : State} {v0 : Sys2Proof.Req} {v1 : ℕ} {v2 : State} (hW : Sub 216048166358045284433738698354410220672922125453699779598625787573868 W) (hv2 : Keeps W a v2) :
    ∃ t, execSessionOpen v0 v1 v2 = .next t ∧ Keeps W a t := by
  refine ⟨_, rfl, ?_⟩
  refine keeps_serve (hW.of rfl) ?_ ?_
  · exact keeps_cmdSessionOpen (hW.of rfl)
  · exact hv2

theorem keeps_execAuthChallenge {W : Nat} {a : State} {v0 : Sys2Proof.Req} {v1 : State} (hW : Sub 154742505343018098589966946 W) (hv1 : Keeps W a v1) :
    ∃ t, execAuthChallenge v0 v1 = .next t ∧ Keeps W a t := by
  refine ⟨_, rfl, ?_⟩
  refine keeps_serve (hW.of rfl) ?_ ?_
  · exact keeps_cmdAuthChallenge (hW.of rfl)
  · exact hv1

end Sys2Proof.Machine
end

