-- ==== Sys2Proof/Laws/KeepsDispatch.lean ====
section
/-! SUPPORT. What the operations of Machine/Dispatch.lean keep (`Keeps`): one lemma for each. -/

namespace Sys2Proof.Machine

set_option linter.unusedVariables false
set_option linter.unusedTactic false
set_option linter.unreachableTactic false

/-- Every command answers a next state, keeps the queue and never lowers the free counter (all blocks may change). -/
theorem keeps_exec {W : Nat} {a : State} {v0 : Instr} {v1 : State} (hW : Sub 18347988927920572092886567162416695526372519913346248989900710715095383008707878464560148424881005492436990 W) (hv1 : Keeps W a v1) :
    ∃ t, exec v0 v1 = .next t ∧ Keeps W a t := by
  cases v0 with
  | por => exact keeps_execPor (hW.of rfl) hv1
  | aonPor => exact keeps_execAonPor (hW.of rfl) hv1
  | configurationRecall => exact keeps_execConfigurationRecall (hW.of rfl) hv1
  | ready => exact keeps_execReady (hW.of rfl) hv1
  | nvReady => exact keeps_execNvReady (hW.of rfl) hv1
  | crystalQualified => exact keeps_execCrystalQualified (hW.of rfl) hv1
  | crystalQualifyTimeout => exact keeps_execCrystalQualifyTimeout (hW.of rfl) hv1
  | crystalFailure => exact keeps_execCrystalFailure (hW.of rfl) hv1
  | pllLossOfLock => exact keeps_execPllLossOfLock (hW.of rfl) hv1
  | pllRelock => exact keeps_execPllRelock (hW.of rfl) hv1
  | clockBackstop => exact keeps_execClockBackstop (hW.of rfl) hv1
  | holdup => exact keeps_execHoldup (hW.of rfl) hv1
  | nresetAssert => exact keeps_execNresetAssert (hW.of rfl) hv1
  | nresetRelease => exact keeps_execNresetRelease (hW.of rfl) hv1
  | coreResetBegin => exact keeps_execCoreResetBegin (hW.of rfl) hv1
  | coreResetRelease => exact keeps_execCoreResetRelease (hW.of rfl) hv1
  | watchdog => exact keeps_execWatchdog (hW.of rfl) hv1
  | pwrbtnPress => exact keeps_execPwrbtnPress (hW.of rfl) hv1
  | forcedPowerDown => exact keeps_execForcedPowerDown (hW.of rfl) hv1
  | wakeInQualified => exact keeps_execWakeInQualified (hW.of rfl) hv1
  | shipWake => exact keeps_execShipWake (hW.of rfl) hv1
  | shipEntryBegin => exact keeps_execShipEntryBegin (hW.of rfl) hv1
  | shipEntryFinish => exact keeps_execShipEntryFinish (hW.of rfl) hv1
  | modeRequest => exact keeps_execModeRequest (hW.of rfl) hv1
  | shipArm => exact keeps_execShipArm (hW.of rfl) hv1
  | status => exact keeps_execStatus (hW.of rfl) hv1
  | identify => exact keeps_execIdentify (hW.of rfl) hv1
  | coreReset => exact keeps_execCoreReset (hW.of rfl) hv1
  | timeSet => exact keeps_execTimeSet (hW.of rfl) hv1
  | events => exact keeps_execEvents (hW.of rfl) hv1
  | sessionOpen => exact keeps_execSessionOpen (hW.of rfl) hv1
  | sessionClose => exact keeps_execSessionClose (hW.of rfl) hv1
  | authChallenge => exact keeps_execAuthChallenge (hW.of rfl) hv1
  | authProve => exact keeps_execAuthProve (hW.of rfl) hv1
  | tenantWrite => exact keeps_execTenantWrite (hW.of rfl) hv1
  | creditsRead => exact keeps_execCreditsRead (hW.of rfl) hv1
  | paramGet => exact keeps_execParamGet (hW.of rfl) hv1
  | paramSet => exact keeps_execParamSet (hW.of rfl) hv1
  | paramInfo => exact keeps_execParamInfo (hW.of rfl) hv1
  | txnBegin => exact keeps_execTxnBegin (hW.of rfl) hv1
  | txnCommit => exact keeps_execTxnCommit (hW.of rfl) hv1
  | txnRollback => exact keeps_execTxnRollback (hW.of rfl) hv1
  | txnStatus => exact keeps_execTxnStatus (hW.of rfl) hv1
  | configFactory => exact keeps_execConfigFactory (hW.of rfl) hv1
  | commitWaitCheck => exact keeps_execCommitWaitCheck (hW.of rfl) hv1
  | txnIdleTimeout => exact keeps_execTxnIdleTimeout (hW.of rfl) hv1
  | railState => exact keeps_execRailState (hW.of rfl) hv1
  | railForce => exact keeps_execRailForce (hW.of rfl) hv1
  | tableRun => exact keeps_execTableRun (hW.of rfl) hv1
  | tableAbort => exact keeps_execTableAbort (hW.of rfl) hv1
  | tableRead => exact keeps_execTableRead (hW.of rfl) hv1
  | tableWrite => exact keeps_execTableWrite (hW.of rfl) hv1
  | seqStatus => exact keeps_execSeqStatus (hW.of rfl) hv1
  | railPark => exact keeps_execRailPark (hW.of rfl) hv1
  | stepEnd => exact keeps_execStepEnd (hW.of rfl) hv1
  | stepEnable => exact keeps_execStepEnable (hW.of rfl) hv1
  | stepDisable => exact keeps_execStepDisable (hW.of rfl) hv1
  | stepWaitPg => exact keeps_execStepWaitPg (hW.of rfl) hv1
  | stepWaitBelow => exact keeps_execStepWaitBelow (hW.of rfl) hv1
  | stepDelay => exact keeps_execStepDelay (hW.of rfl) hv1
  | stepWaitReq => exact keeps_execStepWaitReq (hW.of rfl) hv1
  | stepSetOut => exact keeps_execStepSetOut (hW.of rfl) hv1
  | stepMargin => exact keeps_execStepMargin (hW.of rfl) hv1
  | stepIfModule => exact keeps_execStepIfModule (hW.of rfl) hv1
  | stepDischarge => exact keeps_execStepDischarge (hW.of rfl) hv1
  | stepTrigger => exact keeps_execStepTrigger (hW.of rfl) hv1
  | stepEvent => exact keeps_execStepEvent (hW.of rfl) hv1
  | waitMet => exact keeps_execWaitMet (hW.of rfl) hv1
  | waitTimeout => exact keeps_execWaitTimeout (hW.of rfl) hv1
  | delayElapsed => exact keeps_execDelayElapsed (hW.of rfl) hv1
  | pgGood => exact keeps_execPgGood (hW.of rfl) hv1
  | railBelowOff => exact keeps_execRailBelowOff (hW.of rfl) hv1
  | tonMax => exact keeps_execTonMax (hW.of rfl) hv1
  | toffMax => exact keeps_execToffMax (hW.of rfl) hv1
  | reqEdge => exact keeps_execReqEdge (hW.of rfl) hv1
  | joinRun => exact keeps_execJoinRun (hW.of rfl) hv1
  | joinTimeout => exact keeps_execJoinTimeout (hW.of rfl) hv1
  | marginSet => exact keeps_execMarginSet (hW.of rfl) hv1
  | marginStatus => exact keeps_execMarginStatus (hW.of rfl) hv1
  | marginLoopTick => exact keeps_execMarginLoopTick (hW.of rfl) hv1
  | ovFast => exact keeps_execOvFast (hW.of rfl) hv1
  | uvFast => exact keeps_execUvFast (hW.of rfl) hv1
  | faultVerifyResult => exact keeps_execFaultVerifyResult (hW.of rfl) hv1
  | pgLoss => exact keeps_execPgLoss (hW.of rfl) hv1
  | enShort => exact keeps_execEnShort (hW.of rfl) hv1
  | senseCheckPeriodic => exact keeps_execSenseCheckPeriodic (hW.of rfl) hv1
  | vinOv => exact keeps_execVinOv (hW.of rfl) hv1
  | vinReverse => exact keeps_execVinReverse (hW.of rfl) hv1
  | batReverse => exact keeps_execBatReverse (hW.of rfl) hv1
  | sysUv => exact keeps_execSysUv (hW.of rfl) hv1
  | dieOt => exact keeps_execDieOt (hW.of rfl) hv1
  | resvLow => exact keeps_execResvLow (hW.of rfl) hv1
  | faultRetry => exact keeps_execFaultRetry (hW.of rfl) hv1
  | retryCountReset => exact keeps_execRetryCountReset (hW.of rfl) hv1
  | faultnPulseEnd => exact keeps_execFaultnPulseEnd (hW.of rfl) hv1
  | faultReport => exact keeps_execFaultReport (hW.of rfl) hv1
  | faultStatus => exact keeps_execFaultStatus (hW.of rfl) hv1
  | faultClear => exact keeps_execFaultClear (hW.of rfl) hv1
  | faultInject => exact keeps_execFaultInject (hW.of rfl) hv1
  | senseCheck => exact keeps_execSenseCheck (hW.of rfl) hv1
  | pipeFrame => exact keeps_execPipeFrame (hW.of rfl) hv1
  | captureMarkerCommit => exact keeps_execCaptureMarkerCommit (hW.of rfl) hv1
  | captureFreeze => exact keeps_execCaptureFreeze (hW.of rfl) hv1
  | captureRecordCommit => exact keeps_execCaptureRecordCommit (hW.of rfl) hv1
  | captureStatus => exact keeps_execCaptureStatus (hW.of rfl) hv1
  | captureRead => exact keeps_execCaptureRead (hW.of rfl) hv1
  | captureClear => exact keeps_execCaptureClear (hW.of rfl) hv1
  | captureTest => exact keeps_execCaptureTest (hW.of rfl) hv1
  | rotationStep => exact keeps_execRotationStep (hW.of rfl) hv1
  | sliceSwap => exact keeps_execSliceSwap (hW.of rfl) hv1
  | calSystem => exact keeps_execCalSystem (hW.of rfl) hv1
  | calibrationEnd => exact keeps_execCalibrationEnd (hW.of rfl) hv1
  | seqTimer => exact keeps_execSeqTimer (hW.of rfl) hv1
  | triggerLineFire => exact keeps_execTriggerLineFire (hW.of rfl) hv1
  | resultRecord => exact keeps_execResultRecord (hW.of rfl) hv1
  | ringRecordWrite => exact keeps_execRingRecordWrite (hW.of rfl) hv1
  | thermistorOpenTrip => exact keeps_execThermistorOpenTrip (hW.of rfl) hv1
  | thermistorRelease => exact keeps_execThermistorRelease (hW.of rfl) hv1
  | convertNow => exact keeps_execConvertNow (hW.of rfl) hv1
  | seqStart => exact keeps_execSeqStart (hW.of rfl) hv1
  | seqStop => exact keeps_execSeqStop (hW.of rfl) hv1
  | ringAttach => exact keeps_execRingAttach (hW.of rfl) hv1
  | ringStatus => exact keeps_execRingStatus (hW.of rfl) hv1
  | triggerFire => exact keeps_execTriggerFire (hW.of rfl) hv1
  | sweep => exact keeps_execSweep (hW.of rfl) hv1
  | sweepComplete => exact keeps_execSweepComplete (hW.of rfl) hv1
  | sweepAbort => exact keeps_execSweepAbort (hW.of rfl) hv1
  | pollReply => exact keeps_execPollReply (hW.of rfl) hv1
  | pollTimeout => exact keeps_execPollTimeout (hW.of rfl) hv1
  | pollEmerged => exact keeps_execPollEmerged (hW.of rfl) hv1
  | stubPollRound => exact keeps_execStubPollRound (hW.of rfl) hv1
  | profileParkHeld => exact keeps_execProfileParkHeld (hW.of rfl) hv1
  | tagsStatus => exact keeps_execTagsStatus (hW.of rfl) hv1
  | tagsSweep => exact keeps_execTagsSweep (hW.of rfl) hv1
  | ringDiagnose => exact keeps_execRingDiagnose (hW.of rfl) hv1
  | inputDetect => exact keeps_execInputDetect (hW.of rfl) hv1
  | inputQualify => exact keeps_execInputQualify (hW.of rfl) hv1
  | sourceLoss => exact keeps_execSourceLoss (hW.of rfl) hv1
  | handoverComplete => exact keeps_execHandoverComplete (hW.of rfl) hv1
  | typecAttach => exact keeps_execTypecAttach (hW.of rfl) hv1
  | typecDetach => exact keeps_execTypecDetach (hW.of rfl) hv1
  | rpChange => exact keeps_execRpChange (hW.of rfl) hv1
  | sourceCapabilities => exact keeps_execSourceCapabilities (hW.of rfl) hv1
  | accept => exact keeps_execAccept (hW.of rfl) hv1
  | psRdy => exact keeps_execPsRdy (hW.of rfl) hv1
  | contractSettled => exact keeps_execContractSettled (hW.of rfl) hv1
  | hardReset => exact keeps_execHardReset (hW.of rfl) hv1
  | sinkWaitCapTimer => exact keeps_execSinkWaitCapTimer (hW.of rfl) hv1
  | discoverIdentityAck => exact keeps_execDiscoverIdentityAck (hW.of rfl) hv1
  | ppsRequestRepeat => exact keeps_execPpsRequestRepeat (hW.of rfl) hv1
  | searchStep => exact keeps_execSearchStep (hW.of rfl) hv1
  | creepTry => exact keeps_execCreepTry (hW.of rfl) hv1
  | panelPeriod => exact keeps_execPanelPeriod (hW.of rfl) hv1
  | vocRemeasure => exact keeps_execVocRemeasure (hW.of rfl) hv1
  | budgetPinsChange => exact keeps_execBudgetPinsChange (hW.of rfl) hv1
  | budgetWindowEdge => exact keeps_execBudgetWindowEdge (hW.of rfl) hv1
  | budgetOverrideExpiry => exact keeps_execBudgetOverrideExpiry (hW.of rfl) hv1
  | intervalClose => exact keeps_execIntervalClose (hW.of rfl) hv1
  | intakeStatus => exact keeps_execIntakeStatus (hW.of rfl) hv1
  | intakePolicy => exact keeps_execIntakePolicy (hW.of rfl) hv1
  | pdRequest => exact keeps_execPdRequest (hW.of rfl) hv1
  | budgetWindow => exact keeps_execBudgetWindow (hW.of rfl) hv1
  | pulseEnd => exact keeps_execPulseEnd (hW.of rfl) hv1
  | stepDecision => exact keeps_execStepDecision (hW.of rfl) hv1
  | restEnd => exact keeps_execRestEnd (hW.of rfl) hv1
  | prechargeExit => exact keeps_execPrechargeExit (hW.of rfl) hv1
  | doneTimer => exact keeps_execDoneTimer (hW.of rfl) hv1
  | recoveryFailed => exact keeps_execRecoveryFailed (hW.of rfl) hv1
  | chgTimeout => exact keeps_execChgTimeout (hW.of rfl) hv1
  | qiDelivery => exact keeps_execQiDelivery (hW.of rfl) hv1
  | gaugeUpdate => exact keeps_execGaugeUpdate (hW.of rfl) hv1
  | restAnchor => exact keeps_execRestAnchor (hW.of rfl) hv1
  | batteryEmpty => exact keeps_execBatteryEmpty (hW.of rfl) hv1
  | bootRest => exact keeps_execBootRest (hW.of rfl) hv1
  | chargeStatus => exact keeps_execChargeStatus (hW.of rfl) hv1
  | chargeControl => exact keeps_execChargeControl (hW.of rfl) hv1
  | gaugeRead => exact keeps_execGaugeRead (hW.of rfl) hv1
  | gaugeRelearn => exact keeps_execGaugeRelearn (hW.of rfl) hv1
  | bankStatus => exact keeps_execBankStatus (hW.of rfl) hv1
  | bankHandover => exact keeps_execBankHandover (hW.of rfl) hv1
  | bankRead => exact keeps_execBankRead (hW.of rfl) hv1
  | bankWrite => exact keeps_execBankWrite (hW.of rfl) hv1
  | bankAtomic => exact keeps_execBankAtomic (hW.of rfl) hv1
  | bankRetire => exact keeps_execBankRetire (hW.of rfl) hv1
  | handoverDrainEnd => exact keeps_execHandoverDrainEnd (hW.of rfl) hv1
  | bankZeroingDone => exact keeps_execBankZeroingDone (hW.of rfl) hv1
  | bankBistDone => exact keeps_execBankBistDone (hW.of rfl) hv1
  | memoryWindowAccess => exact keeps_execMemoryWindowAccess (hW.of rfl) hv1
  | aliasBitSet => exact keeps_execAliasBitSet (hW.of rfl) hv1
  | aliasBitClear => exact keeps_execAliasBitClear (hW.of rfl) hv1
  | aliasAtomicAdd => exact keeps_execAliasAtomicAdd (hW.of rfl) hv1
  | atopAdd => exact keeps_execAtopAdd (hW.of rfl) hv1
  | atopSwap => exact keeps_execAtopSwap (hW.of rfl) hv1
  | atopOr => exact keeps_execAtopOr (hW.of rfl) hv1
  | atopAndNot => exact keeps_execAtopAndNot (hW.of rfl) hv1
  | nvStatus => exact keeps_execNvStatus (hW.of rfl) hv1
  | nvRead => exact keeps_execNvRead (hW.of rfl) hv1
  | nvGather => exact keeps_execNvGather (hW.of rfl) hv1
  | nvCommit => exact keeps_execNvCommit (hW.of rfl) hv1
  | nvDiscard => exact keeps_execNvDiscard (hW.of rfl) hv1
  | nvProtect => exact keeps_execNvProtect (hW.of rfl) hv1
  | logAppend => exact keeps_execLogAppend (hW.of rfl) hv1
  | logRead => exact keeps_execLogRead (hW.of rfl) hv1
  | nvCommitComplete => exact keeps_execNvCommitComplete (hW.of rfl) hv1
  | eepromWrite => exact keeps_execEepromWrite (hW.of rfl) hv1
  | eepromCommitDone => exact keeps_execEepromCommitDone (hW.of rfl) hv1
  | eepromRead => exact keeps_execEepromRead (hW.of rfl) hv1
  | sectorEraseDone => exact keeps_execSectorEraseDone (hW.of rfl) hv1
  | resvDischargeTest => exact keeps_execResvDischargeTest (hW.of rfl) hv1
  | fwInfo => exact keeps_execFwInfo (hW.of rfl) hv1
  | fwBegin => exact keeps_execFwBegin (hW.of rfl) hv1
  | fwEraseDone => exact keeps_execFwEraseDone (hW.of rfl) hv1
  | fwChunk => exact keeps_execFwChunk (hW.of rfl) hv1
  | fwFinish => exact keeps_execFwFinish (hW.of rfl) hv1
  | fwActivate => exact keeps_execFwActivate (hW.of rfl) hv1
  | submit => exact keeps_execSubmit (hW.of rfl) hv1
  | rspDone => exact keeps_execRspDone (hW.of rfl) hv1
  | responsePosted => exact keeps_execResponsePosted (hW.of rfl) hv1
  | portReset => exact keeps_execPortReset (hW.of rfl) hv1
  | portResetEnd => exact keeps_execPortResetEnd (hW.of rfl) hv1
  | evtPop => exact keeps_execEvtPop (hW.of rfl) hv1
  | irqStatusClear => exact keeps_execIrqStatusClear (hW.of rfl) hv1
  | winStatusRead => exact keeps_execWinStatusRead (hW.of rfl) hv1
  | registerWrite => exact keeps_execRegisterWrite (hW.of rfl) hv1
  | spiStatus => exact keeps_execSpiStatus (hW.of rfl) hv1
  | uartMailbox => exact keeps_execUartMailbox (hW.of rfl) hv1
  | uartRegRead => exact keeps_execUartRegRead (hW.of rfl) hv1
  | uartRegWrite => exact keeps_execUartRegWrite (hW.of rfl) hv1
  | uartFrameSent => exact keeps_execUartFrameSent (hW.of rfl) hv1
  | ibiRequest => exact keeps_execIbiRequest (hW.of rfl) hv1
  | smbusAlertResponse => exact keeps_execSmbusAlertResponse (hW.of rfl) hv1
  | smbusClockLowTimeout => exact keeps_execSmbusClockLowTimeout (hW.of rfl) hv1
  | entdaa => exact keeps_execEntdaa (hW.of rfl) hv1
  | setdasa => exact keeps_execSetdasa (hW.of rfl) hv1
  | setnewda => exact keeps_execSetnewda (hW.of rfl) hv1
  | rstdaa => exact keeps_execRstdaa (hW.of rfl) hv1
  | enec => exact keeps_execEnec (hW.of rfl) hv1
  | disec => exact keeps_execDisec (hW.of rfl) hv1
  | getpid => exact keeps_execGetpid (hW.of rfl) hv1
  | getbcr => exact keeps_execGetbcr (hW.of rfl) hv1
  | getdcr => exact keeps_execGetdcr (hW.of rfl) hv1
  | getstatus => exact keeps_execGetstatus (hW.of rfl) hv1
  | getmwl => exact keeps_execGetmwl (hW.of rfl) hv1
  | getmrl => exact keeps_execGetmrl (hW.of rfl) hv1
  | setmwl => exact keeps_execSetmwl (hW.of rfl) hv1
  | setmrl => exact keeps_execSetmrl (hW.of rfl) hv1
  | nonceExpiry => exact keeps_execNonceExpiry (hW.of rfl) hv1
  | authLockoutEnd => exact keeps_execAuthLockoutEnd (hW.of rfl) hv1
  | ledgerRead => exact keeps_execLedgerRead (hW.of rfl) hv1
  | background => exact keeps_execBackground (hW.of rfl) hv1
  | telemetryRead => exact keeps_execTelemetryRead (hW.of rfl) hv1
  | fumaroleStep => exact keeps_execFumaroleStep (hW.of rfl) hv1
  | backgroundWindow => exact keeps_execBackgroundWindow (hW.of rfl) hv1
  | checkpoint => exact keeps_execCheckpoint (hW.of rfl) hv1
  | telemetry => exact keeps_execTelemetry (hW.of rfl) hv1
  | faScrub => exact keeps_execFaScrub (hW.of rfl) hv1
  | saScrub => exact keeps_execSaScrub (hW.of rfl) hv1
  | bankScrub => exact keeps_execBankScrub (hW.of rfl) hv1
  | compaction => exact keeps_execCompaction (hW.of rfl) hv1
  | outputFoldback => exact keeps_execOutputFoldback (hW.of rfl) hv1
  | foldbackRetry => exact keeps_execFoldbackRetry (hW.of rfl) hv1
  | tapReset => exact keeps_execTapReset (hW.of rfl) hv1
  | extest => exact keeps_execExtest (hW.of rfl) hv1
  | idcode => exact keeps_execIdcode (hW.of rfl) hv1
  | samplePreload => exact keeps_execSamplePreload (hW.of rfl) hv1
  | clamp => exact keeps_execClamp (hW.of rfl) hv1
  | highz => exact keeps_execHighz (hW.of rfl) hv1
  | bypass => exact keeps_execBypass (hW.of rfl) hv1
  | blockedExit => exact keeps_execBlockedExit (hW.of rfl) hv1
  | unsupportedPdMessage => exact keeps_execUnsupportedPdMessage (hW.of rfl) hv1
  | sysValidRestored => exact keeps_execSysValidRestored (hW.of rfl) hv1
  | continuousFrameStart => exact keeps_execContinuousFrameStart (hW.of rfl) hv1
  | testEnChange => exact keeps_execTestEnChange (hW.of rfl) hv1
  | captureDrScan => exact keeps_execCaptureDrScan (hW.of rfl) hv1
  | phaseWholeSecond => exact keeps_execPhaseWholeSecond (hW.of rfl) hv1

end Sys2Proof.Machine
end

