-- ==== Sys2Proof/Laws/KeepsTime.lean ====
section
/-! SUPPORT. What the operations of Machine/Time.lean keep (`Keeps`): one lemma for each. -/

namespace Sys2Proof.Machine

set_option linter.unusedVariables false
set_option linter.unusedTactic false
set_option linter.unreachableTactic false

theorem keeps_usTick {W : Nat} {a : State} {v0 : State} (hW : Sub 4281743078117879643174857908348485958904184848 W) (hv0 : Keeps W a v0) :
    Keeps W a (usTick v0) := by
  unfold usTick
  extract_lets -useContext -underBinder x0 x1
  have hx0 : Keeps W a x0 := by
    unfold x0
    refine keeps_onClk (hW.of rfl) (fun _ => (by constructor <;> first | exact fun h => Bool.noConfusion ((hW.bit (by rfl)).symm.trans h) | exact fun _ => rfl | (intro _; split <;> rfl))) ?_
    exact hv0
  try clear_value x0
  refine Keeps.ite ?_ ?_
  · refine Keeps.upd_17 (hW.bit rfl) (by constructor <;> first | exact fun h => Bool.noConfusion ((hW.bit (by rfl)).symm.trans h) | exact fun _ => rfl | (intro _; split <;> rfl)) ?_
    exact hx0
  · exact hx0

theorem keeps_idle {W : Nat} {a : State} {v0 : State} (hW : Sub 4281743078117879643329600413691504060715376696 W) (hv0 : Keeps W a v0) :
    Keeps W a (idle v0) := by
  unfold idle
  refine keeps_onPower (hW.of rfl) (fun t ht => keeps_wdKick (hW.of rfl) (keeps_usTick (hW.of rfl) ht)) ?_
  refine keeps_onAon (hW.of rfl) (fun c => ?_) hv0
  unfold rtcTick
  split <;> exact (by constructor <;> first | exact fun h => Bool.noConfusion ((hW.bit (by rfl)).symm.trans h) | exact fun _ => rfl | (intro _; split <;> rfl))

end Sys2Proof.Machine
end

