-- ==== Sys2Proof/Laws/Latches.lean ====
section
/-! SUPPORT. A fault that is raised leaves its latch set, and answering a fault clears no latch (R222). -/

namespace Sys2Proof.Machine

theorem sameLatch_code {l : Latch} {c src : Nat} (h : sameLatch l c src = true) : l.code = c := by
  simp [sameLatch] at h
  exact h.1

/-- Setting a latch sets it. -/
theorem setLatch_sets (a : Setting) (t : Nat) (ls : List Latch) : ∃ l ∈ setLatch a t ls, l.code = a.code := by
  induction ls with
  | nil => exact ⟨_, List.mem_singleton.2 rfl, rfl⟩
  | cons l ls ih =>
    unfold setLatch
    split
    · rename_i h
      have hc := sameLatch_code h
      exact ⟨_, List.mem_cons_self, hc⟩
    · obtain ⟨m, hm, hc⟩ := ih
      exact ⟨m, List.mem_cons_of_mem _ hm, hc⟩

/-- Setting a latch clears none. -/
theorem setLatch_keeps {c : Nat} (a : Setting) (t : Nat) {ls : List Latch} (h : ∃ l ∈ ls, l.code = c) :
    ∃ l ∈ setLatch a t ls, l.code = c := by
  induction ls with
  | nil => obtain ⟨l, hl, _⟩ := h; cases hl
  | cons l ls ih =>
    unfold setLatch
    obtain ⟨m, hm, hc⟩ := h
    rcases List.mem_cons.1 hm with rfl | hm'
    · split
      · exact ⟨_, List.mem_cons_self, hc⟩
      · exact ⟨_, List.mem_cons_self, hc⟩
    · split
      · exact ⟨m, List.mem_cons_of_mem _ hm', hc⟩
      · obtain ⟨m, hm, hc⟩ := ih ⟨m, hm', hc⟩
        exact ⟨m, List.mem_cons_of_mem _ hm, hc⟩

theorem setLatches_keeps {c : Nat} (as : List Setting) (t : Nat) {ls : List Latch} (h : ∃ l ∈ ls, l.code = c) :
    ∃ l ∈ as.foldl (fun ls a => setLatch a t ls) ls, l.code = c := by
  induction as generalizing ls with
  | nil => exact h
  | cons a as ih => exact ih (setLatch_keeps a t h)

theorem setLatches_sets (as : List Setting) (t : Nat) {a : Setting} (ha : a ∈ as) (ls : List Latch) :
    ∃ l ∈ as.foldl (fun ls a => setLatch a t ls) ls, l.code = a.code := by
  induction as generalizing ls with
  | nil => cases ha
  | cons b as ih =>
    rcases List.mem_cons.1 ha with rfl | h
    · exact setLatches_keeps as t (setLatch_sets _ t ls)
    · exact ih h _

/-- An operation that does not write the latches keeps them set. -/
theorem Latched.of_eq {c : Nat} {s t : State} (h : Latched c s) (e : t.sup.latches = s.sup.latches) : Latched c t := by
  unfold Latched
  rw [e]
  exact h

theorem latched_latchAll_keeps {c : Nat} {s : State} (as : List Setting) (top : Nat) (h : Latched c s) : Latched c (latchAll as top s) :=
  setLatches_keeps as (tick s) h

theorem latched_latchAll {a : Setting} {as : List Setting} (ha : a ∈ as) (top : Nat) (s : State) : Latched a.code (latchAll as top s) :=
  setLatches_sets as (tick s) ha s.sup.latches

theorem latched_noteOff {c : Nat} {s : State} (a : Setting) (rs : List Nat) (h : Latched c s) : Latched c (noteOff a rs s) := by
  obtain ⟨l, hl, hc⟩ := h
  refine ⟨_, List.mem_map_of_mem hl, ?_⟩
  split
  · exact hc
  · exact hc

theorem latched_railActions {c : Nat} {s : State} (a : Setting) (h : Latched c s) : Latched c (railActions s a) := by
  unfold railActions
  extract_lets rs s1
  have h1 : Latched c s1 := by
    have : ∀ (l : List Nat) (t : State), Latched c t → Latched c (l.foldl (offOne a) t) := by
      intro l
      induction l with
      | nil => exact fun t h => h
      | cons r l ih =>
        exact fun t h => ih _ (h.of_eq ((keeps_offOne (Sub.refl _) (Keeps.refl _ _)).supK.latches rfl))
    exact this rs _ (latched_noteOff a rs h)
  split
  · refine Latched.of_eq ?_ ((keeps_outsOff (Sub.refl _) (Keeps.refl _ _)).supK.latches rfl)
    exact h1.of_eq ((keeps_noScanAll (Sub.refl _) (Keeps.refl _ _)).supK.latches rfl)
  · exact h1

theorem latched_foldRailActions {c : Nat} (as : List Setting) {s : State} (h : Latched c s) : Latched c (as.foldl railActions s) := by
  induction as generalizing s with
  | nil => exact h
  | cons a as ih => exact ih (latched_railActions a h)

theorem latched_foldSide {c : Nat} (as : List Setting) {s : State} (h : Latched c s) : Latched c (as.foldl sideOf s) := by
  induction as generalizing s with
  | nil => exact h
  | cons a as ih => exact ih (h.of_eq ((keeps_sideOf (Sub.refl _) (Keeps.refl _ _)).supK.latches rfl))

/-- Latching a cycle sets the latch of each of its settings. -/
theorem latched_latchNow {a : Setting} {as : List Setting} (ha : a ∈ as) (s : State) : Latched a.code (latchNow as s) := by
  unfold latchNow
  split
  · rename_i h
    rw [List.isEmpty_iff.1 h] at ha
    cases ha
  · exact latched_foldSide as (latched_latchAll ha _ _)

/-- Latching a cycle clears no latch. -/
theorem latched_latchNow_keeps {c : Nat} (as : List Setting) {s : State} (h : Latched c s) : Latched c (latchNow as s) := by
  unfold latchNow
  split
  · exact h
  · refine latched_foldSide as (latched_latchAll_keeps as _ ?_)
    exact h.of_eq ((keeps_captureSettings (Sub.refl _) (Keeps.refl _ _)).supK.latches rfl)

/-- What follows the latching of a cycle clears no latch. -/
theorem latched_answer_rest {c : Nat} (as : List Setting) (s1 : State) (top : Nat) (h : Latched c s1) :
    Latched c (bringPoll (unwindPoll (waitsEnd as s1
      (if s1.sup.executing < top ∧ 4 ≤ top then tableAction top (as.foldl railActions s1) else as.foldl railActions s1)))) := by
  have h2 := latched_foldRailActions as h
  generalize as.foldl railActions s1 = s2 at h2
  have h3 : Latched c (if s1.sup.executing < top ∧ 4 ≤ top then tableAction top s2 else s2) := by
    split
    · exact h2.of_eq ((keeps_tableAction (Sub.refl _) (Keeps.refl _ _)).supK.latches rfl)
    · exact h2
  refine Latched.of_eq ?_ ((keeps_bringPoll (Sub.refl _) (Keeps.refl _ _)).supK.latches rfl)
  refine Latched.of_eq ?_ ((keeps_unwindPoll (Sub.refl _) (Keeps.refl _ _)).supK.latches rfl)
  unfold waitsEnd
  exact h3.of_eq ((keeps_coverFault (Sub.refl _) (Keeps.refl _ _)).supK.latches rfl)

/-- Answering a cycle sets the latch of each of its settings. -/
theorem latched_answer {a : Setting} {as : List Setting} (ha : a ∈ as) (s : State) : Latched a.code (answer as s) := by
  unfold answer respondTo
  split
  · exact latched_latchNow ha s
  · exact latched_answer_rest as _ _ (latched_latchNow ha s)

/-- Answering a cycle clears no latch. -/
theorem latched_answer_keeps {c : Nat} (as : List Setting) {s : State} (h : Latched c s) : Latched c (answer as s) := by
  unfold answer respondTo
  split
  · exact latched_latchNow_keeps as h
  · exact latched_answer_rest as _ _ (latched_latchNow_keeps as h)

theorem settingOf_code (s : State) (a : Raise) : (settingOf s a).code = a.code := by
  unfold settingOf
  split <;> rfl

/-- A detector's output that is armed, or a global one, leaves its latch set. -/
theorem latched_raiseFaults {rs : List Raise} {a : Raise} {s : State} (ha : a ∈ rs) (hm : 24 ≤ a.src ∨ armed s a.code a.src = true) :
    Latched a.code (raiseFaults rs s) := by
  unfold raiseFaults
  have : settingOf s a ∈ (rs.filter (fun a => decide (24 ≤ a.src) || armed s a.code a.src)).map (settingOf s) :=
    List.mem_map_of_mem (List.mem_filter.2 ⟨ha, by simpa using hm⟩)
  simpa [settingOf_code] using latched_answer this s

/-- A global fault leaves its latch set. -/
theorem latched_raiseGlobal (code src : Nat) (v : Option Int) (s : State) (h : 24 ≤ src) : Latched code (raiseGlobal code src v s) :=
  latched_raiseFaults (a := { code := code, src := src, value := v, chan := 0xFF, injected := false }) (List.mem_singleton.2 rfl) (.inl h)

/-- A rail fault that is armed leaves its latch set. -/
theorem latched_raiseRail {code r : Nat} (v : Option Int) (chan : Nat) {s : State} (h : armed s code r = true) :
    Latched code (raiseRail code r v chan s) :=
  latched_raiseFaults (a := { code := code, src := r, value := v, chan := chan, injected := false }) (List.mem_singleton.2 rfl) (.inr h)

/-- A fault of the engine's own checks leaves its latch set. -/
theorem latched_raiseCheck (code r : Nat) (s : State) : Latched code (raiseCheck code r s) := by
  have := latched_answer (List.mem_singleton.2 rfl : settingOf s _ ∈ [settingOf s { code := code, src := r, value := none, chan := 0xFF, injected := false }]) s
  rw [settingOf_code] at this
  exact this

end Sys2Proof.Machine
end

