-- ==== Sys2Proof/Laws/Serve.lean ====
section
/-! SUPPORT. What a host command answers once its request is accepted (R599 to R607), and what posting an event leaves (R47). -/

namespace Sys2Proof.Machine

/-- An accepted command runs its body on the state that has consumed its credit. -/
theorem serve_accepted {d : CmdDef} {r : Req} {pl : Bytes} {s : State} (h : Accepted d r pl s) :
    serve d r pl s = finish d.code r (d.body r pl (begun d.code r s)) := by
  obtain ⟨⟨hb, hp, hs⟩, ha, hc⟩ := h
  unfold serve onPortBus serveUp serveChecked runCommand begun
  rw [hb, hp]
  simp only [Bool.and_self, if_true, hs, ha, hc]

/-- A body that is done answers with its status and payload. -/
theorem serve_done {d : CmdDef} {r : Req} {pl : Bytes} {s : State} (h : Accepted d r pl s) {st : Nat} {p : Bytes} {t : State}
    (hb : d.body r pl (begun d.code r s) = .done st p t) : serve d r pl s = answered d.code r st p t := by
  rw [serve_accepted h, hb]
  rfl

/-- A body with an effect after its answer. -/
theorem serve_doneThen {d : CmdDef} {r : Req} {pl : Bytes} {s : State} (h : Accepted d r pl s) {st : Nat} {p : Bytes} {t : State}
    {k : State → State} (hb : d.body r pl (begun d.code r s) = .doneThen st p t k) : serve d r pl s = k (answered d.code r st p t) := by
  rw [serve_accepted h, hb]
  rfl

/-- A body that is accepted for later answers ACCEPTED and keeps its credit. -/
theorem serve_acceptedLater {d : CmdDef} {r : Req} {pl : Bytes} {s : State} (h : Accepted d r pl s) {t : State}
    (hb : d.body r pl (begun d.code r s) = .accepted t) :
    serve d r pl s = respond r.port r.tenant r.seq stAccepted [] (some t.clk.us) false t := by
  rw [serve_accepted h, hb]
  rfl

/-- A body whose answer is owed answers nothing yet. -/
theorem serve_owed {d : CmdDef} {r : Req} {pl : Bytes} {s : State} (h : Accepted d r pl s) {t : State}
    (hb : d.body r pl (begun d.code r s) = .owed t) : serve d r pl s = t := by
  rw [serve_accepted h, hb]
  rfl

/-- Posting an event holds it while firmware does not run. -/
theorem held_post (code flags src arg : Nat) {s : State} (h : fwRuns s = false) : HeldEvent code (post code flags src arg s) := by
  unfold post postDeferred
  rw [h]
  exact ⟨_, List.mem_append_right _ (List.mem_singleton.2 rfl), rfl⟩

/-- Posting a tenant's own event holds it while firmware does not run. -/
theorem held_postOwn (n code flags src arg : Nat) {s : State} (h : fwRuns s = false) : HeldEvent code (postOwn n code flags src arg s) := by
  unfold postOwn postDeferred
  rw [h]
  exact ⟨_, List.mem_append_right _ (List.mem_singleton.2 rfl), rfl⟩

/-- A held event stays held where an operation lets none go. -/
theorem held_mono {code : Nat} {s t : State} (h : HeldEvent code s) (g : ∀ d ∈ s.deferred, d ∈ t.deferred) : HeldEvent code t := by
  obtain ⟨d, hd, hc⟩ := h
  exact ⟨d, g d hd, hc⟩

end Sys2Proof.Machine
end

