-- ==== Sys2Proof/Laws/State.lean ====
section
/-! SUPPORT. The named updates of State, field by field: what each writes, and that it leaves every other field alone. -/

namespace Sys2Proof.Machine

/-! ### Entries of fixed-length vectors -/

/-- An entry that is changed reads as changed. -/
@[simp] theorem vget_vmod_same {α : Type} {n : Nat} (v : Vector α n) (i : Nat) (f : α → α) (d : α) (h : i < n) :
    vget (vmod v i f) i d = f (vget v i d) := by
  simp [vget, vmod, h]

/-- The other entries read as before. -/
theorem vget_vmod_other {α : Type} {n : Nat} (v : Vector α n) {i j : Nat} (f : α → α) (d : α) (h : i ≠ j) :
    vget (vmod v i f) j d = vget v j d := by
  unfold vget vmod
  split <;> simp_all

/-- An index outside the vector changes nothing. -/
theorem vmod_outside {α : Type} {n : Nat} (v : Vector α n) {i : Nat} (f : α → α) (h : n ≤ i) : vmod v i f = v := by
  unfold vmod
  split <;> simp_all

/-! ### onAon -/

@[simp] theorem onAon_pending (f : Aon → Aon) (s : State) : (onAon f s).pending = s.pending := rfl
@[simp] theorem onAon_free (f : Aon → Aon) (s : State) : (onAon f s).free = s.free := rfl
@[simp] theorem onAon_mem (f : Aon → Aon) (s : State) : (onAon f s).mem = s.mem := rfl
@[simp] theorem onAon_aon (f : Aon → Aon) (s : State) : (onAon f s).aon = f s.aon := rfl
@[simp] theorem onAon_clk (f : Aon → Aon) (s : State) : (onAon f s).clk = s.clk := rfl
@[simp] theorem onAon_core (f : Aon → Aon) (s : State) : (onAon f s).core = s.core := rfl
@[simp] theorem onAon_ports (f : Aon → Aon) (s : State) : (onAon f s).ports = s.ports := rfl
@[simp] theorem onAon_i3c (f : Aon → Aon) (s : State) : (onAon f s).i3c = s.i3c := rfl
@[simp] theorem onAon_uart (f : Aon → Aon) (s : State) : (onAon f s).uart = s.uart := rfl
@[simp] theorem onAon_tenants (f : Aon → Aon) (s : State) : (onAon f s).tenants = s.tenants := rfl
@[simp] theorem onAon_ops (f : Aon → Aon) (s : State) : (onAon f s).ops = s.ops := rfl
@[simp] theorem onAon_owed (f : Aon → Aon) (s : State) : (onAon f s).owed = s.owed := rfl
@[simp] theorem onAon_deferred (f : Aon → Aon) (s : State) : (onAon f s).deferred = s.deferred := rfl
@[simp] theorem onAon_par (f : Aon → Aon) (s : State) : (onAon f s).par = s.par := rfl
@[simp] theorem onAon_nv (f : Aon → Aon) (s : State) : (onAon f s).nv = s.nv := rfl
@[simp] theorem onAon_fw (f : Aon → Aon) (s : State) : (onAon f s).fw = s.fw := rfl
@[simp] theorem onAon_log (f : Aon → Aon) (s : State) : (onAon f s).log = s.log := rfl
@[simp] theorem onAon_bg (f : Aon → Aon) (s : State) : (onAon f s).bg = s.bg := rfl
@[simp] theorem onAon_rails (f : Aon → Aon) (s : State) : (onAon f s).rails = s.rails := rfl
@[simp] theorem onAon_eng (f : Aon → Aon) (s : State) : (onAon f s).eng = s.eng := rfl
@[simp] theorem onAon_sup (f : Aon → Aon) (s : State) : (onAon f s).sup = s.sup := rfl
@[simp] theorem onAon_cap (f : Aon → Aon) (s : State) : (onAon f s).cap = s.cap := rfl
@[simp] theorem onAon_tags (f : Aon → Aon) (s : State) : (onAon f s).tags = s.tags := rfl
@[simp] theorem onAon_msr (f : Aon → Aon) (s : State) : (onAon f s).msr = s.msr := rfl
@[simp] theorem onAon_fab (f : Aon → Aon) (s : State) : (onAon f s).fab = s.fab := rfl
@[simp] theorem onAon_inp (f : Aon → Aon) (s : State) : (onAon f s).inp = s.inp := rfl
@[simp] theorem onAon_chg (f : Aon → Aon) (s : State) : (onAon f s).chg = s.chg := rfl
@[simp] theorem onAon_gau (f : Aon → Aon) (s : State) : (onAon f s).gau = s.gau := rfl
@[simp] theorem onAon_supply (f : Aon → Aon) (s : State) : (onAon f s).supply = s.supply := rfl
@[simp] theorem onAon_tap (f : Aon → Aon) (s : State) : (onAon f s).tap = s.tap := rfl

/-! ### onClk -/

@[simp] theorem onClk_pending (f : Clocks → Clocks) (s : State) : (onClk f s).pending = s.pending := rfl
@[simp] theorem onClk_free (f : Clocks → Clocks) (s : State) : (onClk f s).free = s.free := rfl
@[simp] theorem onClk_mem (f : Clocks → Clocks) (s : State) : (onClk f s).mem = s.mem := rfl
@[simp] theorem onClk_aon (f : Clocks → Clocks) (s : State) : (onClk f s).aon = s.aon := rfl
@[simp] theorem onClk_clk (f : Clocks → Clocks) (s : State) : (onClk f s).clk = f s.clk := rfl
@[simp] theorem onClk_core (f : Clocks → Clocks) (s : State) : (onClk f s).core = s.core := rfl
@[simp] theorem onClk_ports (f : Clocks → Clocks) (s : State) : (onClk f s).ports = s.ports := rfl
@[simp] theorem onClk_i3c (f : Clocks → Clocks) (s : State) : (onClk f s).i3c = s.i3c := rfl
@[simp] theorem onClk_uart (f : Clocks → Clocks) (s : State) : (onClk f s).uart = s.uart := rfl
@[simp] theorem onClk_tenants (f : Clocks → Clocks) (s : State) : (onClk f s).tenants = s.tenants := rfl
@[simp] theorem onClk_ops (f : Clocks → Clocks) (s : State) : (onClk f s).ops = s.ops := rfl
@[simp] theorem onClk_owed (f : Clocks → Clocks) (s : State) : (onClk f s).owed = s.owed := rfl
@[simp] theorem onClk_deferred (f : Clocks → Clocks) (s : State) : (onClk f s).deferred = s.deferred := rfl
@[simp] theorem onClk_par (f : Clocks → Clocks) (s : State) : (onClk f s).par = s.par := rfl
@[simp] theorem onClk_nv (f : Clocks → Clocks) (s : State) : (onClk f s).nv = s.nv := rfl
@[simp] theorem onClk_fw (f : Clocks → Clocks) (s : State) : (onClk f s).fw = s.fw := rfl
@[simp] theorem onClk_log (f : Clocks → Clocks) (s : State) : (onClk f s).log = s.log := rfl
@[simp] theorem onClk_bg (f : Clocks → Clocks) (s : State) : (onClk f s).bg = s.bg := rfl
@[simp] theorem onClk_rails (f : Clocks → Clocks) (s : State) : (onClk f s).rails = s.rails := rfl
@[simp] theorem onClk_eng (f : Clocks → Clocks) (s : State) : (onClk f s).eng = s.eng := rfl
@[simp] theorem onClk_sup (f : Clocks → Clocks) (s : State) : (onClk f s).sup = s.sup := rfl
@[simp] theorem onClk_cap (f : Clocks → Clocks) (s : State) : (onClk f s).cap = s.cap := rfl
@[simp] theorem onClk_tags (f : Clocks → Clocks) (s : State) : (onClk f s).tags = s.tags := rfl
@[simp] theorem onClk_msr (f : Clocks → Clocks) (s : State) : (onClk f s).msr = s.msr := rfl
@[simp] theorem onClk_fab (f : Clocks → Clocks) (s : State) : (onClk f s).fab = s.fab := rfl
@[simp] theorem onClk_inp (f : Clocks → Clocks) (s : State) : (onClk f s).inp = s.inp := rfl
@[simp] theorem onClk_chg (f : Clocks → Clocks) (s : State) : (onClk f s).chg = s.chg := rfl
@[simp] theorem onClk_gau (f : Clocks → Clocks) (s : State) : (onClk f s).gau = s.gau := rfl
@[simp] theorem onClk_supply (f : Clocks → Clocks) (s : State) : (onClk f s).supply = s.supply := rfl
@[simp] theorem onClk_tap (f : Clocks → Clocks) (s : State) : (onClk f s).tap = s.tap := rfl

/-! ### onCore -/

@[simp] theorem onCore_pending (f : CoreBlk → CoreBlk) (s : State) : (onCore f s).pending = s.pending := rfl
@[simp] theorem onCore_free (f : CoreBlk → CoreBlk) (s : State) : (onCore f s).free = s.free := rfl
@[simp] theorem onCore_mem (f : CoreBlk → CoreBlk) (s : State) : (onCore f s).mem = s.mem := rfl
@[simp] theorem onCore_aon (f : CoreBlk → CoreBlk) (s : State) : (onCore f s).aon = s.aon := rfl
@[simp] theorem onCore_clk (f : CoreBlk → CoreBlk) (s : State) : (onCore f s).clk = s.clk := rfl
@[simp] theorem onCore_core (f : CoreBlk → CoreBlk) (s : State) : (onCore f s).core = f s.core := rfl
@[simp] theorem onCore_ports (f : CoreBlk → CoreBlk) (s : State) : (onCore f s).ports = s.ports := rfl
@[simp] theorem onCore_i3c (f : CoreBlk → CoreBlk) (s : State) : (onCore f s).i3c = s.i3c := rfl
@[simp] theorem onCore_uart (f : CoreBlk → CoreBlk) (s : State) : (onCore f s).uart = s.uart := rfl
@[simp] theorem onCore_tenants (f : CoreBlk → CoreBlk) (s : State) : (onCore f s).tenants = s.tenants := rfl
@[simp] theorem onCore_ops (f : CoreBlk → CoreBlk) (s : State) : (onCore f s).ops = s.ops := rfl
@[simp] theorem onCore_owed (f : CoreBlk → CoreBlk) (s : State) : (onCore f s).owed = s.owed := rfl
@[simp] theorem onCore_deferred (f : CoreBlk → CoreBlk) (s : State) : (onCore f s).deferred = s.deferred := rfl
@[simp] theorem onCore_par (f : CoreBlk → CoreBlk) (s : State) : (onCore f s).par = s.par := rfl
@[simp] theorem onCore_nv (f : CoreBlk → CoreBlk) (s : State) : (onCore f s).nv = s.nv := rfl
@[simp] theorem onCore_fw (f : CoreBlk → CoreBlk) (s : State) : (onCore f s).fw = s.fw := rfl
@[simp] theorem onCore_log (f : CoreBlk → CoreBlk) (s : State) : (onCore f s).log = s.log := rfl
@[simp] theorem onCore_bg (f : CoreBlk → CoreBlk) (s : State) : (onCore f s).bg = s.bg := rfl
@[simp] theorem onCore_rails (f : CoreBlk → CoreBlk) (s : State) : (onCore f s).rails = s.rails := rfl
@[simp] theorem onCore_eng (f : CoreBlk → CoreBlk) (s : State) : (onCore f s).eng = s.eng := rfl
@[simp] theorem onCore_sup (f : CoreBlk → CoreBlk) (s : State) : (onCore f s).sup = s.sup := rfl
@[simp] theorem onCore_cap (f : CoreBlk → CoreBlk) (s : State) : (onCore f s).cap = s.cap := rfl
@[simp] theorem onCore_tags (f : CoreBlk → CoreBlk) (s : State) : (onCore f s).tags = s.tags := rfl
@[simp] theorem onCore_msr (f : CoreBlk → CoreBlk) (s : State) : (onCore f s).msr = s.msr := rfl
@[simp] theorem onCore_fab (f : CoreBlk → CoreBlk) (s : State) : (onCore f s).fab = s.fab := rfl
@[simp] theorem onCore_inp (f : CoreBlk → CoreBlk) (s : State) : (onCore f s).inp = s.inp := rfl
@[simp] theorem onCore_chg (f : CoreBlk → CoreBlk) (s : State) : (onCore f s).chg = s.chg := rfl
@[simp] theorem onCore_gau (f : CoreBlk → CoreBlk) (s : State) : (onCore f s).gau = s.gau := rfl
@[simp] theorem onCore_supply (f : CoreBlk → CoreBlk) (s : State) : (onCore f s).supply = s.supply := rfl
@[simp] theorem onCore_tap (f : CoreBlk → CoreBlk) (s : State) : (onCore f s).tap = s.tap := rfl

/-! ### onPort -/

@[simp] theorem onPort_pending (p : Nat) (f : Port → Port) (s : State) : (onPort p f s).pending = s.pending := rfl
@[simp] theorem onPort_free (p : Nat) (f : Port → Port) (s : State) : (onPort p f s).free = s.free := rfl
@[simp] theorem onPort_mem (p : Nat) (f : Port → Port) (s : State) : (onPort p f s).mem = s.mem := rfl
@[simp] theorem onPort_aon (p : Nat) (f : Port → Port) (s : State) : (onPort p f s).aon = s.aon := rfl
@[simp] theorem onPort_clk (p : Nat) (f : Port → Port) (s : State) : (onPort p f s).clk = s.clk := rfl
@[simp] theorem onPort_core (p : Nat) (f : Port → Port) (s : State) : (onPort p f s).core = s.core := rfl
@[simp] theorem onPort_ports (p : Nat) (f : Port → Port) (s : State) : (onPort p f s).ports = vmod s.ports p f := rfl
@[simp] theorem onPort_i3c (p : Nat) (f : Port → Port) (s : State) : (onPort p f s).i3c = s.i3c := rfl
@[simp] theorem onPort_uart (p : Nat) (f : Port → Port) (s : State) : (onPort p f s).uart = s.uart := rfl
@[simp] theorem onPort_tenants (p : Nat) (f : Port → Port) (s : State) : (onPort p f s).tenants = s.tenants := rfl
@[simp] theorem onPort_ops (p : Nat) (f : Port → Port) (s : State) : (onPort p f s).ops = s.ops := rfl
@[simp] theorem onPort_owed (p : Nat) (f : Port → Port) (s : State) : (onPort p f s).owed = s.owed := rfl
@[simp] theorem onPort_deferred (p : Nat) (f : Port → Port) (s : State) : (onPort p f s).deferred = s.deferred := rfl
@[simp] theorem onPort_par (p : Nat) (f : Port → Port) (s : State) : (onPort p f s).par = s.par := rfl
@[simp] theorem onPort_nv (p : Nat) (f : Port → Port) (s : State) : (onPort p f s).nv = s.nv := rfl
@[simp] theorem onPort_fw (p : Nat) (f : Port → Port) (s : State) : (onPort p f s).fw = s.fw := rfl
@[simp] theorem onPort_log (p : Nat) (f : Port → Port) (s : State) : (onPort p f s).log = s.log := rfl
@[simp] theorem onPort_bg (p : Nat) (f : Port → Port) (s : State) : (onPort p f s).bg = s.bg := rfl
@[simp] theorem onPort_rails (p : Nat) (f : Port → Port) (s : State) : (onPort p f s).rails = s.rails := rfl
@[simp] theorem onPort_eng (p : Nat) (f : Port → Port) (s : State) : (onPort p f s).eng = s.eng := rfl
@[simp] theorem onPort_sup (p : Nat) (f : Port → Port) (s : State) : (onPort p f s).sup = s.sup := rfl
@[simp] theorem onPort_cap (p : Nat) (f : Port → Port) (s : State) : (onPort p f s).cap = s.cap := rfl
@[simp] theorem onPort_tags (p : Nat) (f : Port → Port) (s : State) : (onPort p f s).tags = s.tags := rfl
@[simp] theorem onPort_msr (p : Nat) (f : Port → Port) (s : State) : (onPort p f s).msr = s.msr := rfl
@[simp] theorem onPort_fab (p : Nat) (f : Port → Port) (s : State) : (onPort p f s).fab = s.fab := rfl
@[simp] theorem onPort_inp (p : Nat) (f : Port → Port) (s : State) : (onPort p f s).inp = s.inp := rfl
@[simp] theorem onPort_chg (p : Nat) (f : Port → Port) (s : State) : (onPort p f s).chg = s.chg := rfl
@[simp] theorem onPort_gau (p : Nat) (f : Port → Port) (s : State) : (onPort p f s).gau = s.gau := rfl
@[simp] theorem onPort_supply (p : Nat) (f : Port → Port) (s : State) : (onPort p f s).supply = s.supply := rfl
@[simp] theorem onPort_tap (p : Nat) (f : Port → Port) (s : State) : (onPort p f s).tap = s.tap := rfl

/-! ### onPorts -/

@[simp] theorem onPorts_pending (f : Port → Port) (s : State) : (onPorts f s).pending = s.pending := rfl
@[simp] theorem onPorts_free (f : Port → Port) (s : State) : (onPorts f s).free = s.free := rfl
@[simp] theorem onPorts_mem (f : Port → Port) (s : State) : (onPorts f s).mem = s.mem := rfl
@[simp] theorem onPorts_aon (f : Port → Port) (s : State) : (onPorts f s).aon = s.aon := rfl
@[simp] theorem onPorts_clk (f : Port → Port) (s : State) : (onPorts f s).clk = s.clk := rfl
@[simp] theorem onPorts_core (f : Port → Port) (s : State) : (onPorts f s).core = s.core := rfl
@[simp] theorem onPorts_ports (f : Port → Port) (s : State) : (onPorts f s).ports = s.ports.map f := rfl
@[simp] theorem onPorts_i3c (f : Port → Port) (s : State) : (onPorts f s).i3c = s.i3c := rfl
@[simp] theorem onPorts_uart (f : Port → Port) (s : State) : (onPorts f s).uart = s.uart := rfl
@[simp] theorem onPorts_tenants (f : Port → Port) (s : State) : (onPorts f s).tenants = s.tenants := rfl
@[simp] theorem onPorts_ops (f : Port → Port) (s : State) : (onPorts f s).ops = s.ops := rfl
@[simp] theorem onPorts_owed (f : Port → Port) (s : State) : (onPorts f s).owed = s.owed := rfl
@[simp] theorem onPorts_deferred (f : Port → Port) (s : State) : (onPorts f s).deferred = s.deferred := rfl
@[simp] theorem onPorts_par (f : Port → Port) (s : State) : (onPorts f s).par = s.par := rfl
@[simp] theorem onPorts_nv (f : Port → Port) (s : State) : (onPorts f s).nv = s.nv := rfl
@[simp] theorem onPorts_fw (f : Port → Port) (s : State) : (onPorts f s).fw = s.fw := rfl
@[simp] theorem onPorts_log (f : Port → Port) (s : State) : (onPorts f s).log = s.log := rfl
@[simp] theorem onPorts_bg (f : Port → Port) (s : State) : (onPorts f s).bg = s.bg := rfl
@[simp] theorem onPorts_rails (f : Port → Port) (s : State) : (onPorts f s).rails = s.rails := rfl
@[simp] theorem onPorts_eng (f : Port → Port) (s : State) : (onPorts f s).eng = s.eng := rfl
@[simp] theorem onPorts_sup (f : Port → Port) (s : State) : (onPorts f s).sup = s.sup := rfl
@[simp] theorem onPorts_cap (f : Port → Port) (s : State) : (onPorts f s).cap = s.cap := rfl
@[simp] theorem onPorts_tags (f : Port → Port) (s : State) : (onPorts f s).tags = s.tags := rfl
@[simp] theorem onPorts_msr (f : Port → Port) (s : State) : (onPorts f s).msr = s.msr := rfl
@[simp] theorem onPorts_fab (f : Port → Port) (s : State) : (onPorts f s).fab = s.fab := rfl
@[simp] theorem onPorts_inp (f : Port → Port) (s : State) : (onPorts f s).inp = s.inp := rfl
@[simp] theorem onPorts_chg (f : Port → Port) (s : State) : (onPorts f s).chg = s.chg := rfl
@[simp] theorem onPorts_gau (f : Port → Port) (s : State) : (onPorts f s).gau = s.gau := rfl
@[simp] theorem onPorts_supply (f : Port → Port) (s : State) : (onPorts f s).supply = s.supply := rfl
@[simp] theorem onPorts_tap (f : Port → Port) (s : State) : (onPorts f s).tap = s.tap := rfl

/-! ### onI3c -/

@[simp] theorem onI3c_pending (f : I3cBus → I3cBus) (s : State) : (onI3c f s).pending = s.pending := rfl
@[simp] theorem onI3c_free (f : I3cBus → I3cBus) (s : State) : (onI3c f s).free = s.free := rfl
@[simp] theorem onI3c_mem (f : I3cBus → I3cBus) (s : State) : (onI3c f s).mem = s.mem := rfl
@[simp] theorem onI3c_aon (f : I3cBus → I3cBus) (s : State) : (onI3c f s).aon = s.aon := rfl
@[simp] theorem onI3c_clk (f : I3cBus → I3cBus) (s : State) : (onI3c f s).clk = s.clk := rfl
@[simp] theorem onI3c_core (f : I3cBus → I3cBus) (s : State) : (onI3c f s).core = s.core := rfl
@[simp] theorem onI3c_ports (f : I3cBus → I3cBus) (s : State) : (onI3c f s).ports = s.ports := rfl
@[simp] theorem onI3c_i3c (f : I3cBus → I3cBus) (s : State) : (onI3c f s).i3c = f s.i3c := rfl
@[simp] theorem onI3c_uart (f : I3cBus → I3cBus) (s : State) : (onI3c f s).uart = s.uart := rfl
@[simp] theorem onI3c_tenants (f : I3cBus → I3cBus) (s : State) : (onI3c f s).tenants = s.tenants := rfl
@[simp] theorem onI3c_ops (f : I3cBus → I3cBus) (s : State) : (onI3c f s).ops = s.ops := rfl
@[simp] theorem onI3c_owed (f : I3cBus → I3cBus) (s : State) : (onI3c f s).owed = s.owed := rfl
@[simp] theorem onI3c_deferred (f : I3cBus → I3cBus) (s : State) : (onI3c f s).deferred = s.deferred := rfl
@[simp] theorem onI3c_par (f : I3cBus → I3cBus) (s : State) : (onI3c f s).par = s.par := rfl
@[simp] theorem onI3c_nv (f : I3cBus → I3cBus) (s : State) : (onI3c f s).nv = s.nv := rfl
@[simp] theorem onI3c_fw (f : I3cBus → I3cBus) (s : State) : (onI3c f s).fw = s.fw := rfl
@[simp] theorem onI3c_log (f : I3cBus → I3cBus) (s : State) : (onI3c f s).log = s.log := rfl
@[simp] theorem onI3c_bg (f : I3cBus → I3cBus) (s : State) : (onI3c f s).bg = s.bg := rfl
@[simp] theorem onI3c_rails (f : I3cBus → I3cBus) (s : State) : (onI3c f s).rails = s.rails := rfl
@[simp] theorem onI3c_eng (f : I3cBus → I3cBus) (s : State) : (onI3c f s).eng = s.eng := rfl
@[simp] theorem onI3c_sup (f : I3cBus → I3cBus) (s : State) : (onI3c f s).sup = s.sup := rfl
@[simp] theorem onI3c_cap (f : I3cBus → I3cBus) (s : State) : (onI3c f s).cap = s.cap := rfl
@[simp] theorem onI3c_tags (f : I3cBus → I3cBus) (s : State) : (onI3c f s).tags = s.tags := rfl
@[simp] theorem onI3c_msr (f : I3cBus → I3cBus) (s : State) : (onI3c f s).msr = s.msr := rfl
@[simp] theorem onI3c_fab (f : I3cBus → I3cBus) (s : State) : (onI3c f s).fab = s.fab := rfl
@[simp] theorem onI3c_inp (f : I3cBus → I3cBus) (s : State) : (onI3c f s).inp = s.inp := rfl
@[simp] theorem onI3c_chg (f : I3cBus → I3cBus) (s : State) : (onI3c f s).chg = s.chg := rfl
@[simp] theorem onI3c_gau (f : I3cBus → I3cBus) (s : State) : (onI3c f s).gau = s.gau := rfl
@[simp] theorem onI3c_supply (f : I3cBus → I3cBus) (s : State) : (onI3c f s).supply = s.supply := rfl
@[simp] theorem onI3c_tap (f : I3cBus → I3cBus) (s : State) : (onI3c f s).tap = s.tap := rfl

/-! ### onTenant -/

@[simp] theorem onTenant_pending (n : Nat) (f : Tenant → Tenant) (s : State) : (onTenant n f s).pending = s.pending := rfl
@[simp] theorem onTenant_free (n : Nat) (f : Tenant → Tenant) (s : State) : (onTenant n f s).free = s.free := rfl
@[simp] theorem onTenant_mem (n : Nat) (f : Tenant → Tenant) (s : State) : (onTenant n f s).mem = s.mem := rfl
@[simp] theorem onTenant_aon (n : Nat) (f : Tenant → Tenant) (s : State) : (onTenant n f s).aon = s.aon := rfl
@[simp] theorem onTenant_clk (n : Nat) (f : Tenant → Tenant) (s : State) : (onTenant n f s).clk = s.clk := rfl
@[simp] theorem onTenant_core (n : Nat) (f : Tenant → Tenant) (s : State) : (onTenant n f s).core = s.core := rfl
@[simp] theorem onTenant_ports (n : Nat) (f : Tenant → Tenant) (s : State) : (onTenant n f s).ports = s.ports := rfl
@[simp] theorem onTenant_i3c (n : Nat) (f : Tenant → Tenant) (s : State) : (onTenant n f s).i3c = s.i3c := rfl
@[simp] theorem onTenant_uart (n : Nat) (f : Tenant → Tenant) (s : State) : (onTenant n f s).uart = s.uart := rfl
@[simp] theorem onTenant_tenants (n : Nat) (f : Tenant → Tenant) (s : State) : (onTenant n f s).tenants = vmod s.tenants n f := rfl
@[simp] theorem onTenant_ops (n : Nat) (f : Tenant → Tenant) (s : State) : (onTenant n f s).ops = s.ops := rfl
@[simp] theorem onTenant_owed (n : Nat) (f : Tenant → Tenant) (s : State) : (onTenant n f s).owed = s.owed := rfl
@[simp] theorem onTenant_deferred (n : Nat) (f : Tenant → Tenant) (s : State) : (onTenant n f s).deferred = s.deferred := rfl
@[simp] theorem onTenant_par (n : Nat) (f : Tenant → Tenant) (s : State) : (onTenant n f s).par = s.par := rfl
@[simp] theorem onTenant_nv (n : Nat) (f : Tenant → Tenant) (s : State) : (onTenant n f s).nv = s.nv := rfl
@[simp] theorem onTenant_fw (n : Nat) (f : Tenant → Tenant) (s : State) : (onTenant n f s).fw = s.fw := rfl
@[simp] theorem onTenant_log (n : Nat) (f : Tenant → Tenant) (s : State) : (onTenant n f s).log = s.log := rfl
@[simp] theorem onTenant_bg (n : Nat) (f : Tenant → Tenant) (s : State) : (onTenant n f s).bg = s.bg := rfl
@[simp] theorem onTenant_rails (n : Nat) (f : Tenant → Tenant) (s : State) : (onTenant n f s).rails = s.rails := rfl
@[simp] theorem onTenant_eng (n : Nat) (f : Tenant → Tenant) (s : State) : (onTenant n f s).eng = s.eng := rfl
@[simp] theorem onTenant_sup (n : Nat) (f : Tenant → Tenant) (s : State) : (onTenant n f s).sup = s.sup := rfl
@[simp] theorem onTenant_cap (n : Nat) (f : Tenant → Tenant) (s : State) : (onTenant n f s).cap = s.cap := rfl
@[simp] theorem onTenant_tags (n : Nat) (f : Tenant → Tenant) (s : State) : (onTenant n f s).tags = s.tags := rfl
@[simp] theorem onTenant_msr (n : Nat) (f : Tenant → Tenant) (s : State) : (onTenant n f s).msr = s.msr := rfl
@[simp] theorem onTenant_fab (n : Nat) (f : Tenant → Tenant) (s : State) : (onTenant n f s).fab = s.fab := rfl
@[simp] theorem onTenant_inp (n : Nat) (f : Tenant → Tenant) (s : State) : (onTenant n f s).inp = s.inp := rfl
@[simp] theorem onTenant_chg (n : Nat) (f : Tenant → Tenant) (s : State) : (onTenant n f s).chg = s.chg := rfl
@[simp] theorem onTenant_gau (n : Nat) (f : Tenant → Tenant) (s : State) : (onTenant n f s).gau = s.gau := rfl
@[simp] theorem onTenant_supply (n : Nat) (f : Tenant → Tenant) (s : State) : (onTenant n f s).supply = s.supply := rfl
@[simp] theorem onTenant_tap (n : Nat) (f : Tenant → Tenant) (s : State) : (onTenant n f s).tap = s.tap := rfl

/-! ### onBg -/

@[simp] theorem onBg_pending (f : Background → Background) (s : State) : (onBg f s).pending = s.pending := rfl
@[simp] theorem onBg_free (f : Background → Background) (s : State) : (onBg f s).free = s.free := rfl
@[simp] theorem onBg_mem (f : Background → Background) (s : State) : (onBg f s).mem = s.mem := rfl
@[simp] theorem onBg_aon (f : Background → Background) (s : State) : (onBg f s).aon = s.aon := rfl
@[simp] theorem onBg_clk (f : Background → Background) (s : State) : (onBg f s).clk = s.clk := rfl
@[simp] theorem onBg_core (f : Background → Background) (s : State) : (onBg f s).core = s.core := rfl
@[simp] theorem onBg_ports (f : Background → Background) (s : State) : (onBg f s).ports = s.ports := rfl
@[simp] theorem onBg_i3c (f : Background → Background) (s : State) : (onBg f s).i3c = s.i3c := rfl
@[simp] theorem onBg_uart (f : Background → Background) (s : State) : (onBg f s).uart = s.uart := rfl
@[simp] theorem onBg_tenants (f : Background → Background) (s : State) : (onBg f s).tenants = s.tenants := rfl
@[simp] theorem onBg_ops (f : Background → Background) (s : State) : (onBg f s).ops = s.ops := rfl
@[simp] theorem onBg_owed (f : Background → Background) (s : State) : (onBg f s).owed = s.owed := rfl
@[simp] theorem onBg_deferred (f : Background → Background) (s : State) : (onBg f s).deferred = s.deferred := rfl
@[simp] theorem onBg_par (f : Background → Background) (s : State) : (onBg f s).par = s.par := rfl
@[simp] theorem onBg_nv (f : Background → Background) (s : State) : (onBg f s).nv = s.nv := rfl
@[simp] theorem onBg_fw (f : Background → Background) (s : State) : (onBg f s).fw = s.fw := rfl
@[simp] theorem onBg_log (f : Background → Background) (s : State) : (onBg f s).log = s.log := rfl
@[simp] theorem onBg_bg (f : Background → Background) (s : State) : (onBg f s).bg = f s.bg := rfl
@[simp] theorem onBg_rails (f : Background → Background) (s : State) : (onBg f s).rails = s.rails := rfl
@[simp] theorem onBg_eng (f : Background → Background) (s : State) : (onBg f s).eng = s.eng := rfl
@[simp] theorem onBg_sup (f : Background → Background) (s : State) : (onBg f s).sup = s.sup := rfl
@[simp] theorem onBg_cap (f : Background → Background) (s : State) : (onBg f s).cap = s.cap := rfl
@[simp] theorem onBg_tags (f : Background → Background) (s : State) : (onBg f s).tags = s.tags := rfl
@[simp] theorem onBg_msr (f : Background → Background) (s : State) : (onBg f s).msr = s.msr := rfl
@[simp] theorem onBg_fab (f : Background → Background) (s : State) : (onBg f s).fab = s.fab := rfl
@[simp] theorem onBg_inp (f : Background → Background) (s : State) : (onBg f s).inp = s.inp := rfl
@[simp] theorem onBg_chg (f : Background → Background) (s : State) : (onBg f s).chg = s.chg := rfl
@[simp] theorem onBg_gau (f : Background → Background) (s : State) : (onBg f s).gau = s.gau := rfl
@[simp] theorem onBg_supply (f : Background → Background) (s : State) : (onBg f s).supply = s.supply := rfl
@[simp] theorem onBg_tap (f : Background → Background) (s : State) : (onBg f s).tap = s.tap := rfl

/-! ### onTask -/

@[simp] theorem onTask_pending (i : Nat) (f : Task → Task) (s : State) : (onTask i f s).pending = s.pending := rfl
@[simp] theorem onTask_free (i : Nat) (f : Task → Task) (s : State) : (onTask i f s).free = s.free := rfl
@[simp] theorem onTask_mem (i : Nat) (f : Task → Task) (s : State) : (onTask i f s).mem = s.mem := rfl
@[simp] theorem onTask_aon (i : Nat) (f : Task → Task) (s : State) : (onTask i f s).aon = s.aon := rfl
@[simp] theorem onTask_clk (i : Nat) (f : Task → Task) (s : State) : (onTask i f s).clk = s.clk := rfl
@[simp] theorem onTask_core (i : Nat) (f : Task → Task) (s : State) : (onTask i f s).core = s.core := rfl
@[simp] theorem onTask_ports (i : Nat) (f : Task → Task) (s : State) : (onTask i f s).ports = s.ports := rfl
@[simp] theorem onTask_i3c (i : Nat) (f : Task → Task) (s : State) : (onTask i f s).i3c = s.i3c := rfl
@[simp] theorem onTask_uart (i : Nat) (f : Task → Task) (s : State) : (onTask i f s).uart = s.uart := rfl
@[simp] theorem onTask_tenants (i : Nat) (f : Task → Task) (s : State) : (onTask i f s).tenants = s.tenants := rfl
@[simp] theorem onTask_ops (i : Nat) (f : Task → Task) (s : State) : (onTask i f s).ops = s.ops := rfl
@[simp] theorem onTask_owed (i : Nat) (f : Task → Task) (s : State) : (onTask i f s).owed = s.owed := rfl
@[simp] theorem onTask_deferred (i : Nat) (f : Task → Task) (s : State) : (onTask i f s).deferred = s.deferred := rfl
@[simp] theorem onTask_par (i : Nat) (f : Task → Task) (s : State) : (onTask i f s).par = s.par := rfl
@[simp] theorem onTask_nv (i : Nat) (f : Task → Task) (s : State) : (onTask i f s).nv = s.nv := rfl
@[simp] theorem onTask_fw (i : Nat) (f : Task → Task) (s : State) : (onTask i f s).fw = s.fw := rfl
@[simp] theorem onTask_log (i : Nat) (f : Task → Task) (s : State) : (onTask i f s).log = s.log := rfl
@[simp] theorem onTask_bg (i : Nat) (f : Task → Task) (s : State) : (onTask i f s).bg = { s.bg with tasks := vmod s.bg.tasks i f } := rfl
@[simp] theorem onTask_rails (i : Nat) (f : Task → Task) (s : State) : (onTask i f s).rails = s.rails := rfl
@[simp] theorem onTask_eng (i : Nat) (f : Task → Task) (s : State) : (onTask i f s).eng = s.eng := rfl
@[simp] theorem onTask_sup (i : Nat) (f : Task → Task) (s : State) : (onTask i f s).sup = s.sup := rfl
@[simp] theorem onTask_cap (i : Nat) (f : Task → Task) (s : State) : (onTask i f s).cap = s.cap := rfl
@[simp] theorem onTask_tags (i : Nat) (f : Task → Task) (s : State) : (onTask i f s).tags = s.tags := rfl
@[simp] theorem onTask_msr (i : Nat) (f : Task → Task) (s : State) : (onTask i f s).msr = s.msr := rfl
@[simp] theorem onTask_fab (i : Nat) (f : Task → Task) (s : State) : (onTask i f s).fab = s.fab := rfl
@[simp] theorem onTask_inp (i : Nat) (f : Task → Task) (s : State) : (onTask i f s).inp = s.inp := rfl
@[simp] theorem onTask_chg (i : Nat) (f : Task → Task) (s : State) : (onTask i f s).chg = s.chg := rfl
@[simp] theorem onTask_gau (i : Nat) (f : Task → Task) (s : State) : (onTask i f s).gau = s.gau := rfl
@[simp] theorem onTask_supply (i : Nat) (f : Task → Task) (s : State) : (onTask i f s).supply = s.supply := rfl
@[simp] theorem onTask_tap (i : Nat) (f : Task → Task) (s : State) : (onTask i f s).tap = s.tap := rfl

/-! ### onRail -/

@[simp] theorem onRail_pending (r : Nat) (f : Rail → Rail) (s : State) : (onRail r f s).pending = s.pending := rfl
@[simp] theorem onRail_free (r : Nat) (f : Rail → Rail) (s : State) : (onRail r f s).free = s.free := rfl
@[simp] theorem onRail_mem (r : Nat) (f : Rail → Rail) (s : State) : (onRail r f s).mem = s.mem := rfl
@[simp] theorem onRail_aon (r : Nat) (f : Rail → Rail) (s : State) : (onRail r f s).aon = s.aon := rfl
@[simp] theorem onRail_clk (r : Nat) (f : Rail → Rail) (s : State) : (onRail r f s).clk = s.clk := rfl
@[simp] theorem onRail_core (r : Nat) (f : Rail → Rail) (s : State) : (onRail r f s).core = s.core := rfl
@[simp] theorem onRail_ports (r : Nat) (f : Rail → Rail) (s : State) : (onRail r f s).ports = s.ports := rfl
@[simp] theorem onRail_i3c (r : Nat) (f : Rail → Rail) (s : State) : (onRail r f s).i3c = s.i3c := rfl
@[simp] theorem onRail_uart (r : Nat) (f : Rail → Rail) (s : State) : (onRail r f s).uart = s.uart := rfl
@[simp] theorem onRail_tenants (r : Nat) (f : Rail → Rail) (s : State) : (onRail r f s).tenants = s.tenants := rfl
@[simp] theorem onRail_ops (r : Nat) (f : Rail → Rail) (s : State) : (onRail r f s).ops = s.ops := rfl
@[simp] theorem onRail_owed (r : Nat) (f : Rail → Rail) (s : State) : (onRail r f s).owed = s.owed := rfl
@[simp] theorem onRail_deferred (r : Nat) (f : Rail → Rail) (s : State) : (onRail r f s).deferred = s.deferred := rfl
@[simp] theorem onRail_par (r : Nat) (f : Rail → Rail) (s : State) : (onRail r f s).par = s.par := rfl
@[simp] theorem onRail_nv (r : Nat) (f : Rail → Rail) (s : State) : (onRail r f s).nv = s.nv := rfl
@[simp] theorem onRail_fw (r : Nat) (f : Rail → Rail) (s : State) : (onRail r f s).fw = s.fw := rfl
@[simp] theorem onRail_log (r : Nat) (f : Rail → Rail) (s : State) : (onRail r f s).log = s.log := rfl
@[simp] theorem onRail_bg (r : Nat) (f : Rail → Rail) (s : State) : (onRail r f s).bg = s.bg := rfl
@[simp] theorem onRail_rails (r : Nat) (f : Rail → Rail) (s : State) : (onRail r f s).rails = vmod s.rails r f := rfl
@[simp] theorem onRail_eng (r : Nat) (f : Rail → Rail) (s : State) : (onRail r f s).eng = s.eng := rfl
@[simp] theorem onRail_sup (r : Nat) (f : Rail → Rail) (s : State) : (onRail r f s).sup = s.sup := rfl
@[simp] theorem onRail_cap (r : Nat) (f : Rail → Rail) (s : State) : (onRail r f s).cap = s.cap := rfl
@[simp] theorem onRail_tags (r : Nat) (f : Rail → Rail) (s : State) : (onRail r f s).tags = s.tags := rfl
@[simp] theorem onRail_msr (r : Nat) (f : Rail → Rail) (s : State) : (onRail r f s).msr = s.msr := rfl
@[simp] theorem onRail_fab (r : Nat) (f : Rail → Rail) (s : State) : (onRail r f s).fab = s.fab := rfl
@[simp] theorem onRail_inp (r : Nat) (f : Rail → Rail) (s : State) : (onRail r f s).inp = s.inp := rfl
@[simp] theorem onRail_chg (r : Nat) (f : Rail → Rail) (s : State) : (onRail r f s).chg = s.chg := rfl
@[simp] theorem onRail_gau (r : Nat) (f : Rail → Rail) (s : State) : (onRail r f s).gau = s.gau := rfl
@[simp] theorem onRail_supply (r : Nat) (f : Rail → Rail) (s : State) : (onRail r f s).supply = s.supply := rfl
@[simp] theorem onRail_tap (r : Nat) (f : Rail → Rail) (s : State) : (onRail r f s).tap = s.tap := rfl

/-! ### onRun -/

@[simp] theorem onRun_pending (f : Run → Run) (s : State) : (onRun f s).pending = s.pending := rfl
@[simp] theorem onRun_free (f : Run → Run) (s : State) : (onRun f s).free = s.free := rfl
@[simp] theorem onRun_mem (f : Run → Run) (s : State) : (onRun f s).mem = s.mem := rfl
@[simp] theorem onRun_aon (f : Run → Run) (s : State) : (onRun f s).aon = s.aon := rfl
@[simp] theorem onRun_clk (f : Run → Run) (s : State) : (onRun f s).clk = s.clk := rfl
@[simp] theorem onRun_core (f : Run → Run) (s : State) : (onRun f s).core = s.core := rfl
@[simp] theorem onRun_ports (f : Run → Run) (s : State) : (onRun f s).ports = s.ports := rfl
@[simp] theorem onRun_i3c (f : Run → Run) (s : State) : (onRun f s).i3c = s.i3c := rfl
@[simp] theorem onRun_uart (f : Run → Run) (s : State) : (onRun f s).uart = s.uart := rfl
@[simp] theorem onRun_tenants (f : Run → Run) (s : State) : (onRun f s).tenants = s.tenants := rfl
@[simp] theorem onRun_ops (f : Run → Run) (s : State) : (onRun f s).ops = s.ops := rfl
@[simp] theorem onRun_owed (f : Run → Run) (s : State) : (onRun f s).owed = s.owed := rfl
@[simp] theorem onRun_deferred (f : Run → Run) (s : State) : (onRun f s).deferred = s.deferred := rfl
@[simp] theorem onRun_par (f : Run → Run) (s : State) : (onRun f s).par = s.par := rfl
@[simp] theorem onRun_nv (f : Run → Run) (s : State) : (onRun f s).nv = s.nv := rfl
@[simp] theorem onRun_fw (f : Run → Run) (s : State) : (onRun f s).fw = s.fw := rfl
@[simp] theorem onRun_log (f : Run → Run) (s : State) : (onRun f s).log = s.log := rfl
@[simp] theorem onRun_bg (f : Run → Run) (s : State) : (onRun f s).bg = s.bg := rfl
@[simp] theorem onRun_rails (f : Run → Run) (s : State) : (onRun f s).rails = s.rails := rfl
@[simp] theorem onRun_eng (f : Run → Run) (s : State) : (onRun f s).eng = { s.eng with run := s.eng.run.map f } := rfl
@[simp] theorem onRun_sup (f : Run → Run) (s : State) : (onRun f s).sup = s.sup := rfl
@[simp] theorem onRun_cap (f : Run → Run) (s : State) : (onRun f s).cap = s.cap := rfl
@[simp] theorem onRun_tags (f : Run → Run) (s : State) : (onRun f s).tags = s.tags := rfl
@[simp] theorem onRun_msr (f : Run → Run) (s : State) : (onRun f s).msr = s.msr := rfl
@[simp] theorem onRun_fab (f : Run → Run) (s : State) : (onRun f s).fab = s.fab := rfl
@[simp] theorem onRun_inp (f : Run → Run) (s : State) : (onRun f s).inp = s.inp := rfl
@[simp] theorem onRun_chg (f : Run → Run) (s : State) : (onRun f s).chg = s.chg := rfl
@[simp] theorem onRun_gau (f : Run → Run) (s : State) : (onRun f s).gau = s.gau := rfl
@[simp] theorem onRun_supply (f : Run → Run) (s : State) : (onRun f s).supply = s.supply := rfl
@[simp] theorem onRun_tap (f : Run → Run) (s : State) : (onRun f s).tap = s.tap := rfl

/-! ### onCapture -/

@[simp] theorem onCapture_pending (f : Capture → Capture) (s : State) : (onCapture f s).pending = s.pending := rfl
@[simp] theorem onCapture_free (f : Capture → Capture) (s : State) : (onCapture f s).free = s.free := rfl
@[simp] theorem onCapture_mem (f : Capture → Capture) (s : State) : (onCapture f s).mem = s.mem := rfl
@[simp] theorem onCapture_aon (f : Capture → Capture) (s : State) : (onCapture f s).aon = s.aon := rfl
@[simp] theorem onCapture_clk (f : Capture → Capture) (s : State) : (onCapture f s).clk = s.clk := rfl
@[simp] theorem onCapture_core (f : Capture → Capture) (s : State) : (onCapture f s).core = s.core := rfl
@[simp] theorem onCapture_ports (f : Capture → Capture) (s : State) : (onCapture f s).ports = s.ports := rfl
@[simp] theorem onCapture_i3c (f : Capture → Capture) (s : State) : (onCapture f s).i3c = s.i3c := rfl
@[simp] theorem onCapture_uart (f : Capture → Capture) (s : State) : (onCapture f s).uart = s.uart := rfl
@[simp] theorem onCapture_tenants (f : Capture → Capture) (s : State) : (onCapture f s).tenants = s.tenants := rfl
@[simp] theorem onCapture_ops (f : Capture → Capture) (s : State) : (onCapture f s).ops = s.ops := rfl
@[simp] theorem onCapture_owed (f : Capture → Capture) (s : State) : (onCapture f s).owed = s.owed := rfl
@[simp] theorem onCapture_deferred (f : Capture → Capture) (s : State) : (onCapture f s).deferred = s.deferred := rfl
@[simp] theorem onCapture_par (f : Capture → Capture) (s : State) : (onCapture f s).par = s.par := rfl
@[simp] theorem onCapture_nv (f : Capture → Capture) (s : State) : (onCapture f s).nv = s.nv := rfl
@[simp] theorem onCapture_fw (f : Capture → Capture) (s : State) : (onCapture f s).fw = s.fw := rfl
@[simp] theorem onCapture_log (f : Capture → Capture) (s : State) : (onCapture f s).log = s.log := rfl
@[simp] theorem onCapture_bg (f : Capture → Capture) (s : State) : (onCapture f s).bg = s.bg := rfl
@[simp] theorem onCapture_rails (f : Capture → Capture) (s : State) : (onCapture f s).rails = s.rails := rfl
@[simp] theorem onCapture_eng (f : Capture → Capture) (s : State) : (onCapture f s).eng = s.eng := rfl
@[simp] theorem onCapture_sup (f : Capture → Capture) (s : State) : (onCapture f s).sup = s.sup := rfl
@[simp] theorem onCapture_cap (f : Capture → Capture) (s : State) : (onCapture f s).cap = { s.cap with cap := s.cap.cap.map f } := rfl
@[simp] theorem onCapture_tags (f : Capture → Capture) (s : State) : (onCapture f s).tags = s.tags := rfl
@[simp] theorem onCapture_msr (f : Capture → Capture) (s : State) : (onCapture f s).msr = s.msr := rfl
@[simp] theorem onCapture_fab (f : Capture → Capture) (s : State) : (onCapture f s).fab = s.fab := rfl
@[simp] theorem onCapture_inp (f : Capture → Capture) (s : State) : (onCapture f s).inp = s.inp := rfl
@[simp] theorem onCapture_chg (f : Capture → Capture) (s : State) : (onCapture f s).chg = s.chg := rfl
@[simp] theorem onCapture_gau (f : Capture → Capture) (s : State) : (onCapture f s).gau = s.gau := rfl
@[simp] theorem onCapture_supply (f : Capture → Capture) (s : State) : (onCapture f s).supply = s.supply := rfl
@[simp] theorem onCapture_tap (f : Capture → Capture) (s : State) : (onCapture f s).tap = s.tap := rfl

/-! ### onTag -/

@[simp] theorem onTag_pending (t : Nat) (f : TagPos → TagPos) (s : State) : (onTag t f s).pending = s.pending := rfl
@[simp] theorem onTag_free (t : Nat) (f : TagPos → TagPos) (s : State) : (onTag t f s).free = s.free := rfl
@[simp] theorem onTag_mem (t : Nat) (f : TagPos → TagPos) (s : State) : (onTag t f s).mem = s.mem := rfl
@[simp] theorem onTag_aon (t : Nat) (f : TagPos → TagPos) (s : State) : (onTag t f s).aon = s.aon := rfl
@[simp] theorem onTag_clk (t : Nat) (f : TagPos → TagPos) (s : State) : (onTag t f s).clk = s.clk := rfl
@[simp] theorem onTag_core (t : Nat) (f : TagPos → TagPos) (s : State) : (onTag t f s).core = s.core := rfl
@[simp] theorem onTag_ports (t : Nat) (f : TagPos → TagPos) (s : State) : (onTag t f s).ports = s.ports := rfl
@[simp] theorem onTag_i3c (t : Nat) (f : TagPos → TagPos) (s : State) : (onTag t f s).i3c = s.i3c := rfl
@[simp] theorem onTag_uart (t : Nat) (f : TagPos → TagPos) (s : State) : (onTag t f s).uart = s.uart := rfl
@[simp] theorem onTag_tenants (t : Nat) (f : TagPos → TagPos) (s : State) : (onTag t f s).tenants = s.tenants := rfl
@[simp] theorem onTag_ops (t : Nat) (f : TagPos → TagPos) (s : State) : (onTag t f s).ops = s.ops := rfl
@[simp] theorem onTag_owed (t : Nat) (f : TagPos → TagPos) (s : State) : (onTag t f s).owed = s.owed := rfl
@[simp] theorem onTag_deferred (t : Nat) (f : TagPos → TagPos) (s : State) : (onTag t f s).deferred = s.deferred := rfl
@[simp] theorem onTag_par (t : Nat) (f : TagPos → TagPos) (s : State) : (onTag t f s).par = s.par := rfl
@[simp] theorem onTag_nv (t : Nat) (f : TagPos → TagPos) (s : State) : (onTag t f s).nv = s.nv := rfl
@[simp] theorem onTag_fw (t : Nat) (f : TagPos → TagPos) (s : State) : (onTag t f s).fw = s.fw := rfl
@[simp] theorem onTag_log (t : Nat) (f : TagPos → TagPos) (s : State) : (onTag t f s).log = s.log := rfl
@[simp] theorem onTag_bg (t : Nat) (f : TagPos → TagPos) (s : State) : (onTag t f s).bg = s.bg := rfl
@[simp] theorem onTag_rails (t : Nat) (f : TagPos → TagPos) (s : State) : (onTag t f s).rails = s.rails := rfl
@[simp] theorem onTag_eng (t : Nat) (f : TagPos → TagPos) (s : State) : (onTag t f s).eng = s.eng := rfl
@[simp] theorem onTag_sup (t : Nat) (f : TagPos → TagPos) (s : State) : (onTag t f s).sup = s.sup := rfl
@[simp] theorem onTag_cap (t : Nat) (f : TagPos → TagPos) (s : State) : (onTag t f s).cap = s.cap := rfl
@[simp] theorem onTag_tags (t : Nat) (f : TagPos → TagPos) (s : State) : (onTag t f s).tags = { s.tags with pos := vmod s.tags.pos t f } := rfl
@[simp] theorem onTag_msr (t : Nat) (f : TagPos → TagPos) (s : State) : (onTag t f s).msr = s.msr := rfl
@[simp] theorem onTag_fab (t : Nat) (f : TagPos → TagPos) (s : State) : (onTag t f s).fab = s.fab := rfl
@[simp] theorem onTag_inp (t : Nat) (f : TagPos → TagPos) (s : State) : (onTag t f s).inp = s.inp := rfl
@[simp] theorem onTag_chg (t : Nat) (f : TagPos → TagPos) (s : State) : (onTag t f s).chg = s.chg := rfl
@[simp] theorem onTag_gau (t : Nat) (f : TagPos → TagPos) (s : State) : (onTag t f s).gau = s.gau := rfl
@[simp] theorem onTag_supply (t : Nat) (f : TagPos → TagPos) (s : State) : (onTag t f s).supply = s.supply := rfl
@[simp] theorem onTag_tap (t : Nat) (f : TagPos → TagPos) (s : State) : (onTag t f s).tap = s.tap := rfl

/-! ### onTags -/

@[simp] theorem onTags_pending (f : Tags → Tags) (s : State) : (onTags f s).pending = s.pending := rfl
@[simp] theorem onTags_free (f : Tags → Tags) (s : State) : (onTags f s).free = s.free := rfl
@[simp] theorem onTags_mem (f : Tags → Tags) (s : State) : (onTags f s).mem = s.mem := rfl
@[simp] theorem onTags_aon (f : Tags → Tags) (s : State) : (onTags f s).aon = s.aon := rfl
@[simp] theorem onTags_clk (f : Tags → Tags) (s : State) : (onTags f s).clk = s.clk := rfl
@[simp] theorem onTags_core (f : Tags → Tags) (s : State) : (onTags f s).core = s.core := rfl
@[simp] theorem onTags_ports (f : Tags → Tags) (s : State) : (onTags f s).ports = s.ports := rfl
@[simp] theorem onTags_i3c (f : Tags → Tags) (s : State) : (onTags f s).i3c = s.i3c := rfl
@[simp] theorem onTags_uart (f : Tags → Tags) (s : State) : (onTags f s).uart = s.uart := rfl
@[simp] theorem onTags_tenants (f : Tags → Tags) (s : State) : (onTags f s).tenants = s.tenants := rfl
@[simp] theorem onTags_ops (f : Tags → Tags) (s : State) : (onTags f s).ops = s.ops := rfl
@[simp] theorem onTags_owed (f : Tags → Tags) (s : State) : (onTags f s).owed = s.owed := rfl
@[simp] theorem onTags_deferred (f : Tags → Tags) (s : State) : (onTags f s).deferred = s.deferred := rfl
@[simp] theorem onTags_par (f : Tags → Tags) (s : State) : (onTags f s).par = s.par := rfl
@[simp] theorem onTags_nv (f : Tags → Tags) (s : State) : (onTags f s).nv = s.nv := rfl
@[simp] theorem onTags_fw (f : Tags → Tags) (s : State) : (onTags f s).fw = s.fw := rfl
@[simp] theorem onTags_log (f : Tags → Tags) (s : State) : (onTags f s).log = s.log := rfl
@[simp] theorem onTags_bg (f : Tags → Tags) (s : State) : (onTags f s).bg = s.bg := rfl
@[simp] theorem onTags_rails (f : Tags → Tags) (s : State) : (onTags f s).rails = s.rails := rfl
@[simp] theorem onTags_eng (f : Tags → Tags) (s : State) : (onTags f s).eng = s.eng := rfl
@[simp] theorem onTags_sup (f : Tags → Tags) (s : State) : (onTags f s).sup = s.sup := rfl
@[simp] theorem onTags_cap (f : Tags → Tags) (s : State) : (onTags f s).cap = s.cap := rfl
@[simp] theorem onTags_tags (f : Tags → Tags) (s : State) : (onTags f s).tags = f s.tags := rfl
@[simp] theorem onTags_msr (f : Tags → Tags) (s : State) : (onTags f s).msr = s.msr := rfl
@[simp] theorem onTags_fab (f : Tags → Tags) (s : State) : (onTags f s).fab = s.fab := rfl
@[simp] theorem onTags_inp (f : Tags → Tags) (s : State) : (onTags f s).inp = s.inp := rfl
@[simp] theorem onTags_chg (f : Tags → Tags) (s : State) : (onTags f s).chg = s.chg := rfl
@[simp] theorem onTags_gau (f : Tags → Tags) (s : State) : (onTags f s).gau = s.gau := rfl
@[simp] theorem onTags_supply (f : Tags → Tags) (s : State) : (onTags f s).supply = s.supply := rfl
@[simp] theorem onTags_tap (f : Tags → Tags) (s : State) : (onTags f s).tap = s.tap := rfl

/-! ### onSeq -/

@[simp] theorem onSeq_pending (q : Nat) (f : Seq → Seq) (s : State) : (onSeq q f s).pending = s.pending := rfl
@[simp] theorem onSeq_free (q : Nat) (f : Seq → Seq) (s : State) : (onSeq q f s).free = s.free := rfl
@[simp] theorem onSeq_mem (q : Nat) (f : Seq → Seq) (s : State) : (onSeq q f s).mem = s.mem := rfl
@[simp] theorem onSeq_aon (q : Nat) (f : Seq → Seq) (s : State) : (onSeq q f s).aon = s.aon := rfl
@[simp] theorem onSeq_clk (q : Nat) (f : Seq → Seq) (s : State) : (onSeq q f s).clk = s.clk := rfl
@[simp] theorem onSeq_core (q : Nat) (f : Seq → Seq) (s : State) : (onSeq q f s).core = s.core := rfl
@[simp] theorem onSeq_ports (q : Nat) (f : Seq → Seq) (s : State) : (onSeq q f s).ports = s.ports := rfl
@[simp] theorem onSeq_i3c (q : Nat) (f : Seq → Seq) (s : State) : (onSeq q f s).i3c = s.i3c := rfl
@[simp] theorem onSeq_uart (q : Nat) (f : Seq → Seq) (s : State) : (onSeq q f s).uart = s.uart := rfl
@[simp] theorem onSeq_tenants (q : Nat) (f : Seq → Seq) (s : State) : (onSeq q f s).tenants = s.tenants := rfl
@[simp] theorem onSeq_ops (q : Nat) (f : Seq → Seq) (s : State) : (onSeq q f s).ops = s.ops := rfl
@[simp] theorem onSeq_owed (q : Nat) (f : Seq → Seq) (s : State) : (onSeq q f s).owed = s.owed := rfl
@[simp] theorem onSeq_deferred (q : Nat) (f : Seq → Seq) (s : State) : (onSeq q f s).deferred = s.deferred := rfl
@[simp] theorem onSeq_par (q : Nat) (f : Seq → Seq) (s : State) : (onSeq q f s).par = s.par := rfl
@[simp] theorem onSeq_nv (q : Nat) (f : Seq → Seq) (s : State) : (onSeq q f s).nv = s.nv := rfl
@[simp] theorem onSeq_fw (q : Nat) (f : Seq → Seq) (s : State) : (onSeq q f s).fw = s.fw := rfl
@[simp] theorem onSeq_log (q : Nat) (f : Seq → Seq) (s : State) : (onSeq q f s).log = s.log := rfl
@[simp] theorem onSeq_bg (q : Nat) (f : Seq → Seq) (s : State) : (onSeq q f s).bg = s.bg := rfl
@[simp] theorem onSeq_rails (q : Nat) (f : Seq → Seq) (s : State) : (onSeq q f s).rails = s.rails := rfl
@[simp] theorem onSeq_eng (q : Nat) (f : Seq → Seq) (s : State) : (onSeq q f s).eng = s.eng := rfl
@[simp] theorem onSeq_sup (q : Nat) (f : Seq → Seq) (s : State) : (onSeq q f s).sup = s.sup := rfl
@[simp] theorem onSeq_cap (q : Nat) (f : Seq → Seq) (s : State) : (onSeq q f s).cap = s.cap := rfl
@[simp] theorem onSeq_tags (q : Nat) (f : Seq → Seq) (s : State) : (onSeq q f s).tags = s.tags := rfl
@[simp] theorem onSeq_msr (q : Nat) (f : Seq → Seq) (s : State) : (onSeq q f s).msr = { s.msr with seqs := vmod s.msr.seqs q f } := rfl
@[simp] theorem onSeq_fab (q : Nat) (f : Seq → Seq) (s : State) : (onSeq q f s).fab = s.fab := rfl
@[simp] theorem onSeq_inp (q : Nat) (f : Seq → Seq) (s : State) : (onSeq q f s).inp = s.inp := rfl
@[simp] theorem onSeq_chg (q : Nat) (f : Seq → Seq) (s : State) : (onSeq q f s).chg = s.chg := rfl
@[simp] theorem onSeq_gau (q : Nat) (f : Seq → Seq) (s : State) : (onSeq q f s).gau = s.gau := rfl
@[simp] theorem onSeq_supply (q : Nat) (f : Seq → Seq) (s : State) : (onSeq q f s).supply = s.supply := rfl
@[simp] theorem onSeq_tap (q : Nat) (f : Seq → Seq) (s : State) : (onSeq q f s).tap = s.tap := rfl

/-! ### onRing -/

@[simp] theorem onRing_pending (d : Nat) (f : Ring → Ring) (s : State) : (onRing d f s).pending = s.pending := rfl
@[simp] theorem onRing_free (d : Nat) (f : Ring → Ring) (s : State) : (onRing d f s).free = s.free := rfl
@[simp] theorem onRing_mem (d : Nat) (f : Ring → Ring) (s : State) : (onRing d f s).mem = s.mem := rfl
@[simp] theorem onRing_aon (d : Nat) (f : Ring → Ring) (s : State) : (onRing d f s).aon = s.aon := rfl
@[simp] theorem onRing_clk (d : Nat) (f : Ring → Ring) (s : State) : (onRing d f s).clk = s.clk := rfl
@[simp] theorem onRing_core (d : Nat) (f : Ring → Ring) (s : State) : (onRing d f s).core = s.core := rfl
@[simp] theorem onRing_ports (d : Nat) (f : Ring → Ring) (s : State) : (onRing d f s).ports = s.ports := rfl
@[simp] theorem onRing_i3c (d : Nat) (f : Ring → Ring) (s : State) : (onRing d f s).i3c = s.i3c := rfl
@[simp] theorem onRing_uart (d : Nat) (f : Ring → Ring) (s : State) : (onRing d f s).uart = s.uart := rfl
@[simp] theorem onRing_tenants (d : Nat) (f : Ring → Ring) (s : State) : (onRing d f s).tenants = s.tenants := rfl
@[simp] theorem onRing_ops (d : Nat) (f : Ring → Ring) (s : State) : (onRing d f s).ops = s.ops := rfl
@[simp] theorem onRing_owed (d : Nat) (f : Ring → Ring) (s : State) : (onRing d f s).owed = s.owed := rfl
@[simp] theorem onRing_deferred (d : Nat) (f : Ring → Ring) (s : State) : (onRing d f s).deferred = s.deferred := rfl
@[simp] theorem onRing_par (d : Nat) (f : Ring → Ring) (s : State) : (onRing d f s).par = s.par := rfl
@[simp] theorem onRing_nv (d : Nat) (f : Ring → Ring) (s : State) : (onRing d f s).nv = s.nv := rfl
@[simp] theorem onRing_fw (d : Nat) (f : Ring → Ring) (s : State) : (onRing d f s).fw = s.fw := rfl
@[simp] theorem onRing_log (d : Nat) (f : Ring → Ring) (s : State) : (onRing d f s).log = s.log := rfl
@[simp] theorem onRing_bg (d : Nat) (f : Ring → Ring) (s : State) : (onRing d f s).bg = s.bg := rfl
@[simp] theorem onRing_rails (d : Nat) (f : Ring → Ring) (s : State) : (onRing d f s).rails = s.rails := rfl
@[simp] theorem onRing_eng (d : Nat) (f : Ring → Ring) (s : State) : (onRing d f s).eng = s.eng := rfl
@[simp] theorem onRing_sup (d : Nat) (f : Ring → Ring) (s : State) : (onRing d f s).sup = s.sup := rfl
@[simp] theorem onRing_cap (d : Nat) (f : Ring → Ring) (s : State) : (onRing d f s).cap = s.cap := rfl
@[simp] theorem onRing_tags (d : Nat) (f : Ring → Ring) (s : State) : (onRing d f s).tags = s.tags := rfl
@[simp] theorem onRing_msr (d : Nat) (f : Ring → Ring) (s : State) : (onRing d f s).msr = { s.msr with rings := vmod s.msr.rings d f } := rfl
@[simp] theorem onRing_fab (d : Nat) (f : Ring → Ring) (s : State) : (onRing d f s).fab = s.fab := rfl
@[simp] theorem onRing_inp (d : Nat) (f : Ring → Ring) (s : State) : (onRing d f s).inp = s.inp := rfl
@[simp] theorem onRing_chg (d : Nat) (f : Ring → Ring) (s : State) : (onRing d f s).chg = s.chg := rfl
@[simp] theorem onRing_gau (d : Nat) (f : Ring → Ring) (s : State) : (onRing d f s).gau = s.gau := rfl
@[simp] theorem onRing_supply (d : Nat) (f : Ring → Ring) (s : State) : (onRing d f s).supply = s.supply := rfl
@[simp] theorem onRing_tap (d : Nat) (f : Ring → Ring) (s : State) : (onRing d f s).tap = s.tap := rfl

/-! ### onBank -/

@[simp] theorem onBank_pending (k : Nat) (f : Bank → Bank) (s : State) : (onBank k f s).pending = s.pending := rfl
@[simp] theorem onBank_free (k : Nat) (f : Bank → Bank) (s : State) : (onBank k f s).free = s.free := rfl
@[simp] theorem onBank_mem (k : Nat) (f : Bank → Bank) (s : State) : (onBank k f s).mem = s.mem := rfl
@[simp] theorem onBank_aon (k : Nat) (f : Bank → Bank) (s : State) : (onBank k f s).aon = s.aon := rfl
@[simp] theorem onBank_clk (k : Nat) (f : Bank → Bank) (s : State) : (onBank k f s).clk = s.clk := rfl
@[simp] theorem onBank_core (k : Nat) (f : Bank → Bank) (s : State) : (onBank k f s).core = s.core := rfl
@[simp] theorem onBank_ports (k : Nat) (f : Bank → Bank) (s : State) : (onBank k f s).ports = s.ports := rfl
@[simp] theorem onBank_i3c (k : Nat) (f : Bank → Bank) (s : State) : (onBank k f s).i3c = s.i3c := rfl
@[simp] theorem onBank_uart (k : Nat) (f : Bank → Bank) (s : State) : (onBank k f s).uart = s.uart := rfl
@[simp] theorem onBank_tenants (k : Nat) (f : Bank → Bank) (s : State) : (onBank k f s).tenants = s.tenants := rfl
@[simp] theorem onBank_ops (k : Nat) (f : Bank → Bank) (s : State) : (onBank k f s).ops = s.ops := rfl
@[simp] theorem onBank_owed (k : Nat) (f : Bank → Bank) (s : State) : (onBank k f s).owed = s.owed := rfl
@[simp] theorem onBank_deferred (k : Nat) (f : Bank → Bank) (s : State) : (onBank k f s).deferred = s.deferred := rfl
@[simp] theorem onBank_par (k : Nat) (f : Bank → Bank) (s : State) : (onBank k f s).par = s.par := rfl
@[simp] theorem onBank_nv (k : Nat) (f : Bank → Bank) (s : State) : (onBank k f s).nv = s.nv := rfl
@[simp] theorem onBank_fw (k : Nat) (f : Bank → Bank) (s : State) : (onBank k f s).fw = s.fw := rfl
@[simp] theorem onBank_log (k : Nat) (f : Bank → Bank) (s : State) : (onBank k f s).log = s.log := rfl
@[simp] theorem onBank_bg (k : Nat) (f : Bank → Bank) (s : State) : (onBank k f s).bg = s.bg := rfl
@[simp] theorem onBank_rails (k : Nat) (f : Bank → Bank) (s : State) : (onBank k f s).rails = s.rails := rfl
@[simp] theorem onBank_eng (k : Nat) (f : Bank → Bank) (s : State) : (onBank k f s).eng = s.eng := rfl
@[simp] theorem onBank_sup (k : Nat) (f : Bank → Bank) (s : State) : (onBank k f s).sup = s.sup := rfl
@[simp] theorem onBank_cap (k : Nat) (f : Bank → Bank) (s : State) : (onBank k f s).cap = s.cap := rfl
@[simp] theorem onBank_tags (k : Nat) (f : Bank → Bank) (s : State) : (onBank k f s).tags = s.tags := rfl
@[simp] theorem onBank_msr (k : Nat) (f : Bank → Bank) (s : State) : (onBank k f s).msr = s.msr := rfl
@[simp] theorem onBank_fab (k : Nat) (f : Bank → Bank) (s : State) : (onBank k f s).fab = { s.fab with banks := vmod s.fab.banks k f } := rfl
@[simp] theorem onBank_inp (k : Nat) (f : Bank → Bank) (s : State) : (onBank k f s).inp = s.inp := rfl
@[simp] theorem onBank_chg (k : Nat) (f : Bank → Bank) (s : State) : (onBank k f s).chg = s.chg := rfl
@[simp] theorem onBank_gau (k : Nat) (f : Bank → Bank) (s : State) : (onBank k f s).gau = s.gau := rfl
@[simp] theorem onBank_supply (k : Nat) (f : Bank → Bank) (s : State) : (onBank k f s).supply = s.supply := rfl
@[simp] theorem onBank_tap (k : Nat) (f : Bank → Bank) (s : State) : (onBank k f s).tap = s.tap := rfl

/-! ### onInp -/

@[simp] theorem onInp_pending (f : Intake → Intake) (s : State) : (onInp f s).pending = s.pending := rfl
@[simp] theorem onInp_free (f : Intake → Intake) (s : State) : (onInp f s).free = s.free := rfl
@[simp] theorem onInp_mem (f : Intake → Intake) (s : State) : (onInp f s).mem = s.mem := rfl
@[simp] theorem onInp_aon (f : Intake → Intake) (s : State) : (onInp f s).aon = s.aon := rfl
@[simp] theorem onInp_clk (f : Intake → Intake) (s : State) : (onInp f s).clk = s.clk := rfl
@[simp] theorem onInp_core (f : Intake → Intake) (s : State) : (onInp f s).core = s.core := rfl
@[simp] theorem onInp_ports (f : Intake → Intake) (s : State) : (onInp f s).ports = s.ports := rfl
@[simp] theorem onInp_i3c (f : Intake → Intake) (s : State) : (onInp f s).i3c = s.i3c := rfl
@[simp] theorem onInp_uart (f : Intake → Intake) (s : State) : (onInp f s).uart = s.uart := rfl
@[simp] theorem onInp_tenants (f : Intake → Intake) (s : State) : (onInp f s).tenants = s.tenants := rfl
@[simp] theorem onInp_ops (f : Intake → Intake) (s : State) : (onInp f s).ops = s.ops := rfl
@[simp] theorem onInp_owed (f : Intake → Intake) (s : State) : (onInp f s).owed = s.owed := rfl
@[simp] theorem onInp_deferred (f : Intake → Intake) (s : State) : (onInp f s).deferred = s.deferred := rfl
@[simp] theorem onInp_par (f : Intake → Intake) (s : State) : (onInp f s).par = s.par := rfl
@[simp] theorem onInp_nv (f : Intake → Intake) (s : State) : (onInp f s).nv = s.nv := rfl
@[simp] theorem onInp_fw (f : Intake → Intake) (s : State) : (onInp f s).fw = s.fw := rfl
@[simp] theorem onInp_log (f : Intake → Intake) (s : State) : (onInp f s).log = s.log := rfl
@[simp] theorem onInp_bg (f : Intake → Intake) (s : State) : (onInp f s).bg = s.bg := rfl
@[simp] theorem onInp_rails (f : Intake → Intake) (s : State) : (onInp f s).rails = s.rails := rfl
@[simp] theorem onInp_eng (f : Intake → Intake) (s : State) : (onInp f s).eng = s.eng := rfl
@[simp] theorem onInp_sup (f : Intake → Intake) (s : State) : (onInp f s).sup = s.sup := rfl
@[simp] theorem onInp_cap (f : Intake → Intake) (s : State) : (onInp f s).cap = s.cap := rfl
@[simp] theorem onInp_tags (f : Intake → Intake) (s : State) : (onInp f s).tags = s.tags := rfl
@[simp] theorem onInp_msr (f : Intake → Intake) (s : State) : (onInp f s).msr = s.msr := rfl
@[simp] theorem onInp_fab (f : Intake → Intake) (s : State) : (onInp f s).fab = s.fab := rfl
@[simp] theorem onInp_inp (f : Intake → Intake) (s : State) : (onInp f s).inp = f s.inp := rfl
@[simp] theorem onInp_chg (f : Intake → Intake) (s : State) : (onInp f s).chg = s.chg := rfl
@[simp] theorem onInp_gau (f : Intake → Intake) (s : State) : (onInp f s).gau = s.gau := rfl
@[simp] theorem onInp_supply (f : Intake → Intake) (s : State) : (onInp f s).supply = s.supply := rfl
@[simp] theorem onInp_tap (f : Intake → Intake) (s : State) : (onInp f s).tap = s.tap := rfl

/-! ### onInput -/

@[simp] theorem onInput_pending (i : Nat) (f : Input → Input) (s : State) : (onInput i f s).pending = s.pending := rfl
@[simp] theorem onInput_free (i : Nat) (f : Input → Input) (s : State) : (onInput i f s).free = s.free := rfl
@[simp] theorem onInput_mem (i : Nat) (f : Input → Input) (s : State) : (onInput i f s).mem = s.mem := rfl
@[simp] theorem onInput_aon (i : Nat) (f : Input → Input) (s : State) : (onInput i f s).aon = s.aon := rfl
@[simp] theorem onInput_clk (i : Nat) (f : Input → Input) (s : State) : (onInput i f s).clk = s.clk := rfl
@[simp] theorem onInput_core (i : Nat) (f : Input → Input) (s : State) : (onInput i f s).core = s.core := rfl
@[simp] theorem onInput_ports (i : Nat) (f : Input → Input) (s : State) : (onInput i f s).ports = s.ports := rfl
@[simp] theorem onInput_i3c (i : Nat) (f : Input → Input) (s : State) : (onInput i f s).i3c = s.i3c := rfl
@[simp] theorem onInput_uart (i : Nat) (f : Input → Input) (s : State) : (onInput i f s).uart = s.uart := rfl
@[simp] theorem onInput_tenants (i : Nat) (f : Input → Input) (s : State) : (onInput i f s).tenants = s.tenants := rfl
@[simp] theorem onInput_ops (i : Nat) (f : Input → Input) (s : State) : (onInput i f s).ops = s.ops := rfl
@[simp] theorem onInput_owed (i : Nat) (f : Input → Input) (s : State) : (onInput i f s).owed = s.owed := rfl
@[simp] theorem onInput_deferred (i : Nat) (f : Input → Input) (s : State) : (onInput i f s).deferred = s.deferred := rfl
@[simp] theorem onInput_par (i : Nat) (f : Input → Input) (s : State) : (onInput i f s).par = s.par := rfl
@[simp] theorem onInput_nv (i : Nat) (f : Input → Input) (s : State) : (onInput i f s).nv = s.nv := rfl
@[simp] theorem onInput_fw (i : Nat) (f : Input → Input) (s : State) : (onInput i f s).fw = s.fw := rfl
@[simp] theorem onInput_log (i : Nat) (f : Input → Input) (s : State) : (onInput i f s).log = s.log := rfl
@[simp] theorem onInput_bg (i : Nat) (f : Input → Input) (s : State) : (onInput i f s).bg = s.bg := rfl
@[simp] theorem onInput_rails (i : Nat) (f : Input → Input) (s : State) : (onInput i f s).rails = s.rails := rfl
@[simp] theorem onInput_eng (i : Nat) (f : Input → Input) (s : State) : (onInput i f s).eng = s.eng := rfl
@[simp] theorem onInput_sup (i : Nat) (f : Input → Input) (s : State) : (onInput i f s).sup = s.sup := rfl
@[simp] theorem onInput_cap (i : Nat) (f : Input → Input) (s : State) : (onInput i f s).cap = s.cap := rfl
@[simp] theorem onInput_tags (i : Nat) (f : Input → Input) (s : State) : (onInput i f s).tags = s.tags := rfl
@[simp] theorem onInput_msr (i : Nat) (f : Input → Input) (s : State) : (onInput i f s).msr = s.msr := rfl
@[simp] theorem onInput_fab (i : Nat) (f : Input → Input) (s : State) : (onInput i f s).fab = s.fab := rfl
@[simp] theorem onInput_inp (i : Nat) (f : Input → Input) (s : State) : (onInput i f s).inp = { s.inp with inputs := vmod s.inp.inputs i f } := rfl
@[simp] theorem onInput_chg (i : Nat) (f : Input → Input) (s : State) : (onInput i f s).chg = s.chg := rfl
@[simp] theorem onInput_gau (i : Nat) (f : Input → Input) (s : State) : (onInput i f s).gau = s.gau := rfl
@[simp] theorem onInput_supply (i : Nat) (f : Input → Input) (s : State) : (onInput i f s).supply = s.supply := rfl
@[simp] theorem onInput_tap (i : Nat) (f : Input → Input) (s : State) : (onInput i f s).tap = s.tap := rfl

/-! ### onSearch -/

@[simp] theorem onSearch_pending (f : Search → Search) (s : State) : (onSearch f s).pending = s.pending := rfl
@[simp] theorem onSearch_free (f : Search → Search) (s : State) : (onSearch f s).free = s.free := rfl
@[simp] theorem onSearch_mem (f : Search → Search) (s : State) : (onSearch f s).mem = s.mem := rfl
@[simp] theorem onSearch_aon (f : Search → Search) (s : State) : (onSearch f s).aon = s.aon := rfl
@[simp] theorem onSearch_clk (f : Search → Search) (s : State) : (onSearch f s).clk = s.clk := rfl
@[simp] theorem onSearch_core (f : Search → Search) (s : State) : (onSearch f s).core = s.core := rfl
@[simp] theorem onSearch_ports (f : Search → Search) (s : State) : (onSearch f s).ports = s.ports := rfl
@[simp] theorem onSearch_i3c (f : Search → Search) (s : State) : (onSearch f s).i3c = s.i3c := rfl
@[simp] theorem onSearch_uart (f : Search → Search) (s : State) : (onSearch f s).uart = s.uart := rfl
@[simp] theorem onSearch_tenants (f : Search → Search) (s : State) : (onSearch f s).tenants = s.tenants := rfl
@[simp] theorem onSearch_ops (f : Search → Search) (s : State) : (onSearch f s).ops = s.ops := rfl
@[simp] theorem onSearch_owed (f : Search → Search) (s : State) : (onSearch f s).owed = s.owed := rfl
@[simp] theorem onSearch_deferred (f : Search → Search) (s : State) : (onSearch f s).deferred = s.deferred := rfl
@[simp] theorem onSearch_par (f : Search → Search) (s : State) : (onSearch f s).par = s.par := rfl
@[simp] theorem onSearch_nv (f : Search → Search) (s : State) : (onSearch f s).nv = s.nv := rfl
@[simp] theorem onSearch_fw (f : Search → Search) (s : State) : (onSearch f s).fw = s.fw := rfl
@[simp] theorem onSearch_log (f : Search → Search) (s : State) : (onSearch f s).log = s.log := rfl
@[simp] theorem onSearch_bg (f : Search → Search) (s : State) : (onSearch f s).bg = s.bg := rfl
@[simp] theorem onSearch_rails (f : Search → Search) (s : State) : (onSearch f s).rails = s.rails := rfl
@[simp] theorem onSearch_eng (f : Search → Search) (s : State) : (onSearch f s).eng = s.eng := rfl
@[simp] theorem onSearch_sup (f : Search → Search) (s : State) : (onSearch f s).sup = s.sup := rfl
@[simp] theorem onSearch_cap (f : Search → Search) (s : State) : (onSearch f s).cap = s.cap := rfl
@[simp] theorem onSearch_tags (f : Search → Search) (s : State) : (onSearch f s).tags = s.tags := rfl
@[simp] theorem onSearch_msr (f : Search → Search) (s : State) : (onSearch f s).msr = s.msr := rfl
@[simp] theorem onSearch_fab (f : Search → Search) (s : State) : (onSearch f s).fab = s.fab := rfl
@[simp] theorem onSearch_inp (f : Search → Search) (s : State) : (onSearch f s).inp = { s.inp with search := f s.inp.search } := rfl
@[simp] theorem onSearch_chg (f : Search → Search) (s : State) : (onSearch f s).chg = s.chg := rfl
@[simp] theorem onSearch_gau (f : Search → Search) (s : State) : (onSearch f s).gau = s.gau := rfl
@[simp] theorem onSearch_supply (f : Search → Search) (s : State) : (onSearch f s).supply = s.supply := rfl
@[simp] theorem onSearch_tap (f : Search → Search) (s : State) : (onSearch f s).tap = s.tap := rfl

/-! ### onChg -/

@[simp] theorem onChg_pending (f : Charger → Charger) (s : State) : (onChg f s).pending = s.pending := rfl
@[simp] theorem onChg_free (f : Charger → Charger) (s : State) : (onChg f s).free = s.free := rfl
@[simp] theorem onChg_mem (f : Charger → Charger) (s : State) : (onChg f s).mem = s.mem := rfl
@[simp] theorem onChg_aon (f : Charger → Charger) (s : State) : (onChg f s).aon = s.aon := rfl
@[simp] theorem onChg_clk (f : Charger → Charger) (s : State) : (onChg f s).clk = s.clk := rfl
@[simp] theorem onChg_core (f : Charger → Charger) (s : State) : (onChg f s).core = s.core := rfl
@[simp] theorem onChg_ports (f : Charger → Charger) (s : State) : (onChg f s).ports = s.ports := rfl
@[simp] theorem onChg_i3c (f : Charger → Charger) (s : State) : (onChg f s).i3c = s.i3c := rfl
@[simp] theorem onChg_uart (f : Charger → Charger) (s : State) : (onChg f s).uart = s.uart := rfl
@[simp] theorem onChg_tenants (f : Charger → Charger) (s : State) : (onChg f s).tenants = s.tenants := rfl
@[simp] theorem onChg_ops (f : Charger → Charger) (s : State) : (onChg f s).ops = s.ops := rfl
@[simp] theorem onChg_owed (f : Charger → Charger) (s : State) : (onChg f s).owed = s.owed := rfl
@[simp] theorem onChg_deferred (f : Charger → Charger) (s : State) : (onChg f s).deferred = s.deferred := rfl
@[simp] theorem onChg_par (f : Charger → Charger) (s : State) : (onChg f s).par = s.par := rfl
@[simp] theorem onChg_nv (f : Charger → Charger) (s : State) : (onChg f s).nv = s.nv := rfl
@[simp] theorem onChg_fw (f : Charger → Charger) (s : State) : (onChg f s).fw = s.fw := rfl
@[simp] theorem onChg_log (f : Charger → Charger) (s : State) : (onChg f s).log = s.log := rfl
@[simp] theorem onChg_bg (f : Charger → Charger) (s : State) : (onChg f s).bg = s.bg := rfl
@[simp] theorem onChg_rails (f : Charger → Charger) (s : State) : (onChg f s).rails = s.rails := rfl
@[simp] theorem onChg_eng (f : Charger → Charger) (s : State) : (onChg f s).eng = s.eng := rfl
@[simp] theorem onChg_sup (f : Charger → Charger) (s : State) : (onChg f s).sup = s.sup := rfl
@[simp] theorem onChg_cap (f : Charger → Charger) (s : State) : (onChg f s).cap = s.cap := rfl
@[simp] theorem onChg_tags (f : Charger → Charger) (s : State) : (onChg f s).tags = s.tags := rfl
@[simp] theorem onChg_msr (f : Charger → Charger) (s : State) : (onChg f s).msr = s.msr := rfl
@[simp] theorem onChg_fab (f : Charger → Charger) (s : State) : (onChg f s).fab = s.fab := rfl
@[simp] theorem onChg_inp (f : Charger → Charger) (s : State) : (onChg f s).inp = s.inp := rfl
@[simp] theorem onChg_chg (f : Charger → Charger) (s : State) : (onChg f s).chg = f s.chg := rfl
@[simp] theorem onChg_gau (f : Charger → Charger) (s : State) : (onChg f s).gau = s.gau := rfl
@[simp] theorem onChg_supply (f : Charger → Charger) (s : State) : (onChg f s).supply = s.supply := rfl
@[simp] theorem onChg_tap (f : Charger → Charger) (s : State) : (onChg f s).tap = s.tap := rfl

/-! ### onGau -/

@[simp] theorem onGau_pending (f : Gauge → Gauge) (s : State) : (onGau f s).pending = s.pending := rfl
@[simp] theorem onGau_free (f : Gauge → Gauge) (s : State) : (onGau f s).free = s.free := rfl
@[simp] theorem onGau_mem (f : Gauge → Gauge) (s : State) : (onGau f s).mem = s.mem := rfl
@[simp] theorem onGau_aon (f : Gauge → Gauge) (s : State) : (onGau f s).aon = s.aon := rfl
@[simp] theorem onGau_clk (f : Gauge → Gauge) (s : State) : (onGau f s).clk = s.clk := rfl
@[simp] theorem onGau_core (f : Gauge → Gauge) (s : State) : (onGau f s).core = s.core := rfl
@[simp] theorem onGau_ports (f : Gauge → Gauge) (s : State) : (onGau f s).ports = s.ports := rfl
@[simp] theorem onGau_i3c (f : Gauge → Gauge) (s : State) : (onGau f s).i3c = s.i3c := rfl
@[simp] theorem onGau_uart (f : Gauge → Gauge) (s : State) : (onGau f s).uart = s.uart := rfl
@[simp] theorem onGau_tenants (f : Gauge → Gauge) (s : State) : (onGau f s).tenants = s.tenants := rfl
@[simp] theorem onGau_ops (f : Gauge → Gauge) (s : State) : (onGau f s).ops = s.ops := rfl
@[simp] theorem onGau_owed (f : Gauge → Gauge) (s : State) : (onGau f s).owed = s.owed := rfl
@[simp] theorem onGau_deferred (f : Gauge → Gauge) (s : State) : (onGau f s).deferred = s.deferred := rfl
@[simp] theorem onGau_par (f : Gauge → Gauge) (s : State) : (onGau f s).par = s.par := rfl
@[simp] theorem onGau_nv (f : Gauge → Gauge) (s : State) : (onGau f s).nv = s.nv := rfl
@[simp] theorem onGau_fw (f : Gauge → Gauge) (s : State) : (onGau f s).fw = s.fw := rfl
@[simp] theorem onGau_log (f : Gauge → Gauge) (s : State) : (onGau f s).log = s.log := rfl
@[simp] theorem onGau_bg (f : Gauge → Gauge) (s : State) : (onGau f s).bg = s.bg := rfl
@[simp] theorem onGau_rails (f : Gauge → Gauge) (s : State) : (onGau f s).rails = s.rails := rfl
@[simp] theorem onGau_eng (f : Gauge → Gauge) (s : State) : (onGau f s).eng = s.eng := rfl
@[simp] theorem onGau_sup (f : Gauge → Gauge) (s : State) : (onGau f s).sup = s.sup := rfl
@[simp] theorem onGau_cap (f : Gauge → Gauge) (s : State) : (onGau f s).cap = s.cap := rfl
@[simp] theorem onGau_tags (f : Gauge → Gauge) (s : State) : (onGau f s).tags = s.tags := rfl
@[simp] theorem onGau_msr (f : Gauge → Gauge) (s : State) : (onGau f s).msr = s.msr := rfl
@[simp] theorem onGau_fab (f : Gauge → Gauge) (s : State) : (onGau f s).fab = s.fab := rfl
@[simp] theorem onGau_inp (f : Gauge → Gauge) (s : State) : (onGau f s).inp = s.inp := rfl
@[simp] theorem onGau_chg (f : Gauge → Gauge) (s : State) : (onGau f s).chg = s.chg := rfl
@[simp] theorem onGau_gau (f : Gauge → Gauge) (s : State) : (onGau f s).gau = f s.gau := rfl
@[simp] theorem onGau_supply (f : Gauge → Gauge) (s : State) : (onGau f s).supply = s.supply := rfl
@[simp] theorem onGau_tap (f : Gauge → Gauge) (s : State) : (onGau f s).tap = s.tap := rfl

/-! ### onTap -/

@[simp] theorem onTap_pending (f : Tap → Tap) (s : State) : (onTap f s).pending = s.pending := rfl
@[simp] theorem onTap_free (f : Tap → Tap) (s : State) : (onTap f s).free = s.free := rfl
@[simp] theorem onTap_mem (f : Tap → Tap) (s : State) : (onTap f s).mem = s.mem := rfl
@[simp] theorem onTap_aon (f : Tap → Tap) (s : State) : (onTap f s).aon = s.aon := rfl
@[simp] theorem onTap_clk (f : Tap → Tap) (s : State) : (onTap f s).clk = s.clk := rfl
@[simp] theorem onTap_core (f : Tap → Tap) (s : State) : (onTap f s).core = s.core := rfl
@[simp] theorem onTap_ports (f : Tap → Tap) (s : State) : (onTap f s).ports = s.ports := rfl
@[simp] theorem onTap_i3c (f : Tap → Tap) (s : State) : (onTap f s).i3c = s.i3c := rfl
@[simp] theorem onTap_uart (f : Tap → Tap) (s : State) : (onTap f s).uart = s.uart := rfl
@[simp] theorem onTap_tenants (f : Tap → Tap) (s : State) : (onTap f s).tenants = s.tenants := rfl
@[simp] theorem onTap_ops (f : Tap → Tap) (s : State) : (onTap f s).ops = s.ops := rfl
@[simp] theorem onTap_owed (f : Tap → Tap) (s : State) : (onTap f s).owed = s.owed := rfl
@[simp] theorem onTap_deferred (f : Tap → Tap) (s : State) : (onTap f s).deferred = s.deferred := rfl
@[simp] theorem onTap_par (f : Tap → Tap) (s : State) : (onTap f s).par = s.par := rfl
@[simp] theorem onTap_nv (f : Tap → Tap) (s : State) : (onTap f s).nv = s.nv := rfl
@[simp] theorem onTap_fw (f : Tap → Tap) (s : State) : (onTap f s).fw = s.fw := rfl
@[simp] theorem onTap_log (f : Tap → Tap) (s : State) : (onTap f s).log = s.log := rfl
@[simp] theorem onTap_bg (f : Tap → Tap) (s : State) : (onTap f s).bg = s.bg := rfl
@[simp] theorem onTap_rails (f : Tap → Tap) (s : State) : (onTap f s).rails = s.rails := rfl
@[simp] theorem onTap_eng (f : Tap → Tap) (s : State) : (onTap f s).eng = s.eng := rfl
@[simp] theorem onTap_sup (f : Tap → Tap) (s : State) : (onTap f s).sup = s.sup := rfl
@[simp] theorem onTap_cap (f : Tap → Tap) (s : State) : (onTap f s).cap = s.cap := rfl
@[simp] theorem onTap_tags (f : Tap → Tap) (s : State) : (onTap f s).tags = s.tags := rfl
@[simp] theorem onTap_msr (f : Tap → Tap) (s : State) : (onTap f s).msr = s.msr := rfl
@[simp] theorem onTap_fab (f : Tap → Tap) (s : State) : (onTap f s).fab = s.fab := rfl
@[simp] theorem onTap_inp (f : Tap → Tap) (s : State) : (onTap f s).inp = s.inp := rfl
@[simp] theorem onTap_chg (f : Tap → Tap) (s : State) : (onTap f s).chg = s.chg := rfl
@[simp] theorem onTap_gau (f : Tap → Tap) (s : State) : (onTap f s).gau = s.gau := rfl
@[simp] theorem onTap_supply (f : Tap → Tap) (s : State) : (onTap f s).supply = s.supply := rfl
@[simp] theorem onTap_tap (f : Tap → Tap) (s : State) : (onTap f s).tap = f s.tap := rfl

/-! ### onConv -/

@[simp] theorem onConv_pending (k : Nat) (f : Converter → Converter) (s : State) : (onConv k f s).pending = s.pending := by
  unfold onConv
  split <;> rfl
@[simp] theorem onConv_free (k : Nat) (f : Converter → Converter) (s : State) : (onConv k f s).free = s.free := by
  unfold onConv
  split <;> rfl
@[simp] theorem onConv_mem (k : Nat) (f : Converter → Converter) (s : State) : (onConv k f s).mem = s.mem := by
  unfold onConv
  split <;> rfl
@[simp] theorem onConv_aon (k : Nat) (f : Converter → Converter) (s : State) : (onConv k f s).aon = s.aon := by
  unfold onConv
  split <;> rfl
@[simp] theorem onConv_clk (k : Nat) (f : Converter → Converter) (s : State) : (onConv k f s).clk = s.clk := by
  unfold onConv
  split <;> rfl
@[simp] theorem onConv_core (k : Nat) (f : Converter → Converter) (s : State) : (onConv k f s).core = s.core := by
  unfold onConv
  split <;> rfl
@[simp] theorem onConv_ports (k : Nat) (f : Converter → Converter) (s : State) : (onConv k f s).ports = s.ports := by
  unfold onConv
  split <;> rfl
@[simp] theorem onConv_i3c (k : Nat) (f : Converter → Converter) (s : State) : (onConv k f s).i3c = s.i3c := by
  unfold onConv
  split <;> rfl
@[simp] theorem onConv_uart (k : Nat) (f : Converter → Converter) (s : State) : (onConv k f s).uart = s.uart := by
  unfold onConv
  split <;> rfl
@[simp] theorem onConv_tenants (k : Nat) (f : Converter → Converter) (s : State) : (onConv k f s).tenants = s.tenants := by
  unfold onConv
  split <;> rfl
@[simp] theorem onConv_ops (k : Nat) (f : Converter → Converter) (s : State) : (onConv k f s).ops = s.ops := by
  unfold onConv
  split <;> rfl
@[simp] theorem onConv_owed (k : Nat) (f : Converter → Converter) (s : State) : (onConv k f s).owed = s.owed := by
  unfold onConv
  split <;> rfl
@[simp] theorem onConv_deferred (k : Nat) (f : Converter → Converter) (s : State) : (onConv k f s).deferred = s.deferred := by
  unfold onConv
  split <;> rfl
@[simp] theorem onConv_par (k : Nat) (f : Converter → Converter) (s : State) : (onConv k f s).par = s.par := by
  unfold onConv
  split <;> rfl
@[simp] theorem onConv_nv (k : Nat) (f : Converter → Converter) (s : State) : (onConv k f s).nv = s.nv := by
  unfold onConv
  split <;> rfl
@[simp] theorem onConv_fw (k : Nat) (f : Converter → Converter) (s : State) : (onConv k f s).fw = s.fw := by
  unfold onConv
  split <;> rfl
@[simp] theorem onConv_log (k : Nat) (f : Converter → Converter) (s : State) : (onConv k f s).log = s.log := by
  unfold onConv
  split <;> rfl
@[simp] theorem onConv_bg (k : Nat) (f : Converter → Converter) (s : State) : (onConv k f s).bg = s.bg := by
  unfold onConv
  split <;> rfl
@[simp] theorem onConv_rails (k : Nat) (f : Converter → Converter) (s : State) : (onConv k f s).rails = s.rails := by
  unfold onConv
  split <;> rfl
@[simp] theorem onConv_eng (k : Nat) (f : Converter → Converter) (s : State) : (onConv k f s).eng = s.eng := by
  unfold onConv
  split <;> rfl
@[simp] theorem onConv_sup (k : Nat) (f : Converter → Converter) (s : State) : (onConv k f s).sup = s.sup := by
  unfold onConv
  split <;> rfl
@[simp] theorem onConv_cap (k : Nat) (f : Converter → Converter) (s : State) : (onConv k f s).cap = s.cap := by
  unfold onConv
  split <;> rfl
@[simp] theorem onConv_tags (k : Nat) (f : Converter → Converter) (s : State) : (onConv k f s).tags = s.tags := by
  unfold onConv
  split <;> rfl
@[simp] theorem onConv_fab (k : Nat) (f : Converter → Converter) (s : State) : (onConv k f s).fab = s.fab := by
  unfold onConv
  split <;> rfl
@[simp] theorem onConv_inp (k : Nat) (f : Converter → Converter) (s : State) : (onConv k f s).inp = s.inp := by
  unfold onConv
  split <;> rfl
@[simp] theorem onConv_chg (k : Nat) (f : Converter → Converter) (s : State) : (onConv k f s).chg = s.chg := by
  unfold onConv
  split <;> rfl
@[simp] theorem onConv_gau (k : Nat) (f : Converter → Converter) (s : State) : (onConv k f s).gau = s.gau := by
  unfold onConv
  split <;> rfl
@[simp] theorem onConv_supply (k : Nat) (f : Converter → Converter) (s : State) : (onConv k f s).supply = s.supply := by
  unfold onConv
  split <;> rfl
@[simp] theorem onConv_tap (k : Nat) (f : Converter → Converter) (s : State) : (onConv k f s).tap = s.tap := by
  unfold onConv
  split <;> rfl

/-! ### One entry after an update -/

@[simp] theorem rail_onRail_same {k : Nat} (f : Rail → Rail) (s : State) (h : k < 24) : rail (onRail k f s) k = f (rail s k) :=
  vget_vmod_same _ _ _ _ h

theorem rail_onRail_other {k j : Nat} (f : Rail → Rail) (s : State) (h : k ≠ j) : rail (onRail k f s) j = rail s j :=
  vget_vmod_other _ _ _ h

@[simp] theorem port_onPort_same {k : Nat} (f : Port → Port) (s : State) (h : k < 4) : port (onPort k f s) k = f (port s k) :=
  vget_vmod_same _ _ _ _ h

theorem port_onPort_other {k j : Nat} (f : Port → Port) (s : State) (h : k ≠ j) : port (onPort k f s) j = port s j :=
  vget_vmod_other _ _ _ h

@[simp] theorem tenant_onTenant_same {k : Nat} (f : Tenant → Tenant) (s : State) (h : k < 64) : tenant (onTenant k f s) k = f (tenant s k) :=
  vget_vmod_same _ _ _ _ h

theorem tenant_onTenant_other {k j : Nat} (f : Tenant → Tenant) (s : State) (h : k ≠ j) : tenant (onTenant k f s) j = tenant s j :=
  vget_vmod_other _ _ _ h

@[simp] theorem bank_onBank_same {k : Nat} (f : Bank → Bank) (s : State) (h : k < 64) : bank (onBank k f s) k = f (bank s k) :=
  vget_vmod_same _ _ _ _ h

theorem bank_onBank_other {k j : Nat} (f : Bank → Bank) (s : State) (h : k ≠ j) : bank (onBank k f s) j = bank s j :=
  vget_vmod_other _ _ _ h

@[simp] theorem seqOf_onSeq_same {k : Nat} (f : Seq → Seq) (s : State) (h : k < 8) : seqOf (onSeq k f s) k = f (seqOf s k) :=
  vget_vmod_same _ _ _ _ h

theorem seqOf_onSeq_other {k j : Nat} (f : Seq → Seq) (s : State) (h : k ≠ j) : seqOf (onSeq k f s) j = seqOf s j :=
  vget_vmod_other _ _ _ h

@[simp] theorem ringOf_onRing_same {k : Nat} (f : Ring → Ring) (s : State) (h : k < 4) : ringOf (onRing k f s) k = f (ringOf s k) :=
  vget_vmod_same _ _ _ _ h

theorem ringOf_onRing_other {k j : Nat} (f : Ring → Ring) (s : State) (h : k ≠ j) : ringOf (onRing k f s) j = ringOf s j :=
  vget_vmod_other _ _ _ h

@[simp] theorem input_onInput_same {k : Nat} (f : Input → Input) (s : State) (h : k < 2) : input (onInput k f s) k = f (input s k) :=
  vget_vmod_same _ _ _ _ h

theorem input_onInput_other {k j : Nat} (f : Input → Input) (s : State) (h : k ≠ j) : input (onInput k f s) j = input s j :=
  vget_vmod_other _ _ _ h

@[simp] theorem task_onTask_same {k : Nat} (f : Task → Task) (s : State) (h : k < 6) : task (onTask k f s) k = f (task s k) :=
  vget_vmod_same _ _ _ _ h

theorem task_onTask_other {k j : Nat} (f : Task → Task) (s : State) (h : k ≠ j) : task (onTask k f s) j = task s j :=
  vget_vmod_other _ _ _ h

@[simp] theorem tagPos_onTag_same {k : Nat} (f : TagPos → TagPos) (s : State) (h : k < 8) : tagPos (onTag k f s) k = f (tagPos s k) :=
  vget_vmod_same _ _ _ _ h

theorem tagPos_onTag_other {k j : Nat} (f : TagPos → TagPos) (s : State) (h : k ≠ j) : tagPos (onTag k f s) j = tagPos s j :=
  vget_vmod_other _ _ _ h

end Sys2Proof.Machine
end

