-- ==== Sys2Proof/Tests/Slice0.lean ====
section
/-! SUPPORT. Tests: ill-formed terms that the check refuses, values that the spec works out, and for every statement with hypotheses a
concrete state and operands that meet them, clause by clause. -/

namespace Sys2Proof.Tests

open Sys2Proof Sys2Proof.Machine

set_option linter.unusedVariables false
set_option Elab.async false

/-! ### Small states -/

/-- A parameter instance, committed and in force. -/
def setP (id i1 : Nat) (v : PVal) (s : State) : State :=
  { s with par := { s.par with cells := putCell s.par.cells { inst := { id := id, i1 := i1, i2 := 0 }, committed := v, inForce := v, pending := false, epoch := 0 } } }
/-- A numeric parameter instance, committed and in force. -/
def setN (id i1 : Nat) (n : Int) : State → State := setP id i1 (.num n)
def core (f : CoreBlk → CoreBlk) (s : State) : State := { s with core := f s.core }
def clk (f : Clocks → Clocks) (s : State) : State := { s with clk := f s.clk }
def aon (f : Aon → Aon) (s : State) : State := { s with aon := f s.aon }
def nv (f : Nv → Nv) (s : State) : State := { s with nv := f s.nv }
def fw (f : FwUpdate → FwUpdate) (s : State) : State := { s with fw := f s.fw }
def eng (f : Engine → Engine) (s : State) : State := { s with eng := f s.eng }
def inp (f : Intake → Intake) (s : State) : State := { s with inp := f s.inp }
def chg (f : Charger → Charger) (s : State) : State := { s with chg := f s.chg }
def gau (f : Gauge → Gauge) (s : State) : State := { s with gau := f s.gau }
def msr (f : Measure → Measure) (s : State) : State := { s with msr := f s.msr }
def cap (f : Caldera → Caldera) (s : State) : State := { s with cap := f s.cap }
def tags (f : Tags → Tags) (s : State) : State := { s with tags := f s.tags }
def sup (f : Sup → Sup) (s : State) : State := { s with sup := f s.sup }
def par (f : ParamStore → ParamStore) (s : State) : State := { s with par := f s.par }
def tap (f : Tap → Tap) (s : State) : State := { s with tap := f s.tap }
def bg (f : Background → Background) (s : State) : State := { s with bg := f s.bg }
def lg (f : Sinter → Sinter) (s : State) : State := { s with log := f s.log }
def i3c (f : I3cBus → I3cBus) (s : State) : State := { s with i3c := f s.i3c }
def tsk (i : Nat) (f : Task → Task) (s : State) : State := bg (fun b => { b with tasks := vmod b.tasks i f }) s
def md (m : Mode) (s : State) : State := core (fun c => { c with mode := m }) s
/-- A present rail. -/
def rl (r : Nat) (f : Rail → Rail) (s : State) : State := { setN 0x0401 r 1 s with rails := vmod s.rails r f }
def bk (k : Nat) (f : Bank → Bank) (s : State) : State := onBank k f s
def prt (p : Nat) (f : Port → Port) (s : State) : State := onPort p f s
def ten (n : Nat) (f : Tenant → Tenant) (s : State) : State := onTenant n f s
def inpt (i : Nat) (f : Input → Input) (s : State) : State := onInput i f s
/-- Powered, not yet recalled. -/
def boot : State := State.reset
/-- Recalled and clocked, firmware running and serving, in STANDBY; tenant 0 holds every capability and a session on port 1. -/
def live : State :=
  setN 0x0202 0 0x3FFF
    { State.reset with
      core := { State.reset.core with run := .running, ready := true, nvReady := true, recalled := true, fwReady := true, mode := .standby, clkOut := true }
      ports := State.reset.ports.map (fun p => { p with ready := true })
      tenants := vmod State.reset.tenants 0 (fun t => { t with session := some 1 }) }
/-- A request of tenant 0 on port 1. -/
def rq : Req := { port := 1, tenant := 0, seq := 7, asyncOk := false, waitQuiet := false, persist := false, env := [] }
/-- Tenant 0 with its session on another port. -/
def onPt (p : Nat) (s : State) : State := ten 0 (fun t => { t with session := some p }) s
def stp (op tgt arg time : Nat) : Bytes := leBytes 1 op ++ leBytes 1 tgt ++ leBytes 2 arg ++ leBytes 4 time
/-- A run of a table that stands at its first step. -/
def rn (table : Nat) (step : Bytes) (ph : RunPhase) : Run :=
  { table := table, steps := [step], idx := 0, phase := ph, outs := [], enabled := [], timeouts := 0, cover := [], unwind := [], cause := 0,
    tenant := 0xFF, failCause := 0 }
def wr (q : Run) (s : State) : State := eng (fun e => { e with run := some q }) s
def lt (code src : Nat) : Latch := { code := code, src := src, tick := 0, value := none, count := 1, response := 1, offRails := [] }
def rep (code src : Nat) (v : Option Int) : Report :=
  { code := code, src := src, response := 1, flags := 0, tick := 0, us := 0, value := v, mode := 1, retryNo := 0, chan := 0xFF, table := 0xFF }
def cp : Capture :=
  { code := 1, src := 0, response := 1, flags := 0, tick := 0, rtc := 0, boot := 1, serial := 0, pre := 512, post := 0, mask := 0, mode := 1, table := 0xFF,
    others := 0, trigger := none, before := 0, after := 0, clockCut := false, cut := false, markerDone := false, started := none, abandoned := false, rails := [] }
def ev (c : Nat) : Event := { code := c, flags := 0, src := 0, arg := 0, tick := 0 }
def rsp : RspFrame := { tenant := 0, seq := 7, status := 0, frame := mkFrame 0 7 0 0 [] }
def txn0 : Txn := { base := 0, writes := [], waiting := false, lastStatus := 0, lastFail := { id := 0, i1 := 0, i2 := 0 }, usedAt := 0 }
def wc : WaitCommit :=
  { port := 1, tenant := 0, seq := 7, direct := true, async := false, writes := [], persist := false, waitQuiet := false, deadline := 9, overtaken := false,
    credit := true, accepted := 0 }
def gat : Gather := { tenant := 0, base := 0x28000, bytes := [(0x28000, 1)] }
def sq (q : Nat) (f : Seq → Seq) (s : State) : State := msr (fun m => { m with seqs := vmod m.seqs q f }) s
def rg (d : Nat) (f : Ring → Ring) (s : State) : State := msr (fun m => { m with rings := vmod m.rings d f }) s
def con5 : Contract := { kind := 1, mv := 5000, ma := 3000, pos := 1 }
def usb : State := inp (fun x => { x with tc := 2 }) live
def cal0 : CalRun := { channel := 0x42, gain := false, stated := 0, persist := false, tenant := 0, epoch := 0, lost := none, written := none, from_ := 0, samples := [] }
/-- Neither firmware slot holds an image that boots. -/
def noBoot : State := nv (fun x => { x with blank := [0, 1] }) live
def fr (n : Nat) : Frame :=
  { number := 0, at_ := 0, desc := leBytes 1 2 ++ leBytes 1 3 ++ zeros 6 ++ [byte 0x30, byte 0, byte 1, byte 0] ++ [byte 0x30, byte 0, byte 1, byte 0], next := n, entry := 0, k := 0, sync := false, room := 0, ring := none, cor := [] }
/-- The same at another microsecond. -/
def at_ (us : Nat) (s : State) : State := clk (fun c => { c with us := us }) s
def srch (i : Nat) : State :=
  inpt i (fun x => { x with st := .search, present := true })
    (inp (fun x => { x with active := some i, path := .source, search := { x.search with lim := 500, step := 200 } }) live)
def own (k : Nat) (s : State) : State := bk k (fun b => { b with st := .owned, owner := 0 }) s
/-- Tenant 0 is bound to port 2, whose window stands at its bank 10. -/
def bound10 : State := prt 2 (fun q => { q with bound := some 0, winBank := 10 }) (own 10 (onPt 2 live))
def nvc : NvCommit := { slot := some 0, owner := 0, dest := 0x28000, data := [1, 2, 3, 4, 5, 6, 7, 8], gather := none }
def pRowOf (id : Nat) : PInfo := (pInfo id).getD (pRow 0 .live .u8 .none 0 0 0 "" (.occ .now))
def txn1 : Txn := { txn0 with writes := [{ inst := { id := 0x020E, i1 := 1, i2 := 0 }, value := .num 5 }] }
def withQ (c : Instr) (s : State) : State := { s with pending := [c] }
def rq63 : Req := { rq with tenant := 63 }
/-- Tenant 63 holds every capability and an authenticated session on port 1. -/
def live63 : State := setN 0x0202 63 0x3FFF (ten 63 (fun t => { t with session := some 1, authed := true }) live)
def aft (o : Host.Outcome State Fault Refusal) : State :=
  match o with
  | .next t => t
  | _ => live
/-- A log with one open sector. -/
def logd : State := openSector 0 live
/-- One Q7 pair of usable records, held now. -/
def q7 (ch : Nat) (v i : Int) (s : State) : State := msr (fun m => { m with pairs := { ch := ch, at_ := s.clk.us, v := v, i := 2 * i } :: m.pairs }) s
/-- Codes of the reference DAC on an ideal slice of a converter, and shadow pairs that differ by `d`. -/
def rot0 (conv : Nat) (d : Int) : Rotation :=
  { points := (dacPoints conv).map (fun x => List.replicate 64 (x / 16)), skew := 0, live := [], dac := List.replicate 64 (d, 0), liveNext := [],
    dacNext := List.replicate 64 (d, 0) }
/-- A frame of the service UART on its line. -/
def onLine (f : Bytes) : Bytes := stuff (f ++ leBytes 2 (crc16 f))
def vf : Verify := { rail := 3, code := 1, tick := 0, from_ := 0, ends := 0, slice := 0 }
/-- A waiting response. -/
def wrsp (closes : Bool) : WaitRsp := { rsp := rsp, credit := true, since := none, events := 0, closes := closes }
/-- A settled input whose creep period has passed. -/
def crp0 : State :=
  q7 0x40 5000 450 (at_ 20000000 (inpt 0 (fun x => { x with st := .settled }) (setN 0x0A07 0 10 (setN 0x0A02 0 3000 (inp (fun x => { x with contract := some con5 }) (srch 0))))))
/-- A task that is due, all of Fumarole's time in hand. -/
def dueTask (i : Nat) : State := tsk i (fun t => { t with due := true }) (bg (fun b => { b with tasks := b.tasks.map (fun t => { t with dueAt := 1000000000 }) }) live)
/-- What IDENTIFY answers on a port. -/
def idPl (s : State) (port : Nat) : Bytes :=
  match identifyBody { rq with port := port } [] s with
  | .done _ out _ => out
  | _ => []

/-- A claim about every byte of a range, from its bytes one by one. -/
theorem all_in {P : Nat → Prop} {a n : Nat} (h : ∀ k < n, P (a + k)) : ∀ x, a ≤ x → x < a + n → P x := fun x h1 h2 => by
  have e : a + (x - a) = x := by omega
  have p := h (x - a) (by omega)
  rwa [e] at p
/-- A claim about every word of four bytes. -/
theorem only_zero {P : Nat → Prop} (h : P 0) : ∀ i, 4 * i < 4 → P i := fun i hi => by
  have e : i = 0 := by omega
  exact e ▸ h

/-! ### Well-formedness: one ill-formed term for each check -/

/-- A request header outside Table HST.9. -/
def badRq : Req := { rq with port := 4 }

/-- These commands are well formed. -/
theorem test_well_formed_1 : ([
    .configurationRecall [] 0 [], .ready [], .forcedPowerDown 0, .wakeInQualified 0 0, .shipWake 0 0 0, .shipEntryFinish [], .modeRequest rq 0, .shipArm rq 0,
    .status rq, .identify rq, .coreReset rq, .timeSet rq 0, .events rq 0, .sessionOpen rq 0, .sessionClose rq, .authChallenge rq, .authProve rq (zeros 16),
    .tenantWrite rq 0 (zeros 32), .creditsRead rq, .paramGet rq 0 0 0, .paramSet rq 0 0 0 [], .paramInfo rq 0, .txnBegin rq, .txnCommit rq, .txnRollback rq,
    .txnStatus rq, .configFactory rq 0, .txnIdleTimeout 0, .railState rq, .railForce rq 0 0, .tableRun rq 0, .tableAbort rq 0, .tableRead rq 0 0 0,
    .tableWrite rq 0 0 0 [], .seqStatus rq, .railPark rq 0 0, .pgGood 0 false 0, .railBelowOff 0 0, .tonMax 0 [], .toffMax 0 [], .reqEdge 0 false, .joinRun 0,
    .joinTimeout 0, .marginSet rq 0 0, .marginStatus rq 0, .ovFast 0 0 [], .uvFast 0 0 [], .faultVerifyResult 0 0, .pgLoss 0 false 0 [], .enShort 0 false [],
    .senseCheckPeriodic [], .vinOv 0 0 [], .vinReverse 0 [], .batReverse [], .sysUv 0 [], .dieOt 0 [], .faultRetry 0 0, .retryCountReset 0, .faultStatus rq 0,
    .faultClear rq [], .faultInject rq 0 0, .senseCheck rq 0, .pipeFrame (List.replicate 24 0) false 0 [], .captureRecordCommit [], .captureStatus rq,
    .captureRead rq 0 0, .captureClear rq, .captureTest rq, .rotationStep 0 (rot0 0 0), .sliceSwap 0, .calSystem rq 0 0 0, .seqTimer 0, .triggerLineFire 0 0 0 false,
    .resultRecord 0 (List.replicate 24 0) [] [], .ringRecordWrite 0 false [], .thermistorOpenTrip 0, .thermistorRelease 0, .convertNow rq 0 0 0, .seqStart rq 0,
    .seqStop rq 0, .ringAttach rq 0 0 0 0, .ringStatus rq 0 0, .triggerFire rq 0, .sweepComplete [] [], .sweepAbort [] [], .pollReply [] [], .pollTimeout [],
    .pollEmerged 0 [], .tagsStatus rq, .tagsSweep rq] : List Instr).all (fun c => wellFormed c == true) = true := by decide +kernel

/-- These commands are well formed. -/
theorem test_well_formed_2 : ([
    .ringDiagnose rq, .inputDetect 0 0, .inputQualify 0, .handoverComplete 0, .typecAttach 0 false, .rpChange 0, .sourceCapabilities [0x0001912C],
    .budgetPinsChange 0, .intakeStatus rq, .intakePolicy rq 0 0, .pdRequest rq 0 0, .budgetWindow rq 0 0 0, .chargeStatus rq, .chargeControl rq 0 0, .gaugeRead rq,
    .gaugeRelearn rq, .bankStatus rq 0 0 0, .bankHandover rq 0 0 0, .bankRead rq 0 0, .bankWrite rq 0 [], .bankAtomic rq 0 0 0, .bankRetire rq 0 0,
    .handoverDrainEnd 0, .bankZeroingDone 0, .bankBistDone 0 [], .memoryWindowAccess 0 false 0x1000 0 [] [] false [], .aliasBitSet 0 0 0 false false [],
    .aliasBitClear 0 0 0 false false [], .aliasAtomicAdd 0 0 0 false false [], .atopAdd 0 false false [], .atopSwap 0 false false [], .atopOr 0 false false [],
    .atopAndNot 0 false false [], .nvStatus rq, .nvRead rq 0 0, .nvGather rq 0 [], .nvCommit rq, .nvDiscard rq, .nvProtect rq 0 0, .logAppend rq 0 0 [],
    .logRead rq 0 0 0, .eepromWrite 0 0 [] [], .eepromRead 0 none 0 [], .resvDischargeTest 0 0, .fwInfo rq, .fwBegin rq, .fwChunk rq 0 [], .fwFinish rq,
    .fwActivate rq, .submit 0 [], .rspDone 0, .responsePosted 0, .portReset 0, .portResetEnd 0, .evtPop 0 0 false, .irqStatusClear 0 0, .winStatusRead 0,
    .registerWrite 0 [] 0 [], .uartMailbox [] [], .uartRegRead [], .uartRegWrite [] [], .entdaa 0, .setdasa 0, .setnewda 0, .enec 0, .disec 0, .setmwl 0, .setmrl 0,
    .nonceExpiry 0, .authLockoutEnd 0, .ledgerRead rq 0 0, .background rq 0 0, .telemetryRead rq, .fumaroleStep 0 [] [] [] false [], .telemetry [],
    .bankScrub false [], .outputFoldback 0, .foldbackRetry 0, .blockedExit 0 0 false, .continuousFrameStart 0, .captureDrScan 0 0] : List Instr).all (fun c => wellFormed c == true) = true := by decide +kernel

/-- Each field of a request header is checked. -/
theorem test_ill_formed_headers :
    reqOk { rq with port := 4 } = false ∧ reqOk { rq with tenant := 64 } = false ∧ reqOk { rq with seq := 256 } = false := by decide

/-- Each of these breaks one check of its command, which refuses it. -/
theorem test_ill_formed_1 : ([
    .configurationRecall [] 256 [], .configurationRecall [(64, [])] 0 [], .configurationRecall [(0, [38])] 0 [], .ready [64], .forcedPowerDown 4,
    .wakeInQualified 4 0, .wakeInQualified 0 65536, .shipWake 3 0 0, .shipWake 0 65536 0, .shipWake 0 0 65536, .shipEntryFinish [24], .modeRequest badRq 0,
    .modeRequest rq 256, .shipArm badRq 0, .shipArm rq 256, .status badRq, .identify badRq, .coreReset badRq, .timeSet badRq 0, .timeSet rq 0x100000000,
    .events badRq 0, .events rq 256, .sessionOpen badRq 0, .sessionOpen rq 256, .sessionClose badRq, .authChallenge badRq, .authProve badRq (zeros 16),
    .authProve rq [], .tenantWrite badRq 0 (zeros 32), .tenantWrite rq 256 (zeros 32), .tenantWrite rq 0 [], .creditsRead badRq, .paramGet badRq 0 0 0,
    .paramGet rq 0x10000 0 0, .paramGet rq 0 256 0, .paramGet rq 0 0 256, .paramSet badRq 0 0 0 [], .paramSet rq 0x10000 0 0 [], .paramSet rq 0 256 0 [],
    .paramSet rq 0 0 256 [], .paramSet rq 0 0 0 (List.replicate (240 + 1) 0), .paramInfo badRq 0, .paramInfo rq 0x10000, .txnBegin badRq, .txnCommit badRq,
    .txnRollback badRq, .txnStatus badRq, .configFactory badRq 0, .configFactory rq 256, .txnIdleTimeout 64, .railState badRq, .railForce badRq 0 0,
    .railForce rq 256 0, .railForce rq 0 256, .tableRun badRq 0, .tableRun rq 256, .tableAbort badRq 0, .tableAbort rq 256, .tableRead badRq 0 0 0,
    .tableRead rq 256 0 0, .tableRead rq 0 256 0, .tableRead rq 0 0 256, .tableWrite badRq 0 0 0 [], .tableWrite rq 256 0 0 [], .tableWrite rq 0 256 0 [],
    .tableWrite rq 0 0 256 [], .tableWrite rq 0 0 0 (List.replicate (30 + 1) (zeros 8)), .tableWrite rq 0 0 0 [zeros 7], .seqStatus badRq, .railPark badRq 0 0,
    .railPark rq 256 0, .railPark rq 0 256, .pgGood 24 false 0, .railBelowOff 24 0, .tonMax 24 [], .tonMax 0 [(3, 0, 0)], .tonMax 0 [(1, 24, 0)],
    .tonMax 0 [(0x11, 2, 0)], .tonMax 0 [(0x14, 8, 0)], .toffMax 24 [], .toffMax 0 [(3, 0, 0)], .toffMax 0 [(1, 24, 0)], .toffMax 0 [(0x11, 2, 0)],
    .toffMax 0 [(0x14, 8, 0)], .reqEdge 8 false, .joinRun 24, .joinTimeout 24, .marginSet badRq 0 0, .marginSet rq 256 0, .marginSet rq 0 256] : List Instr).all (fun c => wellFormed c == false) = true := by decide +kernel

/-- Each of these breaks one check of its command, which refuses it. -/
theorem test_ill_formed_2 : ([
    .marginStatus badRq 0, .marginStatus rq 256, .ovFast 0 0 [(3, 0, 0)], .ovFast 0 0 [(1, 24, 0)], .ovFast 0 0 [(0x11, 2, 0)], .ovFast 0 0 [(0x14, 8, 0)],
    .ovFast 24 0 [], .uvFast 0 0 [(3, 0, 0)], .uvFast 0 0 [(1, 24, 0)], .uvFast 0 0 [(0x11, 2, 0)], .uvFast 0 0 [(0x14, 8, 0)], .uvFast 24 0 [],
    .faultVerifyResult 24 0, .pgLoss 0 false 0 [(3, 0, 0)], .pgLoss 0 false 0 [(1, 24, 0)], .pgLoss 0 false 0 [(0x11, 2, 0)], .pgLoss 0 false 0 [(0x14, 8, 0)],
    .pgLoss 24 false 0 [], .enShort 0 false [(3, 0, 0)], .enShort 0 false [(1, 24, 0)], .enShort 0 false [(0x11, 2, 0)], .enShort 0 false [(0x14, 8, 0)],
    .enShort 24 false [], .senseCheckPeriodic [(24, 0, 0)], .vinOv 0 0 [(3, 0, 0)], .vinOv 0 0 [(1, 24, 0)], .vinOv 0 0 [(0x11, 2, 0)], .vinOv 0 0 [(0x14, 8, 0)],
    .vinOv 2 0 [], .vinReverse 0 [(3, 0, 0)], .vinReverse 0 [(1, 24, 0)], .vinReverse 0 [(0x11, 2, 0)], .vinReverse 0 [(0x14, 8, 0)], .vinReverse 2 [],
    .batReverse [(3, 0, 0)], .batReverse [(1, 24, 0)], .batReverse [(0x11, 2, 0)], .batReverse [(0x14, 8, 0)], .sysUv 0 [(3, 0, 0)], .sysUv 0 [(1, 24, 0)],
    .sysUv 0 [(0x11, 2, 0)], .sysUv 0 [(0x14, 8, 0)], .dieOt 0 [(3, 0, 0)], .dieOt 0 [(1, 24, 0)], .dieOt 0 [(0x11, 2, 0)], .dieOt 0 [(0x14, 8, 0)], .faultRetry 24 0,
    .retryCountReset 24, .faultStatus badRq 0, .faultStatus rq 256, .faultClear badRq [], .faultClear rq (List.replicate (64 + 1) (0, 0)), .faultClear rq [(256, 0)],
    .faultClear rq [(0, 256)], .faultInject badRq 0 0, .faultInject rq 256 0, .faultInject rq 0 256, .senseCheck badRq 0, .senseCheck rq 0x1000000,
    .pipeFrame (List.replicate 24 0) false 0 [(64, 0, true)], .pipeFrame (List.replicate 24 0) false 0 [(0, 12, true)], .pipeFrame [] false 0 [],
    .pipeFrame (List.replicate 24 1024) false 0 [], .captureRecordCommit [(24, 0)], .captureRecordCommit [(0, 1024)], .captureStatus badRq, .captureRead badRq 0 0,
    .captureRead rq 0x100000000 0, .captureRead rq 0 256, .captureClear badRq, .captureTest badRq, .rotationStep 2 (rot0 0 0), .sliceSwap 2, .calSystem badRq 0 0 0,
    .calSystem rq 256 0 0, .calSystem rq 0 256 0, .calSystem rq 0 0 (-0x80000000 - 1), .calSystem rq 0 0 (0x7FFFFFFF + 1), .seqTimer 8, .triggerLineFire 4 0 0 false,
    .triggerLineFire 0 6 0 false, .triggerLineFire 0 0 256 false, .resultRecord 8 (List.replicate 24 0) [] [], .resultRecord 0 (List.replicate 24 0) [] [(3, 0, 0)],
    .resultRecord 0 (List.replicate 24 0) [] [(1, 24, 0)], .resultRecord 0 (List.replicate 24 0) [] [(0x11, 2, 0)],
    .resultRecord 0 (List.replicate 24 0) [] [(0x14, 8, 0)], .ringRecordWrite 0 false [(12, true)], .ringRecordWrite 4 false [], .thermistorOpenTrip 8] : List Instr).all (fun c => wellFormed c == false) = true := by decide +kernel

/-- Each of these breaks one check of its command, which refuses it. -/
theorem test_ill_formed_3 : ([
    .thermistorRelease 8, .convertNow badRq 0 0 0, .convertNow rq 256 0 0, .convertNow rq 0 256 0, .convertNow rq 0 0 256, .seqStart badRq 0, .seqStart rq 256,
    .seqStop badRq 0, .seqStop rq 256, .ringAttach badRq 0 0 0 0, .ringAttach rq 256 0 0 0, .ringAttach rq 0 256 0 0, .ringAttach rq 0 0 0x100000000 0,
    .ringAttach rq 0 0 0 256, .ringStatus badRq 0 0, .ringStatus rq 256 0, .ringStatus rq 0 256, .triggerFire badRq 0, .triggerFire rq 256,
    .sweepComplete [] [(3, 0, 0)], .sweepComplete [] [(1, 24, 0)], .sweepComplete [] [(0x11, 2, 0)], .sweepComplete [] [(0x14, 8, 0)],
    .sweepComplete (List.replicate (8 + 1) (zeros 9)) [], .sweepComplete [zeros 10] [], .sweepAbort [] [(3, 0, 0)], .sweepAbort [] [(1, 24, 0)],
    .sweepAbort [] [(0x11, 2, 0)], .sweepAbort [] [(0x14, 8, 0)], .sweepAbort (List.replicate (8 + 1) (zeros 9)) [], .sweepAbort [zeros 10] [],
    .pollReply [] [(3, 0, 0)], .pollReply [] [(1, 24, 0)], .pollReply [] [(0x11, 2, 0)], .pollReply [] [(0x14, 8, 0)], .pollTimeout [(3, 0, 0)],
    .pollTimeout [(1, 24, 0)], .pollTimeout [(0x11, 2, 0)], .pollTimeout [(0x14, 8, 0)], .pollEmerged 0 [(3, 0, 0)], .pollEmerged 0 [(1, 24, 0)],
    .pollEmerged 0 [(0x11, 2, 0)], .pollEmerged 0 [(0x14, 8, 0)], .pollEmerged 8 [], .tagsStatus badRq, .tagsSweep badRq, .ringDiagnose badRq, .inputDetect 2 0,
    .inputQualify 2, .handoverComplete 0x10000, .typecAttach 3 false, .rpChange 3, .sourceCapabilities [], .sourceCapabilities (List.replicate (7 + 1) 1),
    .budgetPinsChange 0x100000000, .intakeStatus badRq, .intakePolicy badRq 0 0, .intakePolicy rq 256 0, .intakePolicy rq 0 256, .pdRequest badRq 0 0,
    .pdRequest rq 256 0, .pdRequest rq 0 0x10000, .budgetWindow badRq 0 0 0, .budgetWindow rq 256 0 0, .budgetWindow rq 0 256 0, .budgetWindow rq 0 0 0x10000,
    .chargeStatus badRq, .chargeControl badRq 0 0, .chargeControl rq 256 0, .chargeControl rq 0 256, .gaugeRead badRq, .gaugeRelearn badRq, .bankStatus badRq 0 0 0,
    .bankStatus rq 256 0 0, .bankStatus rq 0 256 0, .bankStatus rq 0 0 256, .bankHandover badRq 0 0 0, .bankHandover rq 256 0 0, .bankHandover rq 0 256 0,
    .bankHandover rq 0 0 256, .bankRead badRq 0 0, .bankRead rq 0x100000000 0, .bankRead rq 0 256, .bankWrite badRq 0 [], .bankWrite rq 0x100000000 [],
    .bankWrite rq 0 (List.replicate (240 + 1) 0), .bankAtomic badRq 0 0 0, .bankAtomic rq 0x100000000 0 0, .bankAtomic rq 0 256 0, .bankAtomic rq 0 0 0x100000000] : List Instr).all (fun c => wellFormed c == false) = true := by decide +kernel

/-- Each of these breaks one check of its command, which refuses it. -/
theorem test_ill_formed_4 : ([
    .bankRetire badRq 0 0, .bankRetire rq 256 0, .bankRetire rq 0 256, .handoverDrainEnd 64, .bankZeroingDone 64, .bankBistDone 64 [], .bankBistDone 0 [38],
    .memoryWindowAccess 0 false 0x1000 0 [] [] false [(12, true)], .memoryWindowAccess 4 false 0x1000 0 [] [] false [],
    .memoryWindowAccess 0 false (0x1000 - 1) 0 [] [] false [], .memoryWindowAccess 0 false 0x2000 0 [] [] false [], .aliasBitSet 0 0 0 false false [(12, true)],
    .aliasBitSet 0x40 0 0 false false [], .aliasBitSet 0x8C 0 0 false false [], .aliasBitSet 0 0x100000000 0 false false [],
    .aliasBitSet 0 0 0x100000000 false false [], .aliasBitClear 0 0 0 false false [(12, true)], .aliasBitClear 0x40 0 0 false false [],
    .aliasBitClear 0x8C 0 0 false false [], .aliasBitClear 0 0x100000000 0 false false [], .aliasBitClear 0 0 0x100000000 false false [],
    .aliasAtomicAdd 0 0 0 false false [(12, true)], .aliasAtomicAdd 0x40 0 0 false false [], .aliasAtomicAdd 0x8C 0 0 false false [],
    .aliasAtomicAdd 0 0x100000000 0 false false [], .aliasAtomicAdd 0 0 0x100000000 false false [], .atopAdd 0 false false [(12, true)], .atopAdd 4 false false [],
    .atopSwap 0 false false [(12, true)], .atopSwap 4 false false [], .atopOr 0 false false [(12, true)], .atopOr 4 false false [],
    .atopAndNot 0 false false [(12, true)], .atopAndNot 4 false false [], .nvStatus badRq, .nvRead badRq 0 0, .nvRead rq 0x100000000 0, .nvRead rq 0 256,
    .nvGather badRq 0 [], .nvGather rq 0x100000000 [], .nvGather rq 0 (List.replicate (240 + 1) 0), .nvCommit badRq, .nvDiscard badRq, .nvProtect badRq 0 0,
    .nvProtect rq 256 0, .nvProtect rq 0 256, .logAppend badRq 0 0 [], .logAppend rq 256 0 [], .logAppend rq 0 0x100000000 [],
    .logAppend rq 0 0 (List.replicate (240 + 1) 0), .logRead badRq 0 0 0, .logRead rq 0x100000000 0 0, .logRead rq 0 256 0, .logRead rq 0 0 256,
    .eepromWrite 2 0 [] [], .eepromWrite 0 0x10000 [] [], .eepromRead 2 none 0 [], .eepromRead 0 (some 0x10000) 0 [], .resvDischargeTest 0x10000 0,
    .resvDischargeTest 0 0x10000, .fwInfo badRq, .fwBegin badRq, .fwChunk badRq 0 [], .fwChunk rq 0x100000000 [], .fwChunk rq 0 (List.replicate (240 + 1) 0),
    .fwFinish badRq, .fwActivate badRq, .submit 4 [], .rspDone 4, .responsePosted 4, .portReset 4, .portResetEnd 4, .evtPop 4 0 false, .evtPop 0 64 false,
    .irqStatusClear 4 0, .winStatusRead 4, .registerWrite 4 [] 0 [], .registerWrite 3 [0x7E] 0 [], .uartMailbox [0x7E] [], .uartRegRead [0x7E],
    .uartRegWrite [0x7E] [], .entdaa 128, .setdasa 128, .setnewda 128, .enec 256, .disec 256, .setmwl 0x10000, .setmrl 0x10000, .nonceExpiry 64, .authLockoutEnd 64] : List Instr).all (fun c => wellFormed c == false) = true := by decide +kernel

/-- Each of these breaks one check of its command, which refuses it. -/
theorem test_ill_formed_5 : ([
    .ledgerRead badRq 0 0, .ledgerRead rq 256 0, .ledgerRead rq 0 256, .background badRq 0 0, .background rq 256 0, .background rq 0 256, .telemetryRead badRq,
    .fumaroleStep 0 [] [] [] false [(12, true)], .telemetry [(12, true)], .bankScrub false [(12, true)], .outputFoldback 2, .foldbackRetry 2, .blockedExit 2 0 false,
    .continuousFrameStart 8, .captureDrScan (2 ^ 259) 0, .captureDrScan 0 (2 ^ 259)] : List Instr).all (fun c => wellFormed c == false) = true := by decide +kernel

/-! ### Values that the spec works out -/

/-- The check values of the CRCs of R600 and R21's conventions over "123456789". -/
theorem test_crc_check_values :
    crc16 [0x31, 0x32, 0x33, 0x34, 0x35, 0x36, 0x37, 0x38, 0x39] = 0x29B1 ∧
    crc32 [0x31, 0x32, 0x33, 0x34, 0x35, 0x36, 0x37, 0x38, 0x39] = 0xCBF43926 := by decide +kernel

/-- The STATUS frame of the worked case of chapter 14, header check FDh and CRC 581Ch among its bytes. -/
theorem test_status_frame : mkFrame 0 1 0x0101 0 [] = [0x00, 0x01, 0x01, 0x01, 0x00, 0x00, 0x00, 0xFD, 0x1C, 0x58] := by decide +kernel

/-- The header of the PARAM_GET request of the worked case of chapter 16. -/
theorem test_param_get_header : (mkFrame 1 0x22 0x0300 0 [0x07, 0x04, 0x05, 0x00]).take 8 = [0x01, 0x22, 0x00, 0x03, 0x04, 0x00, 0x00, 0xD6] := by
  decide +kernel

/-- The answer of that worked case: the power-good threshold of P05 is derived, 735 mV in force. -/
theorem test_param_get_derived_threshold :
    (port (aft (exec (.paramGet { rq with seq := 0x22 } 0x0407 5 0) (setN 0x0403 5 800 (rl 5 id live)))) 1).rspQ.map (fun f => f.frame.take 30) =
      [[0x00, 0x22, 0x00, 0x00, 0x16, 0x00, 0x00, 0xC8, 0x07, 0x04, 0x05, 0x00, 0x01, 0x02, 0, 0, 0, 0, 0, 0, 0, 0, 0x02, 0x02, 0, 0, 0, 0, 0xDF, 0x02]] := by
  decide +kernel

/-- Steps 1 and 2 of Table SEQ.14: WAIT_PG on P01 for 5000 µs, ENABLE on G1. -/
theorem test_table_step_bytes :
    stepOp [0x03, 0x01, 0x00, 0x00, 0x88, 0x13, 0x00, 0x00] = 3 ∧ stepTarget [0x03, 0x01, 0x00, 0x00, 0x88, 0x13, 0x00, 0x00] = 1 ∧
    stepTime [0x03, 0x01, 0x00, 0x00, 0x88, 0x13, 0x00, 0x00] = 5000 ∧ stepOp [0x01, 0x21, 0, 0, 0, 0, 0, 0] = 1 ∧ stepTarget [0x01, 0x21, 0, 0, 0, 0, 0, 0] = 0x21 := by
  decide +kernel

/-- Timeline SEQ.3: 801 mV against 840 mV steps the code to −1 with polarity 0; 841 mV settles at −5. -/
theorem test_margin_loop :
    (marginStep 840 801 0 63 (rail live 0).margin).code = -1 ∧
    (marginStep 840 841 0 63 { (rail live 0).margin with code := -5, lastErr := 7, lastCode := -4 }).code = -5 ∧
    (marginStep 840 841 0 63 { (rail live 0).margin with code := -5, lastErr := 7, lastCode := -4 }).settled = true := by decide +kernel

/-- Timeline CNV.2: a sum of 7 459 584 over 256 conversions of channel 05h gives the offset +12. -/
theorem test_cal_offset : calOffset { cal0 with channel := 0x05 } (List.replicate 256 29139) = 12 := by decide +kernel

/-- A 10 kΩ thermistor on 10 kΩ bias reads 16 384 at 25 °C. -/
theorem test_thermistor : thermTemp live 0 16384 = some 250 := by decide +kernel

/-- Solfatara's pack of the worked case of chapter 11. -/
def pack : State :=
  setP 0x0B12 0 (.blob (words16 ((List.range 17).map (fun k => 3000 + 50 * k) ++ [4190, 4235, 4280, 4350])))
    (setN 0x0B03 0 4350 (setN 0x0B04 0 2500
      (gau (fun g => { g with have_ := true, full := 4000000, rem := 3488000, soc := 8720, rep := 8720 })
        (chg (fun c => { c with phase := .geyser, inRest := true, iPrev := 2000, vEndPrev := some 12690, band := 2 }) live))))

/-- Its rest: the pairs of the windows of Table GEY.4, and the step decision's instant. -/
def packAtRest : State :=
  at_ (10000000 + 1000 * pn pack 0x0B09 - 1000)
    (q7 0x45 12690 0 (at_ (10000000 + 1000 * pn pack 0x0B09 - 5000) (q7 0x45 12720 0 (at_ 10050000 (q7 0x45 12830 0 (at_ 10001000
      (q7 0x45 13040 2000 (at_ 9999500 (chg (fun c => { c with restAt := 10000000, rise := some (12990, 2000) }) pack)))))))))

/-- Timeline GEY.1: the figures of R459 and the decision of R460 for 1900 mA. -/
theorem test_geyser_decision :
    (aft (exec .stepDecision packAtRest)).chg.iNext = some 1900 ∧ (aft (exec .stepDecision packAtRest)).chg.slope = -85714 := by
  decide +kernel

/-- The gauge of that worked case: 4225 mV per cell is 88.88 %, and the counter moves from 87.20 % to 87.27 %. -/
theorem test_gauge_short_rest : ocvToSoc pack 12675 = 8888 ∧ (shortRest 12675 400 pack).gau.soc = 8727 := by decide +kernel

/-- The provisioned ID that GETPID sends (R588), and the code of IDCODE (R80). -/
theorem test_identities :
    (port (aft (exec .getpid (i3c (fun c => { c with dynAddr := some 8 }) live))) 0).busOut = [0x05, 0x4C, 0x09, 0x60, 0x00, 0x0C] ∧
    (aft (exec (.captureDrScan 0 0) live)).tap.tdo.toNat % 2 ^ 32 = 0x20960A9B := by decide +kernel

/-- DEV_ID over the UART: 0960 0C10h, little-endian (Table HST.3). -/
theorem test_uart_reads_device_id : (port (aft (exec (.uartRegRead (onLine (byte 3 :: (leBytes 2 0x004 ++ leBytes 1 4)))) live)) 3).busOut = [0x10, 0x0C, 0x60, 0x09] := by decide +kernel

/-! ### Steps -/

/-- A step on one waiting command runs it and empties the queue; a step on an empty queue lets a microsecond pass. -/
theorem test_step : (aft (step (withQ .tapReset live))).pending = [] ∧ (aft (step (withQ .tapReset live))).clk.us = 0 ∧ (aft (step live)).clk.us = 1 := by
  decide +kernel

/-- No word spells a command (assumption 2). -/
theorem test_no_words : decodeTableWord 16 0 = none ∧ live.withFetchWord 16 0 = live := ⟨rfl, rfl⟩

/-! ### Witnesses -/

/-- The hypotheses of StepRunsFrontCommand and IdleStepPassesMicrosecond are met. -/
theorem wit_steps : (∃ (c : Instr) (rest : List Instr) (s : State), s.pending = c :: rest) ∧ (∃ s : State, s.pending = []) :=
  ⟨⟨.por, [], withQ .por live, rfl⟩, live, rfl⟩

/-- The hypotheses of StepKeepsMemoryCanonical are met, with a memory that lists something. -/
theorem wit_StepKeepsMemoryCanonical : ∃ s t : State, MemOk s ∧ step s = .next t ∧ s.mem ≠ [] :=
  ⟨{ live with mem := [(0x28000, 1)] }, idle { live with mem := [(0x28000, 1)] }, by decide +kernel, rfl, by decide +kernel⟩

/-- The hypothesis of CommandsChangeOnlyTheirParts is met. -/
theorem wit_CommandsChangeOnlyTheirParts : ∃ (c : Instr) (s t : State), exec c s = .next t := ⟨.tapReset, live, _, rfl⟩

/-- The hypotheses of each clause of PowerOnRecallAndReady are met. -/
theorem wit_PowerOnRecallAndReady :
    (∃ (mv : Nat) (s : State), mv < 2600) ∧
    (∃ (s : State), powered s = true) ∧
    (∃ (src : Nat) (mv : Nat) (batMv : Nat) (s : State), powered s = false ∧ wakes s src mv = true) ∧
    (∃ (bist : List (Nat × List Nat)) (levels : Nat) (ecc : List Int) (s : State), s.core.run = .booting ∧ s.core.recalled = false) ∧
    (∃ (bad : List Nat) (s : State), s.core.run = .booting ∧ Clocked s ∧ s.core.holdup = false) ∧
    (∃ (ecc : List Int) (s : State), fwWorks s = true ∧ s.core.nvReady = false) :=
  ⟨⟨2500, live, by decide +kernel⟩,
   ⟨live, by decide +kernel⟩,
   ⟨0, 0, 8000, core (fun c => { c with mode := .ship, run := .inReset }) State.reset, by decide +kernel⟩,
   ⟨[(3, [0, 1, 2])], 0, [], boot, by decide +kernel⟩,
   ⟨[], core (fun c => { c with run := .booting }) live, by decide +kernel⟩,
   ⟨[], core (fun c => { c with nvReady := false }) live, by decide +kernel⟩⟩

/-- The hypotheses of each clause of ClocksFailAndReturn are met. -/
theorem wit_ClocksFailAndReturn :
    (∃ (s : State), powered s = true ∧ s.clk.crystal = .qualifying) ∧
    (∃ (s : State), powered s = true ∧ s.clk.crystal = .qualifying) ∧
    (∃ (s : State), powered s = true ∧ s.clk.crystal = .inUse) ∧
    (∃ (s : State), powered s = true ∧ s.clk.pllLocked = true) ∧
    (∃ (s : State), powered s = true ∧ s.clk.pllLocked = false) :=
  ⟨⟨live, by decide +kernel⟩,
   ⟨live, by decide +kernel⟩,
   ⟨clk (fun c => { c with crystal := .inUse }) live, by decide +kernel⟩,
   ⟨live, by decide +kernel⟩,
   ⟨clk (fun c => { c with pllLocked := false }) live, by decide +kernel⟩⟩

/-- The hypotheses of each clause of HoldUpAndSupplyFoldback are met. -/
theorem wit_HoldUpAndSupplyFoldback :
    (∃ (mv : Nat) (resv : List Nat) (s : State), powered s = true ∧ s.core.holdup = false ∧ mv < 3800) ∧
    (∃ (mv : Nat) (s : State), powered s = true ∧ s.core.holdup = true ∧ 4200 ≤ mv) ∧
    (∃ (s : State), powered s = true ∧ s.core.vaux = true) ∧
    (∃ (s : State), powered s = true ∧ bmdOn s = true) ∧
    (∃ (s : State), powered s = true) :=
  ⟨⟨3799, [], live, by decide +kernel⟩,
   ⟨4200, core (fun c => { c with holdup := true }) live, by decide +kernel⟩,
   ⟨live, by decide +kernel⟩,
   ⟨live, by decide +kernel⟩,
   ⟨live, by decide +kernel⟩⟩

/-- The hypotheses of each clause of CoreResetsKeepTheHardware are met. -/
theorem wit_CoreResetsKeepTheHardware :
    (∃ (s : State), resettable s = true) ∧
    (∃ (s : State) (c : StartCause), resettable s = true ∧ s.core.resetDue = some c ∧ s.core.nreset = false) ∧
    (∃ (s : State), resettable s = true ∧ s.core.run = .running ∧ s.core.recalled = true) ∧
    (∃ (s : State), s.core.run = .inReset ∧ powered s = true ∧ s.core.nreset = false ∧ s.core.bistHalt = false ∧ bootSlot (bootCtl s).resets s ≠ none) ∧
    (∃ (s : State), s.core.run = .inReset ∧ powered s = true ∧ s.core.nreset = true) ∧
    (∃ (s : State), s.core.run = .heldByPin ∧ s.core.bistHalt = false ∧ bootSlot (bootCtl s).resets s ≠ none) ∧
    (∃ (s : State), s.core.run = .heldByPin ∧ s.core.bistHalt = true ∨ bootSlot (bootCtl s).resets s = none) :=
  ⟨⟨live, by decide +kernel⟩,
   ⟨core (fun c => { c with resetDue := some .coreReset }) live, .coreReset, by decide +kernel⟩,
   ⟨live, by decide +kernel⟩,
   ⟨core (fun c => { c with run := .inReset }) live, by decide +kernel⟩,
   ⟨core (fun c => { c with run := .inReset, nreset := true }) live, by decide +kernel⟩,
   ⟨core (fun c => { c with run := .heldByPin, nreset := true }) live, by decide +kernel⟩,
   ⟨core (fun c => { c with run := .heldByPin, nreset := true }) noBoot, by decide +kernel⟩⟩

/-- The hypotheses of each clause of ButtonWakeAndShip are met. -/
theorem wit_ButtonWakeAndShip :
    (∃ (high : Bool) (s : State), powered s = true ∧ s.core.shipEntry ≠ .begun ∧ high = true ∨ s.aon.btnHeld = false) ∧
    (∃ (began : Nat) (s : State), powered s = true ∧ s.core.shipEntry ≠ .begun ∧ 2 ≤ began ∧ s.core.mode = .run ∧ s.eng.run = none) ∧
    (∃ (n : Nat) (before : Nat) (s : State), powered s = true ∧ s.core.shipEntry ≠ .begun ∧ n < 4 ∧ bit (pn s 0x0102) (2 + n) = true) ∧
    (∃ (n : Nat) (before : Nat) (s : State), bit (wakeBits before s) (2 + n) = false) ∧
    (∃ (n : Nat) (before : Nat) (s : State), powered s = true ∧ s.core.shipEntry ≠ .begun ∧ n < 4 ∧ (∃ p ∈ s.core.wakePast.take before, bit p.1 (2 + n) = true)) ∧
    (∃ (s : State), s.core.shipEntry = .requested ∧ s.core.mode ≠ .service) ∧
    (∃ (late : List Nat) (s : State), s.core.shipEntry = .begun ∧ s.eng.run = none) :=
  ⟨⟨false, live, by decide +kernel⟩,
   ⟨2, md .run live, by decide +kernel⟩,
   ⟨0, 0, setN 0x0102 0 4 live, by decide +kernel⟩,
   ⟨0, 0, setN 0x0102 0 0 live, by decide +kernel⟩,
   ⟨0, 1, core (fun c => { c with wakePast := [(4, 0)] }) live, by decide +kernel⟩,
   ⟨core (fun c => { c with shipEntry := .requested }) live, by decide +kernel⟩,
   ⟨[], core (fun c => { c with shipEntry := .begun }) live, by decide +kernel⟩⟩

/-- The hypotheses of each clause of ModeAndTimeCommands are met. -/
theorem wit_ModeAndTimeCommands :
    (∃ (r : Req) (s : State), Accepted cmdModeRequest r [byte 2] s ∧ s.core.mode = .standby ∧ s.eng.run = none ∧ s.core.shipEntry ≠ .begun) ∧
    (∃ (r : Req) (s : State), Accepted cmdModeRequest r [byte 1] s ∧ s.core.mode = .run ∧ s.eng.run = none ∧ s.core.shipEntry ≠ .begun) ∧
    (∃ (r : Req) (s : State), Accepted cmdModeRequest r [byte 1] s ∧ s.core.mode = .standby ∧ runningTable s ≠ 0) ∧
    (∃ (r : Req) (s : State), Accepted (cmdModeRequestFor [byte 3]) r [byte 3] s ∧ s.core.mode = .standby ∧ s.eng.run = none ∧ s.core.shipEntry = .none) ∧
    (∃ (r : Req) (s : State), Accepted cmdShipArm r [byte 0] s ∧ s.core.shipEntry = .none ∧ anyQualified s = true) ∧
    (∃ (r : Req) (s : State), Accepted cmdShipArm r [byte 0] s ∧ s.core.shipEntry = .none ∧ anyQualified s = false ∧ s.inp.path ≠ .handover) ∧
    (∃ (r : Req) (s : State), Accepted cmdShipArm r [byte 1] s ∧ s.aon.armed = true) ∧
    (∃ (r : Req) (s : State), Accepted cmdCoreReset r [] s) ∧
    (∃ (r : Req) (rtc : Nat) (s : State), Accepted cmdTimeSet r (leBytes 4 rtc) s ∧ rtc < 2 ^ 32) ∧
    (∃ (r : Req) (s : State), Accepted cmdModeRequest r [byte 1] s ∧ runningTable s = 0 ∧ s.core.mode = .standby) ∧
    (∃ (r : Req) (s : State), Accepted cmdModeRequest r [byte 2] s ∧ runningTable s = 1 ∧ s.core.mode ≠ .ship) :=
  ⟨⟨rq, live, by decide +kernel⟩,
   ⟨rq, md .run live, by decide +kernel⟩,
   ⟨rq, live, by decide +kernel⟩,
   ⟨rq63, live63, by decide +kernel⟩,
   ⟨rq, inpt 1 (fun x => { x with st := .ready, present := true }) live, by decide +kernel⟩,
   ⟨rq, live, by decide +kernel⟩,
   ⟨rq, aon (fun x => { x with armed := true }) live, by decide +kernel⟩,
   ⟨rq, live, by decide +kernel⟩,
   ⟨rq, 5, live, by decide +kernel⟩,
   ⟨rq, wr (rn 0 (stp 5 0xFF 0 9) .waiting) live, by decide +kernel⟩,
   ⟨rq, wr (rn 1 (stp 5 0xFF 0 9) .waiting) (md .run live), by decide +kernel⟩⟩

/-- The hypotheses of each clause of TableStepsAct are met. -/
theorem wit_TableStepsAct :
    (∃ (s : State) (q : Run), Live s ∧ readyStep 1 s = some q) ∧
    (∃ (s : State) (q : Run), Live s ∧ readyStep 2 s = some q ∧ s.eng.bringWait = none) ∧
    (∃ (s : State) (q : Run), Live s ∧ readyStep 10 s = some q ∧ bit (stepArg q.step) 0 = true) ∧
    (∃ (s : State) (q : Run), Live s ∧ readyStep 10 s = some q ∧ bit (stepArg q.step) 0 = false) ∧
    (∃ (s : State) (q : Run), Live s ∧ readyStep 7 s = some q ∧ stepTarget q.step < 8) ∧
    (∃ (s : State) (q : Run), Live s ∧ readyStep 12 s = some q) ∧
    (∃ (s : State) (q : Run), Live s ∧ readyStep 11 s = some q) ∧
    (∃ (s : State) (q : Run), Live s ∧ readyStep 9 s = some q ∧ fromRecalled s = false) ∧
    (∃ (s : State) (q : Run), Live s ∧ readyStep 9 s = some q ∧ fromRecalled s = true ∧ stepTime q.step ≠ 0) ∧
    (∃ (s : State) (q : Run), Live s ∧ readyStep 8 s = some q ∧ present s (stepTarget q.step) = true ∧ (rail s (stepTarget q.step)).st = .on ∧
      pv s 0x0601 (stepTarget q.step) = 1 ∧ stepArg q.step % 8 ≠ 0) :=
  ⟨⟨wr (rn 2 (stp 1 3 0 0) .ready) (rl 3 id live), rn 2 (stp 1 3 0 0) .ready, by decide +kernel⟩,
   ⟨wr (rn 2 (stp 2 3 0 0) .ready) (rl 3 id live), rn 2 (stp 2 3 0 0) .ready, by decide +kernel⟩,
   ⟨wr (rn 2 (stp 10 3 1 0) .ready) (rl 3 id live), rn 2 (stp 10 3 1 0) .ready, by decide +kernel⟩,
   ⟨wr (rn 2 (stp 10 3 0 0) .ready) (rl 3 id live), rn 2 (stp 10 3 0 0) .ready, by decide +kernel⟩,
   ⟨wr (rn 2 (stp 7 3 1 0) .ready) live, rn 2 (stp 7 3 1 0) .ready, by decide +kernel⟩,
   ⟨wr (rn 2 (stp 12 3 1 0) .ready) live, rn 2 (stp 12 3 1 0) .ready, by decide +kernel⟩,
   ⟨wr (rn 2 (stp 11 3 1 0) .ready) live, rn 2 (stp 11 3 1 0) .ready, by decide +kernel⟩,
   ⟨wr (rn 2 (stp 9 3 1 0) .ready) (tags (fun x => { x with swept := true }) live), rn 2 (stp 9 3 1 0) .ready, by decide +kernel⟩,
   ⟨wr (rn 2 (stp 9 3 1 9) .ready) live, rn 2 (stp 9 3 1 9) .ready, by decide +kernel⟩,
   ⟨wr (rn 2 (stp 8 3 1 0) .ready) (setN 0x0601 3 1 (rl 3 (fun x => { x with st := .on }) live)), rn 2 (stp 8 3 1 0) .ready, by decide +kernel⟩⟩

/-- The hypotheses of each clause of TableStepsWaitAndEnd are met. -/
theorem wit_TableStepsWaitAndEnd :
    (∃ (s : State) (q : Run), Live s ∧ readyStep 3 s = some q ∧ members s (stepTarget q.step) ≠ [] ∧ (∀ r ∈ members s (stepTarget q.step), (rail s r).st ≠ .faultOff)) ∧
    (∃ (s : State) (q : Run), Live s ∧ readyStep 3 s = some q ∧ members s (stepTarget q.step) = []) ∧
    (∃ (s : State) (q : Run), Live s ∧ readyStep 4 s = some q ∧ members s (stepTarget q.step) ≠ []) ∧
    (∃ (s : State) (q : Run), Live s ∧ readyStep 5 s = some q) ∧
    (∃ (s : State) (q : Run), Live s ∧ readyStep 6 s = some q) ∧
    (∃ (s : State) (q : Run), Live s ∧ waitingRun s = some q ∧ stepOp q.step ≠ 9 ∧ waitHolds s q = true) ∧
    (∃ (s : State) (q : Run), Live s ∧ waitingRun s = some q ∧ waitHolds s q = false) ∧
    (∃ (s : State) (q : Run), Live s ∧ waitingRun s = some q ∧ stepOp q.step = 5) ∧
    (∃ (s : State) (q : Run), Live s ∧ waitingRun s = some q ∧ stepOp q.step = 3 ∧ pn s 0x0411 q.table = 2) ∧
    (∃ (s : State) (q : Run), Live s ∧ waitingRun s = some q ∧ stepOp q.step = 3 ∧ pn s 0x0411 q.table = 0 ∧ q.table ≠ 1 ∧ s.eng.reqPend = []) :=
  ⟨⟨wr (rn 2 (stp 3 3 0 9) .ready) (rl 3 id live), rn 2 (stp 3 3 0 9) .ready, by decide +kernel⟩,
   ⟨wr (rn 2 (stp 3 3 0 9) .ready) live, rn 2 (stp 3 3 0 9) .ready, by decide +kernel⟩,
   ⟨wr (rn 2 (stp 4 3 0 9) .ready) (rl 3 id live), rn 2 (stp 4 3 0 9) .ready, by decide +kernel⟩,
   ⟨wr (rn 2 (stp 5 0xFF 0 9) .ready) live, rn 2 (stp 5 0xFF 0 9) .ready, by decide +kernel⟩,
   ⟨wr (rn 2 (stp 6 0xFF 0 9) .ready) live, rn 2 (stp 6 0xFF 0 9) .ready, by decide +kernel⟩,
   ⟨wr (rn 2 (stp 3 3 0 9) .waiting) live, rn 2 (stp 3 3 0 9) .waiting, by decide +kernel⟩,
   ⟨wr (rn 2 (stp 5 0xFF 0 9) .waiting) live, rn 2 (stp 5 0xFF 0 9) .waiting, by decide +kernel⟩,
   ⟨wr (rn 2 (stp 5 0xFF 0 9) .waiting) live, rn 2 (stp 5 0xFF 0 9) .waiting, by decide +kernel⟩,
   ⟨wr (rn 2 (stp 3 3 0 9) .waiting) (setN 0x0411 2 2 live), rn 2 (stp 3 3 0 9) .waiting, by decide +kernel⟩,
   ⟨wr (rn 2 (stp 3 3 0 9) .waiting) (setN 0x0411 2 0 live), rn 2 (stp 3 3 0 9) .waiting, by decide +kernel⟩⟩

/-- The hypotheses of each clause of TableEndsChangeMode are met. -/
theorem wit_TableEndsChangeMode :
    (∃ (s : State) (q : Run), Live s ∧ readyStep 0 s = some q ∧ q.table = 0 ∧ s.core.mode = .standby ∧ s.core.shipEntry ≠ .begun ∧ s.eng.reqPend = []) ∧
    (∃ (s : State) (q : Run), Live s ∧ readyStep 0 s = some q ∧ q.table = 1 ∧ s.core.mode = .run ∧ s.core.shipEntry ≠ .begun ∧ s.core.serviceExit = .none ∧
      s.eng.reqPend = []) ∧
    (∃ (s : State) (q : Run), Live s ∧ readyStep 0 s = some q ∧ q.table = 2 ∨ q.table = 3 ∧ s.eng.reqPend = []) :=
  ⟨⟨wr (rn 0 (stp 0 0 0 0) .ready) live, rn 0 (stp 0 0 0 0) .ready, by decide +kernel⟩,
   ⟨wr (rn 1 (stp 0 0 0 0) .ready) (md .run live), rn 1 (stp 0 0 0 0) .ready, by decide +kernel⟩,
   ⟨wr (rn 2 (stp 0 0 0 0) .ready) (md .run live), rn 2 (stp 0 0 0 0) .ready, by decide +kernel⟩⟩

/-- The hypotheses of each clause of RailJudgementsAndRequests are met. -/
theorem wit_RailJudgementsAndRequests :
    (∃ (r : Nat) (ball : Bool) (mv : Int) (s : State), Live s ∧ present s r = true ∧ pgSource s r ball (windowAfter s r mv) = true ∧ (rail s r).st = .enabling) ∧
    (∃ (r : Nat) (mv : Int) (s : State), powered s = true ∧ r < 24 ∧ mv < pv s 0x040B r ∧ (rail s r).toffRun = true ∧ (rail s r).st = .disabling ∧
      s.eng.run.map (fun q => q.phase) ≠ some .unwinding) ∧
    (∃ (r : Nat) (also : List (Nat × Nat × Int)) (s : State), Live s ∧ (rail s r).tonRun = true ∧ (rail s r).en = true ∧ (rail s r).pg = false ∧ (∀ j ∈ s.eng.join,
      j.rail = r → j.time ≠ 0)) ∧
    (∃ (r : Nat) (also : List (Nat × Nat × Int)) (s : State), Live s ∧ r < 24 ∧ (rail s r).toffRun = true ∧ toffRaises s r = true) ∧
    (∃ (i : Nat) (up : Bool) (s : State) (f : Nat) (n : Nat), Live s ∧ s.eng.driven = true ∧ i < 8 ∧ vget s.eng.reqLevel i up ≠ up ∧ reqTable s i up = some (f, n) ∧
      s.eng.run = none ∧ reqHeld s n = false ∧ startAllowed s n = true) ∧
    (∃ (i : Nat) (up : Bool) (s : State) (f : Nat) (n : Nat), Live s ∧ s.eng.driven = true ∧ i < 8 ∧ vget s.eng.reqLevel i up ≠ up ∧ reqTable s i up = some (f, n) ∧
      s.eng.run ≠ none) ∧
    (∃ (r : Nat) (s : State) (prior : List Nat) (time : Nat), Live s ∧ present s r = true ∧ (rail s r).st = .joinPending ∧ (rail s r).en = false ∧
      s.eng.run = none ∧ s.eng.suspended = false ∧ joinPlan s r = some (prior, time) ∧ (∀ p ∈ prior, (rail s p).st = .on)) ∧
    (∃ (r : Nat) (s : State), Live s ∧ joins s r = true ∧ (rail s r).tonRaised = false) :=
  ⟨⟨3, true, 0, rl 3 (fun x => { x with st := .enabling, en := true }) live, by decide +kernel⟩,
   ⟨3, -1, rl 3 (fun x => { x with st := .disabling, toffRun := true }) live, by decide +kernel⟩,
   ⟨3, [], rl 3 (fun x => { x with st := .enabling, en := true, tonRun := true }) live, by decide +kernel⟩,
   ⟨3, [], rl 3 (fun x => { x with st := .disabling, toffRun := true }) live, by decide +kernel⟩,
   ⟨7, true, setN 0x0412 0 0x10000000 (eng (fun e => { e with driven := true }) live), 1, 0, by decide +kernel⟩,
   ⟨0, true, wr (rn 4 (stp 5 0xFF 0 9) .waiting) (setN 0x0412 0 1 (eng (fun e => { e with driven := true }) live)), 1, 0, by decide +kernel⟩,
   ⟨3, rl 3 (fun x => { x with st := .joinPending }) (eng (fun e => { e with active := vmod e.active 0 (fun _ => [stp 1 3 0 0, stp 3 3 0 9, stp 0 0 0 0]) }) (md .run live)),
     [], 9, by decide +kernel⟩,
   ⟨3, rl 3 (fun x => { x with st := .enabling, en := true }) (eng (fun e => { e with join := [{ rail := 3, time := 9 }] }) (md .run live)), by decide +kernel⟩⟩

/-- The hypotheses of each clause of RailCommands are met. -/
theorem wit_RailCommands :
    (∃ (r : Req) (k : Nat) (s : State), Accepted cmdRailForce r [byte k, byte 1] s ∧ k < 24 ∧ present s k = true ∧ (rail s k).st ≠ .parked ∧ (rail s k).st ≠ .faultOff) ∧
    (∃ (r : Req) (k : Nat) (s : State), Accepted cmdRailForce r [byte k, byte 0] s ∧ k < 24 ∧ present s k = true ∧ (rail s k).st ≠ .parked ∧ (rail s k).en = true ∧
      (rail s k).st ≠ .faultOff) ∧
    (∃ (r : Req) (k : Nat) (a : Nat) (s : State), Accepted cmdRailForce r [byte k, byte a] s ∧ k < 24 ∧ a < 256 ∧ present s k = true ∧ (rail s k).st = .parked) ∧
    (∃ (r : Req) (k : Nat) (s : State), Accepted cmdRailPark r [byte k, byte 1] s ∧ k < 24 ∧ present s k = true ∧ s.eng.run = none) ∧
    (∃ (r : Req) (k : Nat) (s : State), Accepted cmdRailPark r [byte k, byte 0] s ∧ k < 24 ∧ present s k = true ∧ s.eng.run = none ∧ (rail s k).st = .parked ∧
      s.core.mode ≠ .run) ∧
    (∃ (r : Req) (s : State), Accepted cmdRailState r [] s) ∧
    (∃ (r : Req) (k : Nat) (s : State), Accepted cmdRailPark r [byte k, byte 0] s ∧ k < 24 ∧ present s k = true ∧ s.eng.run = none ∧ (rail s k).st = .parked ∧
      s.core.mode = .run ∧ bit (pn (takeOcc .unpark (begun 0x0407 r s)) 0x0414) k = false) :=
  ⟨⟨rq, 23, rl 23 id (md .service live), by decide +kernel⟩,
   ⟨rq, 0, rl 0 (fun x => { x with st := .on, en := true }) (md .service live), by decide +kernel⟩,
   ⟨rq, 3, 1, rl 3 (fun x => { x with st := .parked }) (md .service live), by decide +kernel⟩,
   ⟨rq, 3, rl 3 id live, by decide +kernel⟩,
   ⟨rq, 3, rl 3 (fun x => { x with st := .parked }) live, by decide +kernel⟩,
   ⟨rq, live, by decide +kernel⟩,
   ⟨rq, 3, setN 0x0414 0 0 (md .run (rl 3 (fun x => { x with st := .parked }) live)), by decide +kernel⟩⟩

/-- The hypotheses of each clause of TableCommands are met. -/
theorem wit_TableCommands :
    (∃ (r : Req) (n : Nat) (s : State), Accepted cmdTableRun r [byte n] s ∧ 2 ≤ n ∧ n < 8 ∧ startAllowed s n = true ∧ s.eng.run = none) ∧
    (∃ (r : Req) (n : Nat) (s : State), Accepted cmdTableAbort r [byte n] s ∧ n < 8 ∧ n ≠ 1 ∧ runningTable s = n ∧ s.eng.run ≠ none ∧ s.eng.reqPend = []) ∧
    (∃ (r : Req) (n : Nat) (first : Nat) (count : Nat) (s : State), Accepted cmdTableRead r [byte n, byte first, byte count] s ∧ n < 8 ∧ first < 64 ∧ count < 64) ∧
    (∃ (r : Req) (n : Nat) (steps : List Bytes) (tbl : List Bytes) (s : State), Accepted cmdTableWrite r ([byte n, byte 0] ++ leBytes 1 steps.length ++ [byte 1] ++ steps.flatMap id) s ∧
      n < 8 ∧ r.persist = false ∧ (toSteps 30 (steps.flatMap id)).length ≤ 64 ∧ validTable s (toSteps 30 (steps.flatMap id)) = some tbl) ∧
    (∃ (r : Req) (s : State), Accepted cmdSeqStatus r [] s) ∧
    (∃ (r : Req) (s : State), Accepted cmdTableAbort r [byte 1] s) :=
  ⟨⟨rq, 2, md .run live, by decide +kernel⟩,
   ⟨rq, 2, wr (rn 2 (stp 5 0xFF 0 9) .waiting) (md .run live), by decide +kernel⟩,
   ⟨rq, 7, 63, 1, live, by decide +kernel⟩,
   ⟨rq, 2, [stp 0 0 0 0], [stp 0 0 0 0], live, by decide +kernel⟩,
   ⟨rq, live, by decide +kernel⟩,
   ⟨rq, md .run live, by decide +kernel⟩⟩

/-- The hypotheses of each clause of MarginSetAndLoop are met. -/
theorem wit_MarginSetAndLoop :
    (∃ (r : Req) (k : Nat) (mode : Nat) (s : State), Accepted cmdMarginSet r [byte k, byte mode] s ∧ k < 24 ∧ 0 < mode ∧ mode ≤ 4 ∧ present s k = true ∧
      pv s 0x0601 k ≠ 0 ∧ (rail s k).st = .on) ∧
    (∃ (r : Req) (k : Nat) (mode : Nat) (s : State), Accepted cmdMarginSet r [byte k, byte mode] s ∧ k < 24 ∧ mode ≤ 4 ∧ present s k = true ∧ pv s 0x0601 k ≠ 0 ∧
      (rail s k).st = .enabling) ∧
    (∃ (r : Req) (k : Nat) (s : State), Accepted cmdMarginStatus r [byte k] s ∧ k < 24) ∧
    (∃ (k : Nat) (s : State), Live s ∧ fwWorks s = true ∧ k < 24 ∧ (rail s k).margin.mode = 0 ∧ (rail s k).margin.driving = true) ∧
    (∃ (target : Int) (v : Int) (pol : Int) (max : Int) (m : MarginOut), m.settled = false ∧ (target - v).natAbs ≤ 3) ∧
    (∃ (target : Int) (v : Int) (pol : Int) (max : Int) (m : MarginOut), m.lastErr = 0 ∧ m.code.natAbs ≤ max) :=
  ⟨⟨rq, 23, 4, setN 0x0601 23 1 (rl 23 (fun x => { x with st := .on }) live), by decide +kernel⟩,
   ⟨rq, 3, 1, setN 0x0601 3 1 (rl 3 (fun x => { x with st := .enabling }) live), by decide +kernel⟩,
   ⟨rq, 3, live, by decide +kernel⟩,
   ⟨3, setN 0x0601 3 1 (rl 3 (fun x => { x with st := .on, margin := { x.margin with driving := true } }) live), by decide +kernel⟩,
   ⟨1000, 998, 1, 4000, (rail live 0).margin, by decide +kernel⟩,
   ⟨1000, 900, 1, 4000, (rail live 0).margin, by decide +kernel⟩⟩

/-- The hypotheses of each clause of DetectorsLatchFaults are met. -/
theorem wit_DetectorsLatchFaults :
    (∃ (r : Nat) (mv : Int) (also : List (Nat × Nat × Int)) (s : State), Live s ∧ r < 24 ∧ armed s 0x01 r = true ∧ (fastAfter s r mv).1 = true) ∧
    (∃ (r : Nat) (mv : Int) (also : List (Nat × Nat × Int)) (s : State), Live s ∧ r < 24 ∧ armed s 0x02 r = true ∧ (fastAfter s r mv).2 = true ∧
      fastInitAfter s r mv = false ∧ (∀ a ∈ also, a.1 = 0x06 → a.2.1 ≠ r)) ∧
    (∃ (v : Verify) (vs : List Verify) (code : Int) (s : State), Live s ∧ s.sup.verify = v :: vs ∧ v.ends ≤ cycle s) ∧
    (∃ (r : Nat) (ball : Bool) (mv : Int) (also : List (Nat × Nat × Int)) (s : State), Live s ∧ present s r = true ∧
      pgSource s r ball (windowAfter s r mv) = false ∧ (rail s r).st = .on ∧ (rail s r).pgArmed = true ∧ (∀ a ∈ also, a.1 = 0x06 → a.2.1 ≠ r)) ∧
    (∃ (r : Nat) (high : Bool) (also : List (Nat × Nat × Int)) (s : State), Live s ∧ present s r = true ∧ enDiffers s r high = true) ∧
    (∃ (r : Nat) (c1 : Int) (c2 : Int) (rest : List (Nat × Int × Int)) (s : State) (u : State), Clocked s ∧ s.sup.senseAt + 1000 * pn s 0x050D ≤ s.clk.us ∧
      u = takeOcc .check { s with sup := { s.sup with senseAt := s.clk.us } } ∧ pv u 0x050D ≠ 0 ∧ r < 24 ∧ sensable u r = true ∧ (∀ k,
      k < r → sensable u k = false) ∧ (senseCheckRail r c1 c2 u).1 = true) ∧
    (∃ (readings : List (Nat × Int × Int)) (s : State), s.clk.us < s.sup.senseAt + 1000 * pn s 0x050D) ∧
    (∃ (i : Nat) (mv : Nat) (also : List (Nat × Nat × Int)) (s : State), powered s = true ∧ i < 2 ∧ ovEff s i ≤ mv) ∧
    (∃ (i : Nat) (also : List (Nat × Nat × Int)) (s : State), powered s = true ∧ i < 2) ∧
    (∃ (also : List (Nat × Nat × Int)) (s : State), powered s = true) ∧
    (∃ (mv : Nat) (also : List (Nat × Nat × Int)) (s : State), Live s ∧ (mv : Int) < sysMin s) ∧
    (∃ (c : Nat) (also : List (Nat × Nat × Int)) (s : State), powered s = true ∧ 150 ≤ c ∧ s.sup.dieSeen = false) ∧
    (∃ (c : Nat) (s : State), powered s = true ∧ 130 ≤ c ∧ s.sup.dieSeen = true ∧ s.sup.dieHot = true) ∧
    (∃ (s : State), Live s ∧ resvIsLow s = true) :=
  ⟨⟨3, 100000, [], rl 3 (fun x => { x with st := .on, en := true }) live, by decide +kernel⟩,
   ⟨3, -100000, [], rl 3 (fun x => { x with st := .on, en := true }) live, by decide +kernel⟩,
   ⟨vf, [], 5, sup (fun x => { x with verify := [vf] }) (rl 3 id live), by decide +kernel⟩,
   ⟨3, false, 0, [], rl 3 (fun x => { x with st := .on, en := true, pgArmed := true }) live, by decide +kernel⟩,
   ⟨3, true, [], rl 3 id live, by decide +kernel⟩,
   ⟨3, 30000, 30000, [], at_ 2000 (setN 0x050D 0 1 (rl 3 (fun x => { x with st := .on, en := true, last := some 0 }) live)),
     takeOcc .check { (at_ 2000 (setN 0x050D 0 1 (rl 3 (fun x => { x with st := .on, en := true, last := some 0 }) live))) with sup := { (at_ 2000 (setN 0x050D 0 1 (rl 3 (fun x => { x with st := .on, en := true, last := some 0 }) live))).sup with senseAt := (at_ 2000 (setN 0x050D 0 1 (rl 3 (fun x => { x with st := .on, en := true, last := some 0 }) live))).clk.us } },
     by decide +kernel⟩,
   ⟨[], setN 0x050D 0 1 live, by decide +kernel⟩,
   ⟨1, 30000, [], live, by decide +kernel⟩,
   ⟨1, [], live, by decide +kernel⟩,
   ⟨[], live, by decide +kernel⟩,
   ⟨0, [], live, by decide +kernel⟩,
   ⟨150, [], rl 3 (fun x => { x with st := .on, en := true }) live, by decide +kernel⟩,
   ⟨130, sup (fun x => { x with dieSeen := true, dieHot := true }) live, by decide +kernel⟩,
   ⟨at_ 100000 live, by decide +kernel⟩⟩

/-- The hypotheses of each clause of FaultsRetryAndReport are met. -/
theorem wit_FaultsRetryAndReport :
    (∃ (r : Nat) (mv : Int) (s : State), Live s ∧ (rail s r).st = .faultOff ∧ (rail s r).en = false ∧ (rail s r).retryDue = true ∧
      conditionAbsent (seeFast r mv s) r = true ∧ s.eng.run = none ∧ severeLatched s = false ∧ s.core.shipEntry ≠ .begun) ∧
    (∃ (r : Nat) (s : State), Live s ∧ (rail s r).st = .on) ∧
    (∃ (s : State), Live s) ∧
    (∃ (s : State) (q : Report) (qs : List Report), Live s ∧ fwWorks s = true ∧ s.sup.reports = q :: qs ∧ awaitsValue s q = false) :=
  ⟨⟨3, 0, rl 3 (fun x => { x with st := .faultOff, retryDue := true }) live, by decide +kernel⟩,
   ⟨3, rl 3 (fun x => { x with st := .on, en := true, retryUsed := 2 }) live, by decide +kernel⟩,
   ⟨live, by decide +kernel⟩,
   ⟨sup (fun x => { x with reports := [(rep 5 3 (some 100))] }) live, rep 5 3 (some 100), [], by decide +kernel⟩⟩

/-- The hypotheses of each clause of FaultCommands are met. -/
theorem wit_FaultCommands :
    (∃ (r : Req) (first : Nat) (s : State), Accepted cmdFaultStatus r [byte first] s ∧ first < 256) ∧
    (∃ (r : Req) (s : State), Accepted cmdFaultClearAll r [byte 0] s) ∧
    (∃ (r : Req) (c : Nat) (k : Nat) (s : State), Accepted cmdFaultClearAll r [byte 1, byte c, byte k] s ∧ c < 256 ∧ k < 256) ∧
    (∃ (r : Req) (c : Nat) (k : Nat) (s : State), Accepted cmdFaultInject r [byte c, byte k] s ∧ c < 256 ∧ c ≠ 0x22 ∧ k < 256 ∧ injectOk s c k = true ∧
      (k < 24 → armed s c k = true)) ∧
    (∃ (r : Req) (m : Nat) (s : State), Accepted cmdSenseCheck r (leBytes 3 m) s) ∧
    (∃ (r : Req) (m : Nat) (s : State), Accepted cmdSenseCheck r (leBytes 3 m) s ∧ m < 2 ^ 24 ∧ (∀ k < 24, pn s 0x0509 k 0x09 ≤ 1)) ∧
    (∃ (r : Req) (m : Nat) (s : State) (q : SenseScan × State), Accepted cmdSenseCheck r (leBytes 3 m) s ∧ m < 2 ^ 24 ∧ senseScan m allRails { checked := [], opened := [], skipped := [], aborted := false, env := r.env } (begun 0x0503 r s) = q ∧
      q.1.aborted = false) :=
  ⟨⟨rq, 0, live, by decide +kernel⟩,
   ⟨rq, sup (fun x => { x with latches := [lt 5 3] }) live, by decide +kernel⟩,
   ⟨rq, 5, 3, sup (fun x => { x with latches := [lt 5 3] }) live, by decide +kernel⟩,
   ⟨rq, 5, 3, rl 3 (fun x => { x with st := .on, en := true, pgArmed := true }) (md .service live), by decide +kernel⟩,
   ⟨rq, 1, live, by decide +kernel⟩,
   ⟨rq, 1, live, by decide +kernel⟩,
   ⟨rq, 1, live, senseScan 1 allRails { checked := [], opened := [], skipped := [], aborted := false, env := [] } (begun 0x0503 rq live), by decide +kernel⟩⟩

/-- The hypotheses of each clause of CaptureRecordsFrames are met. -/
theorem wit_CaptureRecordsFrames :
    (∃ (codes : List Nat) (cut : Bool) (lag : Nat) (rivals : List (Nat × Nat × Bool)) (s : State), MemOk s ∧ Clocked s ∧ s.cap.pipeRuns = true ∧
      ringWritten s = true ∧ s.cap.ringIdx < 1024) ∧
    (∃ (codes : List Nat) (cut : Bool) (lag : Nat) (rivals : List (Nat × Nat × Bool)) (s : State), s.cap.pipeRuns = false) ∧
    (∃ (s : State) (c : Capture), MemOk s ∧ Clocked s ∧ supplyOk s 64 = true ∧ s.cap.cap = some c ∧ c.markerDone = false) ∧
    (∃ (s : State) (c : Capture), Clocked s ∧ s.cap.cap = some c ∧ s.cap.state = .post ∧ c.post ≤ c.after) ∧
    (∃ (bad : List (Nat × Nat)) (s : State) (c : Capture), MemOk s ∧ Clocked s ∧ s.cap.cap = some c ∧ s.cap.state = .committing ∧ c.started ≠ none) :=
  ⟨⟨[1, 2], false, 0, [], cap (fun x => { x with state := .armed, pipeRuns := true }) live, by decide +kernel⟩,
   ⟨[1, 2], false, 0, [], live, by decide +kernel⟩,
   ⟨nv (fun x => { x with resvMv := 14000 }) (cap (fun x => { x with state := .post, pipeRuns := true, cap := some cp }) live), cp, by decide +kernel⟩,
   ⟨cap (fun x => { x with state := .post, pipeRuns := true, cap := some cp }) live, cp, by decide +kernel⟩,
   ⟨[], cap (fun x => { x with state := .committing, cap := some ({ cp with started := some 6100, markerDone := true }) }) live, { cp with started := some 6100, markerDone := true },
     by decide +kernel⟩⟩

/-- The hypotheses of each clause of CaptureCommands are met. -/
theorem wit_CaptureCommands :
    (∃ (r : Req) (s : State), Accepted cmdCaptureTest r [] s ∧ s.cap.state = .armed) ∧
    (∃ (r : Req) (s : State), Accepted cmdCaptureTest r [] s ∧ s.cap.state ≠ .armed) ∧
    (∃ (r : Req) (s : State), MemOk s ∧ Accepted cmdCaptureClear r [] s ∧ s.cap.state = .held ∨ s.cap.state = .armed ∧ 6000 ≤ s.nv.resvMv) ∧
    (∃ (r : Req) (a : Nat) (n : Nat) (s : State), Accepted cmdCaptureRead r (leBytes 4 a ++ leBytes 1 n) s ∧ a < 0x10000 ∧ n < 256 ∧ r.env = [] ∧
      markerDue s = false ∧ (∀ w ∈ s.nv.badWords, ¬ (a < w * 8 + 8 ∧ w * 8 < a + n))) ∧
    (∃ (r : Req) (s : State), Accepted cmdCaptureStatus r [] s) ∧
    (∃ (r : Req) (s : State), Accepted cmdCaptureClear r [] s ∧ s.cap.state = .post ∨ s.cap.state = .committing ∨ s.cap.state = .recovering) ∧
    (∃ (r : Req) (s : State), MemOk s ∧ Accepted cmdCaptureClear r [] s ∧ s.cap.state = .disabled ∧ 6000 ≤ s.nv.resvMv) ∧
    (∃ (r : Req) (s : State), Accepted cmdCaptureClear r [] s ∧ s.cap.state = .held ∨ s.cap.state = .armed ∨ s.cap.state = .disabled ∧ supplyOk s 64 = false) ∧
    (∃ (r : Req) (a : Nat) (n : Nat) (w : Nat) (s : State), Accepted cmdCaptureRead r (leBytes 4 a ++ leBytes 1 n) s ∧ a < 0x10000 ∧ n < 256 ∧ markerDue s = false ∧
      w ∈ s.nv.badWords ∧ a < w * 8 + 8 ∧ w * 8 < a + n) :=
  ⟨⟨rq, cap (fun x => { x with state := .armed, pipeRuns := true }) live, by decide +kernel⟩,
   ⟨rq, live, by decide +kernel⟩,
   ⟨rq, nv (fun x => { x with resvMv := 6000 }) (cap (fun x => { x with state := .held }) live), by decide +kernel⟩,
   ⟨rq, 0xFFFF, 1, live, by decide +kernel⟩,
   ⟨rq, live, by decide +kernel⟩,
   ⟨rq, cap (fun x => { x with state := .post }) live, by decide +kernel⟩,
   ⟨rq, nv (fun x => { x with resvMv := 6000 }) (cap (fun x => { x with state := .disabled, missed := 3 }) live), by decide +kernel⟩,
   ⟨rq, cap (fun x => { x with state := .held }) live, by decide +kernel⟩,
   ⟨rq, 0xFFF8, 8, 0x1FFF, nv (fun x => { x with badWords := [0x1FFF] }) live, by decide +kernel⟩⟩

/-- The hypotheses of each clause of SlicesAndCalibration are met. -/
theorem wit_SlicesAndCalibration :
    (∃ (k : Nat) (m : Rotation) (s : State), Clocked s ∧ convRuns s = true ∧ k < 2 ∧ (converter s k).spareSt ≠ .permanent ∧ (converter s k).swapDue = false ∧
      calConv s ≠ some k ∧ rotationOk (catchUp (takeOcc (if k = 0 then .rotationSwa else .rotationSwb) s)) k m = true ∧
      qualifies (shadowSum (calibrated k m) (activeSlice s k 0) (m.live ++ m.dac)) = true ∨ qualifies (shadowSum (calibrated k m) (activeSlice s k 1) (m.liveNext ++ m.dacNext)) = true) ∧
    (∃ (k : Nat) (m : Rotation) (s : State), Clocked s ∧ convRuns s = true ∧ k < 2 ∧ (converter s k).spareSt ≠ .permanent ∧ (converter s k).swapDue = false ∧
      calConv s ≠ some k ∧ rotationOk (catchUp (takeOcc (if k = 0 then .rotationSwa else .rotationSwb) s)) k m = true ∧
      qualifies (shadowSum (calibrated k m) (activeSlice s k 0) (m.live ++ m.dac)) = false ∧
      qualifies (shadowSum (calibrated k m) (activeSlice s k 1) (m.liveNext ++ m.dacNext)) = false) ∧
    (∃ (k : Nat) (m : Rotation) (s : State), Clocked s ∧ convRuns s = true ∧ k < 2 ∧ (converter s k).spareSt ≠ .permanent ∧ (converter s k).swapDue = false ∧
      calConv s = some k ∧ rotationOk (catchUp (takeOcc (if k = 0 then .rotationSwa else .rotationSwb) s)) k m = true) ∧
    (∃ (k : Nat) (s : State), Clocked s ∧ k < 2 ∧ (converter s k).swapDue = true ∧ calConv s ≠ some k) ∧
    (∃ (r : Req) (ch : Nat) (kind : Nat) (v : Int) (s : State), Accepted cmdCalSystem r (leBytes 1 ch ++ leBytes 1 kind ++ zeros 2 ++ leInt 4 v) s ∧ ch < 256 ∧
      kind < 2 ∧ -2147483648 ≤ v ∧ v < 2147483648 ∧ s.msr.cal = none ∧ calState s ch kind = true ∧
      calReading (takeCodes (checkCount ch kind) r.env (catchUp (begun 0x0705 r s))).2 ch kind v (takeCodes (checkCount ch kind) r.env (catchUp (begun 0x0705 r s))).1 = true ∧
      (ch < 0x80 → (convOf s ch).spareSt ≠ .permanent)) ∧
    (∃ (r : Req) (ch : Nat) (kind : Nat) (v : Int) (s : State), Accepted cmdCalSystem r (leBytes 1 ch ++ leBytes 1 kind ++ zeros 2 ++ leInt 4 v) s ∧ ch < 256 ∧
      kind < 2 ∧ s.msr.cal ≠ none ∨ calState s ch kind = false) ∧
    (∃ (given : List Int) (xs : List Int) (fails : Bool) (c : CalRun) (s : State), Clocked s ∧ convRuns s = true ∧ s.msr.cal = some c ∧ c.written = none ∧
      calCodes c given = xs ∧ xs.length = 256 ∧ calRefusal (catchUp s) c xs (xs.map (calCode (catchUp s) c)) = none) ∧
    (∃ (given : List Int) (xs : List Int) (fails : Bool) (c : CalRun) (k : Nat) (s : State), Clocked s ∧ convRuns s = true ∧ s.msr.cal = some c ∧ c.written = none ∧
      calCodes c given = xs ∧ xs.length = 256 ∧ calRefusal (catchUp s) c xs (xs.map (calCode (catchUp s) c)) = some k) :=
  ⟨⟨0, rot0 0 0, at_ 1000 live, by decide +kernel⟩,
   ⟨1, rot0 1 9999, at_ 1000 live, by decide +kernel⟩,
   ⟨1, rot0 1 0, at_ 1000 (msr (fun m => { m with cal := some cal0 }) (md .service live)), by decide +kernel⟩,
   ⟨0, msr (fun m => { m with swa := { m.swa with swapDue := true } }) live, by decide +kernel⟩,
   ⟨rq63, 0x42, 0, 0, md .service live63, by decide +kernel⟩,
   ⟨rq63, 0x42, 0, 0, msr (fun m => { m with cal := some cal0 }) (md .service live63), by decide +kernel⟩,
   ⟨List.replicate 256 0, List.replicate 256 0, false, cal0, msr (fun m => { m with cal := some cal0 }) (md .service live), by decide +kernel⟩,
   ⟨List.replicate 256 0, List.replicate 256 0, false, { cal0 with lost := some 4 }, 4, msr (fun m => { m with cal := some { cal0 with lost := some 4 } }) live,
     by decide +kernel⟩⟩

/-- The hypotheses of each clause of FramesProduceRecords are met. -/
theorem wit_FramesProduceRecords :
    (∃ (q : Nat) (s : State), Live s ∧ takesTrigger (seqOf s q) 1 = true ∧ (seqOf s q).since + (seqOf s q).period ≤ s.clk.us) ∧
    (∃ (q : Nat) (s : State), Live s ∧ takesTrigger (seqOf (catchUp s) q) 3 = true ∧ lastIssued (seqOf (catchUp s) q) = true) ∧
    (∃ (line : Nat) (kind : Nat) (index : Nat) (falling : Bool) (s : State), Live s ∧ line < 4 ∧ 3 ≤ kind ∧ pn s 0x0712 line % 16 = kind ∧ line ∈ s.msr.due) ∧
    (∃ (line : Nat) (kind : Nat) (index : Nat) (falling : Bool) (s : State), Live s ∧ line < 4 ∧ kind = 1 ∨ kind = 2 ∧ pn s 0x0712 line % 16 = kind ∧
      pn s 0x0712 line / 16 % 256 = index ∧ bit (pn s 0x0712 line) 13 = true ∨ bit (pn s 0x0712 line) 12 = falling) ∧
    (∃ (q : Nat) (s : State), lastIssued (seqOf (catchUp s) q) = false) ∧
    (∃ (q : Nat) (s : State) (u : State), q < 8 ∧ lastIssued (seqOf (catchUp s) q) = true ∧ convRuns s = true ∧
      frameTake q (countTrigger (seqConv s q) (catchUp s)) = u ∧ lacksRoom u (pb u 0x0706 q) (seqConv s q) = none) ∧
    (∃ (q : Nat) (codes : List Int) (pair : List Int) (also : List (Nat × Nat × Int)) (f : Frame) (fs : List Frame) (s : State), Clocked s ∧
      (seqOf (catchUp s) q).frames = f :: fs ∧ codesOk (seqConv s q) f codes pair = true ∧ (entryJobs (catchUp s) (seqConv s q) q f).length = codes.length ∧
      (∀ j ∈ entryJobs (catchUp s) (seqConv s q) q f, j.ends ≤ cycle s) ∧
      tsDecided (catchUp s) (byteAt (descEntry f.desc f.next) 0) (entryJobs (catchUp s) (seqConv s q) q f) = true ∧ f.next + 1 < descCount f.desc ∧
      f.number ∉ fs.map (fun g => g.number)) ∧
    (∃ (q : Nat) (codes : List Int) (pair : List Int) (also : List (Nat × Nat × Int)) (f : Frame) (fs : List Frame) (s : State), Clocked s ∧
      (seqOf (catchUp s) q).frames = f :: fs ∧ codesOk (seqConv s q) f codes pair = true ∧ (entryJobs (catchUp s) (seqConv s q) q f).length = codes.length ∧
      (∀ j ∈ entryJobs (catchUp s) (seqConv s q) q f, j.ends ≤ cycle s) ∧
      tsDecided (catchUp s) (byteAt (descEntry f.desc f.next) 0) (entryJobs (catchUp s) (seqConv s q) q f) = true ∧ descCount f.desc ≤ f.next + 1 ∧
      f.number ∉ fs.map (fun g => g.number)) ∧
    (∃ (d : Nat) (a : Nat) (n : Nat) (b : Bytes) (bs : List (Nat × Bytes)) (rivals : List (Nat × Bool)) (s : State), MemOk s ∧ Clocked s ∧ s.core.holdup = false ∧
      (ringOf s d).attached = true ∧ flipped s ((ringOf s d).cb + 4) 4 = false ∧ (ringOf s d).queue = (n, b) :: bs ∧ waitsFrame s d n = false ∧
      a = spBase + (ringOf s d).bank * 0x1000 + (ringOf s d).produced % (ringOf s d).size ∧ a + b.length ≤ spBase + 0x40000 ∧
      (ringOf s d).cb + 16 ≤ a ∨ a + b.length ≤ (ringOf s d).cb) ∧
    (∃ (d : Nat) (rivals : List (Nat × Bool)) (s : State), Clocked s ∧ s.core.holdup = false ∧ d < 4 ∧ (ringOf s d).attached = true ∧ (ringOf s d).queue ≠ []) ∧
    (∃ (k : Nat) (s : State), Live s ∧ k < 8 ∧ pn s 0x070F k ≠ 0 ∧ vget s.msr.tripped k false = false) ∧
    (∃ (k : Nat) (s : State), Live s ∧ k < 8) :=
  ⟨⟨1, sq 1 (fun x => { x with running := true, mode := 1 }) live, by decide +kernel⟩,
   ⟨1, sq 1 (fun x => { x with running := true, mode := 3 }) live, by decide +kernel⟩,
   ⟨0, 3, 5, false, msr (fun m => { m with due := [0] }) (setN 0x0712 0 0x0053 (setN 0x0707 1 2 (sq 1 (fun x => { x with running := true, mode := 2 }) live))),
     by decide +kernel⟩,
   ⟨0, 1, 5, false, setN 0x0712 0 0x2051 (setN 0x0707 1 2 (sq 1 (fun x => { x with running := true, mode := 2 }) live)), by decide +kernel⟩,
   ⟨1, sq 1 (fun x => { x with frames := [{ fr 0 with at_ := 8 }] }) live, by decide +kernel⟩,
   ⟨1, live, frameTake 1 (countTrigger (seqConv live 1) (catchUp live)), by decide +kernel⟩,
   ⟨1, [5], [], [], { fr 0 with entry := 2 }, [], at_ 1000 (sq 1 (fun x => { x with running := true, frames := [fr 0] }) live), by decide +kernel⟩,
   ⟨1, [5], [], [], { fr 1 with entry := 2 }, [], at_ 1000 (sq 1 (fun x => { x with running := true, frames := [fr 1] }) live), by decide +kernel⟩,
   ⟨0, 0x2000A000, 0, zeros 8, [], [], rg 0 (fun x => { x with attached := true, bank := 10, size := 4096, cb := 0x2000C000, queue := [(0, zeros 8)] }) live,
     by decide +kernel⟩,
   ⟨0, [], rg 0 (fun x => { x with attached := true, bank := 10, size := 4096, cb := 0x2000C000, queue := [(0, zeros 8)] }) live, by decide +kernel⟩,
   ⟨0, setN 0x070F 0 1 (msr (fun m => { m with tripped := vmod m.tripped 0 (fun _ => false) }) live), by decide +kernel⟩,
   ⟨0, live, by decide +kernel⟩⟩

/-- The hypotheses of each clause of MeasurementCommands are met. -/
theorem wit_MeasurementCommands :
    (∃ (r : Req) (m : Nat) (s : State), Accepted cmdSeqStart r [byte m] s ∧ m < 0x40 ∧ (∀ q < 8, bit m q = true → byteAt (pCommitted s.par { id := 0x0706, i1 := q, i2 := 0 }).bytes 0 ≠ 0)) ∧
    (∃ (r : Req) (m : Nat) (s : State), Accepted cmdSeqStop r [byte m] s ∧ m < 0x40) ∧
    (∃ (r : Req) (k : Nat) (s : State), Accepted cmdTriggerFire r [byte (2 ^ k)] s ∧ k < 4) ∧
    (∃ (r : Req) (ch : Nat) (cfg : Nat) (n : Nat) (s : State), Accepted cmdConvertNow r [byte ch, byte cfg, byte n] s ∧ ch < 256 ∧ convRuns s = true ∧
      (isSwb ch = true → pairRuns (catchUp (begun 0x0700 r s)) = false)) ∧
    (∃ (r : Req) (ch : Nat) (cfg : Nat) (n : Nat) (s : State), Accepted cmdConvertNow r [byte ch, byte cfg, byte n] s ∧ ch < 256 ∧
      convRuns s = false ∨ (isSwb ch = true ∧ pairRuns (catchUp (begun 0x0700 r s)) = true)) ∧
    (∃ (r : Req) (d : Nat) (cb : Nat) (s : State), MemOk s ∧ Accepted cmdRingAttach r ([byte d, byte 0] ++ leBytes 4 cb ++ [byte 0xFF, byte 0]) s ∧ d < 4 ∧
      cb < 2 ^ 32 ∧ (ringOf s d).attached = false ∧ pn s 0x070A d ≠ 0xFF ∧ cb % 16 = 0 ∧ spBase + 0x8000 ≤ cb ∧ cb < spBase + 0x34000 ∧
      (∀ k ∈ spanOf (pn s 0x070A d) (pn s 0x0709 d), 8 ≤ k ∧ k ≤ 51) ∧ ¬ (spBase + pn s 0x070A d * 0x1000 ≤ cb ∧
      cb < spBase + pn s 0x070A d * 0x1000 + pn s 0x0709 d) ∧ ownsAll s r.tenant (spanOf (pn s 0x070A d) (pn s 0x0709 d) ++ [bankAt cb]) = true ∧
      (spanOf (pn s 0x070A d) (pn s 0x0709 d) ++ [bankAt cb]).any (delegatesFull s (0x83 + d)) = false) ∧
    (∃ (r : Req) (d : Nat) (cb : Nat) (s : State), Accepted cmdRingAttach r ([byte d, byte 0] ++ leBytes 4 cb ++ [byte 0xFF, byte 0]) s ∧ d < 4 ∧ cb < 2 ^ 32 ∧
      (ringOf s d).attached = false ∧ pn s 0x070A d ≠ 0xFF ∧ cb % 16 = 0 ∧ spBase ≤ cb ∧ cb < spBase + 0x40000 ∧ (∀ k ∈ spanOf (pn s 0x070A d) (pn s 0x0709 d),
      8 ≤ k ∧ k ≤ 51) ∧ ¬ (spBase + pn s 0x070A d * 0x1000 ≤ cb ∧ cb < spBase + pn s 0x070A d * 0x1000 + pn s 0x0709 d) ∧
      ownsAll s r.tenant (spanOf (pn s 0x070A d) (pn s 0x0709 d) ++ [bankAt cb]) = false) ∧
    (∃ (r : Req) (d : Nat) (cb : Nat) (s : State), Accepted cmdRingAttach r ([byte d, byte 1] ++ leBytes 4 cb ++ [byte 0xFF, byte 0]) s ∧ d < 4 ∧
      (ringOf s d).attached = true ∧ (ringOf s d).tenant ≠ r.tenant) ∧
    (∃ (r : Req) (d : Nat) (cb : Nat) (s : State), Accepted cmdRingAttach r ([byte d, byte 1] ++ leBytes 4 cb ++ [byte 0xFF, byte 0]) s ∧ d < 4 ∧
      (ringOf s d).attached = true ∧ (ringOf s d).tenant = r.tenant) ∧
    (∃ (r : Req) (k : Nat) (i : Nat) (s : State), Accepted cmdRingStatus r [byte k, byte i] s ∧ k < 2) :=
  ⟨⟨rq, 1, setP 0x0706 0 (.blob (fr 0).desc) live, by decide +kernel⟩,
   ⟨rq, 1, live, by decide +kernel⟩,
   ⟨rq, 3, live, by decide +kernel⟩,
   ⟨rq, 0x10, 0, 1, live, by decide +kernel⟩,
   ⟨rq, 0x10, 0, 1, clk (fun c => { c with pllLocked := false }) live, by decide +kernel⟩,
   ⟨rq, 0, 0x2000C000, setN 0x0709 0 4096 (setN 0x070A 0 10 (bk 10 (fun b => { b with st := .owned, owner := 0 }) (bk 12 (fun b => { b with st := .owned, owner := 0 }) live))),
     by decide +kernel⟩,
   ⟨rq, 0, 0x2000C000, setN 0x0709 0 4096 (setN 0x070A 0 10 (own 10 live)), by decide +kernel⟩,
   ⟨rq, 0, 0x2000C000, rg 0 (fun x => { x with attached := true, tenant := 5 }) live, by decide +kernel⟩,
   ⟨rq, 0, 0x2000C000, rg 0 (fun x => { x with attached := true, tenant := 0 }) live, by decide +kernel⟩,
   ⟨rq, 0, 0, live, by decide +kernel⟩⟩

/-- The hypotheses of each clause of SweepsAndPolls are met. -/
theorem wit_SweepsAndPolls :
    (∃ (s : State), Clocked s ∧ periodDue s = true ∧ s.tags.open_ = false) ∧
    (∃ (recs : List Bytes) (also : List (Nat × Nat × Int)) (s : State), Clocked s ∧ s.tags.flight = .sweep ∧ (∀ b ∈ recs.take 8, recordOk b = true)) ∧
    (∃ (recs : List Bytes) (also : List (Nat × Nat × Int)) (s : State), Clocked s ∧ s.tags.flight = .sweep ∧ (∃ b ∈ recs.take 8, recordOk b = false)) ∧
    (∃ (recs : List Bytes) (also : List (Nat × Nat × Int)) (s : State), Clocked s ∧ s.tags.flight = .sweep ∧ frameOver s = true) ∧
    (∃ (b : Bytes) (h : Nat) (also : List (Nat × Nat × Int)) (s : State), Clocked s ∧ s.tags.flight = .locA h ∧ h < 7 ∧ recordOk b = true) ∧
    (∃ (h : Nat) (s : State), Clocked s ∧ tagsRun s = true ∧ s.tags.flight = .locA h ∧ h < 8 ∧ frameOver s = true) ∧
    (∃ (h : Nat) (also : List (Nat × Nat × Int)) (s : State), Clocked s ∧ s.tags.flight = .stubA h ∧ h < 8 ∧ frameOver s = true) ∧
    (∃ (hop : Nat) (s : State), Clocked s ∧ tagsRun s = true ∧ s.tags.flight = .bridge) ∧
    (∃ (s : State), Clocked s ∧ periodDue s = true ∧ s.tags.open_ = true ∧ 0 < s.tags.reachA) :=
  ⟨⟨live, by decide +kernel⟩,
   ⟨[], [], tags (fun x => { x with flight := .sweep }) live, by decide +kernel⟩,
   ⟨[zeros 8 ++ [byte 1]], [], tags (fun x => { x with flight := .sweep }) live, by decide +kernel⟩,
   ⟨[], [], at_ 100000 (tags (fun x => { x with flight := .sweep }) live), by decide +kernel⟩,
   ⟨zeros 9, 0, [], tags (fun x => { x with flight := .locA 0 }) live, by decide +kernel⟩,
   ⟨0, at_ 100000 (tags (fun x => { x with flight := .locA 0 }) live), by decide +kernel⟩,
   ⟨7, [], at_ 100000 (tags (fun x => { x with flight := .stubA 7 }) live), by decide +kernel⟩,
   ⟨3, tags (fun x => { x with flight := .bridge }) live, by decide +kernel⟩,
   ⟨tags (fun x => { x with open_ := true, reachA := 1 }) live, by decide +kernel⟩⟩

/-- The hypotheses of each clause of TagCommands are met. -/
theorem wit_TagCommands :
    (∃ (k : Nat) (s : State), Live s ∧ s.eng.run = none ∧ s.tags.held = [{ rail := k, park := true }] ∧ present s k = true) ∧
    (∃ (s : State), s.eng.run ≠ none) ∧
    (∃ (r : Req) (s : State), Accepted cmdTagsSweep r [] s ∧ tagsRun s = true ∧ s.tags.flight = .idle) ∧
    (∃ (r : Req) (s : State), Accepted cmdTagsSweep r [] s ∧ tagsRun s = true ∧ s.tags.flight ≠ .idle) ∧
    (∃ (r : Req) (s : State), Accepted cmdTagsStatus r [] s) ∧
    (∃ (r : Req) (s : State), Accepted cmdRingDiagnose r [] s) :=
  ⟨⟨3, rl 3 id (tags (fun x => { x with held := [{ rail := 3, park := true }] }) live), by decide +kernel⟩,
   ⟨wr (rn 2 (stp 5 0xFF 0 9) .waiting) live, by decide +kernel⟩,
   ⟨rq, live, by decide +kernel⟩,
   ⟨rq, tags (fun x => { x with flight := .sweep }) live, by decide +kernel⟩,
   ⟨rq, live, by decide +kernel⟩,
   ⟨rq, live, by decide +kernel⟩⟩

/-- The hypotheses of each clause of InputsComeAndGo are met. -/
theorem wit_InputsComeAndGo :
    (∃ (i : Nat) (mv : Nat) (s : State), powered s = true ∧ i < 2 ∧ 4200 ≤ mv ∧ s.core.mode ≠ .ship ∧ input s i = noInput ∧ s.inp.path ≠ .handover) ∧
    (∃ (mv : Nat) (s : State), powered s = true ∧ mv ≤ 3900 ∧ s.core.mode ≠ .ship ∧ (input s 1).present = true ∧ (input s 1).disabled = false ∧
      (input s 1).faulted = false ∧ s.inp.active ≠ some 1) ∧
    (∃ (i : Nat) (v : Int) (s : State), powered s = true ∧ i < 2 ∧ qualDone s i = true ∧ s.core.mode ≠ .ship ∧ s.core.shipEntry ≠ .begun ∧ vocNow s i = some v ∧
      (i = 0 → s.inp.contract = none)) ∧
    (∃ (i : Nat) (mv : Int) (iin : Int) (s : State), Live s ∧ s.inp.active = some i ∧ batteryValid s = true ∧ belowLoss s i mv = true ∨ iin < -200) ∧
    (∃ (low : Nat) (s : State), Live s ∧ s.inp.path = .handover) ∧
    (∃ (i : Nat) (mv : Nat) (s : State), powered s = true ∧ i < 2 ∧ (input s i).faulted = true ∧ (input s i).st = .blocked ∧ (input s i).disabled = false ∧
      4200 ≤ mv ∧ (mv : Int) < ovEff s i - 500) :=
  ⟨⟨1, 4200, live, by decide +kernel⟩,
   ⟨3900, inpt 1 (fun x => { x with st := .debounce, present := true, mv := 5000 }) live, by decide +kernel⟩,
   ⟨0, 5000, q7 0x40 5000 0 (inpt 0 (fun x => { x with st := .debounce, present := true, mv := 5000, due := some 0 }) live), by decide +kernel⟩,
   ⟨0, 3000, 0, inpt 0 (fun x => { x with st := .settled, present := true }) (inp (fun x => { x with active := some 0, path := .source }) live), by decide +kernel⟩,
   ⟨8000, inp (fun x => { x with path := .handover }) live, by decide +kernel⟩,
   ⟨1, 4200, inpt 1 (fun x => { x with st := .blocked, present := true, faulted := true }) live, by decide +kernel⟩⟩

/-- The hypotheses of each clause of UsbPortAndContracts are met. -/
theorem wit_UsbPortAndContracts :
    (∃ (rp : Nat) (dbg : Bool) (s : State), powered s = true ∧ s.inp.tc < 2) ∧
    (∃ (s : State), powered s = true) ∧
    (∃ (rp : Nat) (s : State), powered s = true ∧ 2 ≤ s.inp.tc ∧ s.inp.contract = none) ∧
    (∃ (os : List (BitVec 32)) (s : State), powered s = true ∧ s.inp.tc = 2 ∧ fwWorks s = true ∧ os ≠ []) ∧
    (∃ (r : Contract) (s : State), powered s = true ∧ s.inp.tc = 2 ∧ fwWorks s = true ∧ s.inp.request = some r) ∧
    (∃ (r : Contract) (o : Nat) (s : State), powered s = true ∧ s.inp.tc = 2 ∧ fwWorks s = true ∧ s.inp.request = some r ∧ s.inp.oldMa = some o) ∧
    (∃ (s : State), Live s ∧ fwWorks s = true ∧ s.inp.settling = true ∧ s.inp.psAt + 10000 ≤ s.clk.us) ∧
    (∃ (s : State), powered s = true ∧ s.inp.tc = 2) ∧
    (∃ (s : State), Live s ∧ fwWorks s = true ∧ s.inp.tc = 2 ∧ s.inp.caps = [] ∧ s.inp.silent = false ∧ s.inp.hardResets < 2) ∧
    (∃ (s : State), Live s ∧ fwWorks s = true ∧ s.inp.tc = 2 ∧ s.inp.caps = [] ∧ s.inp.silent = false ∧ ¬ s.inp.hardResets < 2) ∧
    (∃ (a : BitVec 32) (b : BitVec 32) (s : State), powered s = true ∧ s.inp.tc = 2 ∧ fwWorks s = true ∧ s.inp.contract ≠ none ∧ bit (pn s 0x0A09) 5 = true) ∧
    (∃ (c : Contract) (s : State), Live s ∧ fwWorks s = true ∧ s.inp.contract = some c ∧ c.kind = 2 ∧ s.inp.reqAt + 8000000 ≤ s.clk.us) ∧
    (∃ (s : State), powered s = true ∧ s.inp.tc = 2 ∧ fwWorks s = true) ∧
    (∃ (s : State), powered s = true ∧ s.inp.tc = 2 ∧ fwWorks s = false ∧ s.inp.pdQueue.length < 4) ∧
    (∃ (m : Bool) (s : State), powered s = true ∧ s.inp.tc ≠ 2) :=
  ⟨⟨1, false, live, by decide +kernel⟩,
   ⟨usb, by decide +kernel⟩,
   ⟨2, usb, by decide +kernel⟩,
   ⟨[0x0001912C], usb, by decide +kernel⟩,
   ⟨con5, inp (fun x => { x with request := some con5 }) usb, by decide +kernel⟩,
   ⟨con5, 500, inp (fun x => { x with request := some con5, oldMa := some 500 }) usb, by decide +kernel⟩,
   ⟨at_ 10000 (inp (fun x => { x with settling := true }) usb), by decide +kernel⟩,
   ⟨inp (fun x => { x with contract := some con5 }) usb, by decide +kernel⟩,
   ⟨usb, by decide +kernel⟩,
   ⟨inp (fun x => { x with hardResets := 2 }) usb, by decide +kernel⟩,
   ⟨0x1234, 0x56780000, setN 0x0A09 0 0x30 (inp (fun x => { x with contract := some con5 }) usb), by decide +kernel⟩,
   ⟨{ con5 with kind := 2 }, at_ 8000000 (inp (fun x => { x with contract := some ({ con5 with kind := 2 }) }) usb), by decide +kernel⟩,
   ⟨usb, by decide +kernel⟩,
   ⟨core (fun c => { c with ready := false }) usb, by decide +kernel⟩,
   ⟨true, live, by decide +kernel⟩⟩

/-- The hypotheses of each clause of SearchFollowsSource are met. -/
theorem wit_SearchFollowsSource :
    (∃ (v : Int) (a : Int) (bk : Bool) (i : Nat) (s : State), Live s ∧ s.par.waiting = [] ∧ i < 2 ∧ activeIn .search s = some i ∧
      spanPassed s (1000 * pn s 0x0A06) = true ∧ meanV (lastPairs s (0x40 + i) 5000) = some v ∧ meanI (lastPairs s (0x40 + i) 5000) = some a ∧
      (s.inp.search.lim : Int) - 50 ≤ a ∧ s.inp.search.waiting = false ∧ collapses s i s.inp.search.prev v a bk = true) ∧
    (∃ (v : Int) (a : Int) (bk : Bool) (s : State), Live s ∧ s.par.waiting = [] ∧ activeIn .search s = some 0 ∧ spanPassed s (1000 * pn s 0x0A06) = true ∧
      meanV (lastPairs s 0x40 5000) = some v ∧ meanI (lastPairs s 0x40 5000) = some a ∧ (s.inp.search.lim : Int) - 50 ≤ a ∧ s.inp.search.waiting = false ∧
      collapses s 0 s.inp.search.prev v a bk = false ∧ s.inp.search.lim < capFor (stepSafe s) 0) ∧
    (∃ (v0 : Int) (a0 : Int) (bk : Bool) (s : State) (u : State), Live s ∧ s.par.waiting = [] ∧ activeIn .settled s = some 0 ∧ s.inp.search.trying = none ∧
      spanPassed s (1000000 * pn s 0x0A07) = true ∧ pn s 0x0A07 ≠ 0 ∧ tryMeans s 0 = some (v0, a0) ∧ u = stepSafe (takeOcc .creepTry (fromNow s))) ∧
    (∃ (v0 : Int) (a0 : Int) (v : Int) (a : Int) (bk : Bool) (l : Nat) (i : Nat) (s : State), Live s ∧ s.par.waiting = [] ∧ i < 2 ∧ activeIn .settled s = some i ∧
      s.inp.search.trying = some (l, v0, a0) ∧ spanPassed s (1000 * pn s 0x0A06) = true ∧ meanV (lastPairs s (0x40 + i) 5000) = some v ∧
      meanI (lastPairs s (0x40 + i) 5000) = some a) ∧
    (∃ (p : Int) (old : Int) (i : Nat) (s : State), Live s ∧ activeIn .panel s = some i ∧ spanPassed s 200000 = true ∧
      meanOf (lastPairs s (0x40 + i) 50000) (fun x => x.v * x.i) 1 = some p ∧ pv (stepSafe s) 0x0A08 ≠ 0 ∧ s.inp.panelPower = some old) ∧
    (∃ (v : Int) (i : Nat) (s : State), Live s ∧ i < 2 ∧ activeIn .panel s = some i ∧ batteryValid s = true ∧ s.inp.vocAt + 600000000 ≤ s.clk.us ∧ vocNow s i = some v) :=
  ⟨⟨5000, 450, true, 0, q7 0x40 5000 450 (at_ 1000000 (setN 0x0A02 0 3000 (inp (fun x => { x with contract := some con5 }) (srch 0)))), by decide +kernel⟩,
   ⟨5000, 450, false, q7 0x40 5000 450 (at_ 1000000 (setN 0x0A02 0 3000 (inp (fun x => { x with contract := some con5 }) (srch 0)))), by decide +kernel⟩,
   ⟨5000, 450, false, crp0, stepSafe (takeOcc .creepTry (fromNow crp0)), by decide +kernel⟩,
   ⟨5000, 400, 5000, 450, true, 400, 0,
     q7 0x40 5000 450 (at_ 1000000 (inpt 0 (fun x => { x with st := .settled }) (inp (fun x => { x with search := { x.search with trying := some (400, 5000, 400) } }) (setN 0x0A02 0 3000 (inp (fun x => { x with contract := some con5 }) (srch 0)))))),
     by decide +kernel⟩,
   ⟨100, 50, 1, q7 0x41 50 1 (at_ 200000 (setN 0x0A08 0 1 (inp (fun x => { x with panelPower := some 50 }) (inpt 1 (fun x => { x with st := .panel }) (srch 1))))),
     by decide +kernel⟩,
   ⟨6000, 1, q7 0x41 6000 0 (at_ 600000000 (inpt 1 (fun x => { x with st := .panel }) (srch 1))), by decide +kernel⟩⟩

/-- The hypotheses of each clause of BudgetsAndIntervals are met. -/
theorem wit_BudgetsAndIntervals :
    (∃ (g : Nat) (s : State), Live s) ∧
    (∃ (s : State), Live s ∧ fwWorks s = true) ∧
    (∃ (s : State), Live s ∧ fwWorks s = true ∧ s.inp.override_ ≠ none ∧ overrideClass s = none) ∧
    (∃ (s : State), Live s ∧ fwWorks s = true ∧ s.bg.restored = true ∧ intervalDue s = true) :=
  ⟨⟨5, live, by decide +kernel⟩,
   ⟨live, by decide +kernel⟩,
   ⟨inp (fun x => { x with override_ := some (1, 0) }) live, by decide +kernel⟩,
   ⟨aon (fun x => { x with rtc := 1000000 }) (bg (fun b => { b with restored := true }) live), by decide +kernel⟩⟩

/-- The hypotheses of each clause of IntakeCommands are met. -/
theorem wit_IntakeCommands :
    (∃ (r : Req) (s : State), Accepted cmdIntakeStatus r [] s) ∧
    (∃ (r : Req) (i : Nat) (s : State), Accepted cmdIntakePolicy r [byte 0, byte i] s ∧ i < 2 ∧ s.inp.active ≠ some i) ∧
    (∃ (r : Req) (i : Nat) (s : State), Accepted cmdIntakePolicy r [byte 0, byte i] s ∧ i < 2 ∧ s.inp.active = some i ∧ batteryValid s = false) ∧
    (∃ (r : Req) (i : Nat) (s : State), Accepted cmdIntakePolicy r [byte 1, byte i] s ∧ i < 2) ∧
    (∃ (r : Req) (p : Nat) (mv : Nat) (s : State), Accepted cmdPdRequest r (leBytes 1 p ++ zeros 1 ++ leBytes 2 mv) s ∧ s.inp.contract = none) ∧
    (∃ (r : Req) (p : Nat) (mv : Nat) (s : State), Accepted cmdPdRequest r (leBytes 1 p ++ zeros 1 ++ leBytes 2 mv) s ∧ 0 < p ∧ p < 256 ∧ mv < 65536 ∧
      s.inp.contract ≠ none ∧ chosenContract s p mv ≠ none) ∧
    (∃ (r : Req) (c : Nat) (m : Nat) (s : State), Accepted (cmdBudgetWindow ([byte 1, byte c] ++ leBytes 2 m)) r ([byte 1, byte c] ++ leBytes 2 m) s ∧ c < 256 ∧
      m < 65536) ∧
    (∃ (r : Req) (c : Nat) (m : Nat) (s : State), Accepted (cmdBudgetWindow ([byte 2, byte c] ++ leBytes 2 m)) r ([byte 2, byte c] ++ leBytes 2 m) s) :=
  ⟨⟨rq, live, by decide +kernel⟩,
   ⟨rq, 1, live, by decide +kernel⟩,
   ⟨rq, 1, inp (fun x => { x with active := some 1 }) (sup (fun x => { x with latches := [lt 0x12 0] }) live), by decide +kernel⟩,
   ⟨rq, 1, live, by decide +kernel⟩,
   ⟨rq, 1, 0, live, by decide +kernel⟩,
   ⟨rq, 1, 0, inp (fun x => { x with contract := some con5, caps := [0x0001912C] }) usb, by decide +kernel⟩,
   ⟨rq, 0, 5, live, by decide +kernel⟩,
   ⟨rq, 0, 0, live, by decide +kernel⟩⟩

/-- The hypotheses of each clause of PulsesAndRests are met. -/
theorem wit_PulsesAndRests :
    (∃ (cl : Bool) (s : State), Live s ∧ fwWorks s = true ∧ s.chg.phase = .geyser ∧ s.chg.inRest = false ∧ sinceEdge s (1000000 * pn s 0x0B08) = true) ∧
    (∃ (s : State), Live s ∧ fwWorks s = true ∧ s.chg.phase = .geyser ∧ s.chg.inRest = true ∧ s.chg.bootRest = false ∧
      sinceEdge s (1000 * pn s 0x0B09 - 1000) = true ∧ s.chg.iNext = none ∧ (restFigures s).valid = false) ∧
    (∃ (i : Int) (s : State), Live s ∧ fwWorks s = true ∧ s.chg.phase = .geyser ∧ s.chg.inRest = true ∧ sinceEdge s (1000 * pn s 0x0B09) = true ∧
      s.chg.iNext = some i ∧ stopReached s = false) ∧
    (∃ (i : Int) (s : State), Live s ∧ fwWorks s = true ∧ s.chg.phase = .geyser ∧ s.chg.inRest = true ∧ sinceEdge s (1000 * pn s 0x0B09) = true ∧
      s.chg.iNext = some i ∧ stopReached s = true) ∧
    (∃ (s : State) (ocv : Int) (dcir : Int) (i : Int), 0 ≤ iccEff s ∧ stepChoice s ocv dcir = .pulse i) :=
  ⟨⟨true, q7 0x45 4000 500 (at_ 100000000 (chg (fun c => { c with phase := .geyser, setpoint := 900 }) live)), by decide +kernel⟩,
   ⟨at_ 100000000 (chg (fun c => { c with phase := .geyser, inRest := true }) live), by decide +kernel⟩,
   ⟨900, at_ 100000000 (chg (fun c => { c with phase := .geyser, inRest := true, iNext := some 900 }) live), by decide +kernel⟩,
   ⟨900, gau (fun g => { g with rep := 5000 }) (at_ 100000000 (chg (fun c => { c with phase := .geyser, inRest := true, iNext := some 900, stop := 50 }) live)),
     by decide +kernel⟩,
   ⟨live, 3500, 500, 2000, by decide +kernel⟩⟩

/-- The hypotheses of each clause of ChargerPhases are met. -/
theorem wit_ChargerPhases :
    (∃ (s : State), Live s ∧ fwWorks s = true ∧ s.chg.phase = .precharge ∧ prechargeDone s = true) ∧
    (∃ (s : State), Live s ∧ fwWorks s = true ∧ s.chg.phase = .done ∧ phaseFor s 1000000 = true) ∧
    (∃ (v : Int) (s : State), Live s ∧ fwWorks s = true ∧ s.chg.phase = .check ∧ s.chg.inRest = true ∧ s.chg.bootRest = false ∧
      sinceEdge s (1000 * pn s 0x0B09 - 1000) = true ∧ s.inp.path ≠ .noBattery ∧ restQuiet s = true ∧ meanV (endPairs s) = some v) ∧
    (∃ (i : Int) (s : State), Live s ∧ fwWorks s = true ∧ s.chg.bootRest = false ∧ s.chg.phase = .topoff ∧ phaseFor s (1000000 * (s.chg.secs + 1)) = true ∧
      tenSeconds s = some i ∧ i ≤ pv (chgSafe s) 0x0B06) ∧
    (∃ (i : Int) (s : State), Live s ∧ fwWorks s = true ∧ s.chg.bootRest = false ∧ s.chg.phase = .maintain ∧ phaseFor s (1000000 * (s.chg.secs + 1)) = true ∧
      tenSeconds s = some i ∧ restRecheck s i = true) ∧
    (∃ (s : State), Live s ∧ fwWorks s = true ∧ s.chg.phase = .check ∧ s.inp.path = .noBattery ∧ phaseFor s 600000000 = true) ∧
    (∃ (s : State), Live s ∧ s.chg.phase.timed = true ∧ timerDue s = true) :=
  ⟨⟨q7 0x45 30000 0 (at_ 1000000 (chg (fun c => { c with phase := .precharge }) live)), by decide +kernel⟩,
   ⟨at_ 1000000 (chg (fun c => { c with phase := .done }) live), by decide +kernel⟩,
   ⟨3700, at_ 9000000 (q7 0x45 3700 0 (at_ (1000 * pn live 0x0B09 - 2000) (inp (fun x => { x with path := .source }) (chg (fun c => { c with phase := .check, inRest := true }) live)))),
     by decide +kernel⟩,
   ⟨0, q7 0x45 3700 0 (at_ 10000000 (chg (fun c => { c with phase := .topoff }) live)), by decide +kernel⟩,
   ⟨0, msr (fun m => { m with results := vset m.results 0x45 (some 0) }) (q7 0x45 3700 0 (at_ 10000000 (chg (fun c => { c with phase := .maintain }) live))),
     by decide +kernel⟩,
   ⟨at_ 600000000 (inp (fun x => { x with path := .noBattery }) (chg (fun c => { c with phase := .check }) live)), by decide +kernel⟩,
   ⟨chg (fun c => { c with phase := .geyser, preAcc := 3600000000 }) live, by decide +kernel⟩⟩

/-- The hypotheses of each clause of CoulombAndGaugeUpdate are met. -/
theorem wit_CoulombAndGaugeUpdate :
    (∃ (q : Int) (s : State), Live s ∧ s.core.mode ≠ .ship ∧ s.bg.qiAt + 1000 ≤ s.clk.us) ∧
    (∃ (k : Int) (q : Int) (c : Coulomb), 0 < k) ∧
    (∃ (s : State), Live s ∧ fwWorks s = true ∧ s.gau.have_ = true ∧ s.gau.updAt + 1000000 ≤ s.clk.us) ∧
    (∃ (v : Int) (s : State), Live s ∧ fwWorks s = true ∧ s.gau.have_ = true ∧ heldFor s s.gau.quiet (1000000 * pn s 0x0B13) = true ∧
      meanV (lastPairs s 0x45 10000000) = some v) ∧
    (∃ (v : Int) (s : State), Live s ∧ fwWorks s = true ∧ s.gau.have_ = true ∧ loadedVbat s = some v ∧ s.gau.empty = false ∧ heldFor s s.gau.low 2000000 = true) ∧
    (∃ (v : Int) (i : Int) (s : State), Live s ∧ fwWorks s = true ∧ s.chg.bootRest = true ∧ sinceEdge s 150000 = true ∧ meanV (edgePairs s 100000 150000) = some v ∧
      meanI (edgePairs s 0 150000) = some i) :=
  ⟨⟨-5, at_ 1000 live, by decide +kernel⟩,
   ⟨1000, -5, live.bg.coulomb, by decide +kernel⟩,
   ⟨at_ 1000000 (gau (fun g => { g with have_ := true, full := 2000000, rem := 1000000 }) live), by decide +kernel⟩,
   ⟨3700, q7 0x45 3700 0 (at_ 100000000000 (gau (fun g => { g with have_ := true, full := 2000000, rem := 1000000, prov := true, quiet := some 0 }) live)),
     by decide +kernel⟩,
   ⟨3000, q7 0x45 3000 0 (at_ 2000000 (gau (fun g => { g with have_ := true, full := 2000000, rem := 1000000, low := some 0 }) live)), by decide +kernel⟩,
   ⟨3700, 0, at_ 150000 (q7 0x45 3700 0 (at_ 120000 (chg (fun c => { c with bootRest := true }) live))), by decide +kernel⟩⟩

/-- The hypotheses of each clause of ChargeCommands are met. -/
theorem wit_ChargeCommands :
    (∃ (r : Req) (k : Nat) (n : Nat) (s : State), Accepted cmdChargeControl r [byte k, byte n] s ∧ k < 2 ∧ n < 256) ∧
    (∃ (r : Req) (s : State), Accepted cmdGaugeRelearn r [] s) ∧
    (∃ (r : Req) (s : State), Accepted cmdChargeStatus r [] s) ∧
    (∃ (r : Req) (s : State), Accepted cmdGaugeRead r [] s) :=
  ⟨⟨rq, 0, 80, live, by decide +kernel⟩,
   ⟨rq, live, by decide +kernel⟩,
   ⟨rq, live, by decide +kernel⟩,
   ⟨rq, live, by decide +kernel⟩⟩

/-- The hypotheses of each clause of BankDataCommands are met. -/
theorem wit_BankDataCommands :
    (∃ (r : Req) (a : Nat) (n : Nat) (s : State), Accepted cmdBankRead r (leBytes 4 a ++ leBytes 1 n) s ∧ a < 2 ^ 32 ∧ n < 256 ∧ (∀ x ∈ r.env, x < 0) ∧
      InUse (bankAt a) s ∧ heldBack s false r.tenant a = false ∧ flipped s a n = false ∧ (∀ i,
      4 * i < n → readRight (touchBank (bankAt a) s) false r.tenant (a + 4 * i) = true)) ∧
    (∃ (r : Req) (a : Nat) (data : Bytes) (s : State), MemOk s ∧ Accepted cmdBankWrite r (leBytes 4 a ++ leBytes 1 data.length ++ zeros 1 ++ data) s ∧ a < 2 ^ 32 ∧
      data.length < 256 ∧ InUse (bankAt a) s ∧ heldBack s false r.tenant a = false ∧ (∀ i, 4 * i < data.length → writeRight s false r.tenant (a + 4 * i) = true)) ∧
    (∃ (r : Req) (a : Nat) (op : Nat) (v : Nat) (w : Nat) (s : State), MemOk s ∧
      Accepted cmdBankAtomic r (leBytes 4 a ++ leBytes 1 op ++ zeros 3 ++ leBytes 4 v) s ∧ a < 2 ^ 32 ∧ op < 256 ∧ v < 2 ^ 32 ∧ (∀ x ∈ r.env, x < 0) ∧
      InUse (bankAt a) s ∧ heldBack s false r.tenant a = false ∧ flipped s a 4 = false ∧ writeRight s false r.tenant a = true ∧
      atomicWord op (word s a) v = some w) ∧
    (∃ (r : Req) (a : Nat) (data : Bytes) (s : State), Accepted cmdBankWrite r (leBytes 4 a ++ leBytes 1 data.length ++ zeros 1 ++ data) s ∧ a < 2 ^ 32 ∧
      data.length < 256 ∧ heldBack s false r.tenant a = false ∧ (bank s (bankAt a)).st = .retired ∨ writeRight s false r.tenant a = false) ∧
    (∃ (old : Nat) (v : Nat), old < 2 ^ 32 ∧ v < 2 ^ 32) :=
  ⟨⟨rq, 0x2000A000, 4, own 10 live, ⟨by decide +kernel, by decide +kernel, by decide +kernel, by decide +kernel, by decide +kernel, by decide +kernel,
    by decide +kernel, only_zero (by decide +kernel)⟩⟩,
   ⟨rq, 0x2000A000, [1, 2, 3, 4], own 10 live, ⟨by decide +kernel, by decide +kernel, by decide +kernel, by decide +kernel, by decide +kernel, by decide +kernel,
     only_zero (by decide +kernel)⟩⟩,
   ⟨rq, 0x2000A000, 1, 5, 5, own 10 live, by decide +kernel⟩,
   ⟨rq, 0x2000A000, [1, 2, 3, 4], live, by decide +kernel⟩,
   ⟨0xF0F0, 0xFF, by decide +kernel⟩⟩

/-- The hypotheses of each clause of BankOwnershipMoves are met. -/
theorem wit_BankOwnershipMoves :
    (∃ (r : Req) (k : Nat) (n : Nat) (s : State) (u : State), Accepted cmdBankHandover r [byte k, byte 0, byte n] s ∧ k < 256 ∧
      u = takeOcc .claim (begun 0x0C01 r s) ∧ fixedBank k = false ∧ (bank s k).st = .free ∧ overQuota u r.tenant k = false) ∧
    (∃ (r : Req) (k : Nat) (n : Nat) (s : State), Accepted cmdBankHandover r [byte k, byte 2, byte n] s ∧ k < 256 ∧ fixedBank k = false ∧ (bank s k).st = .owned ∧
      (bank s k).owner = r.tenant ∧ ringUses s k = false) ∧
    (∃ (r : Req) (k : Nat) (n : Nat) (s : State) (u : State), Accepted cmdBankHandover r [byte k, byte 1, byte n] s ∧ k < 256 ∧ n < 64 ∧
      u = takeOcc .claim (begun 0x0C01 r s) ∧ fixedBank k = false ∧ (bank s k).st = .owned ∧ (bank s k).owner = r.tenant ∧ ringUses s k = false ∧
      overQuota u n k = false) ∧
    (∃ (r : Req) (k : Nat) (n : Nat) (s : State), Accepted cmdBankHandover r [byte k, byte 3, byte n] s ∧ k < 256 ∧ n < 64 ∧ fixedBank k = false ∧
      (bank s k).st = .owned ∧ (bank s k).owner = r.tenant ∧ ringUses s k = false ∧ (bank s k).delegates.length < 2) ∧
    (∃ (r : Req) (k : Nat) (act : Nat) (n : Nat) (s : State), Accepted cmdBankHandover r [byte k, byte act, byte n] s ∧ k < 256 ∧ act < 256 ∧ fixedBank k = false ∧
      (bank s k).st = .owned ∧ (bank s k).owner ≠ r.tenant ∧ r.tenant ≠ 0) ∧
    (∃ (r : Req) (k : Nat) (s : State), Accepted cmdBankRetire r [byte k, byte 0] s ∧ k < 256 ∧ fixedBank k = false ∧ (bank s k).st = .owned ∧
      (bank s k).owner = r.tenant ∧ ringUses s k = false) ∧
    (∃ (r : Req) (k : Nat) (s : State), Accepted cmdBankRetire r [byte k, byte 1] s ∧ k < 256 ∧ fixedBank k = false ∧ (bank s k).st = .retired) ∧
    (∃ (k : Nat) (s : State), Clocked s ∧ k < 64 ∧ (bank s k).st = .draining ∧ (bank s k).retiring = false ∧ (bank s k).action ≠ 2 ∧ (bank s k).held = []) ∧
    (∃ (k : Nat) (a : Nat) (v : Nat) (o : Nat) (h : Held) (s : State), Clocked s ∧ k < 64 ∧ (bank s k).st = .draining ∧ (bank s k).retiring = false ∧
      (bank s k).action ≠ 2 ∧ (bank s k).held = [h] ∧ h.master < 12 ∧ h.access = .aliasWrite 3 o a v false ∧ bankAt a = k ∧ o = (bank s k).owner ∧ v < 2 ^ 32 ∧
      MemOk s ∧ spBase ≤ a ∧ a + 4 ≤ spBase + 0x40000 ∧ o < 0x83 ∧ flipped s a 4 = false) ∧
    (∃ (k : Nat) (s : State), Clocked s ∧ k < 64 ∧ (bank s k).st = .draining ∧ (bank s k).retiring = false ∧ (bank s k).action = 2) ∧
    (∃ (k : Nat) (s : State), Clocked s ∧ k < 64 ∧ (bank s k).st = .draining ∧ (bank s k).retiring = true) ∧
    (∃ (k : Nat) (s : State), Clocked s ∧ k < 64 ∧ (bank s k).st = .zeroing) ∧
    (∃ (k : Nat) (bad : List Nat) (s : State), Clocked s ∧ k < 64 ∧ (bank s k).st = .testing) ∧
    (∃ (r : Req) (kind : Nat) (k : Nat) (s : State), Accepted cmdBankStatus r [byte kind, byte k, byte 0] s ∧ kind < 2) ∧
    (∃ (r : Req) (k : Nat) (s : State), Accepted cmdBankStatus r [byte 0, byte k, byte 1] s ∧ k < 64) ∧
    (∃ (r : Req) (k : Nat) (n : Nat) (s : State) (u : State), Accepted cmdBankHandover r [byte k, byte 0, byte n] s ∧ k < 256 ∧
      u = takeOcc .claim (begun 0x0C01 r s) ∧ fixedBank k = false ∧ (bank s k).st = .free ∧ overQuota u r.tenant k = true) ∧
    (∃ (r : Req) (k : Nat) (n : Nat) (s : State) (u : State), Accepted cmdBankHandover r [byte k, byte 1, byte n] s ∧ k < 256 ∧ n < 64 ∧
      u = takeOcc .claim (begun 0x0C01 r s) ∧ fixedBank k = false ∧ (bank s k).st = .owned ∧ (bank s k).owner = r.tenant ∧ ringUses s k = false ∧
      overQuota u n k = true) :=
  ⟨⟨rq, 51, 0, live, takeOcc .claim (begun 0x0C01 rq live), by decide +kernel⟩,
   ⟨rq, 8, 0, own 8 live, by decide +kernel⟩,
   ⟨rq, 10, 5, own 10 live, takeOcc .claim (begun 0x0C01 rq (own 10 live)), by decide +kernel⟩,
   ⟨rq, 10, 5, own 10 live, by decide +kernel⟩,
   ⟨{ rq with tenant := 5 }, 10, 2, 5, setN 0x0202 5 0x3FFF (ten 5 (fun t => { t with session := some 1 }) (own 10 live)), by decide +kernel⟩,
   ⟨rq, 10, own 10 live, by decide +kernel⟩,
   ⟨rq, 10, bk 10 (fun b => { b with st := .retired }) live, by decide +kernel⟩,
   ⟨10, bk 10 (fun b => { b with st := .draining, owner := 5, oldOwner := 0 }) live, by decide +kernel⟩,
   ⟨10, 0x2000A010, 5, 1, { access := .aliasWrite 3 1 0x2000A010 5 false, master := 9, at_ := some 0 }, bk 10 (fun b => { b with st := .draining, owner := 1, oldOwner := 0, action := 0, held := [{ access := .aliasWrite 3 1 0x2000A010 5 false, master := 9, at_ := some 0 }] }) live,
     by decide +kernel⟩,
   ⟨10, bk 10 (fun b => { b with st := .draining, owner := 0xFF, oldOwner := 0, action := 2 }) live, by decide +kernel⟩,
   ⟨10, bk 10 (fun b => { b with st := .draining, owner := 0xFF, oldOwner := 0, retiring := true }) live, by decide +kernel⟩,
   ⟨10, bk 10 (fun b => { b with st := .zeroing, owner := 0xFF }) live, by decide +kernel⟩,
   ⟨10, [], bk 10 (fun b => { b with st := .testing, owner := 0xFF }) live, by decide +kernel⟩,
   ⟨rq, 0, 0, live, by decide +kernel⟩,
   ⟨rq, 10, bk 10 (fun b => { b with deny := 3 }) live, by decide +kernel⟩,
   ⟨rq, 10, 0, setN 0x0206 0 0 live, takeOcc .claim (begun 0x0C01 (rq) (setN 0x0206 0 0 live)), by decide +kernel⟩,
   ⟨rq, 10, 5, setN 0x0206 5 0 (own 10 live), takeOcc .claim (begun 0x0C01 (rq) (setN 0x0206 5 0 (own 10 live))), by decide +kernel⟩⟩

/-- The hypotheses of each clause of WindowsAndAtopReachFabric are met. -/
theorem wit_WindowsAndAtopReachFabric :
    (∃ (p : Nat) (off : Nat) (n : Nat) (data : Bytes) (early : Bool) (q : List (Nat × Bool)) (s : State), MemOk s ∧ BusUp p s ∧ p = 0 ∨ p = 2 ∧ 0x1000 ≤ off ∧
      off ≤ 0x1FFC ∧ off % 4 = 0 ∧ data.length = 4 ∧ windowTenant s p = some n ∧ InUse (bankAt (windowAddr s p off)) s ∧
      heldBack s early n (windowAddr s p off) = false ∧ writeRight s early n (windowAddr s p off) = true) ∧
    (∃ (p : Nat) (off : Nat) (n : Nat) (early : Bool) (q : List (Nat × Bool)) (s : State), BusUp p s ∧ p = 0 ∨ p = 2 ∧ 0x1000 ≤ off ∧ off ≤ 0x1FFC ∧ off % 4 = 0 ∧
      windowTenant s p = some n ∧ InUse (bankAt (windowAddr s p off)) s ∧ heldBack s early n (windowAddr s p off) = false ∧
      flipped s (windowAddr s p off) 4 = false ∧ readRight (touchBank (bankAt (windowAddr s p off)) s) early n (windowAddr s p off) = true) ∧
    (∃ (p : Nat) (off : Nat) (data : Bytes) (early : Bool) (q : List (Nat × Bool)) (s : State), BusUp p s ∧ p = 0 ∨ p = 2 ∧ 0x1000 ≤ off ∧ off ≤ 0x1FFC ∧
      off % 4 = 0 ∧ data.length = 4 ∧ windowTenant s p = none) ∧
    (∃ (p : Nat) (off : Nat) (n : Nat) (data : Bytes) (bad : List Nat) (early : Bool) (q : List (Nat × Bool)) (s : State), p = 1 ∨ p = 3) ∧
    (∃ (p : Nat) (off : Nat) (n : Nat) (data : Bytes) (bad : List Nat) (early : Bool) (q : List (Nat × Bool)) (s : State), BusUp p s ∧ p = 1 ∨ p = 3 ∧
      0x1000 ≤ off ∧ off + n ≤ 0x2000 ∧ 0 < n) ∧
    (∃ (o : Nat) (off : Nat) (v : Nat) (early : Bool) (q : List (Nat × Bool)) (s : State), MemOk s ∧ Clocked s ∧ off < 0x40000 ∧ off % 4 = 0 ∧ v < 2 ^ 32 ∧
      InUse (bankAt (spBase + off)) s ∧ masterReset s (masterOf s o) = false ∧ heldBack s early o (spBase + off) = false ∧ flipped s (spBase + off) 4 = false ∧
      writeRight s early o (spBase + off) = true) ∧
    (∃ (o : Nat) (off : Nat) (v : Nat) (bad : Bool) (early : Bool) (q : List (Nat × Bool)) (s : State), Clocked s ∧ off < 0x40000 ∧ off % 4 = 0 ∧
      (bank s (bankAt (spBase + off))).st ≠ .retired ∧ masterReset s (masterOf s o) = false ∧ heldBack s early o (spBase + off) = false ∧
      writeRight s early o (spBase + off) = false) ∧
    (∃ (o : Nat) (off : Nat) (v : Nat) (bad : Bool) (early : Bool) (q : List (Nat × Bool)) (s : State), Clocked s ∧ masterReset s (masterOf s o) = true) ∧
    (∃ (p : Nat) (n : Nat) (a : Nat) (early : Bool) (q : List (Nat × Bool)) (s : State), MemOk s ∧ BusUp p s ∧ p < 4 ∧ (port s p).atopBusy = false ∧
      windowTenant s p = some n ∧ a = (port s p).atopAddr.toNat ∧ a % 4 = 0 ∧ inScratch a = true ∧ InUse (bankAt a) s ∧ heldBack s early n a = false ∧
      flipped s a 4 = false ∧ writeRight s early n a = true) :=
  ⟨⟨2, 0x1000, 0, [1, 2, 3, 4], false, [(3, true)], bound10, by decide +kernel⟩,
   ⟨2, 0x1000, 0, false, [(3, true)], bound10, by decide +kernel⟩,
   ⟨2, 0x1004, [1, 2, 3, 4], false, [], live, by decide +kernel⟩,
   ⟨1, 0x1004, 4, [1, 2, 3, 4], [], false, [], live, by decide +kernel⟩,
   ⟨1, 0x1FFC, 4, [], [], false, [], live, by decide +kernel⟩,
   ⟨0, 0xA000, 5, false, [], own 10 live, by decide +kernel⟩,
   ⟨5, 0xA000, 5, false, false, [], own 10 live, by decide +kernel⟩,
   ⟨0x80, 0xA000, 5, false, false, [], core (fun c => { c with run := .inReset }) live, by decide +kernel⟩,
   ⟨2, 0, 0x2000A010, false, [], prt 2 (fun q => { q with atopAddr := 0x2000A010, atopOpnd := 5 }) bound10, by decide +kernel⟩⟩

/-- The hypotheses of each clause of GathersAndCommits are met. -/
theorem wit_GathersAndCommits :
    (∃ (r : Req) (a : Nat) (data : Bytes) (s : State), Accepted cmdNvGather r (leBytes 4 a ++ leBytes 1 data.length ++ zeros 1 ++ data) s ∧ data.length < 256 ∧
      0x28000 ≤ a ∧ a + data.length ≤ 0x40000 ∧ gatherOf s r.tenant = none ∧ s.nv.gathers.length < 8 ∧ protects s a data.length = false) ∧
    (∃ (r : Req) (a : Nat) (data : Bytes) (s : State), Accepted cmdNvGather r (leBytes 4 a ++ leBytes 1 data.length ++ zeros 1 ++ data) s ∧ data.length < 256 ∧
      a < 0x28000) ∧
    (∃ (r : Req) (a : Nat) (data : Bytes) (g : Gather) (s : State), Accepted cmdNvGather r (leBytes 4 a ++ leBytes 1 data.length ++ zeros 1 ++ data) s ∧
      data.length < 256 ∧ 0x28000 ≤ a ∧ a + data.length ≤ 0x40000 ∧ gatherOf s r.tenant = some g ∧ a < g.base ∨ g.base + 256 < a + data.length) ∧
    (∃ (r : Req) (g : Gather) (k : Nat) (s : State), MemOk s ∧ Accepted cmdNvCommit r [] s ∧ gatherOf s r.tenant = some g ∧ (gatherSpan g).2 ≤ 256 ∧
      (saBase ≤ (gatherSpan g).1 → s.core.mode = .service) ∧ commitRefused s (gatherSpan g).1 (gatherSpan g).2 = none ∧ (∀ x ∈ r.env, x < 0) ∧
      rangeBad s (gatherSpan g).1 (gatherSpan g).2 = false ∧ freeSlot s = some k ∧ rangeBad s (slotAddr k) 276 = false) ∧
    (∃ (r : Req) (g : Gather) (s : State), Accepted cmdNvCommit r [] s ∧ gatherOf s r.tenant = some g ∧ (saBase ≤ (gatherSpan g).1 → s.core.mode = .service) ∧
      commitRefused s (gatherSpan g).1 (gatherSpan g).2 = none ∧ (∀ x ∈ r.env, x < 0) ∧ rangeBad s (gatherSpan g).1 (gatherSpan g).2 = false ∧ freeSlot s = none ∧
      r.asyncOk = false) ∧
    (∃ (r : Req) (s : State), Accepted cmdNvCommit r [] s ∧ gatherOf s r.tenant = none) ∧
    (∃ (r : Req) (s : State), Accepted cmdNvDiscard r [] s) ∧
    (∃ (c : NvCommit) (cs : List NvCommit) (k : Nat) (s : State), MemOk s ∧ Clocked s ∧ s.cap.cap = none ∧ s.nv.commits = c :: cs ∧ c.slot = some k ∧ k < 8 ∧
      (∀ d ∈ cs, d.slot ≠ none) ∧ 0x28000 ≤ c.dest ∧ c.dest < 0x40000 ∧ c.dest + c.data.length ≤ 0x40000) ∧
    (∃ (r : Req) (a : Nat) (data : Bytes) (s : State), Accepted cmdNvGather r (leBytes 4 a ++ leBytes 1 data.length ++ zeros 1 ++ data) s ∧ data.length < 256 ∧
      0x28000 ≤ a ∧ a + data.length ≤ 0x40000 ∧ gatherOf s r.tenant = none ∧ s.nv.gathers.length < 8 ∧ protects s a data.length = true) ∧
    (∃ (r : Req) (a : Nat) (data : Bytes) (g : Gather) (s : State), Accepted cmdNvGather r (leBytes 4 a ++ leBytes 1 data.length ++ zeros 1 ++ data) s ∧
      data.length < 256 ∧ 0x28000 ≤ a ∧ a + data.length ≤ 0x40000 ∧ gatherOf s r.tenant = some g ∧ g.base ≤ a ∧ a + data.length ≤ g.base + 256 ∧
      protects s a data.length = true) :=
  ⟨⟨rq, 0x28000, [1, 2], live, by decide +kernel⟩,
   ⟨rq, 0x27FFF, [1, 2], live, by decide +kernel⟩,
   ⟨rq, 0x280FF, [1, 2], gat, nv (fun x => { x with gathers := [gat] }) live, by decide +kernel⟩,
   ⟨rq, gat, 0, nv (fun x => { x with gathers := [gat], resvMv := 14000 }) live, by decide +kernel⟩,
   ⟨rq, gat, nv (fun x => { x with gathers := [gat], resvMv := 14000, commits := (List.range 8).map (fun k => { nvc with slot := some k }) }) live, by decide +kernel⟩,
   ⟨rq, live, by decide +kernel⟩,
   ⟨rq, nv (fun x => { x with gathers := [gat] }) live, by decide +kernel⟩,
   ⟨nvc, [], 0, nv (fun x => { x with commits := [nvc] }) live, by decide +kernel⟩,
   ⟨rq, 0x28000, [1], setN 0x0D01 0 3 live, by decide +kernel⟩,
   ⟨rq, 0x28001, [1], gat, nv (fun x => { x with gathers := [gat] }) (setN 0x0D01 0 3 live), by decide +kernel⟩⟩

/-- The hypotheses of each clause of NvReadsAndEepromWindow are met. -/
theorem wit_NvReadsAndEepromWindow :
    (∃ (r : Req) (a : Nat) (n : Nat) (s : State), Accepted cmdNvRead r (leBytes 4 a ++ leBytes 1 n) s ∧ a < 2 ^ 32 ∧ n < 256 ∧ markerDue s = false ∧
      mayReadRange s r.tenant a n = true ∧ planeBusy s a n = false ∧ r.env = [] ∧ rangeBad s a n = false) ∧
    (∃ (r : Req) (a : Nat) (n : Nat) (w : Nat) (s : State), Accepted cmdNvRead r (leBytes 4 a ++ leBytes 1 n) s ∧ a < 2 ^ 32 ∧ n < 256 ∧ markerDue s = false ∧
      mayReadRange s r.tenant a n = true ∧ planeBusy s a n = false ∧ r.env = [(w : Int)] ∧ rangeBad s a n = false ∧ a < w * 8 + 8 ∧ w * 8 < a + n ∧ w < 0x8000) ∧
    (∃ (r : Req) (s : State), Accepted cmdNvStatus r [] s) ∧
    (∃ (r : Req) (bp : Nat) (s : State), Accepted cmdNvProtect r [byte bp, byte 0] s ∧ bp < 4 ∧ pn s 0x0D02 ≠ 1 ∧ pv s 0x0D06 ≤ s.nv.resvMv ∧ r.env.headD 0 = 0) ∧
    (∃ (r : Req) (bp : Nat) (lock : Nat) (s : State), Accepted cmdNvProtect r [byte bp, byte lock] s ∧ bp < 4 ∧ lock < 2 ∧ pn s 0x0D02 = 1 ∧ bp ≠ pn s 0x0D01) ∧
    (∃ (before : Nat) (after : Nat) (s : State), Live s ∧ s.nv.resvTested = false ∧ s.nv.boost = true ∧ pv s 0x0D05 ≤ before ∧ before ≤ after + 455) ∧
    (∃ (before : Nat) (after : Nat) (s : State), Live s ∧ s.nv.resvTested = false ∧ s.nv.boost = true ∧ pv s 0x0D05 ≤ before ∧ after + 455 < before) ∧
    (∃ (b : Nat) (w : Nat) (ecc : List Int) (s : State), BusUp 1 s ∧ eeAnswers s = true ∧ b < 2) ∧
    (∃ (b : Nat) (w : Nat) (data : Bytes) (ecc : List Int) (s : State), BusUp 1 s ∧ eeAnswers s = true ∧ b < 2 ∧ data ≠ [] ∧
      bit (pn s 0x0D03) 1 = false ∨ protects s (eeMap b w / 64 * 64) 64 = true ∨ s.nv.resvMv < 6000) ∧
    (∃ (b : Nat) (w : Nat) (data : Bytes) (ecc : List Int) (s : State), BusUp 1 s ∧ eeAnswers s = true ∧ b < 2 ∧ data ≠ [] ∧ data.length ≤ 64 ∧
      bit (pn s 0x0D03) 1 = true ∧ protects s (eeMap b w / 64 * 64) 64 = false ∧ 6000 ≤ s.nv.resvMv ∧ (∀ x ∈ ecc, x < 0) ∧
      rangeBad s (eeMap b w / 64 * 64) 64 = false) ∧
    (∃ (b : Nat) (w : Nat) (data : Bytes) (n : Nat) (at_ : Option Nat) (ecc : List Int) (s : State), s.nv.eeBusy = true) ∧
    (∃ (c : NvCommit) (s : State), MemOk s ∧ Clocked s ∧ markerDue s = false ∧ s.nv.commits = [c] ∧ c.slot = some 8 ∧ 0x28000 ≤ c.dest ∧ c.dest < 0x40000 ∧
      c.dest + c.data.length ≤ 0x40000) ∧
    (∃ (b : Nat) (n : Nat) (ecc : List Int) (s : State), BusUp 1 s ∧ eeAnswers s = true ∧ b < 2 ∧ markerDue s = false ∧ (∀ x ∈ ecc, x < 0) ∧ (∀ j < n,
      eeMap b (s.nv.eePointer + j) / 8 ∉ s.nv.badWords)) :=
  ⟨⟨rq, 0x28000, 4, live, by decide +kernel⟩,
   ⟨{ rq with env := [0x5000] }, 0x28000, 4, 0x5000, live, by decide +kernel⟩,
   ⟨rq, live, by decide +kernel⟩,
   ⟨rq, 1, nv (fun x => { x with resvMv := 14000 }) live, by decide +kernel⟩,
   ⟨rq, 1, 0, setN 0x0D02 0 1 live, by decide +kernel⟩,
   ⟨17000, 16600, nv (fun x => { x with boost := true }) live, by decide +kernel⟩,
   ⟨17000, 16000, nv (fun x => { x with boost := true }) live, by decide +kernel⟩,
   ⟨0, 0x10, [], live, by decide +kernel⟩,
   ⟨0, 0x10, [1], [], setN 0x0D03 0 1 live, by decide +kernel⟩,
   ⟨0, 0x10, [1], [], nv (fun x => { x with resvMv := 14000 }) live, by decide +kernel⟩,
   ⟨0, 0x10, [1], 1, none, [], nv (fun x => { x with eeBusy := true }) live, by decide +kernel⟩,
   ⟨{ nvc with slot := some 8 }, nv (fun x => { x with commits := [{ nvc with slot := some 8 }], eeBusy := true }) live, by decide +kernel⟩,
   ⟨0, 2, [], live, by decide +kernel⟩⟩

/-- The hypotheses of each clause of LogRecordsAppendAndRead are met. -/
theorem wit_LogRecordsAppendAndRead :
    (∃ (r : Req) (k : Nat) (a : Nat) (data : Bytes) (s : State), MemOk s ∧ Accepted cmdLogAppend r (leBytes 1 0 ++ leBytes 1 data.length ++ leBytes 4 0 ++ data) s ∧
      data.length < 256 ∧ logFree s = true ∧ 2 ≤ (freeSectors s).length ∧ s.log.head = some k ∧ k < 128 ∧ a = sectorAddr k + s.log.headOff ∧
      s.log.headOff + recordSize (hostPayload r.tenant data) ≤ 0x1000 ∧ (∀ x, a ≤ x → x < a + recordSize (hostPayload r.tenant data) → byteOf s x = some 0xFF)) ∧
    (∃ (r : Req) (data : Bytes) (s : State), Accepted cmdLogAppend r (leBytes 1 0 ++ leBytes 1 data.length ++ leBytes 4 0 ++ data) s ∧ data.length < 256 ∧
      logFree s = true ∧ (freeSectors s).length < 2) ∧
    (∃ (r : Req) (k : Nat) (data : Bytes) (s : State), Accepted cmdLogAppend r (leBytes 1 0 ++ leBytes 1 data.length ++ leBytes 4 0 ++ data) s ∧
      s.nv.erasing = some k ∨ s.core.holdup = true) ∧
    (∃ (r : Req) (first : Nat) (type : Nat) (a : Nat) (s : State), Accepted cmdLogRead r (leBytes 4 first ++ leBytes 1 type ++ leBytes 1 0) s ∧ first < 2 ^ 32 ∧
      type < 256 ∧ logMatches s r.tenant first type = [a] ∧ 16 * (recGranules s a + 2) ≤ 238) ∧
    (∃ (k : Nat) (s : State), Clocked s ∧ s.nv.erasing = some k ∧ k < 128 ∧ s.log.waiting = [] ∧ s.ops = []) :=
  ⟨⟨rq, 0, sectorAddr 0 + 16, [65], logd, ⟨by decide +kernel, by decide +kernel, by decide +kernel, by decide +kernel, by decide +kernel, by decide +kernel,
    by decide +kernel, by decide +kernel, by decide +kernel, all_in (by decide +kernel)⟩⟩,
   ⟨rq, [65], { live with mem := (List.range 127).map (fun k => (sectorAddr k, 0)) }, by decide +kernel⟩,
   ⟨rq, 3, [65], nv (fun x => { x with erasing := some 3 }) live, by decide +kernel⟩,
   ⟨rq, 0, 0, sectorAddr 0 + 16, aft (exec (.logAppend rq 0 0 [65]) logd), by decide +kernel⟩,
   ⟨3, nv (fun x => { x with erasing := some 3 }) live, by decide +kernel⟩⟩

/-- The hypotheses of each clause of FirmwareUpdates are met. -/
theorem wit_FirmwareUpdates :
    (∃ (r : Req) (s : State), Accepted cmdFwBegin r [] s ∧ (bootCtl s).trial = 0xFF ∧ s.fw.erasing = false) ∧
    (∃ (s : State), Clocked s ∧ slotErasing s = true ∧ s.log.waiting = [] ∧ s.ops = []) ∧
    (∃ (s : State), Clocked s ∧ slotErasing s = true ∧ s.log.waiting = [] ∧ s.ops = []) ∧
    (∃ (r : Req) (off : Nat) (a : Nat) (data : Bytes) (s : State), MemOk s ∧ Accepted cmdFwChunk r (leBytes 4 off ++ leBytes 1 data.length ++ zeros 1 ++ data) s ∧
      data.length < 256 ∧ s.fw.open_ = true ∧ saBusy s = false ∧ s.fw.erasing = false ∧ s.fw.chunkEnd ≤ off ∧ off + data.length ≤ 262144 ∧
      a = fwSlotAddr (inactiveSlot s) + off ∧ (∀ x, a ≤ x → x < a + data.length → byteOf s x = some 0xFF)) ∧
    (∃ (r : Req) (off : Nat) (data : Bytes) (s : State), Accepted cmdFwChunk r (leBytes 4 off ++ leBytes 1 data.length ++ zeros 1 ++ data) s ∧ data.length < 256 ∧
      off < 2 ^ 32 ∧ off < s.fw.chunkEnd ∧ saBusy s = false ∧ s.fw.erasing = false) ∧
    (∃ (r : Req) (s : State), Accepted cmdFwFinish r [] s ∧ s.fw.open_ = true ∧ s.fw.erasing = false) ∧
    (∃ (r : Req) (s : State), MemOk s ∧ Accepted cmdFwActivate r [] s ∧ s.fw.finishedOk = true ∧ copyGen s tcBoot 0 + 1 < 2 ^ 32 ∧ copyGen s tcBoot 1 + 1 < 2 ^ 32) ∧
    (∃ (r : Req) (s : State), Accepted cmdFwActivate r [] s ∧ s.fw.finishedOk = false) ∧
    (∃ (r : Req) (s : State), Accepted cmdFwInfo r [] s) ∧
    (∃ (r : Req) (s : State), Accepted cmdFwBegin r [] s ∧ (bootCtl s).trial ≠ 0xFF) ∧
    (∃ (r : Req) (off : Nat) (data : Bytes) (s : State), Accepted cmdFwChunk r (leBytes 4 off ++ leBytes 1 data.length ++ zeros 1 ++ data) s ∧ s.fw.open_ = true ∧
      s.fw.erasing = true) ∧
    (∃ (s : State), Clocked s ∧ slotErasing s = true ∧ s.fw.erased < 64 ∧ s.log.waiting = [] ∧ s.ops = []) :=
  ⟨⟨rq, md .service live, by decide +kernel⟩,
   ⟨fw (fun x => { x with erasing := true }) live, by decide +kernel⟩,
   ⟨fw (fun x => { x with erasing := true }) live, by decide +kernel⟩,
   ⟨rq, 16, fwSlotAddr 1 + 16, zeros 16, md .service (fw (fun x => { x with open_ := true }) live), ⟨by decide +kernel, by decide +kernel, by decide +kernel,
     by decide +kernel, by decide +kernel, by decide +kernel, by decide +kernel, by decide +kernel, by decide +kernel, all_in (by decide +kernel)⟩⟩,
   ⟨rq, 16, zeros 16, md .service (fw (fun x => { x with open_ := true, chunkEnd := 32 }) live), by decide +kernel⟩,
   ⟨rq, md .service (fw (fun x => { x with open_ := true, chunkEnd := 32 }) live), by decide +kernel⟩,
   ⟨rq, md .service (fw (fun x => { x with finishedOk := true }) (nv (fun x => { x with resvMv := 14000 }) live)), by decide +kernel⟩,
   ⟨rq, md .service live, by decide +kernel⟩,
   ⟨rq, live, by decide +kernel⟩,
   ⟨rq, aft (exec (.fwActivate rq) (md .service (fw (fun x => { x with finishedOk := true }) (nv (fun x => { x with resvMv := 14000 }) live)))), by decide +kernel⟩,
   ⟨rq, 16, zeros 16, md .service (fw (fun x => { x with open_ := true, erasing := true }) live), by decide +kernel⟩,
   ⟨fw (fun x => { x with erasing := true }) live, by decide +kernel⟩⟩

/-- The hypotheses of each clause of ParameterCommands are met. -/
theorem wit_ParameterCommands :
    (∃ (r : Req) (id : Nat) (i1 : Nat) (i2 : Nat) (p : PInfo) (s : State), Accepted cmdParamGet r (leBytes 2 id ++ leBytes 1 i1 ++ leBytes 1 i2) s ∧ id < 65536 ∧
      pInfo id = some p) ∧
    (∃ (r : Req) (id : Nat) (i1 : Nat) (i2 : Nat) (s : State), Accepted cmdParamGet r (leBytes 2 id ++ leBytes 1 i1 ++ leBytes 1 i2) s ∧ id < 65536 ∧ pInfo id = none) ∧
    (∃ (r : Req) (id : Nat) (s : State), Accepted cmdParamInfo r (leBytes 2 id) s ∧ id < 65536) ∧
    (∃ (r : Req) (i : PInst) (bs : Bytes) (p : PInfo) (v : PVal) (s : State) (u : State), Accepted (cmdParamSet s) r (setPayload i bs) s ∧ i.id < 65536 ∧
      i.i1 < 256 ∧ i.i2 < 256 ∧ bs.length < 256 ∧ pInfo i.id = some p ∧ pParse p bs = some v ∧ readOnly i = false ∧
      (classOf i.id = .locked → s.core.mode = .service) ∧ (tenant s r.tenant).txn = none ∧ r.persist = false ∧ protectLocked [{ inst := i, value := v }] s = false ∧
      u = takeOcc .commitAccepted (useTxn r.tenant (begun 0x0301 r s)) ∧ conflictOf s.par.epoch [{ inst := i, value := v }] s = none ∧
      writeReady false u { inst := i, value := v } = true ∧ crossFail [{ inst := i, value := v }] u = none) ∧
    (∃ (r : Req) (i : PInst) (bs : Bytes) (p : PInfo) (v : PVal) (s : State), Accepted (cmdParamSet s) r (setPayload i bs) s ∧ i.id < 65536 ∧ i.i1 < 256 ∧
      i.i2 < 256 ∧ bs.length < 256 ∧ pInfo i.id = some p ∧ pParse p bs = some v ∧ readOnly i = false ∧ classOf i.id = .locked ∧ s.core.mode ≠ .service) ∧
    (∃ (r : Req) (i : PInst) (bs : Bytes) (p : PInfo) (v : PVal) (x : Txn) (s : State), Accepted (cmdParamSet s) r (setPayload i bs) s ∧ i.id < 65536 ∧ i.i1 < 256 ∧
      i.i2 < 256 ∧ bs.length < 256 ∧ pInfo i.id = some p ∧ pParse p bs = some v ∧ readOnly i = false ∧ (classOf i.id = .locked → s.core.mode = .service) ∧
      (tenant s r.tenant).txn = some x ∧ x.waiting = false ∧ x.writes.length < 128 ∧ stageUsed (stagePut { inst := i, value := v } x.writes) ≤ 4096 ∧
      protectLocked [{ inst := i, value := v }] s = false) :=
  ⟨⟨rq, 0x0401, 3, 0, pRowOf 0x0401, live, by decide +kernel⟩,
   ⟨rq, 0xFFFF, 3, 0, live, by decide +kernel⟩,
   ⟨rq, 0x0401, live, by decide +kernel⟩,
   ⟨rq, { id := 0x020E, i1 := 1, i2 := 0 }, [5], pRowOf 0x020E, .num 5, live, takeOcc .commitAccepted (begun 0x0301 rq live), by decide +kernel⟩,
   ⟨rq, { id := 0x0D02, i1 := 0, i2 := 0 }, [1], pRowOf 0x0D02, .num 1, live, by decide +kernel⟩,
   ⟨rq, { id := 0x020E, i1 := 1, i2 := 0 }, [5], pRowOf 0x020E, .num 5, txn0, ten 0 (fun t => { t with txn := some txn0 }) live, by decide +kernel⟩⟩

/-- The hypotheses of each clause of TransactionsAndFactory are met. -/
theorem wit_TransactionsAndFactory :
    (∃ (r : Req) (s : State), Accepted cmdTxnBegin r [] s ∧ (tenant s r.tenant).txn = none ∧ openTxns s < 8) ∧
    (∃ (r : Req) (s : State), Accepted cmdTxnBegin r [] s ∧ (tenant s r.tenant).txn ≠ none) ∧
    (∃ (r : Req) (x : Txn) (s : State) (u : State), Accepted (cmdTxnCommit s) r [] s ∧ (tenant s r.tenant).txn = some x ∧ x.waiting = false ∧ r.persist = false ∧
      (x.writes.map (fun w => w.inst)).Nodup ∧ u = takeOcc .commitAccepted (useTxn r.tenant (begun 0x0304 r s)) ∧ protectLocked x.writes s = false ∧
      conflictOf x.base x.writes s = none ∧ (lockedWrite x.writes = none ∨ s.core.mode = .service) ∧ x.writes.all (writeReady false u) = true ∧
      crossFail x.writes u = none) ∧
    (∃ (r : Req) (x : Txn) (i : PInst) (s : State), Accepted (cmdTxnCommit s) r [] s ∧ (tenant s r.tenant).txn = some x ∧ x.waiting = false ∧
      conflictOf x.base x.writes s = some i) ∧
    (∃ (r : Req) (x : Txn) (s : State), Accepted (cmdTxnCommit s) r [] s ∧ (tenant s r.tenant).txn = some x ∧ x.waiting = true) ∧
    (∃ (r : Req) (s : State), Accepted (cmdTxnCommit s) r [] s ∧ (tenant s r.tenant).txn = none) ∧
    (∃ (r : Req) (x : Txn) (s : State), Accepted cmdTxnRollback r [] s ∧ (tenant s r.tenant).txn = some x ∧ x.waiting = false) ∧
    (∃ (r : Req) (x : Txn) (s : State), Accepted cmdTxnStatus r [] s ∧ (tenant s r.tenant).txn = some x) ∧
    (∃ (n : Nat) (x : Txn) (s : State), Live s ∧ fwWorks s = true ∧ (tenant s n).txn = some x ∧ x.waiting = false ∧ s.clk.us < x.usedAt + 300000000) ∧
    (∃ (n : Nat) (x : Txn) (s : State), Live s ∧ fwWorks s = true ∧ (tenant s n).txn = some x ∧ x.waiting = false ∧ x.usedAt + 300000000 ≤ s.clk.us) ∧
    (∃ (f : Bool) (c : WaitCommit) (s : State), Live s ∧ fwWorks s = true ∧ s.par.waiting = [c] ∧ c.overtaken = false ∧ c.persist = false ∧
      (lockedWrite c.writes = none ∨ s.core.mode = .service) ∧ c.writes.all (writeReady false s) = true ∧ crossFail c.writes s = none ∧
      (c.writes.map (fun w => w.inst)).Nodup ∧ protectLocked c.writes s = false) ∧
    (∃ (f : Bool) (c : WaitCommit) (s : State), Live s ∧ fwWorks s = true ∧ s.par.waiting = [c] ∧ c.overtaken = false ∧ lockedWrite c.writes = none ∧
      protectLocked c.writes s = false ∧ c.writes.all (writeReady false s) = false ∧ s.clk.us < c.deadline) ∧
    (∃ (r : Req) (o : Nat) (s : State), Accepted cmdConfigFactory r [byte o] s ∧ o < 256 ∧ s.par.waiting = [] ∧ pv s 0x0D06 ≤ s.nv.resvMv ∧ r.env.headD 0 = 0) ∧
    (∃ (r : Req) (o : Nat) (s : State), Accepted cmdConfigFactory r [byte o] s ∧ s.par.waiting ≠ []) ∧
    (∃ (r : Req) (s : State), Accepted cmdTxnBegin r [] s ∧ 8 ≤ openTxns s) :=
  ⟨⟨rq, live, by decide +kernel⟩,
   ⟨rq, ten 0 (fun t => { t with txn := some txn0 }) live, by decide +kernel⟩,
   ⟨rq, txn1, ten 0 (fun t => { t with txn := some txn1 }) live, takeOcc .commitAccepted (begun 0x0304 rq (ten 0 (fun t => { t with txn := some txn1 }) live)),
     by decide +kernel⟩,
   ⟨rq, txn1, { id := 0x020E, i1 := 1, i2 := 0 }, par (fun x => { x with cells := [{ inst := { id := 0x020E, i1 := 1, i2 := 0 }, committed := .num 3, inForce := .num 3, pending := false, epoch := 2 }] }) (setN 0x0202 0 0x3FFF (ten 0 (fun t => { t with txn := some txn1 }) live)),
     by decide +kernel⟩,
   ⟨rq, { txn1 with waiting := true }, ten 0 (fun t => { t with txn := some { txn1 with waiting := true } }) live, by decide +kernel⟩,
   ⟨rq, live, by decide +kernel⟩,
   ⟨rq, txn1, ten 0 (fun t => { t with txn := some txn1 }) live, by decide +kernel⟩,
   ⟨rq, txn1, ten 0 (fun t => { t with txn := some txn1 }) live, by decide +kernel⟩,
   ⟨0, txn1, ten 0 (fun t => { t with txn := some txn1 }) live, by decide +kernel⟩,
   ⟨0, txn1, at_ 300000000 (ten 0 (fun t => { t with txn := some txn1 }) live), by decide +kernel⟩,
   ⟨false, { wc with writes := txn1.writes }, par (fun x => { x with waiting := [({ wc with writes := txn1.writes })] }) live, by decide +kernel⟩,
   ⟨false, { wc with writes := [{ inst := { id := 0x0401, i1 := 3, i2 := 0 }, value := .num 1 }] },
     par (fun x => { x with waiting := [({ wc with writes := [{ inst := { id := 0x0401, i1 := 3, i2 := 0 }, value := .num 1 }] })] }) (rl 3 (fun x => { x with st := .on, en := true }) live),
     by decide +kernel⟩,
   ⟨rq, 0, md .service (nv (fun x => { x with resvMv := 14000 }) live), by decide +kernel⟩,
   ⟨rq, 0, par (fun x => { x with waiting := [wc] }) (md .service (nv (fun x => { x with resvMv := 14000 }) live)), by decide +kernel⟩,
   ⟨rq, { live with tenants := vmod (live.tenants.map (fun t => { t with txn := some txn0 })) 0 (fun t => { t with txn := none }) }, by decide +kernel⟩⟩

/-- The hypotheses of each clause of SessionCommands are met. -/
theorem wit_SessionCommands :
    (∃ (r : Req) (s : State), Accepted cmdSessionOpen r [byte 0] s ∧ r.tenant < 64 ∧ pn s 0x0201 r.tenant = r.port ∧ sessionOf s r.tenant = none) ∧
    (∃ (r : Req) (s : State), Accepted cmdSessionOpen r [byte 1] s ∧ r.tenant < 64 ∧ pn s 0x0201 r.tenant = r.port ∧ sessionOf s r.tenant = none ∧
      hasCap s r.tenant capBanks = true ∧ r.port = 0 ∨ r.port = 2 ∧ (port s r.port).bound = none) ∧
    (∃ (r : Req) (n : Nat) (s : State), Accepted cmdSessionOpen r [byte 1] s ∧ pn s 0x0201 r.tenant = r.port ∧ hasCap s r.tenant capBanks = true ∧
      r.port = 0 ∨ r.port = 2 ∧ (port s r.port).bound = some n ∧ n ≠ r.tenant) ∧
    (∃ (r : Req) (o : Nat) (s : State), Accepted cmdSessionOpen r [byte o] s ∧ pn s 0x0201 r.tenant ≠ r.port) ∧
    (∃ (r : Req) (s : State), Accepted cmdSessionClose r [] s ∧ hasPlace s r.port = false) ∧
    (∃ (r : Req) (s : State), Accepted cmdSessionClose r [] s ∧ hasPlace s r.port = true) :=
  ⟨⟨{ rq with tenant := 5 }, setN 0x0201 5 1 live, by decide +kernel⟩,
   ⟨{ rq with tenant := 5, port := 2 }, setN 0x0202 5 0x3FFF (setN 0x0201 5 2 live), by decide +kernel⟩,
   ⟨{ rq with tenant := 5, port := 2 }, 0, setN 0x0202 5 0x3FFF (setN 0x0201 5 2 bound10), by decide +kernel⟩,
   ⟨{ rq with tenant := 5 }, 0, setN 0x0201 5 2 live, by decide +kernel⟩,
   ⟨rq, prt 1 (fun q => { q with rspQ := List.replicate 32 rsp }) live, by decide +kernel⟩,
   ⟨rq, live, by decide +kernel⟩⟩

/-- The hypotheses of each clause of AuthenticationCommands are met. -/
theorem wit_AuthenticationCommands :
    (∃ (r : Req) (s : State), Accepted cmdAuthChallenge r [] s ∧ lockedOut s r.tenant = false) ∧
    (∃ (r : Req) (s : State), Accepted cmdAuthChallenge r [] s ∧ lockedOut s r.tenant = true) ∧
    (∃ (r : Req) (proof : Bytes) (nonce : Bytes) (s : State), Accepted cmdAuthProve r proof s ∧ nonceOf s r.tenant = some nonce) ∧
    (∃ (r : Req) (proof : Bytes) (s : State), Accepted cmdAuthProve r proof s ∧ nonceOf s r.tenant = none) ∧
    (∃ (n : Nat) (p : Nat) (nonce : Bytes) (proof : Bytes) (s : State), readBytes s (keyAddr n) 32 = zeros 32) ∧
    (∃ (r : Req) (n : Nat) (key : Bytes) (s : State), MemOk s ∧ Accepted cmdTenantWrite r (leBytes 1 n ++ zeros 3 ++ key) s ∧ n < 63 ∧ supplyOk s 32 = true ∧
      markerDue s = false) ∧
    (∃ (n : Nat) (s : State), powered s = true) :=
  ⟨⟨rq, live, by decide +kernel⟩,
   ⟨rq, ten 0 (fun t => { t with lockout := true }) live, by decide +kernel⟩,
   ⟨rq, zeros 16, zeros 16, ten 0 (fun t => { t with nonce := some (zeros 16) }) live, by decide +kernel⟩,
   ⟨rq, zeros 16, live, by decide +kernel⟩,
   ⟨3, 1, zeros 16, zeros 16, { live with mem := memWrites [] (keyAddr 3) (zeros 32) }, by decide +kernel⟩,
   ⟨rq, 3, zeros 32, nv (fun x => { x with resvMv := 14000 }) live, by decide +kernel⟩,
   ⟨3, live, by decide +kernel⟩⟩

/-- The hypotheses of each clause of StatusCommands are met. -/
theorem wit_StatusCommands :
    (∃ (r : Req) (s : State), Accepted cmdIdentify r [] s) ∧
    (∃ (r : Req) (s : State), Accepted cmdStatus r [] s) ∧
    (∃ (r : Req) (s : State), Accepted cmdCreditsRead r [] s) ∧
    (∃ (r : Req) (n : Nat) (s : State), Accepted cmdEvents r [byte n] s ∧ n < 256 ∧ hasPlace s r.port = false) ∧
    (∃ (r : Req) (n : Nat) (s : State), Accepted cmdEvents r [byte n] s ∧ n < 256 ∧ r.tenant < 64 ∧ hasPlace s r.port = true) :=
  ⟨⟨rq, live, by decide +kernel⟩,
   ⟨rq, live, by decide +kernel⟩,
   ⟨rq, live, by decide +kernel⟩,
   ⟨rq, 1, prt 1 (fun q => { q with rspQ := List.replicate 32 rsp }) (ten 0 (fun t => { t with queue := [ev 0x0101], posted := 1 }) live), by decide +kernel⟩,
   ⟨rq, 1, ten 0 (fun t => { t with queue := [ev 0x0101], posted := 1 }) live, by decide +kernel⟩⟩

/-- The hypotheses of each clause of ResponsesQueueAndCredit are met. -/
theorem wit_ResponsesQueueAndCredit :
    (∃ (code : Nat) (st : Nat) (r : Req) (pl : Bytes) (s : State), r.port < 4 ∧ hasPlace s r.port = true) ∧
    (∃ (code : Nat) (st : Nat) (r : Req) (pl : Bytes) (s : State), r.port < 4 ∧ hasPlace s r.port = false) ∧
    (∃ (p : Nat) (f : RspFrame) (fs : List RspFrame) (s : State), BusUp p s ∧ p < 4 ∧ (port s p).rspQ = f :: fs) ∧
    (∃ (p : Nat) (w : WaitRsp) (ws : List WaitRsp) (s : State), Clocked s ∧ p < 4 ∧ (port s p).rspWait = w :: ws ∧ (port s p).rspQ.length < 32 ∧ w.closes = false) ∧
    (∃ (p : Nat) (w : WaitRsp) (ws : List WaitRsp) (s : State), Clocked s ∧ p < 4 ∧ (port s p).rspWait = w :: ws ∧ (port s p).rspQ.length < 32 ∧ w.closes = true) :=
  ⟨⟨0x0101, 0, rq, [], live, by decide +kernel⟩,
   ⟨0x0101, 0, rq, [], prt 1 (fun q => { q with rspQ := List.replicate 32 rsp }) live, by decide +kernel⟩,
   ⟨1, rsp, [rsp], prt 1 (fun q => { q with rspQ := [rsp, rsp] }) live, by decide +kernel⟩,
   ⟨1, wrsp false, [], prt 1 (fun q => { q with rspQ := [rsp], rspWait := [wrsp false] }) live, by decide +kernel⟩,
   ⟨1, wrsp true, [], prt 1 (fun q => { q with rspQ := [rsp], rspWait := [wrsp true] }) live, by decide +kernel⟩⟩

/-- The hypotheses of each clause of RequestsCheckedInOrder are met. -/
theorem wit_RequestsCheckedInOrder :
    (∃ (d : CmdDef) (r : Req) (pl : Bytes) (s : State), BusUp r.port s) :=
  ⟨cmdIdentify, rq, [], live, by decide +kernel⟩

/-- The hypotheses of each clause of SubmissionTakesFrames are met. -/
theorem wit_SubmissionTakesFrames :
    (∃ (p : Nat) (st : Nat) (env : List Int) (f : Bytes) (s : State), BusUp p s ∧ p < 4 ∧ serves s p = true ∧ (port s p).reqBusy = false ∧
      f = bytesAt (port s p).reqBuf 0 (port s p).reqLen ∧ frameCheck f = some st) ∧
    (∃ (r : Req) (f : Bytes) (s : State), BusUp r.port s ∧ r.port < 4 ∧ serves s r.port = true ∧ (port s r.port).reqBusy = false ∧
      f = bytesAt (port s r.port).reqBuf 0 (port s r.port).reqLen ∧ frameCheck f = none ∧ r = reqOf r.port f r.env ∧ f.length = 10) ∧
    (∃ (r : Req) (f : Bytes) (pl : Bytes) (out : Bytes) (d : CmdDef) (st : Nat) (s : State) (s1 : State), BusUp r.port s ∧ r.port < 4 ∧ serves s r.port = true ∧
      (port s r.port).reqBusy = false ∧ f = bytesAt (port s r.port).reqBuf 0 (port s r.port).reqLen ∧ frameCheck f = none ∧ r = reqOf r.port f r.env ∧
      pl = (f.drop 8).take (f.length - 10) ∧ commandOf (fieldAt f 2 2) pl s = some d ∧ Accepted d r pl s ∧ d.body r pl (begun d.code r s) = .done st out s1) ∧
    (∃ (r : Req) (f : Bytes) (s : State), BusUp r.port s ∧ r.port < 4 ∧ serves s r.port = true ∧ (port s r.port).reqBusy = false ∧
      f = bytesAt (port s r.port).reqBuf 0 (port s r.port).reqLen ∧ frameCheck f = none ∧ r = reqOf r.port f r.env ∧ f.length = 10 ∧ fieldAt f 2 2 = 0x0100 ∧
      Accepted cmdIdentify r [] s) ∧
    (∃ (p : Nat) (env : List Int) (s : State), BusUp p s ∧ serves s p = false) ∧
    (∃ (line : Bytes) (f : Bytes) (env : List Int) (s : State), BusUp 3 s ∧ OnLine line (byte 1 :: f) ∧ f.length < 10 ∨ 256 < f.length) ∧
    (∃ (line : Bytes) (f : Bytes) (env : List Int) (s : State), BusUp 3 s ∧ serves s 3 = true ∧ OnLine line (byte 1 :: f) ∧ 10 ≤ f.length ∧ f.length ≤ 256) ∧
    (∃ (r : Req) (line : Bytes) (f : Bytes) (pl : Bytes) (out : Bytes) (d : CmdDef) (st : Nat) (s : State) (u : State) (s1 : State), BusUp 3 s ∧ serves s 3 = true ∧
      (port s 3).reqBusy = false ∧ OnLine line (byte 1 :: f) ∧ u = onPort 3 (fun q => { q with reqBuf := f ++ q.reqBuf.drop f.length, reqLen := f.length }) s ∧
      frameCheck f = none ∧ r = reqOf 3 f r.env ∧ pl = (f.drop 8).take (f.length - 10) ∧ commandOf (fieldAt f 2 2) pl u = some d ∧ Accepted d r pl u ∧
      d.body r pl (begun d.code r u) = .done st out s1) ∧
    (∃ (r : Req) (line : Bytes) (f : Bytes) (s : State) (u : State), BusUp 3 s ∧ serves s 3 = true ∧ (port s 3).reqBusy = false ∧ OnLine line (byte 1 :: f) ∧
      u = onPort 3 (fun q => { q with reqBuf := f ++ q.reqBuf.drop f.length, reqLen := f.length }) s ∧ frameCheck f = none ∧ r = reqOf 3 f r.env ∧ f.length = 10 ∧
      fieldAt f 2 2 = 0x0100 ∧ Accepted cmdIdentify r [] u) ∧
    (∃ (line : Bytes) (f : Bytes) (env : List Int) (s : State), BusUp 3 s ∧ serves s 3 = false ∧ OnLine line (byte 1 :: f) ∧ 10 ≤ f.length ∧ f.length ≤ 256) ∧
    (∃ (line : Bytes) (g : Bytes) (env : List Int) (s : State), BusUp 3 s ∧ unstuff line = some g ∧ 2 < g.length ∧
      crc16 (g.take (g.length - 2)) ≠ fieldAt g (g.length - 2) 2) :=
  ⟨⟨1, 0x0012, [], zeros 3, prt 1 (fun q => { q with reqBuf := zeros 3, reqLen := 3 }) live, by decide +kernel⟩,
   ⟨reqOf 1 (mkFrame 0 7 0x0101 0 []) [], mkFrame 0 7 0x0101 0 [], prt 1 (fun q => { q with reqBuf := mkFrame 0 7 0x0101 0 [], reqLen := 10 }) live, by decide +kernel⟩,
   ⟨reqOf 1 (mkFrame 0 7 0x0100 0 []) [], mkFrame 0 7 0x0100 0 [], [],
     idPl (begun 0x0100 (reqOf 1 (mkFrame 0 7 0x0100 0 []) []) (prt 1 (fun q => { q with reqBuf := mkFrame 0 7 0x0100 0 [], reqLen := 10 }) live)) 1, cmdIdentify,
     stOk, prt 1 (fun q => { q with reqBuf := mkFrame 0 7 0x0100 0 [], reqLen := 10 }) live,
     begun 0x0100 (reqOf 1 (mkFrame 0 7 0x0100 0 []) []) (prt 1 (fun q => { q with reqBuf := mkFrame 0 7 0x0100 0 [], reqLen := 10 }) live), ⟨by decide +kernel,
     by decide +kernel, by decide +kernel, by decide +kernel, by decide +kernel, by decide +kernel, by decide +kernel, by decide +kernel, rfl, by decide +kernel,
     rfl⟩⟩,
   ⟨reqOf 1 (mkFrame 0 7 0x0100 0 []) [], mkFrame 0 7 0x0100 0 [], prt 1 (fun q => { q with reqBuf := mkFrame 0 7 0x0100 0 [], reqLen := 10 }) live, by decide +kernel⟩,
   ⟨1, [], prt 1 (fun q => { q with ready := false }) live, by decide +kernel⟩,
   ⟨onLine (byte 1 :: zeros 3), zeros 3, [], live, by decide +kernel⟩,
   ⟨onLine (byte 1 :: mkFrame 0 7 0x0101 0 []), mkFrame 0 7 0x0101 0 [], [], live, by decide +kernel⟩,
   ⟨reqOf 3 (mkFrame 0 7 0x0100 0 []) [], onLine (byte 1 :: mkFrame 0 7 0x0100 0 []), mkFrame 0 7 0x0100 0 [], [],
     idPl (begun 0x0100 (reqOf 3 (mkFrame 0 7 0x0100 0 []) []) (onPort 3 (fun q => { q with reqBuf := mkFrame 0 7 0x0100 0 [] ++ q.reqBuf.drop (mkFrame 0 7 0x0100 0 []).length, reqLen := (mkFrame 0 7 0x0100 0 []).length }) (onPt 3 live))) 3,
     cmdIdentify, stOk, onPt 3 live, onPort 3 (fun q => { q with reqBuf := mkFrame 0 7 0x0100 0 [] ++ q.reqBuf.drop (mkFrame 0 7 0x0100 0 []).length, reqLen := (mkFrame 0 7 0x0100 0 []).length }) (onPt 3 live),
     begun 0x0100 (reqOf 3 (mkFrame 0 7 0x0100 0 []) []) (onPort 3 (fun q => { q with reqBuf := mkFrame 0 7 0x0100 0 [] ++ q.reqBuf.drop (mkFrame 0 7 0x0100 0 []).length, reqLen := (mkFrame 0 7 0x0100 0 []).length }) (onPt 3 live)),
     ⟨by decide +kernel, by decide +kernel, by decide +kernel, by decide +kernel, by decide +kernel, by decide +kernel, by decide +kernel, by decide +kernel, rfl,
     by decide +kernel, rfl⟩⟩,
   ⟨reqOf 3 (mkFrame 0 7 0x0100 0 []) [], onLine (byte 1 :: mkFrame 0 7 0x0100 0 []), mkFrame 0 7 0x0100 0 [], onPt 3 live,
     onPort 3 (fun q => { q with reqBuf := mkFrame 0 7 0x0100 0 [] ++ q.reqBuf.drop (mkFrame 0 7 0x0100 0 []).length, reqLen := (mkFrame 0 7 0x0100 0 []).length }) (onPt 3 live),
     by decide +kernel⟩,
   ⟨onLine (byte 1 :: mkFrame 0 7 0x0101 0 []), mkFrame 0 7 0x0101 0 [], [], prt 3 (fun q => { q with ready := false }) live, by decide +kernel⟩,
   ⟨stuff [1, 2, 3, 4], [1, 2, 3, 4], [], live, by decide +kernel⟩⟩

/-- The hypotheses of each clause of RegistersServeAndReset are met. -/
theorem wit_RegistersServeAndReset :
    (∃ (p : Nat) (m : BitVec 32) (s : State), BusUp p s) ∧
    (∃ (p : Nat) (s : State), BusUp p s ∧ p < 4 ∧ serves s p = true) ∧
    (∃ (p : Nat) (v : Nat) (env : List Int) (s : State), BusUp p s ∧ p < 4 ∧ v < 2 ^ 32 ∧ serves s p = true) ∧
    (∃ (off : Nat) (data : Bytes) (c : Byte) (env : List Int) (s : State), BusUp 1 s ∧ pn s 0x020A = 1 ∧ data ≠ [] ∧ data.length < 256 ∧
      c ≠ smbusPec s (leBytes 2 off ++ leBytes 1 data.length ++ data)) ∧
    (∃ (p : Nat) (n : Nat) (e : Event) (es : List Event) (s : State), BusUp p s ∧ p < 4 ∧ (port s p).ready = true ∧ sessionOf s n = some p ∧
      (tenant s n).queue = e :: es) ∧
    (∃ (p : Nat) (n : Nat) (s : State), BusUp p s ∧ p < 4 ∧ (port s p).ready = true ∧ (sessionOf s n ≠ some p ∨ (tenant s n).queue = [])) ∧
    (∃ (p : Nat) (s : State), BusUp p s ∧ p < 4) ∧
    (∃ (p : Nat) (s : State), powered s = true ∧ p < 4 ∧ (port s p).inReset = true) :=
  ⟨⟨1, 1, prt 1 (fun q => { q with irqStatus := 5 }) live, by decide +kernel⟩,
   ⟨1, prt 1 (fun q => { q with winUnbound := true }) live, by decide +kernel⟩,
   ⟨1, 0x12345678, [], live, by decide +kernel⟩,
   ⟨0x58, zeros 4, 1 + smbusPec (setN 0x020A 0 1 live) (leBytes 2 0x58 ++ leBytes 1 4 ++ zeros 4), [], setN 0x020A 0 1 live, by decide +kernel⟩,
   ⟨1, 0, ev 0x0101, [], ten 0 (fun t => { t with queue := [ev 0x0101], posted := 1 }) live, by decide +kernel⟩,
   ⟨1, 0, live, by decide +kernel⟩,
   ⟨1, live, by decide +kernel⟩,
   ⟨1, prt 1 (fun q => { q with inReset := true }) live, by decide +kernel⟩⟩

/-- The hypotheses of each clause of I3cBusCommands are met. -/
theorem wit_I3cBusCommands :
    (∃ (a : Nat) (s : State), I3cUp s ∧ s.i3c.dynAddr = none) ∧
    (∃ (a : Nat) (s : State), I3cUp s ∧ s.i3c.dynAddr ≠ none) ∧
    (∃ (s : State), I3cUp s) ∧
    (∃ (e : Nat) (n : Nat) (s : State), I3cUp s ∧ e < 256 ∧ n ≤ 256) ∧
    (∃ (s : State), I3cUp s ∧ s.i3c.dynAddr ≠ none) ∧
    (∃ (ack : Bool) (s : State), I3cUp s ∧ s.i3c.dynAddr ≠ none ∧ bit (pn s 0x020E 0) 2 = true ∧ bit s.i3c.events 0 = true) :=
  ⟨⟨9, live, by decide +kernel⟩,
   ⟨9, i3c (fun c => { c with dynAddr := some 8 }) live, by decide +kernel⟩,
   ⟨live, by decide +kernel⟩,
   ⟨1, 64, live, by decide +kernel⟩,
   ⟨i3c (fun c => { c with dynAddr := some 8 }) live, by decide +kernel⟩,
   ⟨true, prt 0 (fun q => { q with irqStatus := 1, irqNew := 1 }) (i3c (fun c => { c with dynAddr := some 8, events := 1 }) live), by decide +kernel⟩⟩

/-- The hypotheses of each clause of SerialBusCommands are met. -/
theorem wit_SerialBusCommands :
    (∃ (s : State), BusUp 2 s) ∧
    (∃ (s : State), BusUp 1 s ∧ alertPin s = true) ∧
    (∃ (s : State), BusUp 1 s ∧ alertPin s = false) ∧
    (∃ (line : Bytes) (off : Nat) (n : Nat) (s : State), BusUp 3 s ∧ OnLine line (byte 3 :: (leBytes 2 off ++ leBytes 1 n)) ∧ 0 < n ∧ n ≤ 64) ∧
    (∃ (line : Bytes) (off : Nat) (n : Nat) (s : State), BusUp 3 s ∧ OnLine line (byte 3 :: (leBytes 2 off ++ leBytes 1 n)) ∧ n < 256 ∧ n = 0 ∨ 64 < n) ∧
    (∃ (line : Bytes) (off : Nat) (data : Bytes) (env : List Int) (s : State), BusUp 3 s ∧ OnLine line (byte 4 :: (leBytes 2 off ++ data)) ∧
      data = [] ∨ 64 < data.length) ∧
    (∃ (line : Bytes) (off : Nat) (data : Bytes) (env : List Int) (s : State), BusUp 3 s ∧ OnLine line (byte 4 :: (leBytes 2 off ++ data)) ∧ data ≠ [] ∧
      data.length ≤ 64 ∧ off < 65536) ∧
    (∃ (f : RspFrame) (fs : List RspFrame) (s : State), BusUp 3 s ∧ (port s 3).rspQ = f :: fs) ∧
    (∃ (n : Nat) (e : Event) (es : List Event) (s : State), BusUp 3 s ∧ (port s 3).rspQ = [] ∧ eventTenant s 3 = some n ∧ (tenant s n).queue = e :: es) ∧
    (∃ (s : State), BusUp 1 s ∧ s.core.ready = true ∧ (port s 1).inReset = false ∧ bit (pn s 0x020E 1) 3 = true ∧ irqOn s 1 ≠ 0) :=
  ⟨⟨live, by decide +kernel⟩,
   ⟨prt 1 (fun q => { q with irqStatus := 1 }) live, by decide +kernel⟩,
   ⟨live, by decide +kernel⟩,
   ⟨onLine (byte 3 :: (leBytes 2 4 ++ leBytes 1 4)), 4, 4, live, by decide +kernel⟩,
   ⟨onLine (byte 3 :: (leBytes 2 4 ++ leBytes 1 65)), 4, 65, live, by decide +kernel⟩,
   ⟨onLine (byte 4 :: leBytes 2 4), 4, [], [], live, by decide +kernel⟩,
   ⟨onLine (byte 4 :: (leBytes 2 0x58 ++ zeros 64)), 0x58, zeros 64, [], live, by decide +kernel⟩,
   ⟨rsp, [], prt 3 (fun q => { q with rspQ := [rsp] }) live, by decide +kernel⟩,
   ⟨0, ev 0x0101, [], ten 0 (fun t => { t with queue := [ev 0x0101], posted := 1 }) (onPt 3 live), by decide +kernel⟩,
   ⟨prt 1 (fun q => { q with irqStatus := 1 }) live, by decide +kernel⟩⟩

/-- The hypotheses of each clause of BoundaryScanCommands are met. -/
theorem wit_BoundaryScanCommands :
    (∃ (s : State), powered s = true) ∧
    (∃ (a : Nat) (b : Nat) (s : State), powered s = true ∧ s.tap.ctl = .testLogicReset ∨ s.tap.ctl = .runTestIdle ∧ s.tap.ir = 2 ∨ (s.tap.ir = 0 ∧
      s.tap.testEn = true ∧ s.core.mode ≠ .run)) ∧
    (∃ (a : Nat) (b : Nat) (s : State), powered s = true ∧ s.tap.ir = 1) ∧
    (∃ (a : Nat) (b : Nat) (s : State), powered s = true ∧ 5 ≤ s.tap.ir.toNat ∨ s.tap.ir = 3 ∨ s.tap.ir = 4 ∨ (s.tap.ir = 0 ∧
      (s.tap.testEn = false ∨ s.core.mode = .run))) ∧
    (∃ (r : Nat) (s : State), powered s = true ∧ r < 24 ∧ s.tap.ir = 0 ∧ s.tap.testEn = true ∧ s.core.mode ≠ .run) ∧
    (∃ (s : State), powered s = true ∧ s.tap.ir = 0 ∧ s.tap.testEn = true ∧ s.core.mode ≠ .run) :=
  ⟨⟨live, by decide +kernel⟩,
   ⟨5, 6, tap (fun x => { x with ir := 2 }) live, by decide +kernel⟩,
   ⟨5, 6, live, by decide +kernel⟩,
   ⟨5, 6, tap (fun x => { x with ir := 15 }) live, by decide +kernel⟩,
   ⟨3, tap (fun x => { x with ir := 0, testEn := true }) live, by decide +kernel⟩,
   ⟨tap (fun x => { x with ir := 0, testEn := true }) live, by decide +kernel⟩⟩

/-- The hypotheses of each clause of BackgroundAndLedgers are met. -/
theorem wit_BackgroundAndLedgers :
    (∃ (us : Nat) (i : Nat) (corrected : List Nat) (bad : List Nat) (weak : List Nat) (parityBad : Bool) (rivals : List (Nat × Bool)) (s : State) (u : State),
      Clocked s ∧ u = dispatch s ∧ fumaroleOn s = true ∧ (List.range 6).find? (startable u) = some i ∧ i < 5 ∧ us < 1000 * s.core.wdMs) ∧
    (∃ (us : Nat) (i : Nat) (corrected : List Nat) (bad : List Nat) (weak : List Nat) (parityBad : Bool) (rivals : List (Nat × Bool)) (s : State) (u : State),
      Clocked s ∧ u = dispatch s ∧ fumaroleOn s = true ∧ (List.range 6).find? (startable u) = some i ∧ 1000 * s.core.wdMs ≤ us) ∧
    (∃ (s : State), Live s) ∧
    (∃ (rivals : List (Nat × Bool)) (s : State) (u : State), Clocked s ∧ u = dispatch s ∧ fumaroleOn s = true ∧ mayStep u 1 = true) ∧
    (∃ (rivals : List (Nat × Bool)) (s : State) (u : State), Clocked s ∧ u = dispatch s ∧ fumaroleOn s = true ∧ mayStep u 1 = false) ∧
    (∃ (i : Nat) (s : State), i < 6 ∧ taskEnabled s i = true ∧ 0 < fallCount s i) ∧
    (∃ (r : Req) (i : Nat) (s : State) (u : State), Accepted (cmdBackground [byte 0, byte i]) r [byte 0, byte i] s ∧ i < 256 ∧
      u = (if fumaroleOn (begun 0x0F01 r s) then dispatch (begun 0x0F01 r s) else begun 0x0F01 r s)) ∧
    (∃ (r : Req) (i : Nat) (s : State) (u : State), Accepted (cmdBackground [byte 1, byte i]) r [byte 1, byte i] s ∧ i < 6 ∧
      u = (if fumaroleOn (begun 0x0F01 r s) then dispatch (begun 0x0F01 r s) else begun 0x0F01 r s) ∧ taskEnabled u i = true ∧ (task s i).running = false) ∧
    (∃ (r : Req) (s : State), Accepted cmdTelemetryRead r [] s) ∧
    (∃ (r : Req) (l : Nat) (i : Nat) (s : State), Accepted cmdLedgerRead r [byte l, byte i] s ∧ l < 256 ∧ i < 256) :=
  ⟨⟨100, 2, [], [], [], false, [], dueTask 2, dispatch (dueTask 2), by decide +kernel⟩,
   ⟨5000000, 2, [], [], [], false, [], dueTask 2, dispatch (dueTask 2), by decide +kernel⟩,
   ⟨bg (fun b => { b with windowUsed := 900 }) live, by decide +kernel⟩,
   ⟨[], dueTask 1, dispatch (dueTask 1), by decide +kernel⟩,
   ⟨[], bg (fun b => { b with windowUsed := 99999 }) live, dispatch (bg (fun b => { b with windowUsed := 99999 }) live), by decide +kernel⟩,
   ⟨2, bg (fun b => { b with faSeconds := 1000000 }) live, by decide +kernel⟩,
   ⟨rq, 2, live, (if fumaroleOn (begun 0x0F01 (rq) (live)) then dispatch (begun 0x0F01 (rq) (live)) else begun 0x0F01 (rq) (live)), by decide +kernel⟩,
   ⟨rq, 2, live, (if fumaroleOn (begun 0x0F01 (rq) (live)) then dispatch (begun 0x0F01 (rq) (live)) else begun 0x0F01 (rq) (live)), by decide +kernel⟩,
   ⟨rq, bg (fun b => { b with telemetry := zeros 48 }) live, by decide +kernel⟩,
   ⟨rq, 0, 3, live, by decide +kernel⟩⟩

/-- The hypotheses of each clause of CheckpointAndScrubsStep are met. -/
theorem wit_CheckpointAndScrubsStep :
    (∃ (s : State) (u : State), MemOk s ∧ Clocked s ∧ u = dispatch s ∧ fumaroleOn s = true ∧ mayStep u 0 = true ∧ copyGen s tcCheckpoint 0 + 1 < 2 ^ 32 ∧
      copyGen s tcCheckpoint 1 + 1 < 2 ^ 32) ∧
    (∃ (cs : List Nat) (s : State) (u : State), Clocked s ∧ u = dispatch s ∧ fumaroleOn s = true ∧ mayStep u 2 = true ∧ s.nv.badWords = []) ∧
    (∃ (w : Nat) (s : State) (u : State), Clocked s ∧ u = dispatch s ∧ fumaroleOn s = true ∧ mayStep u 2 = true ∧ s.nv.badWords = [] ∧
      512 * (task s 2).progress ≤ w ∧ w < 512 * (task s 2).progress + 512) ∧
    (∃ (gs : List Nat) (s : State) (u : State), Clocked s ∧ u = dispatch s ∧ fumaroleOn s = true ∧ mayStep u 3 = true) ∧
    (∃ (bad : Bool) (rivals : List (Nat × Bool)) (s : State) (u : State), Clocked s ∧ u = dispatch s ∧ fumaroleOn s = true ∧ mayStep u 4 = true ∧
      8 ≤ (task s 4).progress ∧ (task s 4).progress ≤ 51) ∧
    (∃ (k : Nat) (s : State), Clocked s ∧ fumaroleOn s = true ∧ mayStep (dispatch s) 5 = true ∧ s.log.pass = none ∧ passReason s = some 0 ∧ s.log.head = some k ∧
      s.log.headOff + 64 ≤ 0x1000) ∧
    (∃ (s : State), Clocked s ∧ fumaroleOn s = true ∧ mayStep (dispatch s) 5 = false) :=
  ⟨⟨nv (fun x => { x with resvMv := 14000 }) (bg (fun b => { b with restored := true }) live),
    dispatch (nv (fun x => { x with resvMv := 14000 }) (bg (fun b => { b with restored := true }) live)), by decide +kernel⟩,
   ⟨[3, 700], dueTask 2, dispatch (dueTask 2), by decide +kernel⟩,
   ⟨511, dueTask 2, dispatch (dueTask 2), by decide +kernel⟩,
   ⟨[4], tsk 3 (fun t => { t with progress := 128 }) (dueTask 3), dispatch (tsk 3 (fun t => { t with progress := 128 }) (dueTask 3)), by decide +kernel⟩,
   ⟨true, [], tsk 4 (fun t => { t with progress := 51 }) (dueTask 4), dispatch (tsk 4 (fun t => { t with progress := 51 }) (dueTask 4)), by decide +kernel⟩,
   ⟨0,
     bg (fun b => { b with tasks := b.tasks.map (fun t => { t with dueAt := 1000000000 }) }) (openSector 0 (openSector 5 { live with mem := (List.range 122).map (fun k => (sectorAddr (k + 6), 0)) })),
     by decide +kernel⟩,
   ⟨live, by decide +kernel⟩⟩

/-- The hypotheses of each clause of EventsReachQueues are met. -/
theorem wit_EventsReachQueues :
    (∃ (code : Nat) (flags : Nat) (src : Nat) (arg : Nat) (s : State), fwRuns s = false) ∧
    (∃ (code : Nat) (flags : Nat) (src : Nat) (arg : Nat) (n : Nat) (s : State) (u : State), fwRuns s = true ∧ u = takeOcc .eventPosted s ∧ n < 64 ∧
      bit (pn u 0x0205 n) (code / 256) = true ∧ queuedCount (tenant s n).queue < 32) ∧
    (∃ (code : Nat) (flags : Nat) (src : Nat) (arg : Nat) (n : Nat) (s : State) (u : State), fwRuns s = true ∧ u = takeOcc .eventPosted s ∧ n < 64 ∧
      bit (pn u 0x0205 n) (code / 256) = true ∧ 32 ≤ queuedCount (tenant s n).queue) ∧
    (∃ (code : Nat) (flags : Nat) (src : Nat) (arg : Nat) (n : Nat) (s : State) (u : State), fwRuns s = true ∧ u = takeOcc .eventPosted s ∧
      bit (pn u 0x0205 n) (code / 256) = false) ∧
    (∃ (e : Event) (x : Tenant), x.posted = x.delivered + x.queue.length + x.overflowed) ∧
    (∃ (e : Event) (x : Tenant), 32 ≤ queuedCount x.queue) :=
  ⟨⟨0x0101, 0, 0, 0, boot, by decide +kernel⟩,
   ⟨0x0101, 0, 0, 0, 0, live, takeOcc .eventPosted (live), by decide +kernel⟩,
   ⟨0x0101, 0, 0, 0, 0, ten 0 (fun t => { t with queue := List.replicate 32 (ev 0x0102), posted := 32 }) live,
     takeOcc .eventPosted (ten 0 (fun t => { t with queue := List.replicate 32 (ev 0x0102), posted := 32 }) live), by decide +kernel⟩,
   ⟨0x0101, 0, 0, 0, 0, setN 0x0205 0 0 live, takeOcc .eventPosted (setN 0x0205 0 0 live), by decide +kernel⟩,
   ⟨ev 0x0101, tenant live 0, by decide +kernel⟩,
   ⟨ev 0x0101, { tenant live 0 with queue := List.replicate 32 (ev 0x0102), posted := 32 }, by decide +kernel⟩⟩

end Sys2Proof.Tests
end

section
/-! Proofs about the clock tree (R28 to R37): what CLOCK_FAIL and the stopping of the converters and PIPE leave of the clocks and of the
core's run, what the crystal's and the PLL's happenings make of them, and obligation O7. -/

namespace Sys2Proof.Machine

/-! ### Operations that leave the clocks alone -/

@[simp] theorem raiseGlobal_clk (code src : Nat) (v : Option Int) (s : State) : (raiseGlobal code src v s).clk = s.clk :=
  (keeps_raiseGlobal (Sub.refl _) (Keeps.refl _ s)).clk rfl

@[simp] theorem stopConverters_clk (s : State) : (stopConverters s).clk = s.clk :=
  (keeps_stopConverters (Sub.refl _) (Keeps.refl _ s)).clk rfl

@[simp] theorem pipeStop_clk (s : State) : (pipeStop s).clk = s.clk := rfl

@[simp] theorem restartPipe_clk (s : State) : (restartPipe s).clk = s.clk :=
  (keeps_restartPipe (Sub.refl _) (Keeps.refl _ s)).clk rfl

@[simp] theorem resumeFirmware_clk (s : State) : (resumeFirmware s).clk = s.clk :=
  (keeps_resumeFirmware (Sub.refl _) (Keeps.refl _ s)).clk rfl

@[simp] theorem recordTry_clk (s : State) : (recordTry s).clk = s.clk :=
  (keeps_recordTry (Sub.refl _) (Keeps.refl _ s)).clk rfl

/-! ### The core's run -/

/-- Loss of lock starts no core reset (R34). -/
@[simp] theorem pllLossOfLock_run (s : State) : (pllLossOfLock s).core.run = s.core.run :=
  (keeps_pllLossOfLock (Sub.refl _) (Keeps.refl _ s)).coreK.run rfl

@[simp] theorem pllRelock_run (s : State) : (pllRelock s).core.run = s.core.run :=
  (keeps_pllRelock (Sub.refl _) (Keeps.refl _ s)).coreK.run rfl

/-! ### The reference (R28 to R33) -/

@[simp] theorem onPower_of_powered (f : State → State) {s : State} (h : powered s = true) : onPower f s = f s := if_pos h

/-- A crystal that REF may use is abandoned for the power cycle (R30, R33). -/
theorem refFallback_clk {s : State} (h : s.clk.crystal ≠ .unused) : (refFallback s).clk = { s.clk with crystal := .abandoned } := by
  simp [refFallback, h]

theorem latched_clockFail (s : State) : Latched 0x21 (raiseGlobal 0x21 0xFF none s) :=
  latched_raiseGlobal 0x21 0xFF none s (by decide)

/-- What both failures of the crystal do: REF falls back to the RC for good, with CLOCK_FAIL (R30, R33). -/
theorem clockFail_refFallback {s : State} (h : s.clk.crystal ≠ .unused) :
    (raiseGlobal 0x21 0xFF none (refFallback s)).clk = { s.clk with crystal := .abandoned } ∧
      Latched 0x21 (raiseGlobal 0x21 0xFF none (refFallback s)) :=
  ⟨(raiseGlobal_clk ..).trans (refFallback_clk h), latched_clockFail _⟩

theorem crystalQualified_of_qualifying {s : State} (h : s.clk.crystal = .qualifying) :
    crystalQualified s = { s with clk := { s.clk with crystal := .inUse } } := if_pos h

theorem crystalQualifyTimeout_of_qualifying {s : State} (h : s.clk.crystal = .qualifying) :
    crystalQualifyTimeout s = raiseGlobal 0x21 0xFF none (refFallback s) := if_pos h

theorem crystalFailure_of_inUse {s : State} (h : s.clk.crystal = .inUse) :
    crystalFailure s = raiseGlobal 0x21 0xFF none (refFallback s) := if_pos h

/-! ### The PLL (R34 to R36) -/

/-- Loss of lock raises CLOCK_FAIL on a state whose clocks have fallen back (R34). -/
theorem pllLossOfLock_of_locked {s : State} (h : s.clk.pllLocked = true) :
    ∃ u, pllLossOfLock s = raiseGlobal 0x21 0xFF none u ∧
      u.clk = { s.clk with pllLocked := false, gated := true, gatesLow := true, tickFromRef := true, qiKhz := 4800 } :=
  ⟨_, if_pos h, by simp⟩

theorem pllLossOfLock_clk {s : State} (h : s.clk.pllLocked = true) :
    (pllLossOfLock s).clk =
      { s.clk with pllLocked := false, gated := true, gatesLow := true, tickFromRef := true, qiKhz := 4800 } := by
  obtain ⟨u, hu, hc⟩ := pllLossOfLock_of_locked h
  rw [hu, raiseGlobal_clk, hc]

theorem latched_pllLossOfLock {s : State} (h : s.clk.pllLocked = true) : Latched 0x21 (pllLossOfLock s) := by
  obtain ⟨u, hu, _⟩ := pllLossOfLock_of_locked h
  exact hu ▸ latched_clockFail u

theorem pllRelock_clk {s : State} (h : s.clk.pllLocked = false) :
    (pllRelock s).clk =
      { s.clk with pllLocked := true, gated := false, gatesLow := false, tickFromRef := false, qiKhz := 5000 } := by
  simp [pllRelock, h]

/-! ### The commands -/

theorem exec_crystalQualified {s : State} (h : powered s = true) : exec .crystalQualified s = .next (crystalQualified s) :=
  congrArg Host.Outcome.next (onPower_of_powered _ h)

theorem exec_crystalQualifyTimeout {s : State} (h : powered s = true) :
    exec .crystalQualifyTimeout s = .next (crystalQualifyTimeout s) :=
  congrArg Host.Outcome.next (onPower_of_powered _ h)

theorem exec_crystalFailure {s : State} (h : powered s = true) : exec .crystalFailure s = .next (crystalFailure s) :=
  congrArg Host.Outcome.next (onPower_of_powered _ h)

theorem exec_pllLossOfLock {s : State} (h : powered s = true) : exec .pllLossOfLock s = .next (pllLossOfLock s) :=
  congrArg Host.Outcome.next (onPower_of_powered _ h)

theorem exec_pllRelock {s : State} (h : powered s = true) : exec .pllRelock s = .next (pllRelock s) :=
  congrArg Host.Outcome.next (onPower_of_powered _ h)

/-- Settles O7: each happening writes the clocks once, and what surrounds that write (CLOCK_FAIL, the converters, PIPE, the firmware's
return) leaves them and the core's run alone. -/
theorem clocksFailAndReturn : Obligations.ClocksFailAndReturn := by
  refine ⟨fun s hp hq => ?qualified, fun s hp hq => ?timeout, fun s hp hu => ?failure, fun s hp hl => ?loss, fun s hp hl => ?relock⟩
  case qualified => rw [exec_crystalQualified hp, crystalQualified_of_qualifying hq]
  case timeout =>
    rw [exec_crystalQualifyTimeout hp, crystalQualifyTimeout_of_qualifying hq]
    exact ⟨_, rfl, clockFail_refFallback (by simp [hq])⟩
  case failure =>
    rw [exec_crystalFailure hp, crystalFailure_of_inUse hu]
    exact ⟨_, rfl, clockFail_refFallback (by simp [hu])⟩
  case loss => exact ⟨_, exec_pllLossOfLock hp, latched_pllLossOfLock hl, pllLossOfLock_run s, pllLossOfLock_clk hl⟩
  case relock => exact ⟨_, exec_pllRelock hp, pllRelock_run s, pllRelock_clk hl⟩

end Sys2Proof.Machine
end

section
/-! Proofs about boundary scan (R79 to R86): the controller's walks, the instruction that acts, what a scan of either register does, the
balls under EXTEST, and obligation O56. The TAP controller's states and the captured cells are the model's reading of R79 and R85
(assumption 63), and how long a fault response holds Pnn_EN low under EXTEST is its choice (assumption 149). -/

namespace Sys2Proof.Machine

/-! ### The controller (R79) -/

theorem TapCtl.walk_append (l m : List Bool) (c : TapCtl) : c.walk (l ++ m) = (c.walk l).walk m := List.foldl_append

/-- Five edges with TMS high reach Test-Logic-Reset from every state (R80). -/
theorem TapCtl.walk_five_true (c : TapCtl) : c.walk (List.replicate 5 true) = .testLogicReset := by
  cases c <;> rfl

/-- Shift-DR lasts while TMS is low. -/
theorem TapCtl.walk_shiftDr (n : Nat) : TapCtl.shiftDr.walk (List.replicate n false) = .shiftDr := by
  induction n with
  | zero => rfl
  | succ n ih => exact ih

/-- A scan may begin in either stable state outside the two register columns. -/
theorem TapCtl.walk_irPath {c : TapCtl} (h : c = .testLogicReset ∨ c = .runTestIdle) : c.walk irPath = .runTestIdle := by
  rcases h with rfl | rfl <;> rfl

theorem TapCtl.walk_drPath {c : TapCtl} (h : c = .testLogicReset ∨ c = .runTestIdle) : c.walk drPath = .runTestIdle := by
  have enter : c.walk [false, true, false, false] = .shiftDr := by rcases h with rfl | rfl <;> rfl
  rw [drPath, TapCtl.walk_append, TapCtl.walk_append, enter, TapCtl.walk_shiftDr]
  rfl

/-! ### The instruction that acts (R81, R82) -/

theorem tapInstr_of_unlisted {code : BitVec 4} (h : 5 ≤ code.toNat) : tapInstr code = .bypass := by
  unfold tapInstr
  split
  case h_6 => rfl
  all_goals omega

theorem scanAllowed_eq_true {s : State} : scanAllowed s = true ↔ s.tap.testEn = true ∧ s.core.mode ≠ .run := by
  simp [scanAllowed]

theorem scanAllowed_eq_false {s : State} : scanAllowed s = false ↔ s.tap.testEn = false ∨ s.core.mode = .run := by
  simp [scanAllowed, ← imp_iff_not_or, ← Bool.not_eq_true]

theorem tapActs_idcode {s : State} (h : s.tap.ir = 1) : tapActs s = .idcode := by simp [tapActs, tapInstr, h]

theorem tapActs_sample {s : State} (h : s.tap.ir = 2) : tapActs s = .sample := by simp [tapActs, tapInstr, h]

theorem tapActs_extest {s : State} (h : s.tap.ir = 0) (ha : scanAllowed s = true) : tapActs s = .extest := by
  simp [tapActs, tapInstr, h, ha]

theorem tapActs_extest_barred {s : State} (h : s.tap.ir = 0) (ha : scanAllowed s = false) : tapActs s = .bypass := by
  simp [tapActs, tapInstr, h, ha]

theorem tapActs_unlisted {s : State} (h : 5 ≤ s.tap.ir.toNat) : tapActs s = .bypass := by
  simp [tapActs, tapInstr_of_unlisted h]

/-- CLAMP acts as itself or as BYPASS. -/
theorem tapActs_clamp {s : State} (h : s.tap.ir = 3) : tapActs s = .clamp ∨ tapActs s = .bypass := by
  cases ha : scanAllowed s <;> simp [tapActs, tapInstr, h, ha]

/-- HIGHZ acts as itself or as BYPASS. -/
theorem tapActs_highz {s : State} (h : s.tap.ir = 4) : tapActs s = .highz ∨ tapActs s = .bypass := by
  cases ha : scanAllowed s <;> simp [tapActs, tapInstr, h, ha]

/-! ### Scans of the data register (R80, R84, R85) -/

/-- The boundary register is the one that EXTEST and SAMPLE/PRELOAD select. -/
theorem captureDrScan_boundary {a b : Nat} {s : State} (h : tapActs s = .extest ∨ tapActs s = .sample) :
    captureDrScan a b s =
      onTap (fun t => { t with cells := BitVec.ofNat 259 b }) (shiftedOut (captureCells s a) s) := by
  rcases h with h | h <;> simp only [captureDrScan, h]

theorem captureDrScan_idcode {a b : Nat} {s : State} (h : tapActs s = .idcode) :
    captureDrScan a b s = shiftedOut (idcodeValue ||| b <<< 32) s := by
  simp only [captureDrScan, h]

/-- The bypass register is the one that CLAMP, HIGHZ and BYPASS select. -/
theorem captureDrScan_bypass {a b : Nat} {s : State} (h : tapActs s = .clamp ∨ tapActs s = .highz ∨ tapActs s = .bypass) :
    captureDrScan a b s = shiftedOut (b <<< 1) s := by
  rcases h with h | h | h <;> simp only [captureDrScan, h]

@[simp] theorem shiftedOut_cells (n : Nat) (s : State) : (shiftedOut n s).tap.cells = s.tap.cells := by
  simp only [shiftedOut, onTap_tap]

@[simp] theorem shiftedOut_tdo (n : Nat) (s : State) : (shiftedOut n s).tap.tdo = BitVec.ofNat 259 n := by
  simp only [shiftedOut, onTap_tap]

/-- The low bits of what a register shifts out first are those of the number put in it. -/
theorem toNat_ofNat_mod_two_pow {k w : Nat} (h : k ≤ w) (n : Nat) : (BitVec.ofNat w n).toNat % 2 ^ k = n % 2 ^ k := by
  rw [BitVec.toNat_ofNat, Nat.mod_mod_of_dvd _ (pow_dvd_pow 2 h)]

/-- The IDCODE comes out first, whatever is shifted in behind it. -/
theorem idcode_shifted_first (b : Nat) : (BitVec.ofNat 259 (idcodeValue ||| b <<< 32)).toNat % 2 ^ 32 = 0x20960A9B := by
  rw [toNat_ofNat_mod_two_pow (by decide), Nat.or_mod_two_pow, Nat.shiftLeft_eq, Nat.mul_mod_left]
  rfl

/-- The bypass register's captured 0 comes out first and what is shifted in follows. -/
theorem toNat_ofNat_shiftLeft_one (w b : Nat) : (BitVec.ofNat w (b <<< 1)).toNat = 2 * b % 2 ^ w := by
  rw [BitVec.toNat_ofNat, Nat.shiftLeft_eq, pow_one, Nat.mul_comm]

/-! ### Balls under EXTEST (R70, R82, R83, R86) -/

/-- EXTEST gives an output of the chain to its cells. -/
theorem ballNow_extest {s : State} {b : Signal} (hb : (cellSet b).output = true) (hp : powered s = true) (h : tapActs s = .extest) :
    ballNow s b = cellDrive s b := by
  simp [ballNow, hb, hp, h]

theorem cellDrive_en (s : State) (r : Nat) :
    cellDrive s (.en r) = (if cell s (cellEn r - 2) then
        (if (rail s r).scanOff = true ∨ cell s (cellEn r - 1) = false then .low else if pn s 0x0405 r = 1 then .released else .high)
      else if pn s 0x0405 r = 1 then .released else .heldLow) := by
  have hout : outCell (.en r) = cellEn r - 1 := rfl
  have hlevel : cellLevel s (.en r) =
      if cell s (cellEn r - 1) = false then .low else if pn s 0x0405 r = 1 then .released else .high := by
    cases hc : cell s (cellEn r - 1) <;> by_cases hd : pn s 0x0405 r = 1 <;>
      simp [cellLevel, openDrain, drainOf, levelOf, hout, hc, hd]
  simp only [cellDrive, releasedBall, hlevel, hout, Nat.sub_sub, ite_or]

theorem cellDrive_faultn (s : State) :
    cellDrive s .faultn = if cell s (topCell .faultn - 1) && !cell s (topCell .faultn) then .low else .released := by
  have hout : outCell .faultn = topCell .faultn := rfl
  cases hctl : cell s (topCell .faultn - 1) <;>
    simp [cellDrive, releasedBall, cellLevel, openDrain, drainOf, hout, hctl]

/-! ### The commands -/

theorem exec_tapReset {s : State} (h : powered s = true) : exec .tapReset s = .next (tapReset s) :=
  congrArg Host.Outcome.next (onPower_of_powered _ h)

theorem exec_captureDrScan (a b : Nat) {s : State} (h : powered s = true) :
    exec (.captureDrScan a b) s = .next (captureDrScan a b s) :=
  congrArg Host.Outcome.next (onPower_of_powered _ h)

theorem tapReset_eq (s : State) : tapReset s = { s with tap := { s.tap with ir := 1, ctl := .testLogicReset } } := by
  simp only [tapReset, onTap, TapCtl.walk_five_true]

/-- A scan of the instruction register: 0b0001 comes out and the code is loaded (R79). -/
theorem onPower_tapLoad (code : BitVec 4) {s : State} (hp : powered s = true)
    (hc : s.tap.ctl = .testLogicReset ∨ s.tap.ctl = .runTestIdle) :
    onPower (tapLoad code) s = { s with tap := { s.tap with ir := code, tdo := 1, ctl := .runTestIdle } } := by
  simp only [onPower_of_powered _ hp, tapLoad, onTap, TapCtl.walk_irPath hc]

/-- A scan of the boundary register: the balls' levels come out and the cells are loaded (R85). -/
theorem captureDrScan_boundary_eq {a b : Nat} {s : State} (hc : s.tap.ctl = .testLogicReset ∨ s.tap.ctl = .runTestIdle)
    (h : tapActs s = .extest ∨ tapActs s = .sample) :
    captureDrScan a b s =
      { s with tap := { s.tap with tdo := BitVec.ofNat 259 (captureCells s a), cells := BitVec.ofNat 259 b, ctl := .runTestIdle } } := by
  simp only [captureDrScan_boundary h, shiftedOut, onTap, TapCtl.walk_drPath hc]

/-- Settles O56: the instruction that acts picks the register of a scan and who drives the balls; the controller's walk ends where the
path of its scan leads. -/
theorem boundaryScanCommands : Obligations.BoundaryScanCommands := by
  refine ⟨fun b s => rfl, fun s hp => ⟨?reset, fun hc => ?load⟩, fun a b s hp hc hir => ?boundary, fun a b s hp hir => ?idcode,
    fun a b s hp hir => ?bypass, fun r s hp _ hir ht hm => ?en, fun s hp hir ht hm => ?faultn⟩
  case reset => rw [exec_tapReset hp, tapReset_eq]
  case load =>
    have load (code : BitVec 4) := congrArg (Host.Outcome.next (φ := Fault) (ρ := Refusal)) (onPower_tapLoad code hp hc)
    exact ⟨load 0, load 1, load 2, load 3, load 4, load 15⟩
  case boundary =>
    have acts : tapActs s = .extest ∨ tapActs s = .sample := by
      rcases hir with hir | ⟨hir, hallowed⟩
      · exact .inr (tapActs_sample hir)
      · exact .inl (tapActs_extest hir (scanAllowed_eq_true.2 hallowed))
    rw [exec_captureDrScan a b hp, captureDrScan_boundary_eq hc acts]
  case idcode =>
    rw [exec_captureDrScan a b hp, captureDrScan_idcode (tapActs_idcode hir)]
    refine ⟨_, rfl, ?_, shiftedOut_cells _ s⟩
    rw [shiftedOut_tdo, idcode_shifted_first]
  case bypass =>
    have acts : tapActs s = .clamp ∨ tapActs s = .highz ∨ tapActs s = .bypass := by
      rcases hir with hir | hir | hir | ⟨hir, hbarred⟩
      · exact .inr (.inr (tapActs_unlisted hir))
      · exact (tapActs_clamp hir).imp_right .inr
      · exact .inr (tapActs_highz hir)
      · exact .inr (.inr (tapActs_extest_barred hir (scanAllowed_eq_false.2 hbarred)))
    rw [exec_captureDrScan a b hp, captureDrScan_bypass acts]
    exact ⟨_, rfl, (congrArg BitVec.toNat (shiftedOut_tdo _ s)).trans (toNat_ofNat_shiftLeft_one 259 b), shiftedOut_cells _ s⟩
  case en =>
    rw [enBall, ballNow_extest rfl hp (tapActs_extest hir (scanAllowed_eq_true.2 ⟨ht, hm⟩)), cellDrive_en]
  case faultn =>
    rw [ballNow_extest rfl hp (tapActs_extest hir (scanAllowed_eq_true.2 ⟨ht, hm⟩)), cellDrive_faultn]

end Sys2Proof.Machine
end

section
/-! Proofs about TIME_SET (R681), and the refutation of obligation O11. Its clause on TIME_SET says that the ship latch keeps its value.
TIME_SET past an interval boundary closes the interval first (R440), and the append of its INTERVAL record goes behind the records that
wait (R572). Where a SHIP record is among these, its append releases the ship latch (R116). The statement speaks of every state in which
the command is accepted; that a run from reset reaches the one below is not claimed. -/

namespace Sys2Proof.Machine

/-! ### What TIME_SET answers -/

/-- A field of four little-endian bytes reads back as the number that they were made from. -/
theorem fieldAt_leBytes_four {n : Nat} (h : n < 2 ^ 32) : fieldAt (leBytes 4 n) 0 4 = n := by
  simp only [fieldAt, bytesAt, leBytes, List.drop_zero, List.take_succ_cons, List.take_zero, List.length_cons, List.length_nil,
    Nat.reduceAdd, Nat.sub_self, List.replicate_zero, List.append_nil, leNat, BitVec.toNat_ofNat]
  omega

/-- An answer leaves the always-on domain alone. -/
@[simp] theorem answered_aon (code : Nat) (r : Req) (st : Nat) (pl : Bytes) (s : State) : (answered code r st pl s).aon = s.aon :=
  (keeps_respond (Sub.refl _) (Keeps.refl _ s)).aon rfl

/-- An accepted TIME_SET answers OK on the state whose RTC is set (R681). -/
theorem exec_timeSet {r : Req} {rtc : Nat} {s : State} (h : Accepted cmdTimeSet r (leBytes 4 rtc) s) (hr : rtc < 2 ^ 32) :
    exec (.timeSet r rtc) s = .next (answered 0x0105 r stOk [] (setTime rtc (begun 0x0105 r s))) := by
  have body : cmdTimeSet.body r (leBytes 4 rtc) (begun 0x0105 r s) = .done stOk [] (setTime rtc (begun 0x0105 r s)) := by
    show Reply.done stOk [] (setTime (fieldAt (leBytes 4 rtc) 0 4) (begun 0x0105 r s)) = _
    rw [fieldAt_leBytes_four hr]
  exact congrArg Host.Outcome.next (serve_done h body)

/-! ### A TIME_SET that releases the ship latch -/

/-- A TIME_SET request of tenant 0 on port 1. -/
def timeSetRequest : Req :=
  { port := 1, tenant := 0, seq := 0, asyncOk := false, waitQuiet := false, persist := false, env := [] }

/-- After a wake from SHIP, with firmware running in STANDBY: the SHIP record still waits for its append, a log sector is FREE for it, and
the RTC has passed an interval boundary whose interval is not closed yet. -/
def shipRecordWaits : State :=
  { State.reset with
    aon := { State.reset.aon with rtc := 864000, shipLatch := true }
    core := { State.reset.core with run := .running, ready := true, nvReady := true, recalled := true, mode := .standby }
    ports := State.reset.ports.map (fun p => { p with ready := true })
    tenants := vmod State.reset.tenants 0 (fun t => { t with session := some 1 })
    log := { State.reset.log with waiting := [makeRec 0x0F (zeros 32) State.reset] }
    bg := { State.reset.bg with restored := true } }

theorem timeSet_accepted_shipRecordWaits : Accepted cmdTimeSet timeSetRequest (leBytes 4 0) shipRecordWaits := by
  decide +kernel

/-- The interval closes, the SHIP record is appended with it, and the ship latch is released (R116, R440, R681). -/
theorem setTime_shipRecordWaits_shipLatch :
    (setTime 0 (begun 0x0105 timeSetRequest shipRecordWaits)).aon.shipLatch = false := by
  decide +kernel

/-- Refutes O11, by its clause on TIME_SET: in `shipRecordWaits` the command closes an interval, and the append of the SHIP record that
waits before the INTERVAL record releases the ship latch. -/
theorem not_modeAndTimeCommands : ¬ Obligations.ModeAndTimeCommands := by
  rintro ⟨-, -, -, -, -, -, -, -, timeSetKeepsLatch, -, -⟩
  obtain ⟨s1, answer, -, -, latch, -⟩ :=
    timeSetKeepsLatch timeSetRequest 0 shipRecordWaits timeSet_accepted_shipRecordWaits (by decide)
  rw [exec_timeSet timeSet_accepted_shipRecordWaits (by decide)] at answer
  have sameAon : (setTime 0 (begun 0x0105 timeSetRequest shipRecordWaits)).aon = s1.aon := by
    simpa using congrArg State.aon (Host.Outcome.next.inj answer)
  have released : s1.aon.shipLatch = false := sameAon ▸ setTime_shipRecordWaits_shipLatch
  have set : shipRecordWaits.aon.shipLatch = true := rfl
  rw [released, set] at latch
  exact Bool.noConfusion latch

end Sys2Proof.Machine
end

section
/-! Proofs about RAIL_FORCE (R94, R180, R181), and the refutation of obligation O16. Its first clause says that RAIL_FORCE on leaves the
rail FORCED_ON. RAIL_FORCE also lets the bring-up of a service exit go on (R94, R136). Where that bring-up has no rail left to wait for,
the exit lands in STANDBY within the command, and the landing ends every forced state (R94, R181). The statement speaks of every state in
which the command is accepted. In the one below a rail is ENABLING with its PG good, a state that PG_GOOD itself would end at once; that
a run from reset reaches it is not claimed. -/

namespace Sys2Proof.Machine

/-! ### What RAIL_FORCE answers -/

/-- An answer leaves the rails alone. -/
@[simp] theorem answered_rails (code : Nat) (r : Req) (st : Nat) (pl : Bytes) (s : State) :
    (answered code r st pl s).rails = s.rails :=
  (keeps_respond (Sub.refl _) (Keeps.refl _ s)).rails rfl

/-- What RAIL_FORCE on makes of its rail: EN is asserted where it is not, and the rail is FORCED_ON (R180). -/
def forceOn (k : Nat) (s : State) : State := if (rail s k).en then setSt k .forcedOn s else assertEn k .forcedOn s

/-- RAIL_FORCE on, of a present rail that is neither PARKED nor FAULT_OFF, forces the rail; the bring-up then goes on (R94, R180). -/
theorem railForceBody_on (r : Req) {k : Nat} {s : State} (hk : k < 24) (here : present s k = true)
    (hp : (rail s k).st ≠ .parked) (hf : (rail s k).st ≠ .faultOff) :
    railForceBody r [byte k, byte 1] s = .done stOk [] (bringPoll (forceOn k s)) := by
  have rail_byte : byteAt [byte k, byte 1] 0 = k := Nat.mod_eq_of_lt (by omega)
  have action_byte : byteAt [byte k, byte 1] 1 = 1 := rfl
  simp only [railForceBody, forceOn, rail_byte, action_byte, here, hp, hf, Bool.not_true, Bool.false_eq_true, if_false, if_true]

/-- An accepted RAIL_FORCE on answers OK on the state in which the forced rail has let the bring-up go on. -/
theorem exec_railForce_on {r : Req} {k : Nat} {s : State} (h : Accepted cmdRailForce r [byte k, byte 1] s) (hk : k < 24)
    (here : present (begun 0x0401 r s) k = true) (hp : (rail (begun 0x0401 r s) k).st ≠ .parked)
    (hf : (rail (begun 0x0401 r s) k).st ≠ .faultOff) :
    exec (.railForce r k 1) s = .next (answered 0x0401 r stOk [] (bringPoll (forceOn k (begun 0x0401 r s)))) := by
  have payload : leBytes 1 k ++ leBytes 1 1 = [byte k, byte 1] := by
    simp only [leBytes, byte, Nat.mod_eq_of_lt (show k < 256 by omega), List.cons_append, List.nil_append]
  show Host.Outcome.next (serve cmdRailForce r (leBytes 1 k ++ leBytes 1 1) s) = _
  rw [payload]
  exact congrArg Host.Outcome.next (serve_done h (railForceBody_on r hk here hp hf))

/-! ### A RAIL_FORCE that ends the service exit -/

/-- A request of tenant 63 on port 1. -/
def serviceRequest : Req :=
  { port := 1, tenant := 63, seq := 0, asyncOk := false, waitQuiet := false, persist := false, env := [] }

/-- A rail parameter, committed and in force. -/
def railFlag (id k : Nat) : PCell :=
  { inst := { id := id, i1 := k, i2 := 0 }, committed := .num 1, inForce := .num 1, pending := false, epoch := 0 }

/-- In SERVICE with firmware running, the exit has come to its bring-up, which waits for P00, the last rail to enable. P00 is present and
rail.standby_on; it is ENABLING with its EN asserted, and its PG is good. -/
def exitAwaitsGoodRail : State :=
  { State.reset with
    core := { State.reset.core with run := .running, ready := true, nvReady := true, recalled := true, mode := .service,
                                    serviceExit := .bringUp }
    ports := State.reset.ports.map (fun p => { p with ready := true })
    tenants := vmod State.reset.tenants 63 (fun t => { t with session := some 1, authed := true })
    par := { State.reset.par with cells := [railFlag 0x0401 0, railFlag 0x040E 0] }
    rails := vmod State.reset.rails 0 (fun x => { x with st := .enabling, en := true, pg := true })
    eng := { State.reset.eng with bringWait := some 0 } }

theorem railForce_accepted_exitAwaitsGoodRail : Accepted cmdRailForce serviceRequest [byte 0, byte 1] exitAwaitsGoodRail := by
  decide +kernel

/-- The forced rail has its PG good, so the bring-up waits for it no more: the exit lands, and the rail is ON (R94, R181). -/
theorem bringPoll_forceOn_exitAwaitsGoodRail :
    (rail (bringPoll (forceOn 0 (begun 0x0401 serviceRequest exitAwaitsGoodRail))) 0).st = .on := by
  decide +kernel

/-- Refutes O16, by its clause on RAIL_FORCE on: in `exitAwaitsGoodRail` the command lets the service exit land in STANDBY, which ends the
forced state that the command has just made. -/
theorem not_railCommands : ¬ Obligations.RailCommands := by
  rintro ⟨forceOnClause, -, -, -, -, -, -⟩
  obtain ⟨s1, answer, forced, -⟩ := forceOnClause serviceRequest 0 exitAwaitsGoodRail railForce_accepted_exitAwaitsGoodRail
    (by decide) (by decide +kernel) (by decide +kernel) (by decide +kernel)
  rw [exec_railForce_on railForce_accepted_exitAwaitsGoodRail (by decide) (by decide +kernel) (by decide +kernel)
    (by decide +kernel)] at answer
  have sameRails : (bringPoll (forceOn 0 (begun 0x0401 serviceRequest exitAwaitsGoodRail))).rails = s1.rails := by
    simpa using congrArg State.rails (Host.Outcome.next.inj answer)
  have on : (rail s1 0).st = .on := by
    simpa only [rail, sameRails] using bringPoll_forceOn_exitAwaitsGoodRail
  rw [on] at forced
  exact RailSt.noConfusion forced

end Sys2Proof.Machine
end

section
/-! Proofs about the end of a drain (R499, R506), and the refutation of obligation O39. Its clause on the held access says that
HANDOVER_DRAIN_END grants the one access that the bank holds, whichever of the twelve masters made it. The arbiter's pseudocode (R499)
grants to master 2, the Caldera writer, only in banks 52 to 63: the round robin passes over it. In a bank from 8 to 51 an access of
master 2 therefore stays held. The statement speaks of every state with such an access; that a run from reset makes the Caldera writer the
owner of an assignable bank is not claimed. -/

namespace Sys2Proof.Machine

/-! ### The arbiter and the Caldera writer (R499) -/

/-- Below bank 52 the arbiter grants nothing to requests that are all master 2's, unless a run of that master is under way. -/
theorem arbPick_calderaOnly {w : Nat → Nat} {k : Nat} {req : Nat → Bool} {b : Bank} (hk : k < 52) (hb : b.holder ≠ some 2)
    (only : ∀ m, req m = true → m = 2) : arbPick w k req b = (none, { b with holder := none }) := by
  have notFirst : ¬ (52 ≤ k ∧ req 2 = true) := fun h => Nat.not_le.2 hk h.1
  have noRun : b.holder.filter (fun m => req m && decide (b.run < w m)) = none := by
    rw [Option.filter_eq_none_iff]
    intro m holds grant
    have m_two : m = 2 := only m (Bool.and_eq_true_iff.1 grant).1
    exact hb (m_two ▸ holds)
  have noTurn : ((List.range 12).map (fun i => (b.ptr + i + 1) % 12)).find? (fun m => m != 2 && req m) = none := by
    rw [List.find?_eq_none]
    intro m _ grant
    obtain ⟨other, requests⟩ := Bool.and_eq_true_iff.1 grant
    exact bne_iff_ne.1 other (only m requests)
  rw [arbPick, if_neg notFirst, noRun, noTurn]

/-! ### Draining -/

/-- Granting stops where the arbiter grants nothing. -/
theorem drainHeld_of_noGrant {k f c : Nat} {s : State} {b : Bank}
    (h : arbPick (arbWeight s) k (fun m => (bank s k).held.any (fun x => x.master == m)) (bank s k) = (none, b)) :
    drainHeld k (f + 1) c s = onBank k (fun _ => b) s := by
  simp only [drainHeld, h, Option.bind_none]

/-- Below bank 52 the held accesses of master 2 stay held. -/
theorem drainAll_held_of_calderaOnly {k : Nat} {s : State} (hk : k < 52) (hb : (bank s k).holder ≠ some 2)
    (only : ∀ h ∈ (bank s k).held, h.master = 2) : (bank (drainAll k s) k).held = (bank s k).held := by
  have requests : ∀ m, (bank s k).held.any (fun h => h.master == m) = true → m = 2 := by
    intro m any
    obtain ⟨h, held, master⟩ := List.any_eq_true.1 any
    rw [← beq_iff_eq.1 master, only h held]
  rw [drainAll, drainHeld_of_noGrant (arbPick_calderaOnly hk hb requests), bank_onBank_same _ _ (by omega)]

/-- BANK_HANDED leaves the fabric alone. -/
@[simp] theorem postHanded_fab (k old new action : Nat) (s : State) : (postHanded k old new action s).fab = s.fab :=
  (keeps_postHanded (Sub.refl _) (Keeps.refl _ s)).fab rfl

/-- BANK_HANDED leaves the banks alone. -/
@[simp] theorem bank_postHanded (k old new action j : Nat) (s : State) : bank (postHanded k old new action s) j = bank s j :=
  congrArg (fun f : Fabric => vget f.banks j noBank) (postHanded_fab k old new action s)

/-- A claim's or a transfer's drain ends OWNED: BANK_HANDED is posted, and the held accesses are granted (R506). -/
theorem handoverDrainEnd_owned {k : Nat} {s : State} (draining : (bank s k).st = .draining) (stays : (bank s k).retiring = false)
    (action : (bank s k).action ≠ 2) :
    handoverDrainEnd k s =
      drainAll k (postHanded k (bank s k).oldOwner (bank s k).owner (bank s k).action (onBank k (fun x => { x with st := .owned }) s)) := by
  simp only [handoverDrainEnd, draining, stays, action, Bool.false_eq_true, if_true, if_false]

/-- Below bank 52 the end of a claim's or a transfer's drain leaves the held accesses of master 2 held. -/
theorem handoverDrainEnd_held_of_calderaOnly {k : Nat} {s : State} (hk : k < 52) (draining : (bank s k).st = .draining)
    (stays : (bank s k).retiring = false) (action : (bank s k).action ≠ 2) (hb : (bank s k).holder ≠ some 2)
    (only : ∀ h ∈ (bank s k).held, h.master = 2) : (bank (handoverDrainEnd k s) k).held = (bank s k).held := by
  have owned : ∀ old new act : Nat, bank (postHanded k old new act (onBank k (fun x => { x with st := .owned }) s)) k =
      { bank s k with st := .owned } := by
    intro old new act
    rw [bank_postHanded, bank_onBank_same _ _ (by omega)]
  rw [handoverDrainEnd_owned draining stays action, drainAll_held_of_calderaOnly hk] <;> rw [owned]
  · exact hb
  · exact only

/-- With the fabric clocked, HANDOVER_DRAIN_END acts on its bank. -/
theorem exec_handoverDrainEnd {s : State} (k : Nat) (h : Clocked s) : exec (.handoverDrainEnd k) s = .next (handoverDrainEnd k s) := by
  obtain ⟨⟨power, recalled⟩, clock⟩ := h
  show Host.Outcome.next (onClock (handoverDrainEnd k) s) = _
  simp only [onClock, power, recalled, clock, Bool.not_false, Bool.and_self, if_true]

/-! ### A held access of the Caldera writer in bank 10 -/

/-- Firmware runs in STANDBY, and bank 10 drains, for the owner code of the Caldera writer. -/
def drainsForCaldera : State :=
  onBank 10 (fun b => { b with st := .draining, owner := 0x82, oldOwner := 0 })
    { State.reset with core := { State.reset.core with run := .running, ready := true, recalled := true, mode := .standby } }

/-- The Caldera writer's bit-set write of bank 10 (R503), as the bank holds it. -/
def calderaWrite : Held := { access := .aliasWrite 3 0x82 0x2000A010 5 false, master := 2, at_ := some 0 }

/-- The Caldera writer has made its bit-set write while bank 10 drains (R503, R506). -/
def calderaWriteHeld : State := aliasBitSet 0x82 0x2100A010 5 false false [] drainsForCaldera

/-- Bank 10 holds the bit-set write. -/
theorem bank_calderaWriteHeld : bank calderaWriteHeld 10 = { bank drainsForCaldera 10 with held := [calderaWrite] } := by
  decide +kernel

theorem calderaWriteHeld_held : (bank calderaWriteHeld 10).held = [calderaWrite] :=
  congrArg Bank.held bank_calderaWriteHeld

/-- The access is still held after the drain. -/
theorem held_handoverDrainEnd_calderaWriteHeld : (bank (handoverDrainEnd 10 calderaWriteHeld) 10).held = [calderaWrite] := by
  have only : ∀ h ∈ (bank calderaWriteHeld 10).held, h.master = 2 := by
    rw [calderaWriteHeld_held]
    intro h mem
    rw [List.mem_singleton.1 mem]
    rfl
  rw [handoverDrainEnd_held_of_calderaOnly (by decide) (by decide +kernel) (by decide +kernel) (by decide +kernel) (by decide +kernel) only,
    calderaWriteHeld_held]

/-- Refutes O39, by its clause on a held access: in `calderaWriteHeld` the access is master 2's, which the round robin of bank 10 passes
over, so it is still held when the drain has ended. -/
theorem not_bankOwnershipMoves : ¬ Obligations.BankOwnershipMoves := by
  rintro ⟨-, -, -, -, -, -, -, -, heldIsGranted, -⟩
  have clocked : Clocked calderaWriteHeld := by decide +kernel
  obtain ⟨t, answer, emptied, -⟩ := heldIsGranted 10 0x2000A010 5 0x82 calderaWrite calderaWriteHeld clocked
    (by decide) (by decide +kernel) (by decide +kernel) (by decide +kernel) calderaWriteHeld_held
    (by decide) rfl (by decide) (by decide +kernel) (by decide) (by decide +kernel) (by decide) (by decide) (by decide) (by decide +kernel)
  rw [exec_handoverDrainEnd 10 clocked] at answer
  have after : handoverDrainEnd 10 calderaWriteHeld = t := Host.Outcome.next.inj answer
  rw [← after, held_handoverDrainEnd_calderaWriteHeld] at emptied
  exact List.cons_ne_nil _ _ emptied

end Sys2Proof.Machine
end

section
/-! The state in which an accepted command runs: the watchdog has restarted and a credit is consumed (R51, R607), and a command's own rules
and effects see nothing else of it. What the command's payload reads back as. -/

namespace Sys2Proof.Machine

/-! ### What the command finds -/

/-- Serving writes the tenant, the parameter cells and the watchdog's time before the command's body runs, and no more. -/
theorem keeps_begun (code : Nat) (r : Req) (s : State) : Keeps 154742505343018098589966880 s (begun code r s) :=
  keeps_consume (Sub.of rfl (Sub.refl _)) (keeps_wdKick (Sub.of rfl (Sub.refl _)) (Keeps.refl _ s))

@[simp] theorem begun_mem (code : Nat) (r : Req) (s : State) : (begun code r s).mem = s.mem := (keeps_begun code r s).mem rfl
@[simp] theorem begun_nv (code : Nat) (r : Req) (s : State) : (begun code r s).nv = s.nv := (keeps_begun code r s).nv rfl
@[simp] theorem begun_fw (code : Nat) (r : Req) (s : State) : (begun code r s).fw = s.fw := (keeps_begun code r s).fw rfl
@[simp] theorem begun_ops (code : Nat) (r : Req) (s : State) : (begun code r s).ops = s.ops := (keeps_begun code r s).ops rfl
@[simp] theorem begun_mode (code : Nat) (r : Req) (s : State) : (begun code r s).core.mode = s.core.mode :=
  (keeps_begun code r s).coreK.mode rfl
@[simp] theorem begun_run (code : Nat) (r : Req) (s : State) : (begun code r s).core.run = s.core.run :=
  (keeps_begun code r s).coreK.run rfl
@[simp] theorem begun_slot (code : Nat) (r : Req) (s : State) : (begun code r s).core.slot = s.core.slot :=
  (keeps_begun code r s).coreK.slot rfl
@[simp] theorem begun_holdup (code : Nat) (r : Req) (s : State) : (begun code r s).core.holdup = s.core.holdup :=
  (keeps_begun code r s).coreK.holdup rfl

theorem memOk_begun {code : Nat} {r : Req} {s : State} (ok : MemOk s) : MemOk (begun code r s) := (keeps_begun code r s).memOk ok

/-! ### Where a happening runs -/

theorem onClock_of_clocked {s : State} (f : State → State) (h : Clocked s) : onClock f s = f s := by
  obtain ⟨⟨power, recalled⟩, clock⟩ := h
  simp only [onClock, power, recalled, clock, Bool.not_false, Bool.and_self, if_true]

/-! ### Parameters that another occasion takes up -/

/-- A cell whose instance an occasion does not take up stays as it is. -/
theorem takeCell_of_not {p : PInst → Bool} {c : PCell} (h : p c.inst = false) : takeCell p c = c := by
  simp [takeCell, h]

theorem takeCell_inst (p : PInst → Bool) (c : PCell) : (takeCell p c).inst = c.inst := by
  unfold takeCell
  split <;> rfl

theorem findCell_takeCell {p : PInst → Bool} (cs : List PCell) {i : PInst} (h : p i = false) :
    findCell (cs.map (takeCell p)) i = findCell cs i := by
  induction cs with
  | nil => rfl
  | cons c cs ih =>
    by_cases same : c.inst = i
    · simp [findCell, takeCell_of_not (p := p) (c := c) (same ▸ h), same]
    · simpa [findCell, takeCell_inst, same] using ih

/-- Taking up other parameters leaves the in-force value of an instance, whose default follows no other parameter, alone (R643). -/
theorem pInForce_takeUp {p : PInst → Bool} (s : State) {i : PInst} (h : p i = false) (full : i.id ≠ 0x0B10) (ocv : i.id ≠ 0x0B12) :
    pInForce (takeUp p s).par i = pInForce s.par i := by
  have listed : pListed (takeUp p s).par (fun c => c.inForce) i = pListed s.par (fun c => c.inForce) i := by
    simp only [pListed, pSource, pDefaultIn, full, ocv, false_and, if_false, takeUp, findCell_takeCell _ h]
  simp only [pInForce, listed]
  rfl

/-- The watchdog's restart leaves every parameter but sys.watchdog_ms in force as it is. -/
theorem pv_begun {id : Nat} (code : Nat) (r : Req) (s : State) (i1 i2 : Nat)
    (own : (pSafe { id := id, i1 := i1, i2 := i2 } == .occ .watchdog) = false) (full : id ≠ 0x0B10) (ocv : id ≠ 0x0B12) :
    pv (begun code r s) id i1 i2 = pv s id i1 i2 := by
  have consumed : ∀ u : State, pv (consume code r.tenant u) id i1 i2 = pv u id i1 i2 := fun u => by
    unfold consume
    split <;> rfl
  have kicked : pv (wdKick s) id i1 i2 = pv s id i1 i2 := by
    unfold wdKick
    split
    · exact congrArg PVal.int (pInForce_takeUp (p := fun i => pSafe i == .occ .watchdog) s own full ocv)
    · rfl
  exact (consumed _).trans kicked

@[simp] theorem userBp_begun (code : Nat) (r : Req) (s : State) : pn (begun code r s) 0x0D01 = pn s 0x0D01 :=
  congrArg Int.toNat (pv_begun code r s 0 0 (by decide +kernel) (by decide) (by decide))

@[simp] theorem resvReady_begun (code : Nat) (r : Req) (s : State) : pv (begun code r s) 0x0D06 = pv s 0x0D06 :=
  pv_begun code r s 0 0 (by decide +kernel) (by decide) (by decide)

/-! ### Payloads -/

/-- An accepted command's payload is in range (R670). -/
theorem range_of_accepted {d : CmdDef} {r : Req} {pl : Bytes} {s : State} (h : Accepted d r pl s) : d.range pl = true := by
  obtain ⟨-, -, checks⟩ := h
  unfold commandCheck at checks
  split_ifs at checks with halted other denied len range
  all_goals simpa using range

@[simp] theorem leBytes_length (k n : Nat) : (leBytes k n).length = k := by
  induction k generalizing n with
  | zero => rfl
  | succ k ih => simp [leBytes, ih]

@[simp] theorem zeros_length (n : Nat) : (zeros n).length = n := List.length_replicate

theorem leNat_leBytes (k n : Nat) : leNat (leBytes k n) = n % 256 ^ k := by
  induction k generalizing n with
  | zero => simp [leBytes, leNat, Nat.mod_one]
  | succ k ih =>
    have split_mod : n % 256 ^ (k + 1) = n % 256 + 256 * (n / 256 % 256 ^ k) := by
      rw [Nat.pow_succ, Nat.mul_comm, Nat.mod_mul]
    simp [leBytes, leNat, ih, split_mod]

/-- The payload of NV_GATHER and FW_CHUNK: an address or offset, a count, a reserved byte and the data (Tables CMD.14 and CMD.15). -/
abbrev blockPayload (a : Nat) (data : Bytes) : Bytes := leBytes 4 a ++ leBytes 1 data.length ++ zeros 1 ++ data

theorem fieldAt_blockPayload {a : Nat} (data : Bytes) (h : a < 2 ^ 32) : fieldAt (blockPayload a data) 0 4 = a := by
  have first : bytesAt (blockPayload a data) 0 4 = leBytes 4 a := by
    simp [bytesAt, leBytes]
  rw [fieldAt, first, leNat_leBytes]
  exact Nat.mod_eq_of_lt h

theorem byteAt_blockPayload (a : Nat) {data : Bytes} (h : data.length < 256) : byteAt (blockPayload a data) 4 = data.length := by
  have fifth : (blockPayload a data).getD 4 0 = BitVec.ofNat 8 (data.length % 256) := rfl
  rw [byteAt, fifth, BitVec.toNat_ofNat]
  omega

theorem bytesAt_blockPayload (a : Nat) (data : Bytes) : bytesAt (blockPayload a data) 6 data.length = data := by
  simp [bytesAt, blockPayload, leBytes, zeros]

end Sys2Proof.Machine
end

section
/-! Bytes of the arrays (R516, R550): what a read gives after a write, an erase or a programming, and which words stay uncorrectable. -/

namespace Sys2Proof.Machine

/-! ### Reads -/

@[simp] theorem readBytes_length (s : State) (a n : Nat) : (readBytes s a n).length = n := by
  induction n generalizing a with
  | zero => rfl
  | succ n ih => simp [readBytes, ih]

theorem readBytes_getElem (s : State) (a : Nat) {n j : Nat} (h : j < (readBytes s a n).length) :
    (readBytes s a n)[j] = (byteOf s (a + j)).getD 0 := by
  induction n generalizing a j with
  | zero => exact absurd h (Nat.not_lt_zero j)
  | succ n ih =>
    cases j with
    | zero => rfl
    | succ j =>
      have next : a + 1 + j = a + (j + 1) := by omega
      simp [readBytes, ih, next]

/-- A read depends on the bytes of its range only. -/
theorem readBytes_congr {s t : State} {a n : Nat} (h : ∀ x, a ≤ x → x < a + n → byteOf t x = byteOf s x) :
    readBytes t a n = readBytes s a n := by
  refine List.ext_getElem (by simp) fun j hj _ => ?_
  have inside : j < n := by simpa using hj
  rw [readBytes_getElem, readBytes_getElem, h (a + j) (by omega) (by omega)]

/-- A read of bytes that are known one by one. -/
theorem readBytes_eq {t : State} {a : Nat} {bs : Bytes} (h : ∀ j (hj : j < bs.length), byteOf t (a + j) = some bs[j]) :
    readBytes t a bs.length = bs := by
  refine List.ext_getElem (by simp) fun j _ hj => ?_
  rw [readBytes_getElem, h j hj, Option.getD_some]

/-- Where memory is the same, every read is. -/
theorem readBytes_of_mem {s t : State} (h : t.mem = s.mem) (a n : Nat) : readBytes t a n = readBytes s a n :=
  readBytes_congr fun x _ _ => congrArg (memRead · x) h

/-- A read of two ranges that follow each other. -/
theorem readBytes_add (s : State) (a m n : Nat) : readBytes s a (m + n) = readBytes s a m ++ readBytes s (a + m) n := by
  induction m generalizing a with
  | zero => simp [readBytes]
  | succ m ih =>
    have next : m + 1 + n = (m + n) + 1 := by omega
    have shift : a + 1 + m = a + (m + 1) := by omega
    rw [next, readBytes, readBytes, ih, shift, List.cons_append]

theorem faAddress_exists {x : Nat} (h : x < 0x40000) : (memDefault x).isSome = true := by
  simp [memDefault, h]

theorem memDefault_saAddress {x : Nat} (lo : saBase ≤ x) (hi : x < 0x200000) : memDefault x = some 0xFF := by
  have notFa : ¬ x < 0x40000 := by
    unfold saBase at lo
    omega
  simp [memDefault, notFa, lo, hi]

/-! ### Writes to the F-array -/

theorem memOk_faWrite {s : State} (a : Nat) (bs : Bytes) (ok : MemOk s) : MemOk (faWrite a bs s) := memWrites_wf ok a bs

/-- Inside the range, a written byte reads as written. -/
theorem memRead_writes_same {m : List Host.Cell} (ok : memWf m = true) (a : Nat) (bs : Bytes) {j : Nat} (h : j < bs.length)
    (here : (memDefault (a + j)).isSome = true) : memRead (memWrites m a bs) (a + j) = some bs[j] := by
  induction bs generalizing m a j with
  | nil => exact absurd h (Nat.not_lt_zero j)
  | cons b bs ih =>
    cases j with
    | zero =>
      rw [memWrites, memRead_writes_other (memWrite_wf ok a b) (a + 1) bs (a + 0) (.inl (by omega)), memRead_write ok]
      exact if_pos ⟨rfl, here⟩
    | succ j =>
      have next : a + (j + 1) = a + 1 + j := by omega
      rw [next] at here ⊢
      exact ih (memWrite_wf ok a b) (a + 1) (Nat.lt_of_succ_lt_succ h) here

theorem byteOf_faWrite_same {s : State} (ok : MemOk s) {a : Nat} {bs : Bytes} (fits : a + bs.length ≤ 0x40000) {j : Nat}
    (h : j < bs.length) : byteOf (faWrite a bs s) (a + j) = some bs[j] :=
  memRead_writes_same ok a bs h (faAddress_exists (by omega))

theorem byteOf_faWrite_other {s : State} (ok : MemOk s) (a : Nat) (bs : Bytes) {x : Nat} (h : x < a ∨ a + bs.length ≤ x) :
    byteOf (faWrite a bs s) x = byteOf s x :=
  memRead_writes_other ok a bs x h

theorem readBytes_faWrite_other {s : State} (ok : MemOk s) (a : Nat) (bs : Bytes) {x n : Nat} (h : x + n ≤ a ∨ a + bs.length ≤ x) :
    readBytes (faWrite a bs s) x n = readBytes s x n :=
  readBytes_congr fun _ _ _ => byteOf_faWrite_other ok a bs (by omega)

/-- A read within the written range gives that part of the data. -/
theorem readBytes_faWrite_part {s : State} (ok : MemOk s) {a i n : Nat} {bs : Bytes} (fits : a + bs.length ≤ 0x40000)
    (part : i + n ≤ bs.length) : readBytes (faWrite a bs s) (a + i) n = (bs.drop i).take n := by
  refine List.ext_getElem (by simp; omega) fun j hj _ => ?_
  have inside : j < n := by simpa using hj
  have shift : a + i + j = a + (i + j) := by omega
  rw [readBytes_getElem, shift, byteOf_faWrite_same ok fits (by omega), Option.getD_some]
  simp

theorem readBytes_faWrite {s : State} (ok : MemOk s) {a : Nat} {bs : Bytes} (fits : a + bs.length ≤ 0x40000) :
    readBytes (faWrite a bs s) a bs.length = bs :=
  readBytes_eq fun _ h => byteOf_faWrite_same ok fits h

/-! ### Uncorrectable words -/

theorem rangeBad_eq_false {s : State} {a n : Nat} :
    rangeBad s a n = false ↔ ∀ w ∈ s.nv.badWords, ¬ (a < w * 8 + 8 ∧ w * 8 < a + n) := by
  simp [rangeBad]

/-- A write makes the words good that it replaces whole (R522). -/
theorem mem_badWords_faWrite {s : State} {a w : Nat} {bs : Bytes} :
    w ∈ (faWrite a bs s).nv.badWords ↔ w ∈ s.nv.badWords ∧ ¬ (a ≤ w * 8 ∧ w * 8 + 8 ≤ a + bs.length) := by
  simp only [faWrite, writeBytes, List.mem_filter, Bool.not_eq_true', Bool.and_eq_false_iff, decide_eq_false_iff_not, not_and_or]

/-- Fewer words are bad where a range was good. -/
theorem rangeBad_mono {s t : State} {a n : Nat} (fewer : ∀ w ∈ t.nv.badWords, w ∈ s.nv.badWords) (h : rangeBad s a n = false) :
    rangeBad t a n = false :=
  rangeBad_eq_false.2 fun w hw => rangeBad_eq_false.1 h w (fewer w hw)

theorem badWords_faWrite_subset {s : State} {a : Nat} {bs : Bytes} : ∀ w ∈ (faWrite a bs s).nv.badWords, w ∈ s.nv.badWords :=
  fun _ h => (mem_badWords_faWrite.1 h).1

/-! ### CRC-32 -/

theorem crc32Bit_lt {c : Nat} (h : c < 2 ^ 32) : crc32Bit c < 2 ^ 32 := by
  have half : c >>> 1 < 2 ^ 32 := by
    rw [Nat.shiftRight_eq_div_pow]
    omega
  unfold crc32Bit
  split
  · exact Nat.xor_lt_two_pow half (by decide)
  · exact half

theorem crc32Byte_lt {c : Nat} (h : c < 2 ^ 32) (b : Byte) : crc32Byte c b < 2 ^ 32 := by
  have start : c ^^^ b.toNat < 2 ^ 32 := Nat.xor_lt_two_pow h (Nat.lt_of_lt_of_le b.isLt (by decide))
  unfold crc32Byte
  exact crc32Bit_lt (crc32Bit_lt (crc32Bit_lt (crc32Bit_lt (crc32Bit_lt (crc32Bit_lt (crc32Bit_lt (crc32Bit_lt start)))))))

/-- The CRC fits the four bytes that hold it. -/
theorem crc32_lt (bs : Bytes) : crc32 bs < 2 ^ 32 := by
  have folded : ∀ (l : Bytes) (c : Nat), c < 2 ^ 32 → l.foldl crc32Byte c < 2 ^ 32 := by
    intro l
    induction l with
    | nil => exact fun _ h => h
    | cons b l ih => exact fun c h => ih _ (crc32Byte_lt h b)
  exact Nat.xor_lt_two_pow (folded bs _ (by decide)) (by decide)

theorem leNat_leBytes_four {n : Nat} (h : n < 2 ^ 32) : leNat (leBytes 4 n) = n := by
  rw [leNat_leBytes]
  exact Nat.mod_eq_of_lt h

theorem leNat_leBytes_crc32 (bs : Bytes) : leNat (leBytes 4 (crc32 bs)) = crc32 bs := leNat_leBytes_four (crc32_lt bs)

end Sys2Proof.Machine
end

section
/-! Proofs about gathers and the commit journal (R527 to R536, R710), and obligation O41. -/

namespace Sys2Proof.Machine

/-! ### Gathers -/

/-- The bytes of a gather after more are put: the new ones, and the old ones at other addresses (R527). -/
theorem mem_gatherPut (g : Gather) (a : Nat) (bs : Bytes) (c : Nat × Byte) :
    c ∈ (gatherPut g a bs).bytes ↔
      (∃ j, ∃ h : j < bs.length, c = (a + j, bs[j])) ∨ (c ∈ g.bytes ∧ ¬ (a ≤ c.1 ∧ c.1 < a + bs.length)) := by
  induction bs generalizing g a with
  | nil => simp [gatherPut]
  | cons b bs ih =>
    rw [gatherPut, ih]
    simp only [List.mem_cons, List.mem_filter, bne_iff_ne, List.length_cons]
    constructor
    · rintro (⟨j, h, rfl⟩ | ⟨rfl | ⟨old, other⟩, outside⟩)
      · exact .inl ⟨j + 1, by omega, by simp; omega⟩
      · exact .inl ⟨0, by omega, rfl⟩
      · exact .inr ⟨old, by omega⟩
    · rintro (⟨j, h, rfl⟩ | ⟨old, outside⟩)
      · cases j with
        | zero => exact .inr ⟨.inl rfl, by simp⟩
        | succ j => exact .inl ⟨j, by omega, by simp; omega⟩
      · exact .inr ⟨.inr ⟨old, by omega⟩, by omega⟩

@[simp] theorem gatherPut_tenant (g : Gather) (a : Nat) (bs : Bytes) : (gatherPut g a bs).tenant = g.tenant := by
  induction bs generalizing g a with
  | nil => rfl
  | cons b bs ih => rw [gatherPut, ih]

@[simp] theorem gatherPut_base (g : Gather) (a : Nat) (bs : Bytes) : (gatherPut g a bs).base = g.base := by
  induction bs generalizing g a with
  | nil => rfl
  | cons b bs ih => rw [gatherPut, ih]

/-- The span reaches from the lowest gathered address to the highest (R531). -/
theorem gatherSpan_eq {g : Gather} {lo hi : Nat} (low : ∃ c ∈ g.bytes, c.1 = lo) (high : ∃ c ∈ g.bytes, c.1 = hi)
    (inside : ∀ c ∈ g.bytes, lo ≤ c.1 ∧ c.1 ≤ hi) : gatherSpan g = (lo, hi + 1 - lo) := by
  unfold gatherSpan
  split
  next empty => simp [empty] at low
  next c cs listed =>
    rw [listed] at low high inside
    have least : ((c :: cs).map Prod.fst).min? = some lo :=
      List.min?_eq_some_iff.2 ⟨List.mem_map.2 low, List.forall_mem_map.2 fun c hc => (inside c hc).1⟩
    have greatest : ((c :: cs).map Prod.fst).max? = some hi :=
      List.max?_eq_some_iff.2 ⟨List.mem_map.2 high, List.forall_mem_map.2 fun c hc => (inside c hc).2⟩
    simp only [List.map_cons, List.min?_cons', List.max?_cons', List.foldl_map, Option.some.injEq] at least greatest
    simp only [least, greatest]

/-- The span of a first gather is its data. -/
theorem gatherSpan_gatherPut_first {n a : Nat} {data : Bytes} (nonempty : 0 < data.length) :
    gatherSpan (gatherPut { tenant := n, base := a, bytes := [] } a data) = (a, data.length) := by
  have bytes : ∀ c, c ∈ (gatherPut { tenant := n, base := a, bytes := [] } a data).bytes ↔
      ∃ j, ∃ h : j < data.length, c = (a + j, data[j]) := fun c => by simp [mem_gatherPut]
  rw [gatherSpan_eq (lo := a) (hi := a + (data.length - 1))]
  · congr 1
    omega
  · exact ⟨_, (bytes _).2 ⟨0, nonempty, rfl⟩, rfl⟩
  · exact ⟨_, (bytes _).2 ⟨data.length - 1, by omega, rfl⟩, rfl⟩
  · intro c hc
    obtain ⟨j, hj, rfl⟩ := (bytes c).1 hc
    exact ⟨Nat.le_add_right a j, by show a + j ≤ _; omega⟩

@[simp] theorem gatherOf_begun (code : Nat) (r : Req) (s : State) (n : Nat) : gatherOf (begun code r s) n = gatherOf s n := by
  simp [gatherOf]

@[simp] theorem gatherOf_setGather_same (g : Gather) (s : State) : gatherOf (setGather g s) g.tenant = some g := by
  simp [gatherOf, setGather]

@[simp] theorem gatherOf_dropGather_same (n : Nat) (s : State) : gatherOf (dropGather n s) n = none := by
  simp [gatherOf, dropGather]

theorem gatherOf_dropGather_other {n m : Nat} (s : State) (h : m ≠ n) : gatherOf (dropGather n s) m = gatherOf s m := by
  rw [gatherOf, gatherOf, dropGather, List.find?_filter]
  congr 1
  funext g
  by_cases own : g.tenant = m
  · simp [own, h]
  · simp [own]

theorem protects_begun (code : Nat) (r : Req) (s : State) (a n : Nat) : protects (begun code r s) a n = protects s a n := by
  simp [protects]

/-! ### NV_GATHER (R710) -/

/-- The checks on the range of an NV_GATHER in the user region pass. -/
theorem gatherDenied_userRange {n a k : Nat} (lo : 0x28000 ≤ a) (hi : a + k ≤ 0x40000) : gatherDenied n a k = false := by
  simp [gatherDenied, hi, lo]

/-- NV_GATHER below the user region is denied (R710). -/
theorem gatherDenied_below {n a k : Nat} (lo : a < 0x28000) (small : k < 256) : gatherDenied n a k = true := by
  have hi : a + k ≤ 0x40000 := by omega
  simp [gatherDenied, hi, lo]

/-- An accepted NV_GATHER has between 1 and 240 bytes. -/
theorem gather_length {r : Req} {a : Nat} {data : Bytes} {s : State} (h : Accepted cmdNvGather r (blockPayload a data) s)
    (small : data.length < 256) : 1 ≤ data.length ∧ data.length ≤ 240 := by
  have range := range_of_accepted h
  simp only [cmdNvGather, byteAt_blockPayload a small, Bool.and_eq_true, decide_eq_true_eq] at range
  exact range.1

/-- What NV_GATHER answers in the user region (R710): the gather that takes the bytes is the tenant's open one, or a first one. -/
theorem nvGatherBody_userRange {r : Req} {a : Nat} {data : Bytes} {s : State} (small : data.length < 256) (lo : 0x28000 ≤ a)
    (hi : a + data.length ≤ 0x40000) (room : gatherOf s r.tenant = none → s.nv.gathers.length < 8) :
    nvGatherBody r (blockPayload a data) s =
      (let g := (gatherOf s r.tenant).getD { tenant := r.tenant, base := a, bytes := [] }
       if a < g.base ∨ g.base + 256 < a + data.length then refuse stRange s
       else if protects s a data.length then refuse stNvProtected s
       else .done stOk (leBytes 4 g.base ++ leBytes 2 (gatherSpan (gatherPut g a data)).2) (setGather (gatherPut g a data) s)) := by
  have address := fieldAt_blockPayload (a := a) data (by omega)
  have user : ¬ saBase ≤ a := by
    unfold saBase
    omega
  have place : ((gatherOf s r.tenant).isNone && decide (8 ≤ s.nv.gathers.length)) = false := by
    cases current : gatherOf s r.tenant with
    | none => simpa using room current
    | some g => rfl
  simp only [nvGatherBody, address, byteAt_blockPayload a small, bytesAt_blockPayload, gatherDenied_userRange lo hi, user, place,
    decide_false, Bool.false_and, Bool.false_eq_true, if_false, gatherPut_base]

/-- NV_GATHER below the user region answers DENIED. -/
theorem nvGatherBody_below {r : Req} {a : Nat} {data : Bytes} {s : State} (small : data.length < 256) (lo : a < 0x28000) :
    nvGatherBody r (blockPayload a data) s = refuse stDenied s := by
  simp only [nvGatherBody, fieldAt_blockPayload (a := a) data (by omega), byteAt_blockPayload a small, gatherDenied_below lo small, if_true]

theorem exec_nvGather {r : Req} {a : Nat} {data : Bytes} {s : State} (h : Accepted cmdNvGather r (blockPayload a data) s) {st : Nat}
    {pl : Bytes} {t : State} (body : nvGatherBody r (blockPayload a data) (begun 0x0D02 r s) = .done st pl t) :
    exec (.nvGather r a data) s = .next (answered 0x0D02 r st pl t) :=
  congrArg Host.Outcome.next (serve_done h body)

/-! ### Reads of the engine -/

/-- The count of single-bit errors that the engine has corrected grows (R521). -/
def corrected (n : Nat) (s : State) : State := { s with nv := { s.nv with corrections := s.nv.corrections + n } }

/-- A read that meets no uncorrectable word only counts what it corrects (R521, R522). -/
theorem eccWords_of_good {env : List Int} {read : Nat → Bool} {s : State} (fixable : ∀ x ∈ env, x < 0)
    (good : ∀ w ∈ s.nv.badWords, read w = false) : ∃ n, eccWords env read s = (false, corrected n s) := by
  have found : env.filter (fun x => decide (0 ≤ x)) = [] :=
    List.filter_eq_nil_iff.2 fun x hx => by simpa using fixable x hx
  have met : s.nv.badWords.filter (fun w => read w && decide (w < 0x8000)) = [] :=
    List.filter_eq_nil_iff.2 fun w hw => by simp [good w hw]
  simp only [eccWords, eccFound, found, List.map_nil, List.foldl_nil, met]
  exact ⟨_, rfl⟩

/-- Filling a gather's gaps reads words of its span only (R531). -/
theorem fillRead_of_good {env : List Int} {g : Gather} {s : State} (fixable : ∀ x ∈ env, x < 0)
    (good : rangeBad s (gatherSpan g).1 (gatherSpan g).2 = false) : ∃ n, fillRead env g s = (false, corrected n s) := by
  unfold fillRead
  generalize gatherSpan g = span at good
  refine eccWords_of_good fixable fun w hw => List.any_eq_false.2 fun j hj => ?_
  have outside := rangeBad_eq_false.1 good w hw
  have inside : j < span.2 := List.mem_range.1 hj
  have other : ¬ (span.1 + j) / 8 = w := by omega
  simp [other]

/-! ### Durable slots (R532) -/

theorem slotBody_length (owner dest : Nat) {data : Bytes} (small : data.length ≤ 256) : (slotBody owner dest data).length = 268 := by
  have padded : (padTo 256 data).length = 256 := by
    simp only [padTo, bytesAt, List.drop_zero, List.length_append, List.length_take, List.length_replicate]
    omega
  simp [slotBody, padded]

/-- The range of a journal slot lies in the F-array, below the user region and the capture-pending marker (Table NVS.1). -/
theorem slotAddr_le {k : Nat} (h : k ≤ 8) : slotAddr k + 288 ≤ 0x23A20 := by
  unfold slotAddr
  omega

/-- A sealed range: its bytes 4 to 271, their CRC behind them, and the commit word, written in the order of R532. -/
def sealed (a : Nat) (body : Bytes) (s : State) : State :=
  faWrite a (leBytes 4 0xA55A) (faWrite (a + 4) (body ++ leBytes 4 (crc32 body) ++ zeros 12) (faWrite a (zeros 4) s))

theorem slotWrite_eq_sealed (k owner dest : Nat) (data : Bytes) (s : State) :
    slotWrite k owner dest data s = sealed (slotAddr k) (slotBody owner dest data) s := rfl

/-- What a sealed range reads as: the commit word, the body, and the body's CRC. -/
theorem readBytes_sealed {a : Nat} {body : Bytes} {s : State} (ok : MemOk s) (fits : a + body.length + 20 ≤ 0x40000) :
    readBytes (sealed a body s) a 4 = leBytes 4 0xA55A ∧ readBytes (sealed a body s) (a + 4) body.length = body ∧
      readBytes (sealed a body s) (a + 4 + body.length) 4 = leBytes 4 (crc32 body) := by
  have crcLength : (leBytes 4 (crc32 body)).length = 4 := leBytes_length 4 _
  have wordLength : (leBytes 4 0xA55A).length = 4 := leBytes_length 4 _
  unfold sealed
  generalize leBytes 4 (crc32 body) = crc at crcLength
  generalize leBytes 4 0xA55A = word at wordLength
  have ok1 : MemOk (faWrite a (zeros 4) s) := memOk_faWrite a _ ok
  generalize faWrite a (zeros 4) s = s1 at ok1
  have length : (body ++ crc ++ zeros 12).length = body.length + 16 := by simp [crcLength]
  have ok2 : MemOk (faWrite (a + 4) (body ++ crc ++ zeros 12) s1) := memOk_faWrite (a + 4) _ ok1
  refine ⟨?word, ?body, ?crc⟩
  case word =>
    have read := readBytes_faWrite ok2 (a := a) (bs := word) (by omega)
    rwa [wordLength] at read
  case body =>
    rw [readBytes_faWrite_other ok2 a word (by omega)]
    have read := readBytes_faWrite_part ok1 (a := a + 4) (i := 0) (n := body.length) (bs := body ++ crc ++ zeros 12) (by omega) (by omega)
    simpa [List.append_assoc] using read
  case crc =>
    rw [readBytes_faWrite_other ok2 a word (by omega),
      readBytes_faWrite_part ok1 (a := a + 4) (i := body.length) (n := 4) (bs := body ++ crc ++ zeros 12) (by omega) (by omega)]
    simp [List.append_assoc, crcLength]

theorem badWords_sealed_subset {a : Nat} {body : Bytes} {s : State} : ∀ w ∈ (sealed a body s).nv.badWords, w ∈ s.nv.badWords := by
  unfold sealed
  exact fun w h => badWords_faWrite_subset w (badWords_faWrite_subset w (badWords_faWrite_subset w h))

/-- A slot that is written becomes durable, where no word of it is lost (R532, R534). -/
theorem slotDurable_slotWrite {k owner dest : Nat} {data : Bytes} {s : State} (ok : MemOk s) (hk : k ≤ 8) (small : data.length ≤ 256)
    (good : rangeBad s (slotAddr k) 276 = false) : slotDurable (slotWrite k owner dest data s) k = true := by
  have low := slotAddr_le hk
  have length := slotBody_length owner dest small
  obtain ⟨word, body, crc⟩ := readBytes_sealed (a := slotAddr k) (body := slotBody owner dest data) ok (by omega)
  rw [length] at body crc
  have wordNat : readNat (sealed (slotAddr k) (slotBody owner dest data) s) (slotAddr k) 4 = 0xA55A := by
    rw [readNat, word, leNat_leBytes_four (by decide)]
  have crcNat : readNat (sealed (slotAddr k) (slotBody owner dest data) s) (slotAddr k + 272) 4 = crc32 (slotBody owner dest data) := by
    rw [readNat, crc, leNat_leBytes_crc32]
  have kept : rangeBad (sealed (slotAddr k) (slotBody owner dest data) s) (slotAddr k) 276 = false :=
    rangeBad_mono badWords_sealed_subset good
  simp only [slotWrite_eq_sealed, slotDurable, wordNat, kept, crcNat, body, beq_self_eq_true, Bool.not_false, Bool.and_self]

/-! ### The capture-pending marker (R262) -/

theorem markerTry_of_noCapture {s : State} (h : s.cap.cap = none) : markerTry s = s := by
  simp [markerTry, captureMarkerCommit, h]

theorem memOk_markerTry {s : State} (ok : MemOk s) : MemOk (markerTry s) :=
  (keeps_markerTry (Sub.refl _) (Keeps.refl _ s)).memOk ok

@[simp] theorem markerTry_commits (s : State) : (markerTry s).nv.commits = s.nv.commits :=
  (keeps_markerTry (Sub.refl _) (Keeps.refl _ s)).nvK.commits rfl

@[simp] theorem markerTry_gathers (s : State) : (markerTry s).nv.gathers = s.nv.gathers :=
  (keeps_markerTry (Sub.refl _) (Keeps.refl _ s)).nvK.gathers rfl

theorem badWords_captureMarkerCommit_subset {s : State} : ∀ w ∈ (captureMarkerCommit s).nv.badWords, w ∈ s.nv.badWords := by
  intro w hw
  unfold captureMarkerCommit at hw
  split at hw
  · split_ifs at hw
    · exact hw
    · rw [onCapture_nv] at hw
      exact badWords_faWrite_subset w (badWords_faWrite_subset w hw)
  · exact hw

theorem badWords_markerTry_subset {s : State} : ∀ w ∈ (markerTry s).nv.badWords, w ∈ s.nv.badWords := by
  intro w hw
  unfold markerTry at hw
  split at hw
  · exact badWords_captureMarkerCommit_subset w hw
  · exact hw

/-! ### The start of a commit (R532) -/

@[simp] theorem slotWrite_commits (k owner dest : Nat) (data : Bytes) (s : State) : (slotWrite k owner dest data s).nv.commits = s.nv.commits :=
  (keeps_slotWrite (Sub.refl _) (Keeps.refl _ s)).nvK.commits rfl

@[simp] theorem slotWrite_gathers (k owner dest : Nat) (data : Bytes) (s : State) : (slotWrite k owner dest data s).nv.gathers = s.nv.gathers :=
  (keeps_slotWrite (Sub.refl _) (Keeps.refl _ s)).nvK.gathers rfl

@[simp] theorem startCommit_commits (k : Nat) (c : NvCommit) (s : State) :
    (startCommit k c s).nv.commits = s.nv.commits ++ [{ c with slot := some k }] := by
  simp only [startCommit, slotWrite_commits, markerTry_commits]

@[simp] theorem gatherOf_startCommit (k : Nat) (c : NvCommit) (s : State) (n : Nat) : gatherOf (startCommit k c s) n = gatherOf s n := by
  simp only [gatherOf, startCommit, slotWrite_gathers, markerTry_gathers]

theorem slotDurable_congr {k : Nat} {s t : State} (mem : t.mem = s.mem) (bad : t.nv.badWords = s.nv.badWords) :
    slotDurable t k = slotDurable s k := by
  simp only [slotDurable, readNat, rangeBad, readBytes_of_mem mem, bad]

/-- A commit that has started is durable. -/
theorem slotDurable_startCommit {k : Nat} {c : NvCommit} {s : State} (ok : MemOk s) (hk : k ≤ 8) (small : c.data.length ≤ 256)
    (good : rangeBad s (slotAddr k) 276 = false) : slotDurable (startCommit k c s) k = true := by
  have durable := slotDurable_slotWrite (owner := c.owner) (dest := c.dest) (memOk_markerTry ok) hk small
    (rangeBad_mono badWords_markerTry_subset good)
  exact (slotDurable_congr (by simp only [startCommit]) (by simp only [startCommit])).trans durable

theorem supplyOk_begun (code : Nat) (r : Req) (s : State) (n : Nat) : supplyOk (begun code r s) n = supplyOk s n := by
  unfold supplyOk commitThreshold
  rw [resvReady_begun, begun_nv]

theorem commitRefused_begun (code : Nat) (r : Req) (s : State) (a n : Nat) : commitRefused (begun code r s) a n = commitRefused s a n := by
  simp only [commitRefused, protects_begun, supplyOk_begun]

/-! ### NV_COMMIT -/

/-- The commit of a gather, before it has a slot. -/
def commitOf (g : Gather) (n : Nat) (s : State) : NvCommit :=
  { slot := none, owner := n, dest := (gatherSpan g).1, data := gatherData s g, gather := some g }

theorem commitOf_length (g : Gather) (n : Nat) (s : State) : (commitOf g n s).data.length = (gatherSpan g).2 := by
  simp [commitOf, gatherData]

/-- The conditions under which NV_COMMIT takes a gather up: its mode, block protect and RESV allow it, and the engine can read what the
gather does not replace (R522, R531, R533, R552). -/
structure MayCommit (r : Req) (g : Gather) (s : State) : Prop where
  gather : gatherOf s r.tenant = some g
  mode : saBase ≤ (gatherSpan g).1 → s.core.mode = .service
  allowed : commitRefused s (gatherSpan g).1 (gatherSpan g).2 = none
  fixable : ∀ x ∈ r.env, x < 0
  readable : rangeBad s (gatherSpan g).1 (gatherSpan g).2 = false

theorem MayCommit.begun {r : Req} {g : Gather} {s : State} (h : MayCommit r g s) (code : Nat) : MayCommit r g (begun code r s) where
  gather := (gatherOf_begun ..).trans h.gather
  mode := fun sector => (begun_mode ..).trans (h.mode sector)
  allowed := (commitRefused_begun ..).trans h.allowed
  fixable := h.fixable
  readable := by simpa [rangeBad] using h.readable

/-- The entry of an operation that is answered later (R675). -/
def opEntry (kind : OpKind) (code : Nat) (r : Req) (async : Bool) (s : State) : PendOp :=
  { kind := kind, port := r.port, tenant := r.tenant, seq := r.seq, code := code, async := async, credit := true, silent := false,
    accepted := s.clk.us }

@[simp] theorem addOp_ops (kind : OpKind) (code : Nat) (r : Req) (async : Bool) (s : State) :
    (addOp kind code r async s).ops = s.ops ++ [opEntry kind code r async s] := rfl

/-- NV_COMMIT takes a gather up: into the first free slot, or behind the commits that wait for one (R532, R535). -/
theorem nvCommitBody_of_mayCommit {r : Req} {g : Gather} {pl : Bytes} {s : State} (h : MayCommit r g s) :
    ∃ n, nvCommitBody r pl s =
      (let u := dropGather r.tenant (corrected n s)
       let c := commitOf g r.tenant (corrected n s)
       match freeSlot s with
       | some k => .done stOk [] (startCommit k c u)
       | none => deferOp .nvCommit 0x0D03 r { u with nv := { u.nv with commits := u.nv.commits ++ [c] } }) := by
  obtain ⟨n, read⟩ := fillRead_of_good h.fixable h.readable
  have mode : (decide (saBase ≤ (gatherSpan g).1) && s.core.mode != .service) = false := by
    by_cases sector : saBase ≤ (gatherSpan g).1
    · simp [h.mode sector]
    · simp [sector]
  refine ⟨n, ?_⟩
  simp only [nvCommitBody, h.gather, mode, h.allowed, read, Bool.false_eq_true, if_false]
  rfl

/-- Without a gather NV_COMMIT answers RANGE. -/
theorem nvCommitBody_of_noGather {r : Req} {pl : Bytes} {s : State} (h : gatherOf s r.tenant = none) : nvCommitBody r pl s = refuse stRange s := by
  simp only [nvCommitBody, h]

/-! ### NV_COMMIT_COMPLETE (R532, R535, R536) -/

/-- Steps 4 and 5 of a commit to the F-array: its data go to their destination, and its slot is freed. -/
def copied (k : Nat) (c : NvCommit) (cs : List NvCommit) (s : State) : State :=
  slotFree k (faWrite c.dest c.data { s with nv := { s.nv with commits := cs } })

/-- The data stand at their destination, the slot's commit word is 0, and no other byte has changed. -/
theorem byteOf_copied {k : Nat} {c : NvCommit} {cs : List NvCommit} {s : State} (ok : MemOk s) (hk : k ≤ 8) (lo : 0x28000 ≤ c.dest)
    (hi : c.dest + c.data.length ≤ 0x40000) :
    readBytes (copied k c cs s) c.dest c.data.length = c.data ∧ readNat (copied k c cs s) (slotAddr k) 4 = 0 ∧
      ∀ x, ¬ (c.dest ≤ x ∧ x < c.dest + c.data.length) → ¬ (slotAddr k ≤ x ∧ x < slotAddr k + 4) →
        byteOf (copied k c cs s) x = byteOf s x := by
  have low := slotAddr_le hk
  have wordLength : (zeros 4).length = 4 := zeros_length 4
  have ok1 : MemOk (faWrite c.dest c.data { s with nv := { s.nv with commits := cs } }) := memOk_faWrite c.dest _ ok
  refine ⟨?data, ?word, fun x outData outWord => ?other⟩
  case data =>
    exact (readBytes_faWrite_other ok1 (slotAddr k) (zeros 4) (by omega)).trans
      (readBytes_faWrite (s := { s with nv := { s.nv with commits := cs } }) ok hi)
  case word =>
    exact congrArg leNat (readBytes_faWrite ok1 (a := slotAddr k) (bs := zeros 4) (by omega))
  case other =>
    exact (byteOf_faWrite_other ok1 (slotAddr k) (zeros 4) (by omega)).trans (byteOf_faWrite_other ok c.dest c.data (by omega))

/-- The commit that was accepted first is done where it is one of those asked for. -/
theorem commitsUpTo_first {p : NvCommit → Bool} {c : NvCommit} {cs : List NvCommit} {s : State} (first : s.nv.commits = c :: cs)
    (asked : p c = true) : commitsUpTo p s = commitDone s := by
  simp [commitsUpTo, first, asked, List.findIdx_cons]

/-- A commit to the F-array waits for no erase. -/
theorem commitDone_of_faDest {c : NvCommit} {cs : List NvCommit} {s : State} (first : s.nv.commits = c :: cs) (fa : c.dest < 0x40000) :
    commitDone s = commitRun s := by
  have free : ¬ 0x40000 ≤ c.dest := by omega
  simp [commitDone, commitHeld, first, free]

/-- Without a commit that waits, a free slot stays free. -/
theorem admitWaiting_of_allStarted (k : Nat) {s : State} (started : ∀ d ∈ s.nv.commits, d.slot ≠ none) : admitWaiting k s = s := by
  have nobody : s.nv.commits.filter (fun c => c.slot.isNone) = [] :=
    List.filter_eq_nil_iff.2 fun d hd => by simpa [Option.isNone_iff_eq_none] using started d hd
  simp [admitWaiting, nobody, admitFrom]

theorem postOwn_nv (n code flags src arg : Nat) (s : State) : (postOwn n code flags src arg s).nv = s.nv :=
  (keeps_postOwn (Sub.refl _) (Keeps.refl _ s)).nv rfl

theorem postOwn_mem (n code flags src arg : Nat) (s : State) : (postOwn n code flags src arg s).mem = s.mem :=
  (keeps_postOwn (Sub.refl _) (Keeps.refl _ s)).mem rfl

/-- A tenant's commit to the F-array completes: the copy, and NV_COMMITTED to the owner (R532, R535). -/
theorem commitRun_of_faDest {c : NvCommit} {cs : List NvCommit} {k : Nat} {s : State} (first : s.nv.commits = c :: cs)
    (slot : c.slot = some k) (tenants : k ≠ 8) (fa : c.dest < 0x40000) (started : ∀ d ∈ cs, d.slot ≠ none) :
    commitRun s = postOwn c.owner 0x0D01 0 k c.dest (copied k c cs s) := by
  have copy : commitCopy c.dest c.data { s with nv := { s.nv with commits := cs } } =
      faWrite c.dest c.data { s with nv := { s.nv with commits := cs } } := if_pos fa
  simp only [commitRun, first, slot, tenants, if_false, copy]
  refine admitWaiting_of_allStarted k fun d hd => started d ?_
  rw [postOwn_nv] at hd
  exact hd

/-! ### A tenant's own event (R621, R622) -/

theorem queueEvent_received (e : Event) (x : Tenant) :
    waitingOf e.code x < waitingOf e.code (queueEvent e x) ∨ x.overflowed < (queueEvent e x).overflowed := by
  unfold queueEvent
  split
  · left
    simp [waitingOf]
  · right
    unfold addLost
    split <;> exact Nat.lt_succ_self _

theorem tenant_queueFor_same (e : Event) {n : Nat} (s : State) (h : n < 64) : tenant (queueFor e n s) n = queueEvent e (tenant s n) := by
  unfold queueFor
  extract_lets s1 queued
  have queuedHere : tenant s1 n = queueEvent e (tenant s n) := tenant_onTenant_same _ _ h
  split
  · split <;> exact queuedHere
  · exact queuedHere

/-- A tenant's own event is posted to it (R621). -/
theorem postsTo_postOwn (n code flags src arg : Nat) (s : State) : PostsTo n code s (postOwn n code flags src arg s) := by
  unfold postOwn postDeferred
  refine ⟨fun stopped => ?held, fun runs inside => ?queued⟩
  case held =>
    rw [stopped]
    exact ⟨_, List.mem_append_right _ (List.mem_singleton.2 rfl), rfl, rfl⟩
  case queued =>
    rw [runs]
    have reached := tenant_queueFor_same { code := code, flags := flags, src := src, arg := arg, tick := tick s } s inside
    simp only [Received, if_true, deliver, reached]
    exact queueEvent_received { code := code, flags := flags, src := src, arg := arg, tick := tick s } _

/-! ### The statement -/

/-- An accepted NV_COMMIT that takes its gather up, with a slot free. -/
theorem exec_nvCommit_takesSlot {r : Req} {g : Gather} {k : Nat} {s : State} (ok : MemOk s) (accepted : Accepted cmdNvCommit r [] s)
    (may : MayCommit r g s) (small : (gatherSpan g).2 ≤ 256) (slot : freeSlot s = some k) (good : rangeBad s (slotAddr k) 276 = false) :
    ∃ s1 c, exec (.nvCommit r) s = .next (answered 0x0D03 r stOk [] s1) ∧ s1.nv.commits = s.nv.commits ++ [c] ∧ c.slot = some k ∧
      c.dest = (gatherSpan g).1 ∧ c.data.length = (gatherSpan g).2 ∧ gatherOf s1 r.tenant = none ∧ slotDurable s1 k = true := by
  obtain ⟨n, body⟩ := nvCommitBody_of_mayCommit (pl := []) (may.begun 0x0D03)
  have slotHere : freeSlot (begun 0x0D03 r s) = some k := by simpa [freeSlot, slotsInUse] using slot
  simp only [slotHere] at body
  have tenantSlot : k ≤ 8 := by
    have below := List.mem_range.1 (List.mem_of_find?_eq_some slot)
    omega
  have okHere : MemOk (begun 0x0D03 r s) := memOk_begun ok
  have goodHere : rangeBad (begun 0x0D03 r s) (slotAddr k) 276 = false := by simpa [rangeBad] using good
  have length := commitOf_length g r.tenant (corrected n (begun 0x0D03 r s))
  refine ⟨_, { commitOf g r.tenant (corrected n (begun 0x0D03 r s)) with slot := some k },
    congrArg Host.Outcome.next (serve_done accepted body), ?commits, rfl, rfl, length, ?dropped, ?durable⟩
  case commits =>
    rw [startCommit_commits]
    simp [dropGather, corrected]
  case dropped => rw [gatherOf_startCommit, gatherOf_dropGather_same]
  case durable =>
    exact slotDurable_startCommit (s := dropGather r.tenant (corrected n (begun 0x0D03 r s))) okHere tenantSlot (by omega) goodHere

/-- An accepted NV_COMMIT that takes its gather up and waits for a slot. -/
theorem exec_nvCommit_waits {r : Req} {g : Gather} {s : State} (accepted : Accepted cmdNvCommit r [] s) (may : MayCommit r g s)
    (full : freeSlot s = none) (sync : r.asyncOk = false) :
    ∃ t o c, exec (.nvCommit r) s = .next t ∧ t.ops = s.ops ++ [o] ∧ o.kind = .nvCommit ∧ o.tenant = r.tenant ∧ o.async = false ∧
      t.nv.commits = s.nv.commits ++ [c] ∧ c.slot = none ∧ t.mem = s.mem := by
  obtain ⟨n, body⟩ := nvCommitBody_of_mayCommit (pl := []) (may.begun 0x0D03)
  have fullHere : freeSlot (begun 0x0D03 r s) = none := by simpa [freeSlot, slotsInUse] using full
  simp only [fullHere, deferOp, sync, Bool.false_eq_true, if_false] at body
  refine ⟨_, opEntry .nvCommit 0x0D03 r false (begun 0x0D03 r s), commitOf g r.tenant (corrected n (begun 0x0D03 r s)),
    congrArg Host.Outcome.next (serve_owed accepted body), ?ops, rfl, rfl, rfl, ?commits, rfl, ?mem⟩
  case ops =>
    rw [addOp_ops]
    simp only [opEntry, dropGather, corrected, begun_ops]
  case commits => simp [addOp, dropGather, corrected]
  case mem => simp [addOp, dropGather, corrected]

/-- NV_COMMIT_COMPLETE of a tenant's commit to the user region, with every other commit in its slot. -/
theorem exec_nvCommitComplete {c : NvCommit} {cs : List NvCommit} {k : Nat} {s : State} (clocked : Clocked s) (noCapture : s.cap.cap = none)
    (first : s.nv.commits = c :: cs) (slot : c.slot = some k) (tenants : k < 8) (fa : c.dest < 0x40000) (started : ∀ d ∈ cs, d.slot ≠ none) :
    exec .nvCommitComplete s = .next (postOwn c.owner 0x0D01 0 k c.dest (copied k c cs s)) := by
  have notWindow : k ≠ 8 := by omega
  have asked : (c.slot.isSome && c.slot != some 8) = true := by simp [slot, notWindow]
  show Host.Outcome.next (onClock nvCommitComplete s) = _
  rw [onClock_of_clocked _ clocked, nvCommitComplete, markerTry_of_noCapture noCapture, commitsUpTo_first first asked,
    commitDone_of_faDest first fa, commitRun_of_faDest first slot notWindow fa started]

/-- Settles O41: an NV_GATHER in the user region is one case distinction over its range, a commit is the slot it takes and the seal it is
written with, and its completion is one copy between two writes that do not meet. -/
theorem gathersAndCommits : Obligations.GathersAndCommits := by
  refine ⟨fun r a data s accepted small lo hi noGather room unprotected => ?first, fun r a data s accepted small lo => ?denied,
    fun r a data g s accepted small lo hi gather outside => ?range, fun r g k s ok accepted gather small mode allowed fixable readable slot good => ?slot,
    fun r g s accepted gather mode allowed fixable readable full sync => ?waits, fun r s accepted noGather => ?noGather, fun r s accepted => ?discard,
    fun c cs k s ok clocked noCapture first slot tenants started lo fa hi => ?complete,
    fun r a data s accepted small lo hi noGather room covered => ?protectedFirst,
    fun r a data g s accepted small lo hi gather low high covered => ?protectedNext⟩
  case first =>
    obtain ⟨nonempty, most⟩ := gather_length accepted small
    have fits : ¬ (a < a ∨ a + 256 < a + data.length) := by omega
    have body := nvGatherBody_userRange (r := r) (s := begun 0x0D02 r s) small lo hi (fun _ => by simpa using room)
    simp only [gatherOf_begun, noGather, Option.getD_none, fits, protects_begun, unprotected, Bool.false_eq_true, if_false,
      gatherSpan_gatherPut_first nonempty] at body
    refine ⟨_, gatherPut { tenant := r.tenant, base := a, bytes := [] } a data, exec_nvGather accepted body, ?_, gatherPut_base .., ?_, ?_⟩
    · simpa using gatherOf_setGather_same (gatherPut { tenant := r.tenant, base := a, bytes := [] } a data) (begun 0x0D02 r s)
    · exact fun j hj => (mem_gatherPut ..).2 (.inl ⟨j, hj, by simp [hj]⟩)
    · exact begun_mem 0x0D02 r s
  case denied => exact exec_nvGather accepted (nvGatherBody_below small lo)
  case range =>
    have body := nvGatherBody_userRange (r := r) (s := begun 0x0D02 r s) small lo hi (by simp [gather])
    simp only [gatherOf_begun, gather, Option.getD_some, outside, if_true] at body
    exact exec_nvGather accepted body
  case slot => exact exec_nvCommit_takesSlot ok accepted ⟨gather, mode, allowed, fixable, readable⟩ small slot good
  case waits => exact exec_nvCommit_waits accepted ⟨gather, mode, allowed, fixable, readable⟩ full sync
  case noGather =>
    exact congrArg Host.Outcome.next (serve_done accepted (nvCommitBody_of_noGather (pl := []) ((gatherOf_begun ..).trans noGather)))
  case discard =>
    exact ⟨dropGather r.tenant (begun 0x0D04 r s), congrArg Host.Outcome.next (serve_done accepted rfl), gatherOf_dropGather_same ..,
      fun n other => (gatherOf_dropGather_other _ other).trans (gatherOf_begun ..)⟩
  case complete =>
    obtain ⟨data, word, others⟩ := byteOf_copied (k := k) (c := c) (cs := cs) ok (by omega) lo hi
    refine ⟨_, exec_nvCommitComplete clocked noCapture first slot tenants fa started, ?_⟩
    have posted : PostsTo c.owner 0x0D01 s (postOwn c.owner 0x0D01 0 k c.dest (copied k c cs s)) :=
      postsTo_postOwn c.owner 0x0D01 0 k c.dest (copied k c cs s)
    have sameNv := postOwn_nv c.owner 0x0D01 0 k c.dest (copied k c cs s)
    have sameMem := postOwn_mem c.owner 0x0D01 0 k c.dest (copied k c cs s)
    generalize postOwn c.owner 0x0D01 0 k c.dest (copied k c cs s) = t at posted sameNv sameMem
    exact ⟨congrArg Nv.commits sameNv, (readBytes_of_mem sameMem ..).trans data, (congrArg leNat (readBytes_of_mem sameMem ..)).trans word, posted,
      fun x outData outWord => (congrArg (memRead · x) sameMem).trans (others x outData outWord)⟩
  case protectedFirst =>
    obtain ⟨-, most⟩ := gather_length accepted small
    have fits : ¬ (a < a ∨ a + 256 < a + data.length) := by omega
    have body := nvGatherBody_userRange (r := r) (s := begun 0x0D02 r s) small lo hi (fun _ => by simpa using room)
    simp only [gatherOf_begun, noGather, Option.getD_none, fits, protects_begun, covered, if_false, if_true] at body
    exact exec_nvGather accepted body
  case protectedNext =>
    have fits : ¬ (a < g.base ∨ g.base + 256 < a + data.length) := by omega
    have body := nvGatherBody_userRange (r := r) (s := begun 0x0D02 r s) small lo hi (by simp [gather])
    simp only [gatherOf_begun, gather, Option.getD_some, fits, protects_begun, covered, if_false, if_true] at body
    exact exec_nvGather accepted body

end Sys2Proof.Machine
end

section
/-! Proofs about NV_READ (R522), and the refutation of obligation O42. Its clause on a word found uncorrectable says that the word is among
the bad words once the read has answered. The same read latches NV_ECC_UNCORR (R522), and while a capture is held that latch is a missed
fault, whose count is rewritten in the F-array at once (R254, R255). The write makes the words that it replaces whole good again
(assumption 24). Where the word found lies in the copy of the missed count that is written, it is good again when the answer is posted. The
statement speaks of every state in which the command is accepted; that a run from reset reaches the one below is not claimed. -/

namespace Sys2Proof.Machine

/-- An answer leaves the NV engine alone. -/
@[simp] theorem answered_nv (code : Nat) (r : Req) (st : Nat) (pl : Bytes) (s : State) : (answered code r st pl s).nv = s.nv :=
  (keeps_respond (Sub.refl _) (Keeps.refl _ s)).nv rfl

/-- An NV_READ of tenant 0 on port 1, during which the engine finds word 4330h, the first of the missed count, uncorrectable. -/
def missedCountRead : Req :=
  { port := 1, tenant := 0, seq := 0, asyncOk := false, waitQuiet := false, persist := false, env := [0x4330] }

/-- Firmware runs in STANDBY with the NV engine ready and RESV charged, a capture is held, and no missed fault has been counted yet. -/
def captureHeld : State :=
  { State.reset with
    core := { State.reset.core with run := .running, ready := true, nvReady := true, recalled := true, mode := .standby }
    ports := State.reset.ports.map (fun p => { p with ready := true })
    tenants := vmod State.reset.tenants 0 (fun t => { t with session := some 1 })
    nv := { State.reset.nv with resvMv := 14000 }
    cap := { State.reset.cap with state := .held } }

theorem nvRead_accepted_captureHeld : Accepted cmdNvRead missedCountRead (leBytes 4 0x21980 ++ leBytes 1 8) captureHeld := by
  decide +kernel

/-- The missed fault of the read rewrites the missed count, and the word that the read found is good again (R254, R255, R522). -/
theorem serve_nvRead_captureHeld_badWords :
    (serve cmdNvRead missedCountRead (leBytes 4 0x21980 ++ leBytes 1 8) captureHeld).nv.badWords = [] := by
  decide +kernel

/-- Refutes O42, by its clause on a read that meets an uncorrectable word: in `captureHeld` the word lies in the missed count, which the
fault of that very read rewrites. -/
theorem not_nvReadsAndEepromWindow : ¬ Obligations.NvReadsAndEepromWindow := by
  rintro ⟨-, uncorrectableRead, -⟩
  obtain ⟨s1, answer, -, bad, -⟩ := uncorrectableRead missedCountRead 0x21980 8 0x4330 captureHeld nvRead_accepted_captureHeld
    (by decide) (by decide) (by decide +kernel) (by decide +kernel) (by decide +kernel) rfl (by decide +kernel) (by decide) (by decide)
    (by decide)
  have served : serve cmdNvRead missedCountRead (leBytes 4 0x21980 ++ leBytes 1 8) captureHeld =
      answered 0x0D01 missedCountRead stHardware [] s1 := Host.Outcome.next.inj answer
  have noBadWord : s1.nv.badWords = [] := by
    rw [← serve_nvRead_captureHeld_badWords, served, answered_nv]
  rw [noBadWord] at bad
  exact List.not_mem_nil bad

end Sys2Proof.Machine
end

section
/-! Proofs about firmware updates (R551, R554 to R557, R713, R714), the two-copy structures behind them (R519), and obligation O44. -/

namespace Sys2Proof.Machine

/-! ### Erasing and programming the S-array (R550) -/

theorem memFind_clear (m : List Host.Cell) (a n x : Nat) :
    memFind (memClear m a n) x = if a ≤ x ∧ x < a + n then none else memFind m x := by
  induction m with
  | nil => simp [memClear, memFind]
  | cons c m ih =>
    obtain ⟨k, b⟩ := c
    by_cases cleared : a ≤ k ∧ k < a + n
    · have dropped : memClear ((k, b) :: m) a n = memClear m a n := by simp [memClear, cleared]
      have elsewhere : ¬ (a ≤ x ∧ x < a + n) → k ≠ x := by omega
      rw [dropped, ih]
      split
      next => rfl
      next outside => simp [memFind, elsewhere outside]
    · have kept : memClear ((k, b) :: m) a n = (k, b) :: memClear m a n := List.filter_cons_of_pos (by simp; omega)
      rw [kept, memFind, memFind, ih]
      by_cases here : k = x
      · subst here
        simp [cleared]
      · simp [here]

/-- An erased byte of the S-array reads as FFh. -/
theorem byteOf_clearBytes_same {s : State} {a n x : Nat} (inside : a ≤ x ∧ x < a + n) (lo : saBase ≤ x) (hi : x < 0x200000) :
    byteOf (clearBytes a n s) x = some 0xFF := by
  simp only [byteOf, clearBytes, memRead, memDefault_saAddress lo hi, memFind_clear, inside, and_self, if_true, Option.getD_none]

/-- A byte outside an erase keeps its value. -/
theorem byteOf_clearBytes_other {s : State} {a n x : Nat} (outside : ¬ (a ≤ x ∧ x < a + n)) :
    byteOf (clearBytes a n s) x = byteOf s x := by
  simp only [byteOf, clearBytes, memRead, memFind_clear, outside, if_false]

theorem memDefault_of_byteOf {s : State} {x : Nat} {b : Byte} (h : byteOf s x = some b) : (memDefault x).isSome = true := by
  cases default : memDefault x with
  | none => simp [byteOf, memRead, default] at h
  | some d => rfl

/-- Programming writes its own range only. -/
theorem byteOf_programBytes_other {s : State} (ok : MemOk s) (a : Nat) (bs : Bytes) {x : Nat} (h : x < a ∨ a + bs.length ≤ x) :
    byteOf (programBytes a bs s) x = byteOf s x := by
  induction bs generalizing a s with
  | nil => rfl
  | cons b bs ih =>
    rw [List.length_cons] at h
    rw [programBytes, ih (memWrite_wf ok ..) (a + 1) (by omega)]
    refine (memRead_write ok ..).trans (if_neg ?_)
    rintro ⟨rfl, -⟩
    omega

/-- Programming into an erased range leaves the data there: it clears the bits that are 0 in them. -/
theorem byteOf_programBytes_erased {s : State} (ok : MemOk s) {a : Nat} {bs : Bytes}
    (erased : ∀ x, a ≤ x → x < a + bs.length → byteOf s x = some 0xFF) {j : Nat} (h : j < bs.length) :
    byteOf (programBytes a bs s) (a + j) = some bs[j] := by
  induction bs generalizing a s j with
  | nil => exact absurd h (Nat.not_lt_zero j)
  | cons b bs ih =>
    rw [List.length_cons] at erased h
    have first : memRead s.mem a = some 0xFF := erased a (Nat.le_refl a) (by omega)
    have programmed : ((memRead s.mem a).getD 0xFF) &&& b = b := by
      rw [first, Option.getD_some]
      exact BitVec.allOnes_and
    rw [programBytes, programmed]
    cases j with
    | zero =>
      rw [byteOf_programBytes_other (memWrite_wf ok ..) (a + 1) bs (.inl (by omega))]
      exact (memRead_write ok ..).trans (if_pos ⟨rfl, memDefault_of_byteOf first⟩)
    | succ j =>
      have next : a + (j + 1) = a + 1 + j := by omega
      rw [next]
      refine ih (memWrite_wf ok ..) (fun x lo hi => ?_) (Nat.lt_of_succ_lt_succ h)
      refine (memRead_write ok ..).trans ?_
      rw [if_neg (by omega)]
      exact erased x (by omega) (by omega)

@[simp] theorem programBytes_fw (a : Nat) (bs : Bytes) (s : State) : (programBytes a bs s).fw = s.fw :=
  (keeps_programBytes (Sub.refl _) (Keeps.refl _ s)).fw rfl

/-! ### Two-copy structures (R519) -/

/-- One copy as it is written: the content, and behind it the generation and the content's CRC (R519, R776). -/
def copyWritten (a n gen : Nat) (body : Bytes) (s : State) : State :=
  faWrite (a + n - 8) (leBytes 4 gen ++ leBytes 4 (crc32 body)) (faWrite a body s)

/-- What a copy reads as once it is written. -/
theorem readBytes_copyWritten {a n gen : Nat} {body : Bytes} {s : State} (ok : MemOk s) (length : body.length + 8 = n)
    (fits : a + n ≤ 0x40000) :
    readBytes (copyWritten a n gen body s) a (n - 8) = body ∧ readBytes (copyWritten a n gen body s) (a + n - 8) 4 = leBytes 4 gen ∧
      readBytes (copyWritten a n gen body s) (a + n - 4) 4 = leBytes 4 (crc32 body) := by
  have crcLength : (leBytes 4 (crc32 body)).length = 4 := leBytes_length 4 _
  have genLength : (leBytes 4 gen).length = 4 := leBytes_length 4 gen
  unfold copyWritten
  generalize leBytes 4 (crc32 body) = crc at crcLength
  generalize leBytes 4 gen = g at genLength
  have ok1 : MemOk (faWrite a body s) := memOk_faWrite a body ok
  have tail : (g ++ crc).length = 8 := by simp [genLength, crcLength]
  have crcAt : a + n - 4 = a + n - 8 + 4 := by omega
  refine ⟨?body, ?gen, ?crc⟩
  case body =>
    have shorter : n - 8 = body.length := by omega
    rw [readBytes_faWrite_other ok1 _ _ (by omega), shorter, readBytes_faWrite ok (by omega)]
  case gen =>
    have read := readBytes_faWrite_part ok1 (a := a + n - 8) (i := 0) (n := 4) (bs := g ++ crc) (by omega) (by omega)
    simpa [genLength] using read
  case crc =>
    rw [crcAt, readBytes_faWrite_part ok1 (i := 4) (by omega) (by omega)]
    simp [genLength, crcLength]

/-- No word of a copy is bad once it is written whole. -/
theorem rangeBad_copyWritten_same {a n gen : Nat} {body : Bytes} {s : State} (length : body.length + 8 = n) (aligned : 8 ∣ a) (whole : 8 ∣ n) :
    rangeBad (copyWritten a n gen body s) a n = false := by
  refine rangeBad_eq_false.2 fun w hw => ?_
  obtain ⟨left, notTail⟩ := mem_badWords_faWrite.1 hw
  obtain ⟨-, notBody⟩ := mem_badWords_faWrite.1 left
  simp only [List.length_append, leBytes_length] at notTail
  omega

/-- A copy that is written changes nothing outside it. -/
theorem readBytes_copyWritten_other {a n gen x m : Nat} {body : Bytes} {s : State} (ok : MemOk s) (length : body.length + 8 = n)
    (apart : x + m ≤ a ∨ a + n ≤ x) : readBytes (copyWritten a n gen body s) x m = readBytes s x m := by
  have tail : (leBytes 4 gen ++ leBytes 4 (crc32 body)).length = 8 := by simp
  rw [copyWritten, readBytes_faWrite_other (memOk_faWrite a body ok) _ _ (by omega), readBytes_faWrite_other ok _ _ (by omega)]

theorem rangeBad_copyWritten_other {a n gen x m : Nat} {body : Bytes} {s : State} (length : body.length + 8 = n)
    (apart : x + m ≤ a ∨ a + n ≤ x) : rangeBad (copyWritten a n gen body s) x m = rangeBad s x m := by
  rw [Bool.eq_iff_iff, ← not_iff_not, Bool.not_eq_true, Bool.not_eq_true, rangeBad_eq_false, rangeBad_eq_false]
  refine ⟨fun good w hw hit => ?_, fun good w hw => good w (mem_badWords_faWrite.1 (mem_badWords_faWrite.1 hw).1).1⟩
  refine good w (mem_badWords_faWrite.2 ⟨mem_badWords_faWrite.2 ⟨hw, by omega⟩, ?_⟩) hit
  simp only [List.length_append, leBytes_length]
  omega

/-- A two-copy structure that lies in the F-array in whole words (Table NVS.2). -/
structure TwoCopy.Laid (t : TwoCopy) : Prop where
  aligned : 8 ∣ t.at_
  whole : 8 ∣ t.size
  fits : t.at_ + 2 * t.size ≤ 0x40000
  room : 8 ≤ t.size

/-- The first address of a copy. -/
abbrev copyAt (t : TwoCopy) (c : Nat) : Nat := t.at_ + c * t.size

/-- A copy that is written is valid, and its generation is the one written. -/
theorem copyValid_copyWritten {t : TwoCopy} (laid : t.Laid) {c gen : Nat} {body : Bytes} {s : State} (ok : MemOk s) (two : c < 2)
    (length : body.length + 8 = t.size) (small : gen < 2 ^ 32) :
    copyValid (copyWritten (copyAt t c) t.size gen body s) t c = true ∧ copyGen (copyWritten (copyAt t c) t.size gen body s) t c = gen := by
  obtain ⟨aligned, whole, fits, -⟩ := laid
  have place : t.at_ + c * t.size + t.size ≤ 0x40000 ∧ 8 ∣ t.at_ + c * t.size := by
    interval_cases c <;> omega
  obtain ⟨content, generation, crc⟩ := readBytes_copyWritten (gen := gen) ok length place.1
  have good := rangeBad_copyWritten_same (gen := gen) (s := s) length place.2 whole
  exact ⟨by simp only [copyValid, readNat, content, crc, good, leNat_leBytes_crc32, beq_self_eq_true, Bool.not_false, Bool.and_self],
    by simp only [copyGen, readNat, generation, leNat_leBytes_four small]⟩

/-- The other copy stays as it is. -/
theorem copyValid_copyWritten_other {t : TwoCopy} (laid : t.Laid) {c d gen : Nat} {body : Bytes} {s : State} (ok : MemOk s)
    (two : c < 2) (other : d = 1 - c) (length : body.length + 8 = t.size) :
    copyValid (copyWritten (copyAt t c) t.size gen body s) t d = copyValid s t d ∧
      copyGen (copyWritten (copyAt t c) t.size gen body s) t d = copyGen s t d := by
  have room := laid.room
  have apart : copyAt t d + t.size ≤ copyAt t c ∨ copyAt t c + t.size ≤ copyAt t d := by
    interval_cases c <;> simp [other, copyAt]
  have reads : ∀ x m, copyAt t d ≤ x → x + m ≤ copyAt t d + t.size →
      readBytes (copyWritten (copyAt t c) t.size gen body s) x m = readBytes s x m :=
    fun x m lo hi => readBytes_copyWritten_other ok length (by omega)
  have bad := rangeBad_copyWritten_other (gen := gen) (s := s) length apart
  constructor
  · simp only [copyValid, readNat, bad, reads (copyAt t d + t.size - 4) 4 (by omega) (by omega),
      reads (copyAt t d) (t.size - 8) (by omega) (by omega)]
  · simp only [copyGen, readNat, reads (copyAt t d + t.size - 8) 4 (by omega) (by omega)]

theorem copyTaken_lt {t : TwoCopy} {c : Nat} {s : State} (h : copyTaken s t = some c) : c < 2 := by
  unfold copyTaken at h
  split at h
  · split at h <;> (cases h; decide)
  · cases h; decide
  · cases h; decide
  · cases h

theorem copyTaken_eq_none {t : TwoCopy} {s : State} (h : copyTaken s t = none) : copyValid s t 1 = false := by
  unfold copyTaken at h
  split at h
  · split at h <;> cases h
  · cases h
  · cases h
  · assumption

/-- A reader takes a valid copy that is newer than the other, if the other is valid at all (R519). -/
theorem copyTaken_of_newer {t : TwoCopy} {c : Nat} {s : State} (two : c < 2) (valid : copyValid s t c = true)
    (newer : copyValid s t (1 - c) = true → copyGen s t (1 - c) < copyGen s t c) : copyTaken s t = some c := by
  interval_cases c
  · cases other : copyValid s t 1 with
    | false => simp [copyTaken, valid, other]
    | true => simp [copyTaken, valid, other, Nat.le_of_lt (newer other)]
  · cases other : copyValid s t 0 with
    | false => simp [copyTaken, valid, other]
    | true => simp [copyTaken, valid, other, newer other]

/-- A two-copy structure reads back with the content that was written last (R519, R776). -/
theorem readTwo_writeTwo {t : TwoCopy} (laid : t.Laid) (content : Bytes) {s : State} (ok : MemOk s)
    (first : copyGen s t 0 + 1 < 2 ^ 32) (second : copyGen s t 1 + 1 < 2 ^ 32) :
    ∃ tail, readTwo (writeTwo t content s) t = some (padTo (t.size - 8) content ++ tail) := by
  have length : (padTo (t.size - 8) content).length + 8 = t.size := by
    have room := laid.room
    simp only [padTo, bytesAt, List.drop_zero, List.length_append, List.length_take, List.length_replicate]
    omega
  have taken : ∃ c gen, c < 2 ∧ writeTwo t content s = copyWritten (copyAt t c) t.size gen (padTo (t.size - 8) content) s ∧
      copyTaken (writeTwo t content s) t = some c := by
    cases before : copyTaken s t with
    | none =>
      have write : writeTwo t content s = copyWritten (copyAt t 0) t.size 1 (padTo (t.size - 8) content) s := by
        simp only [writeTwo, before, copyWritten]
      obtain ⟨valid, -⟩ := copyValid_copyWritten laid (c := 0) (gen := 1) ok (by decide) length (by decide)
      obtain ⟨other, -⟩ := copyValid_copyWritten_other laid (c := 0) (gen := 1) ok (by decide) rfl length
      refine ⟨0, 1, by decide, write, write ▸ copyTaken_of_newer (by decide) valid fun otherValid => ?_⟩
      rw [other, copyTaken_eq_none before] at otherValid
      exact Bool.noConfusion otherValid
    | some c =>
      have two := copyTaken_lt before
      have write : writeTwo t content s =
          copyWritten (copyAt t (1 - c)) t.size (copyGen s t c + 1) (padTo (t.size - 8) content) s := by
        simp only [writeTwo, before, copyWritten]
      have small : copyGen s t c + 1 < 2 ^ 32 := by
        interval_cases c
        · exact first
        · exact second
      have back : c = 1 - (1 - c) := by omega
      obtain ⟨valid, generation⟩ := copyValid_copyWritten laid (c := 1 - c) ok (by omega) length small
      obtain ⟨-, otherGen⟩ := copyValid_copyWritten_other laid (c := 1 - c) (gen := copyGen s t c + 1) ok (by omega) back length
      refine ⟨1 - c, _, by omega, write, write ▸ copyTaken_of_newer (by omega) valid fun _ => ?_⟩
      rw [← back, otherGen, generation]
      exact Nat.lt_succ_self _
  obtain ⟨c, gen, two, write, reader⟩ := taken
  have fits : copyAt t c + t.size ≤ 0x40000 := by
    have fits := laid.fits
    interval_cases c <;> simp only [copyAt] <;> omega
  have whole : t.size = t.size - 8 + 8 := by omega
  obtain ⟨body, -⟩ := readBytes_copyWritten (gen := gen) ok length fits
  refine ⟨readBytes (writeTwo t content s) (copyAt t c + (t.size - 8)) 8, ?_⟩
  rw [readTwo, reader]
  show some (readBytes (writeTwo t content s) (copyAt t c) t.size) = _
  rw [whole, readBytes_add, ← whole, write, body]

/-! ### Boot control (Table NVS.9) -/

theorem tcBoot_laid : tcBoot.Laid where
  aligned := by decide
  whole := by decide
  fits := by decide
  room := by decide

/-- Boot control is read from memory and the good words of it. -/
theorem bootCtl_congr {s t : State} (mem : t.mem = s.mem) (bad : t.nv.badWords = s.nv.badWords) : bootCtl t = bootCtl s := by
  have reads := readBytes_of_mem mem
  have valid : ∀ c, copyValid t tcBoot c = copyValid s tcBoot c := fun c => by
    simp only [copyValid, readNat, rangeBad, reads, bad]
  have generation : ∀ c, copyGen t tcBoot c = copyGen s tcBoot c := fun c => by
    simp only [copyGen, readNat, reads]
  have copies : copyTaken t tcBoot = copyTaken s tcBoot := by
    unfold copyTaken
    rw [valid, valid, generation, generation]
  simp only [bootCtl, readTwo, copies, reads]

/-- TRIAL reads back as it is written. -/
theorem bootCtl_writeBoot_trial {c : BootCtl} {s : State} (ok : MemOk s) (first : copyGen s tcBoot 0 + 1 < 2 ^ 32)
    (second : copyGen s tcBoot 1 + 1 < 2 ^ 32) (small : c.trial < 256) : (bootCtl (writeBoot c s)).trial = c.trial := by
  obtain ⟨tail, read⟩ := readTwo_writeTwo tcBoot_laid (leBytes 1 c.active ++ leBytes 1 c.trial ++ leBytes 1 c.resets ++ zeros 1 ++
    leBytes 4 c.floor ++ leBytes 4 s.core.bootCount) ok first second
  have trialByte : (bootCtl (writeBoot c s)).trial = (BitVec.ofNat 8 (c.trial % 256)).toNat := by
    rw [bootCtl, writeBoot, read]
    rfl
  rw [trialByte, BitVec.toNat_ofNat]
  omega

theorem bootCtl_onCore (f : CoreBlk → CoreBlk) (s : State) : bootCtl (onCore f s) = bootCtl s :=
  bootCtl_congr (onCore_mem f s) (congrArg Nv.badWords (onCore_nv f s))

@[simp] theorem bootCtl_begun (code : Nat) (r : Req) (s : State) : bootCtl (begun code r s) = bootCtl s :=
  bootCtl_congr (begun_mem ..) (congrArg Nv.badWords (begun_nv ..))

/-! ### The inactive slot -/

@[simp] theorem inactiveSlot_begun (code : Nat) (r : Req) (s : State) : inactiveSlot (begun code r s) = inactiveSlot s := by
  simp only [inactiveSlot, begun_run, begun_slot, bootCtl_begun]

theorem inactiveSlot_lt (s : State) : inactiveSlot s < 2 := by
  unfold inactiveSlot
  split <;> omega

/-- A firmware slot lies in the S-array. -/
theorem fwSlot_inside {k x : Nat} (two : k < 2) (lo : fwSlotAddr k ≤ x) (hi : x < fwSlotAddr k + 0x40000) : saBase ≤ x ∧ x < 0x200000 := by
  unfold fwSlotAddr saBase at *
  omega

@[simp] theorem saBusy_begun (code : Nat) (r : Req) (s : State) : saBusy (begun code r s) = saBusy s := by
  simp only [saBusy, slotErasing, begun_nv, begun_fw, begun_holdup]

theorem slotHeader_congr {s t : State} (mem : t.mem = s.mem) (k : Nat) : slotHeader t k = slotHeader s k := readBytes_of_mem mem ..

@[simp] theorem slotSigned_begun (code : Nat) (r : Req) (s : State) (k : Nat) : slotSigned (begun code r s) k = slotSigned s k := by
  simp only [slotSigned, slotDigest, slotHeader_congr (begun_mem code r s), readBytes_of_mem (begun_mem code r s)]

@[simp] theorem slotSecurity_begun (code : Nat) (r : Req) (s : State) (k : Nat) : slotSecurity (begun code r s) k = slotSecurity s k := by
  unfold slotSecurity readNat
  rw [readBytes_of_mem (begun_mem code r s), readBytes_of_mem (begun_mem code r s)]

/-! ### FW_BEGIN and the erase of the slot -/

theorem body_cmdFwBegin_taken {r : Req} {pl : Bytes} {s : State} (noTrial : (bootCtl s).trial = 0xFF) (idle : s.fw.erasing = false) :
    cmdFwBegin.body r pl s = .accepted (addOp .fwBegin 0x0E01 r true
      { s with fw := { open_ := true, erasing := true, erased := 0, chunkEnd := 0, finishedOk := false } }) := by
  simp only [cmdFwBegin, fwBeginBody, noTrial, idle, ne_eq, not_true_eq_false, Bool.false_eq_true, or_self, if_false]

theorem body_cmdFwBegin_inTrial {r : Req} {pl : Bytes} {s : State} (trial : (bootCtl s).trial ≠ 0xFF) :
    cmdFwBegin.body r pl s = .done stBusy [] s := by
  simp only [cmdFwBegin, fwBeginBody, refuse, ne_eq, trial, not_false_eq_true, true_or, if_true]

theorem completeOp_of_noOps (k : OpKind) (st : Nat) (pl : Bytes) {s : State} (h : s.ops = []) : completeOp k st pl s = s := by
  simp only [completeOp, h, List.find?_nil]

/-- Where nothing waited behind the erase, its end changes neither the arrays nor the update. -/
theorem heldGo_of_idle {s : State} (records : s.log.waiting = []) (ops : s.ops = []) : (heldGo s).mem = s.mem ∧ (heldGo s).fw = s.fw := by
  unfold heldGo
  rw [records]
  split <;> simp only [flushRecs, ops, List.foldl_nil, and_self]

/-- The slot and the update as the erase leaves them, before what waited behind it goes (R554, R714). -/
def slotEraseOver (ok : Bool) (s : State) : State :=
  let s1 := if ok then clearBytes (fwSlotAddr (inactiveSlot s)) 0x40000 s else s
  { s1 with fw := { s1.fw with erasing := false, open_ := ok && s1.fw.open_ }
            nv := { s1.nv with rewriteNeeded := s1.nv.rewriteNeeded && !ok
                               blank := if ok then inactiveSlot s :: s1.nv.blank.erase (inactiveSlot s) else s1.nv.blank } }

theorem fwEraseDone_of_slotErasing (ok : Bool) {s : State} (h : slotErasing s = true) :
    fwEraseDone ok s = heldGo (completeOp .fwBegin (if ok then stOk else stHardware) [] (slotEraseOver ok s)) := if_pos h

/-- What FW_ERASE_DONE leaves where nothing waited behind the erase. -/
theorem fwEraseDone_of_idle (ok : Bool) {s : State} (erasing : slotErasing s = true) (records : s.log.waiting = []) (ops : s.ops = []) :
    (fwEraseDone ok s).mem = (if ok then clearBytes (fwSlotAddr (inactiveSlot s)) 0x40000 s else s).mem ∧
      (fwEraseDone ok s).fw = { s.fw with erasing := false, open_ := ok && s.fw.open_ } := by
  have noOps : (slotEraseOver ok s).ops = [] := by cases ok <;> exact ops
  have noRecords : (slotEraseOver ok s).log.waiting = [] := by cases ok <;> exact records
  obtain ⟨mem, fw⟩ := heldGo_of_idle noRecords noOps
  rw [fwEraseDone_of_slotErasing ok erasing, completeOp_of_noOps _ _ _ noOps, mem, fw]
  cases ok <;> exact ⟨rfl, rfl⟩

/-- What SECTOR_ERASE_DONE leaves while a slot is erased and nothing waits behind the erase: one more sector is erased (R551). -/
theorem sectorEraseDone_of_idle {s : State} (erasing : slotErasing s = true) (more : s.fw.erased < 64) (records : s.log.waiting = [])
    (ops : s.ops = []) :
    (sectorEraseDone s).mem = (clearBytes (fwSlotAddr (inactiveSlot s) + 0x1000 * s.fw.erased) 0x1000 s).mem ∧
      (sectorEraseDone s).fw = { s.fw with erased := s.fw.erased + 1 } := by
  have busy : saBusy s = true := by simp [saBusy, erasing]
  have parts : (s.fw.erasing = true ∧ s.nv.erasing.isNone = true) ∧ s.core.holdup = false := by simpa [slotErasing] using erasing
  obtain ⟨⟨update, noLogErase⟩, -⟩ := parts
  have slotOnly : s.nv.erasing.isSome = false := by simpa using noLogErase
  have sector : eraseEnds s = slotSectorErased s := by simp only [eraseEnds, slotOnly, Bool.false_eq_true, if_false]
  rw [sectorEraseDone, if_pos busy, sector, slotSectorErased, if_pos ⟨update, more⟩]
  exact heldGo_of_idle records ops

/-! ### FW_CHUNK -/

/-- A chunk that starts behind the last one and fits the slot is programmed; any other is out of range (R554). -/
theorem fwChunkRun_blockPayload {off : Nat} {data : Bytes} {s : State} (small : data.length < 256) (word : off < 2 ^ 32) :
    fwChunkRun (blockPayload off data) s =
      if !s.fw.open_ || decide (off < s.fw.chunkEnd) || decide (262144 < off + data.length) then (stRange, s)
      else
        (stOk, { programBytes (fwSlotAddr (inactiveSlot s) + off) data s with fw := { s.fw with chunkEnd := off + data.length } }) := by
  simp only [fwChunkRun, fieldAt_blockPayload data word, byteAt_blockPayload off small, bytesAt_blockPayload, programBytes_fw]

theorem body_cmdFwChunk_runs {r : Req} {pl : Bytes} {s : State} (free : saBusy s = false) (idle : s.fw.erasing = false) :
    cmdFwChunk.body r pl s = .done (fwChunkRun pl s).1 [] (fwChunkRun pl s).2 := by
  simp only [cmdFwChunk, fwChunkBody, free, idle, Bool.or_self, Bool.and_false, Bool.false_eq_true, if_false]

theorem body_cmdFwChunk_waits {r : Req} {pl : Bytes} {s : State} (update : s.fw.open_ = true) (erasing : s.fw.erasing = true) :
    cmdFwChunk.body r pl s = .owed (addOp (.fwChunk r pl) 0x0E02 r false s) := by
  simp only [cmdFwChunk, fwChunkBody, update, erasing, Bool.or_true, Bool.and_self, if_true]

/-! ### FW_FINISH and FW_ACTIVATE -/

/-- FW_FINISH judges the signature first and the rollback floor then (R554). -/
theorem fwFinishRun_eq {s : State} (update : s.fw.open_ = true) :
    fwFinishRun s =
      (if slotSigned s (inactiveSlot s) = false then stFwSignature
        else if slotSecurity s (inactiveSlot s) < (bootCtl s).floor then stFwRollback else stOk,
       { s with fw := { s.fw with
           finishedOk := slotSigned s (inactiveSlot s) && decide ((bootCtl s).floor ≤ slotSecurity s (inactiveSlot s)) } }) := by
  simp only [fwFinishRun]
  cases signed : slotSigned s (inactiveSlot s) with
  | false => simp
  | true =>
    by_cases old : slotSecurity s (inactiveSlot s) < (bootCtl s).floor
    · simp [old]
    · simp [old, update, Nat.le_of_not_lt old]

theorem body_cmdFwFinish_runs {r : Req} {pl : Bytes} {s : State} (idle : s.fw.erasing = false) :
    cmdFwFinish.body r pl s = .done (fwFinishRun s).1 [] (fwFinishRun s).2 := by
  simp only [cmdFwFinish, fwFinishBody, idle, Bool.false_eq_true, if_false]

theorem body_cmdFwActivate_finished {r : Req} {pl : Bytes} {s : State} (finished : s.fw.finishedOk = true) :
    cmdFwActivate.body r pl s = .done stOk [] (onCore (fun c => { c with resetDue := some .fwActivate })
      (writeBoot { bootCtl s with trial := inactiveSlot s } s)) := by
  simp only [cmdFwActivate, fwActivateBody, finished, Bool.not_true, Bool.false_eq_true, if_false]
  rfl

theorem body_cmdFwActivate_unfinished {r : Req} {pl : Bytes} {s : State} (finished : s.fw.finishedOk = false) :
    cmdFwActivate.body r pl s = .done stDenied [] s := by
  simp only [cmdFwActivate, fwActivateBody, refuse, finished, Bool.not_false, if_true]

@[simp] theorem writeBoot_run (c : BootCtl) (s : State) : (writeBoot c s).core.run = s.core.run :=
  (keeps_writeBoot (Sub.refl _) (Keeps.refl _ s)).coreK.run rfl

theorem slotInfo_length (s : State) (k : Nat) : (slotInfo s k).length = 16 := by
  have field : ∀ (h : Bytes) (off n : Nat), (bytesAt h off n).length = n := fun h off n => by
    simp only [bytesAt, List.length_append, List.length_take, List.length_replicate]
    omega
  simp only [slotInfo, List.length_append, leBytes_length, zeros_length, field]

/-! ### The statement -/

/-- Settles O44: the erase, the programming and the reading back are facts about single bytes, TRIAL is the content of a two-copy structure
that reads back, and each command's answer is one branch of its body. -/
theorem firmwareUpdates : Obligations.FirmwareUpdates := by
  refine ⟨fun r s accepted noTrial idle => ?begin_, fun s clocked erasing records ops => ?erased,
    fun s clocked erasing records ops => ?eraseFailed,
    fun r off a data s ok accepted small update free idle behind fits place erased => ?chunk,
    fun r off data s accepted small word before free idle => ?chunkRange, fun r s accepted update idle => ?finish,
    fun r s ok accepted finished first second => ?activate, fun r s accepted unfinished => ?activateDenied, fun r s accepted => ?info,
    fun r s accepted trial => ?beginBusy, fun r off data s accepted update erasing => ?chunkWaits,
    fun s clocked erasing more records ops => ?sector⟩
  case begin_ =>
    have body := body_cmdFwBegin_taken (r := r) (pl := []) (s := begun 0x0E01 r s) (by simpa using noTrial) (by simpa using idle)
    exact ⟨_, congrArg Host.Outcome.next (serve_acceptedLater accepted body), rfl, begun_mem 0x0E01 r s⟩
  case erased =>
    obtain ⟨mem, fw⟩ := fwEraseDone_of_idle true erasing records ops
    refine ⟨_, congrArg Host.Outcome.next (onClock_of_clocked _ clocked), fw, fun x lo hi => ?_, fun x outside => ?_⟩
    · obtain ⟨inLo, inHi⟩ := fwSlot_inside (inactiveSlot_lt s) lo hi
      exact (congrArg (memRead · x) mem).trans (byteOf_clearBytes_same ⟨lo, hi⟩ inLo inHi)
    · exact (congrArg (memRead · x) mem).trans (byteOf_clearBytes_other (by omega))
  case eraseFailed =>
    obtain ⟨mem, fw⟩ := fwEraseDone_of_idle false erasing records ops
    exact ⟨_, congrArg Host.Outcome.next (onClock_of_clocked _ clocked), fw, mem⟩
  case chunk =>
    subst place
    have inRange : (!s.fw.open_ || decide (off < s.fw.chunkEnd) || decide (262144 < off + data.length)) = false := by
      simp [update]
      omega
    have body := body_cmdFwChunk_runs (r := r) (pl := blockPayload off data) (s := begun 0x0E02 r s) (by simpa using free) (by simpa using idle)
    simp only [fwChunkRun_blockPayload (s := begun 0x0E02 r s) small (by omega : off < 2 ^ 32), begun_fw, inRange, inactiveSlot_begun,
      Bool.false_eq_true, if_false] at body
    have sameBytes : ∀ x, byteOf (begun 0x0E02 r s) x = byteOf s x := fun x => congrArg (memRead · x) (begun_mem 0x0E02 r s)
    refine ⟨_, congrArg Host.Outcome.next (serve_done accepted body), rfl, readBytes_eq fun j hj => ?_, fun x outside => ?_⟩
    · exact byteOf_programBytes_erased (memOk_begun ok) (fun x lo hi => (sameBytes x).trans (erased x lo hi)) hj
    · exact (byteOf_programBytes_other (memOk_begun ok) _ _ (by omega)).trans (sameBytes x)
  case chunkRange =>
    have body := body_cmdFwChunk_runs (r := r) (pl := blockPayload off data) (s := begun 0x0E02 r s) (by simpa using free) (by simpa using idle)
    simp only [fwChunkRun_blockPayload (s := begun 0x0E02 r s) small word, begun_fw, before, decide_true, Bool.or_true, Bool.true_or,
      if_true] at body
    exact congrArg Host.Outcome.next (serve_done accepted body)
  case finish =>
    have body := body_cmdFwFinish_runs (r := r) (pl := []) (s := begun 0x0E03 r s) (by simpa using idle)
    rw [fwFinishRun_eq (by simpa using update)] at body
    simp only [slotSigned_begun, slotSecurity_begun, inactiveSlot_begun, bootCtl_begun] at body
    exact ⟨_, congrArg Host.Outcome.next (serve_done accepted body), by dsimp only, begun_mem 0x0E03 r s⟩
  case activate =>
    have body := body_cmdFwActivate_finished (r := r) (pl := []) (s := begun 0x0E04 r s) (by simpa using finished)
    simp only [bootCtl_begun, inactiveSlot_begun] at body
    have generation : ∀ c, copyGen (begun 0x0E04 r s) tcBoot c = copyGen s tcBoot c := fun c => by
      simp only [copyGen, readNat, readBytes_of_mem (begun_mem 0x0E04 r s)]
    have slot : inactiveSlot s < 256 := Nat.lt_of_lt_of_le (inactiveSlot_lt s) (by decide)
    have trial := bootCtl_writeBoot_trial (c := { bootCtl s with trial := inactiveSlot s }) (memOk_begun (code := 0x0E04) (r := r) ok)
      ((generation 0).symm ▸ first) ((generation 1).symm ▸ second) slot
    refine ⟨_, congrArg Host.Outcome.next (serve_done accepted body), rfl, ?trial, ?run⟩
    case trial => rw [bootCtl_onCore, trial]
    case run => simp only [onCore_core, writeBoot_run, begun_run]
  case activateDenied =>
    have body := body_cmdFwActivate_unfinished (r := r) (pl := []) (s := begun 0x0E04 r s) (by simpa using unfinished)
    exact congrArg Host.Outcome.next (serve_done accepted body)
  case info =>
    refine ⟨_, congrArg Host.Outcome.next (serve_done accepted rfl), ?_⟩
    simp only [List.length_append, leBytes_length, zeros_length, slotInfo_length]
  case beginBusy =>
    have body := body_cmdFwBegin_inTrial (r := r) (pl := []) (s := begun 0x0E01 r s) (by simpa using trial)
    exact congrArg Host.Outcome.next (serve_done accepted body)
  case chunkWaits =>
    have body := body_cmdFwChunk_waits (r := r) (pl := blockPayload off data) (s := begun 0x0E02 r s) (by simpa using update)
      (by simpa using erasing)
    exact ⟨_, opEntry (.fwChunk r (blockPayload off data)) 0x0E02 r false (begun 0x0E02 r s),
      congrArg Host.Outcome.next (serve_owed accepted body), by rw [addOp_ops, begun_ops], rfl, rfl, rfl, begun_fw 0x0E02 r s,
      begun_mem 0x0E02 r s⟩
  case sector =>
    obtain ⟨mem, fw⟩ := sectorEraseDone_of_idle erasing more records ops
    exact ⟨_, congrArg Host.Outcome.next (onClock_of_clocked _ clocked), fw,
      fun x outside => (congrArg (memRead · x) mem).trans (byteOf_clearBytes_other (by omega))⟩

end Sys2Proof.Machine
end

section
/-! Proofs about events (R47, R620 to R622): what a queue takes, what it loses and counts, which tenants a post reaches, and obligation O59. -/

namespace Sys2Proof.Machine

/-! ### A tenant's queue (R620, R622) -/

theorem queueEvent_of_room {e : Event} {x : Tenant} (room : queuedCount x.queue < 32) :
    queueEvent e x = { x with queue := x.queue ++ [e], posted := x.posted + 1 } := if_pos room

theorem queueEvent_of_full {e : Event} {x : Tenant} (full : 32 ≤ queuedCount x.queue) :
    queueEvent e x = addLost 1 e.tick { x with posted := x.posted + 1, overflowed := x.overflowed + 1 } := if_neg (Nat.not_lt.2 full)

/-- EVENTS_LOST that waits already counts the further events. -/
theorem addLost_of_waiting {n t : Nat} {x : Tenant} (waits : ∃ d ∈ x.queue, d.code = evLost) :
    addLost n t x = { x with queue := x.queue.map (fun d => if d.code = evLost then { d with arg := d.arg + n } else d) } := by
  have found : x.queue.any (fun d => d.code == evLost) = true := by simpa using waits
  simp only [addLost, found, if_true, beq_iff_eq]

/-- The first lost event queues EVENTS_LOST in the reserved place. -/
theorem addLost_of_first {n t : Nat} {x : Tenant} (none_ : ∀ d ∈ x.queue, d.code ≠ evLost) :
    addLost n t x =
      { x with queue := x.queue ++ [{ code := evLost, flags := 0, src := 0, arg := n, tick := t }], posted := x.posted + 1 } := by
  have absent : x.queue.any (fun d => d.code == evLost) = false := by simpa using none_
  simp only [addLost, absent, Bool.false_eq_true, if_false]

theorem waiting_or_first (x : Tenant) : (∃ d ∈ x.queue, d.code = evLost) ∨ ∀ d ∈ x.queue, d.code ≠ evLost := by
  by_cases h : ∃ d ∈ x.queue, d.code = evLost
  · exact .inl h
  · exact .inr fun d inQueue same => h ⟨d, inQueue, same⟩

/-- Counting lost events leaves EVENTS_LOST in the queue, and takes none of the 32 places. -/
theorem addLost_queue (n t : Nat) (x : Tenant) :
    (∃ d ∈ (addLost n t x).queue, d.code = evLost) ∧ queuedCount (addLost n t x).queue = queuedCount x.queue := by
  rcases waiting_or_first x with waits | first
  · rw [addLost_of_waiting waits]
    obtain ⟨d, inQueue, lost⟩ := waits
    have sameCode : ((fun e : Event => e.code != evLost) ∘ fun d => if d.code = evLost then { d with arg := d.arg + n } else d) =
        fun e => e.code != evLost := by
      funext e
      dsimp only [Function.comp]
      split <;> rfl
    refine ⟨⟨_, List.mem_map_of_mem inQueue, by simp [lost]⟩, ?_⟩
    simp only [queuedCount, List.filter_map, sameCode, List.length_map]
  · rw [addLost_of_first first]
    exact ⟨⟨_, List.mem_append_right _ (List.mem_singleton.2 rfl), rfl⟩, by simp [queuedCount]⟩

theorem addLost_overflowed (n t : Nat) (x : Tenant) : (addLost n t x).overflowed = x.overflowed := by
  unfold addLost
  split <;> rfl

/-- Every event that was posted to a tenant was delivered, waits, or was lost (R622). -/
def EventsCounted (x : Tenant) : Prop := x.posted = x.delivered + x.queue.length + x.overflowed

theorem eventsCounted_addLost (n t : Nat) {x : Tenant} (h : EventsCounted x) : EventsCounted (addLost n t x) := by
  unfold EventsCounted at h ⊢
  rcases waiting_or_first x with waits | first
  · rw [addLost_of_waiting waits]
    simpa only [List.length_map] using h
  · rw [addLost_of_first first]
    simp only [List.length_append, List.length_singleton]
    omega

theorem eventsCounted_queueEvent (e : Event) {x : Tenant} (h : EventsCounted x) : EventsCounted (queueEvent e x) := by
  unfold EventsCounted at h
  rcases Nat.lt_or_ge (queuedCount x.queue) 32 with room | full
  · simp only [EventsCounted, queueEvent_of_room room, List.length_append, List.length_singleton]
    omega
  · rw [queueEvent_of_full full]
    refine eventsCounted_addLost 1 e.tick ?_
    simp only [EventsCounted]
    omega

theorem eventsCounted_deliverEvents (k : Nat) {x : Tenant} (h : EventsCounted x) : EventsCounted (deliverEvents k x) := by
  simp only [EventsCounted, deliverEvents, List.length_drop] at h ⊢
  omega

/-! ### The tenants that a post reaches (R621) -/

theorem queueFor_tenants (e : Event) (n : Nat) (s : State) : (queueFor e n s).tenants = (onTenant n (queueEvent e) s).tenants := by
  unfold queueFor
  extract_lets s1 queued
  split
  · split <;> rfl
  · rfl

theorem tenant_queueFor_other (e : Event) {n k : Nat} (s : State) (h : n ≠ k) : tenant (queueFor e n s) k = tenant s k := by
  rw [tenant, queueFor_tenants]
  exact tenant_onTenant_other _ s h

theorem tenant_foldl_queueFor_of_not_mem (e : Event) {l : List Nat} {n : Nat} (s : State) (out : n ∉ l) :
    tenant (l.foldl (fun t k => queueFor e k t) s) n = tenant s n := by
  induction l generalizing s with
  | nil => rfl
  | cons k l ih =>
    obtain ⟨here, rest⟩ := not_or.1 (mt List.mem_cons.2 out)
    exact (ih _ rest).trans (tenant_queueFor_other e s (Ne.symm here))

theorem tenant_foldl_queueFor_of_mem (e : Event) {l : List Nat} {n : Nat} (s : State) (once : l.Nodup) (inside : n < 64) (h : n ∈ l) :
    tenant (l.foldl (fun t k => queueFor e k t) s) n = queueEvent e (tenant s n) := by
  induction l generalizing s with
  | nil => cases h
  | cons k l ih =>
    obtain ⟨out, rest⟩ := List.nodup_cons.1 once
    rcases List.mem_cons.1 h with rfl | later
    · exact (tenant_foldl_queueFor_of_not_mem e _ out).trans (tenant_queueFor_same e s inside)
    · have other : k ≠ n := fun same => out (same ▸ later)
      rw [List.foldl_cons, ih _ rest later, tenant_queueFor_other e s other]

theorem mem_maskTenants {s : State} {code n : Nat} : n ∈ maskTenants s code ↔ n < 64 ∧ bit (pn s 0x0205 n) (code / 256) = true := by
  simp [maskTenants]

theorem post_of_stopped {s : State} (code flags src arg : Nat) (stopped : fwRuns s = false) :
    post code flags src arg s = { s with deferred := s.deferred ++
      [{ ev := { code := code, flags := flags, src := src, arg := arg, tick := tick s }, own := none }] } := by
  simp [post, postDeferred, stopped]

theorem post_of_runs {s : State} (code flags src arg : Nat) (runs : fwRuns s = true) :
    post code flags src arg s = queueMasked { code := code, flags := flags, src := src, arg := arg, tick := tick s } s := by
  simp [post, postDeferred, runs, deliver]

/-- A post queues its event for a tenant whose mask asks for it. -/
theorem tenant_post_asked {s : State} (code flags src arg : Nat) {n : Nat} (runs : fwRuns s = true) (inside : n < 64)
    (asks : bit (pn (takeOcc .eventPosted s) 0x0205 n) (code / 256) = true) :
    tenant (post code flags src arg s) n =
      queueEvent { code := code, flags := flags, src := src, arg := arg, tick := tick s } (tenant s n) := by
  rw [post_of_runs code flags src arg runs]
  exact tenant_foldl_queueFor_of_mem _ (takeOcc .eventPosted s) (List.nodup_range.filter _) inside (mem_maskTenants.2 ⟨inside, asks⟩)

/-- A post leaves a tenant whose mask does not ask for its event alone. -/
theorem tenant_post_unasked {s : State} (code flags src arg : Nat) {n : Nat} (runs : fwRuns s = true)
    (not_ : bit (pn (takeOcc .eventPosted s) 0x0205 n) (code / 256) = false) : tenant (post code flags src arg s) n = tenant s n := by
  have out : n ∉ maskTenants (takeOcc .eventPosted s) code := fun h => by
    rw [(mem_maskTenants.1 h).2] at not_
    cases not_
  rw [post_of_runs code flags src arg runs]
  exact tenant_foldl_queueFor_of_not_mem _ (takeOcc .eventPosted s) out

/-- Settles O59: a post folds `queueEvent` over the tenants whose masks ask, each once; a full queue goes through `addLost`. -/
theorem eventsReachQueues : Obligations.EventsReachQueues := by
  refine ⟨fun code flags src arg s stopped => ?held, fun code flags src arg n s u runs taken inside asks room => ?queued,
    fun code flags src arg n s u runs taken inside asks full => ?lost, fun code flags src arg n s u runs taken not_ => ?others,
    fun e x counted => ⟨eventsCounted_queueEvent e counted, fun k => eventsCounted_deliverEvents k counted⟩,
    fun e x full => ⟨fun first => ?first, fun waits => ?further⟩⟩
  case held =>
    rw [post_of_stopped code flags src arg stopped]
    exact ⟨rfl, rfl⟩
  case queued =>
    rw [tenant_post_asked code flags src arg runs inside (taken ▸ asks), queueEvent_of_room room]
    exact ⟨rfl, rfl⟩
  case lost =>
    rw [tenant_post_asked code flags src arg runs inside (taken ▸ asks), queueEvent_of_full full]
    exact ⟨addLost_overflowed .., addLost_queue ..⟩
  case others => exact tenant_post_unasked code flags src arg runs (taken ▸ not_)
  case first =>
    have queued := (queueEvent_of_full (e := e) full).trans (addLost_of_first first)
    exact ⟨_, congrArg Tenant.queue queued, rfl, rfl, congrArg Tenant.posted queued⟩
  case further =>
    have counted := (queueEvent_of_full (e := e) full).trans (addLost_of_waiting waits)
    exact ⟨congrArg Tenant.queue counted, congrArg Tenant.posted counted⟩

end Sys2Proof.Machine
end

section
/-! What posting an event leaves of the tenants and ports (R597, R620 to R622), and so what a service exit (R94) leaves of them: of a tenant
only its event queue and its counts of events change, of a port only its interrupt status. -/

namespace Sys2Proof.Machine

/-! ### Vectors -/

/-- What an update of one entry leaves of it is left in every entry. -/
theorem vget_vmod_of_kept {α β : Type} {n : Nat} {g : α → β} {f : α → α} (kept : ∀ x, g (f x) = g x) (v : Vector α n) (i j : Nat) (d : α) :
    g (vget (vmod v i f) j d) = g (vget v j d) := by
  rcases Nat.lt_or_ge i n with inside | outside
  · rcases eq_or_ne i j with rfl | other
    · rw [vget_vmod_same v i f d inside, kept]
    · rw [vget_vmod_other v f d other]
  · rw [vmod_outside v f outside]

/-! ### Tenants and ports but for events -/

/-- A tenant but for its events. -/
def Tenant.apartFromEvents (x : Tenant) : Tenant := { x with queue := [], posted := 0, overflowed := 0 }

/-- A port but for its interrupt status. -/
def Port.apartFromIrq (q : Port) : Port := { q with irqStatus := 0, irqNew := 0 }

/-- Of the tenants and ports nothing but event queues and interrupt status differs. -/
structure EventsOnly (s t : State) : Prop where
  tenants : ∀ n, (tenant t n).apartFromEvents = (tenant s n).apartFromEvents
  ports : ∀ p, (port t p).apartFromIrq = (port s p).apartFromIrq

theorem EventsOnly.refl (s : State) : EventsOnly s s := ⟨fun _ => rfl, fun _ => rfl⟩

section
variable {s t : State} (h : EventsOnly s t)
include h

theorem EventsOnly.session (n : Nat) : (tenant t n).session = (tenant s n).session :=
  (congrArg Tenant.session (h.tenants n) :)

theorem EventsOnly.outstanding (n : Nat) : (tenant t n).outstanding = (tenant s n).outstanding :=
  (congrArg Tenant.outstanding (h.tenants n) :)

theorem EventsOnly.nonce (n : Nat) : (tenant t n).nonce = (tenant s n).nonce :=
  (congrArg Tenant.nonce (h.tenants n) :)

theorem EventsOnly.txn (n : Nat) : (tenant t n).txn = (tenant s n).txn :=
  (congrArg Tenant.txn (h.tenants n) :)

theorem EventsOnly.bound (p : Nat) : (port t p).bound = (port s p).bound :=
  (congrArg Port.bound (h.ports p) :)

end

/-! ### What keeps it so -/

section
variable {a s : State}

/-- A step that keeps the tenants and the ports. -/
theorem EventsOnly.same {t : State} (h : EventsOnly a s) (tenants : t.tenants = s.tenants := by rfl)
    (ports : t.ports = s.ports := by rfl) : EventsOnly a t :=
  ⟨fun n => (congrArg (fun v => (vget v n noTenant).apartFromEvents) tenants).trans (h.tenants n),
    fun p => (congrArg (fun v => (vget v p noPort).apartFromIrq) ports).trans (h.ports p)⟩

/-- An operation that does not write the tenants and the ports. -/
theorem EventsOnly.keeps {W : Nat} {t : State} (h : EventsOnly a s) (kept : Keeps W s t) (ports : W.testBit 6 = false)
    (tenants : W.testBit 9 = false) : EventsOnly a t := h.same (kept.tenants tenants) (kept.ports ports)

theorem EventsOnly.foldl {α : Type} {f : State → α → State} (step : ∀ t b, EventsOnly a t → EventsOnly a (f t b)) (l : List α)
    (h : EventsOnly a s) : EventsOnly a (l.foldl f s) := by
  induction l generalizing s with
  | nil => exact h
  | cons b l ih => exact ih (step s b h)

theorem EventsOnly.ite {p : Prop} [Decidable p] {t u : State} (yes : EventsOnly a t) (no : EventsOnly a u) :
    EventsOnly a (if p then t else u) := by
  split
  · exact yes
  · exact no

/-! ### Posting -/

theorem queueEvent_apartFromEvents (e : Event) (x : Tenant) : (queueEvent e x).apartFromEvents = x.apartFromEvents := by
  unfold queueEvent
  split
  · rfl
  · unfold addLost
    split <;> rfl

theorem EventsOnly.setIrq (h : EventsOnly a s) (p k : Nat) : EventsOnly a (setIrq p k s) :=
  ⟨h.tenants, fun q => (vget_vmod_of_kept (f := Port.irq k) (g := Port.apartFromIrq) (fun _ => rfl) s.ports p q noPort).trans (h.ports q)⟩

theorem EventsOnly.queueFor (h : EventsOnly a s) (e : Event) (n : Nat) : EventsOnly a (queueFor e n s) := by
  unfold Machine.queueFor
  extract_lets s1 queued
  have queues : EventsOnly a s1 :=
    ⟨fun k => (vget_vmod_of_kept (queueEvent_apartFromEvents e) s.tenants n k noTenant).trans (h.tenants k), h.ports⟩
  split
  · exact .ite (queues.setIrq ..) queues
  · exact queues

theorem EventsOnly.post (h : EventsOnly a s) (code flags src arg : Nat) : EventsOnly a (post code flags src arg s) := by
  rcases Bool.eq_false_or_eq_true (fwRuns s) with runs | stopped
  · rw [post_of_runs code flags src arg runs]
    exact .foldl (fun t n ht => ht.queueFor _ n) _ (.same h)
  · rw [post_of_stopped code flags src arg stopped]
    exact .same h

/-! ### Rails and the standby bring-up (R94, R136, R177) -/

theorem EventsOnly.setSt (h : EventsOnly a s) (r : Nat) (st : RailSt) : EventsOnly a (setSt r st s) :=
  h.keeps (keeps_setSt (Sub.refl _) (Keeps.refl _ s)) rfl rfl

theorem EventsOnly.disableAll (h : EventsOnly a s) (rs : List Nat) : EventsOnly a (disableAll rs s) :=
  h.keeps (keeps_disableAll (Sub.refl _) (Keeps.refl _ s)) rfl rfl

theorem EventsOnly.reachOn (h : EventsOnly a s) (r : Nat) : EventsOnly a (reachOn r s) := by
  unfold Machine.reachOn
  extract_lets idle s1 s2
  have s2_eq : EventsOnly a s2 := .same (.setSt (h.keeps (keeps_setMargin (Sub.refl _) (Keeps.refl _ s)) rfl rfl) r .on)
  exact .ite (.post (.same s2_eq) ..) s2_eq

theorem EventsOnly.endForced (h : EventsOnly a s) : EventsOnly a (endForced s) := by
  unfold Machine.endForced
  refine .foldl (fun t r ht => ?_) allRails h
  unfold endForce
  extract_lets x
  exact .ite (.ite (ht.reachOn r) (.setSt (ht.keeps (keeps_releaseMargin (Sub.refl _) (Keeps.refl _ t)) rfl rfl) ..)) ht

theorem EventsOnly.assertEn (h : EventsOnly a s) (r : Nat) (st : RailSt) : EventsOnly a (assertEn r st s) := by
  unfold Machine.assertEn
  extract_lets s1 s2 s3
  have switched : EventsOnly a s3 := .setSt (.same h) r st
  exact .ite h (.ite (switched.reachOn r) switched)

theorem EventsOnly.bringNext (h : EventsOnly a s) (rs : List Nat) : EventsOnly a (bringNext rs s) := by
  induction rs generalizing s with
  | nil => exact .same h
  | cons r rs ih =>
    have enabled : EventsOnly a (Machine.assertEn r .enabling { s with eng := { s.eng with bringWait := some r, bringUp := rs } }) :=
      .assertEn (.same h) r .enabling
    exact .ite (.ite enabled (ih enabled)) (ih h)

theorem EventsOnly.changeMode (h : EventsOnly a s) (new : Mode) (cause n table result : Nat) :
    EventsOnly a (changeMode new cause n table result s) := by
  unfold Machine.changeMode
  extract_lets prev s0 core s1 s2
  have left_ : EventsOnly a s0 := .ite (h.keeps (keeps_leaveService (Sub.refl _) (Keeps.refl _ s)) rfl rfl) h
  have posted : EventsOnly a s1 := .post (.same left_) ..
  have recorded : EventsOnly a s2 := posted.keeps (keeps_logRecord (Sub.refl _) (Keeps.refl _ s1)) rfl rfl
  exact .same recorded

theorem EventsOnly.bringLand (h : EventsOnly a s) : EventsOnly a (bringLand s) := by
  unfold Machine.bringLand
  extract_lets s1 s2 core
  have off : EventsOnly a s2 := h.endForced.disableAll _
  clear_value s2
  exact .ite (.changeMode (.same off) ..) h

theorem EventsOnly.startBringUp (h : EventsOnly a s) : EventsOnly a (startBringUp s) :=
  .ite (.same h) (h.bringNext _).bringLand

/-! ### Tables (R152, R179) -/

theorem EventsOnly.cancelJoin (h : EventsOnly a s) (r : Nat) : EventsOnly a (cancelJoin s r) := by
  have off : EventsOnly a (deassertEn r .off s) := h.keeps (keeps_deassertEn (Sub.refl _) (Keeps.refl _ s)) rfl rfl
  exact .ite (h.setSt ..) (.ite (.ite (.post (.same off) ..) off) h)

theorem EventsOnly.engineStart (h : EventsOnly a s) (n cause m : Nat) : EventsOnly a (engineStart n cause m s) := by
  unfold Machine.engineStart
  extract_lets run eng s1
  have started : EventsOnly a s1 := .same h
  clear_value s1
  have cancelled := EventsOnly.foldl (fun t r (ht : EventsOnly a t) => ht.cancelJoin r) allRails
    (.same started : EventsOnly a { s1 with eng := { s1.eng with suspended := false } })
  exact .ite (cancelled.keeps (keeps_cancelRetries (Sub.refl _) (Keeps.refl _ _)) rfl rfl) started

theorem EventsOnly.modeAfter (h : EventsOnly a s) (run : Run) (e : RunEnd) : EventsOnly a (modeAfter run e s) := by
  unfold Machine.modeAfter
  extract_lets s1 sup s2
  have off : EventsOnly a s2 := .same (.ite h (h.disableAll _) : EventsOnly a s1)
  exact .ite (.ite (h.changeMode ..) h)
    (.ite (.ite (.startBringUp (.disableAll (.same off) _)) (.ite (off.changeMode ..).startBringUp off)) h)

theorem EventsOnly.endRun (h : EventsOnly a s) (e : RunEnd) : EventsOnly a (endRun e s) := by
  unfold Machine.endRun
  split
  · exact h
  next run _ =>
    extract_lets eng s1 s2 s3 eng' s4
    have ended : EventsOnly a s1 := .same h
    have posted : EventsOnly a s2 := by
      unfold s2
      split <;> exact ended.post ..
    have outputs : EventsOnly a s3 := .ite (.same posted) posted
    have suspended : EventsOnly a s4 := .ite (.same outputs) outputs
    exact (suspended.modeAfter run e).keeps (keeps_activatePending (Sub.refl _) (Keeps.refl _ _)) rfl rfl

theorem EventsOnly.startTbl1 (h : EventsOnly a s) (cause n stopCause : Nat) : EventsOnly a (startTbl1 cause n stopCause s) := by
  unfold Machine.startTbl1
  split
  · exact h.engineStart ..
  · exact .ite h ((h.endRun _).engineStart ..)

/-- A service exit posts events; of tenants and ports it changes nothing else. -/
theorem EventsOnly.beginServiceExit (h : EventsOnly a s) (cause : Nat) : EventsOnly a (beginServiceExit cause s) := by
  unfold Machine.beginServiceExit serviceExitBy
  extract_lets core s1
  have forcesEnd : EventsOnly a s1 := .endForced (.same h)
  exact .ite (forcesEnd.startTbl1 ..) h

end

end Sys2Proof.Machine
end

section
/-! Proofs about sessions (R608 to R612, R684) and responses (R605 to R607): what closing a session leaves of its tenant, what an answer does
to its port and its tenant's credit, and obligations O47 and O50. -/

namespace Sys2Proof.Machine

/-! ### Tenants and their sessions -/

/-- A tenant's session, also for a number that no tenant has. -/
theorem sessionOf_eq (s : State) (n : Nat) : sessionOf s n = (tenant s n).session := by
  unfold sessionOf tenant vget
  cases s.tenants[n]? <;> rfl

theorem lt_of_sessionOf {s : State} {n p : Nat} (h : sessionOf s n = some p) : n < 64 := by
  rcases Nat.lt_or_ge n 64 with inside | outside
  · exact inside
  · simp [sessionOf, outside] at h

theorem tenant_of_tenants {s t : State} (h : t.tenants = s.tenants) (n : Nat) : tenant t n = tenant s n := congrArg (vget · n noTenant) h

/-- What an update of one tenant leaves of it is left of every tenant. -/
theorem tenant_onTenant_of_kept {β : Type} (g : Tenant → β) {f : Tenant → Tenant} (n : Nat) (s : State) (k : Nat)
    (kept : ∀ x, g (f x) = g x := by exact fun _ => rfl) : g (tenant (onTenant n f s) k) = g (tenant s k) :=
  vget_vmod_of_kept kept s.tenants n k noTenant

theorem port_of_ports {s t : State} (h : t.ports = s.ports) (p : Nat) : port t p = port s p := congrArg (vget · p noPort) h

/-! ### What a command finds of its tenant and its port -/

@[simp] theorem begun_ports (code : Nat) (r : Req) (s : State) : (begun code r s).ports = s.ports := (keeps_begun code r s).ports rfl

@[simp] theorem hasPlace_begun (code : Nat) (r : Req) (s : State) (p : Nat) : hasPlace (begun code r s) p = hasPlace s p := by
  rw [hasPlace, hasPlace, port_of_ports (begun_ports code r s)]

theorem wdKick_tenants (s : State) : (wdKick s).tenants = s.tenants :=
  (keeps_wdKick (Sub.refl _) (Keeps.refl _ s)).tenants rfl

/-- Serving takes a credit of the tenant and changes no tenant else. -/
theorem tenant_begun_other (code : Nat) (r : Req) (s : State) {n : Nat} (h : n ≠ r.tenant) : tenant (begun code r s) n = tenant s n := by
  have kicked : tenant (wdKick s) n = tenant s n := tenant_of_tenants (wdKick_tenants s) n
  unfold begun consume
  split
  · exact kicked
  · exact (tenant_onTenant_other _ _ (Ne.symm h)).trans kicked

@[simp] theorem session_begun (code : Nat) (r : Req) (s : State) (n : Nat) : (tenant (begun code r s) n).session = (tenant s n).session := by
  have kicked : (tenant (wdKick s) n).session = (tenant s n).session := congrArg Tenant.session (tenant_of_tenants (wdKick_tenants s) n)
  unfold begun consume
  split
  · exact kicked
  · exact (tenant_onTenant_of_kept Tenant.session ..).trans kicked

/-- A command that is not exempt is accepted in its tenant's session only (R609). -/
theorem session_of_accepted {d : CmdDef} {r : Req} {pl : Bytes} {s : State} (h : Accepted d r pl s) (own : sessionExempt d.code = false) :
    sessionOf s r.tenant = some r.port := by
  obtain ⟨-, checks, -⟩ := h
  rw [acceptCheck, tenant_of_tenants (wdKick_tenants s)] at checks
  rw [sessionOf_eq]
  by_contra other
  simp [own, other] at checks

/-! ### Responses (R605 to R607) -/

/-- The response of an answer to a request that was accepted now. -/
def answerFrame (r : Req) (st : Nat) (pl : Bytes) (s : State) : RspFrame :=
  { tenant := r.tenant, seq := r.seq, status := st, frame := mkFrame r.tenant r.seq st (b2n (lateSince s (some s.clk.us))) pl }

theorem answerFrame_length (r : Req) (st : Nat) (pl : Bytes) (s : State) : (answerFrame r st pl s).frame.length = 10 + pl.length := by
  simp [answerFrame, mkFrame, frameHeader]
  omega

theorem answered_of_place {code st : Nat} {r : Req} {pl : Bytes} {s : State} (place : hasPlace s r.port = true) :
    answered code r st pl s = returnIf (!sessionExempt code) r.tenant (onPort r.port (enqueue (answerFrame r st pl s)) s) := if_pos place

theorem answered_of_full {code st : Nat} {r : Req} {pl : Bytes} {s : State} (full : hasPlace s r.port = false) :
    answered code r st pl s = onPort r.port (fun q => { q with rspWait := q.rspWait ++
      [{ rsp := answerFrame r st pl s, credit := !sessionExempt code, since := some s.clk.us, events := 0, closes := false }] }) s :=
  if_neg (Bool.eq_false_iff.1 full)

theorem enqueue_rspQ (f : RspFrame) (q : Port) : (enqueue f q).rspQ = q.rspQ ++ [f] := by
  unfold enqueue
  split
  next empty => simp [Port.irq, List.isEmpty_iff.1 empty]
  · rfl

@[simp] theorem enqueue_rspWait (f : RspFrame) (q : Port) : (enqueue f q).rspWait = q.rspWait := by
  unfold enqueue
  split <;> rfl

/-- Setting IRQ_STATUS.RSP sets its bit. -/
theorem irqRsp_set (q : Port) : (Port.irq irqRsp q).irqStatus.getLsbD 0 = true := by
  simp [Port.irq, irqRsp]

theorem enqueue_presents (f : RspFrame) {q : Port} (empty : q.rspQ = []) : (enqueue f q).irqStatus.getLsbD 0 = true := by
  simp only [enqueue, empty, List.isEmpty_nil, if_true]
  exact irqRsp_set _

@[simp] theorem returnIf_ports (b : Bool) (n : Nat) (s : State) : (returnIf b n s).ports = s.ports := by cases b <;> rfl

theorem tenant_returnIf_other (b : Bool) {n k : Nat} (s : State) (h : n ≠ k) : tenant (returnIf b n s) k = tenant s k := by
  cases b
  · rfl
  · exact tenant_onTenant_other _ s h

theorem outstanding_returnIf (n : Nat) (s : State) :
    (tenant (returnIf true n s) n).outstanding = (tenant s n).outstanding - 1 := by
  rcases Nat.lt_or_ge n 64 with inside | outside
  · exact congrArg Tenant.outstanding (tenant_onTenant_same _ s inside)
  · have none_ : ∀ v : Vector Tenant 64, vget v n noTenant = noTenant := fun v => by simp [vget, outside]
    simp only [tenant, none_]
    rfl

theorem session_returnIf (b : Bool) (n : Nat) (s : State) (k : Nat) : (tenant (returnIf b n s) k).session = (tenant s k).session := by
  cases b
  · rfl
  · exact tenant_onTenant_of_kept Tenant.session ..

theorem session_answered (code st : Nat) (r : Req) (pl : Bytes) (s : State) (n : Nat) :
    (tenant (answered code r st pl s) n).session = (tenant s n).session := by
  rcases Bool.eq_false_or_eq_true (hasPlace s r.port) with place | full
  · rw [answered_of_place place, session_returnIf]
    rfl
  · rw [answered_of_full full]
    rfl

end Sys2Proof.Machine
end

section
/-! Proofs about the opening and closing of sessions (R608 to R612, R684), and obligation O47. -/

namespace Sys2Proof.Machine

/-! ### A session that closes -/

/-- The state once a session has closed, before the service exit that the session of tenant 63 may bring (R608, R611, R612, R530). -/
def sessionClosed (n p : Nat) (c : Closing) (s : State) : State :=
  let s2 := onPort p (fun q => { q with bound := if q.bound = some n then none else q.bound,
                                        rspWait := q.rspWait.filter (fun w => w.rsp.tenant != n) }) (onTenant n (closeTenant c) s)
  let s3 := { s2 with ops := s2.ops.map (closeOp n), par := { s2.par with waiting := s2.par.waiting.filterMap (closeCommit n) } }
  settleWaiting n (if c.keepGather then s3 else dropGather n s3)

theorem closeSession_of_none {n : Nat} {c : Closing} {s : State} (h : sessionOf s n = none) : closeSession n c s = s := by
  simp only [closeSession, h]

theorem closeSession_of_some {n p : Nat} {c : Closing} {s : State} (h : sessionOf s n = some p) :
    closeSession n c s = if n = 63 ∧ (sessionClosed n p c s).core.mode = .service then beginServiceExit 6 (sessionClosed n p c s)
      else sessionClosed n p c s := by
  simp only [closeSession, h]
  rfl

/-- A service exit keeps what the close has left of sessions and windows. -/
theorem eventsOnly_closeSession {n p : Nat} {c : Closing} {s : State} (h : sessionOf s n = some p) :
    EventsOnly (sessionClosed n p c s) (closeSession n c s) := by
  rw [closeSession_of_some h]
  exact .ite (EventsOnly.beginServiceExit (.refl _) 6) (.refl _)

theorem gathers_closeSession {n p : Nat} {c : Closing} {s : State} (h : sessionOf s n = some p) :
    (closeSession n c s).nv.gathers = (sessionClosed n p c s).nv.gathers := by
  rw [closeSession_of_some h]
  split
  · exact (keeps_beginServiceExit (Sub.refl _) (Keeps.refl _ (sessionClosed n p c s))).nvK.gathers rfl
  · rfl

theorem sessionClosed_tenants (n p : Nat) (c : Closing) (s : State) :
    ∃ on, (sessionClosed n p c s).tenants =
      (onTenant n (fun t => { t with txn := t.txn.map (fun x => { x with waiting := x.waiting && on }) }) (onTenant n (closeTenant c) s)).tenants := by
  unfold sessionClosed
  split <;> exact ⟨_, rfl⟩

theorem tenant_sessionClosed_other {n k : Nat} (p : Nat) (c : Closing) (s : State) (h : n ≠ k) :
    tenant (sessionClosed n p c s) k = tenant s k := by
  obtain ⟨on, tenants⟩ := sessionClosed_tenants n p c s
  rw [tenant_of_tenants tenants, tenant_onTenant_other _ _ h, tenant_onTenant_other _ _ h]

/-- A tenant whose session closed has no session, no credit outstanding, no nonce, and a transaction only where the close keeps it. -/
theorem tenant_sessionClosed_same {n : Nat} (p : Nat) (c : Closing) (s : State) (h : n < 64) :
    (tenant (sessionClosed n p c s) n).session = none ∧ (tenant (sessionClosed n p c s) n).outstanding = 0 ∧
      (tenant (sessionClosed n p c s) n).nonce = none ∧ (c.keepTxn = false → (tenant (sessionClosed n p c s) n).txn = none) := by
  obtain ⟨on, tenants⟩ := sessionClosed_tenants n p c s
  rw [tenant_of_tenants tenants, tenant_onTenant_same _ _ h, tenant_onTenant_same _ _ h]
  refine ⟨rfl, rfl, rfl, fun drops => ?_⟩
  simp [closeTenant, drops]

theorem sessionClosed_ports (n p : Nat) (c : Closing) (s : State) :
    (sessionClosed n p c s).ports = vmod s.ports p (fun q =>
      { q with bound := if q.bound = some n then none else q.bound, rspWait := q.rspWait.filter (fun w => w.rsp.tenant != n) }) := by
  unfold sessionClosed
  split <;> rfl

theorem bound_sessionClosed {n p : Nat} (c : Closing) (s : State) (h : p < 4) : (port (sessionClosed n p c s) p).bound ≠ some n := by
  rw [port, sessionClosed_ports, vget_vmod_same _ _ _ _ h]
  dsimp only
  split
  · exact nofun
  next other => exact other

theorem gatherOf_sessionClosed {n p : Nat} {c : Closing} (s : State) (drops : c.keepGather = false) :
    gatherOf (sessionClosed n p c s) n = none := by
  unfold sessionClosed
  rw [drops]
  exact gatherOf_dropGather_same n _

/-! ### Sessions after a close -/

theorem session_closeSession_same (n : Nat) (c : Closing) (s : State) : (tenant (closeSession n c s) n).session = none := by
  cases open_ : sessionOf s n with
  | none => rw [closeSession_of_none open_, ← sessionOf_eq, open_]
  | some p =>
    obtain ⟨closed, -⟩ := tenant_sessionClosed_same p c s (lt_of_sessionOf open_)
    exact ((eventsOnly_closeSession open_).session n).trans closed

theorem session_closeSession_other {n k : Nat} (c : Closing) (s : State) (h : n ≠ k) :
    (tenant (closeSession n c s) k).session = (tenant s k).session := by
  cases open_ : sessionOf s n with
  | none => rw [closeSession_of_none open_]
  | some p => rw [(eventsOnly_closeSession open_).session k, tenant_sessionClosed_other p c s h]

/-- What SESSION_CLOSE leaves of a session (R608, R612, R614, R654, R530). -/
theorem closeSession_byCommand {n p : Nat} {s : State} (open_ : sessionOf s n = some p) (inside : p < 4) :
    (tenant (closeSession n byCommand s) n).session = none ∧ (tenant (closeSession n byCommand s) n).outstanding = 0 ∧
      (tenant (closeSession n byCommand s) n).nonce = none ∧ (tenant (closeSession n byCommand s) n).txn = none ∧
      gatherOf (closeSession n byCommand s) n = none ∧ (port (closeSession n byCommand s) p).bound ≠ some n := by
  have kept := eventsOnly_closeSession (c := byCommand) open_
  obtain ⟨session, outstanding, nonce, txn⟩ := tenant_sessionClosed_same p byCommand s (lt_of_sessionOf open_)
  refine ⟨(kept.session n).trans session, (kept.outstanding n).trans outstanding, (kept.nonce n).trans nonce, (kept.txn n).trans (txn rfl),
    ?_, (kept.bound p).symm ▸ bound_sessionClosed byCommand s inside⟩
  rw [gatherOf, gathers_closeSession open_]
  exact gatherOf_sessionClosed s rfl

/-! ### SESSION_OPEN (R609, R610, R612) -/

theorem leBytes_one (n : Nat) : leBytes 1 n = [byte n] := by
  simp only [leBytes, byte, List.cons.injEq, and_true]
  exact BitVec.eq_of_toNat_eq (by simp)

/-- The watchdog takes up no parameter of a tenant (Table PAR.4). -/
theorem pn_begun_tenant {id : Nat} (code : Nat) (r : Req) (s : State) (n : Nat) (h : id = 0x0201 ∨ id = 0x0202) :
    pn (begun code r s) id n = pn s id n := by
  rcases h with rfl | rfl
  · exact congrArg Int.toNat (pv_begun code r s n 0
      (by decide +kernel : (pSafe { id := 0x0201, i1 := 0, i2 := 0 } == .occ .watchdog) = false) (by decide) (by decide))
  · exact congrArg Int.toNat (pv_begun code r s n 0
      (by decide +kernel : (pSafe { id := 0x0202, i1 := 0, i2 := 0 } == .occ .watchdog) = false) (by decide) (by decide))

theorem openSession_tenants (n p : Nat) (bind : Bool) (s : State) :
    (openSession n p bind s).tenants = (onTenant n (fun t =>
      { t with session := some p, authed := false, authReq := needsAuth (takeOccAt .sessionOpen n s) n }) s).tenants := by
  cases bind <;> rfl

theorem tenant_openSession_same {n : Nat} (p : Nat) (bind : Bool) (s : State) (h : n < 64) :
    tenant (openSession n p bind s) n =
      { tenant s n with session := some p, authed := false, authReq := needsAuth (takeOccAt .sessionOpen n s) n } := by
  rw [tenant_of_tenants (openSession_tenants n p bind s), tenant_onTenant_same _ _ h]

theorem tenant_openSession_other {n k : Nat} (p : Nat) (bind : Bool) (s : State) (h : n ≠ k) :
    tenant (openSession n p bind s) k = tenant s k := by
  rw [tenant_of_tenants (openSession_tenants n p bind s), tenant_onTenant_other _ _ h]

/-- The answer of SESSION_OPEN (Table CMD.5). -/
def openPayload (r : Req) (s : State) : Bytes :=
  leBytes 1 (b2n (needsAuth s r.tenant)) ++ leBytes 1 (quota s r.tenant) ++ leBytes 2 (pn s 0x0202 r.tenant) ++ leBytes 1 r.port ++ zeros 1

theorem openPayload_length (r : Req) (s : State) : (openPayload r s).length = 6 := by simp [openPayload]

theorem openPayload_first (r : Req) (s : State) : (openPayload r s).take 1 = [byte (b2n (needsAuth s r.tenant))] := by
  simp [openPayload, leBytes_one]

theorem exec_sessionOpen {r : Req} {o st : Nat} {pl : Bytes} {s t : State} (accepted : Accepted cmdSessionOpen r [byte o] s)
    (body : sessionOpenBody r [byte o] (begun 0x0200 r s) = .done st pl t) :
    exec (.sessionOpen r o) s = .next (answered 0x0200 r st pl t) := by
  refine congrArg Host.Outcome.next ?_
  rw [leBytes_one]
  exact serve_done accepted body

theorem sessionOpenBody_otherPort {r : Req} {pl : Bytes} {s : State} (port_ : pn s 0x0201 r.tenant ≠ r.port) :
    sessionOpenBody r pl s = refuse stDenied s := if_pos port_

/-- A tenant without a session opens one on its own port, without the window. -/
theorem sessionOpenBody_plain {r : Req} {s : State} (own : pn s 0x0201 r.tenant = r.port) (closed : sessionOf s r.tenant = none) :
    sessionOpenBody r [byte 0] s =
      .done stOk (openPayload r (openSession r.tenant r.port false s)) (openSession r.tenant r.port false s) := by
  have plain : bit (byteAt [byte 0] 0) 0 = false := rfl
  simp only [sessionOpenBody, own, plain, closeSession_of_none closed, ne_eq, not_true_eq_false, Bool.false_and, Bool.false_eq_true, if_false]
  rfl

/-- The tenant may bind the window of a port that has one (R612). -/
abbrev MayBind (r : Req) (s : State) : Prop := hasCap s r.tenant capBanks = true ∧ (r.port = 0 ∨ r.port = 2)

theorem sessionOpenBody_binds {r : Req} {s : State} (own : pn s 0x0201 r.tenant = r.port) (may : MayBind r s)
    (free : (port s r.port).bound = none) (closed : sessionOf s r.tenant = none) :
    sessionOpenBody r [byte 1] s =
      .done stOk (openPayload r (openSession r.tenant r.port true s)) (openSession r.tenant r.port true s) := by
  have binds : bit (byteAt [byte 1] 0) 0 = true := rfl
  obtain ⟨cap, window⟩ := may
  have windowed : (r.port == 0 || r.port == 2) = true := by simpa using window
  simp only [sessionOpenBody, own, binds, cap, windowed, free, closeSession_of_none closed, ne_eq, not_true_eq_false, Option.isSome_none,
    Bool.and_self, Bool.not_true, Bool.and_false, Bool.false_and, Bool.false_eq_true, if_false]
  rfl

theorem sessionOpenBody_conflict {r : Req} {n : Nat} {s : State} (own : pn s 0x0201 r.tenant = r.port) (may : MayBind r s)
    (taken : (port s r.port).bound = some n) (other : n ≠ r.tenant) : sessionOpenBody r [byte 1] s = refuse stConflict s := by
  have binds : bit (byteAt [byte 1] 0) 0 = true := rfl
  obtain ⟨cap, window⟩ := may
  have windowed : (r.port == 0 || r.port == 2) = true := by simpa using window
  simp [sessionOpenBody, own, binds, cap, windowed, taken, other]

/-! ### The statement -/

theorem lt_of_portOn {s : State} {p : Nat} (h : portOn s p = true) : p < 4 := by
  by_contra outside
  obtain ⟨k, rfl⟩ := Nat.exists_eq_add_of_le (Nat.not_lt.1 outside)
  simp [portOn, show 4 + k = k + 4 from Nat.add_comm 4 k] at h

/-- SESSION_CLOSE closes its session once its answer has found a place, and leaves it open while the answer waits (R606, R684). -/
theorem exec_sessionClose {r : Req} {s : State} (accepted : Accepted cmdSessionClose r [] s) :
    exec (.sessionClose r) s = .next (if hasPlace s r.port then closeSession r.tenant byCommand (answered 0x0201 r stOk [] (begun 0x0201 r s))
      else holdLast r.port (fun w => { w with closes := true }) (answered 0x0201 r stOk [] (begun 0x0201 r s))) := by
  have served := serve_doneThen (d := cmdSessionClose) accepted rfl
  rw [hasPlace_begun] at served
  exact congrArg Host.Outcome.next served

/-- Settles O47: SESSION_OPEN's body is decided clause by clause; SESSION_CLOSE closes the session on the answered state, and the service
exit that may follow posts events only. -/
theorem sessionCommands : Obligations.SessionCommands := by
  refine ⟨fun r s accepted inside own closed => ?opens, fun r s accepted inside own closed cap window free => ?binds,
    fun r n s accepted own cap window taken other => ?conflict, fun r o s accepted foreign => ?denied, fun r s accepted full => ?waits,
    fun r s accepted place => ?closes⟩
  case opens =>
    rw [← pn_begun_tenant 0x0200 r s r.tenant (.inl rfl)] at own
    rw [sessionOf_eq, ← session_begun 0x0200 r s, ← sessionOf_eq] at closed
    have here := tenant_openSession_same r.port false (begun 0x0200 r s) inside
    refine ⟨_, _, exec_sessionOpen accepted (sessionOpenBody_plain own closed), congrArg Tenant.session here, congrArg Tenant.authed here,
      openPayload_length r _, openPayload_first r _, fun n other => ?_, begun_ports 0x0200 r s⟩
    rw [tenant_openSession_other _ _ _ (Ne.symm other), tenant_begun_other 0x0200 r s other]
  case binds =>
    have may : MayBind r (begun 0x0200 r s) := ⟨by rwa [hasCap, pn_begun_tenant 0x0200 r s r.tenant (.inr rfl)], window⟩
    rw [← pn_begun_tenant 0x0200 r s r.tenant (.inl rfl)] at own
    rw [sessionOf_eq, ← session_begun 0x0200 r s, ← sessionOf_eq] at closed
    rw [← port_of_ports (begun_ports 0x0200 r s)] at free
    have there : r.port < 4 := by omega
    exact ⟨_, _, exec_sessionOpen accepted (sessionOpenBody_binds own may free closed),
      congrArg Port.bound (port_onPort_same _ _ there), congrArg Tenant.session (tenant_openSession_same r.port true _ inside)⟩
  case conflict =>
    have may : MayBind r (begun 0x0200 r s) := ⟨by rwa [hasCap, pn_begun_tenant 0x0200 r s r.tenant (.inr rfl)], window⟩
    rw [← pn_begun_tenant 0x0200 r s r.tenant (.inl rfl)] at own
    rw [← port_of_ports (begun_ports 0x0200 r s)] at taken
    exact exec_sessionOpen accepted (sessionOpenBody_conflict own may taken other)
  case denied =>
    rw [← pn_begun_tenant 0x0200 r s r.tenant (.inl rfl)] at foreign
    exact exec_sessionOpen accepted (sessionOpenBody_otherPort foreign)
  case waits =>
    refine ⟨_, exec_sessionClose accepted, ?_⟩
    simp only [full, Bool.false_eq_true, if_false]
    exact (session_answered ..).trans (session_begun ..)
  case closes =>
    refine ⟨_, exec_sessionClose accepted, ?_⟩
    simp only [place, if_true]
    have open_ := session_of_accepted accepted rfl
    rw [sessionOf_eq, ← session_begun 0x0201 r s, ← session_answered 0x0201 stOk r [], ← sessionOf_eq] at open_
    obtain ⟨⟨-, on, -⟩, -⟩ := accepted
    exact closeSession_byCommand open_ (lt_of_portOn on)

end Sys2Proof.Machine
end

section
/-! Proofs about a port's responses (R605 to R607, R684): what an answer posts, what waits, what a release presents, and obligation O50. -/

namespace Sys2Proof.Machine

/-! ### Where a transaction runs -/

theorem onPortBus_of_busUp {p : Nat} {s : State} (f : State → State) (h : BusUp p s) : onPortBus p f s = f s := by
  obtain ⟨bridge, on⟩ := h
  simp only [onPortBus, bridge, on, Bool.and_self, if_true]

/-! ### An answer that finds a place -/

theorem port_answered_same {code st : Nat} {r : Req} {pl : Bytes} {s : State} (place : hasPlace s r.port = true) (inside : r.port < 4) :
    port (answered code r st pl s) r.port = enqueue (answerFrame r st pl s) (port s r.port) := by
  rw [answered_of_place place, port_of_ports (returnIf_ports ..), port_onPort_same _ _ inside]

theorem port_answered_other {code st : Nat} {r : Req} {pl : Bytes} {s : State} (place : hasPlace s r.port = true) {q : Nat} (h : q ≠ r.port) :
    port (answered code r st pl s) q = port s q := by
  rw [answered_of_place place, port_of_ports (returnIf_ports ..), port_onPort_other _ _ (Ne.symm h)]

theorem tenant_answered_other {code st : Nat} {r : Req} {pl : Bytes} {s : State} (place : hasPlace s r.port = true) {n : Nat}
    (h : n ≠ r.tenant) : tenant (answered code r st pl s) n = tenant s n := by
  rw [answered_of_place place, tenant_returnIf_other _ _ (Ne.symm h)]
  rfl

theorem outstanding_answered {code st : Nat} {r : Req} {pl : Bytes} {s : State} (place : hasPlace s r.port = true)
    (takes : sessionExempt code = false) :
    (tenant (answered code r st pl s) r.tenant).outstanding = (tenant s r.tenant).outstanding - 1 := by
  rw [answered_of_place place, takes]
  exact outstanding_returnIf r.tenant _

/-! ### Release and late posting -/

theorem releaseRsp_rspQ {q : Port} {f : RspFrame} {fs : List RspFrame} (h : q.rspQ = f :: fs) : (releaseRsp q).rspQ = fs := by
  cases fs <;> simp [releaseRsp, h, Port.irq]

/-- The response that follows the released one is presented at once (R605). -/
theorem releaseRsp_presents {q : Port} {f g : RspFrame} {fs : List RspFrame} (h : q.rspQ = f :: g :: fs) :
    (releaseRsp q).irqStatus.getLsbD 0 = true := by
  simp only [releaseRsp, h]
  exact irqRsp_set _

theorem exec_rspDone {p : Nat} {s : State} (h : BusUp p s) : exec (.rspDone p) s = .next (rspDone p s) :=
  congrArg Host.Outcome.next (onPortBus_of_busUp _ h)

/-- The state in which a waiting response has taken its place, before the close that may wait with it (R606). -/
def postedLate (p : Nat) (w : WaitRsp) (ws : List WaitRsp) (s : State) : State :=
  onTenant w.rsp.tenant (deliverEvents w.events)
    (returnIf w.credit w.rsp.tenant (onPort p (fun q => enqueue (stampLate s w) { q with rspWait := ws }) s))

theorem exec_responsePosted {p : Nat} {w : WaitRsp} {ws : List WaitRsp} {s : State} (clocked : Clocked s) (first : (port s p).rspWait = w :: ws)
    (room : (port s p).rspQ.length < 32) :
    exec (.responsePosted p) s =
      .next (if w.closes then closeSession w.rsp.tenant byCommand (postedLate p w ws s) else postedLate p w ws s) := by
  refine congrArg Host.Outcome.next ((onClock_of_clocked _ clocked).trans ?_)
  simp only [responsePosted, first, room, if_true]
  rfl

theorem port_postedLate {p : Nat} (w : WaitRsp) (ws : List WaitRsp) (s : State) (inside : p < 4) :
    port (postedLate p w ws s) p = enqueue (stampLate s w) { port s p with rspWait := ws } := by
  have ports : (postedLate p w ws s).ports = (onPort p (fun q => enqueue (stampLate s w) { q with rspWait := ws }) s).ports :=
    returnIf_ports ..
  rw [port_of_ports ports, port_onPort_same _ _ inside]

theorem outstanding_postedLate {p : Nat} {w : WaitRsp} {ws : List WaitRsp} {s : State} (credit : w.credit = true) :
    (tenant (postedLate p w ws s) w.rsp.tenant).outstanding = (tenant s w.rsp.tenant).outstanding - 1 := by
  rw [postedLate, tenant_onTenant_of_kept Tenant.outstanding, credit]
  exact outstanding_returnIf w.rsp.tenant _

/-- Settles O50: each clause reads the port or the tenant after the one `enqueue` or `releaseRsp` that its command makes. -/
theorem responsesQueueAndCredit : Obligations.ResponsesQueueAndCredit := by
  refine ⟨fun code st r pl s inside place => ?posts, fun code st r pl s inside full => ?waits, fun p f fs s up inside presents => ?releases,
    fun p w ws s clocked inside first room stays => ?late, fun p w ws s clocked inside first room closes => ?lateClose⟩
  case posts =>
    have here := port_answered_same (code := code) (st := st) (pl := pl) place inside
    refine ⟨answerFrame r st pl s, ?_, rfl, rfl, rfl, answerFrame_length r st pl s, outstanding_answered place, fun empty => ?_,
      fun q other => port_answered_other place other, fun n other => tenant_answered_other place other⟩
    · rw [here, enqueue_rspQ]
    · rw [here, enqueue_presents _ empty]
  case waits =>
    rw [answered_of_full full, port_onPort_same _ _ inside]
    exact ⟨_, rfl, rfl, rfl, rfl⟩
  case releases =>
    have here : port (rspDone p s) p = releaseRsp (port s p) := port_onPort_same _ _ inside
    refine ⟨_, exec_rspDone up, by rw [here, releaseRsp_rspQ presents], fun more => ?_, rfl, fun q other => port_onPort_other _ _ (Ne.symm other)⟩
    obtain ⟨g, gs, rfl⟩ := List.exists_cons_of_ne_nil more
    rw [here, releaseRsp_presents presents]
  case late =>
    have here := port_postedLate w ws s inside
    refine ⟨_, exec_responsePosted clocked first room, ?_⟩
    simp only [stays, Bool.false_eq_true, if_false]
    exact ⟨by rw [here, enqueue_rspQ], by rw [here, enqueue_rspWait], outstanding_postedLate⟩
  case lateClose =>
    refine ⟨_, exec_responsePosted clocked first room, ?_⟩
    simp only [closes, if_true]
    exact session_closeSession_same ..

end Sys2Proof.Machine
end

section
/-! What the buses carry (R586, R588, R589, R592, R594): the fields of a transfer, the CRC-16 and the stuffing of a UART frame, and the register
transfer that each bus's form of a write or a read comes to. -/

namespace Sys2Proof.Machine

/-! ### Fields -/

/-- Bytes that stand within others are what is read at their offset. -/
theorem bytesAt_middle {off n : Nat} (pre bs post : Bytes) (at_ : pre.length = off) (size : bs.length = n) :
    bytesAt (pre ++ (bs ++ post)) off n = bs := by
  subst at_ size
  simp [bytesAt]

theorem fieldAt_middle {off k : Nat} (pre : Bytes) (n : Nat) (post : Bytes) (at_ : pre.length = off) :
    fieldAt (pre ++ (leBytes k n ++ post)) off k = n % 256 ^ k := by
  rw [fieldAt, bytesAt_middle pre _ post at_ (leBytes_length k n), leNat_leBytes]

theorem fieldAt_offset {off : Nat} (post : Bytes) (word : off < 65536) : fieldAt (leBytes 2 off ++ post) 0 2 = off :=
  (fieldAt_middle [] off post rfl).trans (Nat.mod_eq_of_lt word)

theorem drop_leBytes (k n : Nat) (post : Bytes) : (leBytes k n ++ post).drop k = post := List.drop_left' (leBytes_length k n)

/-- The bytes of a number are its shifts, cut to a byte each. -/
theorem leBytes_four (v : Nat) : leBytes 4 v = [byte (v >>> 0), byte (v >>> 8), byte (v >>> 16), byte (v >>> 24)] := by
  have mod_byte : ∀ n : Nat, BitVec.ofNat 8 (n % 256) = byte n := fun n => BitVec.eq_of_toNat_eq (by simp [byte])
  simp only [leBytes, mod_byte, Nat.shiftRight_eq_div_pow, Nat.div_div_eq_div_mul]
  norm_num

/-! ### UART frames (R594, R600) -/

theorem crc16Bit_lt (c : Nat) : crc16Bit c < 65536 := by
  unfold crc16Bit
  split <;> exact Nat.mod_lt _ (by decide)

theorem crc16_lt (bs : Bytes) : crc16 bs < 65536 := by
  induction bs using List.reverseRecOn with
  | nil => decide
  | append_singleton bs b _ =>
    rw [crc16, List.foldl_append]
    exact crc16Bit_lt _

/-- Removing the stuffing passes a byte that is no escape. -/
theorem unstuff_cons_of_plain {b : Byte} (bs : Bytes) (plain : b ≠ 0x7D) : unstuff (b :: bs) = (unstuff bs).map (fun r => b :: r) := by
  cases bs with
  | nil => exact if_neg plain
  | cons c bs => exact if_neg plain

/-- What is stuffed reads back. -/
theorem unstuff_stuff (bs : Bytes) : unstuff (stuff bs) = some bs := by
  induction bs with
  | nil => rfl
  | cons b bs ih =>
    by_cases flag : b = 0x7E ∨ b = 0x7D
    · have stuffed : stuff (b :: bs) = 0x7D :: (b ^^^ 0x20) :: stuff bs := congrArg (· ++ stuff bs) (if_pos flag)
      have escaped : b ^^^ 0x20 ^^^ 0x20 = b := by rw [BitVec.xor_assoc, BitVec.xor_self, BitVec.xor_zero]
      rw [stuffed, unstuff, if_pos rfl, ih, Option.map_some, escaped]
    · have stuffed : stuff (b :: bs) = b :: stuff bs := congrArg (· ++ stuff bs) (if_neg flag)
      rw [stuffed, unstuff_cons_of_plain _ (fun same => flag (.inr same)), ih, Option.map_some]

/-- A frame with its CRC-16 passes the check of its CRC and is what is left of it. -/
theorem crc_checks (f : Bytes) :
    (f ++ leBytes 2 (crc16 f)).take ((f ++ leBytes 2 (crc16 f)).length - 2) = f ∧
      fieldAt (f ++ leBytes 2 (crc16 f)) ((f ++ leBytes 2 (crc16 f)).length - 2) 2 = crc16 f := by
  have length : (f ++ leBytes 2 (crc16 f)).length - 2 = f.length := by simp
  rw [length]
  refine ⟨List.take_left, ?_⟩
  have field := fieldAt_middle (k := 2) f (crc16 f) [] rfl
  rw [List.append_nil] at field
  exact field.trans (Nat.mod_eq_of_lt (crc16_lt f))

section
variable {line c : Bytes} {env : List Int} {s : State}

/-- A UART frame of kind 3 is a read. -/
theorem uartFrame_read (h : OnLine line (byte 3 :: c)) : uartFrame line env s = uartRead c s := by
  obtain ⟨frame, crc⟩ := crc_checks (byte 3 :: c)
  have kind : byteAt (byte 3 :: c) 0 = 3 := rfl
  simp only [uartFrame, h, frame, crc, kind]
  simp

/-- A UART frame of kind 4 is a write. -/
theorem uartFrame_write (h : OnLine line (byte 4 :: c)) : uartFrame line env s = uartWrite c env s := by
  obtain ⟨frame, crc⟩ := crc_checks (byte 4 :: c)
  have kind : byteAt (byte 4 :: c) 0 = 4 := rfl
  simp only [uartFrame, h, frame, crc, kind]
  simp

end

/-! ### A write as each bus carries it -/

theorem uartWrite_of_size {off : Nat} {data : Bytes} {env : List Int} {s : State} (some_ : data ≠ []) (small : data.length ≤ 64)
    (word : off < 65536) : uartWrite (leBytes 2 off ++ data) env s = putTransfer 3 env off data s := by
  have more := List.length_pos_of_ne_nil some_
  have fits : ¬((leBytes 2 off ++ data).length < 3 ∨ 66 < (leBytes 2 off ++ data).length) := by
    simp only [List.length_append, leBytes_length]
    omega
  rw [uartWrite, if_neg fits, fieldAt_offset data word, drop_leBytes]

/-- The state in which a transfer's bytes take effect: an SMBus transfer has cleared what the last one left on the bus. -/
def transferBegun (p : Nat) (s : State) : State := if p = 1 then onPort 1 (fun q => { q with nacked := false, busOut := [] }) s else s

/-- An SMBus write's offset, count and data, which its PEC follows. -/
def smbusHead (off : Nat) (data : Bytes) : Bytes := leBytes 2 off ++ leBytes 1 data.length ++ data

theorem smbusHead_length (off : Nat) (data : Bytes) : (smbusHead off data).length = 3 + data.length := by
  simp only [smbusHead, List.length_append, leBytes_length]

theorem smbusHead_count (off : Nat) {data : Bytes} (tail : Bytes) (small : data.length < 256) :
    byteAt (smbusHead off data ++ tail) 2 = data.length := by
  have third : (smbusHead off data ++ tail).getD 2 0 = BitVec.ofNat 8 (data.length % 256) := rfl
  rw [byteAt, third, BitVec.toNat_ofNat]
  omega

theorem smbusHead_data (off : Nat) (data tail : Bytes) : bytesAt (smbusHead off data ++ tail) 3 data.length = data := by
  rw [smbusHead, List.append_assoc]
  exact bytesAt_middle _ data tail (by simp only [List.length_append, leBytes_length]) rfl

theorem smbusHead_offset (off : Nat) (data tail : Bytes) : fieldAt (smbusHead off data ++ tail) 0 2 = off % 65536 := by
  simp only [smbusHead, List.append_assoc]
  exact fieldAt_middle [] off _ rfl

/-- A write without a PEC takes effect where port.pec asks for none. -/
theorem smbusTransfer_plain (off : Nat) {data : Bytes} {env : List Int} {s : State} (unasked : pn s 0x020A ≠ 1) (some_ : data ≠ [])
    (small : data.length < 256) :
    smbusTransfer (smbusHead off data ++ []) 0 env s = putTransfer 1 env (off % 65536) data (transferBegun 1 s) := by
  have more : data.length ≠ 0 := mt List.length_eq_zero_iff.1 some_
  have plain : (pn (transferBegun 1 s) 0x020A == 1) = false := beq_false_of_ne unasked
  have size : (smbusHead off data ++ []).length = 3 + data.length + b2n false := by rw [List.append_nil, smbusHead_length]; rfl
  unfold smbusTransfer
  rw [show onPort 1 (fun q => { q with nacked := false, busOut := [] }) s = transferBegun 1 s from rfl]
  simp only [smbusHead_count off [] small, smbusHead_offset, smbusHead_data, plain, size, more, ne_eq, not_true_eq_false, if_false, if_true,
    Bool.false_and, Bool.false_eq_true]

/-- With port.pec a write takes effect where its PEC is right; a wrong one is NACKed (R589; assumption 21). -/
theorem smbusTransfer_pec (off : Nat) {data : Bytes} {c : Byte} {env : List Int} {s : State} (asked : pn s 0x020A = 1) (some_ : data ≠ [])
    (small : data.length < 256) :
    smbusTransfer (smbusHead off data ++ [c]) 0 env s =
      if c = smbusPec s (smbusHead off data) then putTransfer 1 env (off % 65536) data (transferBegun 1 s)
      else onPort 1 (fun q => { q with nacked := true }) (transferBegun 1 s) := by
  have more : data.length ≠ 0 := mt List.length_eq_zero_iff.1 some_
  have pec : (pn (transferBegun 1 s) 0x020A == 1) = true := beq_iff_eq.2 asked
  have size : (smbusHead off data ++ [c]).length = 3 + data.length + b2n true := by
    rw [List.length_append, smbusHead_length]
    rfl
  have last : (smbusHead off data ++ [c]).getD (3 + data.length) 0 = c := by
    simp [← smbusHead_length off data]
  have covered : (smbusHead off data ++ [c]).take (3 + data.length) = smbusHead off data := List.take_left' (smbusHead_length off data)
  have sum : smbusPec (transferBegun 1 s) (smbusHead off data) = smbusPec s (smbusHead off data) := rfl
  unfold smbusTransfer
  rw [show onPort 1 (fun q => { q with nacked := false, busOut := [] }) s = transferBegun 1 s from rfl]
  simp only [smbusHead_count off [c] small, smbusHead_offset, smbusHead_data, pec, size, last, covered, sum, more, ne_eq, not_true_eq_false,
    if_false, if_true, Bool.true_and, bne_iff_ne, ite_not]

/-- A register write in the form of its port's bus is a write transfer on that port. -/
theorem registerWrite_busWrite {p off : Nat} {data : Bytes} {env : List Int} {s : State} (inside : p < 4) (some_ : data ≠ [])
    (small : data.length ≤ 64) (word : off < 65536) :
    registerWrite p (busWrite s p off data) 0 env s = putTransfer p env off data (transferBegun p s) := by
  match p, inside with
  | 0, _ =>
    have long : 2 ≤ (leBytes 2 off ++ data).length := by simp
    simp only [registerWrite, busWrite, i3cTransfer, long, if_true, fieldAt_offset data word, drop_leBytes]
    rfl
  | 1, _ =>
    have noCarry : off % 65536 = off := Nat.mod_eq_of_lt word
    by_cases asked : pn s 0x020A = 1
    · have form : busWrite s 1 off data = smbusHead off data ++ [smbusPec s (smbusHead off data)] := if_pos asked
      have right := smbusTransfer_pec off (c := smbusPec s (smbusHead off data)) (env := env) asked some_ (by omega)
      rw [noCarry, if_pos rfl] at right
      rw [form]
      exact right
    · have form : busWrite s 1 off data = smbusHead off data ++ [] := (if_neg asked).trans (List.append_nil _).symm
      have plain := smbusTransfer_plain off (env := env) asked some_ (by omega)
      rw [noCarry] at plain
      rw [form]
      exact plain
  | 2, _ =>
    have offset : 256 * (byte (off / 256)).toNat + (byte off).toNat = off := by
      simp only [byte, BitVec.toNat_ofNat]
      omega
    exact congrArg (putTransfer 2 env · data s) offset
  | 3, _ =>
    exact (uartFrame_write (unstuff_stuff _)).trans (uartWrite_of_size some_ small word)

end Sys2Proof.Machine
end

section
/-! Proofs about the registers of a port (R580 to R582, R624, R630, Tables HST.6 to HST.8): a register's whole write and its read as
transfers, EVT_POP, the port reset, and obligation O53. The SMBus PEC is the model's reading of R589 (assumption 21). -/

namespace Sys2Proof.Machine

/-! ### Updates of one port -/

theorem vmod_vmod {α : Type} {n : Nat} (v : Vector α n) (i : Nat) (f g : α → α) : vmod (vmod v i f) i g = vmod v i (fun x => g (f x)) := by
  unfold vmod
  rcases Nat.lt_or_ge i n with inside | outside
  · simp [inside]
  · simp [outside]

theorem onPort_onPort (p : Nat) (f g : Port → Port) (s : State) : onPort p g (onPort p f s) = onPort p (fun q => g (f q)) s := by
  simp only [onPort, vmod_vmod]

theorem inReset_of_portOn {s : State} {p : Nat} (h : portOn s p = true) : (port s p).inReset = false := by
  simp only [portOn, Bool.and_eq_true, Bool.not_eq_true'] at h
  exact h.1

/-! ### A whole write of one register (R581, R582) -/

/-- Four bytes at the offset of a low register write that register. -/
theorem writeWindow_register {p off v : Nat} {env : List Int} {s : State} (awake : (port s p).inReset = false) (aligned : off % 4 = 0)
    (low : off < 0x100) : writeWindow p env 5 off (leBytes 4 v) s = writeReg p env off (v % 2 ^ 32) s := by
  have field : fieldAt (leBytes 4 v) 0 4 = v % 2 ^ 32 := by
    rw [← List.append_nil (leBytes 4 v)]
    exact fieldAt_middle [] v [] rfl
  have outsideMemory : ¬(0x1000 ≤ off ∧ off < 0x2000) := by omega
  have outsideReq : ¬(0x100 ≤ off ∧ off < 0x200) := by omega
  simp only [leBytes] at field ⊢
  simp only [writeWindow, awake, outsideMemory, outsideReq, aligned, low, field, List.length_cons, List.length_nil, List.drop_succ_cons,
    List.drop_zero, Bool.false_eq_true, if_false, true_and, Nat.reduceAdd, Nat.le_refl, if_true]

/-- What a transfer does before its bytes take effect: it may clear what was left on its bus, and notes its offset on I3C (R586, R589). -/
theorem noteOffset_transferBegun {p : Nat} (off : Nat) (s : State) (inside : p < 4) :
    PortOnly p s (noteOffset p off (transferBegun p s)) ∧
      ∃ n b, port (noteOffset p off (transferBegun p s)) p = { port s p with nacked := n, busOut := b } := by
  match p, inside with
  | 0, _ => exact ⟨⟨fun _ _ => rfl, rfl⟩, _, _, rfl⟩
  | 1, _ => exact ⟨⟨fun q other => port_onPort_other _ s (Ne.symm other), rfl⟩, _, _, port_onPort_same _ s (by decide)⟩
  | 2, _ => exact ⟨⟨fun _ _ => rfl, rfl⟩, _, _, rfl⟩
  | 3, _ => exact ⟨⟨fun _ _ => rfl, rfl⟩, _, _, rfl⟩

/-- A write transfer of one low register over any port's bus, which only that port's registers keep a mark of. -/
theorem exec_registerWrite {p off v : Nat} {env : List Int} {s : State} (f : Port → Port) (up : BusUp p s) (served : serves s p = true)
    (word : v < 2 ^ 32) (aligned : off % 4 = 0) (low : off < 0x100)
    (writes : ∀ t, serves t p = true → writeReg p env off v t = onPort p f t) :
    ∃ t n b, exec (.registerWrite p (busWrite s p off (leBytes 4 v)) 0 env) s = .next t ∧ PortOnly p s t ∧
      port t p = f { port s p with nacked := n, busOut := b } := by
  have inside := lt_of_portOn up.2
  obtain ⟨⟨others, frame⟩, n, b, here⟩ := noteOffset_transferBegun off s inside
  have transfer := registerWrite_busWrite (data := leBytes 4 v) (env := env) (s := s) inside (List.cons_ne_nil _ _) (by simp)
    (by omega : off < 65536)
  generalize noted : noteOffset p off (transferBegun p s) = u at others frame here
  have awake : (port u p).inReset = false := by rw [here, inReset_of_portOn up.2]
  have core : u.core = s.core := by rw [frame]
  have servedNow : serves u p = true := by
    rw [serves, here, core]
    exact served
  refine ⟨onPort p f u, n, b, congrArg Host.Outcome.next ?run, ⟨fun q other => ?others, ?frame⟩, by rw [port_onPort_same _ _ inside, here]⟩
  case run =>
    refine (onPortBus_of_busUp _ up).trans (transfer.trans ?_)
    rw [← writes u servedNow, ← Nat.mod_eq_of_lt word, ← writeWindow_register awake aligned low, Nat.mod_eq_of_lt word, ← noted]
    rfl
  case others => rw [port_onPort_other _ _ (Ne.symm other), others q other]
  case frame =>
    rw [frame]
    rfl

/-! ### Reads of one register (R581, R582) -/

/-- Four bytes at the offset of a low register read that register. -/
theorem readWindow_register (p off : Nat) (s : State) (aligned : off % 4 = 0) (low : off < 0x1000) :
    readWindow p 4 off none s = (leBytes 4 (regValue s p off), readEffect p off s) := by
  have next : ∀ k < 0x1FFF, nextOff k = k + 1 := fun k h => if_neg (by omega)
  have later : ∀ k, (off + k) % 4 = k % 4 := fun k => by omega
  rw [leBytes_four]
  simp only [readWindow, next off (by omega), next (off + 1) (by omega), next (off + 1 + 1) (by omega), aligned,
    Nat.add_assoc, later, Nat.reduceAdd, Nat.reduceMod, Nat.reduceMul, Nat.reduceEqDiff, if_true, if_false]
  simp only [show off / 4 * 4 = off by omega]

theorem getTransfer_register {p off : Nat} {s : State} (awake : (port s p).inReset = false) (aligned : off % 4 = 0) (low : off < 0x1000) :
    getTransfer p off 4 s = onPort p (fun q => { q with busOut := leBytes 4 (regValue s p off) }) (readEffect p off s) := by
  have size : min 4 (0x1000 - off) = 4 := by omega
  have outside : ¬(0x1000 ≤ off ∧ off < 0x2000) := by omega
  have span : readSpan p 5 off 4 s = (leBytes 4 (regValue s p off), readEffect p off s) := by
    rw [readSpan]
    simp only [awake, outside, low, size, readWindow_register p off s aligned low, if_true, if_false, Bool.false_eq_true, or_self,
      Nat.reduceEqDiff]
    simp [readSpan]
  simp only [getTransfer, span]

/-! ### WIN_STATUS (Table HST.8, R16) -/

theorem regValue_winStatus {p : Nat} {s : State} (served : serves s p = true) : regValue s p 0x044 = winStatus (port s p) := by
  simp [regValue, served, lowReg]

theorem readEffect_winStatus {p : Nat} {s : State} (served : serves s p = true) : readEffect p 0x044 s = onPort p clearWin s :=
  if_pos ⟨rfl, served⟩

/-- A transfer of WIN_STATUS leaves its bytes on the bus and clears its read-clear fields. -/
theorem getTransfer_winStatus {p : Nat} {s : State} (awake : (port s p).inReset = false) (served : serves s p = true) :
    getTransfer p 0x044 4 s = onPort p (fun q => { clearWin q with busOut := leBytes 4 (winStatus (port s p)) }) s := by
  rw [getTransfer_register awake (by decide) (by decide), regValue_winStatus served, readEffect_winStatus served, onPort_onPort]

/-- The PEC that may follow the bytes of an SMBus read (R589). -/
def pecAfterRead (s : State) (bus : Bytes) (n : Nat) (b : Bytes) : Bytes :=
  if pn s 0x020A == 1 && decide (byteAt bus 2 < n) then [smbusPec s (bus ++ byte (2 * pn s 0x0209 + 1) :: b)] else []

theorem smbusTransfer_read {bus : Bytes} {n : Nat} {env : List Int} {s : State} (size : bus.length = 3) (count : byteAt bus 2 ≠ 0)
    (reads : n ≠ 0) :
    smbusTransfer bus n env s = onPort 1 (fun q => { q with busOut := q.busOut ++ pecAfterRead s bus n q.busOut })
      (getTransfer 1 (fieldAt bus 0 2) (min n (byteAt bus 2)) (transferBegun 1 s)) := by
  simp only [smbusTransfer, count, reads, size, ne_eq, not_true_eq_false, if_false]
  rfl

/-- Over each bus WIN_STATUS comes first, and the bus adds at most its own check; no other port changes. -/
theorem winStatusRead_leaves {p : Nat} {s : State} (on : portOn s p = true) (served : serves s p = true) :
    (∃ more n, port (winStatusRead p s) p =
      { clearWin (port s p) with busOut := leBytes 4 (winStatus (port s p)) ++ more, nacked := n }) ∧
      ∀ q, q ≠ p → port (winStatusRead p s) q = port s q := by
  have awake := inReset_of_portOn on
  match p, lt_of_portOn on with
  | 0, inside =>
    have run : (winStatusRead 0 s).ports = (getTransfer 0 0x044 4 (noteOffset 0 0x044 s)).ports := rfl
    rw [getTransfer_winStatus (s := noteOffset 0 0x044 s) awake served] at run
    refine ⟨⟨[], (port s 0).nacked, ?_⟩, fun q other => ?_⟩
    · rw [port_of_ports run, port_onPort_same _ _ inside, List.append_nil]
      rfl
    · rw [port_of_ports run, port_onPort_other _ _ (Ne.symm other)]
      rfl
  | 1, inside =>
    have here : port (transferBegun 1 s) 1 = { port s 1 with nacked := false, busOut := [] } := port_onPort_same _ s inside
    have awakeNow : (port (transferBegun 1 s) 1).inReset = false := by rw [here]; exact awake
    have servedNow : serves (transferBegun 1 s) 1 = true := by rw [serves, here]; exact served
    have run : winStatusRead 1 s = onPort 1 (fun q => { q with busOut := q.busOut ++ pecAfterRead s [0x44, 0, 4] 5 q.busOut })
        (getTransfer 1 0x044 4 (transferBegun 1 s)) :=
      smbusTransfer_read (bus := [0x44, 0, 4]) (n := 5) (env := []) rfl (by decide) (by decide)
    rw [getTransfer_winStatus awakeNow servedNow, onPort_onPort] at run
    refine ⟨?_, fun q other => ?_⟩
    · rw [run, port_onPort_same _ _ inside, here]
      exact ⟨_, _, rfl⟩
    · rw [run, port_onPort_other _ _ (Ne.symm other)]
      exact port_onPort_other _ s (Ne.symm other)
  | 2, inside =>
    have run : winStatusRead 2 s = getTransfer 2 0x044 4 s := rfl
    rw [run, getTransfer_winStatus awake served]
    refine ⟨⟨[], (port s 2).nacked, ?_⟩, fun q other => port_onPort_other _ s (Ne.symm other)⟩
    rw [port_onPort_same _ _ inside, List.append_nil]
    rfl
  | 3, inside =>
    have run : (winStatusRead 3 s).ports = (getTransfer 3 0x044 4 s).ports := rfl
    rw [getTransfer_winStatus awake served] at run
    refine ⟨⟨[], (port s 3).nacked, ?_⟩, fun q other => ?_⟩
    · rw [port_of_ports run, port_onPort_same _ _ inside, List.append_nil]
      rfl
    · rw [port_of_ports run, port_onPort_other _ _ (Ne.symm other)]

/-! ### EVT_POP (R624) -/

theorem evtPop_of_event {p n : Nat} {e : Event} {es : List Event} {s : State} (ready : (port s p).ready = true)
    (open_ : sessionOf s n = some p) (oldest : (tenant s n).queue = e :: es) :
    evtPop p n true s = onPort p (fun q => { q with evtData := eventBytes e }) (onTenant n (deliverEvents 1) s) := by
  simp [evtPop, ready, open_, oldest]

theorem evtPop_of_none {p n : Nat} {s : State} (ready : (port s p).ready = true)
    (nothing : sessionOf s n ≠ some p ∨ (tenant s n).queue = []) :
    evtPop p n true s = onPort p (fun q => { q with evtData := zeros 12 }) s := by
  by_cases open_ : sessionOf s n = some p
  · have empty : (tenant s n).queue = [] := nothing.resolve_left (fun other => other open_)
    simp [evtPop, ready, open_, empty]
  · simp [evtPop, ready, open_]

theorem exec_evtPop {p n : Nat} {s : State} (up : BusUp p s) : exec (.evtPop p n true) s = .next (evtPop p n true s) :=
  congrArg Host.Outcome.next (onPortBus_of_busUp _ up)

/-! ### The port reset (R45, R57, R630) -/

/-- The sessions of a port close, one tenant after the other. -/
def closePort (p : Nat) (l : List Nat) (s : State) : State :=
  l.foldl (fun t n => if sessionOf t n = some p then closeSession n byPortReset t else t) s

theorem session_closePort (p : Nat) (l : List Nat) (s : State) (n : Nat) :
    (tenant (closePort p l s) n).session = if n ∈ l ∧ (tenant s n).session = some p then none else (tenant s n).session := by
  induction l generalizing s with
  | nil => simp [closePort]
  | cons k l ih =>
    have step : (tenant (if sessionOf s k = some p then closeSession k byPortReset s else s) n).session =
        if n = k ∧ (tenant s n).session = some p then none else (tenant s n).session := by
      by_cases same : n = k
      · subst same
        by_cases open_ : sessionOf s n = some p
        · rw [if_pos open_, session_closeSession_same, if_pos ⟨rfl, sessionOf_eq s n ▸ open_⟩]
        · rw [if_neg open_, if_neg (not_and_of_not_right _ (sessionOf_eq s n ▸ open_))]
      · rw [if_neg (not_and_of_not_left _ same)]
        split
        · exact session_closeSession_other byPortReset s (Ne.symm same)
        · rfl
    refine (ih _).trans ?_
    rw [step]
    by_cases here : n = k <;> by_cases open_ : (tenant s n).session = some p <;> simp [here, open_]

/-- Every session of the port ends with its reset, and no other. -/
theorem sessionOf_closePort (p : Nat) (s : State) (n : Nat) :
    sessionOf (closePort p (List.range 64) s) n = if sessionOf s n = some p then none else sessionOf s n := by
  rw [sessionOf_eq, session_closePort, sessionOf_eq]
  by_cases open_ : (tenant s n).session = some p
  · have inside : n ∈ List.range 64 := List.mem_range.2 (lt_of_sessionOf ((sessionOf_eq s n).trans open_))
    rw [if_pos ⟨inside, open_⟩, if_pos open_]
  · rw [if_neg (not_and_of_not_right _ open_), if_neg open_]

/-- Beside the sessions the reset writes the port, what is owed on it, and its bus. -/
theorem portReset_leaves (p : Nat) (s : State) :
    (portReset p s).ports = vmod (closePort p (List.range 64) s).ports p (fun _ => { Port.atReset with inReset := true }) ∧
      (portReset p s).tenants = (closePort p (List.range 64) s).tenants := by
  have closed : portReset p s = (let s2 := loseBridge p (onPort p (fun _ => { Port.atReset with inReset := true }) (closePort p (List.range 64) s))
      let s3 := { s2 with owed := s2.owed.filter (fun o => o.port != p) }
      if p = 0 then { s3 with i3c := State.reset.i3c } else if p = 3 then { s3 with uart := State.reset.uart } else s3) := rfl
  rw [closed]
  generalize closePort p (List.range 64) s = u
  extract_lets s2 s3
  split
  · exact ⟨rfl, rfl⟩
  · split <;> exact ⟨rfl, rfl⟩

theorem sessionOf_of_tenants {s t : State} (h : t.tenants = s.tenants) (n : Nat) : sessionOf t n = sessionOf s n := by
  rw [sessionOf_eq, sessionOf_eq, tenant_of_tenants h]

/-- READY sets again while firmware runs (R630). -/
theorem portResetEnd_of_inReset {p : Nat} {s : State} (inReset : (port s p).inReset = true) :
    portResetEnd p s = onPort p (fun q =>
      if fwRuns s then Port.irq irqReady { q with inReset := false, ready := true } else { q with inReset := false }) s := if_pos inReset

/-! ### The statement -/

theorem exec_irqStatusClear {p : Nat} {s : State} (m : BitVec 32) (up : BusUp p s) :
    exec (.irqStatusClear p m) s = .next (irqStatusClear p m s) := congrArg Host.Outcome.next (onPortBus_of_busUp _ up)

/-- Settles O53: register writes go through `exec_registerWrite`, WIN_STATUS through its transfer on each bus, and the port reset through the
fold that closes the port's sessions. -/
theorem registersServeAndReset : Obligations.RegistersServeAndReset := by
  refine ⟨fun p m s up => exec_irqStatusClear m up, fun p s up inside served => ?winStatus, fun p v env s up inside word served => ?writes,
    fun off data c env s up asked some_ small wrong => ?pec, fun p n e es s up inside ready open_ oldest => ?pops,
    fun p n s up inside ready nothing => ?empty, fun p s up inside => ?resets, fun p s power inside inReset => ?ends⟩
  case winStatus =>
    obtain ⟨⟨more, nacked, here⟩, others⟩ := winStatusRead_leaves up.2 served
    refine ⟨_, congrArg Host.Outcome.next (onPortBus_of_busUp _ up), ?_, ?_, ?_, ?_, ?_, ?_, ?_, others⟩
    · rw [here, List.take_left' (leBytes_length 4 _), leNat_leBytes]
      norm_num
    all_goals rw [here]; rfl
  case writes =>
    refine ⟨?scratch, ?mask, ?address, ?operand, fun bank => ?window⟩
    case scratch =>
      obtain ⟨t, n, b, run, only, here⟩ := exec_registerWrite (off := 0x058) (v := v) (env := env)
        (fun q => { q with scratch := BitVec.ofNat 32 v }) up served word rfl (by decide) (fun t live => by simp [writeReg, live])
      exact ⟨t, run, only, by rw [here]⟩
    case mask =>
      obtain ⟨t, n, b, run, only, here⟩ := exec_registerWrite (off := 0x034) (v := v) (env := env)
        (fun q => { q with irqMask := BitVec.ofNat 32 v, irqNew := q.irqNew ||| (q.irqStatus &&& BitVec.ofNat 32 v &&& ~~~q.irqMask) })
        up served word rfl (by decide) (fun t live => by simp [writeReg, live])
      exact ⟨t, run, only, by rw [here]⟩
    case address =>
      obtain ⟨t, n, b, run, only, here⟩ := exec_registerWrite (off := 0x048) (v := v) (env := env)
        (fun q => { q with atopAddr := BitVec.ofNat 32 v }) up served word rfl (by decide) (fun t live => by simp [writeReg, live])
      exact ⟨t, run, only, by rw [here]⟩
    case operand =>
      obtain ⟨t, n, b, run, only, here⟩ := exec_registerWrite (off := 0x04C) (v := v) (env := env)
        (fun q => { q with atopOpnd := BitVec.ofNat 32 v }) up served word rfl (by decide) (fun t live => by simp [writeReg, live])
      exact ⟨t, run, only, by rw [here]⟩
    case window =>
      obtain ⟨t, n, b, run, only, here⟩ := exec_registerWrite (off := 0x040) (v := v) (env := env)
        (fun q => { q with winBank := v }) up served word rfl (by decide)
        (fun t live => by simp [writeReg, live, Nat.mod_eq_of_lt bank])
      exact ⟨t, run, only, by rw [here]⟩
  case pec =>
    have transfer := smbusTransfer_pec off (c := c) (env := env) asked some_ small
    rw [if_neg (show ¬c = smbusPec s (smbusHead off data) from wrong), transferBegun, if_pos rfl, onPort_onPort] at transfer
    exact congrArg Host.Outcome.next ((onPortBus_of_busUp _ up).trans transfer)
  case pops =>
    rw [exec_evtPop up, evtPop_of_event ready open_ oldest]
    have here : tenant (onTenant n (deliverEvents 1) s) n = deliverEvents 1 (tenant s n) := tenant_onTenant_same _ s (lt_of_sessionOf open_)
    refine ⟨_, rfl, congrArg Port.evtData (port_onPort_same _ _ inside), (congrArg Tenant.queue here).trans ?_,
      (congrArg Tenant.delivered here).trans ?_⟩
    all_goals simp [deliverEvents, oldest]
  case empty =>
    rw [exec_evtPop up, evtPop_of_none ready nothing]
    exact ⟨_, rfl, congrArg Port.evtData (port_onPort_same _ s inside), rfl⟩
  case resets =>
    obtain ⟨ports, tenants⟩ := portReset_leaves p s
    refine ⟨_, congrArg Host.Outcome.next (onPortBus_of_busUp _ up), ?_, fun n open_ => ?_, fun n other => ?_⟩
    · rw [port, ports, vget_vmod_same _ _ _ _ inside]
    · rw [sessionOf_of_tenants tenants, sessionOf_closePort, if_pos open_]
    · rw [sessionOf_of_tenants tenants, sessionOf_closePort, if_neg other]
  case ends =>
    refine ⟨_, congrArg Host.Outcome.next (onPower_of_powered _ power), ?_⟩
    rw [portResetEnd_of_inReset inReset, port_onPort_same _ s inside]
    cases fwRuns s <;> simp [Port.irq]

end Sys2Proof.Machine
end

section
/-! Proofs about SPI, SMBus and UART transactions (R589 to R595, Table HST.5), and obligation O55. -/

namespace Sys2Proof.Machine

/-! ### UART register frames -/

@[simp] theorem uartSend_ports (f : Bytes) (s : State) : (uartSend f s).ports = s.ports := rfl
@[simp] theorem uartSend_tenants (f : Bytes) (s : State) : (uartSend f s).tenants = s.tenants := rfl
@[simp] theorem uartSend_discarded (f : Bytes) (s : State) : (uartSend f s).uart.discarded = s.uart.discarded := rfl
@[simp] theorem uartSend_lastSent (f : Bytes) (s : State) : (uartSend f s).uart.lastSent = uartLine f := rfl

/-- What an update of one port leaves of it is left of every port. -/
theorem port_onPort_of_kept {β : Type} (g : Port → β) {f : Port → Port} (p : Nat) (s : State) (q : Nat)
    (kept : ∀ x, g (f x) = g x := by exact fun _ => rfl) : g (port (onPort p f s) q) = g (port s q) :=
  vget_vmod_of_kept kept s.ports p q noPort

/-- A register read keeps the UART and the port's reset. -/
theorem readEffect_keeps (p off : Nat) (s : State) :
    (readEffect p off s).uart = s.uart ∧ (port (readEffect p off s) p).inReset = (port s p).inReset := by
  unfold readEffect
  split
  · exact ⟨rfl, port_onPort_of_kept Port.inReset ..⟩
  · exact ⟨rfl, rfl⟩

theorem readWindow_keeps (p n off : Nat) (cur : Option Nat) (s : State) :
    (readWindow p n off cur s).1.length = n ∧ (readWindow p n off cur s).2.uart = s.uart ∧
      (port (readWindow p n off cur s).2 p).inReset = (port s p).inReset := by
  induction n generalizing off cur s with
  | zero => exact ⟨rfl, rfl, rfl⟩
  | succ n ih =>
    unfold readWindow
    extract_lets v s1 r
    obtain ⟨length, uart, inReset⟩ := ih (nextOff off) (some v) s1
    obtain ⟨uartOne, inResetOne⟩ : s1.uart = s.uart ∧ (port s1 p).inReset = (port s p).inReset := by
      unfold s1
      split
      · exact readEffect_keeps p off s
      · exact ⟨rfl, rfl⟩
    exact ⟨congrArg (· + 1) length, uart.trans uartOne, inReset.trans inResetOne⟩

/-- The memory window of the UART's port reads zero (R626). -/
theorem memoryWindowAccess_uart {off k : Nat} (s : State) (inside : 0x1000 ≤ off ∧ off < 0x2000) :
    memoryWindowAccess 3 false off k [] [] false [] s = onPort 3 (fun x => { x with busOut := zeros (min k (0x2000 - off)) }) s := by
  have inWindow : ¬(off < 0x1000 ∨ 0x1FFF < off) := by omega
  simp [memoryWindowAccess, inWindow]

theorem bytesAt_length (bs : Bytes) (off n : Nat) : (bytesAt bs off n).length = n := by
  simp only [bytesAt, List.length_append, List.length_replicate, List.length_take]
  omega

/-- A read on the UART's port gives as many bytes as it asks for, and keeps the UART's counts. -/
theorem readSpan_uart {f off n : Nat} {s : State} (enough : n < f) (awake : (port s 3).inReset = false) :
    (readSpan 3 f off n s).1.length = n ∧ (readSpan 3 f off n s).2.uart = s.uart := by
  induction f generalizing off n s with
  | zero => omega
  | succ f ih =>
    unfold readSpan
    by_cases done_ : n = 0
    · simp [done_]
    · have goes : ¬(n = 0 ∨ (port s 3).inReset = true) := by simp [done_, awake]
      rw [if_neg goes]
      split
      next memory =>
        have awakeNext : (port (onPort 3 (fun x => { x with busOut := zeros (min (min n (0x2000 - off)) (0x2000 - off)) }) s) 3).inReset = false :=
          (port_onPort_of_kept Port.inReset ..).trans awake
        obtain ⟨length, uart⟩ := ih (off := 0) (n := n - min n (0x2000 - off)) (by omega) awakeNext
        simp only [memoryWindowAccess_uart s memory, List.length_append, bytesAt_length, length]
        exact ⟨by omega, uart⟩
      next registers =>
        extract_lets k x r
        obtain ⟨length, uart, inReset⟩ := readWindow_keeps 3 k off none s
        have size : k ≤ n ∧ 0 < k := by
          unfold k
          split <;> omega
        obtain ⟨lengthRest, uartRest⟩ := ih (off := 0x1000) (n := n - k) (by omega) (inReset.trans awake)
        refine ⟨?_, uartRest.trans uart⟩
        simp only [List.length_append, x, r, length, lengthRest]
        omega

theorem uartRead_of_size {off n : Nat} {s : State} (some_ : 0 < n) (small : n ≤ 64) :
    uartRead (leBytes 2 off ++ leBytes 1 n) s =
      uartSend (byte 3 :: (leBytes 2 off ++ leBytes 1 n ++ (port (getTransfer 3 (off % 65536) n s) 3).busOut)) (getTransfer 3 (off % 65536) n s) := by
  have count : byteAt (leBytes 2 off ++ leBytes 1 n) 2 = n := (BitVec.toNat_ofNat ..).trans (by omega)
  have size : (leBytes 2 off ++ leBytes 1 n).length = 3 := rfl
  have offset : fieldAt (leBytes 2 off ++ leBytes 1 n) 0 2 = off % 65536 := fieldAt_middle [] off (leBytes 1 n) rfl
  have fits : ¬(3 ≠ 3 ∨ n = 0 ∨ 64 < n) := by omega
  simp only [uartRead, count, size, offset, if_neg fits]

theorem uartRead_badCount {off n : Nat} {s : State} (byte_ : n < 256) (bad : n = 0 ∨ 64 < n) :
    uartRead (leBytes 2 off ++ leBytes 1 n) s = uartDiscard s := by
  have count : byteAt (leBytes 2 off ++ leBytes 1 n) 2 = n := (BitVec.toNat_ofNat ..).trans (by omega)
  exact if_pos (.inr (count.symm ▸ bad))

theorem uartWrite_badSize {off : Nat} {data : Bytes} {env : List Int} {s : State} (bad : data = [] ∨ 64 < data.length) :
    uartWrite (leBytes 2 off ++ data) env s = uartDiscard s := by
  refine if_pos ?_
  simp only [List.length_append, leBytes_length]
  rcases bad with rfl | long
  · exact .inl (by decide)
  · omega

/-- DEV_ID is served whether or not the port has READY (R598). -/
theorem regValue_devId (s : State) (p : Nat) : regValue s p 0x004 = devId := by
  simp [regValue, servedAlways, lowReg]

theorem busOut_getTransfer_devId {s : State} (awake : (port s 3).inReset = false) :
    (port (getTransfer 3 0x004 4 s) 3).busOut = leBytes 4 devId := by
  rw [getTransfer_register awake (by decide) (by decide), port_onPort_same _ _ (by decide), regValue_devId]

theorem exec_uartRegRead {line : Bytes} {s : State} (up : BusUp 3 s) : exec (.uartRegRead line) s = .next (uartFrame line [] s) :=
  congrArg Host.Outcome.next (onPortBus_of_busUp _ up)

theorem exec_uartRegWrite {line : Bytes} {env : List Int} {s : State} (up : BusUp 3 s) :
    exec (.uartRegWrite line env) s = .next (uartFrame line env s) :=
  congrArg Host.Outcome.next (onPortBus_of_busUp _ up)

/-! ### UART frames that the device sends (R595) -/

theorem uartFrameSent_of_response {f : RspFrame} {fs : List RspFrame} {s : State} (presents : (port s 3).rspQ = f :: fs) :
    uartFrameSent s = uartSend (byte 1 :: f.frame) (rspDone 3 s) := by
  simp only [uartFrameSent, presents]

theorem uartFrameSent_of_event {n : Nat} {e : Event} {es : List Event} {s : State} (idle : (port s 3).rspQ = [])
    (next : eventTenant s 3 = some n) (oldest : (tenant s n).queue = e :: es) :
    uartFrameSent s = uartSend (byte 2 :: byte n :: eventBytes e) (onTenant n (deliverEvents 1) s) := by
  simp only [uartFrameSent, idle, next, oldest]

theorem lt_of_eventTenant {s : State} {p n : Nat} (h : eventTenant s p = some n) : n < 64 :=
  List.mem_range.1 (List.mem_of_find?_eq_some h)

theorem exec_uartFrameSent {s : State} (up : BusUp 3 s) : exec .uartFrameSent s = .next (uartFrameSent s) :=
  congrArg Host.Outcome.next (onPortBus_of_busUp _ up)

/-! ### The SMBus alert (R591) -/

theorem exec_smbusAlertResponse {s : State} (up : BusUp 1 s) : exec .smbusAlertResponse s = .next (smbusAlertResponse s) :=
  congrArg Host.Outcome.next (onPortBus_of_busUp _ up)

theorem smbusAlertResponse_low {s : State} (low : alertPin s = true) :
    smbusAlertResponse s = onPort 1 (fun q => { q with busOut := [byte (2 * pn s 0x0209)] }) s := by
  simp only [smbusAlertResponse, low, if_true]

theorem smbusAlertResponse_high {s : State} (high : alertPin s = false) :
    smbusAlertResponse s = onPort 1 (fun q => { q with busOut := [] }) s := by
  simp only [smbusAlertResponse, high, Bool.false_eq_true, if_false]

/-- What is on the bus does not hold the alert. -/
theorem alertPin_onPort_busOut (b : Bytes) (s : State) : alertPin (onPort 1 (fun q => { q with busOut := b }) s) = alertPin s := by
  simp only [alertPin, irqLive, irqOn, port_onPort_same _ s (by decide : 1 < 4)]
  rfl

/-- The alert is low while its port's interrupts are enabled and stand (R587, R591). -/
theorem alertPin_of_condition {s : State} (up : BusUp 1 s) (ready : s.core.ready = true) (enabled : bit (pn s 0x020E 1) 3 = true)
    (stands : irqOn s 1 ≠ 0) : alertPin s = true := by
  obtain ⟨bridge, on⟩ := up
  have standing : (irqOn s 1 != 0) = true := bne_iff_ne.2 stands
  simp only [alertPin, irqLive, bridge, ready, inReset_of_portOn on, enabled, standing, Bool.not_false, Bool.and_self]

/-! ### The statement -/

/-- Settles O55: a good frame goes through its transfer, a frame of a wrong length through `uartDiscard`, and the alert's answer leaves what
holds the alert alone. -/
theorem serialBusCommands : Obligations.SerialBusCommands := by
  refine ⟨fun s up => congrArg Host.Outcome.next (onPortBus_of_busUp _ up), fun s up low => ?low, fun s up high => ?high,
    fun s => congrArg Host.Outcome.next (ite_self s), fun line off n s up frame some_ small => ?reads,
    fun line off n s up frame byte_ bad => ?badRead, fun line off data env s up frame bad => ?badWrite,
    fun line off data env s up frame some_ small word => ?writes, fun f fs s up presents => ?response,
    fun n e es s up idle next oldest => ?event, fun s up ready awake enabled stands => ?alert⟩
  case low => rw [exec_smbusAlertResponse up, smbusAlertResponse_low low]
  case high => rw [exec_smbusAlertResponse up, smbusAlertResponse_high high]
  case reads =>
    have awake := inReset_of_portOn up.2
    obtain ⟨length, uart⟩ := readSpan_uart (off := off % 65536) (Nat.lt_succ_self n) awake
    rw [exec_uartRegRead up, uartFrame_read frame, uartRead_of_size some_ small]
    have answered : (port (getTransfer 3 (off % 65536) n s) 3).busOut = (readSpan 3 (n + 1) (off % 65536) n s).1 :=
      congrArg Port.busOut (port_onPort_same _ _ (by decide : 3 < 4))
    refine ⟨_, rfl, (congrArg List.length answered).trans length, rfl, ?_, fun atId four => ?_⟩
    · exact (uartSend_discarded ..).trans (congrArg UartBus.discarded uart)
    · subst atId four
      exact busOut_getTransfer_devId awake
  case badRead => rw [exec_uartRegRead up, uartFrame_read frame, uartRead_badCount byte_ bad]; rfl
  case badWrite => rw [exec_uartRegWrite up, uartFrame_write frame, uartWrite_badSize bad]; rfl
  case writes => rw [exec_uartRegWrite up, uartFrame_write frame, uartWrite_of_size some_ small word]
  case response =>
    rw [exec_uartFrameSent up, uartFrameSent_of_response presents]
    refine ⟨_, rfl, rfl, ?_, rfl⟩
    exact (congrArg Port.rspQ (port_onPort_same releaseRsp s (by decide : 3 < 4))).trans (releaseRsp_rspQ presents)
  case event =>
    rw [exec_uartFrameSent up, uartFrameSent_of_event idle next oldest]
    refine ⟨_, rfl, rfl, ?_⟩
    refine (congrArg Tenant.queue (tenant_onTenant_same (deliverEvents 1) s (lt_of_eventTenant next))).trans ?_
    simp [deliverEvents, oldest]
  case alert =>
    have low := alertPin_of_condition up ready enabled stands
    rw [exec_smbusAlertResponse up, smbusAlertResponse_low low]
    exact ⟨_, rfl, low, (alertPin_onPort_busOut _ s).trans low, congrArg Port.busOut (port_onPort_same _ s (by decide))⟩

end Sys2Proof.Machine
end

section
/-! What brings pending parameter values into force leaves the committed ones alone (R643, R644): the committed value of every instance is
kept by the log, by events, and by what the blocks do with a commit's values in the apply TICK. -/

namespace Sys2Proof.Machine

/-! ### Committed values -/

/-- The committed value of an instance that a store lists; none of an instance that holds its default. -/
def committedCell (ps : ParamStore) (i : PInst) : Option PVal := (findCell ps.cells i).map PCell.committed

/-- The committed value is that of the cell, or the default beside the cells. -/
theorem pCommitted_eq (ps : ParamStore) (i : PInst) :
    pCommitted ps i = (committedCell ps (pSource ps i)).getD (pDefaultIn ps PCell.committed i) := by
  unfold pCommitted pListed committedCell
  cases findCell ps.cells (pSource ps i) <;> rfl

theorem pSource_eq (ps : ParamStore) (i : PInst) :
    pSource ps i = if i.id = 0x0B10 ∧ (committedCell ps i).isNone = true then { id := 0x0B0F, i1 := 0, i2 := 0 } else i := by
  rw [committedCell, Option.isNone_map, pSource]

/-- The default of gauge.ocv_table follows the committed chemistry (R472). -/
theorem pDefaultIn_eq (ps : ParamStore) (i : PInst) :
    pDefaultIn ps PCell.committed i = if i.id = 0x0B12
      then .blob (ocvDefault (((committedCell ps { id := 0x0B01, i1 := 0, i2 := 0 }).map PVal.int).getD 0)) else pDefaultOf i := by
  unfold pDefaultIn committedCell
  cases findCell ps.cells { id := 0x0B01, i1 := 0, i2 := 0 } <;> rfl

/-- An instance that is listed has the committed value of its cell, whatever its default follows. -/
theorem pCommitted_of_listed {ps : ParamStore} {i : PInst} {v : PVal} (h : committedCell ps i = some v) : pCommitted ps i = v := by
  simp [pCommitted_eq, pSource_eq, h]

/-- Every instance that is listed at the one state is listed at the other, with the same committed value. -/
structure CommittedKept (a s : State) : Prop where
  cell : ∀ i, committedCell s.par i = committedCell a.par i

theorem CommittedKept.pCommitted {a s : State} (h : CommittedKept a s) (i : PInst) : pCommitted s.par i = pCommitted a.par i := by
  simp only [pCommitted_eq, pSource_eq, pDefaultIn_eq, h.cell]

/-- Taking values up changes no cell's instance. -/
theorem findCell_map_takeCell (p : PInst → Bool) (cs : List PCell) (i : PInst) :
    findCell (cs.map (takeCell p)) i = (findCell cs i).map (takeCell p) := by
  have inst : (fun c => c.inst == i) ∘ takeCell p = fun c => c.inst == i := funext fun c => congrArg (· == i) (takeCell_inst p c)
  rw [findCell, List.find?_map, inst, findCell]

theorem takeCell_committed (p : PInst → Bool) (c : PCell) : (takeCell p c).committed = c.committed := by
  unfold takeCell
  split <;> rfl

theorem takeCell_epoch (p : PInst → Bool) (c : PCell) : (takeCell p c).epoch = c.epoch := by
  unfold takeCell
  split <;> rfl

theorem committedCell_takeUp (p : PInst → Bool) (s : State) (i : PInst) : committedCell (takeUp p s).par i = committedCell s.par i := by
  have committed : PCell.committed ∘ takeCell p = PCell.committed := funext (takeCell_committed p)
  simp only [committedCell, takeUp, findCell_map_takeCell, Option.map_map, committed]

/-! ### What keeps them -/

theorem CommittedKept.refl (s : State) : CommittedKept s s := ⟨fun _ => rfl⟩

section
variable {a s : State} (h : CommittedKept a s)
include h

/-- An update of other parts of the state. -/
theorem CommittedKept.same {t : State} (par : t.par = s.par) : CommittedKept a t :=
  ⟨fun i => (congrArg (committedCell · i) par).trans (h.cell i)⟩

/-- An operation that writes no cell. -/
theorem CommittedKept.keeps {W : Nat} {t : State} (kept : Keeps W s t) (cells : W.testBit 87 = false) : CommittedKept a t :=
  ⟨fun i => (congrArg (fun cs => (findCell cs i).map PCell.committed) (kept.parK.cells cells)).trans (h.cell i)⟩

theorem CommittedKept.takeUp (p : PInst → Bool) : CommittedKept a (takeUp p s) :=
  ⟨fun i => (committedCell_takeUp p s i).trans (h.cell i)⟩

theorem CommittedKept.takeOcc (o : Occ) : CommittedKept a (takeOcc o s) := h.takeUp _

end

section
variable {a s : State}

theorem CommittedKept.ite {p : Prop} [Decidable p] {t u : State} (yes : CommittedKept a t) (no : CommittedKept a u) :
    CommittedKept a (if p then t else u) := by
  split
  · exact yes
  · exact no

theorem CommittedKept.foldl {α : Type} {f : State → α → State} (step : ∀ t b, CommittedKept a t → CommittedKept a (f t b)) (l : List α)
    (h : CommittedKept a s) : CommittedKept a (l.foldl f s) := by
  induction l generalizing s with
  | nil => exact h
  | cons b l ih => exact ih (step s b h)

/-! ### Events and answers -/

theorem CommittedKept.queueFor (h : CommittedKept a s) (e : Event) (n : Nat) : CommittedKept a (queueFor e n s) :=
  h.keeps (keeps_queueFor (Sub.refl _) (Keeps.refl _ s)) rfl

theorem CommittedKept.postDeferred (h : CommittedKept a s) (d : Deferred) : CommittedKept a (postDeferred d s) := by
  unfold Machine.postDeferred deliver
  refine .ite ?_ (.same h (by rfl))
  split
  · exact h.queueFor ..
  · exact .foldl (fun t n ht => ht.queueFor _ n) _ (h.takeOcc _)

theorem CommittedKept.post (h : CommittedKept a s) (code flags src arg : Nat) : CommittedKept a (post code flags src arg s) := h.postDeferred _

theorem CommittedKept.postOwn (h : CommittedKept a s) (n code flags src arg : Nat) : CommittedKept a (postOwn n code flags src arg s) :=
  h.postDeferred _

theorem CommittedKept.respond (h : CommittedKept a s) (p n seq st : Nat) (pl : Bytes) (since : Option Nat) (credit : Bool) :
    CommittedKept a (respond p n seq st pl since credit s) :=
  h.keeps (keeps_respond (Sub.refl _) (Keeps.refl _ s)) rfl

theorem CommittedKept.returnIf (h : CommittedKept a s) (b : Bool) (n : Nat) : CommittedKept a (returnIf b n s) :=
  h.keeps (keeps_returnIf (Sub.refl _) (Keeps.refl _ s)) rfl

theorem CommittedKept.endOp (h : CommittedKept a s) (o : PendOp) (st : Nat) (pl : Bytes) : CommittedKept a (endOp o st pl s) :=
  .ite ((h.postOwn ..).returnIf ..) (.ite h (h.respond ..))

theorem CommittedKept.completeOp (h : CommittedKept a s) (k : OpKind) (st : Nat) (pl : Bytes) : CommittedKept a (completeOp k st pl s) := by
  unfold Machine.completeOp
  split
  · exact .endOp (.same h (by rfl)) ..
  · exact h

/-! ### The Sinter log (R563, R572) -/

theorem CommittedKept.appendRec (h : CommittedKept a s) {r : LogRec} {x : Nat × State} (appended : appendRec r s = some x) :
    CommittedKept a x.2 := by
  have taken := h.takeOcc .append
  have noted : ∀ (t : State) (r : LogRec), CommittedKept a t → CommittedKept a (noteAppend r (putRecord r t).1 (putRecord r t).2) :=
    fun t r ht => by
      have programmed : CommittedKept a (putRecord r t).2 := ht.keeps (keeps_putRecord (Sub.refl _) (Keeps.refl _ t)) rfl
      exact programmed.keeps (keeps_noteAppend (Sub.refl _) (Keeps.refl _ _)) rfl
  unfold Machine.appendRec at appended
  dsimp only at appended
  split_ifs at appended with fits
  · cases appended
    exact noted _ _ taken
  · split at appended
    next opened =>
      cases appended
      exact noted _ _ (taken.keeps (keeps_openNext (Sub.refl _) (Keeps.refl _ _) _ opened) rfl)
    · cases appended

theorem CommittedKept.flushRecs (rs : List LogRec) (h : CommittedKept a s) : CommittedKept a (flushRecs rs s) := by
  induction rs generalizing s with
  | nil => exact .same h (by rfl)
  | cons r rs ih =>
    unfold Machine.flushRecs
    split
    next appended => exact ih (h.appendRec appended)
    · exact .same h (by rfl)

theorem CommittedKept.logRecord (h : CommittedKept a s) (type : Nat) (payload : Bytes) : CommittedKept a (logRecord type payload s) := by
  unfold Machine.logRecord logRecordAt flushLog
  exact .ite (.flushRecs _ (.same h (by rfl))) (.same h (by rfl))

/-! ### Channels and sequences (R315, R327) -/

theorem CommittedKept.settleChannels (h : CommittedKept a s) : CommittedKept a (settleChannels s) := by
  have due : ∀ p, CommittedKept a (Machine.takeUp p s) := h.takeUp
  unfold Machine.settleChannels calSettle
  dsimp only
  split
  · exact due _
  · split
    · exact due _
    · exact .ite (due _) (.completeOp (.postOwn (.same (due _) (by rfl)) ..) ..)

theorem CommittedKept.modeApply (h : CommittedKept a s) (q : Nat) : CommittedKept a (modeApply q s) := by
  unfold Machine.modeApply
  extract_lets x s1 m s2
  have mode : CommittedKept a s2 := .same (h.takeUp _ : CommittedKept a s1) (by rfl)
  exact .ite (.ite (.settleChannels (.same mode (by rfl))) mode) h

/-! ### The charger (R449 to R456) -/

theorem CommittedKept.setPoint (h : CommittedKept a s) (i : Int) : CommittedKept a (setPoint i s) :=
  h.keeps (keeps_setPoint (Sub.refl _) (Keeps.refl _ s)) rfl

theorem CommittedKept.chgSafe (h : CommittedKept a s) : CommittedKept a (chgSafe s) := .same (h.takeOcc .chgSafe) (by rfl)

theorem CommittedKept.setPhase (h : CommittedKept a s) (p : ChgPhase) (cause : Nat) : CommittedKept a (setPhase p cause s) := by
  unfold Machine.setPhase
  exact .ite h (.chgSafe (.post (.same h (by rfl)) ..))

theorem CommittedKept.endIfCause (h : CommittedKept a s) : CommittedKept a (endIfCause s) := by
  have figure : ∀ (v : Option Int) {t : State}, CommittedKept a t → CommittedKept a (orFree v t).2 := fun v {t} ht =>
    ht.keeps (keeps_orFree (Sub.refl _) (Keeps.refl _ t)) rfl
  unfold Machine.endIfCause sessionEnd
  split
  · split
    · exact h
    · exact .logRecord (.same (figure _ (figure _ h)) (by rfl)) ..
  · exact h

theorem CommittedKept.enterCheck (h : CommittedKept a s) : CommittedKept a (enterCheck s) := by
  have begun_ : CommittedKept a (sessionBegin s) := h.keeps (keeps_sessionBegin (Sub.refl _) (Keeps.refl _ s)) rfl
  exact .setPoint (.same (begun_.setPhase .check 0xFF) (by rfl)) _

theorem CommittedKept.recheckPoint (h : CommittedKept a s) : CommittedKept a (recheckPoint s) := by
  unfold Machine.recheckPoint
  extract_lets i s1
  have rest : CommittedKept a s1 := .same h (by rfl)
  exact .ite (h.setPoint i) (.setPoint (.ite rest.chgSafe rest) i)

theorem CommittedKept.suspend (h : CommittedKept a s) (cause : Nat) : CommittedKept a (suspend cause s) :=
  .setPoint (.same (h.endIfCause.setPhase .suspended cause) (by rfl)) 0

theorem CommittedKept.chgJudge (h : CommittedKept a s) : CommittedKept a (chgJudge s) := by
  unfold Machine.chgJudge
  refine .ite ?_ (h.setPoint _)
  split
  · exact .ite (.same h.endIfCause (by rfl)) (h.suspend _)
  · exact .ite h.enterCheck (.ite h.recheckPoint (h.setPoint _))

/-! ### The intake (R400 to R412, R427 to R443) -/

theorem CommittedKept.setPath (h : CommittedKept a s) (p : PathSt) : CommittedKept a (setPath p s) :=
  h.keeps (keeps_setPath (Sub.refl _) (Keeps.refl _ s)) rfl

theorem CommittedKept.setIn (h : CommittedKept a s) (i : Nat) (st : InSt) : CommittedKept a (setIn i st s) :=
  h.keeps (keeps_setIn (Sub.refl _) (Keeps.refl _ s)) rfl

theorem CommittedKept.clipLim (h : CommittedKept a s) : CommittedKept a (clipLim s) :=
  h.keeps (keeps_clipLim (Sub.refl _) (Keeps.refl _ s)) rfl

theorem CommittedKept.stepQuiet (h : CommittedKept a s) : CommittedKept a (stepQuiet s) := (h.takeOcc .step).takeOcc .ilim

theorem CommittedKept.startSearch (h : CommittedKept a s) (i : Nat) : CommittedKept a (startSearch i s) := by
  unfold Machine.startSearch
  extract_lets s1 cap mem
  have safe : CommittedKept a s1 := .same (h.takeOcc .searchStart).stepQuiet (by rfl)
  exact .ite (.setIn (.same safe (by rfl)) ..) (.ite (.setIn (.same safe (by rfl)) ..) (.setIn (.same safe (by rfl)) ..))

theorem CommittedKept.pathEval (h : CommittedKept a s) : CommittedKept a (pathEval s) := .ite h (h.setPath _).chgJudge

theorem CommittedKept.chgSourceGone (h : CommittedKept a s) : CommittedKept a (chgSourceGone s) := .chgJudge (.same h (by rfl))

theorem CommittedKept.chgSourceCome (h : CommittedKept a s) : CommittedKept a (chgSourceCome s) := .chgJudge (.same h (by rfl))

theorem CommittedKept.takeover (h : CommittedKept a s) (i : Nat) : CommittedKept a (takeover i s) := by
  unfold Machine.takeover
  extract_lets s1 s2
  have active : CommittedKept a s1 := .same h (by rfl)
  have starts : CommittedKept a s2 := .ite (active.startSearch i) (.setIn (.same active (by rfl)) ..)
  exact starts.pathEval.chgSourceCome

theorem CommittedKept.restartInput (h : CommittedKept a s) (i : Nat) : CommittedKept a (restartInput i s) := by
  unfold Machine.restartInput startCount
  have idle : CommittedKept a (onInput i (fun x => { x with st := idleSt x }) s) := .same h (by rfl)
  exact .ite (.same (idle.takeOcc .qualification) (by rfl)) (.same idle (by rfl))

theorem CommittedKept.leaveActive (h : CommittedKept a s) (i reason : Nat) (incoming : Option Nat) :
    CommittedKept a (leaveActive i reason incoming s) := by
  unfold Machine.leaveActive
  extract_lets s1 s2
  have quiet : CommittedKept a (Machine.stepQuiet (Machine.setIn i .absent (keepHash s))) := .stepQuiet (.setIn (.same h (by rfl)) ..)
  have energy : CommittedKept a (energyLeave i (Machine.stepQuiet (Machine.setIn i .absent (keepHash s)))) := .same quiet (by rfl)
  have left_ : CommittedKept a s2 := .same (.ite (.same energy (by rfl)) energy : CommittedKept a s1) (by rfl)
  exact .ite (.chgSourceGone (.same (left_.setPath _) (by rfl))) (((left_.setPath _).chgSourceGone.restartInput _).post ..)

theorem CommittedKept.choose (h : CommittedKept a s) : CommittedKept a (choose s) := by
  unfold Machine.choose
  refine .ite h ?_
  split
  · exact h.takeover _
  · exact .ite h (h.leaveActive ..)
  · exact h

theorem CommittedKept.panelFollow (h : CommittedKept a s) : CommittedKept a (panelFollow s) := .ite (h.startSearch 1) h

theorem CommittedKept.intervalClose (h : CommittedKept a s) : CommittedKept a (intervalClose s) :=
  .ite (.takeOcc (.logRecord (.same h (by rfl)) ..) _) h

theorem CommittedKept.applyBudget (h : CommittedKept a s) : CommittedKept a (applyBudget s) := by
  unfold Machine.applyBudget
  extract_lets n changed cap s1 s2
  have chosen_ : CommittedKept a s1 := .same h (by rfl)
  have clipped : CommittedKept a s2 := by
    refine .clipLim (.ite chosen_ ?_)
    split
    · exact chosen_.keeps (keeps_dropStep (Sub.refl _) (Keeps.refl _ s1)) rfl
    · exact chosen_
  exact .ite (clipped.post ..) clipped

theorem CommittedKept.intakeParams (h : CommittedKept a s) : CommittedKept a (intakeParams s) :=
  h.intervalClose.applyBudget.clipLim.panelFollow.choose

/-! ### The blocks in the apply TICK (R645) -/

theorem CommittedKept.blockTake (h : CommittedKept a s) (i : PInst) : CommittedKept a (blockTake s i) := by
  have state : CommittedKept a (setSt i.i1 (rail s i.i1).st s) := h.keeps (keeps_setSt (Sub.refl _) (Keeps.refl _ s)) rfl
  have count : CommittedKept a (setOc i.i1 0 s) := h.keeps (keeps_setOc (Sub.refl _) (Keeps.refl _ s)) rfl
  unfold Machine.blockTake
  split
  · exact state
  · exact .same h (by rfl)
  · exact .ite state h
  · exact count
  · exact count
  · exact h.modeApply _
  · exact .ite (h.keeps (keeps_dropTripped (Sub.refl _) (Keeps.refl _ s)) rfl) h
  · exact h

theorem CommittedKept.blocksTake (h : CommittedKept a s) (ws : List PWrite) : CommittedKept a (blocksTake ws s) := by
  unfold Machine.blocksTake
  extract_lets s1 s2 s3
  have channels : CommittedKept a s1 := .settleChannels (.foldl (fun t i ht => ht.blockTake i) _ h)
  have captures : CommittedKept a s2 := .ite (channels.keeps (keeps_capParams (Sub.refl _) (Keeps.refl _ s1)) rfl) channels
  have intake : CommittedKept a s3 := .ite (.intakeParams (.ite captures.stepQuiet captures)) captures
  exact .ite intake.chgJudge intake

end

end Sys2Proof.Machine
end

section
/-! Proofs about commits (R655, R656): what a command finds of the parameters, when a commit conflicts, and what a commit that applies
leaves. -/

namespace Sys2Proof.Machine

/-! ### The strobe (R645) -/

theorem findCell_putCell (cs : List PCell) (c : PCell) (i : PInst) :
    findCell (putCell cs c) i = if c.inst = i then some c else findCell cs i := by
  induction cs with
  | nil => by_cases here : c.inst = i <;> simp [putCell, findCell, here]
  | cons d ds ih =>
    simp only [findCell] at ih ⊢
    by_cases replaced : d.inst = c.inst
    · by_cases here : c.inst = i <;> simp [putCell, replaced, here]
    · rw [putCell, if_neg replaced]
      by_cases first : d.inst = i
      · have other : c.inst ≠ i := fun same => replaced (first.trans same.symm)
        simp [first, other]
      · simpa [first] using ih

theorem committedCell_applyWrite (e : Nat) (ps : ParamStore) (w : PWrite) (i : PInst) :
    committedCell (applyWrite e ps w) i = if w.inst = i then some w.value else committedCell ps i := by
  simp only [committedCell, applyWrite, findCell_putCell]
  split <;> rfl

/-- The strobe leaves the instances alone that it does not write. -/
theorem committedCell_applyWrites_other {e : Nat} {ps : ParamStore} {ws : List PWrite} {i : PInst} (h : i ∉ ws.map PWrite.inst) :
    committedCell (ws.foldl (applyWrite e) ps) i = committedCell ps i := by
  induction ws generalizing ps with
  | nil => rfl
  | cons w ws ih =>
    obtain ⟨other, rest⟩ : i ≠ w.inst ∧ i ∉ ws.map PWrite.inst := by simpa using h
    rw [List.foldl_cons, ih rest, committedCell_applyWrite, if_neg (Ne.symm other)]

/-- The strobe commits each write whose instance no other write names. -/
theorem committedCell_applyWrites {e : Nat} {ps : ParamStore} {ws : List PWrite} (once : (ws.map PWrite.inst).Nodup) {w : PWrite}
    (mem : w ∈ ws) : committedCell (ws.foldl (applyWrite e) ps) w.inst = some w.value := by
  induction ws generalizing ps with
  | nil => exact absurd mem List.not_mem_nil
  | cons x ws ih =>
    obtain ⟨first, rest⟩ := List.nodup_cons.1 once
    rw [List.foldl_cons]
    rcases List.mem_cons.1 mem with rfl | later
    · rw [committedCell_applyWrites_other first, committedCell_applyWrite, if_pos rfl]
    · exact ih rest later

/-- Writes touch the cells of a store only. -/
theorem applyWrites_eq (e : Nat) (ws : List PWrite) (ps : ParamStore) :
    ∃ cells, ws.foldl (applyWrite e) ps = { ps with cells := cells } := by
  induction ws generalizing ps with
  | nil => exact ⟨ps.cells, rfl⟩
  | cons w ws ih =>
    obtain ⟨cells, rest⟩ := ih (applyWrite e ps w)
    exact ⟨cells, rest⟩

theorem strobe_par (ws : List PWrite) (s : State) :
    ∃ cells, (strobe ws s).par = { s.par with cells := cells, epoch := s.par.epoch + 1 } := applyWrites_eq _ ws _

theorem strobe_epoch (ws : List PWrite) (s : State) : (strobe ws s).par.epoch = s.par.epoch + 1 := by
  obtain ⟨cells, par⟩ := strobe_par ws s
  rw [par]

theorem strobe_waiting (ws : List PWrite) (s : State) : (strobe ws s).par.waiting = s.par.waiting := by
  obtain ⟨cells, par⟩ := strobe_par ws s
  rw [par]

/-- The default open-circuit table that comes with a chemistry is the only write of its instance (R472). -/
theorem withTable_nodup {ws : List PWrite} (once : (ws.map PWrite.inst).Nodup) : ((withTable ws).map PWrite.inst).Nodup := by
  unfold withTable
  split
  next w found =>
    split
    · exact once
    next absent =>
      have noTable : ∀ x ∈ ws, x.inst.id ≠ 0x0B12 := by simpa using absent
      have apart : ∀ x ∈ ws, x.inst ≠ at1 0 0x0B12 := fun x mem same => noTable x mem (congrArg PInst.id same)
      simpa [List.nodup_append, once] using apart
  · exact once

theorem mem_withTable {ws : List PWrite} {w : PWrite} (mem : w ∈ ws) : w ∈ withTable ws := by
  unfold withTable
  split
  · split
    · exact mem
    · exact List.mem_append_left _ mem
  · exact mem

/-! ### A commit that applies (R645, R655) -/

/-- A commit without PERSIST that has applied: the strobe, and what the blocks do with its values. -/
def commitApplied (ws : List PWrite) (s : State) : State :=
  blocksTake (withTable ws) (wakeOnNow (strobe (withTable ws) (noteWake (withTable ws) s)))

theorem applyCommit_unsaved (n : Nat) (fails : Bool) (ws : List PWrite) (s : State) :
    applyCommit n false fails ws s = (stOk, commitApplied ws s) := rfl

theorem noteWake_par (ws : List PWrite) (s : State) : (noteWake ws s).par = s.par :=
  (keeps_noteWake (Sub.refl _) (Keeps.refl _ s)).par rfl

theorem wakeOnNow_par (s : State) : (wakeOnNow s).par = s.par := (keeps_wakeOnNow (Sub.refl _) (Keeps.refl _ s)).par rfl

theorem commitApplied_epoch (ws : List PWrite) (s : State) : (commitApplied ws s).par.epoch = s.par.epoch + 1 := by
  rw [commitApplied, (keeps_blocksTake (Sub.refl _) (Keeps.refl _ _)).parK.epoch rfl, wakeOnNow_par, strobe_epoch, noteWake_par]

theorem commitApplied_waiting (ws : List PWrite) (s : State) : (commitApplied ws s).par.waiting = s.par.waiting := by
  rw [commitApplied, (keeps_blocksTake (Sub.refl _) (Keeps.refl _ _)).parK.waiting rfl, wakeOnNow_par, strobe_waiting, noteWake_par]

/-- A commit that applies commits every write whose instance no other write names. -/
theorem pCommitted_commitApplied {ws : List PWrite} (once : (ws.map PWrite.inst).Nodup) (s : State) {w : PWrite} (mem : w ∈ ws) :
    pCommitted (commitApplied ws s).par w.inst = w.value := by
  rw [commitApplied, ((CommittedKept.refl _).blocksTake _).pCommitted, wakeOnNow_par]
  exact pCommitted_of_listed (committedCell_applyWrites (withTable_nodup once) (mem_withTable mem))

/-! ### The check of a claimed commit (R655) -/

/-- A commit without PERSIST applies where nothing has overtaken it, no protection refuses it, its safe points have come and the rules that
tie parameters together hold. -/
theorem commitCheck_applies {edge fails : Bool} {c : WaitCommit} {s : State} (claimed : c.overtaken = false) (plain : c.persist = false)
    (mode : lockedWrite c.writes = none ∨ s.core.mode = .service) (free : protectLocked c.writes s = false)
    (ready : c.writes.all (writeReady edge s) = true) (ties : crossFail c.writes s = none) :
    commitCheck edge fails c s = some (stOk, noInst, commitApplied c.writes s) := by
  have allowed : ¬((lockedWrite c.writes).isSome = true ∧ s.core.mode ≠ .service) := by
    rintro ⟨locked, other⟩
    rcases mode with noLock | service
    · rw [noLock] at locked
      exact Bool.noConfusion locked
    · exact other service
  simp only [commitCheck, claimed, plain, allowed, free, ready, ties, applyCommit_unsaved, Bool.false_eq_true, false_and, if_false, if_true]

/-- A commit whose safe points have not come waits on until its deadline (R657). -/
theorem commitCheck_waits {edge fails : Bool} {c : WaitCommit} {s : State} (claimed : c.overtaken = false)
    (noLock : lockedWrite c.writes = none) (free : protectLocked c.writes s = false)
    (busy : c.writes.all (writeReady edge s) = false) (early : s.clk.us < c.deadline) : commitCheck edge fails c s = none := by
  simp only [commitCheck, claimed, noLock, free, busy, Nat.not_le.2 early, Option.isSome_none, Bool.false_eq_true, false_and, if_false]

/-! ### Conflicts (R655, R656) -/

theorem conflictOf_congr {s t : State} (par : t.par = s.par) (base : Nat) (ws : List PWrite) : conflictOf base ws t = conflictOf base ws s := by
  simp only [conflictOf, par]

/-- What comes into force makes no conflict. -/
theorem conflictOf_takeUp (p : PInst → Bool) (base : Nat) (ws : List PWrite) (s : State) :
    conflictOf base ws (takeUp p s) = conflictOf base ws s := by
  unfold conflictOf
  refine congrArg (fun q => (ws.find? q).map PWrite.inst) (funext fun w => ?_)
  simp only [takeUp, findCell_map_takeCell]
  cases findCell s.par.cells w.inst with
  | none => rfl
  | some c => simp only [Option.map_some, takeCell_epoch]

/-! ### The parameters that a command finds -/

/-- Serving takes up what the watchdog's restart brings into force, and writes nothing else of the parameter store (R51). -/
theorem begun_par (code : Nat) (r : Req) (s : State) : ∃ p, (begun code r s).par = (takeUp p s).par := by
  have consumed : (begun code r s).par = (wdKick s).par := (keeps_consume (Sub.refl _) (Keeps.refl _ (wdKick s))).par rfl
  rw [consumed]
  unfold wdKick
  split
  · exact ⟨_, rfl⟩
  · have nothing : takeCell (fun _ => false) = id := funext fun c => takeCell_of_not rfl
    exact ⟨fun _ => false, by simp only [takeUp, nothing, List.map_id]⟩

theorem begun_epoch (code : Nat) (r : Req) (s : State) : (begun code r s).par.epoch = s.par.epoch := (keeps_begun code r s).parK.epoch rfl
theorem begun_waiting (code : Nat) (r : Req) (s : State) : (begun code r s).par.waiting = s.par.waiting :=
  (keeps_begun code r s).parK.waiting rfl
theorem begun_base (code : Nat) (r : Req) (s : State) : (begun code r s).par.base = s.par.base := (keeps_begun code r s).parK.base rfl

theorem committedKept_begun (code : Nat) (r : Req) (s : State) : CommittedKept s (begun code r s) := by
  obtain ⟨p, par⟩ := begun_par code r s
  exact .same ((CommittedKept.refl s).takeUp p) par

theorem conflictOf_begun (code : Nat) (r : Req) (base : Nat) (ws : List PWrite) (s : State) :
    conflictOf base ws (begun code r s) = conflictOf base ws s := by
  obtain ⟨p, par⟩ := begun_par code r s
  rw [conflictOf_congr par, conflictOf_takeUp]

theorem conflictOf_accepted (code : Nat) (r : Req) (base : Nat) (ws : List PWrite) (s : State) :
    conflictOf base ws (useTxn r.tenant (begun code r s)) = conflictOf base ws s :=
  (conflictOf_congr rfl ..).trans (conflictOf_begun ..)

/-- The NV engine's protection is judged alike before and after the acceptance of a commit. -/
theorem protectLocked_accepted (code : Nat) (r : Req) (ws : List PWrite) (s : State) :
    protectLocked ws (takeOcc .commitAccepted (useTxn r.tenant (begun code r s))) = protectLocked ws s := by
  have lock : pn (takeOcc .commitAccepted (useTxn r.tenant (begun code r s))) 0x0D02 = pn s 0x0D02 :=
    congrArg Int.toNat ((congrArg PVal.int (pInForce_takeUp _ (by decide +kernel) (by decide) (by decide))).trans
      (pv_begun code r s 0 0 (by decide +kernel) (by decide) (by decide)))
  have bits : pv (takeOcc .commitAccepted (useTxn r.tenant (begun code r s))) 0x0D01 = pv s 0x0D01 :=
    (congrArg PVal.int (pInForce_takeUp _ (by decide +kernel) (by decide) (by decide))).trans
      (pv_begun code r s 0 0 (by decide +kernel) (by decide) (by decide))
  simp only [protectLocked, lock, bits]

/-! ### The beginning of a commit (R655) -/

theorem commitBegin_conflict {base : Nat} {ws : List PWrite} {r : Req} {s : State} {i : PInst} (h : conflictOf base ws s = some i) :
    commitBegin false base ws r s = .done stConflict (instBytes i) (settleTxn r.tenant stConflict i s) := by
  simp only [commitBegin, h]
  rfl

theorem commitBegin_applies {base : Nat} {ws : List PWrite} {r : Req} {s : State} (plain : r.persist = false)
    (noConflict : conflictOf base ws s = none) (mode : lockedWrite ws = none ∨ s.core.mode = .service)
    (free : protectLocked ws (takeOcc .commitAccepted s) = false)
    (ready : ws.all (writeReady false (takeOcc .commitAccepted s)) = true) (ties : crossFail ws (takeOcc .commitAccepted s) = none) :
    commitBegin false base ws r s = .done stOk (leBytes 8 (s.par.epoch + 1))
      (settleTxn r.tenant stOk noInst (commitApplied ws (takeOcc .commitAccepted s))) := by
  have epoch : (commitApplied ws (takeOcc .commitAccepted s)).par.epoch = s.par.epoch + 1 := commitApplied_epoch ws _
  simp only [commitBegin, noConflict, plain, Bool.false_eq_true, false_and, if_false]
  rw [commitCheck_applies]
  case claimed => rfl
  case plain => rfl
  case mode => exact mode
  case free => exact free
  case ready => exact ready
  case ties => exact ties
  simp only [commitAnswer, if_true, Bool.false_eq_true, if_false, epoch]

end Sys2Proof.Machine
end

section
/-! Proofs about transactions (R652 to R657, R659), waiting commits and CONFIG_FACTORY (R665, R666), and obligation O46. That a second
TXN_COMMIT of a transaction that waits answers BUSY_RUNNING is the model's choice (assumption 128). -/

namespace Sys2Proof.Machine

/-! ### The transaction of a tenant (R652 to R655) -/

theorem lt_of_txn {s : State} {n : Nat} {x : Txn} (h : (tenant s n).txn = some x) : n < 64 := by
  by_contra outside
  have none_ : tenant s n = noTenant := by simp [tenant, vget, Nat.not_lt.1 outside]
  rw [none_] at h
  cases h

@[simp] theorem txn_begun (code : Nat) (r : Req) (s : State) (n : Nat) : (tenant (begun code r s) n).txn = (tenant s n).txn := by
  have kicked : (tenant (wdKick s) n).txn = (tenant s n).txn := congrArg Tenant.txn (tenant_of_tenants (wdKick_tenants s) n)
  unfold begun consume
  split
  · exact kicked
  · exact (tenant_onTenant_of_kept Tenant.txn _ _ _ (by exact fun _ => rfl)).trans kicked

/-- The tenant's request starts the idle time of its transaction anew (R654). -/
theorem txn_useTxn_some {n : Nat} {x : Txn} {s : State} (h : (tenant s n).txn = some x) :
    (tenant (useTxn n s) n).txn = some { x with usedAt := s.clk.us } := by
  rw [useTxn, tenant_onTenant_same _ _ (lt_of_txn h)]
  simp only [h, Option.map_some]

theorem txn_useTxn_none {n : Nat} {s : State} (h : (tenant s n).txn = none) : (tenant (useTxn n s) n).txn = none := by
  have kept : (tenant (useTxn n s) n).txn.isNone = (tenant s n).txn.isNone :=
    tenant_onTenant_of_kept (fun t => t.txn.isNone) n s n fun _ => Option.isNone_map
  rwa [h, Option.isNone_none, Option.isNone_iff_eq_none] at kept

/-- A commit that ended closes its transaction (R655). -/
theorem txn_settleTxn_closed {n st : Nat} {i : PInst} {s : State} (inside : n < 64) (closes : st = stOk ∨ st = stConflict ∨ st = stHardware) :
    (tenant (settleTxn n st i s) n).txn = none := by
  rw [settleTxn, tenant_onTenant_same _ _ inside]
  exact if_pos closes

/-! ### Open transactions across the device (R652) -/

theorem map_toList_vmod_of_kept {α β : Type} {n : Nat} {g : α → β} {f : α → α} (kept : ∀ x, g (f x) = g x) (v : Vector α n) (i : Nat) :
    (vmod v i f).toList.map g = v.toList.map g := by
  unfold vmod
  split
  next a found =>
    obtain ⟨inside, here⟩ := Vector.getElem?_eq_some_iff.1 found
    refine List.ext_getElem (by simp) fun k _ _ => ?_
    by_cases same : i = k
    · subst same
      simp [kept, here]
    · simp [same]
  · rfl

theorem openTxns_eq (s : State) : openTxns s = ((s.tenants.toList.map Tenant.txn).filter Option.isSome).length := by
  rw [openTxns, List.filter_map, List.length_map]
  rfl

@[simp] theorem openTxns_begun (code : Nat) (r : Req) (s : State) : openTxns (begun code r s) = openTxns s := by
  have consumed : openTxns (consume code r.tenant (wdKick s)) = openTxns (wdKick s) := by
    unfold consume
    split
    · rfl
    · rw [openTxns_eq, openTxns_eq, onTenant_tenants, map_toList_vmod_of_kept]
      exact fun _ => rfl
  rw [begun, consumed, openTxns, openTxns, wdKick_tenants]

/-- The transaction that TXN_BEGIN opens (R652). -/
def openedTxn (s : State) : Txn :=
  { base := s.par.epoch, writes := [], waiting := false, lastStatus := 0, lastFail := noInst, usedAt := s.clk.us }

theorem body_cmdTxnBegin_opens {r : Req} {s : State} (closed : (tenant s r.tenant).txn = none) (room : openTxns s < 8) :
    cmdTxnBegin.body r [] s =
      .done stOk (leBytes 8 s.par.epoch) (onTenant r.tenant (fun t => { t with txn := some (openedTxn s) }) s) := by
  simp only [cmdTxnBegin, txnBeginBody, closed, Nat.not_le.2 room, Option.isSome_none, Bool.false_eq_true, or_self, if_false, openedTxn]

theorem body_cmdTxnBegin_limit {r : Req} {s : State} (limit : (tenant s r.tenant).txn.isSome = true ∨ 8 ≤ openTxns s) :
    cmdTxnBegin.body r [] s = .done stTxnLimit [] s := if_pos limit

/-! ### TXN_COMMIT, TXN_ROLLBACK and TXN_STATUS (R654, R655, R659) -/

theorem body_cmdTxnCommit_begins {r : Req} {x : Txn} {s u : State} (open_ : (tenant s r.tenant).txn = some x) (idle : x.waiting = false) :
    (cmdTxnCommit u).body r [] s = commitBegin false x.base x.writes r (useTxn r.tenant s) := by
  simp only [cmdTxnCommit, txnCommitBody, txn_useTxn_some open_, idle, Bool.false_eq_true, if_false]

theorem body_cmdTxnCommit_waiting {r : Req} {x : Txn} {s u : State} (open_ : (tenant s r.tenant).txn = some x) (waits : x.waiting = true) :
    (cmdTxnCommit u).body r [] s = .done stBusy [] (useTxn r.tenant s) := by
  simp only [cmdTxnCommit, txnCommitBody, txn_useTxn_some open_, waits, if_true, refuse]

theorem body_cmdTxnCommit_none {r : Req} {s u : State} (closed : (tenant s r.tenant).txn = none) :
    (cmdTxnCommit u).body r [] s = .done stNoTxn [] (useTxn r.tenant s) := by
  simp only [cmdTxnCommit, txnCommitBody, txn_useTxn_none closed, refuse]

theorem body_cmdTxnRollback_drops {r : Req} {x : Txn} {s : State} (open_ : (tenant s r.tenant).txn = some x) (idle : x.waiting = false) :
    cmdTxnRollback.body r [] s = .done stOk [] (onTenant r.tenant (fun t => { t with txn := none }) s) := by
  simp only [cmdTxnRollback, txnRollbackBody, open_, idle, Bool.false_eq_true, if_false]

theorem body_cmdTxnStatus_open {r : Req} {x : Txn} {s : State} (open_ : (tenant s r.tenant).txn = some x) :
    cmdTxnStatus.body r [] s = .done stOk ([byte 1, byte (b2n x.waiting), byte x.writes.length, byte 0] ++ leBytes 2 (stageUsed x.writes) ++
      leBytes 2 x.lastStatus ++ leBytes 8 x.base ++ instBytes x.lastFail) (useTxn r.tenant s) := by
  simp only [cmdTxnStatus, txnStatusBody, txn_useTxn_some open_]

/-! ### TXN_IDLE_TIMEOUT (R654) -/

theorem onLive_of_live {s : State} (f : State → State) (h : Live s) : onLive f s = f s := by
  obtain ⟨power, recalled⟩ := h
  simp only [onLive, power, recalled, Bool.and_self, if_true]

/-- An update that leaves its entry as it is leaves the vector as it is. -/
theorem vmod_of_fixed {α : Type} {n : Nat} {v : Vector α n} {i : Nat} {f : α → α} (d : α) (h : f (vget v i d) = vget v i d) :
    vmod v i f = v := by
  unfold vmod
  split
  next a found =>
    obtain ⟨inside, here⟩ := Vector.getElem?_eq_some_iff.1 found
    have entry : vget v i d = a := by simp [vget, found]
    rw [entry] at h
    refine Vector.ext fun k hk => ?_
    by_cases same : i = k
    · subst same
      simp [h, here]
    · simp [same]
  · rfl

theorem exec_txnIdleTimeout {n : Nat} {s : State} (live : Live s) (works : fwWorks s = true) :
    exec (.txnIdleTimeout n) s = .next (onTenant n (fun t =>
      { t with txn := t.txn.filter (fun x => x.waiting || decide (s.clk.us < x.usedAt + 300000000)) }) s) := by
  refine congrArg Host.Outcome.next ((onLive_of_live _ live).trans ?_)
  simp only [txnIdleTimeout, works, if_true]

/-! ### Waiting commits (R655, R657) -/

theorem afterWrites_waiting (ws : List PWrite) (l : List WaitCommit) (ps : ParamStore) :
    afterWrites ws { ps with waiting := l } = { afterWrites ws ps with waiting := l } := by
  have step : ∀ qs : ParamStore, ws.foldl (applyWrite ps.epoch) { qs with waiting := l } =
      { ws.foldl (applyWrite ps.epoch) qs with waiting := l } := by
    induction ws with
    | nil => exact fun _ => rfl
    | cons w ws ih => exact fun qs => ih (applyWrite ps.epoch qs w)
  exact step ps

/-- The state in which the one waiting commit is checked: it waits no more. -/
def unclaimed (s : State) : State := { s with par := { s.par with waiting := [] } }

/-- The commits that wait have no part in the rules that tie parameters together. -/
theorem crossFail_unclaimed (ws : List PWrite) (s : State) : crossFail ws (unclaimed s) = crossFail ws s := by
  unfold crossFail unclaimed
  rw [afterWrites_waiting]
  rfl

section
variable {edge fails : Bool} {c : WaitCommit} {s : State} (works : fwWorks s = true) (one : s.par.waiting = [c])
include works one

theorem commitPoll_ends {st : Nat} {i : PInst} {t : State} (check : commitCheck edge fails c (unclaimed s) = some (st, i, t)) :
    commitPoll edge fails s = endCommit c st i t := by
  have checked : commitCheck edge fails c { s with par := { s.par with waiting := s.par.waiting.erase c } } = some (st, i, t) := by
    rw [one, List.erase_cons_head]
    exact check
  rw [commitPoll, if_pos works, one, commitPollList, checked]
  rfl

theorem commitPoll_waits (check : commitCheck edge fails c (unclaimed s) = none) : commitPoll edge fails s = s := by
  have checked : commitCheck edge fails c { s with par := { s.par with waiting := s.par.waiting.erase c } } = none := by
    rw [one, List.erase_cons_head]
    exact check
  rw [commitPoll, if_pos works, one, commitPollList, checked]
  rfl

end

theorem endCommit_epoch (c : WaitCommit) (st : Nat) (i : PInst) (s : State) : (endCommit c st i s).par.epoch = s.par.epoch :=
  (keeps_endCommit (Sub.refl _) (Keeps.refl _ s)).parK.epoch rfl

theorem endCommit_waiting (c : WaitCommit) (st : Nat) (i : PInst) (s : State) : (endCommit c st i s).par.waiting = s.par.waiting :=
  (keeps_endCommit (Sub.refl _) (Keeps.refl _ s)).parK.waiting rfl

/-- How a waiting commit ends is told, and changes no committed value. -/
theorem committedKept_endCommit (c : WaitCommit) (st : Nat) (i : PInst) (s : State) : CommittedKept s (endCommit c st i s) := by
  unfold endCommit
  extract_lets s1 code
  have settled : CommittedKept s s1 := .ite (.refl s) (.same (.refl s) (by rfl))
  exact .ite ((settled.postOwn ..).returnIf ..) (settled.respond ..)

/-! ### CONFIG_FACTORY (R665, R666) -/

theorem factoryImage_begun (o code : Nat) (r : Req) (s : State) : factoryImage o (begun code r s) = factoryImage o s := by
  simp only [factoryImage, begun_base, begun_mode]

/-- The state once the restored image and its record are written. -/
def factoryRestored (r : Req) (o : Nat) (s : State) : State :=
  configRecord 3 r.tenant (imageTarget s) o (nextImageGen s) 0 0 0 noInst (factoryImage o s).length (writeImage (factoryImage o s) s)

theorem body_cmdConfigFactory_restores {r : Req} {o : Nat} {s : State} (small : o < 256) (idle : s.par.waiting = [])
    (charged : pv s 0x0D06 ≤ s.nv.resvMv) (written : r.env.headD 0 = 0) :
    cmdConfigFactory.body r [byte o] s = .done stOk [] (factoryRestored r o s) := by
  have options : byteAt [byte o] 0 = o := Nat.mod_eq_of_lt small
  have noFail : (r.env.headD 0 != 0) = false := bne_eq_false_iff_eq.2 written
  simp only [cmdConfigFactory, configFactoryBody, idle, Int.not_lt.2 charged, noFail, options, List.isEmpty_nil, Bool.not_true,
    Bool.false_eq_true, if_false]
  rfl

theorem body_cmdConfigFactory_busy {r : Req} {pl : Bytes} {s : State} (waits : s.par.waiting ≠ []) :
    cmdConfigFactory.body r pl s = .done stBusy [] s := by
  have some_ : (!s.par.waiting.isEmpty) = true := by simpa using waits
  exact if_pos some_

theorem factoryRestored_base (r : Req) (o : Nat) (s : State) : (factoryRestored r o s).par.base = factoryImage o s :=
  (keeps_configRecord (Sub.refl _) (Keeps.refl _ _)).parK.base rfl

theorem factoryRestored_epoch (r : Req) (o : Nat) (s : State) : (factoryRestored r o s).par.epoch = s.par.epoch :=
  ((keeps_configRecord (Sub.refl _) (Keeps.refl _ _)).parK.epoch rfl).trans ((keeps_writeImage (Sub.refl _) (Keeps.refl _ s)).parK.epoch rfl)

theorem factoryRestored_core (r : Req) (o : Nat) (s : State) : (factoryRestored r o s).core = s.core :=
  ((keeps_configRecord (Sub.refl _) (Keeps.refl _ _)).core rfl).trans ((keeps_writeImage (Sub.refl _) (Keeps.refl _ s)).core rfl)

/-- The restored image comes into force at the next recall (R665). -/
theorem committedKept_factoryRestored (r : Req) (o : Nat) (s : State) : CommittedKept s (factoryRestored r o s) :=
  ((CommittedKept.refl s).keeps (keeps_writeImage (Sub.refl _) (Keeps.refl _ s)) rfl).logRecord ..

theorem exec_configFactory {r : Req} {o st : Nat} {pl : Bytes} {s t : State} (accepted : Accepted cmdConfigFactory r [byte o] s)
    (body : cmdConfigFactory.body r [byte o] (begun 0x0307 r s) = .done st pl t) :
    exec (.configFactory r o) s = .next (answered 0x0307 r st pl t) := by
  refine congrArg Host.Outcome.next ?_
  rw [leBytes_one]
  exact serve_done accepted body

/-! ### The statement -/

/-- Settles O46: each command's answer is one branch of its body; a commit that applies is the strobe, and what the blocks do with its values
in the apply TICK leaves every committed value alone. -/
theorem transactionsAndFactory : Obligations.TransactionsAndFactory := by
  refine ⟨fun r s accepted closed room => ?opens, fun r s accepted open_ => ?second,
    fun r x s u accepted open_ idle plain once atAcceptance free noConflict mode ready ties => ?applies,
    fun r x i s accepted open_ idle conflict => ?conflict, fun r x s accepted open_ waits => ?busy, fun r s accepted closed => ?noTxn,
    fun r x s accepted open_ idle => ?rollback, fun r x s accepted open_ => ?status, fun n x s live works open_ idle used => ?inUse,
    fun n x s live works open_ idle expired => ?expires,
    fun f c s live works one claimed plain mode ready ties once free => ?waitEnds,
    fun f c s live works one claimed noLock free busy early => ?waitsOn,
    fun r o s accepted small idle charged written => ?factory, fun r o s accepted waits => ?factoryBusy, fun r s accepted limit => ?ninth⟩
  case opens =>
    have body := body_cmdTxnBegin_opens (r := r) (s := begun 0x0303 r s) ((txn_begun ..).trans closed) ((openTxns_begun ..).trans_lt room)
    rw [begun_epoch] at body
    have inside := lt_of_sessionOf (session_of_accepted accepted rfl)
    exact ⟨_, _, congrArg Host.Outcome.next (serve_done accepted body), congrArg Tenant.txn (tenant_onTenant_same _ _ inside),
      begun_epoch 0x0303 r s, rfl, rfl⟩
  case second =>
    have isOpen : (tenant (begun 0x0303 r s) r.tenant).txn.isSome = true := by simpa [Option.isSome_iff_ne_none] using open_
    exact congrArg Host.Outcome.next (serve_done accepted (body_cmdTxnBegin_limit (.inl isOpen)))
  case applies =>
    subst atAcceptance
    have begins := body_cmdTxnCommit_begins (u := s) ((txn_begun 0x0304 r s r.tenant).trans open_) idle
    rw [commitBegin_applies plain ((conflictOf_accepted ..).trans noConflict) (mode.imp_right (begun_mode 0x0304 r s).trans)
      ((protectLocked_accepted ..).trans free) ready ties] at begins
    have epoch : (useTxn r.tenant (begun 0x0304 r s)).par.epoch = s.par.epoch := begun_epoch 0x0304 r s
    rw [epoch] at begins
    exact ⟨_, congrArg Host.Outcome.next (serve_done accepted begins), (commitApplied_epoch ..).trans (congrArg (· + 1) epoch),
      txn_settleTxn_closed (lt_of_txn open_) (.inl rfl), fun w mem => pCommitted_commitApplied once _ mem⟩
  case conflict =>
    have begins := body_cmdTxnCommit_begins (u := s) ((txn_begun 0x0304 r s r.tenant).trans open_) idle
    rw [commitBegin_conflict ((conflictOf_accepted ..).trans conflict)] at begins
    exact ⟨_, congrArg Host.Outcome.next (serve_done accepted begins), txn_settleTxn_closed (lt_of_txn open_) (.inr (.inl rfl)), rfl⟩
  case busy =>
    exact congrArg Host.Outcome.next (serve_done accepted (body_cmdTxnCommit_waiting ((txn_begun ..).trans open_) waits))
  case noTxn =>
    exact congrArg Host.Outcome.next (serve_done accepted (body_cmdTxnCommit_none ((txn_begun ..).trans closed)))
  case rollback =>
    have body := body_cmdTxnRollback_drops ((txn_begun 0x0305 r s r.tenant).trans open_) idle
    exact ⟨_, congrArg Host.Outcome.next (serve_done accepted body), congrArg Tenant.txn (tenant_onTenant_same _ _ (lt_of_txn open_)), rfl⟩
  case status =>
    have body := body_cmdTxnStatus_open ((txn_begun 0x0306 r s r.tenant).trans open_)
    exact ⟨_, congrArg Host.Outcome.next (serve_done accepted body), by simp [instBytes], rfl⟩
  case inUse =>
    refine ⟨_, exec_txnIdleTimeout live works, vmod_of_fixed noTenant ?_⟩
    have stays : (tenant s n).txn.filter (fun y => y.waiting || decide (s.clk.us < y.usedAt + 300000000)) = (tenant s n).txn := by
      simp [open_, used]
    exact congrArg (fun y => { tenant s n with txn := y }) stays
  case expires =>
    refine ⟨_, exec_txnIdleTimeout live works, ?_, rfl, fun k other => tenant_onTenant_other _ _ (Ne.symm other)⟩
    rw [tenant_onTenant_same _ _ (lt_of_txn open_)]
    simp [open_, idle, expired]
  case waitEnds =>
    have check := commitCheck_applies (edge := false) (fails := f) (s := unclaimed s) claimed plain mode free ready
      ((crossFail_unclaimed ..).trans ties)
    refine ⟨_, congrArg Host.Outcome.next ((onLive_of_live _ live).trans (commitPoll_ends works one check)), ?_, ?_, fun w mem => ?_⟩
    · rw [endCommit_waiting, commitApplied_waiting]
      rfl
    · rw [endCommit_epoch, commitApplied_epoch]
      rfl
    · rw [(committedKept_endCommit ..).pCommitted, pCommitted_commitApplied once _ mem]
  case waitsOn =>
    have check := commitCheck_waits (edge := false) (fails := f) (s := unclaimed s) claimed noLock free busy early
    exact ⟨_, congrArg Host.Outcome.next ((onLive_of_live _ live).trans (commitPoll_waits works one check)), rfl, fun _ => rfl⟩
  case factory =>
    have body := body_cmdConfigFactory_restores (r := r) (s := begun 0x0307 r s) small (by rw [begun_waiting, idle])
      (by rw [resvReady_begun, begun_nv]; exact charged) written
    refine ⟨_, exec_configFactory accepted body, (factoryRestored_base ..).trans (factoryImage_begun ..),
      (factoryRestored_epoch ..).trans (begun_epoch ..), factoryRestored_core .., fun i => ?_⟩
    rw [(committedKept_factoryRestored ..).pCommitted, (committedKept_begun ..).pCommitted]
  case factoryBusy =>
    exact exec_configFactory accepted (body_cmdConfigFactory_busy (by rwa [begun_waiting]))
  case ninth =>
    exact congrArg Host.Outcome.next (serve_done accepted (body_cmdTxnBegin_limit (.inr ((openTxns_begun ..).symm ▸ limit))))

end Sys2Proof.Machine
end

section
/-! Proofs about the checks of a request (Tables HST.10 and CMD.1, R598, R607, R669, R670), and obligation O51. The checks of Table CMD.1
are read where the core is not halted: the limits of the recovery path (R634) come before them. -/

namespace Sys2Proof.Machine

/-! ### The port (R598) -/

theorem serve_of_not_serves {d : CmdDef} {r : Req} {pl : Bytes} {s : State} (up : BusUp r.port s) (idle : serves s r.port = false) :
    serve d r pl s = setIrq r.port irqReject s := by
  simp only [serve, onPortBus_of_busUp _ up, serveUp, idle, Bool.false_eq_true, if_false]

theorem serve_of_serves {d : CmdDef} {r : Req} {pl : Bytes} {s : State} (up : BusUp r.port s) (works : serves s r.port = true) :
    serve d r pl s = serveChecked d r pl (wdKick s) := by
  simp only [serve, onPortBus_of_busUp _ up, serveUp, works, if_true]

/-! ### The answer of a check that fails -/

/-- A check of Table HST.10 that fails answers before a credit is taken. -/
theorem serveChecked_of_acceptCheck {d : CmdDef} {r : Req} {pl : Bytes} {s : State} {st : Nat} (fails : acceptCheck d.code r s = some st) :
    serveChecked d r pl s = respond r.port r.tenant r.seq st [] none false (dropPart d.code r.tenant s) := by
  simp only [serveChecked, fails]

theorem serveChecked_of_passes {d : CmdDef} {r : Req} {pl : Bytes} {s : State} (passes : acceptCheck d.code r s = none) :
    serveChecked d r pl s = runCommand d r pl (consume d.code r.tenant s) := by
  simp only [serveChecked, passes]

@[simp] theorem dropPart_clk (code n : Nat) (s : State) : (dropPart code n s).clk = s.clk :=
  (keeps_dropPart (Sub.refl _) (Keeps.refl _ s)).clk rfl

/-- A check of Table CMD.1 that fails answers as a command does: the credit comes back with the answer. -/
theorem runCommand_of_commandCheck {d : CmdDef} {r : Req} {pl : Bytes} {s : State} {st : Nat} (fails : commandCheck d r pl s = some st) :
    runCommand d r pl s = answered d.code r st [] (dropPart d.code r.tenant s) := by
  simp only [runCommand, fails, answered, dropPart_clk]

/-! ### The checks of Table HST.10 -/

theorem acceptCheck_noSession {code : Nat} {r : Req} {s : State} (own : sessionExempt code = false)
    (other : (tenant s r.tenant).session ≠ some r.port) : acceptCheck code r s = some stNoSession := by
  simp [acceptCheck, own, other]

theorem acceptCheck_notAuth {code : Nat} {r : Req} {s : State} (session : (tenant s r.tenant).session = some r.port)
    (asked : authExempt code = false) (required : (tenant s r.tenant).authReq = true) (unproven : (tenant s r.tenant).authed = false) :
    acceptCheck code r s = some stNotAuth := by
  simp [acceptCheck, session, asked, required, unproven]

/-- In its session, and authenticated where it must be, a request is refused for want of a credit only. -/
theorem acceptCheck_credit {code : Nat} {r : Req} {s : State} (own : sessionExempt code = false)
    (session : (tenant s r.tenant).session = some r.port)
    (proven : authExempt code = true ∨ (tenant s r.tenant).authReq = false ∨ (tenant s r.tenant).authed = true) :
    acceptCheck code r s = if quota s r.tenant ≤ (tenant s r.tenant).outstanding then some stNoCredit else none := by
  have authentic : (!authExempt code && (tenant s r.tenant).authReq && !(tenant s r.tenant).authed) = false := by
    rcases proven with exempt | free | authed
    · simp [exempt]
    · simp [free]
    · simp [authed]
  simp [acceptCheck, own, session, authentic]

/-! ### The checks of Table CMD.1 -/

/-- Off the recovery path nothing but Table CMD.1 decides (R634, R670). -/
theorem commandCheck_of_not_halted {d : CmdDef} {r : Req} {pl : Bytes} {s : State} (runs : s.core.run ≠ .halted) :
    commandCheck d r pl s =
      if (d.caps.all (hasCap s r.tenant) && d.allow r pl) = false then some stDenied
      else if d.len pl = false then some stBadLength
      else if d.range pl = false then some stRange
      else if d.nv = true ∧ s.core.nvReady = false then some stNvNotReady
      else if d.modes pl s.core.mode then none else some stModeForbids := by
  have off : (s.core.run == .halted) = false := beq_false_of_ne runs
  have on : (s.core.run != .halted) = true := bne_iff_ne.2 runs
  simp only [commandCheck, off, on, Bool.false_and, Bool.and_true, Bool.and_eq_true, Bool.not_eq_true', Bool.false_eq_true, if_false]
  cases d.modes pl s.core.mode <;> rfl

/-! ### The statement -/

/-- Settles O51: `serve` goes through the port to `serveChecked` and on to `runCommand`, and each check's clause is one branch of
`acceptCheck` or `commandCheck`. -/
theorem requestsCheckedInOrder : Obligations.RequestsCheckedInOrder := by
  refine fun d r pl s up => ⟨serve_of_not_serves up,
    fun works => ⟨fun st fails => ?refused, fun st passes fails => ?command⟩,
    fun own => ⟨acceptCheck_noSession own, fun session =>
      ⟨fun ⟨asked, required, unproven⟩ => acceptCheck_notAuth session asked required unproven, acceptCheck_credit own session⟩⟩,
    fun runs => ?order⟩
  case refused =>
    exact (serve_of_serves up works).trans (serveChecked_of_acceptCheck fails)
  case command =>
    calc serve d r pl s = serveChecked d r pl (wdKick s) := serve_of_serves up works
      _ = runCommand d r pl (begun d.code r s) := serveChecked_of_passes passes
      _ = answered d.code r st [] (dropPart d.code r.tenant (begun d.code r s)) := runCommand_of_commandCheck fails
  case order =>
    rw [commandCheck_of_not_halted runs]
    refine ⟨fun denied => if_pos denied, fun granted len => ?_, fun granted len range => ?_, fun granted len range => ⟨fun nv => ?_, fun nv => ?_⟩⟩
    · simp [granted, len]
    · simp [granted, len, range]
    · simp [granted, len, range, nv]
    · have ready : ¬ (d.nv = true ∧ s.core.nvReady = false) := by
        rcases nv with none_ | ready
        · simp [none_]
        · simp [ready]
      simp [granted, len, range, ready]

end Sys2Proof.Machine
end
